-- ==== Sys2Proof/Word.lean ====
section
/-! DEFINITION. The word types of the block: bytes, 32-bit register words and 128-bit accumulators
(01_architecture.md, R9 and R16). -/
namespace Sys2Proof

/-- One byte of the Mainplate or of a message. -/
abbrev Byte := BitVec 8

/-- One 32-bit host-visible register word. -/
abbrev Word := BitVec 32

/-- A 128-bit two's-complement accumulator (R16). -/
abbrev Quad := BitVec 128

end Sys2Proof
end

