-- ==== Sys2Proof/Types.lean ====
section
/-! DEFINITION. The plain-data types that the commands and the state share: register rows and fields,
commands taken from mailboxes, journal entries, the calibre image as the lanes read it, and the observations
that commands carry. -/
namespace Sys2Proof.Machine

/-- A field of a register: host address, lowest bit, width (01_architecture.md, R6). -/
structure Fld where
  addr : Nat
  lo : Nat
  len : Nat
  deriving DecidableEq, Repr

/-- One register of a register map: base host address, two strides with their counts, words per register
(4 for a 128-bit value, R9), the bits of access RW, W1C, RC and WO, the bits kept in MRAM, the reset value. -/
structure RegRow where
  base : Nat
  s1 : Nat
  n1 : Nat
  s2 : Nat
  n2 : Nat
  words : Nat
  rw : Nat
  w1c : Nat
  rc : Nat
  wo : Nat
  nv : Nat
  reset : Nat
  deriving DecidableEq, Repr


/-- A command taken from a host mailbox (R343, R344): where it came from, its header, its argument bytes, the beat
of its dequeue, whether it has been started, whether its
reply is made and waits for release (R229), and whether its interim reply has gone (R347). -/
structure Cmd where
  mbox : Nat
  port : Nat
  code : Nat
  seq : Nat
  replyAddr : Nat
  replyMax : Nat
  args : List Byte
  beat : Nat
  started : Bool
  answered : Bool
  interim : Bool
  deriving DecidableEq, Repr

/-- A fault waiting for the beat's log write, and a log entry once it has its SEQ (R423). -/
structure FaultEntry where
  beat : Nat
  code : Nat
  mono : Nat
  wall : Nat
  seq : Nat
  source : Nat
  cls : Nat
  deferred : Bool
  suppressed : Bool
  p0 : Nat
  p1 : Nat
  deriving DecidableEq, Repr

/-- A host write that waits for pallet 0 of its beat (R337): the writing port, the address, its words. -/
structure PendWrite where
  port : Nat
  addr : Nat
  data : List Word
  deriving DecidableEq, Repr

/-- A reply or device notice (R345, R346): mailbox, word 0 and word 1. -/
structure Notice where
  mbox : Nat
  lo : Nat
  hi : Nat
  deriving DecidableEq, Repr

/-- A reply that R229 holds: its beat, the message written at REPLY_ADDR and the notice. -/
structure Held where
  beat : Nat
  port : Nat
  seq : Nat
  addr : Nat
  bytes : List Byte
  notice : Notice
  /-- ISEQ of its journal record (R231), none before it has one -/
  iseq : Option Nat := none
  deriving DecidableEq, Repr

/-- A word a port's latch holds (R18, RS groups of R6). -/
structure Latch where
  port : Nat
  addr : Nat
  word : Word
  deriving DecidableEq, Repr

/-- The last time a rate-limited fault was logged: its key and the beat (R423, SUPPRESSED). -/
structure Rate where
  key : Nat
  beat : Nat
  dropped : Bool
  deriving DecidableEq, Repr

/-- A complication slice in a lane's queue (R65): kind, declared cost, latest-start beat, subject. -/
structure Comp where
  kind : Nat
  cost : Nat
  latest : Nat
  subject : Nat
  deriving DecidableEq, Repr


/-- What a completed complication slice delivers (R64): a slice of work that goes on, a meter's harmonic analysis (280 values of
U1, U2, U3, I1, I2, I3, IN, harmonics 1 to 40), the end of a TLS handshake, the progress of the background self-test. -/
inductive CompResult where
  | slice
  | harmonic (values : List Nat)
  | tlsEnd
  | selfTest (percent : Nat) (failed : Fin 32)
  deriving DecidableEq, Repr

/-- A record of the journal (R231): TYPE, KEY, ISEQ, the fields of its payload, and the data that follow them, inline or in a bulk
block that the record names by digest. -/
structure JRecord where
  type : Nat
  key : Nat
  iseq : Nat
  head : List Byte
  data : List Byte := []
  bulk : Bool := false
  deriving DecidableEq, Repr

/-- A command set as a lane sends it to the Case die (R14, R228): element L by output, drive and duty of each pilot, a bit per load channel
commanded on. -/
structure CmdSet where
  elemL : Nat := 0
  pilots : List (Nat × Nat) := []
  lc : Nat := 0
  deriving DecidableEq, Repr

/-- The four CRCs of a beat as a lane computes them (R230, R233). -/
structure BeatCrcs where
  cmd : Word := 0#32
  inc : Word := 0#32
  tot : Word := 0#32
  ses : Word := 0#32
  deriving DecidableEq, Repr

/-- A journal entry the owner still keeps (R230, R232): its JSEQ, beat and flags, the CRCs of R233 and its records. -/
structure JEntry where
  jseq : Nat
  beat : Nat
  handover : Bool
  snapshot : Bool := false
  crcs : BeatCrcs := {}
  records : List JRecord := []
  /-- the standby has received it: path M was up (R232, R235) -/
  got : Bool := false
  deriving DecidableEq, Repr

/-- The journal of the owner (R228 to R232). -/
structure JnlSt where
  /-- ISEQ of the next record, records not yet in an entry -/
  iseq : Nat := 0
  recs : List JRecord := []
  /-- what the last entry showed of the things that are journalled when they change: TYPE, KEY, payload -/
  seen : List (Nat × Nat × List Byte) := []
  /-- SEQ of the newest legal and fault log entries that records hold (R231) -/
  legalSeq : Option Nat := none
  faultSeq : Option Nat := none
  /-- the standby's latest command set, which the Case die keeps (R228) -/
  shadow : Option CmdSet := none
  /-- the standby: JSEQ of the last entry received, records received and not yet applied, its copy of the Mainplate regions that the owner writes, the last record of each TYPE
  and KEY (R228, R232) -/
  stbSeq : Option Nat := none
  inbox : List JRecord := []
  stbRam : List Host.Cell := []
  stbRecs : List JRecord := []
  /-- beat and CRCs of the last entry that the standby has received (R233) -/
  crcs : Option (Nat × BeatCrcs) := none
  deriving DecidableEq, Repr

/-- A takeover between its decision and its completion (R239): the new owner, the takeover fault, the beat of the
decision, the offset of the decision in the beat in ns. -/
structure Takeover where
  lane : Nat
  code : Nat
  beat : Nat
  at_ : Nat
  deriving DecidableEq, Repr

/-- One of the last 16 takeover records (0x0705 RED_INFO). -/
structure TakeoverRec where
  beat : Nat
  cause : Nat
  gap : Nat
  a : Nat
  jseq : Nat
  deriving DecidableEq, Repr

/-- A command of a port that waits for an event. -/
structure CmdRef where
  port : Nat
  seq : Nat
  deriving DecidableEq, Repr

/-- The result of a command (R30, R347): its code and reference, PARAM and data of its reply. -/
structure OpResult where
  code : Nat
  cmd : CmdRef
  param : Nat
  data : List Byte := []
  deriving DecidableEq, Repr

/-- What the beat's essential work shows of one lane (R57, R61, R237): the time its essential work ended and the time
its commands reached the Case die, in ns from the start of the beat, and whether its pallet checker disagreed. -/
structure LaneObs where
  essEnd : Nat
  cmdAt : Nat
  checkerBad : Bool
  deriving DecidableEq, Repr

/-- A heartbeat as it arrives (R234): the lane's beat number, its role, its JSEQ, RESIGN, and whether its CRC is right. -/
structure HeartMsg where
  beat : Nat := 0
  owner : Bool := false
  jseq : Nat := 0
  resign : Bool := false
  crcOk : Bool := true
  deriving DecidableEq, Repr

/-- The heartbeats of one lane in a beat (R234): what arrived by the start of pallet 13 on path M and on path C. -/
structure Heart where
  m : Option HeartMsg := none
  c : Option HeartMsg := none
  deriving DecidableEq, Repr

/-- An entry of the legal event log (R147). -/
structure LegalEntry where
  seq : Nat
  type : Nat
  subject : Nat
  mono : Nat
  wall : Nat
  param : Nat
  deriving DecidableEq, Repr

/-- The image's settings of an outlet that no register shows (07_outlets.md, 08_protection.md, 09_placement.md). -/
structure OutletCfg where
  /-- the outlet's meter -/
  meter : Nat := 0
  /-- outlet-side voltage channels (one per conductor; DC: one) -/
  vOut : List Nat := []
  /-- line-current channels -/
  iCh : List Nat := []
  /-- pre-contactor voltage channel (DC) -/
  vPre : Nat := 0
  /-- residual-current channel (AC) -/
  resCh : Option Nat := none
  /-- load channel that drives the residual sensor's test winding (R194) -/
  testLc : Nat := 0
  /-- TEST_MIN and TEST_MAX in 0.01 mA (R196; defaults 8 mA and 40 mA) -/
  testMin : Nat := 800
  testMax : Nat := 4000
  /-- connector temperature channels (DC) -/
  tempCh : List Nat := []
  /-- insulation-bridge channels V_p and V_n (DC) -/
  isoP : Nat := 0
  isoN : Nat := 0
  /-- outlet voltage rating in V (DC) -/
  vRating : Nat := 1000
  /-- nominal voltage Un in V of the supply phases (R187) -/
  un : Nat := 230
  /-- TT_EVSE_SLAC_init in s (R167) -/
  slacInit : Nat := 50
  /-- AUTH_TIMEOUT in s (R170) -/
  authTimeout : Nat := 60
  /-- SUSPEND_OPEN in s (R176) -/
  suspendOpen : Nat := 60
  /-- RETRY_DELAY in s (R202) -/
  retryDelay : Nat := 60
  /-- tariff programme of a session that the host gives none -/
  prog : Nat := 0
  /-- protocols of R168 enabled for the outlet: 2 DIN SPEC 70121, 3 ISO 15118-2, 4 ISO 15118-20 -/
  protos : List Nat := []
  /-- RAMP of SETPOINT in 0.1 A/ms (R181) -/
  ramp : Nat := 0
  /-- power rating of a DC outlet in 0.1 kW (PMAX_OUT of R210) -/
  pMax : Nat := 0
  deriving DecidableEq, Repr

/-- A CAN controller as the image sets it (R180): nominal and data bit rate in kbit/s, 29-bit identifier base. -/
structure CanCfg where
  nominal : Nat := 1000
  data : Nat := 5000
  base : Nat := 0
  deriving DecidableEq, Repr

/-- A pilot: what is commanded and what the converter has seen (R158 to R163). -/
structure PilotSt where
  /-- duty of the period in progress in 0.01 %: its falling edge comes that many steps of 100 ns after its start (R158, R159) -/
  duty : Nat := 0
  /-- the outlet's state is to be recognised again since the Obrik drove F or high impedance (R166, R167) -/
  anew : Bool := false
  /-- commanded drive (coded as OUT.On_STATE.DRIVE) and duty in 0.01 % (R159); the beat of the host command that decided them (R229) -/
  cmdDrive : Nat := 2
  cmdDuty : Nat := 0
  byOwner : Option Nat := none
  /-- drive and duty of the command set that the Case die applied last (R14): they start with the next period (R159) -/
  setDrive : Nat := 2
  setDuty : Nat := 0
  /-- band of the last plateau and consecutive periods in it (R160) -/
  cand : Nat := 0
  cnt : Nat := 0
  /-- last recognised band (0 A to 4 E); PILOT_ST also shows INVALID -/
  band : Nat := 0
  /-- consecutive periods with a low plateau out of its band (R161) -/
  low : Nat := 0
  /-- beat at which a 4 s hold of state F ends, and whether SLAC asked for it (R161, R167) -/
  fEnd : Option Nat := none
  fSlac : Bool := false
  /-- beat in which state B was last recognised (R163, R166) -/
  bBeat : Nat := 0
  deriving DecidableEq, Repr

/-- The proximity contact (R164): class of the last reading (0 no plug, 1 to 4 the ratings 13, 20, 32, 63 A,
5 invalid), equal readings in sequence, and consecutive invalid readings. -/
structure ProxSt where
  cand : Nat := 0
  cnt : Nat := 0
  inv : Nat := 0
  accepted : Nat := 0
  deriving DecidableEq, Repr

/-- The message with which the EVSE side of SLAC answers (R165): CM_SLAC_PARAM.CNF, CM_ATTEN_CHAR.IND with the mean attenuation so far in
dB, CM_SLAC_MATCH.CNF with the network membership key. -/
inductive SlacMsg where
  | paramCnf (runId : Nat)
  | attenChar (runId atten : Nat)
  | matchCnf (runId nmk : Nat)
  deriving DecidableEq, Repr

/-- What a V2G segment of the Obrik carries (R168, R171, R176, R177): a response, the refusal of an authorisation, the response to a
SessionStop, the answer to a supportedAppProtocolReq that names no protocol it runs. -/
inductive V2gKind where
  | response | refusal | sessionStop | noProtocol
  deriving DecidableEq, Repr

/-- The cipher suites, key-exchange groups and signatures that the table of R168 names. -/
inductive TlsSuite where
  | ecdheEcdsaAes128CbcSha256 | ecdhEcdsaAes128CbcSha256 | aes256GcmSha384
  deriving DecidableEq, Repr
inductive TlsGroup where
  | secp256r1 | secp521r1 | x448
  deriving DecidableEq, Repr
inductive TlsSig where
  | ecdsaSecp256r1Sha256 | ecdsaSecp521r1Sha512 | ed448
  deriving DecidableEq, Repr

/-- What a ClientHello offers of them, in the vehicle's order of preference (R168). -/
structure TlsOffer where
  tls13 : Bool := false
  suites : List TlsSuite := []
  groups : List TlsGroup := []
  sigs : List TlsSig := []
  deriving DecidableEq, Repr

/-- A load channel's current in µA and VAUX in mV, as the open-load monitor holds them (R279). -/
structure OpenObs where
  iUa : Nat
  vauxMv : Nat
  deriving DecidableEq, Repr

/-- A value that a host port writes into a field of some bits. -/
structure PortWrite (w : Nat) where
  port : Fin 2
  val : BitVec w
  deriving DecidableEq, Repr

/-- A motion-works channel, and the port that writes it if it is a host's (R361). -/
structure PortChan where
  port : Fin 2
  n : Fin 16
  deriving DecidableEq, Repr

/-- What a handshake settles on (R168). -/
structure TlsChoice where
  suite : TlsSuite
  group : TlsGroup
  sig : TlsSig
  deriving DecidableEq, Repr

/-- A V2G message sent and not yet acknowledged (R171): its number in the TCP stream, EVSEProcessing Ongoing, EVSENotification of a stop. -/
structure V2gSeg where
  kind : V2gKind
  seq : Nat
  ongoing : Bool
  notify : Bool
  /-- ISEQ of its journal record (R231), none before it has one; whether it has left (R229) -/
  iseq : Option Nat := none
  out : Bool := false
  deriving DecidableEq, Repr

/-- SLAC and the V2G link of an outlet (R165 to R171). -/
structure LinkSt where
  /-- the last SLAC message sent (R165); one that rests on a draw waits with the ISEQ of the draw's record (R229) -/
  slacOut : Option SlacMsg := none
  slacWait : Option (SlacMsg × Nat) := none
  /-- TCP (R171): number of the next segment, segments sent and not acknowledged, those that a takeover sent again -/
  tcpSeq : Nat := 0
  segs : List V2gSeg := []
  resent : List V2gSeg := []
  /-- the vehicle has paused by PowerDelivery stop (R176); the contract's chain verified (R172, R173) -/
  paused : Bool := false
  contract : Bool := false
  /-- dynamic control mode, and a renegotiated schedule (ISO 15118-20, R168) -/
  dynamic : Bool := false
  renegotiated : Bool := false
  /-- RunID of the matching in progress -/
  runId : Nat := 0
  /-- first failure of SLAC has happened (R167) -/
  failedOnce : Bool := false
  /-- sounds received and the sum of their attenuation in dB -/
  sounds : Nat := 0
  attenSum : Nat := 0
  /-- beat from which TT_EVSE_SLAC_init runs -/
  slacBeat : Nat := 0
  /-- network membership key of the match: the free value drawn for it -/
  nmk : Nat := 0
  /-- timer of R170 that runs (3 set-up, 4 sequence; 0 none) and its deadline beat; deadline of the CPState timer -/
  timer : Nat := 0
  deadline : Nat := 0
  cpEnd : Option Nat := none
  /-- what the TLS handshake settled on (R168) -/
  tls : Option TlsChoice := none
  /-- a TLS handshake: beat of its ClientHello, and whether a public-key step was admitted -/
  tlsBeat : Option Nat := none
  tlsAdmitted : Bool := false
  /-- a certificate exchange waits on V2G_CERT_REPLY; its answer, once given -/
  waitsCert : Bool := false
  certReply : Option Nat := none
  /-- EVSENotification of a stop is due in the next response (R177) -/
  notifyStop : Bool := false
  /-- energy requested by PowerDelivery start (R176); PowerDelivery stop answered (R177) -/
  wantsEnergy : Bool := false
  stopAnswered : Bool := false
  /-- a bidirectional service is selected (R217) -/
  bpt : Bool := false
  /-- the vehicle's maximum voltage, target voltage (0.1 V) and target current (0.1 A), 0 when not given -/
  vMax : Nat := 0
  vTarget : Nat := 0
  iTarget : Int := 0
  /-- the last response had EVSEProcessing Ongoing; isolation status it reported (R188); EVSENotification sent; responses
  sent so far -/
  ongoing : Bool := false
  isoSent : Nat := 3
  notified : Bool := false
  responses : Nat := 0
  deriving DecidableEq, Repr

/-- A close in progress (R187 to R189). -/
structure CloseSt where
  /-- 0 none, 1 self-test and pre-checks, 2 energise in the next beat, 3 waits for AUX, 4 proving, 5 DC CableCheck,
  6 DC PreCharge, 7 voltage match of R189, 8 deferred weld test of R192 -/
  step : Nat := 0
  beat : Nat := 0
  /-- residual self-test (R196): 0 none, 1 driven, 2 released, 3 passed, 4 failed; its start beat -/
  test : Nat := 0
  testBeat : Nat := 0
  /-- I_DC stayed within TEST_MIN to TEST_MAX in the last 400 driven beats -/
  testOk : Bool := true
  /-- consecutive beats with every outlet-side magnitude below 30 V (R187 step 2) -/
  quiet : Nat := 0
  /-- consecutive beats of a voltage match (R189) or of the deferred test (R192) -/
  run : Nat := 0
  /-- beat in which both AUX read 1 -/
  auxBeat : Nat := 0
  /-- whether the meter has ended the cycle in progress when AUX came, then a whole one -/
  cycles : Nat := 0
  deriving DecidableEq, Repr

/-- An opening and its weld proof (R190 to R192). -/
structure WeldSt where
  active : Bool := false
  t0 : Nat := 0
  /-- line current flowed at t0 -/
  load : Bool := false
  /-- AC: the first beat after the last sample of 30 V or more, or AUX of 1, before the window was complete; under load the last expected
  current zero z, and such a sample inside the window that begins at z + 3 -/
  win : Nat := 0
  z : Nat := 0
  bad : Bool := false
  /-- beats from t0 to the fall of each AUX -/
  fall1 : Option Nat := none
  fall2 : Option Nat := none
  /-- largest outlet-side magnitude in the window, in V -/
  vMax : Nat := 0
  /-- DC: the pre-contactor voltage and the outlet voltage are below 60 V; both were in one beat within 100 ms, with both AUX 0 -/
  preLow : Bool := false
  outLow : Bool := false
  both : Bool := false
  deriving DecidableEq, Repr

/-- Residual current, insulation, overcurrent and holds of an outlet (R194 to R204). -/
structure ProtSt where
  /-- counters of the trip curve and beats below each level (R195) -/
  cntDc : List Nat := [0, 0, 0, 0, 0, 0, 0, 0]
  cntAc : List Nat := [0, 0, 0, 0, 0, 0, 0, 0]
  lowDc : List Nat := [0, 0, 0, 0, 0, 0, 0, 0]
  lowAc : List Nat := [0, 0, 0, 0, 0, 0, 0, 0]
  /-- points of the curves that reached their t_k and have not tripped the outlet yet: bit k DC, bit 8 + k AC (R195, R206) -/
  trips : Nat := 0
  /-- beats in sequence with I_DC below 3 mA (R197) -/
  calm : Nat := 0
  /-- an RDC_TEST command waits for the self-test -/
  testCmd : Option CmdRef := none
  /-- insulation dwell: 0, 1 (P), 2 (0), 3 (N); the beat in which it began; sums of V_p and V_n and samples in its last 40 %; averages of
  V_p and V_n in state 0; 2^-40 V -/
  dwell : Nat := 0
  dwellBeat : Option Nat := none
  sumP : Int := 0
  sumN : Int := 0
  cntV : Nat := 0
  vp0 : Int := 0
  vn0 : Int := 0
  /-- poles measured since the pair closed: bit 0 R_p, bit 1 R_n (R199) -/
  poles : Nat := 0
  /-- last poles in kΩ, whole cycles run, results below FAULT and results at or above WARN in sequence (R198, R199) -/
  rp : Option Nat := none
  rn : Option Nat := none
  isoCycles : Nat := 0
  isoBad : Nat := 0
  isoGood : Nat := 0
  /-- the outlet voltage was within 5 % of V_CC at every dwell end of the cycle in progress (R188) -/
  isoIn : Bool := false
  /-- consecutive beats of the fast checks (R200), of each AUX (R186) and of invalid samples of each supervised channel (R204); whether the
  present episode of either has been raised -/
  oc : Nat := 0
  ov : Nat := 0
  aux1 : Nat := 0
  aux2 : Nat := 0
  auxSaid : Bool := false
  blind : List Nat := []
  blindSaid : Bool := false
  /-- beats above the slow limit and whether OC_SLOW_T has passed (R200); the DC mean over 800 beats: its sum and count; beats below T_TRIP - 10 K -/
  slow : Nat := 0
  slowDue : Bool := false
  iSum : Int := 0
  iCnt : Nat := 0
  cool : Nat := 0
  /-- beat in which a hold began and in which the thermal latch set (R202, R203) -/
  holdBeat : Nat := 0
  holdLatch : Bool := false
  latchBeat : Nat := 0
  /-- 0x5211 was raised for this session (R187) -/
  supplyOut : Bool := false
  /-- the pair is de-energised at the next pallet 10 (R190) -/
  openReq : Bool := false
  /-- the beat of the host command that asked for that opening (R229), none where both lanes decided it -/
  openBy : Option Nat := none
  deriving DecidableEq, Repr

/-- Everything of an outlet that no register shows. -/
structure OutSt where
  cfg : OutletCfg := {}
  pilot : PilotSt := {}
  prox : ProxSt := {}
  link : LinkSt := {}
  close : CloseSt := {}
  weld : WeldSt := {}
  prot : ProtSt := {}
  /-- identity and decision bound to the next plug-in (R174): mode, identity, account, end beat -/
  preauth : Option (Nat × List Byte × Nat × Nat) := none
  /-- SETPOINT in force for the outlet's target (R181): mode, V_SET 0.1 V, I_SET 0.1 A, P_LIM 0.1 kW -/
  setMode : Nat := 0
  setV : Nat := 0
  setI : Int := 0
  setP : Nat := 0
  /-- the last SETPOINT carries REISSUE; SEQ_ECHO last seen; beat of the last valid STATUS; beat since when lagging -/
  reissue : Bool := false
  seqEcho : Nat := 0
  statusBeat : Option Nat := none
  lagBeat : Option Nat := none
  lost : Bool := false
  /-- last values of STATUS: V_OUT, I_OUT, P_AVAIL, T_MAX, MFAULT -/
  vOut : Nat := 0
  iOut : Int := 0
  pAvail : Nat := 0
  tMax : Int := 0
  mFault : Nat := 0
  /-- currents in force and the beats they came into force, newest first, back to 5 s ago, in 0.1 A (R200) -/
  iRefs : List (Nat × Nat) := []
  /-- a vehicle plugged in while the session before it was still stopping (R161, R175) -/
  plugWait : Bool := false
  /-- current that placement allows an AC outlet (R212), and the current in force (R162), in µA -/
  allocI : Nat := 0
  allowUa : Nat := 0
  /-- the 16 bytes of the last SETPOINT frame of the outlet's target and its identifier (R181) -/
  frame : List Byte := []
  frameId : Nat := 0
  /-- beat at which the session was last suspended (SUSPEND_OPEN) -/
  suspBeat : Nat := 0
  deriving DecidableEq, Repr

/-- A session context beside its registers (R175 to R179). -/
structure SesSt where
  /-- start and end snapshot, q = 0 to 10 -/
  start : List Int := []
  endSnap : List Int := []
  endMono : Nat := 0
  endWall : Nat := 0
  /-- identity and EVCCID, as the vehicle or the host sent them -/
  ident : List Byte := []
  evcc : List Byte := []
  /-- flags of the billing record (R178) and END_FAULT -/
  flags : Nat := 0
  endFault : Nat := 0
  /-- SES_COLLECT has been answered (R179) -/
  collected : Bool := false
  /-- order in which contexts entered BILLED -/
  billed : Nat := 0
  /-- deadline beat of AUTHORISING -/
  authEnd : Nat := 0
  /-- stop sequence (R177): path 0 none, 1 AC basic, 2 V2G, 3 DC, 4 at once; step; beat of the decision; committed -/
  path : Nat := 0
  stopBeat : Nat := 0
  committed : Bool := false
  /-- beat of ENDED -/
  endBeat : Nat := 0
  /-- the state the session held when its stop was decided; reason and fault code of the first other stop that joined a SES_STOP (R177) -/
  before : Nat := 0
  joined : Option (Nat × Nat) := none
  /-- the SES_STOP command that waits for ENDED -/
  stopCmd : Option CmdRef := none
  /-- the billing record as written (R178) -/
  record : List Byte := []
  /-- host limits of SES_LIMITS: they act from the next round -/
  hostLimits : Bool := false
  /-- placement of the session (09_placement.md): last request, least current, last lowered beat, allocation -/
  minOffEnd : Nat := 0
  lowered : Nat := 0
  follow : Int := 0
  minOff : Bool := false
  /-- remainder of COST (R155) -/
  costRem : Int := 0
  /-- beat of the plug-in that a pre-authorisation accepts (R174) -/
  preBeat : Option Nat := none
  /-- requested energy of the vehicle and of the host, 0.1 kWh, 0xFFFF for none -/
  eVeh : Nat := 0xFFFF
  eHost : Nat := 0xFFFF
  /-- steady +12 V stands since the stop (R177) -/
  plain : Bool := false
  deriving DecidableEq, Repr

/-- A V2G request message as the Obrik reads it (R168 to R171, R176, R188). Powers in 0.1 kW, energies in 0.1 kWh, voltages
in 0.1 V, currents in 0.1 A, departure in minutes after START. -/
inductive V2gMsg where
  | sessionSetup (evccid : List Byte)
  | service (bpt dynamic : Bool)                          -- service selection; AC_BPT or DC_BPT; dynamic control mode
  | authEim                                               -- Authorization request, external identification
  | authPnc (emaid : List Byte) (chainOk : Bool)          -- Authorization request with Plug & Charge
  | certificate                                           -- CertificateInstallation or CertificateUpdate
  | chargeParams (vMax eReq depart : Nat)
  | cableCheck
  | preCharge (v : Nat)
  | powerStart
  | current (v : Nat) (i : Int)                           -- CurrentDemand, DC charge loop
  | powerStop
  | renegotiate (eReq depart : Nat)                       -- schedule renegotiation
  | sessionStop
  | other
  deriving DecidableEq, Repr

/-- A load channel beside its registers (12_load_channels.md). -/
structure LcSt where
  /-- commanded change that waits for pallet 10 (R272) -/
  pend : Option Bool := none
  /-- clamp events of the last 40 000 beats: beat and energy in 0.1 mJ (R277) -/
  clamps : List (Nat × Nat) := []
  /-- beat at which a retry falls due (R275, R276) and beat since which the channel is on -/
  due : Nat := 0
  onBeat : Nat := 0
  /-- thermal cycle: lowest and highest temperature since the last turn, in 0.1 °C, and whether a rise has counted -/
  tLow : Int := 0
  tHigh : Int := 0
  rising : Bool := false
  /-- reported as stuck (R280), until LCH_CLEAR or a command to turn on -/
  stuck : Bool := false
  /-- voltage in µV up to which SLEW has let the output rise since the turn-on, none without a ramp (R273) -/
  ramp : Option Nat := none
  /-- beat and command of the last LCH_CLEAR that released it (R285) -/
  cleared : Option (Nat × CmdRef) := none
  deriving DecidableEq, Repr

/-- A motor run of a half-bridge pair (R281). -/
structure RunSt where
  /-- the LCH_MOTOR command that waits for the end, and one that stops the run -/
  cmd : Option CmdRef := none
  stop : Option CmdRef := none
  /-- mode commanded for the next command set: 1 FORWARD, 2 REVERSE, 3 a stop; the beat of the decision (R229, R272) -/
  want : Nat := 0
  wantBeat : Nat := 0
  start : Nat := 0
  tRun : Nat := 0
  /-- beat at which braking began -/
  brake : Nat := 0
  deriving DecidableEq, Repr

/-- A safety function beside its registers (R255 to R259). -/
structure FnSt where
  /-- beat since which the two channels are inconsistent, and since which the paths disagree -/
  incons : Option Nat := none
  disagree : Option Nat := none
  /-- beat at which its RESET button was pressed (R258) -/
  press : Option Nat := none
  /-- beat since which a GUARD_LOCK's lock reads locked with the door open (R259) -/
  lockOpen : Option Nat := none
  /-- fault conditions present: bits 0 and 3 the input tests of the first and the second channel, bits 1 and 4 their sources, bit 2 the
  paths (R257, R263) -/
  cond : Nat := 0
  /-- beat since which both channels show demand (R258, FAULT to STOPPED) -/
  bothSince : Option Nat := none
  deriving DecidableEq, Repr

/-- The latest samples of a safety input, newest first, one each 50 µs: `at_` is the place of the newest in the 20 ms period of the test-pulse
sources, which has 400 of them (R255, R257). -/
structure SiRun where
  at_ : Nat
  levels : List Bool
  deriving DecidableEq, Repr

/-- An entry of the safety change log (R267). -/
structure SafLog where
  seq : Nat
  type : Nat
  actor : Nat
  world : Nat
  mono : Nat
  wall : Nat
  oldVer : Nat
  newVer : Nat
  digest : Nat
  deriving DecidableEq, Repr

/-- A sample frame as it arrives on a sample link (R79): the CRC check, BEAT, STATUS[15:14], VALID by channel, the codes
before the clip of R75 (channel order; absent ones 0), the companion codes and RANGE by slot, DIAL_T in 0.1 °C, and the
codes of the modulators that a swing-in compares, by modulator (R87). -/
structure Frame where
  crcOk : Bool := true
  beat : Nat := 0
  accLost : Bool := false
  valid : Nat := 0
  prim : List Int := []
  comp : List Int := []
  range : Nat := 0
  dialT : Int := 0
  spare : List (Nat × Int) := []
  deriving DecidableEq, Repr

/-- A calibration of a modulator (R82, R90): offset in 2^-8 code, gain in 2^-24 and noise in 2^-8 code RMS at each of the
six gains, the noise at gain 1 in 0.01 µV, and whether offset, gain and noise lie within their limits. -/
structure ModCal where
  k : Nat
  trims : List (Int × Int × Nat)
  noise : Nat
  inLimits : Bool
  deriving DecidableEq, Repr

/-- What START_ORDER brings (R41 steps 9 and 11, R42): the calibrations of step 9, the reference differences of its comparison in 0.1 ppm
(R96), and the digest that each lane's start order carries, where it sends one. -/
structure StartObs where
  cals : List ModCal
  refs : Int × Int
  orderA : Option Nat
  orderB : Option Nat
  deriving DecidableEq, Repr

/-- What reading back brings after a commit record (R35): the record is right, and the slot's image is read and its digest holds (R40). -/
structure CommitObs where
  ok : Bool
  readOk : Bool
  deriving DecidableEq, Repr

/-- A swing-in (R86 to R93). -/
structure Swing where
  chan : Nat
  high : Bool
  spare : Nat
  old : Nat
  /-- beat s of the step table, and where it stands: 1 steps 1 to 4, 2 the spare is calibrated after a failed
  comparison, 3 steps 6 to 8, 4 the emergency swing of R91 -/
  start : Nat
  stage : Nat
  /-- the second comparison (R89) -/
  second : Bool := false
  /-- Σe, Σe², Σ spare × own, Σ own², counted beats and overload beats of R88 -/
  sumE : Int := 0
  sumEE : Nat := 0
  sumSO : Int := 0
  sumOO : Nat := 0
  counted : Nat := 0
  above : Nat := 0
  cmd : Option CmdRef := none
  deriving DecidableEq, Repr

/-- A swing-in that waits: by command (R93), to be retried at a MONO second (R88), or, where `next`, after the next start (R93). -/
structure SwingWait where
  chan : Nat
  high : Bool
  at_ : Nat
  cmd : Option CmdRef
  next : Bool := false
  deriving DecidableEq, Repr

/-- A known-state measurement (R94). -/
structure KsWin where
  chan : Nat
  sum : Int := 0
  count : Nat := 0
  cmd : Option CmdRef := none
  deriving DecidableEq, Repr

/-- A bitstream input's stuck record (0x3004): last stuck beat, stuck beats in sequence, fault held. -/
structure IbSt where
  last : Nat := 0
  run : Nat := 0
  held : Bool := false
  deriving DecidableEq, Repr

/-- A capture in progress (0x0306). -/
structure Capture where
  chans : List Nat
  left : Nat
  addr : Nat
  cmd : CmdRef
  deriving DecidableEq, Repr

/-- A channel's correction (R101 to R107): volts or amperes per code in 2^-40 (log entry 13), the sign of its positive
direction (R99), four bands of eight breakpoints (B, G, D), the values in force, the last trimmed samples (newest first,
8 of them), the corrected samples (newest first, in 2^-40 V or A), the same with the last valid one for each invalid one (R204), the sums of the cycle in progress, the RMS of the
previous cycle, and whether a cycle has ended. -/
structure ChanSt where
  scale : Nat := 0
  neg : Bool := false
  bands : List (List (Nat × Int × Int)) := []
  g : Int := 0
  d : Int := 0
  hist : List Int := []
  corr : List Int := []
  held : List Int := []
  sumSq : Nat := 0
  rms : Nat := 0
  ended : Bool := false
  lastOk : Int := 0
  deriving DecidableEq, Repr

/-- A meter (R99 to R118) beside its registers. -/
structure MeterSt where
  /-- image: voltage and line-current channels, neutral, R_cab in µΩ, nominal peak of the reference in 2^-40 V -/
  vCh : List Nat := []
  iCh : List Nat := []
  nCh : Option Nat := none
  rCab : Nat := 0
  vPeak : Nat := 0
  /-- registering (R43); armed (R105); beat and instant in 2^-6 beat of the last recognised crossing -/
  reg : Bool := false
  armed : Bool := false
  prevRef : Int := 0
  crossBeat : Nat := 0
  crossAt : Nat := 0
  /-- beats of the cycle in progress and of the previous one -/
  n : Nat := 0
  nPrev : Nat := 0
  ended : Bool := false
  substRun : Nat := 0
  /-- pending registers of the pairs legal, raw, charge, reactive (R110, R111) -/
  pend : List Int := [0, 0, 0, 0]
  /-- rounding remainders in 2^-32 quantum: legal, raw, charge, reactive, S_IMP, F_IMP, I2H, S_EXP, F_EXP (R109) -/
  rem : List Int := [0, 0, 0, 0, 0, 0, 0, 0, 0]
  /-- signed increments of the last beat in 2^-32 quantum: legal, raw, charge, reactive, S, F, I2H (R62) -/
  last : List Int := [0, 0, 0, 0, 0, 0, 0]
  /-- sums of the cycle's increments of the four pairs, and those of the previous cycle (the sign and size of P̄, Q̄) -/
  sums : List Int := [0, 0, 0, 0]
  bar : List Int := [0, 0, 0, 0]
  /-- squares and sums of the cycle per voltage and per current -/
  v2 : List Nat := [0, 0, 0]
  i2 : List Nat := [0, 0, 0, 0]
  v1 : List Int := [0, 0, 0]
  i1 : List Int := [0, 0, 0, 0]
  /-- Σ U_p I_p and P1 of the previous cycle in 2^-80 VA and W, and the samples of the cycle for P1 (newest first) -/
  sPrev : Nat := 0
  fPrev : Int := 0
  vs : List (List Int) := [[], [], []]
  is : List (List Int) := [[], [], []]
  /-- sums of the cycle for the class B conditions of R150: v i of each phase, squares of the line-to-line voltages, the square of
  i1 + i2 + i3 − iN − iΔ -/
  pw : List Int := [0, 0, 0]
  ll2 : List Nat := [0, 0, 0]
  by2 : Nat := 0
  /-- cycles in sequence in which a class B condition held, or was absent, by 3 × kind + phase (R150) -/
  tbOn : List Nat := List.replicate 9 0
  tbOff : List Nat := List.replicate 9 0
  /-- growth of the quantities in the last beat, in the cycle in progress and in the previous cycle -/
  growth : List Nat := [0, 0, 0, 0, 0, 0, 0, 0, 0, 0, 0]
  cycGrow : List Nat := [0, 0, 0, 0, 0, 0, 0, 0, 0, 0, 0]
  prevGrow : List Nat := [0, 0, 0, 0, 0, 0, 0, 0, 0, 0, 0]
  /-- a cycle ended in the last beat -/
  newCycle : Bool := false
  lateCycle : Bool := false
  deriving DecidableEq, Repr

/-- A pulse output (R119 to R121): input u and correction δ in 2^-32 quantum per beat, the sum of u + δ over the cycle,
the accumulator times C, pulses due (instants in 100 ns), the start of the last pulse, the output level and the end. -/
structure PulseSt where
  u : Int := 0
  delta : Int := 0
  sumIn : Int := 0
  acc : Int := 0
  due : List Nat := []
  lastStart : Nat := 0
  active : Bool := false
  endAt : Nat := 0
  deriving DecidableEq, Repr

/-- A sliding sub-interval (R140): its MONO duration, its energies by meter × 2 + quantity, INCOMPLETE. -/
structure SubInt where
  dur : Nat
  nominal : Nat
  energy : List Nat
  incomplete : Bool
  deriving DecidableEq, Repr

/-- A full record (R123): its sequence number, the beats metered up to it, its MONO, whether its CRC is good, and the values of that
beat: totals, snapshots, pending registers and remainders by meter, pulse residues, CONSUMED, and the tariff
registers and interval energies that sum to the totals (R137). -/
structure SaveRec where
  seq : Nat := 0
  beat : Nat := 0
  mono : Nat := 0
  good : Bool := true
  totals : List Nat := List.replicate 352 0
  snaps : List Nat := List.replicate 352 0
  pends : List (List Int) := List.replicate 32 [0, 0, 0, 0]
  rems : List (List Int) := List.replicate 32 [0, 0, 0, 0, 0, 0, 0, 0, 0]
  residues : List Int := [0, 0, 0, 0]
  consumed : List Nat := List.replicate 16 0
  /-- tariff registers, energies of the demand interval in progress, the MONO at which it began, the sub-intervals of the window (R140) -/
  treg : List (Nat × Nat) := []
  demE : List Nat := List.replicate 64 0
  demMono : Nat := 0
  subs : List SubInt := []
  deriving DecidableEq, Repr

/-- A delta record (R123): the sequence number of its full record, the beats metered up to it, its MONO, whether its CRC is good, the
presence bitmap, the signed 64-bit changes of the totals, pending registers, remainders, residues and CONSUMED values it holds, the new
values of the snapshots it holds, and the legal registers that R137 and R140 build on the totals. -/
structure DeltaRec where
  seq : Nat := 0
  beat : Nat := 0
  mono : Nat := 0
  good : Bool := true
  present : Nat := 0
  changes : List Int := []
  snaps : List Nat := []
  treg : List (Nat × Nat) := []
  demE : List Nat := List.replicate 64 0
  demMono : Nat := 0
  subs : List SubInt := []
  deriving DecidableEq, Repr

/-- The start or end of daylight saving (R138): month, week (5 the last), weekday (1 Monday to 7 Sunday), minutes. -/
structure DstRule where
  month : Nat := 1
  week : Nat := 1
  weekday : Nat := 7
  minute : Nat := 0
  deriving DecidableEq, Repr

/-- A time-of-use programme (R138): seasons (month, day, profile per weekday from Monday), day profiles of switch
points (minute, register), special days (year or none, month, day, profile), fallback register, prices per register in
2^-16 minor unit per kWh, the local time rule in minutes. -/
structure Prog where
  seasons : List (Nat × Nat × List Nat) := []
  profiles : List (List (Nat × Nat)) := []
  special : List (Option Nat × Nat × Nat × Nat) := []
  fallback : Nat := 0
  prices : List Nat := []
  std : Int := 0
  dst : Int := 0
  dstStart : DstRule := {}
  dstEnd : DstRule := {}
  deriving DecidableEq, Repr

/-- The last closed demand value of a meter and quantity (LGL.DEM_LAST, LGL.DEM_FLAGS). -/
structure DemVal where
  demand : Nat := 0
  reg : Nat := 0
  incomplete : Bool := false
  adj : Bool := false
  valid : Bool := false
  deriving DecidableEq, Repr

/-- A billing record (R141): flags bit 0 OUTAGE, bit 1 closed by command; the records of its meters as bytes. -/
structure BillRec where
  index : Nat
  mono : Nat
  wall : Nat
  flags : Nat
  mask : Nat
  body : List Byte
  deriving DecidableEq, Repr

/-- A class B tamper record (R150). -/
structure TbRec where
  seq : Nat
  meter : Nat
  kind : Nat
  phase : Nat
  startMono : Nat
  startWall : Nat
  endMono : Nat
  endWall : Nat
  energy : Nat
  isOpen : Bool
  deriving DecidableEq, Repr

/-- A token that has passed its checks and waits for its account record (R154). -/
structure TokPend where
  acct : Nat
  tid : Nat
  cls : Nat
  sub : Nat
  amount : Nat
  keypad : Bool
  cmd : Option CmdRef
  deriving DecidableEq, Repr

/-- An account record in the legal MRAM area (R154): its sequence number, K ascending, ADDED, CLEARED, LOW, MAX, and the CRC-32 over
them. -/
structure AcctRec where
  seq : Nat
  k : List Nat
  added : Nat
  cleared : Int
  low : Nat
  max : Nat
  crc : Nat
  deriving DecidableEq, Repr

/-- A credit account beside its registers (R154, R155): K ascending, ADDED and CLEARED in MQ, the remainder of CONSUMED,
whether LOW and MAX come from a token, the sequence number of the last record and the two copies of the account record, written in turn. -/
structure AcctSt where
  k : List Nat := []
  added : Nat := 0
  cleared : Int := 0
  rem : Int := 0
  lowTok : Bool := false
  maxTok : Bool := false
  seq : Nat := 0
  copies : List (Option AcctRec) := [none, none]
  deriving DecidableEq, Repr

/-- What the legal field of the panel shows (R132, R153, R289). -/
inductive LegalShow where
  | reading                    -- the ordinary legal content
  | fwId                       -- LF and GLB.LEGAL_FW_ID
  | fwSum                      -- CS and GLB.LEGAL_FW_SUM
  | balance (acct : Nat)
  | register                   -- active register of the site meter and the local time
  | token (result : Nat)       -- result code of R153
  | segments                   -- all segments (test token)
  deriving DecidableEq, Repr

/-- A battery converter as a CAN target (R180, R215): its controller and k, what is commanded (as for an outlet), the last
SETPOINT and STATUS, and the data of PLACE_BATTERY. -/
structure ConvSt where
  target : Option (Nat × Nat) := none
  setMode : Nat := 0
  setV : Nat := 0
  setI : Int := 0
  setP : Nat := 0
  seq : Nat := 0
  reissue : Bool := false
  frame : List Byte := []
  frameId : Nat := 0
  seqEcho : Nat := 0
  statusBeat : Option Nat := none
  lagBeat : Option Nat := none
  lost : Bool := false
  state : Nat := 0
  vOut : Nat := 0
  iOut : Int := 0
  pAvail : Nat := 0
  tMax : Int := 0
  mFault : Nat := 0
  soc : Nat := 0
  chLim : Nat := 0
  disLim : Nat := 0
  deriving DecidableEq, Repr

/-- A partner device beside its GOV.REG_Pk registers (R223 to R225): beat of its last report, MONO second of its earliest
departure, the share that still counts while a lowering waits for its acknowledgement, the beat from which it waits, a
raised share that is not yet sent, and the share last sent with its beat. -/
structure PartnerSt where
  report : Nat := 0
  depart : Option Nat := none
  oldShare : Nat := 0
  wait : Option Nat := none
  raise : Option Nat := none
  sent : Nat := 0
  sentBeat : Nat := 0
  deriving DecidableEq, Repr

/-- One taker of the algorithm of R214: a session (key below 128) or, at a share period start, a partner (128 + k); its
class, departure, tie rank, whether it is a DC session, ceiling, minimum and need, its allocation in W. -/
structure PlItem where
  key : Nat
  cls : Nat
  dep : Option Nat
  tie : Nat
  dc : Bool
  c : Int
  m : Int
  n : Int
  a : Int := 0
  starved : Bool := false
  /-- ΣU of an AC session in mV (R210) -/
  su : Nat := 0
  deriving DecidableEq, Repr

/-- A computed round that waits for its apply beat (R207): items with their allocations, the chosen outlet of R219, the
battery setpoint, B_dis of the islanded case, and the values of the registers. -/
structure PlRound where
  round : Nat := 0
  /-- values of the registers that show the round from the apply beat on -/
  shown : List Nat := []
  items : List PlItem := []
  lastResort : Option Nat := none
  bat : Int := 0
  batDis : Int := 0
  batOn : Bool := false
  pool : Int := 0
  pSite : Int := 0
  lBase : Int := 0
  pPv : Int := 0
  pBat : Int := 0
  /-- R220 holds for the round; the round is one at a share period start -/
  exportBad : Bool := false
  period : Bool := false
  deriving DecidableEq, Repr

/-- A site-line message that waits to be sent, is being sent, or waits for its acknowledgement (R323, R328, R329):
destination, MTYPE, payload in the OFDM form, MSEQ, the command that waits for it, times it has been sent, beat and length
of the last sending, routes tried (R323) with their first hops; for a forwarded message its ORIGIN and BOOT; on beat
signalling the phases still to send on and its SEQ. -/
structure SitMsg where
  dst : Nat
  mtype : Nat
  payload : List Byte
  mseq : Nat := 0
  cmd : Option CmdRef := none
  tries : Nat := 0
  sentBeat : Nat := 0
  dur : Nat := 0
  routes : Nat := 1
  bad : List Nat := []
  origin : Option (Nat × Nat) := none
  probe : Bool := false
  left : Nat := 0
  seq : Option Nat := none
  /-- ISEQ of its journal record (R231), none before it has one -/
  iseq : Option Nat := none
  deriving DecidableEq, Repr

/-- What a half-cycle of a phase shows (R316, R317): mains frequency in 0.01 Hz, noise in window Q, and the depth of the notch in
B, D1, D2, D3 and F, in 0.1 V. -/
structure HalfObs where
  freq : Nat := 5000
  q : Nat := 0
  b : Nat := 0
  d1 : Nat := 0
  d2 : Nat := 0
  d3 : Nat := 0
  f : Nat := 0
  deriving DecidableEq, Repr

/-- What a node reads in a half-cycle (R316, R317): whether it is disturbed, and B, D1 to D3 and F. -/
structure HalfRead where
  bad : Bool
  b : Bool
  d : List Bool
  f : Bool
  deriving DecidableEq, Repr

/-- A segment of a received frame (R322, R325, R326): its sextant, whether it is a probe segment, its SNR in dB, the highest
level it supports with 3 dB of margin, its decoded bytes (none: failed), and whether its decode was dropped. -/
structure SegObs where
  sext : Nat
  probe : Bool := false
  snr : Int := 0
  sup : Nat := 0
  data : Option (List Byte) := none
  dropped : Bool := false
  deriving DecidableEq, Repr

/-- A beat frame that a phase sends: its bits, the bit in progress, sendings of that bit so far, its message. -/
structure BeatTx where
  bits : List Bool
  idx : Nat := 0
  rep : Nat := 0
  msg : SitMsg
  deriving DecidableEq, Repr

/-- A segment of an OFDM frame that is being sent: sextant, level at its first sending, bytes, place after the FCH's sextant,
sendings, whether it is acknowledged. -/
structure SegTx where
  sext : Nat
  level : Nat
  data : List Byte
  off : Nat
  sends : Nat := 1
  acked : Bool := false
  deriving DecidableEq, Repr

/-- An OFDM DATA frame in flight (R322, R323): its message, the next hop, LSEQ, its segments, the message bytes of the frames
that follow it, the sextant by whose end the ACK must be there (none: the frame waits to be sent again), its start. -/
structure OfdmTx where
  msg : SitMsg
  hop : Nat
  lseq : Nat
  segs : List SegTx
  rest : List Byte
  due : Option Nat
  start : Nat
  deriving DecidableEq, Repr

/-- Reassembly of the frames of one source (R322): LSEQ and segments of the frame in progress, the bytes of the frames before
it, the LSEQ of the last whole frame. -/
structure OfdmRx where
  src : Nat
  lseq : Nat
  segs : List (Option (List Byte))
  buf : List Byte := []
  last : Option Nat := none
  deriving DecidableEq, Repr

/-- A link to a privileged node beside SIT.LINK_k (R326, R327): TMV of the maps it sends with and receives with, failures and
promotions in sequence by sextant, last SNR by sextant, beat last heard, usable, last probe. -/
structure LinkRec where
  tmvTx : Nat := 0
  tmvRx : Nat := 0
  fails : List Nat := [0, 0, 0, 0, 0, 0]
  ups : List Nat := [0, 0, 0, 0, 0, 0]
  snr : List Int := [0, 0, 0, 0, 0, 0]
  heard : Option Nat := none
  usable : Bool := false
  probe : Nat := 0
  deriving DecidableEq, Repr

/-- A received message that waits for its row: origin, MTYPE, payload in the OFDM form, MSEQ or SEQ. -/
structure RxMsg where
  origin : Nat
  mtype : Nat
  payload : List Byte
  id : Nat
  deriving DecidableEq, Repr

/-- A line write of the bezel (R287, R292 to R294): line, content, polarity, START's beat; pulse length in 0.1 ms, pulse 0 or
1 of DOT mode, whether the pulse or the rest runs, and the beat at which that part began; the four rails in mV. -/
structure LineWrite where
  line : Nat
  content : Nat
  pol : Bool
  t : Nat
  second : Bool := false
  rest : Bool := false
  start : Nat
  rails : List Nat
  deriving DecidableEq, Repr

/-- A block or counter of the crown tag (R306, R307): primary and backup copy, each with data, sequence number and whether it
is valid. -/
structure TagCell where
  pData : Nat := 0
  pSeq : Nat := 0
  pOk : Bool := true
  bData : Nat := 0
  bSeq : Nat := 0
  bOk : Bool := true
  deriving DecidableEq, Repr

/-- A write in steps 1 to 6 (R308): cell (blocks 0 to 511, counters 512 to 519), data, winning sequence number and data before,
beat of its command, whether the field writes, the host command with the blocks still to write and those written. -/
structure TagWrite where
  key : Nat
  data : Nat
  seq : Nat
  old : Nat
  start : Nat
  byField : Bool := false
  cmd : Option CmdRef := none
  more : List (Nat × Nat) := []
  done : Nat := 0
  deriving DecidableEq, Repr

/-- A frame to the crown tag (R302): its CRC_A check, and the last bit that the reader sent. -/
structure CrownFrame where
  crcOk : Bool := true
  last : Bool := false
  deriving DecidableEq, Repr

/-- A card that answers a poll (R296 to R298): UID, ATQA, SAK, highest rate, frame waiting time in beats and frame size of its
ATS. -/
structure CardObs where
  uid : List Byte
  atqa : Nat
  sak : Nat
  rate : Nat := 0
  fwt : Nat := 0
  fsc : Nat := 32
  deriving DecidableEq, Repr

/-- A block from a card in an ISO-DEP exchange (R298). -/
inductive IsoBlock where
  | info (no : Nat) (more : Bool) (data : List Byte)
  | ack (no : Nat)
  | nak (no : Nat)
  | wtx (m : Nat)
  deriving DecidableEq, Repr

/-- An ISO-DEP exchange (R298): the command, the response address, bytes of the APDU not sent, the chunk in flight, bytes
received, R(NAK) sent, deadline beat. -/
structure IsoEx where
  cmd : CmdRef
  addr : Nat
  rest : List Byte
  chunk : List Byte
  got : List Byte := []
  naks : Nat := 0
  deadline : Nat
  /-- the block sent last is an R(NAK) with the present block number -/
  rnak : Bool := false
  /-- the chunk's I-block has left with a command set (R300) -/
  sent : Bool := false
  deriving DecidableEq, Repr

/-- The regions of a lane's physical map (R19). -/
inductive LaneRegion where
  | rom | privateSram | legalSram | mainplate | registers | mram | flash | unused
  deriving DecidableEq, Repr

/-- A Mainplate access as its master asks for it (R350, R351): its place (the lane address in MAINPLATE_REQUEST, the offset in the window
once it waits), a write or a read, its words, the bytes a write carries. -/
structure MpAccess where
  off : Nat
  write : Bool
  words : Nat
  data : List Byte := []
  deriving DecidableEq, Repr

/-- A request that waits at a bank (R356, R357): master, access, due stamp, cycle of the request, consecutive losses, end of the
backoff, the motion-works channel it serves. -/
structure MpReq where
  master : Nat
  acc : MpAccess
  due : Nat
  at_ : Nat
  losses : Nat := 0
  backEnd : Nat := 0
  chan : Option Nat := none
  deriving DecidableEq, Repr

/-- A burst on a bank: its master, first cycle and cycle after the last. -/
structure MpBurst where
  master : Nat
  start : Nat
  stop : Nat
  deriving DecidableEq, Repr

/-- A motion-works channel beside its registers (R361 to R370): it writes next, bytes read and not yet written, those of a BITPLANE block read in part, bytes written,
beat of START, beat of an ABORT that drains, the read-back has failed once, what the last destination word was sent. -/
structure DmaSt where
  wr : Bool := false
  buf : List Byte := []
  part : List Byte := []
  done : Nat := 0
  start : Nat := 0
  abort : Option Nat := none
  retried : Bool := false
  sent : List (Nat × Byte) := []
  deriving DecidableEq, Repr

/-- The descriptor of a channel as firmware or a host burst writes it with START (R362). -/
structure DmaDesc where
  src : Nat
  dst : Nat
  len : Nat
  mode : Nat
  stride : Nat
  deadline : Nat
  deriving DecidableEq, Repr

/-- The attributes of a jewel (R376): masters, worlds (bit 0 LEGAL, 1 OPERATOR, 2 SERVICE), life-cycle states and operations as
bit masks, export ban, type as KEY.JW_ATTR1 codes it, origin, parent, depth. -/
structure JAttr where
  masters : Nat := 0
  worlds : Nat := 0
  lc : Nat := 0
  ops : Nat := 0
  exportBan : Bool := true
  typ : Nat := 0
  origin : Nat := 3
  parent : Nat := 0
  depth : Nat := 0
  deriving DecidableEq, Repr

/-- A KEY_LC_ADVANCE whose fuses are being blown (R386): target state, command, beat of its dequeue. -/
structure LcAdvance where
  target : Nat
  cmd : CmdRef
  beat : Nat
  deriving DecidableEq, Repr


/-- A version record (R388, R393): VERSION, LENGTH, MIRROR, MIRROR_ALT, the compatibility vector (minimum and maximum of LANE_FW,
BEAT_LIB, CASE_FW, DIAL_FW, SITE_FW, GP_FW), MIXED_DIFF of R389. -/
structure UpdRec where
  version : Nat := 0
  length : Nat := 0
  mirror : Nat := 0
  alt : Nat := 0
  compat : List (Nat × Nat) := List.replicate 6 (0, 0xFFFFFFFF)
  mixed : Bool := false
  deriving DecidableEq, Repr

/-- A load in progress (R393, R398): component, its new record, number of segments, next segment, nonce base and digests of the
header, the UPD_BEGIN that waits, bytes of a segment that a part of R398 cut. -/
structure UpdLoad where
  comp : Nat
  image : UpdRec
  nseg : Nat
  next : Nat := 0
  nonce : List Byte := []
  digests : List Byte := []
  cmd : Option CmdRef := none
  rest : List Byte := []
  deriving DecidableEq, Repr

/-- An activation in progress (R396): component, stage, the UPD_ACTIVATE that waits. Stages: 0 waits for its moment, 1 the unit
(the standby lane) restarts on the new image; LANE_FW and BEAT_LIB: 2 waits for the swap, 3 swapped, 4 the other lane restarts. -/
structure UpdAct where
  comp : Nat
  stage : Nat
  cmd : CmdRef
  deriving DecidableEq, Repr

/-- The definition of a meter in the image (R99, R100, R107). -/
structure MeterCfg where
  vCh : List Nat := []
  iCh : List Nat := []
  nCh : Option Nat := none
  rCab : Nat := 0
  vPeak : Nat := 0
  deriving DecidableEq, Repr

/-- The correction of a channel in the image (R101 to R104). -/
structure ChanCfg where
  scale : Nat := 0
  neg : Bool := false
  bands : List (List (Nat × Int × Int)) := []
  deriving DecidableEq, Repr

/-- What an image defines: registers by host address and word, and what no register shows, among it the pin functions (each with its
ball, or none), the power-domain and clock plan (a bit each, in the order of R415 and R417), the complication list and the installer
keys (R32). -/
structure ImgCfg where
  regs : List (Nat × Nat) := []
  outlets : List OutletCfg := List.replicate 12 {}
  progs : List Prog := List.replicate 8 {}
  meterProg : List Nat := List.replicate 32 0
  nRegs : List Nat := List.replicate 32 1
  magLim : Nat := 100
  chans : List ChanCfg := List.replicate 128 {}
  meters : List MeterCfg := List.replicate 32 {}
  ksOutlet : List (Option Nat) := List.replicate 128 none
  offsetStep : Nat := 200
  invert : Nat := 0
  un : Nat := 230
  failsafe : Nat := 0
  conv : List (Option (Nat × Nat)) := [none, none]
  can : List CanCfg := [{}, {}, {}, {}]
  bzlMeter : Nat := 0
  bzlQty : Nat := 0
  bzlUnit : Nat := 1
  legalMin : Nat := 60
  freshSeg : Nat := 0
  plan : List Nat := [0, 0, 0, 0]
  user : List JAttr := List.replicate 16 {}
  tagEn : Bool := false
  pins : List (Nat × Option Nat) := []
  domains : Nat := 0xFFF
  clocks : Nat := 0x7FF
  comps : List Nat := []
  instKeys : List (List Nat) := []
  deriving DecidableEq, Repr

/-- A calibre image (R34): the 256 header bytes; for each section (LEGAL, SAFETY, OPERATOR, INSTALLER) the plaintext that it opens to
under J_4, body and signature, or none where its GCM tag fails, and the SHA-384 digest of the body; the digest of the whole, the
first failing consistency check among those whose subject the model's configuration does not hold (0 none), the configuration. -/
structure Image where
  header : List Byte := []
  plain : List (Option (List Byte)) := [none, none, none, none]
  secs : List Nat := [0, 0, 0, 0]
  digest : Nat := 0
  detail : Nat := 0
  cfg : ImgCfg := {}
  deriving DecidableEq, Repr

/-- A calibre slot (R35): its image, the SLOT_SEQ of its commit record, whether that record is valid, the MRAM mark of R52. -/
structure Slot where
  img : Option Image := none
  seq : Nat := 0
  commit : Bool := false
  mark : Bool := false
  deriving DecidableEq, Repr

/-- A slot write in progress (R35): slot, image, SLOT_SEQ, SOURCE as CAL.REFUSE codes it, the section versions to which its commit
raises the floors (R36), the command that waits. -/
structure SlotWrite where
  slot : Nat
  img : Image
  seq : Nat
  source : Nat
  floors : List Nat := [0, 0, 0, 0]
  cmd : Option CmdRef := none
  deriving DecidableEq, Repr


/-- An hourly wear record (R408), temperatures in °C, slack in ps at the step in force; the last two are the values of the
quantities 6 and 7 of R407 in that hour, which the 64 bytes do not hold. -/
structure WearRec where
  seq : Nat
  hour : Nat
  mono : Nat
  slackA : Int
  slackB : Int
  tmax : List Int
  leakA : Nat
  leakB : Nat
  sec : Int
  noise : Nat
  mram : Nat
  flash : Nat
  stepA : Nat
  stepB : Nat
  flags : Nat
  opens : Nat
  ratio : Nat
  cycles : Nat
  lcWorst : Nat
  ageK : Nat
  deriving DecidableEq, Repr

/-- What the Case die's monitors and the converters measure in a beat (R410, R413): VAUX and HOLD in 10 mV, the other rails in
mV, the VSYS draw in mW. -/
structure SupplyObs where
  vaux : Nat := 0
  hold : Nat := 0
  vcore : Nat := 0
  v1p8 : Nat := 0
  v3p3 : Nat := 0
  vbat : Nat := 0
  vcpp : Int := 0
  vcpn : Int := 0
  vsys : Nat := 0
  /-- PFAIL_N is low -/
  pfail : Bool := false
  deriving DecidableEq, Repr

/-- Registers of one field group of R47 that an image sets: base, two strides with their counts, the bits, the group (0 live,
2 PULSE, 4 SAFETY, 5 LOADCH, 6 BEZEL, 7 SITE, 8 + n OUTLET_n, 31 MODULE, 32 + m METER of M_m), whether the first index is added
to the group. -/
structure CalRow where
  base : Nat
  s1 : Nat
  n1 : Nat
  s2 : Nat
  n2 : Nat
  mask : Nat
  group : Nat
  per : Bool
  deriving DecidableEq, Repr

/-- What a beat brings from outside the block: the essential work of each lane, the power estimate of R69 in mW, the calibrations that
end, the step of the resynchronisation that is reached (R246), the AUX levels, the chronometer's fraction of a second in 2^-32 s,
the connector temperatures of O_8 to O_11 in 0.1 °C, the bezel rails in mV, voltage (10 mV), current (mA) and sensor (0.1 °C) of each
load channel, the supplies, whether a full save of this beat verifies, BG_1 - BG_0 and BG_0 - secondary in 0.1 ppm for a reference
check of step 7 of a swing-in (R96). -/
structure BeatObs where
  a : LaneObs := { essEnd := 12000, cmdAt := 9600, checkerBad := false }
  b : LaneObs := { essEnd := 12000, cmdAt := 9600, checkerBad := false }
  estMw : Nat := 0
  cals : List ModCal := []
  resync : Nat := 0
  laneDigest : Nat := 0
  aux : Nat := 0
  frac : Nat := 0
  rails : List Nat := []
  lc : List (Int × Int × Int) := []
  supply : SupplyObs := {}
  saveOk : Bool := true
  refs : Int × Int := (0, 0)
  deriving DecidableEq, Repr

end Sys2Proof.Machine
end

