-- ==== Sys2Proof/Syntax.lean ====
section
/-! DEFINITION. The commands the block takes: one constructor per row of the opcode table, with what the row
carries: the unit it names, what was measured or received, the mailbox of a host command. Units are bounded by their
types, so that no operand names a unit the block does not have. -/
namespace Sys2Proof
open Sys2Proof.Machine

/-- A command of the block. -/
inductive Instr where
  /-- Every supply is in range for 2 ms; the Case die holds the setting position, the state is BOOT and
  start-up begins. (R41) -/
  | resetRelease (lost : Bool)
  /-- The ROM finishes checking both lanes' resident loaders and the flash directory, and the module enters
  LOADING or RECOVERY. (R22) -/
  | residentLoaderVerified (bad : Fin 4)
  /-- The loaders finish decrypting and verifying the firmware set and load the die firmware. (R41) -/
  | firmwareSetLoaded (corrupt : List (Fin 64)) (digestBad : Option (Fin 7)) (legalBad : Fin 4)
  /-- Both lanes send their slot choice, image digest and key digest to the Case die, which compares them. (R39) -/
  | slotChoiceAgreed (digestBad : Fin 4) (choiceEqual keysEqual : Bool)
  /-- At start-up step 6, once any open field transaction has ended, the crown-tag installer record is read and
  judged. (R49) -/
  | tagInstallerCheck (readOk : Bool) (img : Image)
  /-- The start-up self-test of each lane finishes; a failing lane is excluded or the module goes to SETTING. (R22) -/
  | startSelftestDone (a b : Option (Fin 65536))
  /-- The Case die receives the start orders carrying the agreed digest and releases the outputs into a running
  state. (R42) -/
  | startOrder (t100 : Nat) (x : StartObs)
  /-- LOADING has lasted 3.0 s, and the module enters SETTING with fault 0x100F. (R43) -/
  | loadingTimeout
  /-- A write of GLB.RESET with ACTION 0x1 and the key is accepted; a full save is made where possible, then
  the module resets. (R29) -/
  | glbResetModule (port : Fin 2)
  /-- A write of GLB.RESET with ACTION 0x2 holds a recovery request in PD_AON and resets the module into
  RECOVERY. (R22) -/
  | glbResetRecovery (port : Fin 2)
  /-- A 25 µs beat begins and runs its essential pallet groups, journal, heartbeats and complication window. (R56) -/
  | beat (obs : BeatObs)
  /-- The sample frame of the beat arrives on a sample link and its CRC and beat number are checked. (R12) -/
  | frameArrival (lane : Fin 2) (f : Frame)
  /-- Essential work is unfinished at the start of pallet 15; the lane stops the beat and declares itself
  failed. (R62) -/
  | essentialOverrun (lane : Fin 2)
  /-- The owner's commands are missing at the start of pallet 10; outputs hold and the owner resigns. (R62) -/
  | cmdLate
  /-- An application or legal core watchdog expires after 4 beats without service, and the lane resigns. (R237) -/
  | coreWatchdogExpiry (lane : Fin 2)
  /-- An uncorrectable ECC error in private or legal SRAM makes the lane resign. (R237) -/
  | sramEccUncorrectable (lane : Fin 2)
  /-- Firmware posts a complication slice to the lane's queue, refused if the queue is full. (R65) -/
  | complicationPost (lane : Fin 2) (kind : Fin 8) (cost latest subject : Nat)
  /-- An admitted complication slice completes and delivers its result to the firmware that posted it. (R64) -/
  | complicationDone (lane : Fin 2) (kind : Fin 8) (subject : Nat) (result : CompResult)
  /-- A complication still running at the start of pallet 15 is stopped and its results discarded. (R67) -/
  | complicationOverrun (lane : Fin 2) (kind : Fin 8) (subject : Nat)
  /-- Every 40 beats the lane temperature is sampled and the thermal condition of the power reserve is updated. (R69) -/
  | laneTempSample (a b : List Int) (caseT : Int) (aux : Nat)
  /-- In the last beat of a placement round the power reserve publishes the budget record with DERATE and AUX. (R72) -/
  | budgetPublish
  /-- A read of ESC.BEATNO_LO latches ESC.BEATNO_HI for the reading port. (R55) -/
  | beatnoLoRead (port : Fin 2)
  /-- A read of GOV.BUDGET_ROUND latches the budget registers for the reading port. (R72) -/
  | budgetRoundRead (port : Fin 2)
  /-- A read of GOV.PL_ROUND latches the placement site, source and pool registers for the reading port. (R207) -/
  | plRoundRead (port : Fin 2)
  /-- A bitstream input shows no transition for 64 clock periods and its sample is invalid. (R77) -/
  | ibStuck (n : Fin 64)
  /-- An IBCLK ball's readback differs from its driven level, and its eight inputs become invalid. (R76) -/
  | ibclkFault (k : Fin 8) (differs : Bool)
  /-- A routine, temperature-triggered or commanded swing-in connects a spare modulator to a channel. (R86) -/
  | swingInStart (n : Fin 128) (high : Bool) (spare : Fin 72)
  /-- A swing withdrawn for too many overload beats is retried 10 min later. (R88) -/
  | swingRetry (n : Fin 128) (high : Bool) (spare : Fin 72)
  /-- A failed assigned modulator is detected and a spare swings in at once without comparison. (R91) -/
  | modulatorFailed (k spare : Fin 72)
  /-- A known-state window opens for a bitstream channel and 4 000 beats of its code are averaged. (R94) -/
  | knownStateWindow (n : Fin 128)
  /-- A bitstream channel has had no successful window for 7 days and is marked STALE. (R95) -/
  | ksStale (n : Fin 128)
  /-- The two bandgaps and the secondary reference are compared and judged. (R96) -/
  | referenceCompare (d10 d0s : Int)
  /-- Neither lane has had a good frame for 4 consecutive beats, and every outlet is stopped. (R98) -/
  | frameLoss
  /-- A lane has more than 16 bad frames in 40 000 beats. (R98) -/
  | linkDegraded (lane : Fin 2)
  /-- An AC meter has recognised no crossing for 1 600 beats and enters NOREF with fixed cycles. (R106) -/
  | meterNoref (m : Fin 32)
  /-- After 400 consecutive substituted beats the meter stops registering and sets HALTED. (R118) -/
  | meterHalt (m : Fin 32)
  /-- The Case die's sub-beat timer starts a pulse on PLS_k. (R120) -/
  | pulseStart (k : Fin 4)
  /-- A pulse ends after WIDTH, or half-way to the next pulse. (R120) -/
  | pulseEnd (k : Fin 4)
  /-- The owner's legal core writes a delta record to MRAM on its schedule. (R122) -/
  | deltaSave
  /-- The owner's legal core writes a full record on its schedule, alternating between two areas. (R123) -/
  | fullSave (ok : Bool)
  /-- A read of word 0 of an interval register returns total minus snapshot and resets the snapshot. (R117) -/
  | intervalRead (port : Fin 2) (m : Fin 32) (q : Fin 11)
  /-- The Case die accepts a key after 4 equal scans and the legal core processes the entry. (R131) -/
  | keypadKey (key : Fin 16)
  /-- A keypad entry with no key for 30 s is abandoned. (R131) -/
  | keypadEntryTimeout
  /-- A 10 s legal display interval ends and the next content or the previous legal content is shown. (R132) -/
  | legalShowStep
  /-- The chronometer completes a second; MONO rises by 1 and WALL advances. (R133) -/
  | chronoSecond (comp : Int)
  /-- A demand interval boundary falls due and its demand is formed and attributed. (R140) -/
  | demandIntervalEnd
  /-- A sliding sub-interval ends and a sliding demand value is formed. (R140) -/
  | demandSubintervalEnd
  /-- A billing period boundary falls due, a billing record is written and the maxima reset. (R141) -/
  | billingPeriodEnd
  /-- A tariff switch point falls due and the new register is active from the next beat. (R461) -/
  | tariffSwitch (k : Fin 8)
  /-- TMP_COVER_N changes from a closed to an open reading, a class A occurrence. (R149) -/
  | tamperCoverOpen
  /-- TMP_DOOR_N changes from a closed to an open reading, a class A occurrence. (R149) -/
  | tamperDoorOpen
  /-- The field sensor reads above MAG_LIM for 2 s, a class A occurrence. (R148) -/
  | tamperMagnetic (mT ms : Nat)
  /-- A write to the legal areas from a non-legal master is refused and counted as LEGAL_WRITE. (R128) -/
  | legalWriteRefused
  /-- A class B condition has held for 50 cycles and a class B record opens. (R150) -/
  | tamperBStart (m : Fin 32) (kind phase : Fin 3)
  /-- A class B condition has been absent for 10 cycles and its record is closed. (R150) -/
  | tamperBEnd (m : Fin 32) (kind phase : Fin 3)
  /-- The account record of an accepted token is read back correctly; the token is ACCEPTED. (R154) -/
  | accountRecordCommit (a : Fin 16) (ok : Bool)
  /-- A 1 ms pilot period of an outlet begins with any newly commanded mode or duty. (R159) -/
  | pilotPeriodStart (n : Fin 12) (vHigh vLow : Int) (duty : Nat)
  /-- A pilot state is recognised after 3 periods in the same band and the Obrik acts on the change. (R160) -/
  | pilotStateRecognised (n : Fin 12)
  /-- A context becomes free while an outlet waits in B without one, and it is allocated. (R175) -/
  | deferredAllocation (n : Fin 12)
  /-- The pilot is INVALID for 100 consecutive periods and the session stops as for state E. (R161) -/
  | pilotInvalid (n : Fin 12)
  /-- The 4 s of state F after a pilot error ends and the drive returns to steady +12 V. (R161) -/
  | pilotFHoldEnd (n : Fin 12)
  /-- The PP resistance is measured every 40 beats and a band is accepted after 3 equal readings. (R164) -/
  | proximityMeasure (n : Fin 12) (r : Nat)
  /-- An invalid proximity reading lasts 100 ms and the session stops with PILOT_ERROR. (R164) -/
  | ppInvalid (n : Fin 12)
  /-- A CM_SLAC_PARAM.REQ is received and the Obrik decides on which outlet to answer. (R166) -/
  | slacParamReq (runId : Nat) (heard : List (Fin 12 × Nat))
  /-- A CM_MNBC_SOUND.IND is received and enters the attenuation characterisation. (R165) -/
  | mnbcSound (n : Fin 12) (runId atten : Nat)
  /-- A CM_SLAC_MATCH request completes the match with a fresh network membership key. (R165) -/
  | slacMatch (n : Fin 12) (runId : Nat)
  /-- No match is made within TT_EVSE_SLAC_init; F is driven for 4 s, or SLAC ends on a second failure. (R167) -/
  | slacTimeout (n : Fin 12)
  /-- An SECC discovery request is received and answered within 50 ms. (R170) -/
  | sdpRequest (n : Fin 12) (late : Bool)
  /-- A supportedAppProtocolReq is answered with the highest-ranked enabled protocol. (R168) -/
  | supportedAppProtocol (n : Fin 12) (ranked : List Nat) (late : Bool)
  /-- A V2G request message is received whole and answered within 250 ms. (R170) -/
  | v2gRequest (n : Fin 12) (m : V2gMsg) (late : Bool)
  /-- A TLS ClientHello starts a handshake whose public-key steps are posted as TLS_WORK. (R169) -/
  | tlsClientHello (n : Fin 12) (offer : TlsOffer) (cost : Nat)
  /-- A handshake's public-key step is not admitted within 15 s and the connection is closed. (R169) -/
  | tlsPkTimeout (n : Fin 12)
  /-- V2G_SECC_CommunicationSetup_Performance_Time expires and the session ends with COMM. (R170) -/
  | commSetupTimeout (n : Fin 12)
  /-- V2G_SECC_Sequence_Timeout expires and the session ends with COMM. (R170) -/
  | sequenceTimeout (n : Fin 12)
  /-- V2G_SECC_CPState_Detection_Timeout expires and the session ends with PILOT_ERROR. (R170) -/
  | cpStateDetectionTimeout (n : Fin 12)
  /-- AUTH_TIMEOUT expires in AUTHORISING and the session ends. (R170) -/
  | authTimeout (k : Fin 128)
  /-- A pre-authorisation's validity runs out without a plug-in. (R174) -/
  | preauthExpiry (n : Fin 12)
  /-- SUSPEND_OPEN runs out for a suspended DC session and the contactor opens. (R176) -/
  | suspendOpenExpiry (n : Fin 12)
  /-- 3 s after a basic stop the vehicle is still in C or D and the contactor opens under load. (R177) -/
  | stopLate (n : Fin 12)
  /-- 10 s after a V2G stop the Obrik drives +12 V and continues with the forced open. (R177) -/
  | v2gStopTimeout (n : Fin 12)
  /-- The DC meter reads below 5 A, or 1 s has passed, and the contactor open is applied. (R177) -/
  | dcStopOpen (n : Fin 12)
  /-- The SETPOINT frame of a CAN target is sent in its beat every 40 beats. (R181) -/
  | setpointFrame (c : Fin 4) (k : Fin 2)
  /-- A STATUS frame from a power module or converter is received and checked. (R182) -/
  | statusFrame (c : Fin 4) (k : Fin 2) (bs : List Byte)
  /-- A target has no valid STATUS, or lags in SEQ_ECHO, for 400 beats and its session stops. (R183) -/
  | canTargetLost (c : Fin 4) (k : Fin 2)
  /-- A CAN controller goes bus-off and every session on it stops. (R183) -/
  | canBusOff (c : Fin 4)
  /-- 100 ms after bus-off the Obrik attempts to recover the controller. (R183) -/
  | busOffRecovery (c : Fin 4)
  /-- The residual sensor self-test finishes and passes or fails. (R196) -/
  | rdcSelfTestEnd (n : Fin 12)
  /-- The AUX inputs have not read 1 within T_CLOSE, and the pair opens with 0x5201. (R187) -/
  | closeTimeout (n : Fin 12)
  /-- The voltage match is not reached within 5 s and the close is not made. (R189) -/
  | vmatchTimeout (n : Fin 12)
  /-- An AUX input disagrees with its command for 40 beats and the pair opens. (R186) -/
  | auxMismatch (n : Fin 12)
  /-- An AC weld-proof window completes or fails after an opening. It brings nothing: `z` has no value. (R191) -/
  | weldProofAc (n : Fin 12) (z : Unit)
  /-- The DC weld proof reaches its result from the voltages within 4 000 beats. (R192) -/
  | weldProofDc (n : Fin 12)
  /-- A residual-current counter reaches its t_k and the outlet trips. (R195) -/
  | rdcTrip (n : Fin 12) (ac : Bool) (k : Fin 8)
  /-- State A and I_DC below 3 mA for 1 s release the RDC lock. (R197) -/
  | rdcLockRelease (n : Fin 12)
  /-- An insulation dwell ends, and after a P or N state a pole resistance is computed. It brings nothing: `vp` and `vn` have no
  value. (R198) -/
  | insulationDwellEnd (n : Fin 12) (vp vn : Unit)
  /-- A current sample exceeds I_INST in 2 consecutive beats and the pair opens at once. (R200) -/
  | ocInst (n : Fin 12)
  /-- A DC outlet voltage exceeds 1.02 × U_ref in 2 consecutive beats and the pair opens at once. (R200) -/
  | overvolt (n : Fin 12)
  /-- Current stays above its slow limit for OC_SLOW_T and a hold starts. (R200) -/
  | ocSlow (n : Fin 12)
  /-- A DC connector temperature reaches T_TRIP and the thermal latch sets, starting a hold. (R201) -/
  | connectorThermalLatch (n : Fin 12)
  /-- Both connector channels stay below T_TRIP − 10 K for 60 s and the latch clears. (R201) -/
  | connectorLatchClear (n : Fin 12)
  /-- RETRY_DELAY after a hold, a retry is spent and the close sequence runs again. (R202) -/
  | holdRetry (n : Fin 12)
  /-- The thermal latch is still set 30 min after it set and the session stops. (R203) -/
  | latchTimeout (n : Fin 12)
  /-- A supervised sample is invalid for the 4th consecutive beat and the session stops. (R204) -/
  | protBlind (n : Fin 12)
  /-- The owner computes placement round r in beat 400r from the previous round's means. (R207) -/
  | placementRound
  /-- The allocations of round r take effect in beat 400r + 1. (R207) -/
  | allocationApply
  /-- Every site phase has been within range for RECONNECT and islanded is cleared. (R222) -/
  | islandExit
  /-- Battery data exceed their validity and the battery is commanded OFF. (R215) -/
  | batteryDataStale
  /-- The host price expires and the tariff price is used. (R216) -/
  | priceStale
  /-- A host site import limit reaches the end of its duration. (R208) -/
  | siteLimitExpiry
  /-- MIN_OFF after a suspension by placement ends and the session is eligible again. (R213) -/
  | minOffExpiry (k : Fin 128)
  /-- A share period begins and the regulator allocates shares to its partners. (R223) -/
  | sharePeriodStart
  /-- A lowered share is unacknowledged after 2 s and raised shares may be sent. (R224) -/
  | shareLowerTimeout (k : Fin 255)
  /-- A partner has not reported for 3 periods and is reserved at its failsafe share. (R225) -/
  | partnerLost (k : Fin 255)
  /-- A partner has received no share for 3 periods and uses its own FAILSAFE share. (R225) -/
  | partnerFailsafe
  /-- The standby receives a journal entry, applies its records and cross-checks the CRCs. (R232) -/
  | journalEntryApply (own : BeatCrcs) (ownerFlag standbyFlag : Bool)
  /-- The owner receives the standby's acknowledgement and releases the held decisions. (R232) -/
  | journalAck (jseq : Nat)
  /-- No acknowledgement has arrived for 40 beats and the standby is treated as lost. (R232) -/
  | journalStall
  /-- At pallet 13 + 0.5 µs the voter decides on both heartbeat paths of both lanes. (R235) -/
  | heartbeatVote (own stb : Heart) (differs : Fin 8)
  /-- A heartbeat with RESIGN set is received on either path. (R235) -/
  | resignation (lane : Fin 2) (off : Nat)
  /-- The Case die applies a command set of the new owner. (R239) -/
  | takeoverComplete (ns : Nat)
  /-- Completion has not occurred 10 µs after the decision and the Case die enters SAFE_HOLD. (R239) -/
  | takeoverLate
  /-- A lost lane's 1 ms reset ends and its resynchronisation begins. (R246) -/
  | laneResetRelease (lane : Fin 2)
  /-- A rebooted lane passes 4 000 beats of cross-check and STANDBY_OK is set. (R246) -/
  | laneResyncDone (lane : Fin 2)
  /-- A resynchronisation attempt fails or passes 2 s, and three failures retire the lane. (R247) -/
  | resyncAttemptFail (lane : Fin 2) (failed : Bool)
  /-- 10 s after a failed attempt the resynchronisation is repeated. (R247) -/
  | resyncRetry (lane : Fin 2)
  /-- The swap period has elapsed and the Obrik looks for a quiet beat. (R249) -/
  | tourbillonDue
  /-- No quiet beat has come within WAIT minutes and fault 0x600D is raised. (R249) -/
  | swapWaitTimeout
  /-- A path accepts a new level of a safety input channel after FILTER. (R255) -/
  | safetyInputAccept (hw : Bool) (n : Fin 16) (run : SiRun) (us : Nat)
  /-- A function's channels stay inconsistent longer than DISCREP and it enters FAULT. (R256) -/
  | discrepancyTimeout (k : Fin 8)
  /-- A test-pulse source goes dark and its readback and inputs are checked. (R257) -/
  | testPulse (st : Fin 4) (readback : Bool) (bad : Nat)
  /-- Every 40 beats the lane path evaluates every safety function. (R252) -/
  | safetyCycle
  /-- Every 50 µs the two copies of the hardwired logic are compared. (R263) -/
  | hwPathCompare (agree : Bool)
  /-- A function's lane and hardwired states differ for FILTER + 2 ms and it enters FAULT. (R263) -/
  | pathDisagree (k : Fin 8)
  /-- The STOP1 delay of a MACHINE pair runs out and the element opens. (R260) -/
  | stop1Expiry (p : Fin 12) (hw : Bool)
  /-- The lock reads locked with the door open for longer than DISCREP. (R259) -/
  | lockFault (k : Fin 8)
  /-- An energised safety output receives its 300 µs off-pulse and is read back. (R261) -/
  | soOffPulse (k : Fin 24) (low restored : Bool) (vauxMv : Nat)
  /-- A safety output carries more than 1.0 A for 200 µs and its pair is latched. (R262) -/
  | soOverload (k : Fin 24) (mA : Nat)
  /-- A MACHINE pair's AUX does not follow its output within 200 ms and the pair is latched. (R262) -/
  | edmTimeout (p : Fin 12)
  /-- The 30 min of the safety unlock end. (R266) -/
  | safetyUnlockExpiry
  /-- The 15 min safety password lockout ends. (R266) -/
  | pwdLockoutExpiry
  /-- T_INRUSH ends and the output is checked against VAUX − 1.0 V. (R273) -/
  | lcInrushEnd (k : Fin 16) (vOut vaux : Int)
  /-- A channel held at ILIM for T_LIM turns off with an over-current event. (R274) -/
  | lcCurrentLimitCutoff (k : Fin 16) (held : Nat)
  /-- A channel sensor reaches 170 °C and the thermal latch turns the channel off. (R274) -/
  | lcThermalLatch (k : Fin 16) (temp : Int)
  /-- The sensor falls below 145 °C and the latch clears, allowing a deferred retry. (R274) -/
  | lcThermalRelease (k : Fin 16) (temp : Int)
  /-- RETRY_DELAY after a retryable event the channel is turned on again or goes to FAULT. (R275) -/
  | lcRetry (k : Fin 16)
  /-- A channel on for 1 s without an event has its retry count refilled. (R275) -/
  | lcRetryRefill (k : Fin 16)
  /-- An inductive turn-off clamp event ends and its energy is recorded. (R277) -/
  | lcClampEvent (k : Fin 16) (e : Nat)
  /-- The current stays below OL_I for 100 ms and open load is reported. (R279) -/
  | lcOpenLoad (k : Fin 16) (iUa vauxMv : Nat)
  /-- The current stays at or above OL_I for 100 ms and OL clears. (R279) -/
  | lcOpenLoadClear (k : Fin 16) (o : OpenObs)
  /-- A channel commanded off reads above VAUX − 2 V for 10 ms. (R280) -/
  | lcStuck (k : Fin 16) (vOut vaux : Int)
  /-- The motor current stays above STALL for T_STALL and the run ends in braking. (R281) -/
  | motorStall (j : Fin 4) (cur held : Nat)
  /-- A motor run reaches T_RUN and brakes. (R281) -/
  | motorRunTimeout (j : Fin 4)
  /-- T_BRAKE ends and the pair coasts, completing the run. (R281) -/
  | motorBrakeEnd (j : Fin 4)
  /-- The total current or dissipation is exceeded and one channel is shed every 40 beats. (R282) -/
  | lcShed (x y z : Unit)
  /-- A select pulse ends and the stress counters are updated. (R293) -/
  | bezelPulseEnd (charge : Nat)
  /-- The 1 ms rest after a line ends and DONE confirms the line. (R291) -/
  | bezelRestEnd
  /-- The rails have met every relation for 1 s and stopped writing resumes. (R286) -/
  | bezelRailResume (rails : List Nat)
  /-- A dropped line write is posted again at the next placement round. (R292) -/
  | bezelDropRepost
  /-- After a cut line the bezel rewrites the panel with the freshness sequence. (R295) -/
  | bezelRecovery
  /-- The reader switches its field on for 10 ms and sends REQA. (R296) -/
  | readerPoll (card : Option CardObs) (driveOk : Bool)
  /-- A presence check is sent, and after 3 misses the card counts as removed. (R297) -/
  | cardPresenceCheck (answered : Bool)
  /-- A card does not answer within the frame waiting time after two R(NAK). (R298) -/
  | isoDepTimeout
  /-- A reader field powers the crown tag and it becomes ready to answer. (R301) -/
  | tagFieldOn
  /-- The field is lost; SECURED and any open field transaction end. (R305) -/
  | tagFieldLoss
  /-- The tag receives REQA and answers unless SILENT or halted. (R301) -/
  | tagReqa
  /-- The tag receives WUPA and answers unless SILENT. (R301) -/
  | tagWupa
  /-- The tag takes part in an anticollision loop with its 7-byte UID. (R301) -/
  | tagAnticollision
  /-- The tag is selected, becomes OPEN and a field transaction opens. (R303) -/
  | tagSelect
  /-- HLTA halts the tag, into SILENT if it served a crown command. (R305) -/
  | tagHlta
  /-- DESELECT ends SECURED and the field transaction. (R303) -/
  | tagDeselect
  /-- The tag returns its format, state, lock and counts. (R302) -/
  | getInfo (f : CrownFrame)
  /-- The tag returns the winning copy of a block. (R307) -/
  | readBlock (f : CrownFrame) (block : BitVec 16)
  /-- The field writes a block through the backup-then-primary write steps. (R308) -/
  | writeBlock (f : CrownFrame) (block : BitVec 16) (data : BitVec 128) (reserve : Bool)
  /-- The tag returns a counter value. (R306) -/
  | readCounter (f : CrownFrame) (k : BitVec 8)
  /-- The field increments a counter through the write steps. (R308) -/
  | incrCounter (f : CrownFrame) (k : BitVec 8) (inc : BitVec 24) (reserve : Bool)
  /-- A correct password makes the tag SECURED. (R303) -/
  | pwdAuth (f : CrownFrame) (pwd : BitVec 32)
  /-- The tag answers a reader challenge with its own challenge and its response. (R303) -/
  | authBegin (f : CrownFrame) (chal : BitVec 128)
  /-- The reader's response is judged, and the tag becomes SECURED or counts a failure. (R303) -/
  | authEnd (f : CrownFrame) (resp : BitVec 128)
  /-- A tag write's primary copy is verified, its commit point. (R308) -/
  | tagWriteCommit (failed : Fin 3)
  /-- The 2.0 to 2.6 s of SILENT end and the tag answers REQA again. (R305) -/
  | tagSilenceEnd
  /-- A field transaction has had no crown command for 2 s and ends for host purposes. (R311) -/
  | tagTxnIdleTimeout
  /-- Every 24 h the Obrik reads every block and counter and restores bad copies. (R307) -/
  | tagScrub
  /-- At most once a minute the newest waiting DEGRADE-or-higher fault entry is copied to the tag. (R310) -/
  | faultMirrorWrite
  /-- A write of NFC.TAG_CTRL.HOST_LOCK sets or clears field-write refusal and writes B_4. (R311) -/
  | tagHostLockWrite (v : Bool)
  /-- A phase zero crossing is sensed and the sextant reference is updated. (R315) -/
  | mainsZeroCrossing (p : Fin 3) (positive : Bool) (o : HalfObs)
  /-- A phase has shown no crossing for 4 cycles and carries no beat signalling. (R315) -/
  | zcLost (p : Fin 3)
  /-- After B has been absent and a random wait, the Obrik starts a beat frame on a phase. (R319) -/
  | beatFrameStart (p : Fin 3)
  /-- A whole beat frame is received and checked under the site's CRC. (R318) -/
  | beatFrameReceived (p : Fin 3)
  /-- After 6 quiet sextants and the backoff, a DATA frame is started. (R324) -/
  | ofdmFrameStart
  /-- An OFDM DATA or RETX frame is received and its ACK is sent. (R322) -/
  | ofdmDataFrame (fch : BitVec 48) (segs : List SegObs)
  /-- An ACK is received and missing segments are sent again by RETX. (R323) -/
  | ofdmAckFrame (fch : BitVec 48)
  /-- No ACK has arrived by the fourth sextant and the frame is sent again, or the message fails. (R323) -/
  | ofdmAckTimeout
  /-- A frame with PROBE set is sent at least every 60 s while maps are closed. (R326) -/
  | probeFrame (k : Fin 16)
  /-- Every 60 s a privileged node broadcasts its LINK_REPORT. (R327) -/
  | linkReportSend
  /-- A link not reported or heard for 180 s becomes unusable. (R327) -/
  | linkExpiry (k : Fin 16)
  /-- A partner sends a REPORT on a change or at least every 2 share periods. (R329) -/
  | partnerReportSend
  /-- A node broadcasts ANNOUNCE at start and every 600 s. (R329) -/
  | announceSend
  /-- An unacknowledged share or report is sent again after 3 frame times. (R329) -/
  | siteMessageRetry
  /-- A regulator or partner hears no node of its site for 60 s. (R312) -/
  | noPrivileged
  /-- A partner's REPORT is received by the regulator. (R329) -/
  | report
  /-- A SHARE from the regulator is received and applied as Share. (R329) -/
  | share
  /-- A SHARE_ACK from a partner is received by the regulator. (R329) -/
  | shareAck
  /-- A METER_INFO from address 2 is stored in the SIT.XM registers. (R331) -/
  | meterInfo
  /-- A LINK_REPORT is received and the link costs are updated. (R327) -/
  | linkReport
  /-- A TONE_MAP message is received and new maps apply from the next DATA frame. (R326) -/
  | toneMap
  /-- An ANNOUNCE is received from a node of the site. (R329) -/
  | announce
  /-- A HOST_DATA message is received, queued for SIT_RECV and acknowledged end to end. (R329) -/
  | hostData
  /-- An E2E_ACK for a sent HOST_DATA is received. (R329) -/
  | e2eAck
  /-- A quad-SPI READ transaction returns register or Mainplate words. (R335) -/
  | hostRead (port : Fin 2) (addr : BitVec 32) (words : Nat) (sck : Nat) (late : List Nat)
  /-- A READ_CRC transaction returns words followed by a CRC-16. (R336) -/
  | hostReadCrc (port : Fin 2) (addr : BitVec 32) (words : Nat) (sck : Nat) (late : List Nat)
  /-- A plain WRITE transaction is checked and queued for the next beat. (R337) -/
  | hostWrite (port : Fin 2) (addr : BitVec 32) (data : List Word) (sck : Nat)
  /-- A WRITE_CRC transaction is CRC-checked and queued for the next beat. (R337) -/
  | hostWriteCrc (port : Fin 2) (addr : BitVec 32) (data : List Word) (crc : BitVec 16) (sck : Nat)
  /-- A transaction with a bad command byte, misaligned address or cut word has no effect. (R335) -/
  | hostProtocolError (port : Fin 2) (addr : BitVec 32) (sck : Nat)
  /-- A pending host write takes effect as a whole at pallet 0 on both lanes. (R337) -/
  | hostWriteApply
  /-- A write to a register with no row of its own sets RW fields and clears W1C bits. (R6) -/
  | registerWrite (port : Fin 2) (addr : BitVec 32) (v : Word)
  /-- A read of word 0 of a 128-bit register latches words 1 to 3 for the port. (R18) -/
  | wideWord0Read (port : Fin 2) (addr : BitVec 32)
  /-- A read of GLB.POLL is a poll that restarts the host watchdog and clears HOST_SILENT. (R340) -/
  | glbPollRead (port : Fin 2)
  /-- HOST_WD seconds pass without a poll and HOST_SILENT is set. (R340) -/
  | hostWatchdog
  /-- A write of MBX.Mk_HI completes a host notice, or collides with a waiting one. (R342) -/
  | mbxNoticeComplete (port : Fin 2) (k : Fin 8) (hi : Word)
  /-- A read of MBX.Mk_HI for k ≥ 8 empties the mailbox. (R346) -/
  | mbxReplyRead (port : Fin 2) (k : Fin 8)
  /-- A command not answered within 400 beats receives an ACCEPTED interim reply. (R347) -/
  | interimReply (port : Fin 2) (seq : BitVec 16)
  /-- A write to HPD.DB_OUT_SET rings host bells, which are echoed in DB_IN. (R341) -/
  | dbOutSetWrite (w : PortWrite 32)
  /-- A master places a request with a due stamp on a bank. (R356) -/
  | mainplateRequest (m : Fin 14) (acc : MpAccess) (due t : Nat)
  /-- A free bank grants the eligible request with the least slack and runs its burst. (R356) -/
  | bankGrant (b : Fin 8) (t : Nat) (ecc : List (Fin 16 × Bool))
  /-- A losing master's backoff ends and it may request again. (R357) -/
  | backoffEnd (m : Fin 14) (b : Fin 8) (t : Nat)
  /-- A master holds a grant beyond HOLD_MAX and is cut off. (R359) -/
  | masterCutoff (b : Fin 8) (t : Nat)
  /-- A W1C write to ARB.CUTOFF clears a master's block. (R359) -/
  | arbCutoffClear (w : PortWrite 14)
  /-- The scrubber completes a pass over all nine banks. (R354) -/
  | scrubPassEnd (found : List (Fin 0x1000000 × Bool))
  /-- A scrub pass has not finished after 30 min. (R354) -/
  | scrubLag
  /-- Every word of a spared bank has been copied and the switch is due. (R355) -/
  | spareCopyDone (found : List (Fin 0x200000))
  /-- A host write sets the hack bit and grants stop on the named banks. (R360) -/
  | hackSet (port : Fin 2) (banks : BitVec 8)
  /-- A host write clears the hack bit and grants resume. (R360) -/
  | hackClear (w : PortWrite 8)
  /-- A hack that the Obrik set lasts 600 cycles and is released. (R360) -/
  | hackTimeout
  /-- START takes effect on a channel, which runs or is refused with ERR 1. (R362) -/
  | dmaStart (c : PortChan) (desc : Option DmaDesc)
  /-- PAUSE = 1 makes a channel drain its read bytes and enter PAUSED. (R368) -/
  | dmaPause (c : PortChan)
  /-- PAUSE = 0 resumes a paused channel from the next byte. (R368) -/
  | dmaResume (c : PortChan)
  /-- ABORT stops a channel as ABORTED, or leaves it DONE with ABORT_LATE. (R369) -/
  | dmaAbort (c : PortChan)
  /-- The last destination word is read back; a match is the commit point. (R365) -/
  | dmaVerify (n : Fin 16) (flip : Bool)
  /-- A channel is not DONE DEADLINE beats after its start and LATE is set. (R370) -/
  | dmaDeadline (n : Fin 16)
  /-- A challenge expires 60 s after it was drawn. (R380) -/
  | svcChallengeExpiry (port : Fin 2)
  /-- The 15 min SERVICE entry lockout ends. (R381) -/
  | svcLockoutEnd
  /-- 15 min after its last command a port in SERVICE returns to OPERATOR. (R25) -/
  | serviceWorldTimeout (port : Fin 2)
  /-- An EPH_n jewel is cleared 60 s after its handshake began at the latest. (R379) -/
  | ephemeralJewelClear (n : Fin 12)
  /-- A continuous entropy test fails and the DRBG stops. (R385) -/
  | entropyTestFail
  /-- 1 024 consecutive samples pass and the DRBG is reseeded. (R385) -/
  | entropyRecovery
  /-- The DRBG is reseeded after 65 536 requests or 24 h. (R384) -/
  | drbgReseed
  /-- Both lanes read the new life-cycle fuses back and the advance takes effect, or SAFE_HOLD follows. (R386) -/
  | lcFuseReadback (equal : Bool)
  /-- The version record is verified, the load's commit point. (R393) -/
  | updateLoadCommit
  /-- The running version has been written back to flash after an abort or fault. (R394) -/
  | updateRestoreDone
  /-- A new CASE_FW does not report ready within 5 ms and the Case die enters SAFE_HOLD. (R397) -/
  | caseFwReadyTimeout
  /-- A deferred GP_FW activation starts once no outlet has SLAC or a high-level session. (R396) -/
  | gpFwDeferredStart
  /-- UPD.REC_CMD OP 1 makes the ROM judge and write the first part of an image. (R398) -/
  | recFirstPart (bad : Option (Fin 128))
  /-- UPD.REC_CMD OP 2 makes the ROM write a further part of an image. (R398) -/
  | recFurtherPart (bad : Option (Fin 128))
  /-- UPD.REC_CMD OP 3 makes the ROM check the directory and set READY. (R398) -/
  | recCheckDirectory
  /-- Every second the critical-path monitors measure each lane's slack. (R400) -/
  | slackSample (a b : Int) (leakA leakB : Nat)
  /-- At each whole MONO hour the owner writes the wear record. (R408) -/
  | hourlyRecord (noise mram flash : Nat) (bad : Bool)
  /-- A lane due a lower clock step switches its divider once it is standby. (R402) -/
  | clockStepApply (lane : Fin 2)
  /-- 4 000 beats of cross-check at the new step pass and the step is stored. (R402) -/
  | clockStepCheckDone (lane : Fin 2)
  /-- VAUX below V_WARN or PFAIL_N low for 4 beats raises the power-fail warning. (R412) -/
  | powerFailWarning (z : Unit)
  /-- VAUX and PFAIL_N are good for 1 s and the warning is withdrawn. (R412) -/
  | warningWithdrawn
  /-- VAUX falls below 4.5 V and VSYS switches to HOLD. (R411) -/
  | vsysToHold
  /-- A long or deep VAUX dip resets the module with cause 0x02. (R412) -/
  | supplyReset
  /-- VCORE, V1P8 or V3P3 leaves its window and the module resets at once. (R414) -/
  | railOut (rail : Fin 3)
  /-- VCPP or VCPN is out of range and the pilots go high-impedance. (R410) -/
  | cpSupplyOut (neg : Bool)
  /-- HOLD is below 34 V for 1 s, or its charge rate shows too small a C_HOLD. (R410) -/
  | holdLow
  /-- VBAT_RTC leaves its window for 1 s. (R136) -/
  | vbatLow
  /-- A lane clock is lost; the lane stops and a takeover follows. (R417) -/
  | lanePllLost (lane : Fin 2)
  /-- A peripheral clock domain is lost and its unit stops. (R417) -/
  | periphClockLost (d : Fin 5)
  /-- The beat start is missing for 50 µs or CLK_MAIN is lost, and SAFE_HOLD follows. (R419) -/
  | coreClockLost (which : Fin 3)
  /-- A die sensor at 135 °C for 1 s puts the module in SAFE_HOLD. (R419) -/
  | thermalLimit (die : Fin 6)
  /-- Each second CLK_REF is measured against the chronometer crystal. (R418) -/
  | refClockMeasure (ppm : Int)
  /-- CLK_CHRONO stops and the chronometer counts CLK_REF. (R418) -/
  | chronoXtalStop
  /-- The crystal oscillates stably for 10 s and the chronometer returns to it. (R418) -/
  | chronoXtalRestore
  /-- CLK_CASE is lost and the Case controller watchdog resets the module. (R417) -/
  | caseWatchdogReset
  /-- A read of FLT.E_0 returns the selected entry and latches E_1 to E_7. (R427) -/
  | faultEntryRead (port : Fin 2)
  /-- A read of ESC.ESS_MAX returns and resets the maxima. (R6) -/
  | essMaxRead (port : Fin 2)
  /-- A read of ESC.QUEUE returns and resets FULL_CNT. (R6) -/
  | queueFullCntRead (port : Fin 2)
  /-- A read of ESC.COMP_RUN_k returns and resets the count. (R6) -/
  | compRunRead (port : Fin 2) (k : Fin 8)
  /-- A read of ESC.COMP_DROP_k returns and resets both counts. (R6) -/
  | compDropRead (port : Fin 2) (k : Fin 8)
  /-- A read of SNS.SWING_CNT returns and resets the counts. (R6) -/
  | swingCntRead (port : Fin 2)
  /-- A read of SNS.CH_STAT_n returns and resets OVL. (R6) -/
  | chStatRead (port : Fin 2) (n : Fin 128)
  /-- A read of MTR.Mm_STATE returns and resets SUBST. (R6) -/
  | meterStateRead (port : Fin 2) (m : Fin 32)
  /-- A read of MTR.PLS_STAT_k returns and resets COUNT. (R6) -/
  | plsStatRead (port : Fin 2) (k : Fin 4)
  /-- A read of TOK.COUNT returns and resets both counts. (R6) -/
  | tokCountRead (port : Fin 2)
  /-- A read of SES.Sn_PROTO returns and resets LATE. (R6) -/
  | sesProtoRead (port : Fin 2) (k : Fin 128)
  /-- A read of OUT.On_SLAC returns and resets TRIES. (R6) -/
  | outSlacRead (port : Fin 2) (n : Fin 12)
  /-- A read of GOV.PL_BREACH returns and resets OPENS. (R6) -/
  | plBreachRead (port : Fin 2)
  /-- A read of RED.JOURNAL returns and resets MAX. (R6) -/
  | journalMaxRead (port : Fin 2)
  /-- A read of RED.GAP_MAX returns and resets GAP. (R6) -/
  | gapMaxRead (port : Fin 2)
  /-- A read of RED.CHECKS returns and resets its three counts. (R6) -/
  | redChecksRead (port : Fin 2)
  /-- A read of SAF.COUNT returns and resets both counts. (R6) -/
  | safCountRead (port : Fin 2)
  /-- A read of SAF.REACT returns and resets both maxima. (R6) -/
  | safReactRead (port : Fin 2)
  /-- A read of LCH.Ck_COUNT returns and resets EVENTS. (R6) -/
  | lchCountRead (port : Fin 2) (k : Fin 16)
  /-- A read of BZL.COUNT returns and resets both counts. (R6) -/
  | bzlCountRead (port : Fin 2)
  /-- A read of NFC.RD_COUNT returns and resets both counts. (R6) -/
  | rdCountRead (port : Fin 2)
  /-- A read of NFC.TAG_STAT returns and resets its three counts. (R6) -/
  | tagStatRead (port : Fin 2)
  /-- A read of SIT.COUNT returns and resets both counts. (R6) -/
  | sitCountRead (port : Fin 2)
  /-- A read of SIT.ERR returns and resets its four counts. (R6) -/
  | sitErrRead (port : Fin 2)
  /-- A read of SIT.DROP returns and resets both counts. (R6) -/
  | sitDropRead (port : Fin 2)
  /-- A read of HPD.Pn_ERR returns and resets its four counts. (R6) -/
  | hpdErrRead (port : Fin 2) (n : Fin 2)
  /-- A read of HPD.Pn_CLK returns and resets TXN. (R6) -/
  | hpdClkRead (port : Fin 2) (n : Fin 2)
  /-- A read of ARB.MISS_m returns and resets both fields. (R6) -/
  | arbMissRead (port : Fin 2) (m : Fin 14)
  /-- A read of ARB.WAIT_m returns and resets both fields. (R6) -/
  | arbWaitRead (port : Fin 2) (m : Fin 14)
  /-- A read of ARB.LOAD_b returns and resets PEAK. (R6) -/
  | arbLoadRead (port : Fin 2) (b : Fin 9)
  /-- A read of KEY.JW_USE returns and resets both counts. (R6) -/
  | jwUseRead (port : Fin 2)
  /-- A read of KEY.DRBG returns and resets HEALTH_FAIL. (R6) -/
  | drbgRead (port : Fin 2)
  /-- A read of PWR.VAUX returns and resets MIN. (R6) -/
  | pwrVauxRead (port : Fin 2)
  /-- A read of PWR.DIPS returns and resets both fields. (R6) -/
  | pwrDipsRead (port : Fin 2)
  /-- A read of FLT.STATUS returns and resets OVERRUN. (R6) -/
  | fltStatusRead (port : Fin 2)
  /-- A read of FLT.COUNT returns and resets its four counts. (R6) -/
  | fltCountRead (port : Fin 2)
  /-- Command 0x0101 verifies a full image and writes it to a slot. (R35) -/
  | calLoad (mb : Fin 8) (img : Image)
  /-- Command 0x0102 applies change records to a section and writes the resulting image. (R35) -/
  | calPatch (mb : Fin 8) (img : Image)
  /-- Command 0x0103 restarts staged units, stopping sessions first when forced. (R48) -/
  | calRestartUnits (mb : Fin 8)
  /-- Command 0x0104 aborts a slot write before or after its commit point. (R30) -/
  | calAbort (mb : Fin 8)
  /-- Command 0x0105 returns a slot's header, commit record and state. (R35) -/
  | calSlotInfo (mb : Fin 8)
  /-- Command 0x0106 erases a slot that is not running. (R35) -/
  | calEraseSlot (mb : Fin 8)
  /-- Command 0x0107 judges the crown-tag installer record and writes a slot. (R49) -/
  | calTagInstaller (mb : Fin 8) (img : Image)
  /-- A slot's commit record is read back; the slot runs and the floors rise. (R35) -/
  | slotWriteCommit (back : CommitObs)
  /-- Command 0x0201 sets the mask of suppressed complication kinds. (R69) -/
  | compMask (mb : Fin 8)
  /-- Command 0x0202 sets a lower power ceiling. (R70) -/
  | reserveTighten (mb : Fin 8)
  /-- Command 0x0203 returns the essential cycles and end times per clock step. (R59) -/
  | escPlanInfo (mb : Fin 8)
  /-- Command 0x0301 brings a channel's swing-in forward. (R86) -/
  | snsSwingNow (mb : Fin 8)
  /-- Command 0x0302 aborts a commanded swing-in. (R93) -/
  | snsCalAbort (mb : Fin 8)
  /-- Command 0x0303 takes a known-state offset in an open window. (R94) -/
  | snsKsCal (mb : Fin 8)
  /-- Command 0x0304 runs the reference comparison and returns its result. (R96) -/
  | snsRefCheck (mb : Fin 8) (d10 d0s : Int)
  /-- Command 0x0305 retests a retired modulator for use as a spare. (R90) -/
  | snsSpareRetest (mb : Fin 8) (cal : ModCal)
  /-- Command 0x0306 captures trimmed samples to the Mainplate. (R366) -/
  | snsCapture (mb : Fin 8)
  /-- Command 0x0401 sets WALL by slew, forward step or set-back. (R135) -/
  | lglWallSet (mb : Fin 8)
  /-- Command 0x0402 shows the legal firmware identifier and checksum on the bezel. (R132) -/
  | lglShowId (mb : Fin 8)
  /-- Command 0x0403 copies legal log entries to the Mainplate. (R147) -/
  | lglReadLog (mb : Fin 8)
  /-- Command 0x0404 copies a billing record to the Mainplate. (R141) -/
  | lglReadBilling (mb : Fin 8)
  /-- Command 0x0405 copies class B tamper records to the Mainplate. (R150) -/
  | lglReadTamperB (mb : Fin 8)
  /-- Command 0x0406 closes the billing period in the next beat. (R141) -/
  | lglBillClose (mb : Fin 8)
  /-- Command 0x0407 submits a 20-digit token for an account. (R153) -/
  | tokSubmit (mb : Fin 8)
  /-- Command 0x0408 writes the account's kept token identifiers. (R154) -/
  | tokReadIds (mb : Fin 8)
  /-- Command 0x0501 gives the host's decision on a session. (R173) -/
  | sesAuthorise (mb : Fin 8)
  /-- Command 0x0502 binds an identity and decision to the next plug-in. (R174) -/
  | sesPreauth (mb : Fin 8)
  /-- Command 0x0503 sets a session's power, energy, departure and credit limits. (R172) -/
  | sesLimits (mb : Fin 8)
  /-- Command 0x0504 stops a session through its stop sequence. (R177) -/
  | sesStop (mb : Fin 8)
  /-- Command 0x0505 withdraws a stop before its commit point. (R177) -/
  | sesStopAbort (mb : Fin 8)
  /-- Command 0x0506 writes a session's billing record to the Mainplate. (R179) -/
  | sesCollect (mb : Fin 8)
  /-- Command 0x0507 moves an ENDED session to BILLED on a matching serial. (R179) -/
  | sesAck (mb : Fin 8)
  /-- Command 0x0508 enables or disables an outlet. (R210) -/
  | outEnable (mb : Fin 8)
  /-- Command 0x0509 sets roots, generates the SECC key and CSR, or installs the SECC chain. (R172) -/
  | v2gTrust (mb : Fin 8) (ok : Bool)
  /-- Command 0x050A delivers the backend response of a certificate exchange. (R172) -/
  | v2gCertReply (mb : Fin 8)
  /-- Command 0x0510 clears a weld lockout or an RDC lock. (R193) -/
  | protClear (mb : Fin 8)
  /-- Command 0x0511 runs the residual sensor self-test. (R196) -/
  | rdcTest (mb : Fin 8)
  /-- Command 0x0601 sets the price with its validity. (R216) -/
  | placePrice (mb : Fin 8)
  /-- Command 0x0602 supplies SoC and BMS limits per converter. (R215) -/
  | placeBattery (mb : Fin 8)
  /-- Command 0x0603 lowers the site import limit for a time. (R208) -/
  | placeSiteLimit (mb : Fin 8)
  /-- Command 0x0604 writes the allocation records of the sessions. (R214) -/
  | placeInfo (mb : Fin 8)
  /-- Command 0x0701 requests a tourbillon swap at the next quiet beat. (R249) -/
  | redSwap (mb : Fin 8)
  /-- Command 0x0702 runs a background self-test on a lane. (R250) -/
  | redSelftest (mb : Fin 8)
  /-- Command 0x0703 reboots and resynchronises the standby. (R245) -/
  | redLaneRestart (mb : Fin 8)
  /-- Command 0x0704 brings a retired lane back through resynchronisation. (R247) -/
  | redLaneEnable (mb : Fin 8)
  /-- Command 0x0705 writes the last 16 takeover records. (R239) -/
  | redInfo (mb : Fin 8)
  /-- Command 0x0801 opens the safety unlock with the password. (R266) -/
  | safUnlock (mb : Fin 8)
  /-- Command 0x0802 closes the safety unlock. (R266) -/
  | safLock (mb : Fin 8)
  /-- Command 0x0803 sets or changes the safety password. (R265) -/
  | safSetPassword (mb : Fin 8)
  /-- Command 0x0804 resets named functions and output latches. (R258) -/
  | safReset (mb : Fin 8)
  /-- Command 0x0805 locks or unlocks a guard lock. (R259) -/
  | safGuard (mb : Fin 8)
  /-- Command 0x0806 copies safety change-log entries. (R267) -/
  | safReadLog (mb : Fin 8)
  /-- Command 0x0901 turns host load channels on or off. (R271) -/
  | lchDrive (mb : Fin 8)
  /-- Command 0x0902 starts or stops a motor run on a half-bridge pair. (R281) -/
  | lchMotor (mb : Fin 8)
  /-- Command 0x0903 clears FAULT, stopwork and shed on cooled channels. (R278) -/
  | lchClear (mb : Fin 8)
  /-- Command 0x0904 tests an off channel for a connected load. (R280) -/
  | lchOlTest (mb : Fin 8) (vOut vaux : Int)
  /-- Command 0x0910 transfers a host image to the host field. (R290) -/
  | bzlShow (mb : Fin 8)
  /-- Command 0x0911 marks every line pending once. (R291) -/
  | bzlRefresh (mb : Fin 8)
  /-- Command 0x0912 writes the 512 dot stress counters. (R293) -/
  | bzlStressRead (mb : Fin 8)
  /-- Command 0x0A01 enables or disables the card reader. (R296) -/
  | nfcRdEnable (mb : Fin 8)
  /-- Command 0x0A02 exchanges an APDU with the ISO-DEP card. (R298) -/
  | nfcRdApdu (mb : Fin 8)
  /-- Command 0x0A03 deselects the card. (R297) -/
  | nfcRdRelease (mb : Fin 8)
  /-- Command 0x0A04 returns an HMAC response to a card challenge under a jewel. (R299) -/
  | nfcCardRespond (mb : Fin 8)
  /-- Command 0x0A05 reads crown-tag blocks. (R307) -/
  | nfcTagRead (mb : Fin 8)
  /-- Command 0x0A06 writes crown-tag blocks through the write steps. (R308) -/
  | nfcTagWrite (mb : Fin 8)
  /-- Command 0x0A07 aborts a host tag write before its commit point. (R308) -/
  | nfcTagAbort (mb : Fin 8)
  /-- Command 0x0A08 increments a tag counter C_2 to C_7. (R311) -/
  | nfcTagCounter (mb : Fin 8)
  /-- Command 0x0A09 sets the tag password and PWD_EN. (R303) -/
  | nfcTagPwd (mb : Fin 8)
  /-- Command 0x0A10 sends HOST_DATA to a site-line node. (R323) -/
  | sitSend (mb : Fin 8)
  /-- Command 0x0A11 returns the oldest received HOST_DATA. (R329) -/
  | sitRecv (mb : Fin 8)
  /-- Command 0x0A12 writes the link records of the privileged nodes. (R327) -/
  | sitLinkInfo (mb : Fin 8)
  /-- Command 0x0A13 probes a privileged node for round-trip time and SNR. (R326) -/
  | sitProbe (mb : Fin 8)
  /-- Command 0x0B01 draws a SERVICE challenge for the port. (R381) -/
  | keySvcChallenge (mb : Fin 8)
  /-- Command 0x0B02 judges a response and puts the port in SERVICE. (R381) -/
  | keySvcResponse (mb : Fin 8)
  /-- Command 0x0B03 returns a jewel's public key. (R382) -/
  | keyPublic (mb : Fin 8)
  /-- Command 0x0B04 unwraps a value into a jewel. (R382) -/
  | keyImport (mb : Fin 8)
  /-- Command 0x0B05 generates a key pair in a jewel. (R373) -/
  | keyGenerate (mb : Fin 8)
  /-- Command 0x0B06 returns a response to a challenge under a jewel. (R380) -/
  | keyRespond (mb : Fin 8)
  /-- Command 0x0B07 erases a user jewel. (R376) -/
  | keyErase (mb : Fin 8)
  /-- Command 0x0B08 wraps an exportable user jewel for a recipient. (R383) -/
  | keyExport (mb : Fin 8)
  /-- Command 0x0B09 blows the fuses of the next life-cycle state. (R386) -/
  | keyLcAdvance (mb : Fin 8)
  /-- Command 0x0B10 judges an update header and starts a load. (R391) -/
  | updBegin (mb : Fin 8)
  /-- Command 0x0B11 delivers consecutive update segments. (R393) -/
  | updChunk (mb : Fin 8) (bad : Option (Fin 128))
  /-- Command 0x0B12 aborts a load before its commit point. (R394) -/
  | updAbort (mb : Fin 8)
  /-- Command 0x0B13 activates a loaded component. (R396) -/
  | updActivate (mb : Fin 8)
  /-- Command 0x0B14 writes the 7 version records. (R388) -/
  | updInfo (mb : Fin 8)
  /-- Command 0x0C01 copies hourly wear records. (R408) -/
  | wearReadHourly (mb : Fin 8)
  /-- Command 0x0C02 copies yearly wear summaries. (R409) -/
  | wearReadYearly (mb : Fin 8)
  /-- Command 0x0C03 recomputes the margin estimates. (R407) -/
  | wearEstimate (mb : Fin 8)
  /-- VAUX falls below V_RESET while staying at 4.5 V or above; the remontoire feeds the Case die's gate drive
  and state logic from HOLD, and the 50 ms dip time starts. (R412) -/
  | remontoireOn
  /-- VAUX returns above V_RESET within 50 ms; the remontoire stops feeding the Case die from HOLD and no reset
  follows. (R412) -/
  | remontoireOff
  /-- VCPP, VCPN, HOLD or VBAT_RTC has been inside its window for 2 ms and counts as back in range, ending its
  out-of-range response. (R410) -/
  | railBackInRange (rail : Fin 4)
  /-- A lost peripheral clock domain is again within 2 % of its frequency at the Case die's frequency monitor,
  and its LOST state ends. (R417) -/
  | periphClockReturn (d : Fin 5)
  /-- An OFDM preamble is detected but is lost, or its FCH fails its CRC; the frame is aborted, nothing of it
  is used and no ACK is sent. (R333) -/
  | preambleLost
  /-- A block from the selected card arrives (I-block, R-block or a waiting-time extension request) and the
  ISO-DEP exchange advances, chains or completes its APDU reply. (R298) -/
  | isoDepBlockReceived (b : IsoBlock)
  /-- The SEL_0 to SEL_3 balls change while LCH.ISNS.SRC is 0, and the current mirror switches to the newly
  selected channel within 20 µs. (R284) -/
  | isnsSelectionChange (sel : Fin 16)
  /-- A unit restarted by CAL_RESTART_UNITS or by a firmware activation, such as SITE, METER or a CASE_FW,
  DIAL_FW, SITE_FW or GP_FW restart, runs again, and the waiting command is answered. (R47) -/
  | unitRestartDone (unit : Fin 23)
  /-- No quiet beat has come within 60 s of a RED_SWAP command, and the command is answered TIMEOUT. (R249) -/
  | redSwapTimeout
  /-- TMP_COVER_N or TMP_DOOR_N reads below 0.3 × VBAT_RTC, so the switch reads closed and a later opening can
  count as a new occurrence. (R149) -/
  | tamperClosedReading (door : Bool)
  /-- A new 60° sextant of the mains cycle begins, at which OFDM preambles, FCHs, segments, ACKs and RETX
  frames are placed and the quiet-sextant and backoff counts advance. (R322) -/
  | sextantStart (j : Fin 6) (energy : Bool)
  deriving DecidableEq, Repr

end Sys2Proof
end

