-- ==== Sys2Proof/Decode.lean ====
section
/-! DEFINITION. Reading a command from the table's bits. No row of spec/opcode_table.json gives bits (a command of the
block is an operation at a port, an event or a row of a command table, never an encoded word), so no word spells a
command. -/
namespace Sys2Proof

/-- The command a word spells by the table's bits: none, since no row gives bits (log entry 8). -/
def decodeTableWord (_nbits _w : Nat) : Option Instr := none

end Sys2Proof
end

