-- ==== Sys2Proof/Config.lean ====
section
/-! DEFINITION. The free values of the model: what the spec leaves open (random draws, results of
elliptic curves, keys the spec does not give, filter coefficients). Each is an opaque constant: nothing constrains it. -/
namespace Sys2Proof.Config

/-- The n-th free value drawn (log entry 4). -/
opaque freeValue : Nat → Nat

/-- The nonce of an ECDSA signature by key and hash value (R178, FIPS 186-5: drawn, or derived; log entry 7). -/
opaque signNonce : Nat → List Nat → Nat

/-- Tap k of the fractional-delay filter FD_D in 2^-30 (R103 gives its length and delay, no taps; log entry 14). -/
opaque fdTap : Int → Nat → Int

/-- Tap k of the 63-tap Hilbert filter in 2^-30 (R108 gives its shift and delay, no taps; log entry 14). -/
opaque hilbertTap : Nat → Int

/-- The certificate signing request that V2G_TRUST writes for the n-th key drawn (R172): its bytes and its length are not
given (log entry 7). -/
opaque csr : Nat → List Byte

/-- The 64 dots of a line of the legal field for a content (R289: the glyph map is the LEGAL section's, and the spec gives
none; log entry 43). -/
opaque legalDots : List Int → Nat → Nat

/-- The fused root J_0 of the module (R372; log entry 7). -/
opaque fusedRoot : Nat

/-- The bytes of a V2G segment that an outlet sends (R171): what it carries (0 response, 1 refusal, 2 response to SessionStop, 3 no
protocol), outlet, TCP sequence number, whether it says ongoing, whether it notifies the vehicle of a stop. The messages are those of the V2G standards, which the spec names and does not give (log entry 140). -/
opaque v2gSegment : Nat → Nat → Nat → Bool → Bool → List Byte

/-- On-resistance in mΩ with which the Case die estimates the loss of a load channel (R282); R270 gives only that it is at most 80 mΩ. -/
opaque rOn : Nat → Nat

/-- The Novbel firmware key in ROM, a public key of P-384 (R389; log entry 7). -/
opaque firmwareKey : List Nat

/-- The Novbel legal key in ROM, a public key of P-384 (R32; log entry 7). -/
opaque legalKey : List Nat

/-- The bytes of a version record by component (R393, UPD_INFO: the fields it names exceed the 96 bytes of the command's reply,
and no layout is given; log entry 49): version, length, MIRROR, MIRROR_ALT, vector. -/
opaque versionRecord : Nat → Nat → Nat → Nat → Nat → List (Nat × Nat) → List Byte

/-- The 256 bytes of a yearly wear summary (R409, which names what it holds and gives no layout; log entry 51): minimum, maximum
and mean of each field over the year, the eight estimates, the times of steps and shortenings. -/
opaque yearSummary : List (Int × Int × Int) → List Nat → List (Nat × Nat) → List Byte

/-- Whether a lane address lies in the legal flash region (R129 names the region, and the spec gives no bounds; log entry 152). -/
opaque legalFlash : Nat → Bool

/-- The bits of the crown tag's ATQA and SAK that the spec leaves open (R301; log entry 157). -/
opaque tagAtqa : Nat
opaque tagSak : Nat

end Sys2Proof.Config
end

