-- ==== Sys2Proof/Machine/RegMap.lean ====
section
/-! DEFINITION. The register maps of spec/*.md as data: the address of every register (A_…), the place of every
field (block_register_field), and one row per register with its access masks (R6) and its reset value.
A reset value the map gives as 'cal', 'nv' or '—' is the default its description states, else 0
(DESIGN CHOICE, log entry 2). -/
namespace Sys2Proof.Machine

/-- GLB.ID, 01_architecture.md. -/
def A_GLB_ID : Nat := 0x0
def GLB_ID_VENDOR : Fld := ⟨A_GLB_ID, 16, 16⟩
def GLB_ID_PART : Fld := ⟨A_GLB_ID, 0, 16⟩
/-- GLB.REV, 01_architecture.md. -/
def A_GLB_REV : Nat := 0x4
def GLB_REV_LEGAL_BUILD : Fld := ⟨A_GLB_REV, 16, 16⟩
def GLB_REV_SILICON : Fld := ⟨A_GLB_REV, 8, 8⟩
def GLB_REV_STEP : Fld := ⟨A_GLB_REV, 0, 8⟩
/-- GLB.SERIAL_LO, 01_architecture.md. -/
def A_GLB_SERIAL_LO : Nat := 0x8
def GLB_SERIAL_LO_SERIAL_LO : Fld := ⟨A_GLB_SERIAL_LO, 0, 32⟩
/-- GLB.SERIAL_HI, 01_architecture.md. -/
def A_GLB_SERIAL_HI : Nat := 0xc
def GLB_SERIAL_HI_SERIAL_HI : Fld := ⟨A_GLB_SERIAL_HI, 0, 32⟩
/-- GLB.LEGAL_FW_ID, 01_architecture.md. -/
def A_GLB_LEGAL_FW_ID : Nat := 0x10
def GLB_LEGAL_FW_ID_ID : Fld := ⟨A_GLB_LEGAL_FW_ID, 0, 32⟩
/-- GLB.LEGAL_FW_SUM, 01_architecture.md. -/
def A_GLB_LEGAL_FW_SUM : Nat := 0x14
def GLB_LEGAL_FW_SUM_SUM : Fld := ⟨A_GLB_LEGAL_FW_SUM, 0, 32⟩
/-- GLB.STATE, 01_architecture.md. -/
def A_GLB_STATE : Nat := 0x20
def GLB_STATE_CAUSE : Fld := ⟨A_GLB_STATE, 16, 16⟩
def GLB_STATE_STANDBY_OK : Fld := ⟨A_GLB_STATE, 9, 1⟩
def GLB_STATE_ACTIVE : Fld := ⟨A_GLB_STATE, 8, 1⟩
def GLB_STATE_STATE : Fld := ⟨A_GLB_STATE, 0, 4⟩
/-- GLB.LIFECYCLE, 01_architecture.md. -/
def A_GLB_LIFECYCLE : Nat := 0x24
def GLB_LIFECYCLE_LC : Fld := ⟨A_GLB_LIFECYCLE, 0, 3⟩
/-- GLB.WORLD, 01_architecture.md. -/
def A_GLB_WORLD : Nat := 0x28
def GLB_WORLD_SVC_MIN1 : Fld := ⟨A_GLB_WORLD, 24, 8⟩
def GLB_WORLD_SVC_MIN0 : Fld := ⟨A_GLB_WORLD, 16, 8⟩
def GLB_WORLD_HP1 : Fld := ⟨A_GLB_WORLD, 2, 2⟩
def GLB_WORLD_HP0 : Fld := ⟨A_GLB_WORLD, 0, 2⟩
/-- GLB.POLL, 01_architecture.md. -/
def A_GLB_POLL : Nat := 0x30
def GLB_POLL_CHANGE_CNT : Fld := ⟨A_GLB_POLL, 28, 4⟩
def GLB_POLL_FAULT : Fld := ⟨A_GLB_POLL, 27, 1⟩
def GLB_POLL_EVENT : Fld := ⟨A_GLB_POLL, 26, 1⟩
def GLB_POLL_MBX_OUT : Fld := ⟨A_GLB_POLL, 25, 1⟩
def GLB_POLL_MBX_COLL : Fld := ⟨A_GLB_POLL, 24, 1⟩
def GLB_POLL_DOORBELL : Fld := ⟨A_GLB_POLL, 23, 1⟩
def GLB_POLL_SES_ENDED : Fld := ⟨A_GLB_POLL, 22, 1⟩
def GLB_POLL_LEGAL : Fld := ⟨A_GLB_POLL, 21, 1⟩
def GLB_POLL_TAMPER : Fld := ⟨A_GLB_POLL, 20, 1⟩
def GLB_POLL_SAFETY : Fld := ⟨A_GLB_POLL, 19, 1⟩
def GLB_POLL_OUTLET : Fld := ⟨A_GLB_POLL, 18, 1⟩
def GLB_POLL_PLACE : Fld := ⟨A_GLB_POLL, 17, 1⟩
def GLB_POLL_SUPPLY : Fld := ⟨A_GLB_POLL, 16, 1⟩
def GLB_POLL_LOAD : Fld := ⟨A_GLB_POLL, 15, 1⟩
def GLB_POLL_NFC : Fld := ⟨A_GLB_POLL, 14, 1⟩
def GLB_POLL_SITE : Fld := ⟨A_GLB_POLL, 13, 1⟩
def GLB_POLL_UPDATE : Fld := ⟨A_GLB_POLL, 12, 1⟩
def GLB_POLL_WEAR : Fld := ⟨A_GLB_POLL, 11, 1⟩
def GLB_POLL_CALIBRE : Fld := ⟨A_GLB_POLL, 10, 1⟩
def GLB_POLL_STATE : Fld := ⟨A_GLB_POLL, 0, 4⟩
/-- GLB.EVENTS, 01_architecture.md. -/
def A_GLB_EVENTS : Nat := 0x34
def GLB_EVENTS_BEAT_LATE : Fld := ⟨A_GLB_EVENTS, 3, 1⟩
def GLB_EVENTS_LANE : Fld := ⟨A_GLB_EVENTS, 2, 1⟩
def GLB_EVENTS_STATE_CHG : Fld := ⟨A_GLB_EVENTS, 1, 1⟩
def GLB_EVENTS_RESET_SEEN : Fld := ⟨A_GLB_EVENTS, 0, 1⟩
/-- GLB.RESET_CAUSE, 01_architecture.md. -/
def A_GLB_RESET_CAUSE : Nat := 0x38
def GLB_RESET_CAUSE_COUNT : Fld := ⟨A_GLB_RESET_CAUSE, 8, 8⟩
def GLB_RESET_CAUSE_CAUSE : Fld := ⟨A_GLB_RESET_CAUSE, 0, 8⟩
/-- GLB.RESET, 01_architecture.md. -/
def A_GLB_RESET : Nat := 0x40
def GLB_RESET_KEY : Fld := ⟨A_GLB_RESET, 16, 16⟩
def GLB_RESET_ACTION : Fld := ⟨A_GLB_RESET, 0, 4⟩
/-- GLB.SCRATCH, 01_architecture.md. -/
def A_GLB_SCRATCH : Nat := 0x50
def GLB_SCRATCH_DATA : Fld := ⟨A_GLB_SCRATCH, 0, 32⟩
/-- CAL.STATUS, 02_calibre.md. -/
def A_CAL_STATUS : Nat := 0x3000
def CAL_STATUS_SAFETY_UNLOCK : Fld := ⟨A_CAL_STATUS, 15, 1⟩
def CAL_STATUS_TAG_TAKEN : Fld := ⟨A_CAL_STATUS, 14, 1⟩
def CAL_STATUS_WRITE_BUSY : Fld := ⟨A_CAL_STATUS, 13, 1⟩
def CAL_STATUS_FALLBACK : Fld := ⟨A_CAL_STATUS, 12, 1⟩
def CAL_STATUS_SLOT1 : Fld := ⟨A_CAL_STATUS, 8, 4⟩
def CAL_STATUS_SLOT0 : Fld := ⟨A_CAL_STATUS, 4, 4⟩
def CAL_STATUS_RUN_SLOT : Fld := ⟨A_CAL_STATUS, 0, 1⟩
/-- CAL.SLOT0_SEQ, 02_calibre.md. -/
def A_CAL_SLOT0_SEQ : Nat := 0x3004
def CAL_SLOT0_SEQ_SEQ : Fld := ⟨A_CAL_SLOT0_SEQ, 0, 32⟩
/-- CAL.SLOT1_SEQ, 02_calibre.md. -/
def A_CAL_SLOT1_SEQ : Nat := 0x3008
def CAL_SLOT1_SEQ_SEQ : Fld := ⟨A_CAL_SLOT1_SEQ, 0, 32⟩
/-- CAL.VER_LEGAL, 02_calibre.md. -/
def A_CAL_VER_LEGAL : Nat := 0x3010
def CAL_VER_LEGAL_VERSION : Fld := ⟨A_CAL_VER_LEGAL, 0, 32⟩
/-- CAL.VER_SAFETY, 02_calibre.md. -/
def A_CAL_VER_SAFETY : Nat := 0x3014
def CAL_VER_SAFETY_VERSION : Fld := ⟨A_CAL_VER_SAFETY, 0, 32⟩
/-- CAL.VER_OPERATOR, 02_calibre.md. -/
def A_CAL_VER_OPERATOR : Nat := 0x3018
def CAL_VER_OPERATOR_VERSION : Fld := ⟨A_CAL_VER_OPERATOR, 0, 32⟩
/-- CAL.VER_INSTALLER, 02_calibre.md. -/
def A_CAL_VER_INSTALLER : Nat := 0x301c
def CAL_VER_INSTALLER_VERSION : Fld := ⟨A_CAL_VER_INSTALLER, 0, 32⟩
/-- CAL.DIGEST, 02_calibre.md. -/
def A_CAL_DIGEST : Nat := 0x3020
/-- CAL.STAGED, 02_calibre.md. -/
def A_CAL_STAGED : Nat := 0x3030
def CAL_STAGED_MODULE : Fld := ⟨A_CAL_STAGED, 31, 1⟩
def CAL_STAGED_OUTLET : Fld := ⟨A_CAL_STAGED, 8, 12⟩
def CAL_STAGED_SITE : Fld := ⟨A_CAL_STAGED, 7, 1⟩
def CAL_STAGED_BEZEL : Fld := ⟨A_CAL_STAGED, 6, 1⟩
def CAL_STAGED_LOADCH : Fld := ⟨A_CAL_STAGED, 5, 1⟩
def CAL_STAGED_SAFETY : Fld := ⟨A_CAL_STAGED, 4, 1⟩
def CAL_STAGED_METER : Fld := ⟨A_CAL_STAGED, 3, 1⟩
def CAL_STAGED_PULSE : Fld := ⟨A_CAL_STAGED, 2, 1⟩
/-- CAL.STAGED_METERS, 02_calibre.md. -/
def A_CAL_STAGED_METERS : Nat := 0x3034
def CAL_STAGED_METERS_METERS : Fld := ⟨A_CAL_STAGED_METERS, 0, 32⟩
/-- CAL.REFUSE, 02_calibre.md. -/
def A_CAL_REFUSE : Nat := 0x3038
def CAL_REFUSE_CODE : Fld := ⟨A_CAL_REFUSE, 16, 16⟩
def CAL_REFUSE_SOURCE : Fld := ⟨A_CAL_REFUSE, 12, 4⟩
def CAL_REFUSE_SECTION : Fld := ⟨A_CAL_REFUSE, 8, 4⟩
def CAL_REFUSE_DETAIL : Fld := ⟨A_CAL_REFUSE, 0, 8⟩
/-- CAL.EVENTS, 02_calibre.md. -/
def A_CAL_EVENTS : Nat := 0x303c
def CAL_EVENTS_STAGED : Fld := ⟨A_CAL_EVENTS, 5, 1⟩
def CAL_EVENTS_FALLBACK : Fld := ⟨A_CAL_EVENTS, 4, 1⟩
def CAL_EVENTS_TAG_TAKEN : Fld := ⟨A_CAL_EVENTS, 3, 1⟩
def CAL_EVENTS_REFUSED : Fld := ⟨A_CAL_EVENTS, 2, 1⟩
def CAL_EVENTS_PATCH_DONE : Fld := ⟨A_CAL_EVENTS, 1, 1⟩
def CAL_EVENTS_IMAGE_NEEDED : Fld := ⟨A_CAL_EVENTS, 0, 1⟩
/-- CAL.START_TIME, 02_calibre.md. -/
def A_CAL_START_TIME : Nat := 0x3040
def CAL_START_TIME_TIME : Fld := ⟨A_CAL_START_TIME, 0, 16⟩
/-- ESC.BEATNO_LO, 03_escapement.md. -/
def A_ESC_BEATNO_LO : Nat := 0x4000
def ESC_BEATNO_LO_BEATNO_LO : Fld := ⟨A_ESC_BEATNO_LO, 0, 32⟩
/-- ESC.BEATNO_HI, 03_escapement.md. -/
def A_ESC_BEATNO_HI : Nat := 0x4004
def ESC_BEATNO_HI_BEATNO_HI : Fld := ⟨A_ESC_BEATNO_HI, 0, 16⟩
/-- ESC.BEAT_CFG, 03_escapement.md. -/
def A_ESC_BEAT_CFG : Nat := 0x4010
def ESC_BEAT_CFG_PLAN : Fld := ⟨A_ESC_BEAT_CFG, 16, 8⟩
def ESC_BEAT_CFG_LOWEST_CLOCK : Fld := ⟨A_ESC_BEAT_CFG, 8, 2⟩
def ESC_BEAT_CFG_STEP : Fld := ⟨A_ESC_BEAT_CFG, 0, 2⟩
/-- ESC.ESS_TIME, 03_escapement.md. -/
def A_ESC_ESS_TIME : Nat := 0x4014
def ESC_ESS_TIME_CMD_LAST : Fld := ⟨A_ESC_ESS_TIME, 16, 16⟩
def ESC_ESS_TIME_ESS_LAST : Fld := ⟨A_ESC_ESS_TIME, 0, 16⟩
/-- ESC.ESS_MAX, 03_escapement.md. -/
def A_ESC_ESS_MAX : Nat := 0x4018
def ESC_ESS_MAX_CMD_MAX : Fld := ⟨A_ESC_ESS_MAX, 16, 16⟩
def ESC_ESS_MAX_ESS_MAX : Fld := ⟨A_ESC_ESS_MAX, 0, 16⟩
/-- ESC.LATE_TOTAL, 03_escapement.md. -/
def A_ESC_LATE_TOTAL : Nat := 0x4020
def ESC_LATE_TOTAL_COUNT : Fld := ⟨A_ESC_LATE_TOTAL, 0, 32⟩
/-- ESC.LATE_STATE, 03_escapement.md. -/
def A_ESC_LATE_STATE : Nat := 0x4024
def ESC_LATE_STATE_WINDOW : Fld := ⟨A_ESC_LATE_STATE, 16, 11⟩
def ESC_LATE_STATE_CONSEC : Fld := ⟨A_ESC_LATE_STATE, 8, 2⟩
def ESC_LATE_STATE_COMMON_CNT : Fld := ⟨A_ESC_LATE_STATE, 0, 8⟩
/-- ESC.QUEUE, 03_escapement.md. -/
def A_ESC_QUEUE : Nat := 0x4028
def ESC_QUEUE_FULL_CNT : Fld := ⟨A_ESC_QUEUE, 16, 16⟩
def ESC_QUEUE_DEPTH : Fld := ⟨A_ESC_QUEUE, 0, 9⟩
/-- ESC.EVENTS, 03_escapement.md. -/
def A_ESC_EVENTS : Nat := 0x402c
def ESC_EVENTS_QUEUE_FULL : Fld := ⟨A_ESC_EVENTS, 4, 1⟩
def ESC_EVENTS_COMP_OVERRUN : Fld := ⟨A_ESC_EVENTS, 3, 1⟩
def ESC_EVENTS_COMP_DROP : Fld := ⟨A_ESC_EVENTS, 2, 1⟩
def ESC_EVENTS_OVERRUN : Fld := ⟨A_ESC_EVENTS, 1, 1⟩
def ESC_EVENTS_LATE : Fld := ⟨A_ESC_EVENTS, 0, 1⟩
/-- ESC.COMP_RUN_k, 03_escapement.md. -/
def A_ESC_COMP_RUN (k : Nat) : Nat := 0x4040 + 8 * k
def ESC_COMP_RUN_RUN (k : Nat) : Fld := ⟨A_ESC_COMP_RUN k, 0, 32⟩
/-- ESC.COMP_DROP_k, 03_escapement.md. -/
def A_ESC_COMP_DROP (k : Nat) : Nat := 0x4044 + 8 * k
def ESC_COMP_DROP_OVR (k : Nat) : Fld := ⟨A_ESC_COMP_DROP k, 16, 16⟩
def ESC_COMP_DROP_DROP (k : Nat) : Fld := ⟨A_ESC_COMP_DROP k, 0, 16⟩
/-- GOV.RES_STATE, 03_escapement.md. -/
def A_GOV_RES_STATE : Nat := 0x38000
def GOV_RES_STATE_ADMITTED : Fld := ⟨A_GOV_RES_STATE, 16, 8⟩
def GOV_RES_STATE_ALLOWED : Fld := ⟨A_GOV_RES_STATE, 8, 8⟩
def GOV_RES_STATE_CEIL : Fld := ⟨A_GOV_RES_STATE, 5, 1⟩
def GOV_RES_STATE_THERM : Fld := ⟨A_GOV_RES_STATE, 2, 2⟩
def GOV_RES_STATE_SUPPLY : Fld := ⟨A_GOV_RES_STATE, 0, 2⟩
/-- GOV.RES_TEMP, 03_escapement.md. -/
def A_GOV_RES_TEMP : Nat := 0x38004
def GOV_RES_TEMP_CASE_T : Fld := ⟨A_GOV_RES_TEMP, 16, 16⟩
def GOV_RES_TEMP_LANE_T : Fld := ⟨A_GOV_RES_TEMP, 0, 16⟩
/-- GOV.RES_POWER, 03_escapement.md. -/
def A_GOV_RES_POWER : Nat := 0x38008
def GOV_RES_POWER_CEIL_EFF : Fld := ⟨A_GOV_RES_POWER, 16, 16⟩
def GOV_RES_POWER_EST : Fld := ⟨A_GOV_RES_POWER, 0, 16⟩
/-- GOV.RES_THERM_CFG, 03_escapement.md. -/
def A_GOV_RES_THERM_CFG : Nat := 0x3800c
def GOV_RES_THERM_CFG_CASE_END : Fld := ⟨A_GOV_RES_THERM_CFG, 24, 8⟩
def GOV_RES_THERM_CFG_CASE_START : Fld := ⟨A_GOV_RES_THERM_CFG, 16, 8⟩
def GOV_RES_THERM_CFG_HOT : Fld := ⟨A_GOV_RES_THERM_CFG, 8, 8⟩
def GOV_RES_THERM_CFG_WARM : Fld := ⟨A_GOV_RES_THERM_CFG, 0, 8⟩
/-- GOV.RES_CEIL_CFG, 03_escapement.md. -/
def A_GOV_RES_CEIL_CFG : Nat := 0x38010
def GOV_RES_CEIL_CFG_ISLAND : Fld := ⟨A_GOV_RES_CEIL_CFG, 16, 16⟩
def GOV_RES_CEIL_CFG_NORMAL : Fld := ⟨A_GOV_RES_CEIL_CFG, 0, 16⟩
/-- GOV.RES_HOST, 03_escapement.md. -/
def A_GOV_RES_HOST : Nat := 0x38014
def GOV_RES_HOST_KIND_MASK : Fld := ⟨A_GOV_RES_HOST, 16, 8⟩
def GOV_RES_HOST_TIGHTEN : Fld := ⟨A_GOV_RES_HOST, 0, 16⟩
/-- GOV.RES_KINDS, 03_escapement.md. -/
def A_GOV_RES_KINDS : Nat := 0x38018
def GOV_RES_KINDS_ISLAND_OK : Fld := ⟨A_GOV_RES_KINDS, 8, 8⟩
def GOV_RES_KINDS_ENABLE : Fld := ⟨A_GOV_RES_KINDS, 0, 8⟩
/-- GOV.BUDGET_ROUND, 03_escapement.md. -/
def A_GOV_BUDGET_ROUND : Nat := 0x38020
def GOV_BUDGET_ROUND_ROUND : Fld := ⟨A_GOV_BUDGET_ROUND, 0, 32⟩
/-- GOV.BUDGET_DERATE, 03_escapement.md. -/
def A_GOV_BUDGET_DERATE : Nat := 0x38024
def GOV_BUDGET_DERATE_SUPPLY : Fld := ⟨A_GOV_BUDGET_DERATE, 18, 2⟩
def GOV_BUDGET_DERATE_DERATE : Fld := ⟨A_GOV_BUDGET_DERATE, 0, 17⟩
/-- GOV.BUDGET_AUX, 03_escapement.md. -/
def A_GOV_BUDGET_AUX : Nat := 0x38028
def GOV_BUDGET_AUX_AUX : Fld := ⟨A_GOV_BUDGET_AUX, 0, 16⟩
/-- GOV.BUDGET_HEAD, 03_escapement.md. -/
def A_GOV_BUDGET_HEAD : Nat := 0x3802c
def GOV_BUDGET_HEAD_CASE_HEAD : Fld := ⟨A_GOV_BUDGET_HEAD, 16, 16⟩
def GOV_BUDGET_HEAD_LANE_HEAD : Fld := ⟨A_GOV_BUDGET_HEAD, 0, 16⟩
/-- GOV.RES_EVENTS, 03_escapement.md. -/
def A_GOV_RES_EVENTS : Nat := 0x38030
def GOV_RES_EVENTS_DERATE : Fld := ⟨A_GOV_RES_EVENTS, 3, 1⟩
def GOV_RES_EVENTS_CEIL : Fld := ⟨A_GOV_RES_EVENTS, 2, 1⟩
def GOV_RES_EVENTS_SUPPLY_CHG : Fld := ⟨A_GOV_RES_EVENTS, 1, 1⟩
def GOV_RES_EVENTS_THERM_CHG : Fld := ⟨A_GOV_RES_EVENTS, 0, 1⟩
/-- SNS.STATUS, 04_sense.md. -/
def A_SNS_STATUS : Nat := 0x8000
def SNS_STATUS_SPARES : Fld := ⟨A_SNS_STATUS, 16, 8⟩
def SNS_STATUS_RETIRED : Fld := ⟨A_SNS_STATUS, 8, 8⟩
def SNS_STATUS_SWING_SUSP : Fld := ⟨A_SNS_STATUS, 2, 1⟩
def SNS_STATUS_ACCURACY : Fld := ⟨A_SNS_STATUS, 1, 1⟩
def SNS_STATUS_REF_ACTIVE : Fld := ⟨A_SNS_STATUS, 0, 1⟩
/-- SNS.DIAL_T, 04_sense.md. -/
def A_SNS_DIAL_T : Nat := 0x8004
def SNS_DIAL_T_TEMP : Fld := ⟨A_SNS_DIAL_T, 0, 16⟩
/-- SNS.REF_DIFF, 04_sense.md. -/
def A_SNS_REF_DIFF : Nat := 0x8008
def SNS_REF_DIFF_SEC_DIFF : Fld := ⟨A_SNS_REF_DIFF, 16, 16⟩
def SNS_REF_DIFF_BG_DIFF : Fld := ⟨A_SNS_REF_DIFF, 0, 16⟩
/-- SNS.SWING_CFG, 04_sense.md. -/
def A_SNS_SWING_CFG : Nat := 0x8010
def SNS_SWING_CFG_PERIOD : Fld := ⟨A_SNS_SWING_CFG, 16, 16⟩
def SNS_SWING_CFG_TEMP_TRIG : Fld := ⟨A_SNS_SWING_CFG, 8, 8⟩
def SNS_SWING_CFG_MAX_PAR : Fld := ⟨A_SNS_SWING_CFG, 0, 3⟩
/-- SNS.SWING_STATE, 04_sense.md. -/
def A_SNS_SWING_STATE : Nat := 0x8014
def SNS_SWING_STATE_BUSY : Fld := ⟨A_SNS_SWING_STATE, 31, 1⟩
def SNS_SWING_STATE_PHASE : Fld := ⟨A_SNS_SWING_STATE, 28, 3⟩
def SNS_SWING_STATE_CHAN : Fld := ⟨A_SNS_SWING_STATE, 21, 7⟩
def SNS_SWING_STATE_OLD_MOD : Fld := ⟨A_SNS_SWING_STATE, 14, 7⟩
def SNS_SWING_STATE_SPARE : Fld := ⟨A_SNS_SWING_STATE, 7, 7⟩
/-- SNS.SWING_CNT, 04_sense.md. -/
def A_SNS_SWING_CNT : Nat := 0x8018
def SNS_SWING_CNT_FAILED : Fld := ⟨A_SNS_SWING_CNT, 16, 16⟩
def SNS_SWING_CNT_DONE : Fld := ⟨A_SNS_SWING_CNT, 0, 16⟩
/-- SNS.IB_DELAY, 04_sense.md. -/
def A_SNS_IB_DELAY : Nat := 0x8020
def SNS_IB_DELAY_GRP (g : Nat) : Fld := ⟨A_SNS_IB_DELAY, 0 + 4 * g, 4⟩
/-- SNS.IB_CLK, 04_sense.md. -/
def A_SNS_IB_CLK : Nat := 0x8024
def SNS_IB_CLK_FAULT : Fld := ⟨A_SNS_IB_CLK, 8, 8⟩
def SNS_IB_CLK_EN : Fld := ⟨A_SNS_IB_CLK, 0, 8⟩
/-- SNS.CH_MAP_n, 04_sense.md. -/
def A_SNS_CH_MAP (n : Nat) : Nat := 0x8400 + 16 * n
def SNS_CH_MAP_SRC (n : Nat) : Fld := ⟨A_SNS_CH_MAP n, 30, 2⟩
def SNS_CH_MAP_GAIN (n : Nat) : Fld := ⟨A_SNS_CH_MAP n, 27, 3⟩
def SNS_CH_MAP_MOD_B (n : Nat) : Fld := ⟨A_SNS_CH_MAP n, 16, 7⟩
def SNS_CH_MAP_MOD_A (n : Nat) : Fld := ⟨A_SNS_CH_MAP n, 8, 7⟩
def SNS_CH_MAP_INPUT (n : Nat) : Fld := ⟨A_SNS_CH_MAP n, 0, 6⟩
/-- SNS.CH_STAT_n, 04_sense.md. -/
def A_SNS_CH_STAT (n : Nat) : Nat := 0x8404 + 16 * n
def SNS_CH_STAT_OVL (n : Nat) : Fld := ⟨A_SNS_CH_STAT n, 16, 16⟩
def SNS_CH_STAT_STALE (n : Nat) : Fld := ⟨A_SNS_CH_STAT n, 7, 1⟩
def SNS_CH_STAT_KS_REFUSED (n : Nat) : Fld := ⟨A_SNS_CH_STAT n, 6, 1⟩
def SNS_CH_STAT_MATCH_DEG (n : Nat) : Fld := ⟨A_SNS_CH_STAT n, 5, 1⟩
def SNS_CH_STAT_SUSPECT (n : Nat) : Fld := ⟨A_SNS_CH_STAT n, 4, 1⟩
def SNS_CH_STAT_SWINGING (n : Nat) : Fld := ⟨A_SNS_CH_STAT n, 3, 1⟩
def SNS_CH_STAT_INVALID (n : Nat) : Fld := ⟨A_SNS_CH_STAT n, 2, 1⟩
/-- SNS.CH_CAL_n, 04_sense.md. -/
def A_SNS_CH_CAL (n : Nat) : Nat := 0x8408 + 16 * n
def SNS_CH_CAL_AGE (n : Nat) : Fld := ⟨A_SNS_CH_CAL n, 16, 16⟩
def SNS_CH_CAL_MATCH (n : Nat) : Fld := ⟨A_SNS_CH_CAL n, 0, 16⟩
/-- SNS.CH_TRIM_n, 04_sense.md. -/
def A_SNS_CH_TRIM (n : Nat) : Nat := 0x840c + 16 * n
def SNS_CH_TRIM_OFFSET (n : Nat) : Fld := ⟨A_SNS_CH_TRIM n, 0, 32⟩
/-- SNS.MOD_STATE_k, 04_sense.md. -/
def A_SNS_MOD_STATE (k : Nat) : Nat := 0x9000 + 8 * k
def SNS_MOD_STATE_ROLE (k : Nat) : Fld := ⟨A_SNS_MOD_STATE k, 29, 3⟩
def SNS_MOD_STATE_CHAN (k : Nat) : Fld := ⟨A_SNS_MOD_STATE k, 22, 7⟩
def SNS_MOD_STATE_GAIN (k : Nat) : Fld := ⟨A_SNS_MOD_STATE k, 19, 3⟩
def SNS_MOD_STATE_HIGH (k : Nat) : Fld := ⟨A_SNS_MOD_STATE k, 18, 1⟩
def SNS_MOD_STATE_CAL_T (k : Nat) : Fld := ⟨A_SNS_MOD_STATE k, 0, 16⟩
/-- SNS.MOD_HEALTH_k, 04_sense.md. -/
def A_SNS_MOD_HEALTH (k : Nat) : Nat := 0x9004 + 8 * k
def SNS_MOD_HEALTH_NOISE (k : Nat) : Fld := ⟨A_SNS_MOD_HEALTH k, 16, 16⟩
def SNS_MOD_HEALTH_FAILS (k : Nat) : Fld := ⟨A_SNS_MOD_HEALTH k, 8, 8⟩
/-- MTR.Mm_TOTAL_q, 05_metering.md. -/
def A_MTR_M_TOTAL (m : Nat) (q : Nat) : Nat := 0x10000 + 1024 * m + 32 * q
/-- MTR.Mm_INTV_q, 05_metering.md. -/
def A_MTR_M_INTV (m : Nat) (q : Nat) : Nat := 0x10010 + 1024 * m + 32 * q
/-- MTR.Mm_CFG, 05_metering.md. -/
def A_MTR_M_CFG (m : Nat) : Nat := 0x10200 + 1024 * m
def MTR_M_CFG_KIND (m : Nat) : Fld := ⟨A_MTR_M_CFG m, 30, 2⟩
def MTR_M_CFG_OUTLET (m : Nat) : Fld := ⟨A_MTR_M_CFG m, 26, 4⟩
def MTR_M_CFG_ROLE (m : Nat) : Fld := ⟨A_MTR_M_CFG m, 23, 3⟩
def MTR_M_CFG_LEGAL (m : Nat) : Fld := ⟨A_MTR_M_CFG m, 22, 1⟩
def MTR_M_CFG_DUAL (m : Nat) : Fld := ⟨A_MTR_M_CFG m, 21, 1⟩
def MTR_M_CFG_START_OK (m : Nat) : Fld := ⟨A_MTR_M_CFG m, 20, 1⟩
def MTR_M_CFG_REF_CH (m : Nat) : Fld := ⟨A_MTR_M_CFG m, 13, 7⟩
def MTR_M_CFG_IN (m : Nat) : Fld := ⟨A_MTR_M_CFG m, 0, 13⟩
/-- MTR.Mm_STATE, 05_metering.md. -/
def A_MTR_M_STATE (m : Nat) : Nat := 0x10204 + 1024 * m
def MTR_M_STATE_SUBST (m : Nat) : Fld := ⟨A_MTR_M_STATE m, 16, 16⟩
def MTR_M_STATE_HALTED (m : Nat) : Fld := ⟨A_MTR_M_STATE m, 7, 1⟩
def MTR_M_STATE_NOREF (m : Nat) : Fld := ⟨A_MTR_M_STATE m, 6, 1⟩
def MTR_M_STATE_DUAL_DEG (m : Nat) : Fld := ⟨A_MTR_M_STATE m, 5, 1⟩
def MTR_M_STATE_CREEP (m : Nat) : Fld := ⟨A_MTR_M_STATE m, 4, 1⟩
def MTR_M_STATE_QUAD (m : Nat) : Fld := ⟨A_MTR_M_STATE m, 2, 2⟩
def MTR_M_STATE_DIR (m : Nat) : Fld := ⟨A_MTR_M_STATE m, 0, 2⟩
/-- MTR.Mm_CYCLE, 05_metering.md. -/
def A_MTR_M_CYCLE (m : Nat) : Nat := 0x10208 + 1024 * m
def MTR_M_CYCLE_FREQ (m : Nat) : Fld := ⟨A_MTR_M_CYCLE m, 16, 16⟩
def MTR_M_CYCLE_LEN (m : Nat) : Fld := ⟨A_MTR_M_CYCLE m, 0, 16⟩
/-- MTR.Mm_LIMITS, 05_metering.md. -/
def A_MTR_M_LIMITS (m : Nat) : Nat := 0x1020c + 1024 * m
def MTR_M_LIMITS_CREEP (m : Nat) : Fld := ⟨A_MTR_M_LIMITS m, 16, 16⟩
def MTR_M_LIMITS_IMAX (m : Nat) : Fld := ⟨A_MTR_M_LIMITS m, 0, 16⟩
/-- MTR.Mm_U_p, 05_metering.md. -/
def A_MTR_M_U (m : Nat) (p : Nat) : Nat := 0x10210 + 1024 * m + 4 * p
def MTR_M_U_U (m : Nat) (p : Nat) : Fld := ⟨A_MTR_M_U m p, 0, 32⟩
/-- MTR.Mm_I_p, 05_metering.md. -/
def A_MTR_M_I (m : Nat) (p : Nat) : Nat := 0x10220 + 1024 * m + 4 * p
def MTR_M_I_I (m : Nat) (p : Nat) : Fld := ⟨A_MTR_M_I m p, 0, 32⟩
/-- MTR.Mm_P, 05_metering.md. -/
def A_MTR_M_P (m : Nat) : Nat := 0x10230 + 1024 * m
def MTR_M_P_P (m : Nat) : Fld := ⟨A_MTR_M_P m, 0, 32⟩
/-- MTR.Mm_Q, 05_metering.md. -/
def A_MTR_M_Q (m : Nat) : Nat := 0x10234 + 1024 * m
def MTR_M_Q_Q (m : Nat) : Fld := ⟨A_MTR_M_Q m, 0, 32⟩
/-- MTR.Mm_S, 05_metering.md. -/
def A_MTR_M_S (m : Nat) : Nat := 0x10238 + 1024 * m
def MTR_M_S_S (m : Nat) : Fld := ⟨A_MTR_M_S m, 0, 32⟩
/-- MTR.Mm_PF, 05_metering.md. -/
def A_MTR_M_PF (m : Nat) : Nat := 0x1023c + 1024 * m
def MTR_M_PF_PF (m : Nat) : Fld := ⟨A_MTR_M_PF m, 0, 16⟩
/-- MTR.SAVE, 05_metering.md. -/
def A_MTR_SAVE : Nat := 0x18000
def MTR_SAVE_MODE : Fld := ⟨A_MTR_SAVE, 16, 2⟩
def MTR_SAVE_LOSS_BEATS : Fld := ⟨A_MTR_SAVE, 0, 16⟩
/-- MTR.SAVE_STAT, 05_metering.md. -/
def A_MTR_SAVE_STAT : Nat := 0x18004
def MTR_SAVE_STAT_DELTA_AGE : Fld := ⟨A_MTR_SAVE_STAT, 16, 16⟩
def MTR_SAVE_STAT_FULL_AGE : Fld := ⟨A_MTR_SAVE_STAT, 0, 16⟩
/-- MTR.BAND, 05_metering.md. -/
def A_MTR_BAND : Nat := 0x18008
def MTR_BAND_TB3 : Fld := ⟨A_MTR_BAND, 24, 8⟩
def MTR_BAND_TB2 : Fld := ⟨A_MTR_BAND, 16, 8⟩
def MTR_BAND_TB1 : Fld := ⟨A_MTR_BAND, 8, 8⟩
def MTR_BAND_NOW : Fld := ⟨A_MTR_BAND, 0, 2⟩
/-- MTR.CAP, 05_metering.md. -/
def A_MTR_CAP : Nat := 0x1800c
def MTR_CAP_START_TESTED : Fld := ⟨A_MTR_CAP, 31, 1⟩
def MTR_CAP_START_DUAL : Fld := ⟨A_MTR_CAP, 8, 8⟩
def MTR_CAP_START_SINGLE : Fld := ⟨A_MTR_CAP, 0, 8⟩
/-- MTR.EVENTS, 05_metering.md. -/
def A_MTR_EVENTS : Nat := 0x18010
def MTR_EVENTS_PULSE_RATE : Fld := ⟨A_MTR_EVENTS, 6, 1⟩
def MTR_EVENTS_RESTORE_LOSS : Fld := ⟨A_MTR_EVENTS, 5, 1⟩
def MTR_EVENTS_SAVE_FAIL : Fld := ⟨A_MTR_EVENTS, 4, 1⟩
def MTR_EVENTS_HALTED : Fld := ⟨A_MTR_EVENTS, 3, 1⟩
def MTR_EVENTS_NOREF : Fld := ⟨A_MTR_EVENTS, 2, 1⟩
def MTR_EVENTS_SUBST : Fld := ⟨A_MTR_EVENTS, 1, 1⟩
def MTR_EVENTS_BAND_CHG : Fld := ⟨A_MTR_EVENTS, 0, 1⟩
/-- MTR.HARM, 05_metering.md. -/
def A_MTR_HARM : Nat := 0x18014
def MTR_HARM_ADDR : Fld := ⟨A_MTR_HARM, 0, 32⟩
/-- MTR.PLS_CFG_k, 05_metering.md. -/
def A_MTR_PLS_CFG (k : Nat) : Nat := 0x18020 + 8 * k
def MTR_PLS_CFG_METER (k : Nat) : Fld := ⟨A_MTR_PLS_CFG k, 27, 5⟩
def MTR_PLS_CFG_QTY (k : Nat) : Fld := ⟨A_MTR_PLS_CFG k, 23, 4⟩
def MTR_PLS_CFG_EN (k : Nat) : Fld := ⟨A_MTR_PLS_CFG k, 22, 1⟩
def MTR_PLS_CFG_CONST (k : Nat) : Fld := ⟨A_MTR_PLS_CFG k, 0, 17⟩
/-- MTR.PLS_STAT_k, 05_metering.md. -/
def A_MTR_PLS_STAT (k : Nat) : Nat := 0x18024 + 8 * k
def MTR_PLS_STAT_WIDTH (k : Nat) : Fld := ⟨A_MTR_PLS_STAT k, 22, 10⟩
def MTR_PLS_STAT_LAG (k : Nat) : Fld := ⟨A_MTR_PLS_STAT k, 21, 1⟩
def MTR_PLS_STAT_COUNT (k : Nat) : Fld := ⟨A_MTR_PLS_STAT k, 0, 16⟩
/-- MTR.CH_CORR_n, 05_metering.md. -/
def A_MTR_CH_CORR (n : Nat) : Nat := 0x18100 + 4 * n
def MTR_CH_CORR_BAND (n : Nat) : Fld := ⟨A_MTR_CH_CORR n, 30, 2⟩
def MTR_CH_CORR_SEG (n : Nat) : Fld := ⟨A_MTR_CH_CORR n, 27, 3⟩
def MTR_CH_CORR_PEND (n : Nat) : Fld := ⟨A_MTR_CH_CORR n, 26, 1⟩
def MTR_CH_CORR_T (n : Nat) : Fld := ⟨A_MTR_CH_CORR n, 0, 16⟩
/-- LGL.CHRONO, 06_legal.md. -/
def A_LGL_CHRONO : Nat := 0x20000
def LGL_CHRONO_COMP : Fld := ⟨A_LGL_CHRONO, 16, 16⟩
def LGL_CHRONO_SLEWING : Fld := ⟨A_LGL_CHRONO, 3, 1⟩
def LGL_CHRONO_CHRONO_LOST : Fld := ⟨A_LGL_CHRONO, 2, 1⟩
def LGL_CHRONO_VBAT_LOW : Fld := ⟨A_LGL_CHRONO, 1, 1⟩
def LGL_CHRONO_WALL_VALID : Fld := ⟨A_LGL_CHRONO, 0, 1⟩
/-- LGL.WALL, 06_legal.md. -/
def A_LGL_WALL : Nat := 0x20010
/-- LGL.MONO, 06_legal.md. -/
def A_LGL_MONO : Nat := 0x20020
/-- LGL.LOCAL, 06_legal.md. -/
def A_LGL_LOCAL : Nat := 0x20030
def LGL_LOCAL_DST : Fld := ⟨A_LGL_LOCAL, 16, 1⟩
def LGL_LOCAL_OFFSET : Fld := ⟨A_LGL_LOCAL, 0, 16⟩
/-- LGL.ACT_REG_j, 06_legal.md. -/
def A_LGL_ACT_REG (j : Nat) : Nat := 0x20040 + 4 * j
def LGL_ACT_REG_M (j : Nat) (g : Nat) : Fld := ⟨A_LGL_ACT_REG j, 0 + 4 * g, 4⟩
/-- LGL.DEM_CFG, 06_legal.md. -/
def A_LGL_DEM_CFG : Nat := 0x20050
def LGL_DEM_CFG_SUB : Fld := ⟨A_LGL_DEM_CFG, 8, 8⟩
def LGL_DEM_CFG_LEN : Fld := ⟨A_LGL_DEM_CFG, 0, 8⟩
/-- LGL.BILL_CFG, 06_legal.md. -/
def A_LGL_BILL_CFG : Nat := 0x20054
def LGL_BILL_CFG_TIME : Fld := ⟨A_LGL_BILL_CFG, 16, 16⟩
def LGL_BILL_CFG_DAY : Fld := ⟨A_LGL_BILL_CFG, 0, 8⟩
/-- LGL.BILL_STAT, 06_legal.md. -/
def A_LGL_BILL_STAT : Nat := 0x20058
def LGL_BILL_STAT_LAST_IDX : Fld := ⟨A_LGL_BILL_STAT, 8, 8⟩
def LGL_BILL_STAT_COUNT : Fld := ⟨A_LGL_BILL_STAT, 0, 8⟩
/-- LGL.LOG_HEAD, 06_legal.md. -/
def A_LGL_LOG_HEAD : Nat := 0x20060
def LGL_LOG_HEAD_SEQ : Fld := ⟨A_LGL_LOG_HEAD, 0, 32⟩
/-- LGL.LOG_ACK, 06_legal.md. -/
def A_LGL_LOG_ACK : Nat := 0x20064
def LGL_LOG_ACK_SEQ : Fld := ⟨A_LGL_LOG_ACK, 0, 32⟩
/-- LGL.TAMPER_NEW, 06_legal.md. -/
def A_LGL_TAMPER_NEW : Nat := 0x20070
def LGL_TAMPER_NEW_TB : Fld := ⟨A_LGL_TAMPER_NEW, 16, 3⟩
def LGL_TAMPER_NEW_TA : Fld := ⟨A_LGL_TAMPER_NEW, 0, 7⟩
/-- LGL.TB_OPEN, 06_legal.md. -/
def A_LGL_TB_OPEN : Nat := 0x20074
def LGL_TB_OPEN_METERS : Fld := ⟨A_LGL_TB_OPEN, 0, 32⟩
/-- LGL.TB_HEAD, 06_legal.md. -/
def A_LGL_TB_HEAD : Nat := 0x20078
def LGL_TB_HEAD_SEQ : Fld := ⟨A_LGL_TB_HEAD, 0, 32⟩
/-- LGL.TR_SEL, 06_legal.md. -/
def A_LGL_TR_SEL : Nat := 0x20100
def LGL_TR_SEL_METER : Fld := ⟨A_LGL_TR_SEL, 8, 5⟩
def LGL_TR_SEL_QTY : Fld := ⟨A_LGL_TR_SEL, 0, 4⟩
/-- LGL.TR_k, 06_legal.md. -/
def A_LGL_TR (k : Nat) : Nat := 0x20110 + 16 * k
/-- LGL.MD_k, 06_legal.md. -/
def A_LGL_MD (k : Nat) : Nat := 0x20210 + 16 * k
/-- LGL.DEM_LAST, 06_legal.md. -/
def A_LGL_DEM_LAST : Nat := 0x20310
def LGL_DEM_LAST_DEMAND : Fld := ⟨A_LGL_DEM_LAST, 0, 32⟩
/-- LGL.DEM_FLAGS, 06_legal.md. -/
def A_LGL_DEM_FLAGS : Nat := 0x20314
def LGL_DEM_FLAGS_REG : Fld := ⟨A_LGL_DEM_FLAGS, 4, 4⟩
def LGL_DEM_FLAGS_INCOMPLETE : Fld := ⟨A_LGL_DEM_FLAGS, 2, 1⟩
def LGL_DEM_FLAGS_CLOCK_ADJ : Fld := ⟨A_LGL_DEM_FLAGS, 1, 1⟩
def LGL_DEM_FLAGS_VALID : Fld := ⟨A_LGL_DEM_FLAGS, 0, 1⟩
/-- LGL.TA_CNT_k, 06_legal.md. -/
def A_LGL_TA_CNT (k : Nat) : Nat := 0x20400 + 64 * k
def LGL_TA_CNT_COUNT (k : Nat) : Fld := ⟨A_LGL_TA_CNT k, 0, 32⟩
/-- LGL.TA_FIRST_k, 06_legal.md. -/
def A_LGL_TA_FIRST (k : Nat) : Nat := 0x20410 + 64 * k
/-- LGL.TA_LAST_k, 06_legal.md. -/
def A_LGL_TA_LAST (k : Nat) : Nat := 0x20420 + 64 * k
/-- LGL.TB_CNT_j, 06_legal.md. -/
def A_LGL_TB_CNT (j : Nat) : Nat := 0x20600 + 4 * j
def LGL_TB_CNT_COUNT (j : Nat) : Fld := ⟨A_LGL_TB_CNT j, 0, 32⟩
/-- TOK.BASE, 06_legal.md. -/
def A_TOK_BASE : Nat := 0x24000
def TOK_BASE_BASE : Fld := ⟨A_TOK_BASE, 0, 32⟩
/-- TOK.KEYPAD, 06_legal.md. -/
def A_TOK_KEYPAD : Nat := 0x24004
def TOK_KEYPAD_KEYS : Fld := ⟨A_TOK_KEYPAD, 16, 8⟩
def TOK_KEYPAD_MODE : Fld := ⟨A_TOK_KEYPAD, 0, 4⟩
/-- TOK.LAST, 06_legal.md. -/
def A_TOK_LAST : Nat := 0x24008
def TOK_LAST_RESULT : Fld := ⟨A_TOK_LAST, 24, 8⟩
def TOK_LAST_ACCOUNT : Fld := ⟨A_TOK_LAST, 20, 4⟩
def TOK_LAST_CLASS : Fld := ⟨A_TOK_LAST, 18, 2⟩
def TOK_LAST_SUBCLASS : Fld := ⟨A_TOK_LAST, 14, 4⟩
def TOK_LAST_SOURCE : Fld := ⟨A_TOK_LAST, 12, 2⟩
/-- TOK.LAST_TID, 06_legal.md. -/
def A_TOK_LAST_TID : Nat := 0x2400c
def TOK_LAST_TID_TID : Fld := ⟨A_TOK_LAST_TID, 0, 24⟩
/-- TOK.COUNT, 06_legal.md. -/
def A_TOK_COUNT : Nat := 0x24010
def TOK_COUNT_REFUSED : Fld := ⟨A_TOK_COUNT, 16, 16⟩
def TOK_COUNT_ACCEPTED : Fld := ⟨A_TOK_COUNT, 0, 16⟩
/-- TOK.ACCT_CFG_a, 06_legal.md. -/
def A_TOK_ACCT_CFG (a : Nat) : Nat := 0x24100 + 64 * a
def TOK_ACCT_CFG_MODE (a : Nat) : Fld := ⟨A_TOK_ACCT_CFG a, 30, 2⟩
def TOK_ACCT_CFG_PROG (a : Nat) : Fld := ⟨A_TOK_ACCT_CFG a, 27, 3⟩
def TOK_ACCT_CFG_OUTLETS (a : Nat) : Fld := ⟨A_TOK_ACCT_CFG a, 0, 12⟩
/-- TOK.ACCT_BAL_a, 06_legal.md. -/
def A_TOK_ACCT_BAL (a : Nat) : Nat := 0x24110 + 64 * a
/-- TOK.ACCT_LOW_a, 06_legal.md. -/
def A_TOK_ACCT_LOW (a : Nat) : Nat := 0x24120 + 64 * a
def TOK_ACCT_LOW_LOW (a : Nat) : Fld := ⟨A_TOK_ACCT_LOW a, 0, 32⟩
/-- TOK.ACCT_MAX_a, 06_legal.md. -/
def A_TOK_ACCT_MAX (a : Nat) : Nat := 0x24124 + 64 * a
def TOK_ACCT_MAX_MAX (a : Nat) : Fld := ⟨A_TOK_ACCT_MAX a, 0, 32⟩
/-- TOK.ACCT_STAT_a, 06_legal.md. -/
def A_TOK_ACCT_STAT (a : Nat) : Nat := 0x24128 + 64 * a
def TOK_ACCT_STAT_STATE (a : Nat) : Fld := ⟨A_TOK_ACCT_STAT a, 30, 2⟩
def TOK_ACCT_STAT_KEPT (a : Nat) : Fld := ⟨A_TOK_ACCT_STAT a, 0, 9⟩
/-- TOK.ACCT_FLOOR_a, 06_legal.md. -/
def A_TOK_ACCT_FLOOR (a : Nat) : Nat := 0x2412c + 64 * a
def TOK_ACCT_FLOOR_FLOOR (a : Nat) : Fld := ⟨A_TOK_ACCT_FLOOR a, 0, 24⟩
/-- OUT.On_CFG, 07_outlets.md. -/
def A_OUT_CFG (n : Nat) : Nat := 0x28000 + 1024 * n
def OUT_CFG_KIND (n : Nat) : Fld := ⟨A_OUT_CFG n, 30, 2⟩
def OUT_CFG_THREE (n : Nat) : Fld := ⟨A_OUT_CFG n, 29, 1⟩
def OUT_CFG_HLC (n : Nat) : Fld := ⟨A_OUT_CFG n, 28, 1⟩
def OUT_CFG_BPT (n : Nat) : Fld := ⟨A_OUT_CFG n, 27, 1⟩
def OUT_CFG_FALLBACK (n : Nat) : Fld := ⟨A_OUT_CFG n, 26, 1⟩
def OUT_CFG_FREE (n : Nat) : Fld := ⟨A_OUT_CFG n, 25, 1⟩
def OUT_CFG_VENT (n : Nat) : Fld := ⟨A_OUT_CFG n, 24, 1⟩
def OUT_CFG_CAN (n : Nat) : Fld := ⟨A_OUT_CFG n, 22, 2⟩
def OUT_CFG_TGT (n : Nat) : Fld := ⟨A_OUT_CFG n, 21, 1⟩
def OUT_CFG_RATING (n : Nat) : Fld := ⟨A_OUT_CFG n, 0, 16⟩
/-- OUT.On_STATE, 07_outlets.md. -/
def A_OUT_STATE (n : Nat) : Nat := 0x28004 + 1024 * n
def OUT_STATE_SES (n : Nat) : Fld := ⟨A_OUT_STATE n, 24, 8⟩
def OUT_STATE_PILOT_ST (n : Nat) : Fld := ⟨A_OUT_STATE n, 20, 4⟩
def OUT_STATE_DRIVE (n : Nat) : Fld := ⟨A_OUT_STATE n, 18, 2⟩
def OUT_STATE_PROTO (n : Nat) : Fld := ⟨A_OUT_STATE n, 12, 4⟩
def OUT_STATE_DISABLED (n : Nat) : Fld := ⟨A_OUT_STATE n, 11, 1⟩
def OUT_STATE_NO_CONTEXT (n : Nat) : Fld := ⟨A_OUT_STATE n, 10, 1⟩
/-- OUT.On_PILOT, 07_outlets.md. -/
def A_OUT_PILOT (n : Nat) : Nat := 0x28008 + 1024 * n
def OUT_PILOT_DUTY_SET (n : Nat) : Fld := ⟨A_OUT_PILOT n, 16, 16⟩
def OUT_PILOT_DUTY_MEAS (n : Nat) : Fld := ⟨A_OUT_PILOT n, 0, 16⟩
/-- OUT.On_PILOT_V, 07_outlets.md. -/
def A_OUT_PILOT_V (n : Nat) : Nat := 0x2800c + 1024 * n
def OUT_PILOT_V_V_HIGH (n : Nat) : Fld := ⟨A_OUT_PILOT_V n, 16, 16⟩
def OUT_PILOT_V_V_LOW (n : Nat) : Fld := ⟨A_OUT_PILOT_V n, 0, 16⟩
/-- OUT.On_PP, 07_outlets.md. -/
def A_OUT_PP (n : Nat) : Nat := 0x28010 + 1024 * n
def OUT_PP_R_PP (n : Nat) : Fld := ⟨A_OUT_PP n, 16, 16⟩
def OUT_PP_VALID (n : Nat) : Fld := ⟨A_OUT_PP n, 8, 1⟩
def OUT_PP_CABLE (n : Nat) : Fld := ⟨A_OUT_PP n, 0, 8⟩
/-- OUT.On_LIMIT, 07_outlets.md. -/
def A_OUT_LIMIT (n : Nat) : Nat := 0x28014 + 1024 * n
def OUT_LIMIT_I_ALLOWED (n : Nat) : Fld := ⟨A_OUT_LIMIT n, 16, 16⟩
def OUT_LIMIT_CABLE_INST (n : Nat) : Fld := ⟨A_OUT_LIMIT n, 0, 16⟩
/-- OUT.On_SLAC, 07_outlets.md. -/
def A_OUT_SLAC (n : Nat) : Nat := 0x28018 + 1024 * n
def OUT_SLAC_ATTEN (n : Nat) : Fld := ⟨A_OUT_SLAC n, 24, 8⟩
def OUT_SLAC_TRIES (n : Nat) : Fld := ⟨A_OUT_SLAC n, 16, 8⟩
def OUT_SLAC_PHASE (n : Nat) : Fld := ⟨A_OUT_SLAC n, 4, 4⟩
/-- OUT.On_CAN, 07_outlets.md. -/
def A_OUT_CAN (n : Nat) : Nat := 0x2801c + 1024 * n
def OUT_CAN_SEQ (n : Nat) : Fld := ⟨A_OUT_CAN n, 16, 16⟩
def OUT_CAN_STATE (n : Nat) : Fld := ⟨A_OUT_CAN n, 8, 8⟩
def OUT_CAN_AGE (n : Nat) : Fld := ⟨A_OUT_CAN n, 0, 8⟩
/-- OUT.On_EVENTS, 07_outlets.md. -/
def A_OUT_EVENTS (n : Nat) : Nat := 0x28020 + 1024 * n
def OUT_EVENTS_CAN_LOST (n : Nat) : Fld := ⟨A_OUT_EVENTS n, 8, 1⟩
def OUT_EVENTS_STOP_LATE (n : Nat) : Fld := ⟨A_OUT_EVENTS n, 7, 1⟩
def OUT_EVENTS_SES_END (n : Nat) : Fld := ⟨A_OUT_EVENTS n, 6, 1⟩
def OUT_EVENTS_V2G_HOST (n : Nat) : Fld := ⟨A_OUT_EVENTS n, 5, 1⟩
def OUT_EVENTS_SLAC_DONE (n : Nat) : Fld := ⟨A_OUT_EVENTS n, 4, 1⟩
def OUT_EVENTS_AUTH_NEEDED (n : Nat) : Fld := ⟨A_OUT_EVENTS n, 3, 1⟩
def OUT_EVENTS_PILOT_CHG (n : Nat) : Fld := ⟨A_OUT_EVENTS n, 2, 1⟩
def OUT_EVENTS_UNPLUG (n : Nat) : Fld := ⟨A_OUT_EVENTS n, 1, 1⟩
def OUT_EVENTS_PLUG (n : Nat) : Fld := ⟨A_OUT_EVENTS n, 0, 1⟩
/-- OUT.On_PHASE, 07_outlets.md. -/
def A_OUT_PHASE (n : Nat) : Nat := 0x28024 + 1024 * n
def OUT_PHASE_L3 (n : Nat) : Fld := ⟨A_OUT_PHASE n, 4, 2⟩
def OUT_PHASE_L2 (n : Nat) : Fld := ⟨A_OUT_PHASE n, 2, 2⟩
def OUT_PHASE_L1 (n : Nat) : Fld := ⟨A_OUT_PHASE n, 0, 2⟩
/-- OUT.On_ENDED, 07_outlets.md. -/
def A_OUT_ENDED (n : Nat) : Nat := 0x28030 + 1024 * n
/-- SES.Sn_STATE, 07_outlets.md. -/
def A_SES_STATE (n : Nat) : Nat := 0x30000 + 256 * n
def SES_STATE_STATE (n : Nat) : Fld := ⟨A_SES_STATE n, 28, 4⟩
def SES_STATE_OUTLET (n : Nat) : Fld := ⟨A_SES_STATE n, 24, 4⟩
def SES_STATE_AUTH (n : Nat) : Fld := ⟨A_SES_STATE n, 20, 4⟩
def SES_STATE_ACCOUNT (n : Nat) : Fld := ⟨A_SES_STATE n, 16, 4⟩
def SES_STATE_ACC_VALID (n : Nat) : Fld := ⟨A_SES_STATE n, 15, 1⟩
def SES_STATE_PROG (n : Nat) : Fld := ⟨A_SES_STATE n, 12, 3⟩
def SES_STATE_PRIO (n : Nat) : Fld := ⟨A_SES_STATE n, 10, 2⟩
def SES_STATE_V2G_OK (n : Nat) : Fld := ⟨A_SES_STATE n, 9, 1⟩
def SES_STATE_REASON (n : Nat) : Fld := ⟨A_SES_STATE n, 0, 8⟩
/-- SES.Sn_SERIAL, 07_outlets.md. -/
def A_SES_SERIAL (n : Nat) : Nat := 0x30004 + 256 * n
def SES_SERIAL_SERIAL (n : Nat) : Fld := ⟨A_SES_SERIAL n, 0, 32⟩
/-- SES.Sn_PROTO, 07_outlets.md. -/
def A_SES_PROTO (n : Nat) : Nat := 0x30008 + 256 * n
def SES_PROTO_PROTO (n : Nat) : Fld := ⟨A_SES_PROTO n, 28, 4⟩
def SES_PROTO_TLS (n : Nat) : Fld := ⟨A_SES_PROTO n, 26, 2⟩
def SES_PROTO_TIMER (n : Nat) : Fld := ⟨A_SES_PROTO n, 20, 4⟩
def SES_PROTO_LATE (n : Nat) : Fld := ⟨A_SES_PROTO n, 16, 4⟩
def SES_PROTO_LEFT (n : Nat) : Fld := ⟨A_SES_PROTO n, 0, 16⟩
/-- SES.Sn_START, 07_outlets.md. -/
def A_SES_START (n : Nat) : Nat := 0x30010 + 256 * n
/-- SES.Sn_E_IMP, 07_outlets.md. -/
def A_SES_E_IMP (n : Nat) : Nat := 0x30020 + 256 * n
/-- SES.Sn_E_EXP, 07_outlets.md. -/
def A_SES_E_EXP (n : Nat) : Nat := 0x30030 + 256 * n
/-- SES.Sn_COST, 07_outlets.md. -/
def A_SES_COST (n : Nat) : Nat := 0x30040 + 256 * n
/-- SES.Sn_VID, 07_outlets.md. -/
def A_SES_VID (n : Nat) : Nat := 0x30050 + 256 * n
/-- SES.Sn_TARGET, 07_outlets.md. -/
def A_SES_TARGET (n : Nat) : Nat := 0x30060 + 256 * n
def SES_TARGET_E_REQ (n : Nat) : Fld := ⟨A_SES_TARGET n, 16, 16⟩
def SES_TARGET_DEPART (n : Nat) : Fld := ⟨A_SES_TARGET n, 0, 16⟩
/-- SES.Sn_POWER, 07_outlets.md. -/
def A_SES_POWER (n : Nat) : Nat := 0x30064 + 256 * n
def SES_POWER_PMAX (n : Nat) : Fld := ⟨A_SES_POWER n, 16, 16⟩
def SES_POWER_PMIN (n : Nat) : Fld := ⟨A_SES_POWER n, 0, 16⟩
/-- SES.Sn_CREDIT, 07_outlets.md. -/
def A_SES_CREDIT (n : Nat) : Nat := 0x30068 + 256 * n
def SES_CREDIT_LIMIT (n : Nat) : Fld := ⟨A_SES_CREDIT n, 0, 32⟩
/-- SES.Sn_ALLOC, 07_outlets.md. -/
def A_SES_ALLOC (n : Nat) : Nat := 0x3006c + 256 * n
def SES_ALLOC_ALLOC (n : Nat) : Fld := ⟨A_SES_ALLOC n, 0, 32⟩
/-- OUT.On_PROT_CFG, 08_protection.md. -/
def A_OUT_PROT_CFG (n : Nat) : Nat := 0x28100 + 1024 * n
def OUT_PROT_CFG_T_CLOSE (n : Nat) : Fld := ⟨A_OUT_PROT_CFG n, 24, 8⟩
def OUT_PROT_CFG_T_OPEN_MAX (n : Nat) : Fld := ⟨A_OUT_PROT_CFG n, 16, 8⟩
def OUT_PROT_CFG_V_MATCH (n : Nat) : Fld := ⟨A_OUT_PROT_CFG n, 8, 8⟩
def OUT_PROT_CFG_PAIR (n : Nat) : Fld := ⟨A_OUT_PROT_CFG n, 0, 4⟩
/-- OUT.On_CONTACT, 08_protection.md. -/
def A_OUT_CONTACT (n : Nat) : Nat := 0x28104 + 1024 * n
def OUT_CONTACT_CSTATE (n : Nat) : Fld := ⟨A_OUT_CONTACT n, 28, 4⟩
def OUT_CONTACT_LOCKOUT (n : Nat) : Fld := ⟨A_OUT_CONTACT n, 7, 1⟩
def OUT_CONTACT_RDC_LOCK (n : Nat) : Fld := ⟨A_OUT_CONTACT n, 6, 1⟩
def OUT_CONTACT_WELD_UNPROVEN (n : Nat) : Fld := ⟨A_OUT_CONTACT n, 5, 1⟩
def OUT_CONTACT_AUX2 (n : Nat) : Fld := ⟨A_OUT_CONTACT n, 3, 1⟩
def OUT_CONTACT_AUX1 (n : Nat) : Fld := ⟨A_OUT_CONTACT n, 2, 1⟩
def OUT_CONTACT_CMD (n : Nat) : Fld := ⟨A_OUT_CONTACT n, 0, 2⟩
/-- OUT.On_OPS, 08_protection.md. -/
def A_OUT_OPS (n : Nat) : Nat := 0x28108 + 1024 * n
def OUT_OPS_COUNT (n : Nat) : Fld := ⟨A_OUT_OPS n, 8, 24⟩
def OUT_OPS_OPEN_MS (n : Nat) : Fld := ⟨A_OUT_OPS n, 0, 8⟩
/-- OUT.On_WELD, 08_protection.md. -/
def A_OUT_WELD (n : Nat) : Nat := 0x2810c + 1024 * n
def OUT_WELD_RESULT (n : Nat) : Fld := ⟨A_OUT_WELD n, 30, 2⟩
def OUT_WELD_WHICH (n : Nat) : Fld := ⟨A_OUT_WELD n, 28, 2⟩
def OUT_WELD_V_MAX (n : Nat) : Fld := ⟨A_OUT_WELD n, 16, 12⟩
def OUT_WELD_BEATS (n : Nat) : Fld := ⟨A_OUT_WELD n, 0, 16⟩
/-- OUT.On_RDC, 08_protection.md. -/
def A_OUT_RDC (n : Nat) : Nat := 0x28110 + 1024 * n
def OUT_RDC_I_AC (n : Nat) : Fld := ⟨A_OUT_RDC n, 16, 16⟩
def OUT_RDC_I_DC (n : Nat) : Fld := ⟨A_OUT_RDC n, 0, 16⟩
/-- OUT.On_RDC_STAT, 08_protection.md. -/
def A_OUT_RDC_STAT (n : Nat) : Nat := 0x28114 + 1024 * n
def OUT_RDC_STAT_TEST_I (n : Nat) : Fld := ⟨A_OUT_RDC_STAT n, 16, 16⟩
def OUT_RDC_STAT_TEST_OK (n : Nat) : Fld := ⟨A_OUT_RDC_STAT n, 7, 1⟩
def OUT_RDC_STAT_TRIP_AC (n : Nat) : Fld := ⟨A_OUT_RDC_STAT n, 4, 1⟩
def OUT_RDC_STAT_TRIP_PT (n : Nat) : Fld := ⟨A_OUT_RDC_STAT n, 0, 3⟩
/-- OUT.On_ISO, 08_protection.md. -/
def A_OUT_ISO (n : Nat) : Nat := 0x28120 + 1024 * n
def OUT_ISO_VALID (n : Nat) : Fld := ⟨A_OUT_ISO n, 31, 1⟩
def OUT_ISO_STATUS (n : Nat) : Fld := ⟨A_OUT_ISO n, 29, 2⟩
def OUT_ISO_OHM_V (n : Nat) : Fld := ⟨A_OUT_ISO n, 16, 13⟩
def OUT_ISO_R_ISO (n : Nat) : Fld := ⟨A_OUT_ISO n, 0, 16⟩
/-- OUT.On_ISO_POLES, 08_protection.md. -/
def A_OUT_ISO_POLES (n : Nat) : Nat := 0x28124 + 1024 * n
def OUT_ISO_POLES_RN (n : Nat) : Fld := ⟨A_OUT_ISO_POLES n, 16, 16⟩
def OUT_ISO_POLES_RP (n : Nat) : Fld := ⟨A_OUT_ISO_POLES n, 0, 16⟩
/-- OUT.On_ISO_CFG, 08_protection.md. -/
def A_OUT_ISO_CFG (n : Nat) : Nat := 0x28128 + 1024 * n
def OUT_ISO_CFG_WARN (n : Nat) : Fld := ⟨A_OUT_ISO_CFG n, 16, 16⟩
def OUT_ISO_CFG_FAULT (n : Nat) : Fld := ⟨A_OUT_ISO_CFG n, 0, 16⟩
/-- OUT.On_ISO_BRIDGE, 08_protection.md. -/
def A_OUT_ISO_BRIDGE (n : Nat) : Nat := 0x2812c + 1024 * n
def OUT_ISO_BRIDGE_DWELL (n : Nat) : Fld := ⟨A_OUT_ISO_BRIDGE n, 20, 12⟩
def OUT_ISO_BRIDGE_RB (n : Nat) : Fld := ⟨A_OUT_ISO_BRIDGE n, 10, 10⟩
def OUT_ISO_BRIDGE_RM (n : Nat) : Fld := ⟨A_OUT_ISO_BRIDGE n, 0, 10⟩
/-- OUT.On_OC_CFG, 08_protection.md. -/
def A_OUT_OC_CFG (n : Nat) : Nat := 0x28130 + 1024 * n
def OUT_OC_CFG_I_INST (n : Nat) : Fld := ⟨A_OUT_OC_CFG n, 16, 16⟩
def OUT_OC_CFG_OC_SLOW_T (n : Nat) : Fld := ⟨A_OUT_OC_CFG n, 8, 8⟩
def OUT_OC_CFG_T_TRIP (n : Nat) : Fld := ⟨A_OUT_OC_CFG n, 0, 8⟩
/-- OUT.On_TEMP, 08_protection.md. -/
def A_OUT_TEMP (n : Nat) : Nat := 0x28134 + 1024 * n
def OUT_TEMP_T2 (n : Nat) : Fld := ⟨A_OUT_TEMP n, 16, 16⟩
def OUT_TEMP_T1 (n : Nat) : Fld := ⟨A_OUT_TEMP n, 0, 16⟩
/-- OUT.On_RETRY, 08_protection.md. -/
def A_OUT_RETRY (n : Nat) : Nat := 0x28138 + 1024 * n
def OUT_RETRY_RETRY_MAX (n : Nat) : Fld := ⟨A_OUT_RETRY n, 28, 4⟩
def OUT_RETRY_LEFT (n : Nat) : Fld := ⟨A_OUT_RETRY n, 24, 4⟩
def OUT_RETRY_LATCH (n : Nat) : Fld := ⟨A_OUT_RETRY n, 23, 1⟩
def OUT_RETRY_HOLD (n : Nat) : Fld := ⟨A_OUT_RETRY n, 22, 1⟩
def OUT_RETRY_NEXT (n : Nat) : Fld := ⟨A_OUT_RETRY n, 0, 16⟩
/-- OUT.On_PROT_EVENTS, 08_protection.md. -/
def A_OUT_PROT_EVENTS (n : Nat) : Nat := 0x2813c + 1024 * n
def OUT_PROT_EVENTS_UNCMD (n : Nat) : Fld := ⟨A_OUT_PROT_EVENTS n, 6, 1⟩
def OUT_PROT_EVENTS_HOLD (n : Nat) : Fld := ⟨A_OUT_PROT_EVENTS n, 5, 1⟩
def OUT_PROT_EVENTS_OVERCURRENT (n : Nat) : Fld := ⟨A_OUT_PROT_EVENTS n, 4, 1⟩
def OUT_PROT_EVENTS_ISO (n : Nat) : Fld := ⟨A_OUT_PROT_EVENTS n, 3, 1⟩
def OUT_PROT_EVENTS_RDC (n : Nat) : Fld := ⟨A_OUT_PROT_EVENTS n, 2, 1⟩
def OUT_PROT_EVENTS_WELD (n : Nat) : Fld := ⟨A_OUT_PROT_EVENTS n, 1, 1⟩
def OUT_PROT_EVENTS_CLOSE (n : Nat) : Fld := ⟨A_OUT_PROT_EVENTS n, 0, 1⟩
/-- OUT.On_RDC_DC_k, 08_protection.md. -/
def A_OUT_RDC_DC (n : Nat) (k : Nat) : Nat := 0x28140 + 1024 * n + 4 * k
def OUT_RDC_DC_LEVEL (n : Nat) (k : Nat) : Fld := ⟨A_OUT_RDC_DC n k, 16, 16⟩
def OUT_RDC_DC_TIME (n : Nat) (k : Nat) : Fld := ⟨A_OUT_RDC_DC n k, 0, 16⟩
/-- OUT.On_RDC_AC_k, 08_protection.md. -/
def A_OUT_RDC_AC (n : Nat) (k : Nat) : Nat := 0x28160 + 1024 * n + 4 * k
def OUT_RDC_AC_LEVEL (n : Nat) (k : Nat) : Fld := ⟨A_OUT_RDC_AC n k, 16, 16⟩
def OUT_RDC_AC_TIME (n : Nat) (k : Nat) : Fld := ⟨A_OUT_RDC_AC n k, 0, 16⟩
/-- GOV.PL_CFG, 09_placement.md. -/
def A_GOV_PL_CFG : Nat := 0x38100
def GOV_PL_CFG_REGULATOR : Fld := ⟨A_GOV_PL_CFG, 31, 1⟩
def GOV_PL_CFG_PARTNER : Fld := ⟨A_GOV_PL_CFG, 30, 1⟩
def GOV_PL_CFG_PEAK_SHAVE : Fld := ⟨A_GOV_PL_CFG, 29, 1⟩
def GOV_PL_CFG_V2G_EN : Fld := ⟨A_GOV_PL_CFG, 28, 1⟩
def GOV_PL_CFG_ISLAND_CLASS : Fld := ⟨A_GOV_PL_CFG, 26, 2⟩
def GOV_PL_CFG_MIN_OFF : Fld := ⟨A_GOV_PL_CFG, 8, 8⟩
def GOV_PL_CFG_DIS_GUARD : Fld := ⟨A_GOV_PL_CFG, 0, 8⟩
/-- GOV.PL_LIMITS, 09_placement.md. -/
def A_GOV_PL_LIMITS : Nat := 0x38104
def GOV_PL_LIMITS_IMPORT : Fld := ⟨A_GOV_PL_LIMITS, 16, 16⟩
def GOV_PL_LIMITS_EXPORT : Fld := ⟨A_GOV_PL_LIMITS, 0, 16⟩
/-- GOV.PL_LIMIT_EFF, 09_placement.md. -/
def A_GOV_PL_LIMIT_EFF : Nat := 0x38108
def GOV_PL_LIMIT_EFF_IMPORT_EFF : Fld := ⟨A_GOV_PL_LIMIT_EFF, 16, 16⟩
def GOV_PL_LIMIT_EFF_HOST_LIM : Fld := ⟨A_GOV_PL_LIMIT_EFF, 0, 16⟩
/-- GOV.PL_MARGIN, 09_placement.md. -/
def A_GOV_PL_MARGIN : Nat := 0x3810c
def GOV_PL_MARGIN_MARGIN : Fld := ⟨A_GOV_PL_MARGIN, 16, 16⟩
def GOV_PL_MARGIN_DC_MIN : Fld := ⟨A_GOV_PL_MARGIN, 0, 16⟩
/-- GOV.PL_BAT_CFG, 09_placement.md. -/
def A_GOV_PL_BAT_CFG : Nat := 0x38110
def GOV_PL_BAT_CFG_CH_MAX : Fld := ⟨A_GOV_PL_BAT_CFG, 16, 16⟩
def GOV_PL_BAT_CFG_DIS_MAX : Fld := ⟨A_GOV_PL_BAT_CFG, 0, 16⟩
/-- GOV.PL_SOC_CFG, 09_placement.md. -/
def A_GOV_PL_SOC_CFG : Nat := 0x38114
def GOV_PL_SOC_CFG_SOC_MAX : Fld := ⟨A_GOV_PL_SOC_CFG, 24, 8⟩
def GOV_PL_SOC_CFG_SOC_MIN : Fld := ⟨A_GOV_PL_SOC_CFG, 16, 8⟩
def GOV_PL_SOC_CFG_ISL_SES_SOC : Fld := ⟨A_GOV_PL_SOC_CFG, 8, 8⟩
def GOV_PL_SOC_CFG_RECONNECT : Fld := ⟨A_GOV_PL_SOC_CFG, 0, 8⟩
/-- GOV.PL_PRICE_LOW, 09_placement.md. -/
def A_GOV_PL_PRICE_LOW : Nat := 0x38118
def GOV_PL_PRICE_LOW_LOW : Fld := ⟨A_GOV_PL_PRICE_LOW, 0, 32⟩
/-- GOV.PL_PRICE_HIGH, 09_placement.md. -/
def A_GOV_PL_PRICE_HIGH : Nat := 0x3811c
def GOV_PL_PRICE_HIGH_HIGH : Fld := ⟨A_GOV_PL_PRICE_HIGH, 0, 32⟩
/-- GOV.PL_PRICE, 09_placement.md. -/
def A_GOV_PL_PRICE : Nat := 0x38120
def GOV_PL_PRICE_PRICE : Fld := ⟨A_GOV_PL_PRICE, 0, 32⟩
/-- GOV.PL_STATE, 09_placement.md. -/
def A_GOV_PL_STATE : Nat := 0x38124
def GOV_PL_STATE_STARVED : Fld := ⟨A_GOV_PL_STATE, 16, 8⟩
def GOV_PL_STATE_PRICE_HOST : Fld := ⟨A_GOV_PL_STATE, 15, 1⟩
def GOV_PL_STATE_SOC_VALID : Fld := ⟨A_GOV_PL_STATE, 14, 1⟩
def GOV_PL_STATE_SITE_VALID : Fld := ⟨A_GOV_PL_STATE, 13, 1⟩
def GOV_PL_STATE_ISLANDED : Fld := ⟨A_GOV_PL_STATE, 12, 1⟩
def GOV_PL_STATE_BAND : Fld := ⟨A_GOV_PL_STATE, 10, 2⟩
def GOV_PL_STATE_STAGE : Fld := ⟨A_GOV_PL_STATE, 0, 3⟩
/-- GOV.PL_FALLBACK, 09_placement.md. -/
def A_GOV_PL_FALLBACK : Nat := 0x38128
def GOV_PL_FALLBACK_LOAD : Fld := ⟨A_GOV_PL_FALLBACK, 0, 16⟩
/-- GOV.PL_ROUND, 09_placement.md. -/
def A_GOV_PL_ROUND : Nat := 0x38130
def GOV_PL_ROUND_ROUND : Fld := ⟨A_GOV_PL_ROUND, 0, 32⟩
/-- GOV.PL_SITE, 09_placement.md. -/
def A_GOV_PL_SITE : Nat := 0x38134
def GOV_PL_SITE_P_SITE : Fld := ⟨A_GOV_PL_SITE, 16, 16⟩
def GOV_PL_SITE_L_BASE : Fld := ⟨A_GOV_PL_SITE, 0, 16⟩
/-- GOV.PL_SOURCES, 09_placement.md. -/
def A_GOV_PL_SOURCES : Nat := 0x38138
def GOV_PL_SOURCES_P_PV : Fld := ⟨A_GOV_PL_SOURCES, 16, 16⟩
def GOV_PL_SOURCES_P_BAT : Fld := ⟨A_GOV_PL_SOURCES, 0, 16⟩
/-- GOV.PL_POOL, 09_placement.md. -/
def A_GOV_PL_POOL : Nat := 0x3813c
def GOV_PL_POOL_POOL : Fld := ⟨A_GOV_PL_POOL, 16, 16⟩
def GOV_PL_POOL_ALLOC_SUM : Fld := ⟨A_GOV_PL_POOL, 0, 16⟩
/-- GOV.PL_BAT_SET_j, 09_placement.md. -/
def A_GOV_PL_BAT_SET (j : Nat) : Nat := 0x38140 + 4 * j
def GOV_PL_BAT_SET_SET (j : Nat) : Fld := ⟨A_GOV_PL_BAT_SET j, 16, 16⟩
def GOV_PL_BAT_SET_SOC (j : Nat) : Fld := ⟨A_GOV_PL_BAT_SET j, 6, 10⟩
def GOV_PL_BAT_SET_MODE (j : Nat) : Fld := ⟨A_GOV_PL_BAT_SET j, 0, 3⟩
/-- GOV.PL_BREACH, 09_placement.md. -/
def A_GOV_PL_BREACH : Nat := 0x38148
def GOV_PL_BREACH_ROUNDS : Fld := ⟨A_GOV_PL_BREACH, 16, 16⟩
def GOV_PL_BREACH_OPENS : Fld := ⟨A_GOV_PL_BREACH, 8, 8⟩
/-- GOV.PL_STARVED_SET, 09_placement.md. -/
def A_GOV_PL_STARVED_SET : Nat := 0x38150
/-- GOV.PL_DC_j, 09_placement.md. -/
def A_GOV_PL_DC (j : Nat) : Nat := 0x38160 + 4 * j
def GOV_PL_DC_CEIL (j : Nat) : Fld := ⟨A_GOV_PL_DC j, 16, 16⟩
def GOV_PL_DC_K_T (j : Nat) : Fld := ⟨A_GOV_PL_DC j, 0, 16⟩
/-- GOV.PL_EVENTS, 09_placement.md. -/
def A_GOV_PL_EVENTS : Nat := 0x38170
def GOV_PL_EVENTS_PARTNER_LOST : Fld := ⟨A_GOV_PL_EVENTS, 7, 1⟩
def GOV_PL_EVENTS_BAT_STALE : Fld := ⟨A_GOV_PL_EVENTS, 6, 1⟩
def GOV_PL_EVENTS_PRICE_STALE : Fld := ⟨A_GOV_PL_EVENTS, 5, 1⟩
def GOV_PL_EVENTS_ISLAND_CHG : Fld := ⟨A_GOV_PL_EVENTS, 4, 1⟩
def GOV_PL_EVENTS_EXPORT : Fld := ⟨A_GOV_PL_EVENTS, 3, 1⟩
def GOV_PL_EVENTS_LAST_RESORT : Fld := ⟨A_GOV_PL_EVENTS, 2, 1⟩
def GOV_PL_EVENTS_BREACH : Fld := ⟨A_GOV_PL_EVENTS, 1, 1⟩
def GOV_PL_EVENTS_STARVED : Fld := ⟨A_GOV_PL_EVENTS, 0, 1⟩
/-- GOV.REG_STATE, 09_placement.md. -/
def A_GOV_REG_STATE : Nat := 0x38200
def GOV_REG_STATE_PARTNERS : Fld := ⟨A_GOV_REG_STATE, 24, 8⟩
def GOV_REG_STATE_LOST : Fld := ⟨A_GOV_REG_STATE, 16, 8⟩
def GOV_REG_STATE_PERIOD : Fld := ⟨A_GOV_REG_STATE, 8, 8⟩
def GOV_REG_STATE_PENDING : Fld := ⟨A_GOV_REG_STATE, 0, 8⟩
/-- GOV.REG_Pk_ID, 09_placement.md. -/
def A_GOV_REG_P_ID (k : Nat) : Nat := 0x38400 + 16 * k
def GOV_REG_P_ID_STATE (k : Nat) : Fld := ⟨A_GOV_REG_P_ID k, 30, 2⟩
def GOV_REG_P_ID_CLASS (k : Nat) : Fld := ⟨A_GOV_REG_P_ID k, 28, 2⟩
def GOV_REG_P_ID_NODE (k : Nat) : Fld := ⟨A_GOV_REG_P_ID k, 0, 10⟩
/-- GOV.REG_Pk_SHARE, 09_placement.md. -/
def A_GOV_REG_P_SHARE (k : Nat) : Nat := 0x38404 + 16 * k
def GOV_REG_P_SHARE_SHARE (k : Nat) : Fld := ⟨A_GOV_REG_P_SHARE k, 16, 16⟩
def GOV_REG_P_SHARE_FAILSAFE (k : Nat) : Fld := ⟨A_GOV_REG_P_SHARE k, 0, 16⟩
/-- GOV.REG_Pk_DEMAND, 09_placement.md. -/
def A_GOV_REG_P_DEMAND (k : Nat) : Nat := 0x38408 + 16 * k
def GOV_REG_P_DEMAND_P_MAX (k : Nat) : Fld := ⟨A_GOV_REG_P_DEMAND k, 16, 16⟩
def GOV_REG_P_DEMAND_P_MIN (k : Nat) : Fld := ⟨A_GOV_REG_P_DEMAND k, 0, 16⟩
/-- GOV.REG_Pk_ACT, 09_placement.md. -/
def A_GOV_REG_P_ACT (k : Nat) : Nat := 0x3840c + 16 * k
def GOV_REG_P_ACT_P_NEED (k : Nat) : Fld := ⟨A_GOV_REG_P_ACT k, 16, 16⟩
def GOV_REG_P_ACT_P_ACT (k : Nat) : Fld := ⟨A_GOV_REG_P_ACT k, 0, 16⟩
/-- RED.STATUS, 10_lanes.md. -/
def A_RED_STATUS : Nat := 0x3a000
def RED_STATUS_REC_WIN : Fld := ⟨A_RED_STATUS, 31, 1⟩
def RED_STATUS_SWAP_PEND : Fld := ⟨A_RED_STATUS, 30, 1⟩
def RED_STATUS_V_OK : Fld := ⟨A_RED_STATUS, 27, 3⟩
def RED_STATUS_LB_STATE : Fld := ⟨A_RED_STATUS, 20, 4⟩
def RED_STATUS_LA_STATE : Fld := ⟨A_RED_STATUS, 16, 4⟩
def RED_STATUS_PATH_C : Fld := ⟨A_RED_STATUS, 9, 1⟩
def RED_STATUS_PATH_M : Fld := ⟨A_RED_STATUS, 8, 1⟩
def RED_STATUS_STANDBY_OK : Fld := ⟨A_RED_STATUS, 1, 1⟩
def RED_STATUS_OWNER : Fld := ⟨A_RED_STATUS, 0, 1⟩
/-- RED.JOURNAL, 10_lanes.md. -/
def A_RED_JOURNAL : Nat := 0x3a004
def RED_JOURNAL_MAX : Fld := ⟨A_RED_JOURNAL, 16, 16⟩
def RED_JOURNAL_NOW : Fld := ⟨A_RED_JOURNAL, 0, 16⟩
/-- RED.JSEQ, 10_lanes.md. -/
def A_RED_JSEQ : Nat := 0x3a008
def RED_JSEQ_ACKED : Fld := ⟨A_RED_JSEQ, 0, 32⟩
/-- RED.TAKEOVERS, 10_lanes.md. -/
def A_RED_TAKEOVERS : Nat := 0x3a010
def RED_TAKEOVERS_RESIGN : Fld := ⟨A_RED_TAKEOVERS, 16, 16⟩
def RED_TAKEOVERS_LOSS : Fld := ⟨A_RED_TAKEOVERS, 0, 16⟩
/-- RED.LAST_TO, 10_lanes.md. -/
def A_RED_LAST_TO : Nat := 0x3a014
def RED_LAST_TO_CAUSE : Fld := ⟨A_RED_LAST_TO, 16, 16⟩
def RED_LAST_TO_GAP : Fld := ⟨A_RED_LAST_TO, 0, 16⟩
/-- RED.LAST_TO_BEAT, 10_lanes.md. -/
def A_RED_LAST_TO_BEAT : Nat := 0x3a018
def RED_LAST_TO_BEAT_BEAT : Fld := ⟨A_RED_LAST_TO_BEAT, 0, 32⟩
/-- RED.GAP_MAX, 10_lanes.md. -/
def A_RED_GAP_MAX : Nat := 0x3a01c
def RED_GAP_MAX_GAP : Fld := ⟨A_RED_GAP_MAX, 0, 16⟩
/-- RED.LANE_x, 10_lanes.md. -/
def A_RED_LANE (x : Nat) : Nat := 0x3a020 + 4 * x
def RED_LANE_WINDOW (x : Nat) : Fld := ⟨A_RED_LANE x, 21, 11⟩
def RED_LANE_TRIES (x : Nat) : Fld := ⟨A_RED_LANE x, 16, 2⟩
def RED_LANE_REBOOTS (x : Nat) : Fld := ⟨A_RED_LANE x, 8, 8⟩
def RED_LANE_COMMON (x : Nat) : Fld := ⟨A_RED_LANE x, 0, 8⟩
/-- RED.LATE_x, 10_lanes.md. -/
def A_RED_LATE (x : Nat) : Nat := 0x3a028 + 4 * x
def RED_LATE_COUNT (x : Nat) : Fld := ⟨A_RED_LATE x, 0, 32⟩
/-- RED.CHECKS, 10_lanes.md. -/
def A_RED_CHECKS : Nat := 0x3a030
def RED_CHECKS_DAY : Fld := ⟨A_RED_CHECKS, 24, 8⟩
def RED_CHECKS_VOTE : Fld := ⟨A_RED_CHECKS, 16, 8⟩
def RED_CHECKS_PATH_M : Fld := ⟨A_RED_CHECKS, 8, 8⟩
def RED_CHECKS_PATH_C : Fld := ⟨A_RED_CHECKS, 0, 8⟩
/-- RED.SWAP_CFG, 10_lanes.md. -/
def A_RED_SWAP_CFG : Nat := 0x3a040
def RED_SWAP_CFG_PERIOD : Fld := ⟨A_RED_SWAP_CFG, 8, 8⟩
def RED_SWAP_CFG_WAIT : Fld := ⟨A_RED_SWAP_CFG, 0, 8⟩
/-- RED.SWAP_STAT, 10_lanes.md. -/
def A_RED_SWAP_STAT : Nat := 0x3a044
def RED_SWAP_STAT_NEXT : Fld := ⟨A_RED_SWAP_STAT, 16, 16⟩
def RED_SWAP_STAT_COUNT : Fld := ⟨A_RED_SWAP_STAT, 0, 16⟩
/-- RED.SELFTEST, 10_lanes.md. -/
def A_RED_SELFTEST : Nat := 0x3a048
def RED_SELFTEST_PROGRESS : Fld := ⟨A_RED_SELFTEST, 24, 8⟩
def RED_SELFTEST_FAILED : Fld := ⟨A_RED_SELFTEST, 16, 8⟩
def RED_SELFTEST_LANE : Fld := ⟨A_RED_SELFTEST, 1, 1⟩
def RED_SELFTEST_RUNNING : Fld := ⟨A_RED_SELFTEST, 0, 1⟩
/-- RED.EVENTS, 10_lanes.md. -/
def A_RED_EVENTS : Nat := 0x3a050
def RED_EVENTS_SELFTEST : Fld := ⟨A_RED_EVENTS, 8, 1⟩
def RED_EVENTS_RESYNC_FAIL : Fld := ⟨A_RED_EVENTS, 7, 1⟩
def RED_EVENTS_RESYNC_DONE : Fld := ⟨A_RED_EVENTS, 6, 1⟩
def RED_EVENTS_SWAP : Fld := ⟨A_RED_EVENTS, 5, 1⟩
def RED_EVENTS_VOTER : Fld := ⟨A_RED_EVENTS, 4, 1⟩
def RED_EVENTS_MISMATCH : Fld := ⟨A_RED_EVENTS, 3, 1⟩
def RED_EVENTS_PATH : Fld := ⟨A_RED_EVENTS, 2, 1⟩
def RED_EVENTS_STANDBY_LOST : Fld := ⟨A_RED_EVENTS, 1, 1⟩
def RED_EVENTS_TAKEOVER : Fld := ⟨A_RED_EVENTS, 0, 1⟩
/-- SAF.STATUS, 11_safety.md. -/
def A_SAF_STATUS : Nat := 0x3b000
def SAF_STATUS_FAULT : Fld := ⟨A_SAF_STATUS, 24, 8⟩
def SAF_STATUS_RUN : Fld := ⟨A_SAF_STATUS, 16, 8⟩
def SAF_STATUS_DEMAND : Fld := ⟨A_SAF_STATUS, 8, 8⟩
def SAF_STATUS_HW_OK : Fld := ⟨A_SAF_STATUS, 0, 1⟩
/-- SAF.INPUTS, 11_safety.md. -/
def A_SAF_INPUTS : Nat := 0x3b004
def SAF_INPUTS_ST_OK : Fld := ⟨A_SAF_INPUTS, 16, 4⟩
def SAF_INPUTS_SI : Fld := ⟨A_SAF_INPUTS, 0, 16⟩
/-- SAF.OUTPUTS, 11_safety.md. -/
def A_SAF_OUTPUTS : Nat := 0x3b008
def SAF_OUTPUTS_SO : Fld := ⟨A_SAF_OUTPUTS, 0, 24⟩
/-- SAF.SO_FAULT, 11_safety.md. -/
def A_SAF_SO_FAULT : Nat := 0x3b00c
def SAF_SO_FAULT_LATCH : Fld := ⟨A_SAF_SO_FAULT, 0, 24⟩
/-- SAF.AUX, 11_safety.md. -/
def A_SAF_AUX : Nat := 0x3b010
def SAF_AUX_AUX : Fld := ⟨A_SAF_AUX, 0, 24⟩
/-- SAF.PWD, 11_safety.md. -/
def A_SAF_PWD : Nat := 0x3b040
def SAF_PWD_UNLOCK_S : Fld := ⟨A_SAF_PWD, 16, 16⟩
def SAF_PWD_FAILS : Fld := ⟨A_SAF_PWD, 8, 8⟩
def SAF_PWD_PORT : Fld := ⟨A_SAF_PWD, 2, 2⟩
def SAF_PWD_LOCKOUT : Fld := ⟨A_SAF_PWD, 1, 1⟩
def SAF_PWD_SET : Fld := ⟨A_SAF_PWD, 0, 1⟩
/-- SAF.LOG_HEAD, 11_safety.md. -/
def A_SAF_LOG_HEAD : Nat := 0x3b044
def SAF_LOG_HEAD_SEQ : Fld := ⟨A_SAF_LOG_HEAD, 0, 32⟩
/-- SAF.COUNT, 11_safety.md. -/
def A_SAF_COUNT : Nat := 0x3b048
def SAF_COUNT_DEMANDS : Fld := ⟨A_SAF_COUNT, 16, 16⟩
def SAF_COUNT_TEST_FAILS : Fld := ⟨A_SAF_COUNT, 0, 16⟩
/-- SAF.REACT, 11_safety.md. -/
def A_SAF_REACT : Nat := 0x3b04c
def SAF_REACT_LANE_MAX : Fld := ⟨A_SAF_REACT, 16, 16⟩
def SAF_REACT_HW_MAX : Fld := ⟨A_SAF_REACT, 0, 16⟩
/-- SAF.EVENTS, 11_safety.md. -/
def A_SAF_EVENTS : Nat := 0x3b050
def SAF_EVENTS_PWD_FAIL : Fld := ⟨A_SAF_EVENTS, 6, 1⟩
def SAF_EVENTS_UNLOCK : Fld := ⟨A_SAF_EVENTS, 5, 1⟩
def SAF_EVENTS_CHANGE : Fld := ⟨A_SAF_EVENTS, 4, 1⟩
def SAF_EVENTS_PATH : Fld := ⟨A_SAF_EVENTS, 3, 1⟩
def SAF_EVENTS_TEST_FAIL : Fld := ⟨A_SAF_EVENTS, 2, 1⟩
def SAF_EVENTS_DISCREP : Fld := ⟨A_SAF_EVENTS, 1, 1⟩
def SAF_EVENTS_DEMAND : Fld := ⟨A_SAF_EVENTS, 0, 1⟩
/-- SAF.FN_CFG_k, 11_safety.md. -/
def A_SAF_FN_CFG (k : Nat) : Nat := 0x3b100 + 8 * k
def SAF_FN_CFG_TYPE (k : Nat) : Fld := ⟨A_SAF_FN_CFG k, 29, 3⟩
def SAF_FN_CFG_RESET_MAN (k : Nat) : Fld := ⟨A_SAF_FN_CFG k, 28, 1⟩
def SAF_FN_CFG_LOCK_FN (k : Nat) : Fld := ⟨A_SAF_FN_CFG k, 24, 4⟩
def SAF_FN_CFG_RESET_FN (k : Nat) : Fld := ⟨A_SAF_FN_CFG k, 20, 4⟩
def SAF_FN_CFG_ST1 (k : Nat) : Fld := ⟨A_SAF_FN_CFG k, 17, 3⟩
def SAF_FN_CFG_ST2 (k : Nat) : Fld := ⟨A_SAF_FN_CFG k, 14, 3⟩
def SAF_FN_CFG_OUT_MASK (k : Nat) : Fld := ⟨A_SAF_FN_CFG k, 0, 12⟩
/-- SAF.FN_TIME_k, 11_safety.md. -/
def A_SAF_FN_TIME (k : Nat) : Nat := 0x3b104 + 8 * k
def SAF_FN_TIME_DISCREP (k : Nat) : Fld := ⟨A_SAF_FN_TIME k, 16, 16⟩
def SAF_FN_TIME_LOCK_LC (k : Nat) : Fld := ⟨A_SAF_FN_TIME k, 12, 4⟩
def SAF_FN_TIME_FILTER (k : Nat) : Fld := ⟨A_SAF_FN_TIME k, 0, 8⟩
/-- SAF.FN_STATE_k, 11_safety.md. -/
def A_SAF_FN_STATE (k : Nat) : Nat := 0x3b180 + 4 * k
def SAF_FN_STATE_STATE (k : Nat) : Fld := ⟨A_SAF_FN_STATE k, 28, 4⟩
def SAF_FN_STATE_LANE (k : Nat) : Fld := ⟨A_SAF_FN_STATE k, 24, 4⟩
def SAF_FN_STATE_LOCKED (k : Nat) : Fld := ⟨A_SAF_FN_STATE k, 16, 1⟩
def SAF_FN_STATE_CAUSE (k : Nat) : Fld := ⟨A_SAF_FN_STATE k, 0, 16⟩
/-- SAF.PAIR_CFG_p, 11_safety.md. -/
def A_SAF_PAIR_CFG (p : Nat) : Nat := 0x3b200 + 4 * p
def SAF_PAIR_CFG_USE (p : Nat) : Fld := ⟨A_SAF_PAIR_CFG p, 30, 2⟩
def SAF_PAIR_CFG_EDM (p : Nat) : Fld := ⟨A_SAF_PAIR_CFG p, 29, 1⟩
def SAF_PAIR_CFG_STOP1_MS (p : Nat) : Fld := ⟨A_SAF_PAIR_CFG p, 0, 16⟩
/-- LCH.STATUS, 12_load_channels.md. -/
def A_LCH_STATUS : Nat := 0x3c000
def LCH_STATUS_FAULT : Fld := ⟨A_LCH_STATUS, 16, 16⟩
def LCH_STATUS_ON : Fld := ⟨A_LCH_STATUS, 0, 16⟩
/-- LCH.LOCKS, 12_load_channels.md. -/
def A_LCH_LOCKS : Nat := 0x3c004
def LCH_LOCKS_SHED : Fld := ⟨A_LCH_LOCKS, 16, 16⟩
def LCH_LOCKS_STOPWORK : Fld := ⟨A_LCH_LOCKS, 0, 16⟩
/-- LCH.TOTAL, 12_load_channels.md. -/
def A_LCH_TOTAL : Nat := 0x3c008
def LCH_TOTAL_P_DISS : Fld := ⟨A_LCH_TOTAL, 16, 16⟩
def LCH_TOTAL_I_SUM : Fld := ⟨A_LCH_TOTAL, 0, 16⟩
/-- LCH.ISNS, 12_load_channels.md. -/
def A_LCH_ISNS : Nat := 0x3c00c
def LCH_ISNS_EN : Fld := ⟨A_LCH_ISNS, 5, 1⟩
def LCH_ISNS_SRC : Fld := ⟨A_LCH_ISNS, 4, 1⟩
def LCH_ISNS_CH : Fld := ⟨A_LCH_ISNS, 0, 4⟩
/-- LCH.EVENTS, 12_load_channels.md. -/
def A_LCH_EVENTS : Nat := 0x3c010
def LCH_EVENTS_MOTOR : Fld := ⟨A_LCH_EVENTS, 6, 1⟩
def LCH_EVENTS_STUCK : Fld := ⟨A_LCH_EVENTS, 5, 1⟩
def LCH_EVENTS_SHED : Fld := ⟨A_LCH_EVENTS, 4, 1⟩
def LCH_EVENTS_STOPWORK : Fld := ⟨A_LCH_EVENTS, 3, 1⟩
def LCH_EVENTS_OPEN_LOAD : Fld := ⟨A_LCH_EVENTS, 2, 1⟩
def LCH_EVENTS_FAULT : Fld := ⟨A_LCH_EVENTS, 1, 1⟩
def LCH_EVENTS_EVENT : Fld := ⟨A_LCH_EVENTS, 0, 1⟩
/-- LCH.Ck_CFG, 12_load_channels.md. -/
def A_LCH_CFG (k : Nat) : Nat := 0x3c100 + 32 * k
def LCH_CFG_USE (k : Nat) : Fld := ⟨A_LCH_CFG k, 29, 3⟩
def LCH_CFG_HB (k : Nat) : Fld := ⟨A_LCH_CFG k, 28, 1⟩
def LCH_CFG_SAFE (k : Nat) : Fld := ⟨A_LCH_CFG k, 26, 2⟩
def LCH_CFG_INIT (k : Nat) : Fld := ⟨A_LCH_CFG k, 25, 1⟩
def LCH_CFG_OL_FINE (k : Nat) : Fld := ⟨A_LCH_CFG k, 24, 1⟩
def LCH_CFG_SHED (k : Nat) : Fld := ⟨A_LCH_CFG k, 20, 4⟩
def LCH_CFG_RETRY_MAX (k : Nat) : Fld := ⟨A_LCH_CFG k, 16, 4⟩
def LCH_CFG_SLEW (k : Nat) : Fld := ⟨A_LCH_CFG k, 8, 8⟩
def LCH_CFG_NOM (k : Nat) : Fld := ⟨A_LCH_CFG k, 0, 8⟩
/-- LCH.Ck_LIMITS, 12_load_channels.md. -/
def A_LCH_LIMITS (k : Nat) : Nat := 0x3c104 + 32 * k
def LCH_LIMITS_ILIM (k : Nat) : Fld := ⟨A_LCH_LIMITS k, 24, 8⟩
def LCH_LIMITS_T_LIM (k : Nat) : Fld := ⟨A_LCH_LIMITS k, 16, 8⟩
def LCH_LIMITS_T_INRUSH (k : Nat) : Fld := ⟨A_LCH_LIMITS k, 0, 16⟩
/-- LCH.Ck_OL, 12_load_channels.md. -/
def A_LCH_OL (k : Nat) : Nat := 0x3c108 + 32 * k
def LCH_OL_RETRY_DELAY (k : Nat) : Fld := ⟨A_LCH_OL k, 16, 16⟩
def LCH_OL_OL_I (k : Nat) : Fld := ⟨A_LCH_OL k, 0, 16⟩
/-- LCH.Ck_CLAMP_CFG, 12_load_channels.md. -/
def A_LCH_CLAMP_CFG (k : Nat) : Nat := 0x3c10c + 32 * k
def LCH_CLAMP_CFG_E_SEC (k : Nat) : Fld := ⟨A_LCH_CLAMP_CFG k, 16, 16⟩
def LCH_CLAMP_CFG_E_EVT (k : Nat) : Fld := ⟨A_LCH_CLAMP_CFG k, 0, 16⟩
/-- LCH.Ck_STATE, 12_load_channels.md. -/
def A_LCH_STATE (k : Nat) : Nat := 0x3c110 + 32 * k
def LCH_STATE_ST (k : Nat) : Fld := ⟨A_LCH_STATE k, 28, 4⟩
def LCH_STATE_LEFT (k : Nat) : Fld := ⟨A_LCH_STATE k, 24, 4⟩
def LCH_STATE_CMD (k : Nat) : Fld := ⟨A_LCH_STATE k, 23, 1⟩
def LCH_STATE_OL (k : Nat) : Fld := ⟨A_LCH_STATE k, 22, 1⟩
def LCH_STATE_STOPWORK (k : Nat) : Fld := ⟨A_LCH_STATE k, 21, 1⟩
def LCH_STATE_LATCH (k : Nat) : Fld := ⟨A_LCH_STATE k, 20, 1⟩
def LCH_STATE_TEMP (k : Nat) : Fld := ⟨A_LCH_STATE k, 0, 16⟩
/-- LCH.Ck_MEAS, 12_load_channels.md. -/
def A_LCH_MEAS (k : Nat) : Nat := 0x3c114 + 32 * k
def LCH_MEAS_V_OUT (k : Nat) : Fld := ⟨A_LCH_MEAS k, 16, 16⟩
def LCH_MEAS_I (k : Nat) : Fld := ⟨A_LCH_MEAS k, 0, 16⟩
/-- LCH.Ck_CLAMP, 12_load_channels.md. -/
def A_LCH_CLAMP (k : Nat) : Nat := 0x3c118 + 32 * k
def LCH_CLAMP_E_LAST (k : Nat) : Fld := ⟨A_LCH_CLAMP k, 16, 16⟩
def LCH_CLAMP_E_SUM (k : Nat) : Fld := ⟨A_LCH_CLAMP k, 0, 16⟩
/-- LCH.Ck_COUNT, 12_load_channels.md. -/
def A_LCH_COUNT (k : Nat) : Nat := 0x3c11c + 32 * k
def LCH_COUNT_CYCLES (k : Nat) : Fld := ⟨A_LCH_COUNT k, 16, 16⟩
def LCH_COUNT_EVENTS (k : Nat) : Fld := ⟨A_LCH_COUNT k, 0, 16⟩
/-- LCH.Pj_CFG, 12_load_channels.md. -/
def A_LCH_P_CFG (j : Nat) : Nat := 0x3c400 + 16 * j
def LCH_P_CFG_STALL (j : Nat) : Fld := ⟨A_LCH_P_CFG j, 24, 8⟩
def LCH_P_CFG_T_STALL (j : Nat) : Fld := ⟨A_LCH_P_CFG j, 16, 8⟩
def LCH_P_CFG_T_BRAKE (j : Nat) : Fld := ⟨A_LCH_P_CFG j, 0, 16⟩
/-- LCH.Pj_STATE, 12_load_channels.md. -/
def A_LCH_P_STATE (j : Nat) : Nat := 0x3c404 + 16 * j
def LCH_P_STATE_MODE (j : Nat) : Fld := ⟨A_LCH_P_STATE j, 28, 4⟩
def LCH_P_STATE_RESULT (j : Nat) : Fld := ⟨A_LCH_P_STATE j, 26, 2⟩
def LCH_P_STATE_RUN_MS (j : Nat) : Fld := ⟨A_LCH_P_STATE j, 0, 16⟩
/-- BZL.CFG, 13_bezel.md. -/
def A_BZL_CFG : Nat := 0x3d000
def BZL_CFG_LEGAL_LINES : Fld := ⟨A_BZL_CFG, 24, 8⟩
def BZL_CFG_T_MAX : Fld := ⟨A_BZL_CFG, 16, 8⟩
def BZL_CFG_T_SEL : Fld := ⟨A_BZL_CFG, 8, 8⟩
def BZL_CFG_INV : Fld := ⟨A_BZL_CFG, 6, 2⟩
def BZL_CFG_FRESH_LINE : Fld := ⟨A_BZL_CFG, 3, 3⟩
/-- BZL.RAILS, 13_bezel.md. -/
def A_BZL_RAILS : Nat := 0x3d004
def BZL_RAILS_VB (g : Nat) : Fld := ⟨A_BZL_RAILS, 0 + 8 * g, 8⟩
/-- BZL.AGE, 13_bezel.md. -/
def A_BZL_AGE : Nat := 0x3d008
def BZL_AGE_S_REF : Fld := ⟨A_BZL_AGE, 16, 16⟩
def BZL_AGE_AGE_K : Fld := ⟨A_BZL_AGE, 0, 8⟩
/-- BZL.STATE, 13_bezel.md. -/
def A_BZL_STATE : Nat := 0x3d00c
def BZL_STATE_PENDING : Fld := ⟨A_BZL_STATE, 24, 8⟩
def BZL_STATE_POL : Fld := ⟨A_BZL_STATE, 16, 8⟩
def BZL_STATE_T_LAST : Fld := ⟨A_BZL_STATE, 8, 8⟩
def BZL_STATE_FRESH : Fld := ⟨A_BZL_STATE, 7, 1⟩
def BZL_STATE_BUSY : Fld := ⟨A_BZL_STATE, 6, 1⟩
def BZL_STATE_STOPPED : Fld := ⟨A_BZL_STATE, 5, 1⟩
def BZL_STATE_LINE : Fld := ⟨A_BZL_STATE, 0, 3⟩
/-- BZL.COUNT, 13_bezel.md. -/
def A_BZL_COUNT : Nat := 0x3d010
def BZL_COUNT_DROP : Fld := ⟨A_BZL_COUNT, 16, 16⟩
def BZL_COUNT_LINES : Fld := ⟨A_BZL_COUNT, 0, 16⟩
/-- BZL.STRESS_SEL, 13_bezel.md. -/
def A_BZL_STRESS_SEL : Nat := 0x3d014
def BZL_STRESS_SEL_LINE : Fld := ⟨A_BZL_STRESS_SEL, 6, 3⟩
def BZL_STRESS_SEL_SEG : Fld := ⟨A_BZL_STRESS_SEL, 0, 6⟩
/-- BZL.STRESS, 13_bezel.md. -/
def A_BZL_STRESS : Nat := 0x3d018
def BZL_STRESS_S : Fld := ⟨A_BZL_STRESS, 0, 32⟩
/-- BZL.EVENTS, 13_bezel.md. -/
def A_BZL_EVENTS : Nat := 0x3d01c
def BZL_EVENTS_CAP : Fld := ⟨A_BZL_EVENTS, 3, 1⟩
def BZL_EVENTS_CUT : Fld := ⟨A_BZL_EVENTS, 2, 1⟩
def BZL_EVENTS_RAIL : Fld := ⟨A_BZL_EVENTS, 1, 1⟩
def BZL_EVENTS_DONE : Fld := ⟨A_BZL_EVENTS, 0, 1⟩
/-- NFC.RD_CFG, 14_contactless.md. -/
def A_NFC_RD_CFG : Nat := 0x3e000
def NFC_RD_CFG_PERIOD : Fld := ⟨A_NFC_RD_CFG, 16, 16⟩
def NFC_RD_CFG_MAX_RATE : Fld := ⟨A_NFC_RD_CFG, 8, 2⟩
def NFC_RD_CFG_EN : Fld := ⟨A_NFC_RD_CFG, 0, 1⟩
/-- NFC.RD_CARD, 14_contactless.md. -/
def A_NFC_RD_CARD : Nat := 0x3e004
def NFC_RD_CARD_ATQA : Fld := ⟨A_NFC_RD_CARD, 16, 16⟩
def NFC_RD_CARD_SAK : Fld := ⟨A_NFC_RD_CARD, 8, 8⟩
def NFC_RD_CARD_STATE : Fld := ⟨A_NFC_RD_CARD, 4, 4⟩
def NFC_RD_CARD_RATE : Fld := ⟨A_NFC_RD_CARD, 2, 2⟩
def NFC_RD_CARD_ISO_DEP : Fld := ⟨A_NFC_RD_CARD, 1, 1⟩
def NFC_RD_CARD_PRESENT : Fld := ⟨A_NFC_RD_CARD, 0, 1⟩
/-- NFC.RD_UID, 14_contactless.md. -/
def A_NFC_RD_UID : Nat := 0x3e010
/-- NFC.RD_COUNT, 14_contactless.md. -/
def A_NFC_RD_COUNT : Nat := 0x3e020
def NFC_RD_COUNT_CARDS : Fld := ⟨A_NFC_RD_COUNT, 16, 16⟩
def NFC_RD_COUNT_ERRORS : Fld := ⟨A_NFC_RD_COUNT, 0, 16⟩
/-- NFC.TAG_STATE, 14_contactless.md. -/
def A_NFC_TAG_STATE : Nat := 0x3e040
def NFC_TAG_STATE_STATE : Fld := ⟨A_NFC_TAG_STATE, 28, 4⟩
def NFC_TAG_STATE_FIELD : Fld := ⟨A_NFC_TAG_STATE, 27, 1⟩
def NFC_TAG_STATE_TXN : Fld := ⟨A_NFC_TAG_STATE, 26, 1⟩
def NFC_TAG_STATE_WRITING : Fld := ⟨A_NFC_TAG_STATE, 25, 1⟩
def NFC_TAG_STATE_WRITER : Fld := ⟨A_NFC_TAG_STATE, 24, 1⟩
def NFC_TAG_STATE_LAST_BLOCK : Fld := ⟨A_NFC_TAG_STATE, 0, 9⟩
/-- NFC.TAG_CTRL, 14_contactless.md. -/
def A_NFC_TAG_CTRL : Nat := 0x3e044
def NFC_TAG_CTRL_PWD_EN : Fld := ⟨A_NFC_TAG_CTRL, 1, 1⟩
def NFC_TAG_CTRL_HOST_LOCK : Fld := ⟨A_NFC_TAG_CTRL, 0, 1⟩
/-- NFC.TAG_STAT, 14_contactless.md. -/
def A_NFC_TAG_STAT : Nat := 0x3e048
def NFC_TAG_STAT_REPAIRS : Fld := ⟨A_NFC_TAG_STAT, 16, 16⟩
def NFC_TAG_STAT_COLLAPSES : Fld := ⟨A_NFC_TAG_STAT, 8, 8⟩
def NFC_TAG_STAT_AUTH_FAIL : Fld := ⟨A_NFC_TAG_STAT, 0, 8⟩
/-- NFC.TAG_CNT_k, 14_contactless.md. -/
def A_NFC_TAG_CNT (k : Nat) : Nat := 0x3e050 + 4 * k
def NFC_TAG_CNT_VALUE (k : Nat) : Fld := ⟨A_NFC_TAG_CNT k, 0, 24⟩
/-- NFC.TAG_COMM, 14_contactless.md. -/
def A_NFC_TAG_COMM : Nat := 0x3e070
def NFC_TAG_COMM_VERSION : Fld := ⟨A_NFC_TAG_COMM, 0, 32⟩
/-- NFC.EVENTS, 14_contactless.md. -/
def A_NFC_EVENTS : Nat := 0x3e080
def NFC_EVENTS_TAG_REPAIR : Fld := ⟨A_NFC_EVENTS, 6, 1⟩
def NFC_EVENTS_TAG_AUTH : Fld := ⟨A_NFC_EVENTS, 5, 1⟩
def NFC_EVENTS_TAG_FIELD_WRITE : Fld := ⟨A_NFC_EVENTS, 4, 1⟩
def NFC_EVENTS_TAG_TXN_END : Fld := ⟨A_NFC_EVENTS, 3, 1⟩
def NFC_EVENTS_CARD_ERROR : Fld := ⟨A_NFC_EVENTS, 2, 1⟩
def NFC_EVENTS_CARD_REMOVED : Fld := ⟨A_NFC_EVENTS, 1, 1⟩
def NFC_EVENTS_CARD : Fld := ⟨A_NFC_EVENTS, 0, 1⟩
/-- SIT.CFG, 15_site_line.md. -/
def A_SIT_CFG : Nat := 0x3f000
def SIT_CFG_ROLE : Fld := ⟨A_SIT_CFG, 30, 2⟩
def SIT_CFG_INJ : Fld := ⟨A_SIT_CFG, 27, 3⟩
def SIT_CFG_SITE_ID : Fld := ⟨A_SIT_CFG, 10, 16⟩
def SIT_CFG_ADDR : Fld := ⟨A_SIT_CFG, 0, 10⟩
/-- SIT.TX_CFG, 15_site_line.md. -/
def A_SIT_TX_CFG : Nat := 0x3f004
def SIT_TX_CFG_OFDM_LEVEL : Fld := ⟨A_SIT_TX_CFG, 24, 8⟩
def SIT_TX_CFG_DET_LVL : Fld := ⟨A_SIT_TX_CFG, 16, 8⟩
def SIT_TX_CFG_DIST_LVL : Fld := ⟨A_SIT_TX_CFG, 8, 8⟩
def SIT_TX_CFG_CPL_GAIN : Fld := ⟨A_SIT_TX_CFG, 0, 8⟩
/-- SIT.STATUS, 15_site_line.md. -/
def A_SIT_STATUS : Nat := 0x3f008
def SIT_STATUS_STATE : Fld := ⟨A_SIT_STATUS, 28, 4⟩
def SIT_STATUS_FREE_RUN : Fld := ⟨A_SIT_STATUS, 27, 1⟩
def SIT_STATUS_ZC_OK : Fld := ⟨A_SIT_STATUS, 24, 3⟩
def SIT_STATUS_PRIV : Fld := ⟨A_SIT_STATUS, 16, 5⟩
def SIT_STATUS_BEAT : Fld := ⟨A_SIT_STATUS, 0, 10⟩
/-- SIT.MAINS, 15_site_line.md. -/
def A_SIT_MAINS : Nat := 0x3f00c
def SIT_MAINS_FREQ : Fld := ⟨A_SIT_MAINS, 16, 16⟩
def SIT_MAINS_CYCLE : Fld := ⟨A_SIT_MAINS, 0, 16⟩
/-- SIT.CAP, 15_site_line.md. -/
def A_SIT_CAP : Nat := 0x3f010
def SIT_CAP_CAP : Fld := ⟨A_SIT_CAP, 24, 8⟩
def SIT_CAP_USED_L3 : Fld := ⟨A_SIT_CAP, 16, 8⟩
def SIT_CAP_USED_L2 : Fld := ⟨A_SIT_CAP, 8, 8⟩
def SIT_CAP_USED_L1 : Fld := ⟨A_SIT_CAP, 0, 8⟩
/-- SIT.COUNT, 15_site_line.md. -/
def A_SIT_COUNT : Nat := 0x3f014
def SIT_COUNT_RX : Fld := ⟨A_SIT_COUNT, 16, 16⟩
def SIT_COUNT_TX : Fld := ⟨A_SIT_COUNT, 0, 16⟩
/-- SIT.ERR, 15_site_line.md. -/
def A_SIT_ERR : Nat := 0x3f018
def SIT_ERR_PREAMBLE_LOST : Fld := ⟨A_SIT_ERR, 24, 8⟩
def SIT_ERR_SEG_FAIL : Fld := ⟨A_SIT_ERR, 16, 8⟩
def SIT_ERR_BEAT_ERASED : Fld := ⟨A_SIT_ERR, 8, 8⟩
def SIT_ERR_MSG_FAIL : Fld := ⟨A_SIT_ERR, 0, 8⟩
/-- SIT.DROP, 15_site_line.md. -/
def A_SIT_DROP : Nat := 0x3f01c
def SIT_DROP_DECODE_DROP : Fld := ⟨A_SIT_DROP, 16, 16⟩
def SIT_DROP_FOREIGN : Fld := ⟨A_SIT_DROP, 0, 16⟩
/-- SIT.RXQ, 15_site_line.md. -/
def A_SIT_RXQ : Nat := 0x3f020
def SIT_RXQ_DEPTH : Fld := ⟨A_SIT_RXQ, 0, 4⟩
/-- SIT.XM_POWER, 15_site_line.md. -/
def A_SIT_XM_POWER : Nat := 0x3f030
def SIT_XM_POWER_P_IMP : Fld := ⟨A_SIT_XM_POWER, 16, 16⟩
def SIT_XM_POWER_P_EXP : Fld := ⟨A_SIT_XM_POWER, 0, 16⟩
/-- SIT.XM_LIMIT, 15_site_line.md. -/
def A_SIT_XM_LIMIT : Nat := 0x3f034
def SIT_XM_LIMIT_LIMIT : Fld := ⟨A_SIT_XM_LIMIT, 16, 16⟩
def SIT_XM_LIMIT_MINUTES : Fld := ⟨A_SIT_XM_LIMIT, 0, 16⟩
/-- SIT.XM_AGE, 15_site_line.md. -/
def A_SIT_XM_AGE : Nat := 0x3f038
def SIT_XM_AGE_REG : Fld := ⟨A_SIT_XM_AGE, 8, 8⟩
def SIT_XM_AGE_AGE : Fld := ⟨A_SIT_XM_AGE, 0, 8⟩
/-- SIT.EVENTS, 15_site_line.md. -/
def A_SIT_EVENTS : Nat := 0x3f040
def SIT_EVENTS_INJ_FAULT : Fld := ⟨A_SIT_EVENTS, 7, 1⟩
def SIT_EVENTS_CLASH : Fld := ⟨A_SIT_EVENTS, 6, 1⟩
def SIT_EVENTS_CAPACITY : Fld := ⟨A_SIT_EVENTS, 5, 1⟩
def SIT_EVENTS_DEMOTE : Fld := ⟨A_SIT_EVENTS, 4, 1⟩
def SIT_EVENTS_MSG_FAIL : Fld := ⟨A_SIT_EVENTS, 3, 1⟩
def SIT_EVENTS_XM_LIMIT : Fld := ⟨A_SIT_EVENTS, 2, 1⟩
def SIT_EVENTS_LINK_CHG : Fld := ⟨A_SIT_EVENTS, 1, 1⟩
def SIT_EVENTS_RX_HOST : Fld := ⟨A_SIT_EVENTS, 0, 1⟩
/-- SIT.LINK_k, 15_site_line.md. -/
def A_SIT_LINK (k : Nat) : Nat := 0x3f100 + 8 * k
def SIT_LINK_KNOWN (k : Nat) : Fld := ⟨A_SIT_LINK k, 31, 1⟩
def SIT_LINK_DIRECT (k : Nat) : Fld := ⟨A_SIT_LINK k, 30, 1⟩
def SIT_LINK_HOPS (k : Nat) : Fld := ⟨A_SIT_LINK k, 28, 2⟩
def SIT_LINK_TXMAP (k : Nat) : Fld := ⟨A_SIT_LINK k, 12, 12⟩
def SIT_LINK_RXMAP (k : Nat) : Fld := ⟨A_SIT_LINK k, 0, 12⟩
/-- SIT.LINKQ_k, 15_site_line.md. -/
def A_SIT_LINKQ (k : Nat) : Nat := 0x3f104 + 8 * k
def SIT_LINKQ_COST (k : Nat) : Fld := ⟨A_SIT_LINKQ k, 16, 16⟩
def SIT_LINKQ_SNR (k : Nat) : Fld := ⟨A_SIT_LINKQ k, 8, 8⟩
def SIT_LINKQ_AGE (k : Nat) : Fld := ⟨A_SIT_LINKQ k, 0, 8⟩
/-- HPD.Pn_LAST, 16_host.md. -/
def A_HPD_P_LAST (n : Nat) : Nat := 0x1000 + 16 * n
def HPD_P_LAST_COUNT (n : Nat) : Fld := ⟨A_HPD_P_LAST n, 24, 8⟩
def HPD_P_LAST_PENDING (n : Nat) : Fld := ⟨A_HPD_P_LAST n, 16, 1⟩
def HPD_P_LAST_RESULT (n : Nat) : Fld := ⟨A_HPD_P_LAST n, 0, 16⟩
/-- HPD.Pn_ERR, 16_host.md. -/
def A_HPD_P_ERR (n : Nat) : Nat := 0x1004 + 16 * n
def HPD_P_ERR_CRC_ERR (n : Nat) : Fld := ⟨A_HPD_P_ERR n, 24, 8⟩
def HPD_P_ERR_REFUSED (n : Nat) : Fld := ⟨A_HPD_P_ERR n, 16, 8⟩
def HPD_P_ERR_UNMAPPED (n : Nat) : Fld := ⟨A_HPD_P_ERR n, 8, 8⟩
def HPD_P_ERR_UNDERRUN (n : Nat) : Fld := ⟨A_HPD_P_ERR n, 0, 8⟩
/-- HPD.Pn_CLK, 16_host.md. -/
def A_HPD_P_CLK (n : Nat) : Nat := 0x1008 + 16 * n
def HPD_P_CLK_TXN (n : Nat) : Fld := ⟨A_HPD_P_CLK n, 16, 16⟩
def HPD_P_CLK_SCK (n : Nat) : Fld := ⟨A_HPD_P_CLK n, 0, 16⟩
/-- HPD.CFG, 16_host.md. -/
def A_HPD_CFG : Nat := 0x1020
def HPD_CFG_CRC_REQ : Fld := ⟨A_HPD_CFG, 31, 1⟩
def HPD_CFG_HOST_WD : Fld := ⟨A_HPD_CFG, 0, 16⟩
/-- HPD.STATUS, 16_host.md. -/
def A_HPD_STATUS : Nat := 0x1024
def HPD_STATUS_POLL_AGE : Fld := ⟨A_HPD_STATUS, 16, 16⟩
def HPD_STATUS_EXEC : Fld := ⟨A_HPD_STATUS, 8, 8⟩
def HPD_STATUS_HOST_SILENT : Fld := ⟨A_HPD_STATUS, 0, 1⟩
/-- HPD.DB_IN, 16_host.md. -/
def A_HPD_DB_IN : Nat := 0x1040
def HPD_DB_IN_HOST : Fld := ⟨A_HPD_DB_IN, 16, 8⟩
def HPD_DB_IN_MBX_FREE : Fld := ⟨A_HPD_DB_IN, 8, 8⟩
def HPD_DB_IN_MBX_OUT : Fld := ⟨A_HPD_DB_IN, 0, 8⟩
/-- HPD.DB_IN_MASK, 16_host.md. -/
def A_HPD_DB_IN_MASK : Nat := 0x1044
def HPD_DB_IN_MASK_MASK : Fld := ⟨A_HPD_DB_IN_MASK, 0, 32⟩
/-- HPD.DB_OUT, 16_host.md. -/
def A_HPD_DB_OUT : Nat := 0x1048
def HPD_DB_OUT_HOST : Fld := ⟨A_HPD_DB_OUT, 16, 8⟩
def HPD_DB_OUT_MBX_IN : Fld := ⟨A_HPD_DB_OUT, 0, 8⟩
/-- HPD.DB_OUT_SET, 16_host.md. -/
def A_HPD_DB_OUT_SET : Nat := 0x104c
def HPD_DB_OUT_SET_HOST : Fld := ⟨A_HPD_DB_OUT_SET, 16, 8⟩
/-- MBX.Mk_LO, 16_host.md. -/
def A_MBX_LO (k : Nat) : Nat := 0x2000 + 16 * k
def MBX_LO_ADDR (k : Nat) : Fld := ⟨A_MBX_LO k, 0, 32⟩
/-- MBX.Mk_HI, 16_host.md. -/
def A_MBX_HI (k : Nat) : Nat := 0x2004 + 16 * k
def MBX_HI_CODE (k : Nat) : Fld := ⟨A_MBX_HI k, 16, 16⟩
def MBX_HI_LEN (k : Nat) : Fld := ⟨A_MBX_HI k, 0, 16⟩
/-- MBX.Mk_STAT, 16_host.md. -/
def A_MBX_STAT (k : Nat) : Nat := 0x2008 + 16 * k
def MBX_STAT_FULL (k : Nat) : Fld := ⟨A_MBX_STAT k, 31, 1⟩
def MBX_STAT_COLLISION (k : Nat) : Fld := ⟨A_MBX_STAT k, 30, 1⟩
def MBX_STAT_PORT (k : Nat) : Fld := ⟨A_MBX_STAT k, 28, 2⟩
def MBX_STAT_QUEUE (k : Nat) : Fld := ⟨A_MBX_STAT k, 0, 5⟩
/-- MBX.SUMMARY, 16_host.md. -/
def A_MBX_SUMMARY : Nat := 0x2100
def MBX_SUMMARY_COLLISION : Fld := ⟨A_MBX_SUMMARY, 16, 16⟩
def MBX_SUMMARY_FULL : Fld := ⟨A_MBX_SUMMARY, 0, 16⟩
/-- ARB.CTRL, 17_mainplate.md. -/
def A_ARB_CTRL : Nat := 0x40000
def ARB_CTRL_HACK_BANKS : Fld := ⟨A_ARB_CTRL, 16, 8⟩
def ARB_CTRL_HACK : Fld := ⟨A_ARB_CTRL, 0, 1⟩
/-- ARB.STATUS, 17_mainplate.md. -/
def A_ARB_STATUS : Nat := 0x40004
def ARB_STATUS_HELD : Fld := ⟨A_ARB_STATUS, 24, 8⟩
def ARB_STATUS_DRAINED : Fld := ⟨A_ARB_STATUS, 16, 8⟩
def ARB_STATUS_BUSY : Fld := ⟨A_ARB_STATUS, 8, 8⟩
/-- ARB.CUTOFF, 17_mainplate.md. -/
def A_ARB_CUTOFF : Nat := 0x40008
def ARB_CUTOFF_MASTER : Fld := ⟨A_ARB_CUTOFF, 0, 14⟩
/-- ARB.HOLD_MAX, 17_mainplate.md. -/
def A_ARB_HOLD_MAX : Nat := 0x4000c
def ARB_HOLD_MAX_HOLD_MAX : Fld := ⟨A_ARB_HOLD_MAX, 0, 16⟩
/-- ARB.MISS_m, 17_mainplate.md. -/
def A_ARB_MISS (m : Nat) : Nat := 0x40040 + 4 * m
def ARB_MISS_COUNT (m : Nat) : Fld := ⟨A_ARB_MISS m, 16, 16⟩
def ARB_MISS_WORST (m : Nat) : Fld := ⟨A_ARB_MISS m, 0, 16⟩
/-- ARB.WAIT_m, 17_mainplate.md. -/
def A_ARB_WAIT (m : Nat) : Nat := 0x40080 + 4 * m
def ARB_WAIT_GRANTS (m : Nat) : Fld := ⟨A_ARB_WAIT m, 16, 16⟩
def ARB_WAIT_MAX_WAIT (m : Nat) : Fld := ⟨A_ARB_WAIT m, 0, 16⟩
/-- ARB.LOAD_b, 17_mainplate.md. -/
def A_ARB_LOAD (b : Nat) : Nat := 0x400c0 + 4 * b
def ARB_LOAD_PEAK (b : Nat) : Fld := ⟨A_ARB_LOAD b, 8, 8⟩
def ARB_LOAD_LOAD (b : Nat) : Fld := ⟨A_ARB_LOAD b, 0, 8⟩
/-- ARB.BANK_MAP, 17_mainplate.md. -/
def A_ARB_BANK_MAP : Nat := 0x40100
def ARB_BANK_MAP_SPARED : Fld := ⟨A_ARB_BANK_MAP, 28, 4⟩
def ARB_BANK_MAP_COPYING : Fld := ⟨A_ARB_BANK_MAP, 24, 4⟩
def ARB_BANK_MAP_PROGRESS : Fld := ⟨A_ARB_BANK_MAP, 16, 8⟩
def ARB_BANK_MAP_RETIRED : Fld := ⟨A_ARB_BANK_MAP, 0, 9⟩
/-- ARB.ECC_b, 17_mainplate.md. -/
def A_ARB_ECC (b : Nat) : Nat := 0x40140 + 4 * b
def ARB_ECC_CORR_24H (b : Nat) : Fld := ⟨A_ARB_ECC b, 16, 16⟩
def ARB_ECC_POISONED (b : Nat) : Fld := ⟨A_ARB_ECC b, 0, 16⟩
/-- ARB.ECC_LAST, 17_mainplate.md. -/
def A_ARB_ECC_LAST : Nat := 0x40180
def ARB_ECC_LAST_ADDR : Fld := ⟨A_ARB_ECC_LAST, 0, 32⟩
/-- ARB.ECC_INFO, 17_mainplate.md. -/
def A_ARB_ECC_INFO : Nat := 0x40184
def ARB_ECC_INFO_DOUBLE : Fld := ⟨A_ARB_ECC_INFO, 8, 1⟩
def ARB_ECC_INFO_FINDER : Fld := ⟨A_ARB_ECC_INFO, 4, 4⟩
def ARB_ECC_INFO_BANK : Fld := ⟨A_ARB_ECC_INFO, 0, 4⟩
/-- ARB.SCRUB, 17_mainplate.md. -/
def A_ARB_SCRUB : Nat := 0x40190
def ARB_SCRUB_AGE : Fld := ⟨A_ARB_SCRUB, 16, 16⟩
def ARB_SCRUB_PASSES : Fld := ⟨A_ARB_SCRUB, 0, 16⟩
/-- ARB.EVENTS, 17_mainplate.md. -/
def A_ARB_EVENTS : Nat := 0x401a0
def ARB_EVENTS_SPARE : Fld := ⟨A_ARB_EVENTS, 5, 1⟩
def ARB_EVENTS_UNCORR : Fld := ⟨A_ARB_EVENTS, 4, 1⟩
def ARB_EVENTS_CORR : Fld := ⟨A_ARB_EVENTS, 3, 1⟩
def ARB_EVENTS_CUTOFF : Fld := ⟨A_ARB_EVENTS, 2, 1⟩
def ARB_EVENTS_MISS : Fld := ⟨A_ARB_EVENTS, 1, 1⟩
def ARB_EVENTS_ACCESS : Fld := ⟨A_ARB_EVENTS, 0, 1⟩
/-- DMA.STATUS, 17_mainplate.md. -/
def A_DMA_STATUS : Nat := 0x41000
def DMA_STATUS_ACTIVE : Fld := ⟨A_DMA_STATUS, 16, 16⟩
def DMA_STATUS_PAUSED : Fld := ⟨A_DMA_STATUS, 0, 16⟩
/-- DMA.EVENTS, 17_mainplate.md. -/
def A_DMA_EVENTS : Nat := 0x41004
def DMA_EVENTS_ERROR : Fld := ⟨A_DMA_EVENTS, 16, 16⟩
def DMA_EVENTS_DONE : Fld := ⟨A_DMA_EVENTS, 0, 16⟩
/-- DMA.LATE, 17_mainplate.md. -/
def A_DMA_LATE : Nat := 0x41008
def DMA_LATE_LATE : Fld := ⟨A_DMA_LATE, 0, 16⟩
/-- DMA.Cn_SRC, 17_mainplate.md. -/
def A_DMA_C_SRC (n : Nat) : Nat := 0x41100 + 64 * n
def DMA_C_SRC_SRC (n : Nat) : Fld := ⟨A_DMA_C_SRC n, 0, 32⟩
/-- DMA.Cn_DST, 17_mainplate.md. -/
def A_DMA_C_DST (n : Nat) : Nat := 0x41104 + 64 * n
def DMA_C_DST_DST (n : Nat) : Fld := ⟨A_DMA_C_DST n, 0, 32⟩
/-- DMA.Cn_LEN, 17_mainplate.md. -/
def A_DMA_C_LEN (n : Nat) : Nat := 0x41108 + 64 * n
def DMA_C_LEN_LEN (n : Nat) : Fld := ⟨A_DMA_C_LEN n, 0, 25⟩
/-- DMA.Cn_MODE, 17_mainplate.md. -/
def A_DMA_C_MODE (n : Nat) : Nat := 0x4110c + 64 * n
def DMA_C_MODE_MODE (n : Nat) : Fld := ⟨A_DMA_C_MODE n, 30, 2⟩
def DMA_C_MODE_PRIO (n : Nat) : Fld := ⟨A_DMA_C_MODE n, 28, 2⟩
def DMA_C_MODE_NCH (n : Nat) : Fld := ⟨A_DMA_C_MODE n, 20, 8⟩
def DMA_C_MODE_ESIZE (n : Nat) : Fld := ⟨A_DMA_C_MODE n, 17, 3⟩
def DMA_C_MODE_DUE_STAMP (n : Nat) : Fld := ⟨A_DMA_C_MODE n, 0, 16⟩
/-- DMA.Cn_STRIDE, 17_mainplate.md. -/
def A_DMA_C_STRIDE (n : Nat) : Nat := 0x41110 + 64 * n
def DMA_C_STRIDE_STRIDE (n : Nat) : Fld := ⟨A_DMA_C_STRIDE n, 0, 32⟩
/-- DMA.Cn_DEADLINE, 17_mainplate.md. -/
def A_DMA_C_DEADLINE (n : Nat) : Nat := 0x41114 + 64 * n
def DMA_C_DEADLINE_DEADLINE (n : Nat) : Fld := ⟨A_DMA_C_DEADLINE n, 0, 16⟩
/-- DMA.Cn_CTRL, 17_mainplate.md. -/
def A_DMA_C_CTRL (n : Nat) : Nat := 0x41118 + 64 * n
def DMA_C_CTRL_ABORT (n : Nat) : Fld := ⟨A_DMA_C_CTRL n, 2, 1⟩
def DMA_C_CTRL_PAUSE (n : Nat) : Fld := ⟨A_DMA_C_CTRL n, 1, 1⟩
def DMA_C_CTRL_START (n : Nat) : Fld := ⟨A_DMA_C_CTRL n, 0, 1⟩
/-- DMA.Cn_STAT, 17_mainplate.md. -/
def A_DMA_C_STAT (n : Nat) : Nat := 0x4111c + 64 * n
def DMA_C_STAT_STATE (n : Nat) : Fld := ⟨A_DMA_C_STAT n, 28, 4⟩
def DMA_C_STAT_ERR (n : Nat) : Fld := ⟨A_DMA_C_STAT n, 24, 4⟩
def DMA_C_STAT_LATE (n : Nat) : Fld := ⟨A_DMA_C_STAT n, 23, 1⟩
def DMA_C_STAT_ABORT_LATE (n : Nat) : Fld := ⟨A_DMA_C_STAT n, 22, 1⟩
/-- DMA.Cn_REMAIN, 17_mainplate.md. -/
def A_DMA_C_REMAIN (n : Nat) : Nat := 0x41120 + 64 * n
def DMA_C_REMAIN_REMAIN (n : Nat) : Fld := ⟨A_DMA_C_REMAIN n, 0, 25⟩
/-- DMA.Cn_CUR_SRC, 17_mainplate.md. -/
def A_DMA_C_CUR_SRC (n : Nat) : Nat := 0x41124 + 64 * n
def DMA_C_CUR_SRC_CUR_SRC (n : Nat) : Fld := ⟨A_DMA_C_CUR_SRC n, 0, 32⟩
/-- DMA.Cn_CUR_DST, 17_mainplate.md. -/
def A_DMA_C_CUR_DST (n : Nat) : Nat := 0x41128 + 64 * n
def DMA_C_CUR_DST_CUR_DST (n : Nat) : Fld := ⟨A_DMA_C_CUR_DST n, 0, 32⟩
/-- DMA.Cn_BEAT, 17_mainplate.md. -/
def A_DMA_C_BEAT (n : Nat) : Nat := 0x4112c + 64 * n
def DMA_C_BEAT_BEAT (n : Nat) : Fld := ⟨A_DMA_C_BEAT n, 0, 32⟩
/-- KEY.STATUS, 18_keys.md. -/
def A_KEY_STATUS : Nat := 0x42000
def KEY_STATUS_LOADED : Fld := ⟨A_KEY_STATUS, 24, 8⟩
def KEY_STATUS_SVC_LOCK : Fld := ⟨A_KEY_STATUS, 2, 1⟩
def KEY_STATUS_DRBG_OK : Fld := ⟨A_KEY_STATUS, 1, 1⟩
def KEY_STATUS_AGREED : Fld := ⟨A_KEY_STATUS, 0, 1⟩
/-- KEY.SVC, 18_keys.md. -/
def A_KEY_SVC : Nat := 0x42004
def KEY_SVC_LOCK_S : Fld := ⟨A_KEY_SVC, 16, 16⟩
def KEY_SVC_FAILS : Fld := ⟨A_KEY_SVC, 0, 8⟩
/-- KEY.JW_SEL, 18_keys.md. -/
def A_KEY_JW_SEL : Nat := 0x42010
def KEY_JW_SEL_JEWEL : Fld := ⟨A_KEY_JW_SEL, 0, 6⟩
/-- KEY.JW_ATTR0, 18_keys.md. -/
def A_KEY_JW_ATTR0 : Nat := 0x42014
def KEY_JW_ATTR0_LC : Fld := ⟨A_KEY_JW_ATTR0, 27, 5⟩
def KEY_JW_ATTR0_WORLDS : Fld := ⟨A_KEY_JW_ATTR0, 24, 3⟩
def KEY_JW_ATTR0_EXPORT_BAN : Fld := ⟨A_KEY_JW_ATTR0, 21, 1⟩
def KEY_JW_ATTR0_LOADED : Fld := ⟨A_KEY_JW_ATTR0, 20, 1⟩
def KEY_JW_ATTR0_ORIGIN : Fld := ⟨A_KEY_JW_ATTR0, 18, 2⟩
def KEY_JW_ATTR0_MASTERS : Fld := ⟨A_KEY_JW_ATTR0, 0, 14⟩
/-- KEY.JW_ATTR1, 18_keys.md. -/
def A_KEY_JW_ATTR1 : Nat := 0x42018
def KEY_JW_ATTR1_OPS : Fld := ⟨A_KEY_JW_ATTR1, 16, 12⟩
def KEY_JW_ATTR1_TYPE : Fld := ⟨A_KEY_JW_ATTR1, 12, 4⟩
def KEY_JW_ATTR1_DEPTH : Fld := ⟨A_KEY_JW_ATTR1, 9, 3⟩
def KEY_JW_ATTR1_PARENT : Fld := ⟨A_KEY_JW_ATTR1, 0, 6⟩
/-- KEY.JW_USE, 18_keys.md. -/
def A_KEY_JW_USE : Nat := 0x4201c
def KEY_JW_USE_REFUSED : Fld := ⟨A_KEY_JW_USE, 16, 16⟩
def KEY_JW_USE_USED : Fld := ⟨A_KEY_JW_USE, 0, 16⟩
/-- KEY.JW_KCV, 18_keys.md. -/
def A_KEY_JW_KCV : Nat := 0x42020
def KEY_JW_KCV_KCV : Fld := ⟨A_KEY_JW_KCV, 0, 32⟩
/-- KEY.DRBG, 18_keys.md. -/
def A_KEY_DRBG : Nat := 0x42030
def KEY_DRBG_RESEEDS : Fld := ⟨A_KEY_DRBG, 16, 16⟩
def KEY_DRBG_HEALTH_FAIL : Fld := ⟨A_KEY_DRBG, 8, 8⟩
/-- KEY.EVENTS, 18_keys.md. -/
def A_KEY_EVENTS : Nat := 0x42040
def KEY_EVENTS_LC_ADVANCED : Fld := ⟨A_KEY_EVENTS, 4, 1⟩
def KEY_EVENTS_IMPORT : Fld := ⟨A_KEY_EVENTS, 3, 1⟩
def KEY_EVENTS_ENTROPY : Fld := ⟨A_KEY_EVENTS, 2, 1⟩
def KEY_EVENTS_SVC : Fld := ⟨A_KEY_EVENTS, 1, 1⟩
def KEY_EVENTS_REFUSED : Fld := ⟨A_KEY_EVENTS, 0, 1⟩
/-- UPD.STATUS, 19_update.md. -/
def A_UPD_STATUS : Nat := 0x43000
def UPD_STATUS_PHASE : Fld := ⟨A_UPD_STATUS, 28, 4⟩
def UPD_STATUS_COMPONENT : Fld := ⟨A_UPD_STATUS, 24, 4⟩
def UPD_STATUS_SEG_DONE : Fld := ⟨A_UPD_STATUS, 8, 8⟩
def UPD_STATUS_SEG_TOTAL : Fld := ⟨A_UPD_STATUS, 0, 8⟩
/-- UPD.Cc_RUN, 19_update.md. -/
def A_UPD_C_RUN (c : Nat) : Nat := 0x43020 + 16 * c
def UPD_C_RUN_VERSION (c : Nat) : Fld := ⟨A_UPD_C_RUN c, 0, 32⟩
/-- UPD.Cc_FLASH, 19_update.md. -/
def A_UPD_C_FLASH (c : Nat) : Nat := 0x43024 + 16 * c
def UPD_C_FLASH_VERSION (c : Nat) : Fld := ⟨A_UPD_C_FLASH c, 0, 32⟩
/-- UPD.Cc_FLOOR, 19_update.md. -/
def A_UPD_C_FLOOR (c : Nat) : Nat := 0x43028 + 16 * c
def UPD_C_FLOOR_FLOOR (c : Nat) : Fld := ⟨A_UPD_C_FLOOR c, 0, 32⟩
/-- UPD.Cc_STATE, 19_update.md. -/
def A_UPD_C_STATE (c : Nat) : Nat := 0x4302c + 16 * c
def UPD_C_STATE_ENTRY (c : Nat) : Fld := ⟨A_UPD_C_STATE c, 30, 2⟩
def UPD_C_STATE_PENDING (c : Nat) : Fld := ⟨A_UPD_C_STATE c, 29, 1⟩
def UPD_C_STATE_LENGTH (c : Nat) : Fld := ⟨A_UPD_C_STATE c, 0, 24⟩
/-- UPD.MIRROR, 19_update.md. -/
def A_UPD_MIRROR : Nat := 0x430a0
def UPD_MIRROR_ALT : Fld := ⟨A_UPD_MIRROR, 16, 16⟩
def UPD_MIRROR_SPOKEN : Fld := ⟨A_UPD_MIRROR, 0, 16⟩
/-- UPD.EVENTS, 19_update.md. -/
def A_UPD_EVENTS : Nat := 0x430b0
def UPD_EVENTS_FAILED : Fld := ⟨A_UPD_EVENTS, 4, 1⟩
def UPD_EVENTS_RESTORED : Fld := ⟨A_UPD_EVENTS, 3, 1⟩
def UPD_EVENTS_DEFERRED : Fld := ⟨A_UPD_EVENTS, 2, 1⟩
def UPD_EVENTS_ACTIVATED : Fld := ⟨A_UPD_EVENTS, 1, 1⟩
def UPD_EVENTS_LOADED : Fld := ⟨A_UPD_EVENTS, 0, 1⟩
/-- UPD.REC_ADDR, 19_update.md. -/
def A_UPD_REC_ADDR : Nat := 0x43100
def UPD_REC_ADDR_ADDR : Fld := ⟨A_UPD_REC_ADDR, 0, 32⟩
/-- UPD.REC_LEN, 19_update.md. -/
def A_UPD_REC_LEN : Nat := 0x43104
def UPD_REC_LEN_LEN : Fld := ⟨A_UPD_REC_LEN, 0, 22⟩
/-- UPD.REC_CMD, 19_update.md. -/
def A_UPD_REC_CMD : Nat := 0x43108
def UPD_REC_CMD_KEY : Fld := ⟨A_UPD_REC_CMD, 16, 16⟩
def UPD_REC_CMD_OP : Fld := ⟨A_UPD_REC_CMD, 0, 2⟩
/-- UPD.REC_STAT, 19_update.md. -/
def A_UPD_REC_STAT : Nat := 0x4310c
def UPD_REC_STAT_RESULT : Fld := ⟨A_UPD_REC_STAT, 16, 16⟩
def UPD_REC_STAT_READY : Fld := ⟨A_UPD_REC_STAT, 2, 1⟩
def UPD_REC_STAT_ERROR : Fld := ⟨A_UPD_REC_STAT, 1, 1⟩
def UPD_REC_STAT_BUSY : Fld := ⟨A_UPD_REC_STAT, 0, 1⟩
/-- WEAR.LANE_x, 20_wear.md. -/
def A_WEAR_LANE (x : Nat) : Nat := 0x44000 + 4 * x
def WEAR_LANE_STEP (x : Nat) : Fld := ⟨A_WEAR_LANE x, 30, 2⟩
def WEAR_LANE_FLOOR (x : Nat) : Fld := ⟨A_WEAR_LANE x, 29, 1⟩
def WEAR_LANE_DUE (x : Nat) : Fld := ⟨A_WEAR_LANE x, 28, 1⟩
def WEAR_LANE_HOURS_LOW (x : Nat) : Fld := ⟨A_WEAR_LANE x, 16, 8⟩
def WEAR_LANE_SLACK (x : Nat) : Fld := ⟨A_WEAR_LANE x, 0, 16⟩
/-- WEAR.SLACK_AT_x, 20_wear.md. -/
def A_WEAR_SLACK_AT (x : Nat) : Nat := 0x44008 + 4 * x
def WEAR_SLACK_AT_S10 (x : Nat) : Fld := ⟨A_WEAR_SLACK_AT x, 16, 8⟩
def WEAR_SLACK_AT_S11 (x : Nat) : Fld := ⟨A_WEAR_SLACK_AT x, 8, 8⟩
def WEAR_SLACK_AT_S12 (x : Nat) : Fld := ⟨A_WEAR_SLACK_AT x, 0, 8⟩
/-- WEAR.LEAK, 20_wear.md. -/
def A_WEAR_LEAK : Nat := 0x44010
def WEAR_LEAK_LB : Fld := ⟨A_WEAR_LEAK, 16, 16⟩
def WEAR_LEAK_LA : Fld := ⟨A_WEAR_LEAK, 0, 16⟩
/-- WEAR.THRESH, 20_wear.md. -/
def A_WEAR_THRESH : Nat := 0x44014
def WEAR_THRESH_LC_RATING : Fld := ⟨A_WEAR_THRESH, 16, 16⟩
def WEAR_THRESH_FAIL_PS : Fld := ⟨A_WEAR_THRESH, 8, 8⟩
def WEAR_THRESH_STEP_PS : Fld := ⟨A_WEAR_THRESH, 0, 8⟩
/-- WEAR.SHORT, 20_wear.md. -/
def A_WEAR_SHORT : Nat := 0x44018
def WEAR_SHORT_SWAP : Fld := ⟨A_WEAR_SHORT, 4, 4⟩
def WEAR_SHORT_SWING : Fld := ⟨A_WEAR_SHORT, 0, 4⟩
/-- WEAR.NV, 20_wear.md. -/
def A_WEAR_NV : Nat := 0x4401c
def WEAR_NV_FLASH_CORR : Fld := ⟨A_WEAR_NV, 16, 16⟩
def WEAR_NV_MRAM_CORR : Fld := ⟨A_WEAR_NV, 0, 16⟩
/-- WEAR.EST_k, 20_wear.md. -/
def A_WEAR_EST (k : Nat) : Nat := 0x44020 + 4 * k
def WEAR_EST_YEARS (k : Nat) : Fld := ⟨A_WEAR_EST k, 0, 16⟩
/-- WEAR.REC, 20_wear.md. -/
def A_WEAR_REC : Nat := 0x44040
def WEAR_REC_SEQ : Fld := ⟨A_WEAR_REC, 0, 32⟩
/-- WEAR.YEARS, 20_wear.md. -/
def A_WEAR_YEARS : Nat := 0x44044
def WEAR_YEARS_COUNT : Fld := ⟨A_WEAR_YEARS, 0, 8⟩
/-- WEAR.EVENTS, 20_wear.md. -/
def A_WEAR_EVENTS : Nat := 0x44050
def WEAR_EVENTS_BEZEL : Fld := ⟨A_WEAR_EVENTS, 5, 1⟩
def WEAR_EVENTS_PART_WEAR : Fld := ⟨A_WEAR_EVENTS, 4, 1⟩
def WEAR_EVENTS_SHORTENED : Fld := ⟨A_WEAR_EVENTS, 3, 1⟩
def WEAR_EVENTS_STEP : Fld := ⟨A_WEAR_EVENTS, 2, 1⟩
def WEAR_EVENTS_ESTIMATE : Fld := ⟨A_WEAR_EVENTS, 1, 1⟩
def WEAR_EVENTS_RECORD : Fld := ⟨A_WEAR_EVENTS, 0, 1⟩
/-- PWR.STATUS, 21_power_clocks.md. -/
def A_PWR_STATUS : Nat := 0x5000
def PWR_STATUS_IN_RANGE : Fld := ⟨A_PWR_STATUS, 12, 8⟩
def PWR_STATUS_PFAIL_N : Fld := ⟨A_PWR_STATUS, 5, 1⟩
def PWR_STATUS_REMONTOIRE : Fld := ⟨A_PWR_STATUS, 4, 1⟩
def PWR_STATUS_VSYS_HOLD : Fld := ⟨A_PWR_STATUS, 3, 1⟩
def PWR_STATUS_WARN : Fld := ⟨A_PWR_STATUS, 2, 1⟩
def PWR_STATUS_SUPPLY : Fld := ⟨A_PWR_STATUS, 0, 2⟩
/-- PWR.VAUX, 21_power_clocks.md. -/
def A_PWR_VAUX : Nat := 0x5004
def PWR_VAUX_MIN : Fld := ⟨A_PWR_VAUX, 16, 16⟩
def PWR_VAUX_VAUX : Fld := ⟨A_PWR_VAUX, 0, 16⟩
/-- PWR.HOLD, 21_power_clocks.md. -/
def A_PWR_HOLD : Nat := 0x5008
def PWR_HOLD_LEFT : Fld := ⟨A_PWR_HOLD, 16, 16⟩
def PWR_HOLD_HOLD : Fld := ⟨A_PWR_HOLD, 0, 16⟩
/-- PWR.RAILS, 21_power_clocks.md. -/
def A_PWR_RAILS : Nat := 0x500c
def PWR_RAILS_V1P8 : Fld := ⟨A_PWR_RAILS, 16, 16⟩
def PWR_RAILS_VCORE : Fld := ⟨A_PWR_RAILS, 0, 16⟩
/-- PWR.RAILS2, 21_power_clocks.md. -/
def A_PWR_RAILS2 : Nat := 0x5010
def PWR_RAILS2_VBAT : Fld := ⟨A_PWR_RAILS2, 16, 16⟩
def PWR_RAILS2_V3P3 : Fld := ⟨A_PWR_RAILS2, 0, 16⟩
/-- PWR.CP, 21_power_clocks.md. -/
def A_PWR_CP : Nat := 0x5014
def PWR_CP_VCPN : Fld := ⟨A_PWR_CP, 16, 16⟩
def PWR_CP_VCPP : Fld := ⟨A_PWR_CP, 0, 16⟩
/-- PWR.VSYS, 21_power_clocks.md. -/
def A_PWR_VSYS : Nat := 0x5018
def PWR_VSYS_P : Fld := ⟨A_PWR_VSYS, 0, 16⟩
/-- PWR.CFG, 21_power_clocks.md. -/
def A_PWR_CFG : Nat := 0x5020
def PWR_CFG_C_HOLD : Fld := ⟨A_PWR_CFG, 16, 16⟩
def PWR_CFG_V_WARN : Fld := ⟨A_PWR_CFG, 0, 8⟩
/-- PWR.DOMAINS, 21_power_clocks.md. -/
def A_PWR_DOMAINS : Nat := 0x5024
def PWR_DOMAINS_RET : Fld := ⟨A_PWR_DOMAINS, 16, 12⟩
def PWR_DOMAINS_ON : Fld := ⟨A_PWR_DOMAINS, 0, 12⟩
/-- PWR.DIPS, 21_power_clocks.md. -/
def A_PWR_DIPS : Nat := 0x5028
def PWR_DIPS_LONGEST : Fld := ⟨A_PWR_DIPS, 16, 16⟩
def PWR_DIPS_COUNT : Fld := ⟨A_PWR_DIPS, 0, 16⟩
/-- PWR.WARN_TOTAL, 21_power_clocks.md. -/
def A_PWR_WARN_TOTAL : Nat := 0x502c
def PWR_WARN_TOTAL_COUNT : Fld := ⟨A_PWR_WARN_TOTAL, 0, 32⟩
/-- PWR.EVENTS, 21_power_clocks.md. -/
def A_PWR_EVENTS : Nat := 0x5040
def PWR_EVENTS_HOLD_LOW : Fld := ⟨A_PWR_EVENTS, 3, 1⟩
def PWR_EVENTS_CP_SUPPLY : Fld := ⟨A_PWR_EVENTS, 2, 1⟩
def PWR_EVENTS_WARN_END : Fld := ⟨A_PWR_EVENTS, 1, 1⟩
def PWR_EVENTS_WARN : Fld := ⟨A_PWR_EVENTS, 0, 1⟩
/-- CLK.STATUS, 21_power_clocks.md. -/
def A_CLK_STATUS : Nat := 0x6000
def CLK_STATUS_LOST : Fld := ⟨A_CLK_STATUS, 16, 12⟩
def CLK_STATUS_CHRONO_FB : Fld := ⟨A_CLK_STATUS, 7, 1⟩
def CLK_STATUS_LOCK : Fld := ⟨A_CLK_STATUS, 0, 7⟩
/-- CLK.REF_PPM, 21_power_clocks.md. -/
def A_CLK_REF_PPM : Nat := 0x6004
def CLK_REF_PPM_PPM : Fld := ⟨A_CLK_REF_PPM, 0, 16⟩
/-- CLK.LANE, 21_power_clocks.md. -/
def A_CLK_LANE : Nat := 0x6008
def CLK_LANE_LB_DIV : Fld := ⟨A_CLK_LANE, 16, 4⟩
def CLK_LANE_LA_DIV : Fld := ⟨A_CLK_LANE, 0, 4⟩
/-- CLK.EVENTS, 21_power_clocks.md. -/
def A_CLK_EVENTS : Nat := 0x6010
def CLK_EVENTS_CHRONO : Fld := ⟨A_CLK_EVENTS, 2, 1⟩
def CLK_EVENTS_DEVIATION : Fld := ⟨A_CLK_EVENTS, 1, 1⟩
def CLK_EVENTS_LOST : Fld := ⟨A_CLK_EVENTS, 0, 1⟩
/-- FLT.STATUS, 22_faults.md. -/
def A_FLT_STATUS : Nat := 0x45000
def FLT_STATUS_UNREAD : Fld := ⟨A_FLT_STATUS, 16, 16⟩
def FLT_STATUS_OVERRUN : Fld := ⟨A_FLT_STATUS, 8, 8⟩
def FLT_STATUS_SEL_VALID : Fld := ⟨A_FLT_STATUS, 0, 1⟩
/-- FLT.HEAD, 22_faults.md. -/
def A_FLT_HEAD : Nat := 0x45004
def FLT_HEAD_SEQ : Fld := ⟨A_FLT_HEAD, 0, 32⟩
/-- FLT.ACK, 22_faults.md. -/
def A_FLT_ACK : Nat := 0x45008
def FLT_ACK_SEQ : Fld := ⟨A_FLT_ACK, 0, 32⟩
/-- FLT.SEL, 22_faults.md. -/
def A_FLT_SEL : Nat := 0x4500c
def FLT_SEL_SEQ : Fld := ⟨A_FLT_SEL, 0, 32⟩
/-- FLT.E_w, 22_faults.md. -/
def A_FLT_E (w : Nat) : Nat := 0x45010 + 4 * w
/-- FLT.COUNT, 22_faults.md. -/
def A_FLT_COUNT : Nat := 0x45030
def FLT_COUNT_SAFE_HOLD : Fld := ⟨A_FLT_COUNT, 24, 8⟩
def FLT_COUNT_OUTLET_STOP : Fld := ⟨A_FLT_COUNT, 16, 8⟩
def FLT_COUNT_DEGRADE : Fld := ⟨A_FLT_COUNT, 8, 8⟩
def FLT_COUNT_NOTE : Fld := ⟨A_FLT_COUNT, 0, 8⟩
def regRows0 : List RegRow := [
  ⟨0x0, 1048576, 1, 1048576, 1, 1, 0x0, 0x0, 0x0, 0x0, 0x0, 0x4e448200⟩,
  ⟨0x4, 1048576, 1, 1048576, 1, 1, 0x0, 0x0, 0x0, 0x0, 0x0, 0x4200⟩,
  ⟨0x8, 1048576, 1, 1048576, 1, 1, 0x0, 0x0, 0x0, 0x0, 0x0, 0x0⟩,
  ⟨0xc, 1048576, 1, 1048576, 1, 1, 0x0, 0x0, 0x0, 0x0, 0x0, 0x0⟩,
  ⟨0x10, 1048576, 1, 1048576, 1, 1, 0x0, 0x0, 0x0, 0x0, 0x0, 0x0⟩,
  ⟨0x14, 1048576, 1, 1048576, 1, 1, 0x0, 0x0, 0x0, 0x0, 0x0, 0x0⟩,
  ⟨0x20, 1048576, 1, 1048576, 1, 1, 0x0, 0x0, 0x0, 0x0, 0x0, 0x0⟩,
  ⟨0x24, 1048576, 1, 1048576, 1, 1, 0x0, 0x0, 0x0, 0x0, 0x0, 0x0⟩,
  ⟨0x28, 1048576, 1, 1048576, 1, 1, 0x0, 0x0, 0x0, 0x0, 0x0, 0x0⟩,
  ⟨0x30, 1048576, 1, 1048576, 1, 1, 0x0, 0x0, 0x0, 0x0, 0x0, 0x4000000⟩,
  ⟨0x34, 1048576, 1, 1048576, 1, 1, 0x0, 0xf, 0x0, 0x0, 0x0, 0x1⟩,
  ⟨0x38, 1048576, 1, 1048576, 1, 1, 0x0, 0x0, 0x0, 0x0, 0xffff, 0x1⟩,
  ⟨0x40, 1048576, 1, 1048576, 1, 1, 0x0, 0x0, 0x0, 0xffff000f, 0x0, 0x0⟩,
  ⟨0x50, 1048576, 1, 1048576, 1, 1, 0xffffffff, 0x0, 0x0, 0x0, 0x0, 0x0⟩,
  ⟨0x1000, 16, 2, 16, 1, 1, 0x0, 0x0, 0x0, 0x0, 0x0, 0x0⟩,
  ⟨0x1004, 16, 2, 16, 1, 1, 0x0, 0x0, 0xffffffff, 0x0, 0x0, 0x0⟩,
  ⟨0x1008, 16, 2, 16, 1, 1, 0x0, 0x0, 0xffff0000, 0x0, 0x0, 0x0⟩,
  ⟨0x1020, 1048576, 1, 1048576, 1, 1, 0x0, 0x0, 0x0, 0x0, 0x0, 0xa⟩,
  ⟨0x1024, 1048576, 1, 1048576, 1, 1, 0x0, 0x0, 0x0, 0x0, 0x0, 0x0⟩,
  ⟨0x1040, 1048576, 1, 1048576, 1, 1, 0x0, 0xffffff, 0x0, 0x0, 0x0, 0x0⟩,
  ⟨0x1044, 1048576, 1, 1048576, 1, 1, 0xffffffff, 0x0, 0x0, 0x0, 0x0, 0x0⟩,
  ⟨0x1048, 1048576, 1, 1048576, 1, 1, 0x0, 0x0, 0x0, 0x0, 0x0, 0x0⟩,
  ⟨0x104c, 1048576, 1, 1048576, 1, 1, 0x0, 0x0, 0x0, 0xff0000, 0x0, 0x0⟩,
  ⟨0x2000, 16, 8, 16, 1, 1, 0xffffffff, 0x0, 0x0, 0x0, 0x0, 0x0⟩]

def regRows1 : List RegRow := [
  ⟨0x2004, 16, 8, 16, 1, 1, 0xffffffff, 0x0, 0x0, 0x0, 0x0, 0x0⟩,
  ⟨0x2008, 16, 16, 16, 1, 1, 0x0, 0x40000000, 0x0, 0x0, 0x0, 0x0⟩,
  ⟨0x2080, 16, 8, 16, 1, 1, 0x0, 0x0, 0x0, 0x0, 0x0, 0x0⟩,
  ⟨0x2084, 16, 8, 16, 1, 1, 0x0, 0x0, 0xffffffff, 0x0, 0x0, 0x0⟩,
  ⟨0x2100, 1048576, 1, 1048576, 1, 1, 0x0, 0x0, 0x0, 0x0, 0x0, 0x0⟩,
  ⟨0x3000, 1048576, 1, 1048576, 1, 1, 0x0, 0x0, 0x0, 0x0, 0x0, 0x550⟩,
  ⟨0x3004, 1048576, 1, 1048576, 1, 1, 0x0, 0x0, 0x0, 0x0, 0x0, 0x0⟩,
  ⟨0x3008, 1048576, 1, 1048576, 1, 1, 0x0, 0x0, 0x0, 0x0, 0x0, 0x0⟩,
  ⟨0x3010, 1048576, 1, 1048576, 1, 1, 0x0, 0x0, 0x0, 0x0, 0x0, 0x0⟩,
  ⟨0x3014, 1048576, 1, 1048576, 1, 1, 0x0, 0x0, 0x0, 0x0, 0x0, 0x0⟩,
  ⟨0x3018, 1048576, 1, 1048576, 1, 1, 0x0, 0x0, 0x0, 0x0, 0x0, 0x0⟩,
  ⟨0x301c, 1048576, 1, 1048576, 1, 1, 0x0, 0x0, 0x0, 0x0, 0x0, 0x0⟩,
  ⟨0x3020, 1048576, 1, 1048576, 1, 4, 0x0, 0x0, 0x0, 0x0, 0x0, 0x0⟩,
  ⟨0x3030, 1048576, 1, 1048576, 1, 1, 0x0, 0x0, 0x0, 0x0, 0x0, 0x0⟩,
  ⟨0x3034, 1048576, 1, 1048576, 1, 1, 0x0, 0x0, 0x0, 0x0, 0x0, 0x0⟩,
  ⟨0x3038, 1048576, 1, 1048576, 1, 1, 0x0, 0x0, 0x0, 0x0, 0x0, 0xf00⟩,
  ⟨0x303c, 1048576, 1, 1048576, 1, 1, 0x0, 0x3f, 0x0, 0x0, 0x0, 0x0⟩,
  ⟨0x3040, 1048576, 1, 1048576, 1, 1, 0x0, 0x0, 0x0, 0x0, 0x0, 0x0⟩,
  ⟨0x4000, 1048576, 1, 1048576, 1, 1, 0x0, 0x0, 0x0, 0x0, 0x0, 0x0⟩,
  ⟨0x4004, 1048576, 1, 1048576, 1, 1, 0x0, 0x0, 0x0, 0x0, 0x0, 0x0⟩,
  ⟨0x4010, 1048576, 1, 1048576, 1, 1, 0x0, 0x0, 0x0, 0x0, 0x0, 0x0⟩,
  ⟨0x4014, 1048576, 1, 1048576, 1, 1, 0x0, 0x0, 0x0, 0x0, 0x0, 0x0⟩,
  ⟨0x4018, 1048576, 1, 1048576, 1, 1, 0x0, 0x0, 0xffffffff, 0x0, 0x0, 0x0⟩,
  ⟨0x4020, 1048576, 1, 1048576, 1, 1, 0x0, 0x0, 0x0, 0x0, 0x0, 0x0⟩]

def regRows2 : List RegRow := [
  ⟨0x4024, 1048576, 1, 1048576, 1, 1, 0x0, 0x0, 0x0, 0x0, 0x0, 0x0⟩,
  ⟨0x4028, 1048576, 1, 1048576, 1, 1, 0x0, 0x0, 0xffff0000, 0x0, 0x0, 0x0⟩,
  ⟨0x402c, 1048576, 1, 1048576, 1, 1, 0x0, 0x1f, 0x0, 0x0, 0x0, 0x0⟩,
  ⟨0x4040, 8, 8, 8, 1, 1, 0x0, 0x0, 0xffffffff, 0x0, 0x0, 0x0⟩,
  ⟨0x4044, 8, 8, 8, 1, 1, 0x0, 0x0, 0xffffffff, 0x0, 0x0, 0x0⟩,
  ⟨0x5000, 1048576, 1, 1048576, 1, 1, 0x0, 0x0, 0x0, 0x0, 0x0, 0x20⟩,
  ⟨0x5004, 1048576, 1, 1048576, 1, 1, 0x0, 0x0, 0xffff0000, 0x0, 0x0, 0xffff0000⟩,
  ⟨0x5008, 1048576, 1, 1048576, 1, 1, 0x0, 0x0, 0x0, 0x0, 0x0, 0x0⟩,
  ⟨0x500c, 1048576, 1, 1048576, 1, 1, 0x0, 0x0, 0x0, 0x0, 0x0, 0x0⟩,
  ⟨0x5010, 1048576, 1, 1048576, 1, 1, 0x0, 0x0, 0x0, 0x0, 0x0, 0x0⟩,
  ⟨0x5014, 1048576, 1, 1048576, 1, 1, 0x0, 0x0, 0x0, 0x0, 0x0, 0x0⟩,
  ⟨0x5018, 1048576, 1, 1048576, 1, 1, 0x0, 0x0, 0x0, 0x0, 0x0, 0x0⟩,
  ⟨0x5020, 1048576, 1, 1048576, 1, 1, 0x0, 0x0, 0x0, 0x0, 0x0, 0x55⟩,
  ⟨0x5024, 1048576, 1, 1048576, 1, 1, 0x0, 0x0, 0x0, 0x0, 0x0, 0x1⟩,
  ⟨0x5028, 1048576, 1, 1048576, 1, 1, 0x0, 0x0, 0xffffffff, 0x0, 0x0, 0x0⟩,
  ⟨0x502c, 1048576, 1, 1048576, 1, 1, 0x0, 0x0, 0x0, 0x0, 0xffffffff, 0x0⟩,
  ⟨0x5040, 1048576, 1, 1048576, 1, 1, 0x0, 0xf, 0x0, 0x0, 0x0, 0x0⟩,
  ⟨0x6000, 1048576, 1, 1048576, 1, 1, 0x0, 0x0, 0x0, 0x0, 0x0, 0x0⟩,
  ⟨0x6004, 1048576, 1, 1048576, 1, 1, 0x0, 0x0, 0x0, 0x0, 0x0, 0x0⟩,
  ⟨0x6008, 1048576, 1, 1048576, 1, 1, 0x0, 0x0, 0x0, 0x0, 0x0, 0x0⟩,
  ⟨0x6010, 1048576, 1, 1048576, 1, 1, 0x0, 0x7, 0x0, 0x0, 0x0, 0x0⟩,
  ⟨0x8000, 1048576, 1, 1048576, 1, 1, 0x0, 0x0, 0x0, 0x0, 0xff01, 0x0⟩,
  ⟨0x8004, 1048576, 1, 1048576, 1, 1, 0x0, 0x0, 0x0, 0x0, 0x0, 0x0⟩,
  ⟨0x8008, 1048576, 1, 1048576, 1, 1, 0x0, 0x0, 0x0, 0x0, 0x0, 0x0⟩]

def regRows3 : List RegRow := [
  ⟨0x8010, 1048576, 1, 1048576, 1, 1, 0x0, 0x0, 0x0, 0x0, 0x0, 0x1680a01⟩,
  ⟨0x8014, 1048576, 1, 1048576, 1, 1, 0x0, 0x0, 0x0, 0x0, 0x0, 0x0⟩,
  ⟨0x8018, 1048576, 1, 1048576, 1, 1, 0x0, 0x0, 0xffffffff, 0x0, 0x0, 0x0⟩,
  ⟨0x8020, 1048576, 1, 1048576, 1, 1, 0x0, 0x0, 0x0, 0x0, 0x0, 0x0⟩,
  ⟨0x8024, 1048576, 1, 1048576, 1, 1, 0x0, 0x0, 0x0, 0x0, 0x0, 0x0⟩,
  ⟨0x8400, 16, 128, 16, 1, 1, 0x0, 0x0, 0x0, 0x0, 0x7f7f00, 0x7f7f00⟩,
  ⟨0x8404, 16, 128, 16, 1, 1, 0x0, 0x0, 0xffff0000, 0x0, 0x0, 0x0⟩,
  ⟨0x8408, 16, 128, 16, 1, 1, 0x0, 0x0, 0x0, 0x0, 0xffff0000, 0x0⟩,
  ⟨0x840c, 16, 128, 16, 1, 1, 0x0, 0x0, 0x0, 0x0, 0xffffffff, 0x0⟩,
  ⟨0x9000, 8, 72, 8, 1, 1, 0x0, 0x0, 0x0, 0x0, 0xfffcffff, 0x0⟩,
  ⟨0x9004, 8, 72, 8, 1, 1, 0x0, 0x0, 0x0, 0x0, 0xffffff00, 0x0⟩,
  ⟨0x10000, 1024, 32, 32, 11, 4, 0x0, 0x0, 0x0, 0x0, 0xffffffff, 0x0⟩,
  ⟨0x10010, 1024, 32, 32, 11, 4, 0x0, 0x0, 0xffffffff, 0x0, 0xffffffff, 0x0⟩,
  ⟨0x10160, 1024, 32, 4, 40, 1, 0x0, 0x0, 0x0, 0x0, 0x0, 0x0⟩,
  ⟨0x10200, 1024, 32, 1024, 1, 1, 0x0, 0x0, 0x0, 0x0, 0x0, 0x0⟩,
  ⟨0x10204, 1024, 32, 1024, 1, 1, 0x0, 0x0, 0xffff0000, 0x0, 0x0, 0x2⟩,
  ⟨0x10208, 1024, 32, 1024, 1, 1, 0x0, 0x0, 0x0, 0x0, 0x0, 0x0⟩,
  ⟨0x1020c, 1024, 32, 1024, 1, 1, 0x0, 0x0, 0x0, 0x0, 0x0, 0x0⟩,
  ⟨0x10210, 1024, 32, 4, 3, 1, 0x0, 0x0, 0x0, 0x0, 0x0, 0x0⟩,
  ⟨0x10220, 1024, 32, 4, 4, 1, 0x0, 0x0, 0x0, 0x0, 0x0, 0x0⟩,
  ⟨0x10230, 1024, 32, 1024, 1, 1, 0x0, 0x0, 0x0, 0x0, 0x0, 0x0⟩,
  ⟨0x10234, 1024, 32, 1024, 1, 1, 0x0, 0x0, 0x0, 0x0, 0x0, 0x0⟩,
  ⟨0x10238, 1024, 32, 1024, 1, 1, 0x0, 0x0, 0x0, 0x0, 0x0, 0x0⟩,
  ⟨0x1023c, 1024, 32, 1024, 1, 1, 0x0, 0x0, 0x0, 0x0, 0x0, 0x0⟩,
  ⟨0x18000, 1048576, 1, 1048576, 1, 1, 0x0, 0x0, 0x0, 0x0, 0xffff, 0x0⟩]

def regRows4 : List RegRow := [
  ⟨0x18004, 1048576, 1, 1048576, 1, 1, 0x0, 0x0, 0x0, 0x0, 0x0, 0x0⟩,
  ⟨0x18008, 1048576, 1, 1048576, 1, 1, 0x0, 0x0, 0x0, 0x0, 0x0, 0x0⟩,
  ⟨0x1800c, 1048576, 1, 1048576, 1, 1, 0x0, 0x0, 0x0, 0x0, 0x0, 0x8000050a⟩,
  ⟨0x18010, 1048576, 1, 1048576, 1, 1, 0x0, 0x7f, 0x0, 0x0, 0x0, 0x0⟩,
  ⟨0x18014, 1048576, 1, 1048576, 1, 1, 0xffffffff, 0x0, 0x0, 0x0, 0x0, 0x0⟩,
  ⟨0x18020, 8, 4, 8, 1, 1, 0x0, 0x0, 0x0, 0x0, 0x0, 0x0⟩,
  ⟨0x18024, 8, 4, 8, 1, 1, 0x0, 0x0, 0xffff, 0x0, 0x0, 0x0⟩,
  ⟨0x18100, 4, 128, 4, 1, 1, 0x0, 0x0, 0x0, 0x0, 0x0, 0x0⟩,
  ⟨0x20000, 1048576, 1, 1048576, 1, 1, 0x0, 0x0, 0x0, 0x0, 0x0, 0x0⟩,
  ⟨0x20010, 1048576, 1, 1048576, 1, 4, 0x0, 0x0, 0x0, 0x0, 0x0, 0x0⟩,
  ⟨0x20020, 1048576, 1, 1048576, 1, 4, 0x0, 0x0, 0x0, 0x0, 0xffffffff, 0x0⟩,
  ⟨0x20030, 1048576, 1, 1048576, 1, 1, 0x0, 0x0, 0x0, 0x0, 0x0, 0x0⟩,
  ⟨0x20040, 4, 4, 4, 1, 1, 0x0, 0x0, 0x0, 0x0, 0xffffffff, 0x0⟩,
  ⟨0x20050, 1048576, 1, 1048576, 1, 1, 0x0, 0x0, 0x0, 0x0, 0x0, 0xf⟩,
  ⟨0x20054, 1048576, 1, 1048576, 1, 1, 0x0, 0x0, 0x0, 0x0, 0x0, 0x0⟩,
  ⟨0x20058, 1048576, 1, 1048576, 1, 1, 0x0, 0x0, 0x0, 0x0, 0xffff, 0x0⟩,
  ⟨0x20060, 1048576, 1, 1048576, 1, 1, 0x0, 0x0, 0x0, 0x0, 0xffffffff, 0x0⟩,
  ⟨0x20064, 1048576, 1, 1048576, 1, 1, 0xffffffff, 0x0, 0x0, 0x0, 0xffffffff, 0x0⟩,
  ⟨0x20070, 1048576, 1, 1048576, 1, 1, 0x0, 0x7007f, 0x0, 0x0, 0x0, 0x0⟩,
  ⟨0x20074, 1048576, 1, 1048576, 1, 1, 0x0, 0x0, 0x0, 0x0, 0x0, 0x0⟩,
  ⟨0x20078, 1048576, 1, 1048576, 1, 1, 0x0, 0x0, 0x0, 0x0, 0xffffffff, 0x0⟩,
  ⟨0x20100, 1048576, 1, 1048576, 1, 1, 0x1f0f, 0x0, 0x0, 0x0, 0x0, 0x0⟩,
  ⟨0x20110, 16, 16, 16, 1, 4, 0x0, 0x0, 0x0, 0x0, 0xffffffff, 0x0⟩,
  ⟨0x20210, 16, 16, 16, 1, 4, 0x0, 0x0, 0x0, 0x0, 0xffffffff, 0x0⟩]

def regRows5 : List RegRow := [
  ⟨0x20310, 1048576, 1, 1048576, 1, 1, 0x0, 0x0, 0x0, 0x0, 0x0, 0x0⟩,
  ⟨0x20314, 1048576, 1, 1048576, 1, 1, 0x0, 0x0, 0x0, 0x0, 0x0, 0x0⟩,
  ⟨0x20400, 64, 7, 64, 1, 1, 0x0, 0x0, 0x0, 0x0, 0xffffffff, 0x0⟩,
  ⟨0x20410, 64, 7, 64, 1, 4, 0x0, 0x0, 0x0, 0x0, 0xffffffff, 0x0⟩,
  ⟨0x20420, 64, 7, 64, 1, 4, 0x0, 0x0, 0x0, 0x0, 0xffffffff, 0x0⟩,
  ⟨0x20600, 4, 3, 4, 1, 1, 0x0, 0x0, 0x0, 0x0, 0xffffffff, 0x0⟩,
  ⟨0x24000, 1048576, 1, 1048576, 1, 1, 0x0, 0x0, 0x0, 0x0, 0x0, 0x0⟩,
  ⟨0x24004, 1048576, 1, 1048576, 1, 1, 0x0, 0x0, 0x0, 0x0, 0x0, 0x0⟩,
  ⟨0x24008, 1048576, 1, 1048576, 1, 1, 0x0, 0x0, 0x0, 0x0, 0x0, 0x0⟩,
  ⟨0x2400c, 1048576, 1, 1048576, 1, 1, 0x0, 0x0, 0x0, 0x0, 0x0, 0x0⟩,
  ⟨0x24010, 1048576, 1, 1048576, 1, 1, 0x0, 0x0, 0xffffffff, 0x0, 0x0, 0x0⟩,
  ⟨0x24100, 64, 16, 64, 1, 1, 0x0, 0x0, 0x0, 0x0, 0x0, 0x0⟩,
  ⟨0x24110, 64, 16, 64, 1, 4, 0x0, 0x0, 0x0, 0x0, 0xffffffff, 0x0⟩,
  ⟨0x24120, 64, 16, 64, 1, 1, 0x0, 0x0, 0x0, 0x0, 0xffffffff, 0x0⟩,
  ⟨0x24124, 64, 16, 64, 1, 1, 0x0, 0x0, 0x0, 0x0, 0xffffffff, 0x0⟩,
  ⟨0x24128, 64, 16, 64, 1, 1, 0x0, 0x0, 0x0, 0x0, 0xc00001ff, 0x0⟩,
  ⟨0x2412c, 64, 16, 64, 1, 1, 0x0, 0x0, 0x0, 0x0, 0xffffff, 0x0⟩,
  ⟨0x28000, 1024, 12, 1024, 1, 1, 0x0, 0x0, 0x0, 0x0, 0x0, 0x0⟩,
  ⟨0x28004, 1024, 12, 1024, 1, 1, 0x0, 0x0, 0x0, 0x0, 0x0, 0xff080000⟩,
  ⟨0x28008, 1024, 12, 1024, 1, 1, 0x0, 0x0, 0x0, 0x0, 0x0, 0x0⟩,
  ⟨0x2800c, 1024, 12, 1024, 1, 1, 0x0, 0x0, 0x0, 0x0, 0x0, 0x0⟩,
  ⟨0x28010, 1024, 12, 1024, 1, 1, 0x0, 0x0, 0x0, 0x0, 0x0, 0xffff0000⟩,
  ⟨0x28014, 1024, 12, 1024, 1, 1, 0x0, 0x0, 0x0, 0x0, 0x0, 0x0⟩,
  ⟨0x28018, 1024, 12, 1024, 1, 1, 0x0, 0x0, 0xff0000, 0x0, 0x0, 0x0⟩]

def regRows6 : List RegRow := [
  ⟨0x2801c, 1024, 12, 1024, 1, 1, 0x0, 0x0, 0x0, 0x0, 0x0, 0xff⟩,
  ⟨0x28020, 1024, 12, 1024, 1, 1, 0x0, 0x1ff, 0x0, 0x0, 0x0, 0x0⟩,
  ⟨0x28024, 1024, 12, 1024, 1, 1, 0x0, 0x0, 0x0, 0x0, 0x0, 0x0⟩,
  ⟨0x28030, 1024, 12, 1024, 1, 4, 0x0, 0x0, 0x0, 0x0, 0xffffffff, 0x0⟩,
  ⟨0x28100, 1024, 12, 1024, 1, 1, 0x0, 0x0, 0x0, 0x0, 0x0, 0x0⟩,
  ⟨0x28104, 1024, 12, 1024, 1, 1, 0x0, 0x0, 0x0, 0x0, 0xe0, 0x0⟩,
  ⟨0x28108, 1024, 12, 1024, 1, 1, 0x0, 0x0, 0x0, 0x0, 0xffffffff, 0x0⟩,
  ⟨0x2810c, 1024, 12, 1024, 1, 1, 0x0, 0x0, 0x0, 0x0, 0x0, 0x0⟩,
  ⟨0x28110, 1024, 12, 1024, 1, 1, 0x0, 0x0, 0x0, 0x0, 0x0, 0x0⟩,
  ⟨0x28114, 1024, 12, 1024, 1, 1, 0x0, 0x0, 0x0, 0x0, 0x0, 0x0⟩,
  ⟨0x28120, 1024, 12, 1024, 1, 1, 0x0, 0x0, 0x0, 0x0, 0x0, 0x0⟩,
  ⟨0x28124, 1024, 12, 1024, 1, 1, 0x0, 0x0, 0x0, 0x0, 0x0, 0x0⟩,
  ⟨0x28128, 1024, 12, 1024, 1, 1, 0x0, 0x0, 0x0, 0x0, 0x0, 0x1f40064⟩,
  ⟨0x2812c, 1024, 12, 1024, 1, 1, 0x0, 0x0, 0x0, 0x0, 0x0, 0x1400000⟩,
  ⟨0x28130, 1024, 12, 1024, 1, 1, 0x0, 0x0, 0x0, 0x0, 0x0, 0x0⟩,
  ⟨0x28134, 1024, 12, 1024, 1, 1, 0x0, 0x0, 0x0, 0x0, 0x0, 0x0⟩,
  ⟨0x28138, 1024, 12, 1024, 1, 1, 0x0, 0x0, 0x0, 0x0, 0x0, 0x0⟩,
  ⟨0x2813c, 1024, 12, 1024, 1, 1, 0x0, 0x7f, 0x0, 0x0, 0x0, 0x0⟩,
  ⟨0x28140, 1024, 12, 4, 8, 1, 0x0, 0x0, 0x0, 0x0, 0x0, 0x0⟩,
  ⟨0x28160, 1024, 12, 4, 8, 1, 0x0, 0x0, 0x0, 0x0, 0x0, 0x0⟩,
  ⟨0x30000, 256, 128, 256, 1, 1, 0x0, 0x0, 0x0, 0x0, 0xfffffeff, 0x0⟩,
  ⟨0x30004, 256, 128, 256, 1, 1, 0x0, 0x0, 0x0, 0x0, 0xffffffff, 0x0⟩,
  ⟨0x30008, 256, 128, 256, 1, 1, 0x0, 0x0, 0xf0000, 0x0, 0x0, 0x0⟩,
  ⟨0x30010, 256, 128, 256, 1, 4, 0x0, 0x0, 0x0, 0x0, 0xffffffff, 0x0⟩]

def regRows7 : List RegRow := [
  ⟨0x30020, 256, 128, 256, 1, 4, 0x0, 0x0, 0x0, 0x0, 0xffffffff, 0x0⟩,
  ⟨0x30030, 256, 128, 256, 1, 4, 0x0, 0x0, 0x0, 0x0, 0xffffffff, 0x0⟩,
  ⟨0x30040, 256, 128, 256, 1, 4, 0x0, 0x0, 0x0, 0x0, 0xffffffff, 0x0⟩,
  ⟨0x30050, 256, 128, 256, 1, 4, 0x0, 0x0, 0x0, 0x0, 0xffffffff, 0x0⟩,
  ⟨0x30060, 256, 128, 256, 1, 1, 0x0, 0x0, 0x0, 0x0, 0xffffffff, 0x0⟩,
  ⟨0x30064, 256, 128, 256, 1, 1, 0x0, 0x0, 0x0, 0x0, 0xffffffff, 0x0⟩,
  ⟨0x30068, 256, 128, 256, 1, 1, 0x0, 0x0, 0x0, 0x0, 0xffffffff, 0x0⟩,
  ⟨0x3006c, 256, 128, 256, 1, 1, 0x0, 0x0, 0x0, 0x0, 0x0, 0x0⟩,
  ⟨0x38000, 1048576, 1, 1048576, 1, 1, 0x0, 0x0, 0x0, 0x0, 0x0, 0x0⟩,
  ⟨0x38004, 1048576, 1, 1048576, 1, 1, 0x0, 0x0, 0x0, 0x0, 0x0, 0x0⟩,
  ⟨0x38008, 1048576, 1, 1048576, 1, 1, 0x0, 0x0, 0x0, 0x0, 0x0, 0x0⟩,
  ⟨0x3800c, 1048576, 1, 1048576, 1, 1, 0x0, 0x0, 0x0, 0x0, 0x0, 0x786e7369⟩,
  ⟨0x38010, 1048576, 1, 1048576, 1, 1, 0x0, 0x0, 0x0, 0x0, 0x0, 0x2ee04268⟩,
  ⟨0x38014, 1048576, 1, 1048576, 1, 1, 0x0, 0x0, 0x0, 0x0, 0x0, 0x0⟩,
  ⟨0x38018, 1048576, 1, 1048576, 1, 1, 0x0, 0x0, 0x0, 0x0, 0x0, 0x3600⟩,
  ⟨0x38020, 1048576, 1, 1048576, 1, 1, 0x0, 0x0, 0x0, 0x0, 0x0, 0x0⟩,
  ⟨0x38024, 1048576, 1, 1048576, 1, 1, 0x0, 0x0, 0x0, 0x0, 0x0, 0x10000⟩,
  ⟨0x38028, 1048576, 1, 1048576, 1, 1, 0x0, 0x0, 0x0, 0x0, 0x0, 0x0⟩,
  ⟨0x3802c, 1048576, 1, 1048576, 1, 1, 0x0, 0x0, 0x0, 0x0, 0x0, 0x0⟩,
  ⟨0x38030, 1048576, 1, 1048576, 1, 1, 0x0, 0xf, 0x0, 0x0, 0x0, 0x0⟩,
  ⟨0x38100, 1048576, 1, 1048576, 1, 1, 0x0, 0x0, 0x0, 0x0, 0x0, 0x3c1e⟩,
  ⟨0x38104, 1048576, 1, 1048576, 1, 1, 0x0, 0x0, 0x0, 0x0, 0x0, 0x0⟩,
  ⟨0x38108, 1048576, 1, 1048576, 1, 1, 0x0, 0x0, 0x0, 0x0, 0x0, 0x0⟩,
  ⟨0x3810c, 1048576, 1, 1048576, 1, 1, 0x0, 0x0, 0x0, 0x0, 0x0, 0x14⟩]

def regRows8 : List RegRow := [
  ⟨0x38110, 1048576, 1, 1048576, 1, 1, 0x0, 0x0, 0x0, 0x0, 0x0, 0x0⟩,
  ⟨0x38114, 1048576, 1, 1048576, 1, 1, 0x0, 0x0, 0x0, 0x0, 0x0, 0x5f14323c⟩,
  ⟨0x38118, 1048576, 1, 1048576, 1, 1, 0x0, 0x0, 0x0, 0x0, 0x0, 0x0⟩,
  ⟨0x3811c, 1048576, 1, 1048576, 1, 1, 0x0, 0x0, 0x0, 0x0, 0x0, 0x0⟩,
  ⟨0x38120, 1048576, 1, 1048576, 1, 1, 0x0, 0x0, 0x0, 0x0, 0x0, 0x0⟩,
  ⟨0x38124, 1048576, 1, 1048576, 1, 1, 0x0, 0x0, 0x0, 0x0, 0x0, 0x400⟩,
  ⟨0x38128, 1048576, 1, 1048576, 1, 1, 0x0, 0x0, 0x0, 0x0, 0x0, 0x0⟩,
  ⟨0x38130, 1048576, 1, 1048576, 1, 1, 0x0, 0x0, 0x0, 0x0, 0x0, 0x0⟩,
  ⟨0x38134, 1048576, 1, 1048576, 1, 1, 0x0, 0x0, 0x0, 0x0, 0x0, 0x0⟩,
  ⟨0x38138, 1048576, 1, 1048576, 1, 1, 0x0, 0x0, 0x0, 0x0, 0x0, 0x0⟩,
  ⟨0x3813c, 1048576, 1, 1048576, 1, 1, 0x0, 0x0, 0x0, 0x0, 0x0, 0x0⟩,
  ⟨0x38140, 4, 2, 4, 1, 1, 0x0, 0x0, 0x0, 0x0, 0x0, 0x0⟩,
  ⟨0x38148, 1048576, 1, 1048576, 1, 1, 0x0, 0x0, 0xff00, 0x0, 0x0, 0x0⟩,
  ⟨0x38150, 1048576, 1, 1048576, 1, 4, 0x0, 0x0, 0x0, 0x0, 0x0, 0x0⟩,
  ⟨0x38160, 4, 4, 4, 1, 1, 0x0, 0x0, 0x0, 0x0, 0x0, 0x2710⟩,
  ⟨0x38170, 1048576, 1, 1048576, 1, 1, 0x0, 0xff, 0x0, 0x0, 0x0, 0x0⟩,
  ⟨0x38200, 1048576, 1, 1048576, 1, 1, 0x0, 0x0, 0x0, 0x0, 0x0, 0xa00⟩,
  ⟨0x38400, 16, 255, 16, 1, 1, 0x0, 0x0, 0x0, 0x0, 0x0, 0x0⟩,
  ⟨0x38404, 16, 255, 16, 1, 1, 0x0, 0x0, 0x0, 0x0, 0x0, 0x0⟩,
  ⟨0x38408, 16, 255, 16, 1, 1, 0x0, 0x0, 0x0, 0x0, 0x0, 0x0⟩,
  ⟨0x3840c, 16, 255, 16, 1, 1, 0x0, 0x0, 0x0, 0x0, 0x0, 0x0⟩,
  ⟨0x3a000, 1048576, 1, 1048576, 1, 1, 0x0, 0x0, 0x0, 0x0, 0x0, 0x38000000⟩,
  ⟨0x3a004, 1048576, 1, 1048576, 1, 1, 0x0, 0x0, 0xffff0000, 0x0, 0x0, 0x0⟩,
  ⟨0x3a008, 1048576, 1, 1048576, 1, 1, 0x0, 0x0, 0x0, 0x0, 0x0, 0x0⟩]

def regRows9 : List RegRow := [
  ⟨0x3a010, 1048576, 1, 1048576, 1, 1, 0x0, 0x0, 0x0, 0x0, 0xffffffff, 0x0⟩,
  ⟨0x3a014, 1048576, 1, 1048576, 1, 1, 0x0, 0x0, 0x0, 0x0, 0xffffffff, 0x0⟩,
  ⟨0x3a018, 1048576, 1, 1048576, 1, 1, 0x0, 0x0, 0x0, 0x0, 0xffffffff, 0x0⟩,
  ⟨0x3a01c, 1048576, 1, 1048576, 1, 1, 0x0, 0x0, 0xffff, 0x0, 0x0, 0x0⟩,
  ⟨0x3a020, 4, 2, 4, 1, 1, 0x0, 0x0, 0x0, 0x0, 0xff00, 0x0⟩,
  ⟨0x3a028, 4, 2, 4, 1, 1, 0x0, 0x0, 0x0, 0x0, 0x0, 0x0⟩,
  ⟨0x3a030, 1048576, 1, 1048576, 1, 1, 0x0, 0x0, 0xffffff, 0x0, 0x0, 0x0⟩,
  ⟨0x3a040, 1048576, 1, 1048576, 1, 1, 0x0, 0x0, 0x0, 0x0, 0x0, 0x183c⟩,
  ⟨0x3a044, 1048576, 1, 1048576, 1, 1, 0x0, 0x0, 0x0, 0x0, 0xffff, 0x0⟩,
  ⟨0x3a048, 1048576, 1, 1048576, 1, 1, 0x0, 0x0, 0x0, 0x0, 0x0, 0x0⟩,
  ⟨0x3a050, 1048576, 1, 1048576, 1, 1, 0x0, 0x1ff, 0x0, 0x0, 0x0, 0x0⟩,
  ⟨0x3b000, 1048576, 1, 1048576, 1, 1, 0x0, 0x0, 0x0, 0x0, 0x0, 0xff00⟩,
  ⟨0x3b004, 1048576, 1, 1048576, 1, 1, 0x0, 0x0, 0x0, 0x0, 0x0, 0x0⟩,
  ⟨0x3b008, 1048576, 1, 1048576, 1, 1, 0x0, 0x0, 0x0, 0x0, 0x0, 0x0⟩,
  ⟨0x3b00c, 1048576, 1, 1048576, 1, 1, 0x0, 0x0, 0x0, 0x0, 0x0, 0x0⟩,
  ⟨0x3b010, 1048576, 1, 1048576, 1, 1, 0x0, 0x0, 0x0, 0x0, 0x0, 0x0⟩,
  ⟨0x3b040, 1048576, 1, 1048576, 1, 1, 0x0, 0x0, 0x0, 0x0, 0xff03, 0x0⟩,
  ⟨0x3b044, 1048576, 1, 1048576, 1, 1, 0x0, 0x0, 0x0, 0x0, 0xffffffff, 0x0⟩,
  ⟨0x3b048, 1048576, 1, 1048576, 1, 1, 0x0, 0x0, 0xffffffff, 0x0, 0x0, 0x0⟩,
  ⟨0x3b04c, 1048576, 1, 1048576, 1, 1, 0x0, 0x0, 0xffffffff, 0x0, 0x0, 0x0⟩,
  ⟨0x3b050, 1048576, 1, 1048576, 1, 1, 0x0, 0x7f, 0x0, 0x0, 0x0, 0x0⟩,
  ⟨0x3b100, 8, 8, 8, 1, 1, 0x0, 0x0, 0x0, 0x0, 0x0, 0x0⟩,
  ⟨0x3b104, 8, 8, 8, 1, 1, 0x0, 0x0, 0x0, 0x0, 0x0, 0x0⟩,
  ⟨0x3b180, 4, 8, 4, 1, 1, 0x0, 0x0, 0x0, 0x0, 0x0, 0x0⟩]

def regRows10 : List RegRow := [
  ⟨0x3b200, 4, 12, 4, 1, 1, 0x0, 0x0, 0x0, 0x0, 0x0, 0x0⟩,
  ⟨0x3c000, 1048576, 1, 1048576, 1, 1, 0x0, 0x0, 0x0, 0x0, 0x0, 0x0⟩,
  ⟨0x3c004, 1048576, 1, 1048576, 1, 1, 0x0, 0x0, 0x0, 0x0, 0xffff, 0x0⟩,
  ⟨0x3c008, 1048576, 1, 1048576, 1, 1, 0x0, 0x0, 0x0, 0x0, 0x0, 0x0⟩,
  ⟨0x3c00c, 1048576, 1, 1048576, 1, 1, 0x3f, 0x0, 0x0, 0x0, 0x0, 0x0⟩,
  ⟨0x3c010, 1048576, 1, 1048576, 1, 1, 0x0, 0x7f, 0x0, 0x0, 0x0, 0x0⟩,
  ⟨0x3c100, 32, 16, 32, 1, 1, 0x0, 0x0, 0x0, 0x0, 0x0, 0x30000⟩,
  ⟨0x3c104, 32, 16, 32, 1, 1, 0x0, 0x0, 0x0, 0x0, 0x0, 0x0⟩,
  ⟨0x3c108, 32, 16, 32, 1, 1, 0x0, 0x0, 0x0, 0x0, 0x0, 0x0⟩,
  ⟨0x3c10c, 32, 16, 32, 1, 1, 0x0, 0x0, 0x0, 0x0, 0x0, 0x0⟩,
  ⟨0x3c110, 32, 16, 32, 1, 1, 0x0, 0x0, 0x0, 0x0, 0x200000, 0x0⟩,
  ⟨0x3c114, 32, 16, 32, 1, 1, 0x0, 0x0, 0x0, 0x0, 0x0, 0x0⟩,
  ⟨0x3c118, 32, 16, 32, 1, 1, 0x0, 0x0, 0x0, 0x0, 0x0, 0x0⟩,
  ⟨0x3c11c, 32, 16, 32, 1, 1, 0x0, 0x0, 0xffff, 0x0, 0xffff0000, 0x0⟩,
  ⟨0x3c400, 16, 4, 16, 1, 1, 0x0, 0x0, 0x0, 0x0, 0x0, 0x140064⟩,
  ⟨0x3c404, 16, 4, 16, 1, 1, 0x0, 0x0, 0x0, 0x0, 0x0, 0x0⟩,
  ⟨0x3d000, 1048576, 1, 1048576, 1, 1, 0x0, 0x0, 0x0, 0x0, 0x0, 0x1400⟩,
  ⟨0x3d004, 1048576, 1, 1048576, 1, 1, 0x0, 0x0, 0x0, 0x0, 0x0, 0x0⟩,
  ⟨0x3d008, 1048576, 1, 1048576, 1, 1, 0x0, 0x0, 0x0, 0x0, 0x0, 0x0⟩,
  ⟨0x3d00c, 1048576, 1, 1048576, 1, 1, 0x0, 0x0, 0x0, 0x0, 0xff0000, 0x0⟩,
  ⟨0x3d010, 1048576, 1, 1048576, 1, 1, 0x0, 0x0, 0xffffffff, 0x0, 0x0, 0x0⟩,
  ⟨0x3d014, 1048576, 1, 1048576, 1, 1, 0x1ff, 0x0, 0x0, 0x0, 0x0, 0x0⟩,
  ⟨0x3d018, 1048576, 1, 1048576, 1, 1, 0x0, 0x0, 0x0, 0x0, 0xffffffff, 0x0⟩,
  ⟨0x3d01c, 1048576, 1, 1048576, 1, 1, 0x0, 0xf, 0x0, 0x0, 0x0, 0x0⟩]

def regRows11 : List RegRow := [
  ⟨0x3e000, 1048576, 1, 1048576, 1, 1, 0x0, 0x0, 0x0, 0x0, 0x0, 0x12c0000⟩,
  ⟨0x3e004, 1048576, 1, 1048576, 1, 1, 0x0, 0x0, 0x0, 0x0, 0x0, 0x0⟩,
  ⟨0x3e010, 1048576, 1, 1048576, 1, 4, 0x0, 0x0, 0x0, 0x0, 0x0, 0x0⟩,
  ⟨0x3e020, 1048576, 1, 1048576, 1, 1, 0x0, 0x0, 0xffffffff, 0x0, 0x0, 0x0⟩,
  ⟨0x3e040, 1048576, 1, 1048576, 1, 1, 0x0, 0x0, 0x0, 0x0, 0x0, 0x0⟩,
  ⟨0x3e044, 1048576, 1, 1048576, 1, 1, 0x1, 0x0, 0x0, 0x0, 0x3, 0x0⟩,
  ⟨0x3e048, 1048576, 1, 1048576, 1, 1, 0x0, 0x0, 0xffffffff, 0x0, 0x0, 0x0⟩,
  ⟨0x3e050, 4, 8, 4, 1, 1, 0x0, 0x0, 0x0, 0x0, 0xffffff, 0x0⟩,
  ⟨0x3e070, 1048576, 1, 1048576, 1, 1, 0x0, 0x0, 0x0, 0x0, 0xffffffff, 0x0⟩,
  ⟨0x3e080, 1048576, 1, 1048576, 1, 1, 0x0, 0x7f, 0x0, 0x0, 0x0, 0x0⟩,
  ⟨0x3f000, 1048576, 1, 1048576, 1, 1, 0x0, 0x0, 0x0, 0x0, 0x0, 0x0⟩,
  ⟨0x3f004, 1048576, 1, 1048576, 1, 1, 0x0, 0x0, 0x0, 0x0, 0x0, 0x140a00⟩,
  ⟨0x3f008, 1048576, 1, 1048576, 1, 1, 0x0, 0x0, 0x0, 0x0, 0x0, 0x0⟩,
  ⟨0x3f00c, 1048576, 1, 1048576, 1, 1, 0x0, 0x0, 0x0, 0x0, 0x0, 0x0⟩,
  ⟨0x3f010, 1048576, 1, 1048576, 1, 1, 0x0, 0x0, 0x0, 0x0, 0x0, 0x0⟩,
  ⟨0x3f014, 1048576, 1, 1048576, 1, 1, 0x0, 0x0, 0xffffffff, 0x0, 0x0, 0x0⟩,
  ⟨0x3f018, 1048576, 1, 1048576, 1, 1, 0x0, 0x0, 0xffffffff, 0x0, 0x0, 0x0⟩,
  ⟨0x3f01c, 1048576, 1, 1048576, 1, 1, 0x0, 0x0, 0xffffffff, 0x0, 0x0, 0x0⟩,
  ⟨0x3f020, 1048576, 1, 1048576, 1, 1, 0x0, 0x0, 0x0, 0x0, 0x0, 0x0⟩,
  ⟨0x3f030, 1048576, 1, 1048576, 1, 1, 0x0, 0x0, 0x0, 0x0, 0x0, 0x0⟩,
  ⟨0x3f034, 1048576, 1, 1048576, 1, 1, 0x0, 0x0, 0x0, 0x0, 0x0, 0x0⟩,
  ⟨0x3f038, 1048576, 1, 1048576, 1, 1, 0x0, 0x0, 0x0, 0x0, 0x0, 0xff⟩,
  ⟨0x3f040, 1048576, 1, 1048576, 1, 1, 0x0, 0xff, 0x0, 0x0, 0x0, 0x0⟩,
  ⟨0x3f100, 8, 16, 8, 1, 1, 0x0, 0x0, 0x0, 0x0, 0x0, 0x0⟩]

def regRows12 : List RegRow := [
  ⟨0x3f104, 8, 16, 8, 1, 1, 0x0, 0x0, 0x0, 0x0, 0x0, 0xffff00ff⟩,
  ⟨0x40000, 1048576, 1, 1048576, 1, 1, 0xff0001, 0x0, 0x0, 0x0, 0x0, 0x0⟩,
  ⟨0x40004, 1048576, 1, 1048576, 1, 1, 0x0, 0x0, 0x0, 0x0, 0x0, 0x0⟩,
  ⟨0x40008, 1048576, 1, 1048576, 1, 1, 0x0, 0x3fff, 0x0, 0x0, 0x0, 0x0⟩,
  ⟨0x4000c, 1048576, 1, 1048576, 1, 1, 0x0, 0x0, 0x0, 0x0, 0x0, 0x40⟩,
  ⟨0x40040, 4, 14, 4, 1, 1, 0x0, 0x0, 0xffffffff, 0x0, 0x0, 0x0⟩,
  ⟨0x40080, 4, 14, 4, 1, 1, 0x0, 0x0, 0xffffffff, 0x0, 0x0, 0x0⟩,
  ⟨0x400c0, 4, 9, 4, 1, 1, 0x0, 0x0, 0xff00, 0x0, 0x0, 0x0⟩,
  ⟨0x40100, 1048576, 1, 1048576, 1, 1, 0x0, 0x0, 0x0, 0x0, 0xf00001ff, 0xff000000⟩,
  ⟨0x40140, 4, 9, 4, 1, 1, 0x0, 0x0, 0x0, 0x0, 0xffff, 0x0⟩,
  ⟨0x40180, 1048576, 1, 1048576, 1, 1, 0x0, 0x0, 0x0, 0x0, 0x0, 0x0⟩,
  ⟨0x40184, 1048576, 1, 1048576, 1, 1, 0x0, 0x0, 0x0, 0x0, 0x0, 0x0⟩,
  ⟨0x40190, 1048576, 1, 1048576, 1, 1, 0x0, 0x0, 0x0, 0x0, 0xffff, 0x0⟩,
  ⟨0x401a0, 1048576, 1, 1048576, 1, 1, 0x0, 0x3f, 0x0, 0x0, 0x0, 0x0⟩,
  ⟨0x41000, 1048576, 1, 1048576, 1, 1, 0x0, 0x0, 0x0, 0x0, 0x0, 0x0⟩,
  ⟨0x41004, 1048576, 1, 1048576, 1, 1, 0x0, 0xffffffff, 0x0, 0x0, 0x0, 0x0⟩,
  ⟨0x41008, 1048576, 1, 1048576, 1, 1, 0x0, 0xffff, 0x0, 0x0, 0x0, 0x0⟩,
  ⟨0x41100, 64, 16, 64, 1, 1, 0xffffffff, 0x0, 0x0, 0x0, 0x0, 0x0⟩,
  ⟨0x41104, 64, 16, 64, 1, 1, 0xffffffff, 0x0, 0x0, 0x0, 0x0, 0x0⟩,
  ⟨0x41108, 64, 16, 64, 1, 1, 0x1ffffff, 0x0, 0x0, 0x0, 0x0, 0x0⟩,
  ⟨0x4110c, 64, 16, 64, 1, 1, 0xfffeffff, 0x0, 0x0, 0x0, 0x0, 0x30140fa0⟩,
  ⟨0x41110, 64, 16, 64, 1, 1, 0xffffffff, 0x0, 0x0, 0x0, 0x0, 0x0⟩,
  ⟨0x41114, 64, 16, 64, 1, 1, 0xffff, 0x0, 0x0, 0x0, 0x0, 0x0⟩,
  ⟨0x41118, 64, 16, 64, 1, 1, 0x2, 0x0, 0x0, 0x5, 0x0, 0x0⟩]

def regRows13 : List RegRow := [
  ⟨0x4111c, 64, 16, 64, 1, 1, 0x0, 0x0, 0x0, 0x0, 0x0, 0x0⟩,
  ⟨0x41120, 64, 16, 64, 1, 1, 0x0, 0x0, 0x0, 0x0, 0x0, 0x0⟩,
  ⟨0x41124, 64, 16, 64, 1, 1, 0x0, 0x0, 0x0, 0x0, 0x0, 0x0⟩,
  ⟨0x41128, 64, 16, 64, 1, 1, 0x0, 0x0, 0x0, 0x0, 0x0, 0x0⟩,
  ⟨0x4112c, 64, 16, 64, 1, 1, 0x0, 0x0, 0x0, 0x0, 0x0, 0x0⟩,
  ⟨0x42000, 1048576, 1, 1048576, 1, 1, 0x0, 0x0, 0x0, 0x0, 0x4, 0x0⟩,
  ⟨0x42004, 1048576, 1, 1048576, 1, 1, 0x0, 0x0, 0x0, 0x0, 0xffff00ff, 0x0⟩,
  ⟨0x42010, 1048576, 1, 1048576, 1, 1, 0x3f, 0x0, 0x0, 0x0, 0x0, 0x0⟩,
  ⟨0x42014, 1048576, 1, 1048576, 1, 1, 0x0, 0x0, 0x0, 0x0, 0x0, 0x0⟩,
  ⟨0x42018, 1048576, 1, 1048576, 1, 1, 0x0, 0x0, 0x0, 0x0, 0x0, 0x0⟩,
  ⟨0x4201c, 1048576, 1, 1048576, 1, 1, 0x0, 0x0, 0xffffffff, 0x0, 0x0, 0x0⟩,
  ⟨0x42020, 1048576, 1, 1048576, 1, 1, 0x0, 0x0, 0x0, 0x0, 0x0, 0x0⟩,
  ⟨0x42030, 1048576, 1, 1048576, 1, 1, 0x0, 0x0, 0xff00, 0x0, 0x0, 0x0⟩,
  ⟨0x42040, 1048576, 1, 1048576, 1, 1, 0x0, 0x1f, 0x0, 0x0, 0x0, 0x0⟩,
  ⟨0x43000, 1048576, 1, 1048576, 1, 1, 0x0, 0x0, 0x0, 0x0, 0x0, 0x0⟩,
  ⟨0x43020, 16, 7, 16, 1, 1, 0x0, 0x0, 0x0, 0x0, 0x0, 0x0⟩,
  ⟨0x43024, 16, 7, 16, 1, 1, 0x0, 0x0, 0x0, 0x0, 0xffffffff, 0x0⟩,
  ⟨0x43028, 16, 7, 16, 1, 1, 0x0, 0x0, 0x0, 0x0, 0xffffffff, 0x0⟩,
  ⟨0x4302c, 16, 7, 16, 1, 1, 0x0, 0x0, 0x0, 0x0, 0xc0ffffff, 0x0⟩,
  ⟨0x430a0, 1048576, 1, 1048576, 1, 1, 0x0, 0x0, 0x0, 0x0, 0x0, 0x0⟩,
  ⟨0x430b0, 1048576, 1, 1048576, 1, 1, 0x0, 0x1f, 0x0, 0x0, 0x0, 0x0⟩,
  ⟨0x43100, 1048576, 1, 1048576, 1, 1, 0xffffffff, 0x0, 0x0, 0x0, 0x0, 0x40000000⟩,
  ⟨0x43104, 1048576, 1, 1048576, 1, 1, 0x3fffff, 0x0, 0x0, 0x0, 0x0, 0x0⟩,
  ⟨0x43108, 1048576, 1, 1048576, 1, 1, 0x0, 0x0, 0x0, 0xffff0003, 0x0, 0x0⟩]

def regRows14 : List RegRow := [
  ⟨0x4310c, 1048576, 1, 1048576, 1, 1, 0x0, 0x0, 0x0, 0x0, 0x0, 0x0⟩,
  ⟨0x44000, 4, 2, 4, 1, 1, 0x0, 0x0, 0x0, 0x0, 0xe0000000, 0x0⟩,
  ⟨0x44008, 4, 2, 4, 1, 1, 0x0, 0x0, 0x0, 0x0, 0x0, 0x0⟩,
  ⟨0x44010, 1048576, 1, 1048576, 1, 1, 0x0, 0x0, 0x0, 0x0, 0x0, 0x0⟩,
  ⟨0x44014, 1048576, 1, 1048576, 1, 1, 0x0, 0x0, 0x0, 0x0, 0x0, 0x640f32⟩,
  ⟨0x44018, 1048576, 1, 1048576, 1, 1, 0x0, 0x0, 0x0, 0x0, 0xff, 0x0⟩,
  ⟨0x4401c, 1048576, 1, 1048576, 1, 1, 0x0, 0x0, 0x0, 0x0, 0x0, 0x0⟩,
  ⟨0x44020, 4, 8, 4, 1, 1, 0x0, 0x0, 0x0, 0x0, 0x0, 0xffff⟩,
  ⟨0x44040, 1048576, 1, 1048576, 1, 1, 0x0, 0x0, 0x0, 0x0, 0xffffffff, 0x0⟩,
  ⟨0x44044, 1048576, 1, 1048576, 1, 1, 0x0, 0x0, 0x0, 0x0, 0xff, 0x0⟩,
  ⟨0x44050, 1048576, 1, 1048576, 1, 1, 0x0, 0x3f, 0x0, 0x0, 0x0, 0x0⟩,
  ⟨0x45000, 1048576, 1, 1048576, 1, 1, 0x0, 0x0, 0xff00, 0x0, 0xffff0000, 0x0⟩,
  ⟨0x45004, 1048576, 1, 1048576, 1, 1, 0x0, 0x0, 0x0, 0x0, 0xffffffff, 0x0⟩,
  ⟨0x45008, 1048576, 1, 1048576, 1, 1, 0xffffffff, 0x0, 0x0, 0x0, 0xffffffff, 0x0⟩,
  ⟨0x4500c, 1048576, 1, 1048576, 1, 1, 0xffffffff, 0x0, 0x0, 0x0, 0x0, 0x0⟩,
  ⟨0x45010, 4, 8, 4, 1, 1, 0x0, 0x0, 0x0, 0x0, 0x0, 0x0⟩,
  ⟨0x45030, 1048576, 1, 1048576, 1, 1, 0x0, 0x0, 0xffffffff, 0x0, 0x0, 0x0⟩]

/-- Every register of the register maps of spec/*.md, in rising order of its base address. -/
def regRows : List RegRow :=
  regRows0 ++ regRows1 ++ regRows2 ++ regRows3 ++ regRows4 ++ regRows5 ++ regRows6 ++ regRows7 ++ regRows8 ++ regRows9 ++ regRows10 ++ regRows11 ++ regRows12 ++ regRows13 ++ regRows14

/-- The registers whose value at reset is not zero. -/
def resetRows : List RegRow := [
  ⟨0x0, 1048576, 1, 1048576, 1, 1, 0x0, 0x0, 0x0, 0x0, 0x0, 0x4e448200⟩,
  ⟨0x4, 1048576, 1, 1048576, 1, 1, 0x0, 0x0, 0x0, 0x0, 0x0, 0x4200⟩,
  ⟨0x30, 1048576, 1, 1048576, 1, 1, 0x0, 0x0, 0x0, 0x0, 0x0, 0x4000000⟩,
  ⟨0x34, 1048576, 1, 1048576, 1, 1, 0x0, 0xf, 0x0, 0x0, 0x0, 0x1⟩,
  ⟨0x38, 1048576, 1, 1048576, 1, 1, 0x0, 0x0, 0x0, 0x0, 0xffff, 0x1⟩,
  ⟨0x1020, 1048576, 1, 1048576, 1, 1, 0x0, 0x0, 0x0, 0x0, 0x0, 0xa⟩,
  ⟨0x3000, 1048576, 1, 1048576, 1, 1, 0x0, 0x0, 0x0, 0x0, 0x0, 0x550⟩,
  ⟨0x3038, 1048576, 1, 1048576, 1, 1, 0x0, 0x0, 0x0, 0x0, 0x0, 0xf00⟩,
  ⟨0x5000, 1048576, 1, 1048576, 1, 1, 0x0, 0x0, 0x0, 0x0, 0x0, 0x20⟩,
  ⟨0x5004, 1048576, 1, 1048576, 1, 1, 0x0, 0x0, 0xffff0000, 0x0, 0x0, 0xffff0000⟩,
  ⟨0x5020, 1048576, 1, 1048576, 1, 1, 0x0, 0x0, 0x0, 0x0, 0x0, 0x55⟩,
  ⟨0x5024, 1048576, 1, 1048576, 1, 1, 0x0, 0x0, 0x0, 0x0, 0x0, 0x1⟩,
  ⟨0x8010, 1048576, 1, 1048576, 1, 1, 0x0, 0x0, 0x0, 0x0, 0x0, 0x1680a01⟩,
  ⟨0x8400, 16, 128, 16, 1, 1, 0x0, 0x0, 0x0, 0x0, 0x7f7f00, 0x7f7f00⟩,
  ⟨0x10204, 1024, 32, 1024, 1, 1, 0x0, 0x0, 0xffff0000, 0x0, 0x0, 0x2⟩,
  ⟨0x1800c, 1048576, 1, 1048576, 1, 1, 0x0, 0x0, 0x0, 0x0, 0x0, 0x8000050a⟩,
  ⟨0x20050, 1048576, 1, 1048576, 1, 1, 0x0, 0x0, 0x0, 0x0, 0x0, 0xf⟩,
  ⟨0x28004, 1024, 12, 1024, 1, 1, 0x0, 0x0, 0x0, 0x0, 0x0, 0xff080000⟩,
  ⟨0x28010, 1024, 12, 1024, 1, 1, 0x0, 0x0, 0x0, 0x0, 0x0, 0xffff0000⟩,
  ⟨0x2801c, 1024, 12, 1024, 1, 1, 0x0, 0x0, 0x0, 0x0, 0x0, 0xff⟩,
  ⟨0x28128, 1024, 12, 1024, 1, 1, 0x0, 0x0, 0x0, 0x0, 0x0, 0x1f40064⟩,
  ⟨0x2812c, 1024, 12, 1024, 1, 1, 0x0, 0x0, 0x0, 0x0, 0x0, 0x1400000⟩,
  ⟨0x3800c, 1048576, 1, 1048576, 1, 1, 0x0, 0x0, 0x0, 0x0, 0x0, 0x786e7369⟩,
  ⟨0x38010, 1048576, 1, 1048576, 1, 1, 0x0, 0x0, 0x0, 0x0, 0x0, 0x2ee04268⟩,
  ⟨0x38018, 1048576, 1, 1048576, 1, 1, 0x0, 0x0, 0x0, 0x0, 0x0, 0x3600⟩,
  ⟨0x38024, 1048576, 1, 1048576, 1, 1, 0x0, 0x0, 0x0, 0x0, 0x0, 0x10000⟩,
  ⟨0x38100, 1048576, 1, 1048576, 1, 1, 0x0, 0x0, 0x0, 0x0, 0x0, 0x3c1e⟩,
  ⟨0x3810c, 1048576, 1, 1048576, 1, 1, 0x0, 0x0, 0x0, 0x0, 0x0, 0x14⟩,
  ⟨0x38114, 1048576, 1, 1048576, 1, 1, 0x0, 0x0, 0x0, 0x0, 0x0, 0x5f14323c⟩,
  ⟨0x38124, 1048576, 1, 1048576, 1, 1, 0x0, 0x0, 0x0, 0x0, 0x0, 0x400⟩,
  ⟨0x38160, 4, 4, 4, 1, 1, 0x0, 0x0, 0x0, 0x0, 0x0, 0x2710⟩,
  ⟨0x38200, 1048576, 1, 1048576, 1, 1, 0x0, 0x0, 0x0, 0x0, 0x0, 0xa00⟩,
  ⟨0x3a000, 1048576, 1, 1048576, 1, 1, 0x0, 0x0, 0x0, 0x0, 0x0, 0x38000000⟩,
  ⟨0x3a040, 1048576, 1, 1048576, 1, 1, 0x0, 0x0, 0x0, 0x0, 0x0, 0x183c⟩,
  ⟨0x3b000, 1048576, 1, 1048576, 1, 1, 0x0, 0x0, 0x0, 0x0, 0x0, 0xff00⟩,
  ⟨0x3c100, 32, 16, 32, 1, 1, 0x0, 0x0, 0x0, 0x0, 0x0, 0x30000⟩,
  ⟨0x3c400, 16, 4, 16, 1, 1, 0x0, 0x0, 0x0, 0x0, 0x0, 0x140064⟩,
  ⟨0x3d000, 1048576, 1, 1048576, 1, 1, 0x0, 0x0, 0x0, 0x0, 0x0, 0x1400⟩,
  ⟨0x3e000, 1048576, 1, 1048576, 1, 1, 0x0, 0x0, 0x0, 0x0, 0x0, 0x12c0000⟩,
  ⟨0x3f004, 1048576, 1, 1048576, 1, 1, 0x0, 0x0, 0x0, 0x0, 0x0, 0x140a00⟩,
  ⟨0x3f038, 1048576, 1, 1048576, 1, 1, 0x0, 0x0, 0x0, 0x0, 0x0, 0xff⟩,
  ⟨0x3f104, 8, 16, 8, 1, 1, 0x0, 0x0, 0x0, 0x0, 0x0, 0xffff00ff⟩,
  ⟨0x4000c, 1048576, 1, 1048576, 1, 1, 0x0, 0x0, 0x0, 0x0, 0x0, 0x40⟩,
  ⟨0x40100, 1048576, 1, 1048576, 1, 1, 0x0, 0x0, 0x0, 0x0, 0xf00001ff, 0xff000000⟩,
  ⟨0x4110c, 64, 16, 64, 1, 1, 0xfffeffff, 0x0, 0x0, 0x0, 0x0, 0x30140fa0⟩,
  ⟨0x43100, 1048576, 1, 1048576, 1, 1, 0xffffffff, 0x0, 0x0, 0x0, 0x0, 0x40000000⟩,
  ⟨0x44014, 1048576, 1, 1048576, 1, 1, 0x0, 0x0, 0x0, 0x0, 0x0, 0x640f32⟩,
  ⟨0x44020, 4, 8, 4, 1, 1, 0x0, 0x0, 0x0, 0x0, 0x0, 0xffff⟩]

def nvRows0 : List RegRow := [
  ⟨0x38, 1048576, 1, 1048576, 1, 1, 0x0, 0x0, 0x0, 0x0, 0xffff, 0x1⟩,
  ⟨0x502c, 1048576, 1, 1048576, 1, 1, 0x0, 0x0, 0x0, 0x0, 0xffffffff, 0x0⟩,
  ⟨0x8000, 1048576, 1, 1048576, 1, 1, 0x0, 0x0, 0x0, 0x0, 0xff01, 0x0⟩,
  ⟨0x8400, 16, 128, 16, 1, 1, 0x0, 0x0, 0x0, 0x0, 0x7f7f00, 0x7f7f00⟩,
  ⟨0x8408, 16, 128, 16, 1, 1, 0x0, 0x0, 0x0, 0x0, 0xffff0000, 0x0⟩,
  ⟨0x840c, 16, 128, 16, 1, 1, 0x0, 0x0, 0x0, 0x0, 0xffffffff, 0x0⟩,
  ⟨0x9000, 8, 72, 8, 1, 1, 0x0, 0x0, 0x0, 0x0, 0xfffcffff, 0x0⟩,
  ⟨0x9004, 8, 72, 8, 1, 1, 0x0, 0x0, 0x0, 0x0, 0xffffff00, 0x0⟩,
  ⟨0x10000, 1024, 32, 32, 11, 4, 0x0, 0x0, 0x0, 0x0, 0xffffffff, 0x0⟩,
  ⟨0x10010, 1024, 32, 32, 11, 4, 0x0, 0x0, 0xffffffff, 0x0, 0xffffffff, 0x0⟩,
  ⟨0x18000, 1048576, 1, 1048576, 1, 1, 0x0, 0x0, 0x0, 0x0, 0xffff, 0x0⟩,
  ⟨0x20020, 1048576, 1, 1048576, 1, 4, 0x0, 0x0, 0x0, 0x0, 0xffffffff, 0x0⟩,
  ⟨0x20040, 4, 4, 4, 1, 1, 0x0, 0x0, 0x0, 0x0, 0xffffffff, 0x0⟩,
  ⟨0x20058, 1048576, 1, 1048576, 1, 1, 0x0, 0x0, 0x0, 0x0, 0xffff, 0x0⟩,
  ⟨0x20060, 1048576, 1, 1048576, 1, 1, 0x0, 0x0, 0x0, 0x0, 0xffffffff, 0x0⟩,
  ⟨0x20064, 1048576, 1, 1048576, 1, 1, 0xffffffff, 0x0, 0x0, 0x0, 0xffffffff, 0x0⟩,
  ⟨0x20078, 1048576, 1, 1048576, 1, 1, 0x0, 0x0, 0x0, 0x0, 0xffffffff, 0x0⟩,
  ⟨0x20110, 16, 16, 16, 1, 4, 0x0, 0x0, 0x0, 0x0, 0xffffffff, 0x0⟩,
  ⟨0x20210, 16, 16, 16, 1, 4, 0x0, 0x0, 0x0, 0x0, 0xffffffff, 0x0⟩,
  ⟨0x20400, 64, 7, 64, 1, 1, 0x0, 0x0, 0x0, 0x0, 0xffffffff, 0x0⟩,
  ⟨0x20410, 64, 7, 64, 1, 4, 0x0, 0x0, 0x0, 0x0, 0xffffffff, 0x0⟩,
  ⟨0x20420, 64, 7, 64, 1, 4, 0x0, 0x0, 0x0, 0x0, 0xffffffff, 0x0⟩,
  ⟨0x20600, 4, 3, 4, 1, 1, 0x0, 0x0, 0x0, 0x0, 0xffffffff, 0x0⟩,
  ⟨0x24110, 64, 16, 64, 1, 4, 0x0, 0x0, 0x0, 0x0, 0xffffffff, 0x0⟩]

def nvRows1 : List RegRow := [
  ⟨0x24120, 64, 16, 64, 1, 1, 0x0, 0x0, 0x0, 0x0, 0xffffffff, 0x0⟩,
  ⟨0x24124, 64, 16, 64, 1, 1, 0x0, 0x0, 0x0, 0x0, 0xffffffff, 0x0⟩,
  ⟨0x24128, 64, 16, 64, 1, 1, 0x0, 0x0, 0x0, 0x0, 0xc00001ff, 0x0⟩,
  ⟨0x2412c, 64, 16, 64, 1, 1, 0x0, 0x0, 0x0, 0x0, 0xffffff, 0x0⟩,
  ⟨0x28030, 1024, 12, 1024, 1, 4, 0x0, 0x0, 0x0, 0x0, 0xffffffff, 0x0⟩,
  ⟨0x28104, 1024, 12, 1024, 1, 1, 0x0, 0x0, 0x0, 0x0, 0xe0, 0x0⟩,
  ⟨0x28108, 1024, 12, 1024, 1, 1, 0x0, 0x0, 0x0, 0x0, 0xffffffff, 0x0⟩,
  ⟨0x30000, 256, 128, 256, 1, 1, 0x0, 0x0, 0x0, 0x0, 0xfffffeff, 0x0⟩,
  ⟨0x30004, 256, 128, 256, 1, 1, 0x0, 0x0, 0x0, 0x0, 0xffffffff, 0x0⟩,
  ⟨0x30010, 256, 128, 256, 1, 4, 0x0, 0x0, 0x0, 0x0, 0xffffffff, 0x0⟩,
  ⟨0x30020, 256, 128, 256, 1, 4, 0x0, 0x0, 0x0, 0x0, 0xffffffff, 0x0⟩,
  ⟨0x30030, 256, 128, 256, 1, 4, 0x0, 0x0, 0x0, 0x0, 0xffffffff, 0x0⟩,
  ⟨0x30040, 256, 128, 256, 1, 4, 0x0, 0x0, 0x0, 0x0, 0xffffffff, 0x0⟩,
  ⟨0x30050, 256, 128, 256, 1, 4, 0x0, 0x0, 0x0, 0x0, 0xffffffff, 0x0⟩,
  ⟨0x30060, 256, 128, 256, 1, 1, 0x0, 0x0, 0x0, 0x0, 0xffffffff, 0x0⟩,
  ⟨0x30064, 256, 128, 256, 1, 1, 0x0, 0x0, 0x0, 0x0, 0xffffffff, 0x0⟩,
  ⟨0x30068, 256, 128, 256, 1, 1, 0x0, 0x0, 0x0, 0x0, 0xffffffff, 0x0⟩,
  ⟨0x3a010, 1048576, 1, 1048576, 1, 1, 0x0, 0x0, 0x0, 0x0, 0xffffffff, 0x0⟩,
  ⟨0x3a014, 1048576, 1, 1048576, 1, 1, 0x0, 0x0, 0x0, 0x0, 0xffffffff, 0x0⟩,
  ⟨0x3a018, 1048576, 1, 1048576, 1, 1, 0x0, 0x0, 0x0, 0x0, 0xffffffff, 0x0⟩,
  ⟨0x3a020, 4, 2, 4, 1, 1, 0x0, 0x0, 0x0, 0x0, 0xff00, 0x0⟩,
  ⟨0x3a044, 1048576, 1, 1048576, 1, 1, 0x0, 0x0, 0x0, 0x0, 0xffff, 0x0⟩,
  ⟨0x3b040, 1048576, 1, 1048576, 1, 1, 0x0, 0x0, 0x0, 0x0, 0xff03, 0x0⟩,
  ⟨0x3b044, 1048576, 1, 1048576, 1, 1, 0x0, 0x0, 0x0, 0x0, 0xffffffff, 0x0⟩]

def nvRows2 : List RegRow := [
  ⟨0x3c004, 1048576, 1, 1048576, 1, 1, 0x0, 0x0, 0x0, 0x0, 0xffff, 0x0⟩,
  ⟨0x3c110, 32, 16, 32, 1, 1, 0x0, 0x0, 0x0, 0x0, 0x200000, 0x0⟩,
  ⟨0x3c11c, 32, 16, 32, 1, 1, 0x0, 0x0, 0xffff, 0x0, 0xffff0000, 0x0⟩,
  ⟨0x3d00c, 1048576, 1, 1048576, 1, 1, 0x0, 0x0, 0x0, 0x0, 0xff0000, 0x0⟩,
  ⟨0x3d018, 1048576, 1, 1048576, 1, 1, 0x0, 0x0, 0x0, 0x0, 0xffffffff, 0x0⟩,
  ⟨0x3e044, 1048576, 1, 1048576, 1, 1, 0x1, 0x0, 0x0, 0x0, 0x3, 0x0⟩,
  ⟨0x3e050, 4, 8, 4, 1, 1, 0x0, 0x0, 0x0, 0x0, 0xffffff, 0x0⟩,
  ⟨0x3e070, 1048576, 1, 1048576, 1, 1, 0x0, 0x0, 0x0, 0x0, 0xffffffff, 0x0⟩,
  ⟨0x40100, 1048576, 1, 1048576, 1, 1, 0x0, 0x0, 0x0, 0x0, 0xf00001ff, 0xff000000⟩,
  ⟨0x40140, 4, 9, 4, 1, 1, 0x0, 0x0, 0x0, 0x0, 0xffff, 0x0⟩,
  ⟨0x40190, 1048576, 1, 1048576, 1, 1, 0x0, 0x0, 0x0, 0x0, 0xffff, 0x0⟩,
  ⟨0x42000, 1048576, 1, 1048576, 1, 1, 0x0, 0x0, 0x0, 0x0, 0x4, 0x0⟩,
  ⟨0x42004, 1048576, 1, 1048576, 1, 1, 0x0, 0x0, 0x0, 0x0, 0xffff00ff, 0x0⟩,
  ⟨0x43024, 16, 7, 16, 1, 1, 0x0, 0x0, 0x0, 0x0, 0xffffffff, 0x0⟩,
  ⟨0x43028, 16, 7, 16, 1, 1, 0x0, 0x0, 0x0, 0x0, 0xffffffff, 0x0⟩,
  ⟨0x4302c, 16, 7, 16, 1, 1, 0x0, 0x0, 0x0, 0x0, 0xc0ffffff, 0x0⟩,
  ⟨0x44000, 4, 2, 4, 1, 1, 0x0, 0x0, 0x0, 0x0, 0xe0000000, 0x0⟩,
  ⟨0x44018, 1048576, 1, 1048576, 1, 1, 0x0, 0x0, 0x0, 0x0, 0xff, 0x0⟩,
  ⟨0x44040, 1048576, 1, 1048576, 1, 1, 0x0, 0x0, 0x0, 0x0, 0xffffffff, 0x0⟩,
  ⟨0x44044, 1048576, 1, 1048576, 1, 1, 0x0, 0x0, 0x0, 0x0, 0xff, 0x0⟩,
  ⟨0x45000, 1048576, 1, 1048576, 1, 1, 0x0, 0x0, 0xff00, 0x0, 0xffff0000, 0x0⟩,
  ⟨0x45004, 1048576, 1, 1048576, 1, 1, 0x0, 0x0, 0x0, 0x0, 0xffffffff, 0x0⟩,
  ⟨0x45008, 1048576, 1, 1048576, 1, 1, 0xffffffff, 0x0, 0x0, 0x0, 0xffffffff, 0x0⟩]

/-- The registers with a field kept in MRAM (reset column nv). -/
def nvRows : List RegRow :=
  nvRows0 ++ nvRows1 ++ nvRows2

end Sys2Proof.Machine
end

