-- ==== Sys2Proof/Machine/State.lean ====
section
/-! DEFINITION. The state of the block as plain data: the queue of waiting commands, every host-visible register
(one sparse list, canonical with respect to the reset values), the Mainplate RAM, and one structure per block for
what no register shows. State.reset is the state after reset. -/
namespace Sys2Proof.Machine

/-- Global state that no register shows (01_architecture.md). -/
structure GlbSt where
  /-- recovery request held in PD_AON (R22) -/
  recoveryReq : Bool := false
  /-- fused life-cycle state (R24); R3 gives PROVISIONED at the end of production -/
  lifecycle : Nat := 1
  /-- fused and sealed at production: serial number, legal build code, legal firmware identifier and checksum (R27) -/
  serial : Nat := 0
  legalBuild : Nat := 0x4C45
  legalId : Nat := 0
  legalSum : Nat := 0
  /-- module reset count (GLB.RESET_CAUSE.COUNT shows its low 8 bits) -/
  resets : Nat := 0
  /-- bits [27:8] of GLB.POLL as last looked at (CHANGE_CNT) -/
  lastPoll : Nat := 0
  /-- MONO second at which the last command of each port was taken (R25) -/
  svcMono0 : Nat := 0
  svcMono1 : Nat := 0
  /-- beat of entry into SAFE_HOLD, for CAUSE under R426 -/
  holdBeat : Nat := 0
  /-- beat of the last entry into a running state from another global state (R340) -/
  runBeat : Nat := 0
  /-- a bit of GLB.POLL[27:8] has risen since the end of the last beat (CHANGE_CNT) -/
  rose : Bool := false
  deriving DecidableEq, Repr

/-- Host ports and mailboxes beside their registers (16_host.md). -/
structure HostSt where
  latches : List Latch := []
  writes : List PendWrite := []
  exec : List Cmd := []
  held : List Held := []
  queue : List Notice := []
  /-- beat of the last poll (R340) -/
  pollBeat : Nat := 0
  /-- the last result of each command code, of which a late abort carries a copy, and the aborts that wait for one (R30, R347) -/
  results : List OpResult := []
  aborts : List (CmdRef × CmdRef) := []
  /-- bytes that the last read of each port returned on its lines -/
  out : List (List Byte) := [[], []]
  /-- the metering, outlet and session registers after the last beat that a lane finished (R15), none before it -/
  view : Option (List (Nat × Word)) := none
  deriving DecidableEq, Repr

/-- The fault log beside its registers (22_faults.md). -/
structure FltSt where
  /-- entries of the present beat not yet written (R424) -/
  waiting : List FaultEntry := []
  /-- entries kept in PD_AON (R425), at most 16 -/
  aon : List FaultEntry := []
  /-- the ring of 4 096 entries in MRAM, newest first -/
  ring : List FaultEntry := []
  /-- rate limits -/
  rate : List Rate := []
  deriving DecidableEq, Repr

/-- The escapement and the power reserve beside their registers (03_escapement.md). -/
structure EscSt where
  /-- the Dial's beat generator (R55): 0 not started, 1 started and no beat begun, 2 counting -/
  gen : Nat := 0
  /-- a beat's own work, or a command taken in it, is running (log entry 6) -/
  inBeat : Bool := false
  /-- beats counted late under R63 in the last 1 024, newest first, per lane -/
  lateA : List Nat := []
  lateB : List Nat := []
  /-- the lane has declared itself failed (R63) -/
  failedA : Bool := false
  failedB : Bool := false
  /-- complication queues (R65) and the slices admitted in the present beat (R66), per lane -/
  queueA : List Comp := []
  queueB : List Comp := []
  runA : List Comp := []
  runB : List Comp := []
  /-- per-group worst-case essential cycles of the running plan (R59) -/
  plan : List Nat := [0, 0, 0, 0]
  /-- clock step in force per lane: 0 = 1.2 GHz, 1 = 1.1 GHz, 2 = 1.0 GHz -/
  stepA : Nat := 0
  stepB : Nat := 0
  /-- hottest sensor of each lane, in 0.1 °C (R69) -/
  tempA : Int := 0
  tempB : Int := 0
  /-- thermal condition of each lane: 0 COOL, 1 WARM, 2 HOT (R69) -/
  thermA : Nat := 0
  thermB : Nat := 0
  /-- beat of the last late beat of each lane, counted under R63 or not (R61) -/
  lastLateA : Option Nat := none
  lastLateB : Option Nat := none
  /-- sums of the round's samples and their count (R72): 0.1 °C, and 0.1 W of auxiliary power -/
  caseSum : Int := 0
  laneSum : Int := 0
  auxSum : Nat := 0
  samples : Nat := 0
  /-- power estimates of the last 400 beats in mW, newest first (R69) -/
  power : List Nat := []
  /-- engines that the slices of the present window reserve, per lane (R64): bit 0 escapement engine, 1 Green PHY baseband,
  2 crypto engines, 3 pallet checker, 4 memories, 5 Case die bezel -/
  engA : Nat := 0
  engB : Nat := 0
  deriving DecidableEq, Repr

/-- The lanes' redundancy beside the RED registers (10_lanes.md). -/
structure RedSt where
  /-- JSEQ of the last entry sent (R230) -/
  jseq : Nat := 0
  unacked : List JEntry := []
  /-- A: the last beat whose entry was acknowledged (R243) -/
  ackedBeat : Nat := 0
  /-- consecutive beats without an acknowledgement (R232) -/
  stall : Nat := 0
  /-- the lane-level fault a lane resigned on (R237), until the voter acts -/
  resignA : Option Nat := none
  resignB : Option Nat := none
  /-- the beat in which each lane was last lost to the voter (R62, R235) -/
  lostA : Option Nat := none
  lostB : Option Nat := none
  /-- beats of the differences of R233 in the last 24 h, newest first -/
  diffs : List Nat := []
  takeover : Option Takeover := none
  records : List TakeoverRec := []
  /-- beat of the last command set applied and the time of the last output update, in ns (R240) -/
  appliedBeat : Nat := 0
  lastUpdate : Nat := 0
  /-- consecutive beats in which each voter channel differed (R238) -/
  voteDiff : List Nat := [0, 0, 0]
  /-- beat of the last path fault (R249) -/
  pathBeat : Option Nat := none
  /-- an attempt to resynchronise is under way since this beat (R246, R247) -/
  attempt : Option Nat := none
  /-- beat at which a failed attempt is repeated (R247) -/
  retryWait : Option Nat := none
  /-- beats of cross-check without a difference in sequence (R246 step 8) -/
  clean : Nat := 0
  /-- an attempt abandoned by a power-fail warning (R247) -/
  abandoned : Bool := false
  /-- the command RED_LANE_RESTART or RED_LANE_ENABLE that waits for step 9 -/
  laneCmd : Option CmdRef := none
  /-- a swap is wanted: by the period or by R233 (R249), and since which beat it waits -/
  swapWait : Option Nat := none
  swapDeferred : Bool := false
  /-- the command RED_SWAP that waits for a quiet beat -/
  swapCmd : Option CmdRef := none
  swapCmdBeat : Nat := 0
  /-- 1: the entry of the present beat carries HANDOVER; 2: that entry is acknowledged (R249) -/
  handover : Nat := 0
  /-- MONO second of the last swap -/
  swapMono : Nat := 0
  /-- a RED_SELFTEST command: lane, mask and the command that waits; it runs on the standby -/
  testCmd : Option CmdRef := none
  testLane : Nat := 0
  testMask : Nat := 0
  /-- the running test is the command's; a test of the owner waits for a swap, with its mask -/
  testRuns : Bool := false
  testQueued : Bool := false
  /-- MONO second at which the standby's last legal flash check began (R130) -/
  legalMono : Nat := 0
  queueMask : Nat := 0
  /-- the last step of R246 that the lane in reset has reached, and the beat count it has taken at step 7 -/
  step : Nat := 0
  beatTaken : Option Nat := none
  /-- the last heartbeats of Lane A and Lane B, and each lane's verdict on the other's path-M heartbeat in its path-C register (R234) -/
  hearts : List Heart := [{}, {}]
  verdicts : List Bool := [true, true]
  /-- weld window, residual self-test and insulation dwell of each outlet at the end of the last beat (R249) -/
  marks : List (Bool × Nat × Nat) := List.replicate 12 (false, 0, 0)
  /-- the owner's journal and what the standby keeps (R228 to R232) -/
  jnl : JnlSt := {}
  /-- the last vote saw a heartbeat of the standby (R232) -/
  stbHeard : Bool := true
  deriving DecidableEq, Repr

/-- The sense ports beside their registers (04_sense.md). -/
structure SnsSt where
  /-- frames received for the coming beat, per lane: none, good or bad -/
  gotA : Option Bool := none
  gotB : Option Bool := none
  /-- the last good frame, clipped (R75) -/
  frame : Frame := {}
  /-- the lanes both had a bad frame in this beat (R62) -/
  common : Bool := false
  /-- beats of the last bad frames per lane, newest first, at most 17 (R98) -/
  badA : List Nat := []
  badB : List Nat := []
  /-- beats in sequence without a good frame on either lane (R98), and whether 0x3012 has been raised for them -/
  lost : Nat := 0
  lostHeld : Bool := false
  /-- trimmed samples of the beat by channel (R82, R84), and their VALID bits -/
  val : List Int := List.replicate 128 0
  ok : Nat := 0
  /-- stored trims by modulator × 6 + gain: offset in 2^-8 code, gain in 2^-24, noise in 2^-8 code (R82) -/
  trims : List (Int × Int × Nat) := List.replicate 432 (0, 16777216, 0)
  /-- MONO second of the last calibration of each modulator and of the last offset taken of each channel (AGE) -/
  modMono : List Nat := List.replicate 72 0
  ksMono : List Nat := List.replicate 128 0
  /-- refusals of R95 in sequence per channel -/
  ksRefused : List Nat := List.replicate 128 0
  /-- the outlet whose open contactor makes a channel zero, and OFFSET_STEP in ppm (image) -/
  ksOutlet : List (Option Nat) := List.replicate 128 none
  offsetStep : Nat := 200
  /-- bitstream inputs whose polarity the image inverts (R77) -/
  invert : Nat := 0
  /-- matching history of each dual-range slot, newest first, at most 40 000: s_hi × x and x² (R85); a swing has
  brought a new modulator since w was held at 0 -/
  hist : List (List (Int × Nat)) := List.replicate 32 []
  swung : Nat := 0
  swings : List Swing := []
  waits : List SwingWait := []
  /-- channels whose modulator has failed under R91: bit 2n the low-gain or only member of channel n, bit 2n + 1 the high-gain one -/
  invalid91 : Nat := 0
  /-- channels of which the last good frame had an overload beat (R75, R88) -/
  ovlMask : Nat := 0
  /-- MONO second of the last swing-in of each modulator, by 2 × channel + high, and the time of the last routine one in 2^-32 s (R86) -/
  swingMono : List (Option Nat) := List.replicate 256 none
  lastSwing : Option Nat := none
  ks : List KsWin := []
  ib : List IbSt := List.replicate 64 {}
  capture : Option Capture := none
  /-- MONO second of the last comparison of the references made every 10 min (R96) -/
  refMono : Nat := 0
  /-- BG_1 - BG_0 at the last comparison in 0.1 ppm (R97) -/
  bgDiff : Int := 0
  deriving DecidableEq, Repr

/-- The meters beside their registers (05_metering.md). -/
structure MtrSt where
  ch : List ChanSt := List.replicate 128 {}
  m : List MeterSt := List.replicate 32 {}
  pls : List PulseSt := List.replicate 4 {}
  /-- interval snapshots by meter × 11 + quantity (R117) -/
  snap : List Nat := List.replicate 352 0
  /-- the two full areas and the delta records of the newest full record (R123) -/
  full : List SaveRec := [{ seq := 1 }, {}]
  deltas : List DeltaRec := []
  /-- beats metered since production, for LOSS_BEATS (R125) -/
  lastBeat : Nat := 0
  deriving DecidableEq, Repr

/-- The legal partition beside its registers (06_legal.md). -/
structure LglSt where
  /-- the legal event log, newest first, at most 1 024 entries (R147) -/
  log : List LegalEntry := []
  /-- CONSUMED of each account (R155) -/
  consumed : List Nat := List.replicate 16 0
  /-- the chronometer: WALL at the last whole second in 2^-32 s, whether valid, MONO (R133) -/
  wall : Nat := 0
  valid : Bool := false
  mono : Nat := 0
  /-- the part of the chronometer's second that had run at the last sample, in 2^-32 s -/
  frac : Nat := 0
  /-- what a slew still has to absorb, in 2^-32 s, and the part of the present second that had run when it began (R135) -/
  slew : Int := 0
  slewAt : Nat := 0
  /-- a set that takes effect at the next pallet 0 (R135): requested WALL in 2^-32 s, 1 first set, 2 slew, 3 forward,
  4 back -/
  wallSet : Option (Nat × Nat) := none
  /-- old WALL seconds of a forward step that this beat applies (R145) -/
  fwd : Option Nat := none
  /-- image: programmes, programme and number of registers of each legal meter, MAG_LIM in mT -/
  progs : List Prog := List.replicate 8 {}
  meterProg : List Nat := List.replicate 32 0
  nRegs : List Nat := List.replicate 32 1
  magLim : Nat := 100
  /-- registers of the image on which the legal records rest: demand, billing, definitions of the meters; kept over a reset (R146) -/
  kept : List (Nat × Nat) := []
  /-- active register and last switch closed of each programme (R461, R142) -/
  act : List Nat := List.replicate 8 0
  tarLast : List Nat := List.replicate 8 0
  /-- MONO samples with which the last switch of each programme and the last billing period closed (R142) -/
  tarMono : List Nat := List.replicate 8 0
  billMono : Nat := 0
  /-- tariff registers by meter × 176 + quantity × 16 + register, those not 0 (R137) -/
  treg : List (Nat × Nat) := []
  /-- demand: WALL of the last boundary closed, MONO at which the interval and the sub-interval in progress began, their
  energies by meter × 2 + quantity, INCOMPLETE, the last sub-intervals newest first, the values last closed -/
  demLast : Nat := 0
  demMono : Nat := 0
  demE : List Nat := List.replicate 64 0
  demBad : Bool := false
  subs : List SubInt := []
  demVal : List DemVal := List.replicate 64 {}
  /-- maxima (demand, WALL) by meter × 32 + quantity × 16 + register, those not (0, 0) (R140) -/
  md : List (Nat × Nat × Nat) := []
  /-- billing: WALL of the last close, the records held newest first, a close by command (R141) -/
  billLast : Nat := 0
  bills : List BillRec := []
  billCmd : Option CmdRef := none
  /-- metering has run before (R146) -/
  metered : Bool := false
  /-- tamper contacts read open, field above MAG_LIM, beat of the last refused legal write, openings stamped by PD_AON
  (kind, MONO, WALL) (R148, R149) -/
  cover : Bool := false
  door : Bool := false
  magnetic : Bool := false
  writeBeat : Option Nat := none
  aon : List (Nat × Nat × Nat) := []
  /-- class B records newest first, at most 128 (R150) -/
  tb : List TbRec := []
  /-- keypad: keys of the entry (0 to 9, 10 A, 11 B, 12 C, 13 D, 14 *, 15 #), beat of the last key (R131) -/
  keys : List Nat := []
  keyBeat : Nat := 0
  /-- legal content shown for a time, and the beat at which it ends (R132) -/
  showing : LegalShow := .reading
  showEnd : Nat := 0
  /-- what is shown after the result of a test token (R152, R153) -/
  showNext : Option LegalShow := none
  /-- accounts and tokens before their commit point -/
  acct : List AcctSt := List.replicate 16 {}
  tok : List TokPend := []
  deriving DecidableEq, Repr

/-- Outlets and sessions (07_outlets.md, 08_protection.md). -/
structure OutsSt where
  o : List OutSt := List.replicate 12 {}
  ses : List SesSt := List.replicate 128 {}
  /-- last session serial given (R175, kept in MRAM) -/
  serial : Nat := 0
  /-- contexts billed so far, for the longest-BILLED order -/
  billCount : Nat := 0
  /-- beats in which each CAN controller went bus-off, until it is recovered (R183) -/
  busOff : List (Option Nat) := [none, none, none, none]
  /-- trust anchors installed by V2G_TRUST: subcommand 0 roots and subcommand 2 chain, as the Mainplate held them -/
  roots : Option (List Byte) := none
  seccChain : Option (List Byte) := none
  /-- the CAN controllers as the image sets them (R180); bias outputs IMD_0 to IMD_7 (R198) -/
  can : List CanCfg := [{}, {}, {}, {}]
  imd : Nat := 0
  /-- reason with which the sessions cut by a reset end at the next start (R176) -/
  endReason : Nat := 11
  /-- AUX input levels of the last beat (24 bits) -/
  aux : Nat := 0
  deriving DecidableEq, Repr

/-- Load channels (12_load_channels.md). -/
structure LchSt where
  c : List LcSt := List.replicate 16 {}
  run : List RunSt := List.replicate 4 {}
  /-- shedding under R282 is in progress, and the beat of the last shed -/
  shedding : Bool := false
  shedBeat : Nat := 0
  /-- consecutive beats in which the current sum has exceeded 16.0 A (R282) -/
  overBeats : Nat := 0
  /-- estimated dissipation of the last 40 000 beats in nW, newest first, and clamp energy since the last beat in 0.1 mJ (R282) -/
  diss : List Nat := []
  clampNow : Nat := 0
  /-- levels of SEL_0 to SEL_3 and the channel the mirror shows (R284), none while ISNS is high-impedance; the current it sources in nA -/
  sel : Nat := 0
  mirror : Option Nat := none
  isns : Option Nat := none
  deriving DecidableEq, Repr

/-- Machine safety (11_safety.md). -/
structure SafSt where
  fn : List FnSt := List.replicate 8 {}
  /-- accepted input levels of the lane path (R255); SAF.INPUTS.SI holds those of the hardwired path -/
  laneSi : Nat := 0
  /-- elements L and H of the 24 safety outputs (R252) -/
  elemL : Nat := 0
  elemH : Nat := 0
  /-- element L of a command set that came too late for pallet 10 and waits for a takeover (R62, R240) -/
  heldL : Option Nat := none
  /-- pairs whose element L opens with the next command set that the Case die applies (R14) -/
  openL : Nat := 0
  /-- STOP1 delays that run, per path: pairs as bits (R260) -/
  stopL : Nat := 0
  stopH : Nat := 0
  /-- beats in which the STOP1 delays of elements L and H began -/
  stopLAt : List Nat := List.replicate 12 0
  stopHAt : List Nat := List.replicate 12 0
  /-- element that the next off-pulse of each output tests: 1 = H (R261) -/
  pulseH : Nat := 0
  /-- consecutive comparisons in which the hardwired copies differed (R263) -/
  hwDiff : Nat := 0
  /-- functions a reset names at the next safety cycle (R258), and whose demand came since the last cycle (R269) -/
  resets : Nat := 0
  fresh : Nat := 0
  /-- functions whose last evaluation on the lane path and on the hardwired path saw no demand (R258) -/
  clearL : Nat := 0
  clearH : Nat := 0
  /-- SAF_GUARD UNLOCK that waits for its solenoid: function and command (R259) -/
  guard : Option (Nat × CmdRef) := none
  /-- beat since which an EDM pair's AUX disagrees (R262) -/
  edm : List (Option Nat) := List.replicate 12 none
  /-- MONO seconds of the wrong passwords of the last 10 min, end of the lockout, end of the unlock (R266) -/
  fails : List Nat := []
  lockEnd : Nat := 0
  unlockEnd : Nat := 0
  /-- the change log, newest first, at most 64 (R267) -/
  log : List SafLog := []
  /-- VERSION and digest of the SAFETY section last run (R33) -/
  lastVer : Nat := 0
  lastDigest : Option Nat := none
  /-- beat of the command that let element L follow (SAF.REACT) -/
  demandBeat : Nat := 0
  deriving DecidableEq, Repr

/-- Energy placement beside the GOV registers (09_placement.md). -/
structure GovSt where
  /-- import and export energies of the round that ended by meter, connector temperature sums of O_8 to O_11 and the
  beats they cover (R207, R211); the same of the round in progress -/
  imp : List Nat := List.replicate 32 0
  exp : List Nat := List.replicate 32 0
  temps : List (Int × Int) := [(0, 0), (0, 0), (0, 0), (0, 0)]
  tempN : Nat := 0
  sumImp : List Nat := List.replicate 32 0
  sumExp : List Nat := List.replicate 32 0
  sumTemps : List (Int × Int) := [(0, 0), (0, 0), (0, 0), (0, 0)]
  sumN : Nat := 0
  /-- beat 400r whose round has taken the sums of round r - 1 -/
  closed : Option Nat := none
  /-- image: nominal site voltage in V, and this Obrik's own FAILSAFE share in 0.1 kW (R225) -/
  un : Nat := 230
  failsafe : Nat := 0
  /-- share of this Obrik as a partner (0.1 kW) and the beat it came (R225) -/
  share : Option Nat := none
  shareBeat : Nat := 0
  /-- SHARE_PERIOD of the last SHARE received, in s -/
  sharePeriod : Option Nat := none
  /-- end beats of the host's site limit and price, host price -/
  hostEnd : Option Nat := none
  priceEnd : Option Nat := none
  hostPrice : Nat := 0
  priceStale : Bool := false
  conv : List ConvSt := [{}, {}]
  /-- end beat of the validity of PLACE_BATTERY -/
  batEnd : Option Nat := none
  /-- 0x5307 has been raised for the present loss of battery data -/
  batStale : Bool := false
  pending : Option PlRound := none
  /-- the last round applied: what PLACE_INFO writes -/
  last : PlRound := {}
  /-- the last computed round was a breach round; rounds without a breach in sequence; 0x5303 raised in the episode -/
  breach : Bool := false
  quiet : Nat := 0
  uncontrolled : Bool := false
  /-- cycles in sequence with every site phase below 0.5 Un; beat since which every phase is in range (R222) -/
  lowCycles : Nat := 0
  okSince : Option Nat := none
  /-- EXPORT_BREACH stands; 0x5309 has been raised -/
  exportBad : Bool := false
  siteBad : Bool := false
  partners : List PartnerSt := List.replicate 255 {}
  /-- the next round is the one at a share period start (R223), and the beat of the last one -/
  periodDue : Bool := false
  periodBeat : Nat := 0
  deriving DecidableEq, Repr

/-- The site line beside its registers (15_site_line.md). -/
structure SitSt where
  /-- messages that wait to be sent, oldest first, the MSEQ and the beat SEQ of the last one, messages that wait for their
  acknowledgement -/
  outq : List SitMsg := []
  mseq : Nat := 0
  bseq : Nat := 0
  await : List SitMsg := []
  /-- by phase: beat of the last crossing, phases whose loss has been raised (R315), half-cycles in sequence without B, bits received, frame being sent, own pulses in
  sequence that read 0; phases whose injection has stopped (R320) -/
  zc : List Nat := [0, 0, 0]
  zcBad : Nat := 0
  bAbsent : List Nat := [0, 0, 0]
  rxBits : List (List (Option Bool)) := [[], [], []]
  btx : List (Option BeatTx) := [none, none, none]
  pulse0 : List Nat := [0, 0, 0]
  /-- random wait drawn by phase, in half-cycles (R319) -/
  bWait : List Nat := [0, 0, 0]
  injStop : Nat := 0
  /-- beat nodes heard: address, phase, beat; last frame accepted from each: SEQ and PAYLOAD (R328) -/
  nodes : List (Nat × Nat × Nat) := []
  lastFrom : List (Nat × Nat × Nat) := []
  /-- own address heard (R314) -/
  clash : Bool := false
  /-- sextant of the mains cycle, sextants counted, quiet ones in sequence, W of R324 -/
  sext : Nat := 0
  sextCount : Nat := 0
  quiet : Nat := 0
  w : Nat := 7
  /-- random wait drawn, in sextants (R324); FCH of the frame last sent (R322) and its drive at the balls in 0.5 dBµV (R321) -/
  oWait : Nat := 0
  fch : Nat := 0
  drive : Int := 0
  /-- OFDM frame in flight, LSEQ of the last frame, reassembly by source, the last ACK sent: address, LSEQ, BITMAP -/
  tx : Option OfdmTx := none
  lseq : Nat := 0
  rx : List OfdmRx := []
  ack : Option (Nat × Nat × Nat) := none
  /-- links to addresses 1 to 16; receive maps reported: receiver, sender, map, beat (R327) -/
  links : List LinkRec := List.replicate 16 {}
  reports : List (Nat × Nat × Nat × Nat) := []
  /-- origin, BOOT and MSEQ of accepted messages, newest first, 32 per origin (R328) -/
  dedupe : List (Nat × Nat × Nat) := []
  inbox : List RxMsg := []
  /-- HOST_DATA that waits for SIT_RECV, oldest first: origin and bytes -/
  rxq : List (Nat × List Byte) := []
  /-- beat of the last METER_INFO -/
  xmBeat : Option Nat := none
  /-- foreign frames of the hour that began at a beat, and whether it has raised 0x9107 (R313) -/
  forBeat : Nat := 0
  forCount : Nat := 0
  forHeld : Bool := false
  /-- beat at which a node of the site was last heard, and 0x9108 raised since -/
  heard : Nat := 0
  lonely : Bool := false
  /-- last LINK_REPORT, ANNOUNCE and REPORT sent, and the payload of that REPORT; 0x9106 stands by phase -/
  lrBeat : Option Nat := none
  annBeat : Option Nat := none
  repBeat : Option Nat := none
  repLast : List Byte := []
  capBad : Nat := 0
  deriving DecidableEq, Repr

/-- The bezel beside its registers (13_bezel.md). Contents are 8 line words of 64 dots. -/
structure BzlSt where
  /-- wanted and confirmed contents, lines marked pending whatever they hold (restart, BZL_REFRESH) -/
  wanted : List Nat := [0, 0, 0, 0, 0, 0, 0, 0]
  confirmed : List Nat := [0, 0, 0, 0, 0, 0, 0, 0]
  forced : Nat := 0
  /-- polarity of FRAME mode -/
  frame : Bool := false
  /-- stress counters, line × 64 + segment, in 0.01 V·s -/
  stress : List Nat := List.replicate 512 0
  /-- the line write in progress; the newest START record without DONE: line, content, polarity -/
  write : Option LineWrite := none
  startRec : Option (Nat × Nat × Bool) := none
  /-- start-up found a START record without DONE, and the sequence of R295 has not begun -/
  recover : Bool := false
  /-- refusals in sequence (R286), and the beat since which the rails have met every relation -/
  refused : Nat := 0
  railsOk : Option Nat := none
  /-- the dropped slices that wait to be posted again, oldest first (R292) -/
  dropped : List Comp := []
  /-- the sequence of R295 still to write: line, freshness segment ON, OFF or as wanted -/
  seq : List (Nat × Option Bool) := []
  /-- lines whose pulse was capped (R293) -/
  capped : Nat := 0
  /-- commands that wait for their lines -/
  shows : List CmdRef := []
  refresh : List CmdRef := []
  /-- image: meter and quantity of the legal reading, quanta of its last digit, LEGAL_MIN in s, freshness segment -/
  meter : Nat := 0
  qty : Nat := 0
  unit : Nat := 1
  legalMin : Nat := 60
  freshSeg : Nat := 0
  /-- the legal reading shown and its beat -/
  shown : Int := 0
  shownBeat : Option Nat := none
  showing : LegalShow := .reading
  /-- switched charge by line (R406): sum and writes of the first year, or of the 1 000 writes after a raise; raises of AGE_K -/
  charge : List (Nat × Nat) := List.replicate 8 (0, 0)
  raised : List Bool := List.replicate 8 false
  ageAdd : Nat := 0
  deriving DecidableEq, Repr

/-- Card reader and crown tag beside their registers (14_contactless.md). -/
structure NfcSt where
  /-- reader: beat of the last poll, drive current out of limits in sequence, stopped by 0x9001, missed presence checks and
  beat of the last one, frame waiting time, frame size and block number of the card, exchange -/
  pollBeat : Nat := 0
  drive : Nat := 0
  stopped : Bool := false
  misses : Nat := 0
  checkBeat : Nat := 0
  fwt : Nat := 0
  fsc : Nat := 32
  blockNo : Nat := 0
  ex : Option IsoEx := none
  /-- parameter byte of the RATS sent last: FSDI and CID (R298) -/
  rats : Nat := 0
  /-- tag: fixed UID, cells that differ from a valid 0 with sequence 0, by key -/
  uid : List Byte := [0, 0, 0, 0, 0, 0, 0]
  cells : List (Nat × TagCell) := []
  /-- woken from HALT (R301), crown command served since SELECT, failures of this activation, muted until the field is lost, challenge of
  AUTH_BEGIN, beat of the last crown command, beat of entry into SILENT, unknown after a reset -/
  star : Bool := false
  served : Bool := false
  fails : Nat := 0
  mute : Bool := false
  chal : Option Nat := none
  cmdBeat : Nat := 0
  silentBeat : Option Nat := none
  /-- the last answer to the field: reply bytes, 4-bit answer, frame delay in carrier cycles -/
  reply : List Byte := []
  answer : Option Nat := none
  delay : Nat := 0
  /-- write in progress; the Obrik's own writes that wait (cell, data) -/
  write : Option TagWrite := none
  own : List (Nat × Nat) := []
  /-- NFC_TAG_ABORT commands of the present beat that wait for its end (R30) -/
  aborts : List CmdRef := []
  /-- the write of the key cell has failed (R304) -/
  keyBad : Bool := false
  /-- C_1 at the last start or scrub; beat of the last scrub -/
  c1 : Nat := 0
  scrubBeat : Nat := 0
  /-- fault mirror: SEQ of the newest entry copied, next record, beat of the last write since the reset, MONO second of the last one -/
  mirSeq : Nat := 0
  mirNext : Nat := 0
  mirBeat : Option Nat := none
  mirMono : Option Nat := none
  deriving DecidableEq, Repr

/-- Supplies and clocks beside the PWR and CLK registers (21_power_clocks.md). -/
structure PwrSt where
  /-- no supply: the lanes and the Case die are off -/
  off : Bool := false
  /-- beats since the warning was raised, since the remontoire took over, since VSYS switched to HOLD (R412) -/
  warnRun : Nat := 0
  dipRun : Nat := 0
  deepRun : Nat := 0
  /-- beats in sequence with VAUX below V_WARN, with PFAIL_N low, with both good (R412) -/
  warnLow : Nat := 0
  pfailLow : Nat := 0
  goodRun : Nat := 0
  /-- beats in sequence with VAUX below 9.0 V, and at it or above (R410) -/
  vauxLow : Nat := 0
  vauxOk : Nat := 0
  /-- the full save of the warning is due at the end of the beat (R124) -/
  saveDue : Bool := false
  /-- fault that the next start logs: code and parameter (R412, R414) -/
  fault : Option (Nat × Nat) := none
  deriving DecidableEq, Repr

/-- The Mainplate beside the ARB and DMA registers (17_mainplate.md). -/
structure MpSt where
  /-- requests that wait, and the burst last granted on each logical bank -/
  reqs : List MpReq := []
  bursts : List (Option MpBurst) := List.replicate 8 none
  /-- poisoned words by host address; corrected addresses (physical bank, address, MONO second) of the last 24 h -/
  poison : List Nat := []
  corr : List (Nat × Nat × Nat) := []
  /-- logical bank being copied to the spare, the copy is complete, the Obrik's own hack holds its bank (R355, R360) -/
  copying : Option Nat := none
  copied : Bool := false
  ownHack : Bool := false
  /-- (beat, cycles) granted on each physical bank in the last 40 000 beats -/
  loads : List (List (Nat × Nat)) := List.replicate 9 []
  /-- MONO second of the last completed scrub pass, and 0xA108 raised for the present one -/
  scrubMono : Nat := 0
  scrubLag : Bool := false
  dma : List DmaSt := List.replicate 16 {}
  /-- channel last served at each priority level (R363) -/
  served : List Nat := [15, 15, 15, 15]
  deriving DecidableEq, Repr


/-- The key store beside the KEY registers (18_keys.md). -/
structure KeySt where
  /-- values held in the MRAM key area (imported and generated jewels), and values loaded in the stores (R373); the value
  generated for an EPH_n jewel and the MONO second its handshake began -/
  mram : List (Option Nat) := List.replicate 64 none
  loaded : List (Option Nat) := List.replicate 64 none
  ephMono : List Nat := List.replicate 12 0
  /-- attributes of USER_0 to USER_15 (image) -/
  user : List JAttr := List.replicate 16 {}
  /-- counts of KEY.JW_USE by jewel -/
  used : List Nat := List.replicate 64 0
  refused : List Nat := List.replicate 64 0
  /-- challenge of each port with the MONO second it was drawn, MONO seconds of the wrong responses of the last 10 min, end of
  the lockout, ports that enter SERVICE at the next beat (R380, R381) -/
  chal : List (Option (Nat × Nat)) := [none, none]
  fails : List Nat := []
  lockEnd : Nat := 0
  enter : Nat := 0
  /-- imports that apply from the next beat: jewel and value (R382) -/
  due : List (Nat × Nat) := []
  lc : Option LcAdvance := none
  /-- requests of the owner's DRBG since it was last reseeded, and the MONO second of that (R384) -/
  requests : Nat := 0
  seedMono : Nat := 0
  /-- public keys of P-384 in ROM: the Novbel legal key (R32), the Novbel firmware key (R389); log entry 7 -/
  romLegal : List Nat := Config.legalKey
  romFirmware : List Nat := Config.firmwareKey
  deriving DecidableEq, Repr



/-- Firmware update beside the UPD registers (19_update.md), by component 0 to 6. -/
structure UpdSt where
  /-- version records in flash and of the running copies -/
  flash : List UpdRec := List.replicate 7 {}
  run : List UpdRec := List.replicate 7 {}
  load : Option UpdLoad := none
  /-- UPD_ABORT commands of the present beat that wait for its end (R30) -/
  aborts : List CmdRef := []
  /-- component whose running version is being written back (R394) -/
  restore : Option Nat := none
  act : Option UpdAct := none
  /-- an activation that a power-fail warning abandons at its next step (R399) -/
  abandon : Bool := false
  /-- OP of the part that the ROM works on, and its load (R398) -/
  recOp : Nat := 0
  recLoad : Option UpdLoad := none
  deriving DecidableEq, Repr

/-- The calibre image and start-up beside the CAL registers (02_calibre.md). -/
structure CalSt where
  slots : List Slot := [{}, {}]
  /-- image of the running slot (R35), configuration in force (R46) -/
  run : Image := {}
  force : ImgCfg := {}
  /-- version floors by section (R36) -/
  floors : List Nat := [0, 0, 0, 0]
  /-- the LEGAL digest sealed at production (R32) -/
  legalDigest : Nat := 0
  /-- what the LEGAL section of every image defines (R32, R100) -/
  legalDef : ImgCfg := {}
  write : Option SlotWrite := none
  /-- CAL_ABORT commands of the present beat that wait for its end (R30) -/
  aborts : List CmdRef := []
  /-- a write past its commit point whose change takes effect at the start of the next beat (R46): beat, write, image before -/
  effect : Option (Nat × SlotWrite × Image) := none
  /-- a change of the groups that come into force at a placement round waits for it (R47) -/
  roundDue : Bool := false
  /-- the channel map (SRC, GAIN, INPUT words) under which the modulators are assigned (R78) -/
  map : List Nat := []
  /-- start-up (R41): the last step done (3 LOADING, 4 firmware, 5 slot, 6 the tag's record is being written, 7 image, 8 self-tests),
  repeats of the slot comparison, lanes whose legal flash check failed, lanes that steps 1 to 4 leave out, lanes that take no part (a bit
  each), the image digest agreed at step 5 (R39), the modulators' trims date from an earlier map, no totals could be restored (R125) -/
  step : Nat := 0
  repeats : Nat := 0
  legalBad : Nat := 0
  early : Nat := 0
  out : Nat := 0
  agreed : Nat := 0
  newMap : Bool := false
  totalsLost : Bool := false
  /-- units that restart (bits as CAL.STAGED), the command that waits, the beat at which the METER restart began -/
  units : Nat := 0
  unitCmd : Option CmdRef := none
  meterBeat : Nat := 0
  deriving DecidableEq, Repr


/-- Self-measured ageing beside the WEAR registers (20_wear.md); pairs of lanes as lists. -/
structure WearSt where
  /-- the hour in progress: worst slack, sum and number of leakage samples, hottest Lane A, Lane B, Case and Dial (0.1 °C),
  openings, thermal cycles, a clock step, a shortening, RUNNING_SINGLE -/
  worst : List (Option Int) := [none, none]
  leak : List Nat := [0, 0]
  leakN : List Nat := [0, 0]
  tmax : List (Option Int) := [none, none, none, none]
  opens : Nat := 0
  cycles : Nat := 0
  stepped : Bool := false
  shortened : Bool := false
  single : Bool := false
  /-- opening times of the last 64 openings of each outlet, newest first -/
  openMs : List (List Nat) := List.replicate 12 []
  /-- samples in sequence below FAIL_PS (R403); the cross-check run after a step: lane and first beat (R402) -/
  failRun : List Nat := [0, 0]
  check : Option (Nat × Nat) := none
  /-- the ring of 18 432 hourly records, newest first; hour of the last one -/
  ring : List WearRec := []
  lastHour : Nat := 0
  /-- sums of MRAM and flash errors over the first 8 760 records -/
  firstMram : Nat := 0
  firstFlash : Nat := 0
  /-- hour in which each cause of WEAR.SHORT was last present (R404) -/
  seen : List Nat := [0, 0, 0, 0, 0, 0, 0, 0]
  /-- faults raised once: 0xC006 by outlet, 0xC007 by channel, 0xC002 by quantity -/
  onceOut : Nat := 0
  onceLc : Nat := 0
  onceEst : Nat := 0
  /-- yearly summaries, oldest first; SEQ of the last record summed up; a summary is due after a step; times of steps and
  shortenings since (kind, MONO) -/
  years : List (List Byte) := []
  yearSeq : Nat := 0
  yearDue : Bool := false
  times : List (Nat × Nat) := []
  deriving DecidableEq, Repr

/-- The state of the block. -/
structure State where
  /-- commands that wait, first in, first out (the model's queue) -/
  pending : List Instr := []
  /-- the model's own counter of free values drawn so far (log entry 4) -/
  freeCtr : Nat := 0
  /-- host-visible registers that differ from their reset value, by rising host address -/
  regs : List (Nat × Word) := []
  /-- Mainplate bytes that differ from 0, by rising offset (R350) -/
  ram : List Host.Cell := []
  /-- global state (01) -/
  glb : GlbSt := {}
  /-- host ports and mailboxes (16) -/
  host : HostSt := {}
  /-- fault log (22) -/
  flt : FltSt := {}
  /-- escapement and power reserve (03) -/
  esc : EscSt := {}
  /-- lanes (10) -/
  red : RedSt := {}
  /-- legal partition (06) -/
  lgl : LglSt := {}
  /-- outlets and sessions (07, 08) -/
  outs : OutsSt := {}
  /-- load channels (12) -/
  lch : LchSt := {}
  /-- machine safety (11) -/
  saf : SafSt := {}
  /-- sense ports (04) -/
  sns : SnsSt := {}
  /-- meters (05) -/
  mtr : MtrSt := {}
  /-- energy placement (09) -/
  gov : GovSt := {}
  /-- site line (15) -/
  sit : SitSt := {}
  /-- bezel (13) -/
  bzl : BzlSt := {}
  /-- card reader and crown tag (14) -/
  nfc : NfcSt := {}
  /-- supplies and clocks (21) -/
  pwr : PwrSt := {}
  /-- Mainplate, arbiter and motion works (17) -/
  mp : MpSt := {}
  /-- key store (18) -/
  key : KeySt := {}
  /-- firmware update (19) -/
  fwu : UpdSt := {}
  /-- calibre image and start-up (02) -/
  cal : CalSt := {}
  /-- ageing (20) -/
  wear : WearSt := {}
  deriving DecidableEq, Repr

/-- Why a step stops. No command of the table stops with a fault: the spec gives every one an effect. -/
inductive Fault where
  /-- reserved: raised by no command (safe) -/
  | none
  deriving DecidableEq, Repr

/-- Why a command is refused. -/
inductive Refusal where
  /-- raised by an arm of exec whose meaning is not written yet (safe) -/
  | notModelled (mnemonic : String)
  deriving DecidableEq, Repr

/-- The machine right after power-up reset: every register at its reset value, memory with nothing listed, the
life-cycle state PROVISIONED (R3), every other field at the default its structure names (log entries 1 to 4). -/
def State.reset : State := {}

end Sys2Proof.Machine
end

