-- ==== Sys2Proof/Machine/Ops.lean ====
section
/-! DEFINITION. The named operations every meaning is written over: sparse maps, registers and their fields,
Mainplate memory, little-endian bytes, raising a fault, answering a command. -/
namespace Sys2Proof.Machine

/-! ### Sparse maps in canonical form -/

/-- The value listed for a key of a rising list. -/
def kvFind {α : Type} (k : Nat) : List (Nat × α) → Option α
  | [] => none
  | (j, v) :: t => if k = j then some v else if k < j then none else kvFind k t

/-- A rising list without a key. -/
def kvErase {α : Type} (k : Nat) : List (Nat × α) → List (Nat × α)
  | [] => []
  | (j, v) :: t => if k = j then kvErase k t else (j, v) :: kvErase k t

/-- A rising list with a key set to a value, or without the key when the value is the default. -/
def kvInsert {α : Type} [DecidableEq α] (d : α) (k : Nat) (v : α) : List (Nat × α) → List (Nat × α)
  | [] => if v = d then [] else [(k, v)]
  | (j, w) :: t =>
    if k < j then (if v = d then (j, w) :: t else (k, v) :: (j, w) :: t)
    else if k = j then (if v = d then kvErase k t else (k, v) :: t)
    else (j, w) :: kvInsert d k v t

/-- Canonical form: keys strictly rising, above a bound, and no entry equal to its default. -/
def kvWfFrom {α : Type} [DecidableEq α] (d : Nat → α) : Option Nat → List (Nat × α) → Bool
  | _, [] => true
  | lo, (j, v) :: t =>
    (match lo with | none => true | some b => decide (b < j)) && decide (v ≠ d j) && kvWfFrom d (some j) t

/-- Canonical form of a whole list. -/
def kvWf {α : Type} [DecidableEq α] (d : Nat → α) (l : List (Nat × α)) : Bool := kvWfFrom d none l

/-! ### Registers -/

/-- Whether a host address is a word of a register of the row. -/
def RegRow.holds (r : RegRow) (a : Nat) : Bool :=
  let o := a - r.base
  let i := o / r.s1
  let p := o % r.s1
  let j := p / r.s2
  let q := p % r.s2
  decide (r.base ≤ a) && decide (i < r.n1) && decide (j < r.n2) && decide (q < 4 * r.words) && decide (q % 4 = 0)

/-- The row of a host address in a list of rows. -/
def findRow (a : Nat) : List RegRow → Option RegRow
  | [] => none
  | r :: t => if r.holds a then some r else findRow a t

/-- The reset value of the word at a host address. -/
def regReset (a : Nat) : Word :=
  match findRow a resetRows with
  | some r => BitVec.ofNat 32 r.reset
  | none => 0#32

/-- The word a register holds. -/
def State.rd (s : State) (a : Nat) : Word := (kvFind a s.regs).getD (regReset a)

/-- Set the word of a register. -/
def State.wr (s : State) (a : Nat) (v : Word) : State := { s with regs := kvInsert (regReset a) a v s.regs }

/-- A register word as a number. -/
def State.rdN (s : State) (a : Nat) : Nat := (s.rd a).toNat

/-- Set a register word from a number, taken modulo 2^32. -/
def State.wrN (s : State) (a v : Nat) : State := s.wr a (BitVec.ofNat 32 v)

/-- A word with bits [lo+len-1:lo] replaced by a value. -/
def setBits (w : Nat) (lo len v : Nat) : Nat :=
  w - ((w >>> lo) % 2 ^ len) * 2 ^ lo + (v % 2 ^ len) * 2 ^ lo

/-- The value of a field. -/
def State.get (s : State) (f : Fld) : Nat := ((s.rd f.addr).toNat >>> f.lo) % 2 ^ f.len

/-- Set a field, the value taken modulo its width. -/
def State.put (s : State) (f : Fld) (v : Nat) : State :=
  s.wr f.addr (BitVec.ofNat 32 (setBits (s.rd f.addr).toNat f.lo f.len v))

/-- A signed field's value. -/
def State.geti (s : State) (f : Fld) : Int :=
  let v := s.get f
  if v < 2 ^ (f.len - 1) then (v : Int) else (v : Int) - (2 : Int) ^ f.len

/-- Two's complement of a number in a width. -/
def twos (w : Nat) (v : Int) : Nat := (v % (2 : Int) ^ w).toNat

/-- A number cut to a signed range of a width. -/
def satI (w : Nat) (v : Int) : Int :=
  if v < -((2 : Int) ^ (w - 1)) then -((2 : Int) ^ (w - 1))
  else if v > (2 : Int) ^ (w - 1) - 1 then (2 : Int) ^ (w - 1) - 1 else v

/-- Set a signed field. -/
def State.puti (s : State) (f : Fld) (v : Int) : State := s.put f (twos f.len v)

/-- Set a field to a value cut at the field's largest value ("saturating"). -/
def State.putSat (s : State) (f : Fld) (v : Nat) : State := s.put f (min v (2 ^ f.len - 1))

/-- Count in a saturating field. -/
def State.incBy (s : State) (f : Fld) (n : Nat) : State := s.putSat f (s.get f + n)

/-- Count one in a saturating field. -/
def State.inc (s : State) (f : Fld) : State := s.incBy f 1

/-- Raise a field to a value if the value is larger. -/
def State.raiseTo (s : State) (f : Fld) (v : Nat) : State := if s.get f < v then s.putSat f v else s

/-- Set a one-bit field, as an event does. -/
def State.set1 (s : State) (f : Fld) : State := s.put f 1

/-- Clear a field. -/
def State.clr (s : State) (f : Fld) : State := s.put f 0

/-- Set a one-bit field from a truth value. -/
def State.putB (s : State) (f : Fld) (b : Bool) : State := s.put f (if b then 1 else 0)

/-- Whether a field is not 0. -/
def State.isSet (s : State) (f : Fld) : Bool := s.get f != 0

/-- Bit k of a field that holds a bit per unit. -/
def State.bitOf (s : State) (f : Fld) (k : Nat) : Bool := (s.get f).testBit k

/-- A number with bit k set or cleared. -/
def natBit (v k : Nat) (b : Bool) : Nat :=
  if b then (if v.testBit k then v else v + 2 ^ k) else (if v.testBit k then v - 2 ^ k else v)

/-- Set or clear bit k of a field. -/
def State.putBit (s : State) (f : Fld) (k : Nat) (b : Bool) : State := s.put f (natBit (s.get f) k b)

/-- A 128-bit value as four words at rising addresses (R9). -/
def State.rd128 (s : State) (a : Nat) : Nat :=
  s.rdN a + s.rdN (a + 4) * 2 ^ 32 + s.rdN (a + 8) * 2 ^ 64 + s.rdN (a + 12) * 2 ^ 96

/-- Set a 128-bit value (R9). -/
def State.wr128 (s : State) (a v : Nat) : State :=
  (((s.wrN a v).wrN (a + 4) (v / 2 ^ 32)).wrN (a + 8) (v / 2 ^ 64)).wrN (a + 12) (v / 2 ^ 96)

/-- A signed 128-bit value. -/
def State.rd128i (s : State) (a : Nat) : Int :=
  let v := s.rd128 a
  if v < 2 ^ 127 then (v : Int) else (v : Int) - (2 : Int) ^ 128

/-- Add to a 128-bit two's-complement accumulator, exactly (R16). -/
def State.acc128 (s : State) (a : Nat) (d : Int) : State := s.wr128 a (twos 128 (s.rd128i a + d))

/-! ### Small list helpers -/

/-- The element of a list at a place, or a default. -/
def nth {α : Type} (l : List α) (d : α) (n : Nat) : α := l.getD n d

/-- Change the element of a list at a place. -/
def upd {α : Type} (l : List α) (n : Nat) (f : α → α) : List α :=
  match l, n with
  | [], _ => []
  | x :: t, 0 => f x :: t
  | x :: t, k + 1 => x :: upd t k f

/-- Apply a state change once for each number below n, in rising order. -/
def forUpTo (n : Nat) (f : Nat → State → State) (s : State) : State :=
  (List.range n).foldl (fun t k => f k t) s

/-- Apply a state change once for each element, in order. -/
def forEach {α : Type} (l : List α) (f : α → State → State) (s : State) : State :=
  l.foldl (fun t x => f x t) s

/-- Choose between two changes. -/
def when (b : Bool) (f : State → State) (s : State) : State := if b then f s else s

/-! ### Mainplate memory and bytes -/

/-- The canonical form of a memory: offsets strictly rising, no listed byte equal to 0, what an unlisted byte
reads as (log entry 3). -/
def Memory.wf (m : List Host.Cell) : Bool := kvWf (fun _ => 0#8) m

/-- The byte at a Mainplate offset. -/
def Memory.byte (m : List Host.Cell) (a : Nat) : Byte := (kvFind a m).getD 0#8

/-- Store one byte at a Mainplate offset. -/
def Memory.store (m : List Host.Cell) (a : Nat) (b : Byte) : List Host.Cell := kvInsert 0#8 a b m

/-- Store bytes at rising offsets. -/
def Memory.storeAll (m : List Host.Cell) (a : Nat) : List Byte → List Host.Cell
  | [] => m
  | b :: t => Memory.storeAll (Memory.store m a b) (a + 1) t

/-- The bytes at rising offsets. -/
def Memory.bytes (m : List Host.Cell) (a n : Nat) : List Byte :=
  (List.range n).map (fun i => Memory.byte m (a + i))

/-- A number's low bytes, lowest first. -/
def le (n v : Nat) : List Byte :=
  match n with
  | 0 => []
  | k + 1 => BitVec.ofNat 8 v :: le k (v / 256)

/-- The number a little-endian byte list spells. -/
def ofLe : List Byte → Nat
  | [] => 0
  | b :: t => b.toNat + 256 * ofLe t

/-- The Mainplate window of the host (R338). -/
def mainplateBase : Nat := 0x40000000

/-- The Mainplate offset of a host address. -/
def ramOff (a : Nat) : Nat := a - mainplateBase

/-- Whether a host address lies in the Mainplate window. -/
def inMainplate (a : Nat) : Bool := decide (mainplateBase ≤ a) && decide (a < 0x41000000)

/-- Whether a host address lies in the host area (R338). -/
def inHostArea (a : Nat) : Bool := decide (mainplateBase ≤ a) && decide (a < 0x40400000)

/-- Whether a command argument may name the address: in the host area, a multiple of 16 (R338). -/
def argAddrOk (a : Nat) : Bool := inHostArea a && decide (a % 16 = 0)

/-- Whether a whole range that a command argument names lies in the host area. -/
def argRangeOk (a n : Nat) : Bool := argAddrOk a && decide (a + n ≤ 0x40400000)

/-- Whether a write of n bytes at an address covers the whole 16-byte word that holds an address. -/
def coversWord (a n w : Nat) : Bool := decide (a ≤ w / 16 * 16) && decide (w / 16 * 16 + 16 ≤ a + n)

/-- Store bytes at a host address of the Mainplate; bytes past the window are not stored. A write of less than a word
fails on a poisoned word, a full-word write clears the poison (R352). -/
def State.mpWrite (s : State) (a : Nat) (bs : List Byte) : State :=
  let cut := bs.take (0x41000000 - a)
  if s.mp.poison.isEmpty then { s with ram := Memory.storeAll s.ram (ramOff a) cut }
  else
    let n := cut.length
    let keep (k : Nat) : Bool := s.mp.poison.contains ((a + k) / 16 * 16) && !coversWord a n (a + k)
    let idx := (List.range n).filter (fun k => !keep k)
    let ram := idx.foldl (fun m k => Memory.store m (ramOff (a + k)) (cut.getD k 0#8)) s.ram
    { s with
      ram := ram
      mp := { s.mp with poison := s.mp.poison.filter (fun w => !coversWord a n w) } }

/-- A decision of the owner is recorded for the journal (R228, R231). -/
def State.journal (s : State) (type key : Nat) (head : List Byte) (data : List Byte := []) (bulk : Bool := false) : State :=
  let j := s.red.jnl
  { s with red := { s.red with jnl := { j with
    iseq := (j.iseq + 1) % 2 ^ 32
    recs := j.recs ++ [{ type := type, key := key, iseq := j.iseq, head := head, data := data, bulk := bulk }] } } }

/-- Record types that operations push (R231), and the purposes of the values drawn (log entry 140). -/
def jDRAW : Nat := 0x03
def jMPWR : Nat := 0x07

/-- A record has reached the standby: it waits for no entry, and its entry waits for no acknowledgement (R229, R232). -/
def State.recorded (s : State) (i : Option Nat) : Bool :=
  match i with
  | none => false
  | some q => s.red.jnl.recs.all (fun r => r.iseq != q) && s.red.unacked.all (fun e => e.records.all (fun r => r.iseq != q))

/-- The bytes at a host address of the Mainplate. -/
def State.mpRead (s : State) (a n : Nat) : List Byte := Memory.bytes s.ram (ramOff a) n

/-- A list padded with zeros to a length, or cut to it. -/
def padTo (n : Nat) (l : List Byte) : List Byte := (l ++ List.replicate (n - l.length) 0#8).take n

/-! ### Free values -/

/-- Draw the next free value and advance the counter (log entry 4). -/
def State.draw (s : State) : Nat × State := (Config.freeValue s.freeCtr, { s with freeCtr := s.freeCtr + 1 })

/-! ### States and lanes -/

/-- GLB.STATE.STATE (R22). -/
def State.gstate (s : State) : Nat := s.get GLB_STATE_STATE

/-- The life-cycle states RETURNED and SCRAPPED, in which the outputs stay in the setting position (R24). -/
def State.retiredPart (s : State) : Bool := decide (3 ≤ s.glb.lifecycle)

/-- RUNNING_DUAL or RUNNING_SINGLE (R22). -/
def State.inRunning (s : State) : Bool := s.gstate == 3 || s.gstate == 4

/-- RUNNING_DUAL or RUNNING_SINGLE, of a part that may drive its outputs (R22, R24). -/
def State.running (s : State) : Bool := s.inRunning && !s.retiredPart

/-- The global state as the command tables name it: a part whose outputs stay in the setting position counts as in SETTING (R24, R44). -/
def State.tableState (s : State) : Nat := if s.retiredPart ∧ 3 ≤ s.gstate ∧ s.gstate ≤ 5 then 2 else s.gstate

/-- Owner of the outputs: 0 Lane A, 1 Lane B (R227). -/
def State.owner (s : State) : Nat := s.get GLB_STATE_ACTIVE

/-- A value drawn from the owner's DRBG, journalled as DRAW with its purpose (R228, R231); the request counts toward the next reseed
(R384). -/
def State.drbg (s : State) (purpose : Nat) : Nat × State :=
  let d := s.draw
  (d.1, { d.2 with key := { d.2.key with requests := d.2.key.requests + 1 } }.journal jDRAW purpose [] (le 32 d.1))

/-- The owner's application core stores bytes in the Mainplate (R228): journalled as MP_WR, in blocks of at most 4 096 bytes. -/
def State.laneWrite (s : State) (a : Nat) (bs : List Byte) : State :=
  forUpTo ((bs.length + 4095) / 4096) (fun k u =>
    let part := (bs.drop (4096 * k)).take 4096
    u.journal jMPWR (3 * s.owner + 1) (le 4 (a + 4096 * k) ++ le 2 part.length) part) (s.mpWrite a bs)

/-- The owner stores bytes in the Mainplate that both lanes have formed: the standby stores them in its own copy (R228). -/
def State.bothWrite (s : State) (a : Nat) (bs : List Byte) : State :=
  let t := s.mpWrite a bs
  let j := t.red.jnl
  { t with red := { t.red with jnl := { j with stbRam := Memory.storeAll j.stbRam (ramOff a) (bs.take (0x41000000 - a)) } } }

/-- STANDBY_OK (R229). -/
def State.standbyOk (s : State) : Bool := s.isSet GLB_STATE_STANDBY_OK

/-- What a journal record announces may leave the lanes (R229): its record has reached the standby, or no standby is synchronised. -/
def State.mayLeave (s : State) (i : Option Nat) : Bool := !s.standbyOk || s.recorded i

/-- No entry of an earlier beat waits for its acknowledgement, so the decisions of the earlier beats may reach the outputs (R229). -/
def State.mirrored (s : State) : Bool := !s.standbyOk || s.red.unacked.isEmpty

/-- An owner's decision of a beat may reach the outputs (R229): both lanes make it (none), or the entry of its beat is acknowledged. -/
def State.decided (s : State) (b : Option Nat) : Bool :=
  match b with
  | none => true
  | some n => !s.standbyOk || decide (n ≤ s.red.ackedBeat)

/-- The setting position: BOOT, LOADING, SETTING, RECOVERY, and the life-cycle states RETURNED and SCRAPPED (R44). -/
def State.settingPos (s : State) : Bool :=
  s.gstate == 0 || s.gstate == 1 || s.gstate == 2 || s.gstate == 6 || s.glb.lifecycle ≥ 3

/-! ### Faults (22_faults.md) -/

/-- Fault classes of R422. -/
def NOTE : Nat := 0
def DEGRADE : Nat := 1
def OUTLETSTOP : Nat := 2
def SAFEHOLD : Nat := 3
def SETTINGCLASS : Nat := 4

/-- SOURCE of an entry (R423): the lane that owns the outputs. -/
def State.srcOwner (s : State) : Nat := s.owner + 4
/-- SOURCE of an entry: a lane, with bit 2 when it owns the outputs. -/
def State.srcLane (s : State) (lane : Nat) : Nat := if lane = s.owner then lane + 4 else lane
/-- SOURCE of an entry: the Case die. -/
def srcCase : Nat := 2
/-- SOURCE of an entry: the Barrel. -/
def srcBarrel : Nat := 3

/-- ESC.BEATNO (R55). -/
def State.beat (s : State) : Nat := s.get ESC_BEATNO_LO_BEATNO_LO + 2 ^ 32 * s.get ESC_BEATNO_HI_BEATNO_HI

/-- The beat a command belongs to (log entry 6): inside a beat's own work, and for a host command (its dequeue beat),
ESC.BEATNO; for an event that reaches the block between two beats, the beat that begins next. -/
def State.now (s : State) : Nat :=
  if s.esc.inBeat then s.beat else if s.esc.gen = 2 then s.beat + 1 else 0

/-- Register values as they stand after a set of GLB.STATE (R22): the cause, and GLB.EVENTS.STATE_CHG; the beat of an entry into a
running state from another global state (R340). -/
def State.setGstate (s : State) (g cause : Nat) : State :=
  let t := (((s.put GLB_STATE_STATE g).put GLB_STATE_CAUSE cause).put GLB_POLL_STATE g).set1 GLB_EVENTS_STATE_CHG
  if (g = 3 ∨ g = 4) ∧ s.gstate ≠ g then { t with glb := { t.glb with runBeat := s.now } } else t

/-- Run a change as part of the beat ESC.BEATNO. -/
def State.within (f : State → State) (s : State) : State :=
  let t := f { s with esc := { s.esc with inBeat := true } }
  { t with esc := { t.esc with inBeat := false } }

/-- The MONO sample of the beat (R134). -/
def State.mono (s : State) : Nat := s.rd128 A_LGL_MONO % 2 ^ 64

/-- WALL seconds at the last beat sample (R134). -/
def State.wall (s : State) : Nat := (s.rd128 A_LGL_WALL / 2 ^ 32) % 2 ^ 64

/-- Bits [31:0] of the WALL seconds, 0 while WALL is invalid (R423, R136). -/
def State.wall32 (s : State) : Nat :=
  if s.isSet LGL_CHRONO_WALL_VALID then s.wall % 2 ^ 32 else 0

/-- MONO and WALL of a fault: the sample of its beat, or the chronometer's own where no beat has begun (R423). -/
def State.faultMono (s : State) : Nat := if s.esc.gen = 2 then s.mono else s.lgl.mono % 2 ^ 64
def State.faultWall (s : State) : Nat :=
  if s.esc.gen = 2 then s.wall32 else if s.lgl.valid then s.lgl.wall / 2 ^ 32 % 2 ^ 32 else 0

/-- Raise a fault: its entry waits for the log write of the beat (R424). -/
def State.raise (s : State) (code cls src p0 p1 : Nat) : State :=
  { s with flt := { s.flt with waiting := s.flt.waiting ++
      [{ beat := s.now, code := code, mono := s.faultMono, wall := s.faultWall, seq := 0, source := src, cls := cls,
         deferred := false, suppressed := false, p0 := p0 % 2 ^ 16, p1 := p1 % 2 ^ 32 }] } }

/-- The stored rate-limit record of a key. -/
def rateOf (l : List Rate) (key : Nat) : Option Rate := l.find? (fun r => r.key == key)

/-- Raise a fault at most once in `window` beats per key; a dropped occurrence sets SUPPRESSED in the next (R423). -/
def State.raiseLimited (s : State) (key window code cls src p0 p1 : Nat) : State :=
  let rest := s.flt.rate.filter (fun r => r.key != key)
  match rateOf s.flt.rate key with
  | some r =>
    if s.now < r.beat + window then
      { s with flt := { s.flt with rate := rest ++ [{ r with dropped := true }] } }
    else
      let t := s.raise code cls src p0 p1
      { t with flt := { t.flt with
          rate := rest ++ [{ key := key, beat := s.now, dropped := false }],
          waiting := t.flt.waiting.mapIdx (fun i e =>
            if i + 1 = t.flt.waiting.length then { e with suppressed := r.dropped } else e) } }
  | none =>
    let t := s.raise code cls src p0 p1
    { t with flt := { t.flt with rate := rest ++ [{ key := key, beat := s.now, dropped := false }] } }

/-- One second in beats (R54). -/
def secBeats : Nat := 40000

/-- A host-port fault, at most once per port per second (16_host.md, Faults). -/
def State.raiseHost (s : State) (code port p1 : Nat) : State :=
  s.raiseLimited (code * 16 + port) secBeats code NOTE srcBarrel port p1

/-! ### Commands and replies (16_host.md) -/

/-- Status codes of R347. -/
def stOK : Nat := 0x0000
def stACCEPTED : Nat := 0x0001
def stBUSY : Nat := 0x0010
def stREFUSED_STATE : Nat := 0x0011
def stREFUSED_AUTH : Nat := 0x0012
def stBAD_ARG : Nat := 0x0013
def stABORT_LATE : Nat := 0x0014
def stTIMEOUT : Nat := 0x0015
def stINCOMPATIBLE : Nat := 0x0016

/-- The i-th 4-byte argument (R344). -/
def Cmd.u32 (c : Cmd) (i : Nat) : Nat := ofLe ((c.args.drop (4 * i)).take 4)

/-- The bytes of a string argument whose 4-byte length stands at a byte offset (R344). -/
def Cmd.str (c : Cmd) (off : Nat) : List Byte :=
  (c.args.drop (off + 4)).take (ofLe ((c.args.drop off).take 4))

/-- The byte offset after a string argument, padded to a multiple of 4 (R344). -/
def Cmd.strEnd (c : Cmd) (off : Nat) : Nat :=
  off + 4 + (ofLe ((c.args.drop off).take 4) + 3) / 4 * 4

/-- The 16-byte header and the data of a reply message (R345). -/
def replyBytes (code seq status flags param : Nat) (data : List Byte) : List Byte :=
  le 2 code ++ le 2 seq ++ le 2 status ++ le 2 flags ++ le 4 param ++ le 4 data.length ++ data

/-- The length of a message in 16-byte units. -/
def units (n : Nat) : Nat := (n + 15) / 16

/-- The reply of a command: it waits for its release under R229 (R345). Result data beyond REPLY_MAX are cut. -/
def State.answer (s : State) (c : Cmd) (status param : Nat) (data : List Byte := []) : State :=
  let cut := data.take (c.replyMax - 16)
  let flags := if cut.length < data.length then 2 else 0
  let bs := replyBytes c.code c.seq status flags param cut
  let n : Notice := { mbox := 8 + c.mbox, lo := c.replyAddr, hi := c.code * 2 ^ 16 + units bs.length }
  let h : Held := { beat := s.now, port := c.port, seq := c.seq, addr := c.replyAddr, bytes := bs, notice := n }
  { s with host := { s.host with
      exec := s.host.exec.map (fun d =>
        if d.port == c.port && d.seq == c.seq && d.code == c.code then { d with answered := true } else d)
      held := s.host.held ++ [h] } }

/-- The started command with a port and sequence number that still waits for its answer. -/
def State.openCmd (s : State) (port seq : Nat) : Option Cmd :=
  s.host.exec.find? (fun c => c.port == port && c.seq == seq && c.started && !c.answered)

/-- Answer a command and keep its result; the aborts that came too late for it are answered ABORT_LATE with a copy of that result (R30, R347). -/
def State.reply (s : State) (c : Cmd) (status param : Nat) (data : List Byte := []) : State :=
  let r : CmdRef := { port := c.port, seq := c.seq }
  let t := s.answer c status param data
  let t := { t with host := { t.host with
    results := { code := c.code, cmd := r, param := param, data := data } :: t.host.results.filter (fun x => x.code != c.code)
    aborts := t.host.aborts.filter (fun a => a.1 != r) } }
  forEach (s.host.aborts.filter (fun a => a.1 == r)) (fun a u =>
    match u.openCmd a.2.port a.2.seq with
    | some d => u.answer d stABORT_LATE param data
    | none => u) t

/-- An answer of this beat that a later event of the beat turns into another, with no data. -/
def State.amendReply (s : State) (port seq status param : Nat) : State :=
  { s with host := { s.host with
      held := s.host.held.map (fun h =>
        if h.port = port ∧ h.seq = seq ∧ h.beat = s.now then
          { h with bytes := replyBytes (h.notice.hi / 2 ^ 16) seq status 0 param [] }
        else h)
      results := s.host.results.map (fun x => if x.cmd = { port := port, seq := seq } then { x with param := param, data := [] } else x) } }

/-- Drop a command without an answer (R30: an aborted operation sends no reply of its own). -/
def State.dropCmd (s : State) (port seq : Nat) : State :=
  { s with host := { s.host with
      exec := s.host.exec.filter (fun d => !(d.port == port && d.seq == seq && d.started && !d.answered)) } }

/-- The commands of a state that are waiting to be started from a mailbox with a code. -/
def State.waitingCmd (s : State) (mb code : Nat) : Option Cmd :=
  s.host.exec.find? (fun c => c.mbox == mb && c.code == code && !c.started)

/-- Mark a command as started. -/
def State.startCmd (s : State) (c : Cmd) : State :=
  { s with host := { s.host with
      exec := s.host.exec.map (fun d =>
        if d.port == c.port && d.seq == c.seq && d.code == c.code then { d with started := true } else d) } }

/-- Answer the started command of a port and sequence number, if it still waits. -/
def State.replyTo (s : State) (port seq status param : Nat) (data : List Byte := []) : State :=
  match s.openCmd port seq with
  | some c => s.reply c status param data
  | none => s

/-- Answer an abort that came at or after the commit point of an operation (R30): with a copy of the operation's result, as soon as there is
one. -/
def State.abortLate (s : State) (c : Cmd) (op : CmdRef) : State :=
  match s.host.results.find? (fun x => x.cmd == op) with
  | some x => s.reply c stABORT_LATE x.param x.data
  | none =>
    if (s.openCmd op.port op.seq).isSome then
      { s with host := { s.host with aborts := s.host.aborts ++ [(op, { port := c.port, seq := c.seq })] } }
    else s.reply c stABORT_LATE 0

/-- Answer an abort, named by its port and sequence number, that came too late for an operation (R30). -/
def State.abortLateTo (s : State) (r op : CmdRef) : State :=
  match s.openCmd r.port r.seq with
  | some c => s.abortLate c op
  | none => s

/-- A write of a register by a host port: in SCRAPPED it has no effect and is reported as 0xA002 (R24, R8). -/
def State.hostSets (s : State) (port a : Nat) (f : State → State) : State :=
  if s.glb.lifecycle = 4 then (s.inc (HPD_P_ERR_UNMAPPED port)).raiseHost 0xA002 port a else f s

/-- Whether the port of a command acts in SERVICE (R25). -/
def State.inService (s : State) (port : Nat) : Bool :=
  (if port = 0 then s.get GLB_WORLD_HP0 else s.get GLB_WORLD_HP1) == 2

/-- Where a command's table accepts it (R343, R44). -/
inductive Accept where
  | running      -- RUNNING states
  | dual         -- RUNNING_DUAL
  | single       -- RUNNING_SINGLE
  | any          -- any state that takes commands
  | runSetting   -- RUNNING states and SETTING
  | runHold      -- RUNNING states and SAFE_HOLD
  deriving DecidableEq, Repr

/-- Whether a global state is one the command's table names. -/
def Accept.ok : Accept → Nat → Bool
  | .running, g => g == 3 || g == 4
  | .dual, g => g == 3
  | .single, g => g == 4
  | .any, g => g == 2 || g == 3 || g == 4 || g == 5
  | .runSetting, g => g == 2 || g == 3 || g == 4
  | .runHold, g => g == 3 || g == 4 || g == 5

/-- Run a host command: the oldest waiting command of the mailbox with this code. It is answered REFUSED_STATE in a
state its table does not name (R44, R343), REFUSED_AUTH from a port outside SERVICE where its table asks for it,
and runs otherwise. Nothing happens when no such command waits (log entry 5). -/
def State.command (s : State) (mb code : Nat) (acc : Accept) (service : Bool) (body : Cmd → State → State) : State :=
  match s.waitingCmd mb code with
  | none => s
  | some c =>
    let t := s.startCmd c
    if !acc.ok s.tableState then State.within (fun u => u.reply c stREFUSED_STATE 0) t
    else if service && !s.inService c.port then State.within (fun u => u.reply c stREFUSED_AUTH 0) t
    else State.within (body c) t

end Sys2Proof.Machine
end

