-- ==== Sys2Proof/Machine/Calendar.lean ====
section
/-! DEFINITION. Local time of 06_legal.md: the civil calendar from 2000-01-01, daylight saving (R138, R139), the switch
points of a programme in real time and its active register (R461). Times are seconds since 2000-01-01 00:00:00 UTC. -/
namespace Sys2Proof.Machine

/-- Year, month and day of a day number counted from 2000-01-01. -/
def civil (day : Int) : Int × Nat × Nat :=
  let z := day + 730425
  let era := z / 146097
  let doe := z - era * 146097
  let yoe := (doe - doe / 1460 + doe / 36524 - doe / 146096) / 365
  let doy := doe - (365 * yoe + yoe / 4 - yoe / 100)
  let mp := (5 * doy + 2) / 153
  let d := (doy - (153 * mp + 2) / 5 + 1).toNat
  let m := (if mp < 10 then mp + 3 else mp - 9).toNat
  (yoe + era * 400 + (if m ≤ 2 then 1 else 0), m, d)

/-- The day number of a date. -/
def dayOf (y : Int) (m d : Nat) : Int :=
  let y := if m ≤ 2 then y - 1 else y
  let era := y / 400
  let yoe := y - era * 400
  let mp : Int := if m > 2 then (m : Int) - 3 else (m : Int) + 9
  let doy := (153 * mp + 2) / 5 + (d : Int) - 1
  era * 146097 + (yoe * 365 + yoe / 4 - yoe / 100 + doy) - 730425

/-- The weekday of a day number: 1 Monday to 7 Sunday (2000-01-01 was a Saturday). -/
def weekdayOf (day : Int) : Nat := ((day + 5) % 7).toNat + 1

/-- The day of a DST rule in a year (R138). -/
def DstRule.day (r : DstRule) (y : Int) : Int :=
  let first := dayOf y r.month 1
  let off := ((r.weekday : Int) - (weekdayOf first : Int)) % 7
  if r.week < 5 then first + off + 7 * ((r.week : Int) - 1)
  else
    let next := if r.month = 12 then dayOf (y + 1) 1 1 else dayOf y (r.month + 1) 1
    let last := next - 1
    last - (((weekdayOf last : Int) - (r.weekday : Int)) % 7)

/-- The start and end of daylight saving in a year, as UTC instants: each read in the local time before it (R139). -/
def Prog.dstFrom (p : Prog) (y : Int) : Int := p.dstStart.day y * 86400 + p.dstStart.minute * 60 - p.std * 60
def Prog.dstTo (p : Prog) (y : Int) : Int := p.dstEnd.day y * 86400 + p.dstEnd.minute * 60 - (p.std + p.dst) * 60

/-- Whether daylight saving is in force at a UTC instant. -/
def Prog.inDst (p : Prog) (w : Int) : Bool :=
  if p.dst = 0 then false
  else
    let y := (civil ((w + p.std * 60) / 86400)).1
    let a := p.dstFrom y
    let b := p.dstTo y
    if a < b then decide (a ≤ w) && decide (w < b) else decide (a ≤ w) || decide (w < b)

/-- The offset of local time in minutes at a UTC instant (R139). -/
def Prog.offset (p : Prog) (w : Int) : Int := p.std + (if p.inDst w then p.dst else 0)

/-- The UTC instant at which a local time takes effect (R139): in the skipped hour at the end of the skip, in the
repeated hour at its first occurrence. -/
def Prog.toUtc (p : Prog) (l : Int) : Int :=
  let u1 := l - (p.std + p.dst) * 60
  let u2 := l - p.std * 60
  if p.inDst u1 then u1
  else if p.inDst u2 then p.dstFrom (civil ((u2 + p.std * 60) / 86400)).1
  else u2

/-- The season of a date: the last listed one that begins at or before it, else the last listed one (R138 names no order of the list;
DESIGN CHOICE, log entry 155). -/
def Prog.season (p : Prog) (m d : Nat) : Option (Nat × Nat × List Nat) :=
  match p.seasons.filter (fun x => decide (x.1 < m) || (x.1 == m && decide (x.2.1 ≤ d))) with
  | [] => p.seasons.getLast?
  | l => l.getLast?

/-- The day profile of a day number (R138): a special day before the season's week table, of several on one date the first listed
(DESIGN CHOICE, log entry 155). -/
def Prog.profileOf (p : Prog) (day : Int) : List (Nat × Nat) :=
  let c := civil day
  match p.special.find? (fun x => x.2.1 == c.2.1 && x.2.2.1 == c.2.2 &&
      (match x.1 with | none => true | some y => (y : Int) == c.1)) with
  | some x => nth p.profiles [] x.2.2.2
  | none =>
    match p.season c.2.1 c.2.2 with
    | some x => nth p.profiles [] (nth x.2.2 0 (weekdayOf day - 1))
    | none => []

/-- The latest of a list of switch points (instant, register). -/
def latestPoint : List (Int × Nat) → Option (Int × Nat)
  | [] => none
  | x :: t => match latestPoint t with | none => some x | some y => if x.1 > y.1 then some x else some y

/-- Look for the latest switch point at or before an instant, going back at most n days (R461). -/
def Prog.lookBack (p : Prog) (w : Int) : Nat → Int → Option (Int × Nat)
  | 0, _ => none
  | n + 1, day =>
    let pts := ((p.profileOf day).map (fun x => (p.toUtc (day * 86400 + x.1 * 60), x.2))).filter (fun x => decide (x.1 ≤ w))
    match latestPoint pts with
    | some x => some x
    | none => p.lookBack w n (day - 1)

/-- The latest switch point of a programme at or before an instant (R461). -/
def Prog.lastSwitch (p : Prog) (w : Int) : Option (Int × Nat) :=
  p.lookBack w 367 ((w + p.offset w * 60) / 86400)

/-- The latest multiple of `len` seconds from local 00:00 at or before an instant, under the offset of that instant. -/
def Prog.gridAt (p : Prog) (len : Nat) (w : Int) : Int :=
  let l := w + p.offset w * 60
  w - (l % 86400) % (max len 1)

/-- The latest change of the local offset at or before an instant, none without daylight saving (R139). -/
def Prog.lastChange (p : Prog) (w : Int) : Option Int :=
  if p.dst = 0 then none
  else
    let y := (civil ((w + p.std * 60) / 86400)).1
    let l := [p.dstFrom y, p.dstTo y, p.dstFrom (y - 1), p.dstTo (y - 1)].filter (fun c => decide (c ≤ w))
    l.foldl (fun (m : Option Int) c => match m with | some x => some (max x c) | none => some c) none

/-- The latest boundary of demand intervals at or before an instant (R140). Since a change of the offset the first boundary is one of the
new grid; the boundary before it lies on the old grid, before the change. -/
def Prog.gridBefore (p : Prog) (len : Nat) (w : Int) : Int :=
  let b := p.gridAt len w
  match p.lastChange w with
  | some c => if b < c then p.gridAt len (c - 1) else b
  | none => b

/-- The latest billing boundary at or before an instant (R141): BILL_TIME on BILL_DAY of a month. -/
def Prog.billBefore (p : Prog) (day minute : Nat) (w : Int) : Int :=
  let c := civil ((w + p.offset w * 60) / 86400)
  let at_ (y : Int) (m : Nat) : Int := p.toUtc (dayOf y m day * 86400 + minute * 60)
  let a := at_ c.1 c.2.1
  if a ≤ w then a else if c.2.1 = 1 then at_ (c.1 - 1) 12 else at_ c.1 (c.2.1 - 1)

end Sys2Proof.Machine
end

