-- ==== Sys2Proof/Machine/Crypto.lean ====
section
/-! DEFINITION. The symmetric cryptography of 18_keys.md (R384): the SHA-2 hashes and HMAC-SHA-256, the counter-mode KDF of R374, AES-256 and
AES-256-GCM, AES-128 in CBC mode (R169). A value of 32 bytes is the number whose bytes, least significant first, are those of the string (log entry 7). -/
namespace Sys2Proof.Machine

/-! ### SHA-256, SHA-384 and SHA-512 (FIPS 180-4) -/

/-- The k-th root of v rounded down, found bit by bit from bit n - 1 on, over r. -/
def rootBits (k v : Nat) : Nat → Nat → Nat
  | 0, r => r
  | n + 1, r => rootBits k v n (if (r + 2 ^ n) ^ k ≤ v then r + 2 ^ n else r)

/-- The first w bits of the fraction of the k-th root of p. -/
def rootFrac (k w p : Nat) : Nat := rootBits k (p * 2 ^ (k * w)) (w + 5) 0 % 2 ^ w

/-- The primes below 410, of which there are 80. -/
def primes : List Nat :=
  (List.range 410).filter (fun n => decide (2 ≤ n) && (List.range 19).all (fun d => decide (d + 2 ≥ n) || n % (d + 2) != 0))

/-- A member of the SHA-2 family that works on words of w bits: its rounds, and the rotations of its four functions; the last number of σ is
a shift. -/
structure Sha2 where
  w : Nat
  rounds : Nat
  upperA : List Nat
  upperE : List Nat
  lowerA : List Nat
  lowerB : List Nat
  deriving DecidableEq, Repr

/-- The member of 32-bit words, and the one of 64-bit words. -/
def sha32 : Sha2 :=
  { w := 32, rounds := 64, upperA := [2, 13, 22], upperE := [6, 11, 25], lowerA := [7, 18, 3], lowerB := [17, 19, 10] }
def sha64 : Sha2 :=
  { w := 64, rounds := 80, upperA := [28, 34, 39], upperE := [14, 18, 41], lowerA := [1, 8, 7], lowerB := [19, 61, 6] }

/-- The round constants: fractions of the cube roots of the first primes. Initial values: of the square roots of eight primes from the i-th on. -/
def Sha2.consts (h : Sha2) : List Nat := (primes.take h.rounds).map (rootFrac 3 h.w)
def Sha2.start (h : Sha2) (i : Nat) : List Nat := ((primes.drop i).take 8).map (rootFrac 2 h.w)

/-- A word rotated right. -/
def Sha2.rot (h : Sha2) (x n : Nat) : Nat := x >>> n ||| (x <<< (h.w - n)) % 2 ^ h.w

/-- Σ: three rotations; σ: two rotations and a shift. -/
def Sha2.upper (h : Sha2) (r : List Nat) (x : Nat) : Nat := r.foldl (fun acc n => acc ^^^ h.rot x n) 0
def Sha2.lower (h : Sha2) (r : List Nat) (x : Nat) : Nat := h.upper (r.take 2) x ^^^ x >>> nth r 0 2

/-- A round on the eight working variables, from a to h. -/
def Sha2.round (h : Sha2) (v : List Nat) (k : Nat) : List Nat :=
  let x (i : Nat) : Nat := nth v 0 i
  let t := x 7 + h.upper h.upperE (x 4) + ((x 4 &&& x 5) ^^^ ((2 ^ h.w - 1 - x 4) &&& x 6)) + k
  let u := h.upper h.upperA (x 0) + ((x 0 &&& (x 1 ^^^ x 2)) ^^^ (x 1 &&& x 2))
  [(t + u) % 2 ^ h.w, x 0, x 1, x 2, (x 3 + t) % 2 ^ h.w, x 4, x 5, x 6]

/-- The rounds of a block over its last 16 schedule words, newest first: each round uses the oldest of them and adds the next one. -/
def Sha2.run (h : Sha2) : List Nat → List Nat → List Nat → List Nat
  | [], _, v => v
  | k :: ks, w, v =>
    let old := nth w 0 15
    let next_ := (h.lower h.lowerB (nth w 0 1) + nth w 0 6 + h.lower h.lowerA (nth w 0 14) + old) % 2 ^ h.w
    Sha2.run h ks ((next_ :: w).take 16) (h.round v (k + old))

/-- The number of a big-endian string of bytes. -/
def beNum (l : List Nat) : Nat := l.foldl (fun acc b => acc * 256 + b) 0

/-- The blocks of a padded message enter the hash value. -/
def Sha2.blocks (h : Sha2) : Nat → List Nat → List Nat → List Nat
  | 0, v, _ => v
  | n + 1, v, m =>
    let b := h.w / 8
    let w := (List.range 16).map (fun i => beNum ((m.drop (b * (15 - i))).take b))
    Sha2.blocks h n (List.zipWith (fun x y => (x + y) % 2 ^ h.w) v (h.run h.consts w v)) (m.drop (16 * b))

/-- The big-endian bytes of a number. -/
def beBytes (n v : Nat) : List Nat := ((List.range n).map (fun i => v / 256 ^ i % 256)).reverse

/-- The hash value of a string of bytes from an initial value, in bytes. -/
def Sha2.hash (h : Sha2) (v : List Nat) (m : List Nat) : List Nat :=
  let b := 2 * h.w
  let pad := (b + b - 1 - h.w / 4 - m.length % b) % b
  let p := m ++ [0x80] ++ List.replicate pad 0 ++ beBytes (h.w / 4) (8 * m.length)
  (h.blocks (p.length / b) v p).flatMap (beBytes (h.w / 8))

/-- SHA-256, SHA-384 and SHA-512 of a string of bytes. -/
def sha256 (m : List Nat) : List Nat := sha32.hash (sha32.start 0) m
def sha384 (m : List Nat) : List Nat := (sha64.hash (sha64.start 8) m).take 48
def sha512 (m : List Nat) : List Nat := sha64.hash (sha64.start 0) m

/-- HMAC-SHA-256 (RFC 2104) of a message under a key of at most 64 bytes. -/
def hmacBytes (key m : List Nat) : List Nat :=
  let k := key ++ List.replicate (64 - key.length) 0
  sha256 (k.map (fun x => x ^^^ 0x5C) ++ sha256 (k.map (fun x => x ^^^ 0x36) ++ m))

/-- The number of a string of bytes, least significant first, and its bytes. -/
def leNum (l : List Nat) : Nat := l.foldr (fun b acc => b + 256 * acc) 0
def leBytes (n v : Nat) : List Nat := (List.range n).map (fun i => v / 256 ^ i % 256)

/-- HMAC-SHA-256 of a message under a 32-byte value (R299, R303, R304, R265). -/
def hmac (key : Nat) (m : List Byte) : Nat := leNum (hmacBytes (leBytes 32 key) (m.map (fun b => b.toNat)))

/-! ### The derivation of R374 -/

/-- A block of the counter-mode KDF: counter, LABEL, a zero byte, SERIAL, the length 256. -/
def kdfBlock (parent : List Nat) (ctr : Nat) (label : List Nat) (serial : Nat) : List Nat :=
  hmacBytes parent (beBytes 4 ctr ++ label ++ [0] ++ leBytes 8 serial ++ beBytes 4 256)

/-- The 32 bytes of a LABEL: an ASCII name and an index. -/
def kdfLabel (name : List Nat) (index : Nat) : List Nat :=
  (name ++ List.replicate 16 0).take 16 ++ leBytes 4 index ++ List.replicate 12 0

/-- The orders of P-256 and P-384. -/
def orderP256 : Nat := 0xFFFFFFFF00000000FFFFFFFFFFFFFFFFBCE6FAADA7179E84F3B9CAC2FC632551
def orderP384 : Nat :=
  0xFFFFFFFFFFFFFFFFFFFFFFFFFFFFFFFFFFFFFFFFFFFFFFFFC7634D81F4372DDF581A0DB248B0A77AECEC196ACCC52973

/-- The value of a derived jewel of a type (R374): a secret, or a private key of P-256 (2) or P-384 (3). -/
def kdf (parent : Nat) (label : List Nat) (serial typ : Nat) : Nat :=
  let p := leBytes 32 parent
  let k1 := kdfBlock p 1 label serial
  if typ = 2 then beNum k1 % (orderP256 - 1) + 1
  else if typ = 3 then beNum (k1 ++ kdfBlock p 2 label serial) % (orderP384 - 1) + 1
  else leNum k1

/-! ### AES-256 and AES-128 (FIPS 197) -/

/-- Multiplication by x in the field of AES. -/
def xtime (a : Nat) : Nat := if 128 ≤ a then (2 * a) % 256 ^^^ 0x1B else 2 * a

/-- The S-box as a number, the byte for a from bit 8 a on, in rows of 32 bytes. -/
def sboxRows : List Nat :=
  [0xC072A49CAFA2D4ADF04759FA7DC982CA76ABD7FE2B670130C56F6BF27B777C63,
   0x75B227EBE28012079A059618C323C7041531D871F1E5A534CCF73F362693FDB7,
   0xCF584C4A39BECB6A5BB1FC20ED00D153842FE329B3D63B52A05A6E1B1A2C8309,
   0xD2F3FF1021DAB6BCF5389D928F40A351A89F3C507F02F94585334D43FBAAEFD0,
   0xDB0B5EDE14B8EE4688902A22DC4F816073195D643D7EA7C41744975FEC130CCD,
   0x08AE7A65EAF4566CA94ED58D6D37C8E779E4959162ACD3C25C2406490A3A32E0,
   0x9E1DC186B95735610EF6034866B53E708A8BBD4B1F74DDE8C6B4A61C2E2578BA,
   0x16BB54B00F2D99416842E6BF0D89A18CDF2855CEE9871E9B948ED9691198F8E1]

/-- The S-box (FIPS 197). -/
def sbox (a : Nat) : Nat := (nth sboxRows 0 (a / 32)) >>> (8 * (a % 32)) % 256

/-- The words of the key schedule of a key of nk words after those, newest first; i is the number of the next word. -/
def keyWords (nk : Nat) : Nat → Nat → Nat → List (List Nat) → List (List Nat)
  | 0, _, _, w => w
  | n + 1, i, rc, w =>
    let last := nth w [] 0
    let old := nth w [] (nk - 1)
    let t := if i % nk = 0 then
        let r := ((last.drop 1) ++ (last.take 1)).map sbox
        match r with
        | x :: y => (x ^^^ rc) :: y
        | [] => []
      else if 6 < nk ∧ i % nk = 4 then last.map sbox else last
    keyWords nk n (i + 1) (if i % nk = 0 then xtime rc else rc) (List.zipWith (fun a b => a ^^^ b) old t :: w)

/-- A list of bytes in words of four. -/
def quads : List Nat → List (List Nat)
  | a :: b :: c :: d :: t => [a, b, c, d] :: quads t
  | _ => []

/-- The round keys of a key of nk words, 16 bytes each. -/
def roundKeys (nk : Nat) (key : List Nat) : List (List Nat) :=
  let w := (keyWords nk (3 * nk + 28) nk 1 (quads key).reverse).reverse
  (List.range (nk + 7)).map (fun r => ((w.drop (4 * r)).take 4).flatten)

/-- The columns of the state after ShiftRows. -/
def shiftRows (s : List Nat) : List Nat :=
  (List.range 16).map (fun i => nth s 0 ((i + 4 * (i % 4)) % 16))

/-- MixColumns on one column. -/
def mixColumn (c : List Nat) : List Nat :=
  match c with
  | [a, b, c, d] =>
    let m2 (x : Nat) : Nat := xtime x
    let m3 (x : Nat) : Nat := xtime x ^^^ x
    [m2 a ^^^ m3 b ^^^ c ^^^ d, a ^^^ m2 b ^^^ m3 c ^^^ d, a ^^^ b ^^^ m2 c ^^^ m3 d, m3 a ^^^ b ^^^ c ^^^ m2 d]
  | _ => c

/-- The rounds after the first key addition; the last one has no MixColumns. -/
def aesRounds : List (List Nat) → List Nat → List Nat
  | [], s => s
  | [k], s => List.zipWith (fun a b => a ^^^ b) (shiftRows (s.map sbox)) k
  | k :: ks, s =>
    aesRounds ks (List.zipWith (fun a b => a ^^^ b) (((quads (shiftRows (s.map sbox))).map mixColumn).flatten) k)

/-- AES of a block of 16 bytes under a key of nk words. -/
def aesBlock (nk : Nat) (key block : List Nat) : List Nat :=
  match roundKeys nk key with
  | [] => []
  | k :: ks => aesRounds ks (List.zipWith (fun a b => a ^^^ b) block k)

/-- AES-256 of a block of 16 bytes under a key of 32 bytes. -/
def aes256 (key block : List Nat) : List Nat := aesBlock 8 key block

/-- AES-128 in CBC mode (R169) over n whole blocks, from the block before. -/
def aes128Cbc (key : List Nat) : Nat → List Nat → List Nat → List Nat
  | 0, _, _ => []
  | n + 1, prev, m =>
    let c := aesBlock 4 key (List.zipWith (fun a b => a ^^^ b) (m.take 16) prev)
    c ++ aes128Cbc key n c (m.drop 16)

/-- F_j(x) of R151 under a token key. -/
def tokenF (key j x : Nat) : Nat := leNum ((aes256 (leBytes 32 key) (j % 256 :: leBytes 4 x ++ List.replicate 11 0)).take 4)

/-! ### AES-256-GCM (NIST SP 800-38D) -/

/-- The product of two blocks in the field of GHASH: Z, V, and the bits of the first still to use, most significant first. -/
def ghashMul (x : Nat) : Nat → Nat → Nat → Nat
  | 0, _, z => z
  | n + 1, v, z =>
    let z := if x.testBit n then z ^^^ v else z
    ghashMul x n (if v % 2 = 1 then v / 2 ^^^ 0xE1000000000000000000000000000000 else v / 2) z

/-- GHASH of whole blocks. -/
def ghash (h : Nat) : Nat → List Nat → Nat → Nat
  | 0, _, y => y
  | n + 1, m, y => ghash h n (m.drop 16) (ghashMul (y ^^^ beNum (m.take 16)) 128 h 0)

/-- A string padded with zeros to whole blocks. -/
def padBlocks (m : List Nat) : List Nat := m ++ List.replicate ((16 - m.length % 16) % 16) 0

/-- The counter-mode key stream from counter c on, n blocks. -/
def gcmStream (key nonce : List Nat) : Nat → Nat → List Nat
  | 0, _ => []
  | n + 1, c => aes256 key (nonce ++ beBytes 4 c) ++ gcmStream key nonce n (c + 1)

/-- The text under the key stream: encryption and decryption alike. -/
def gcmCrypt (key nonce m : List Nat) : List Nat :=
  List.zipWith (fun a b => a ^^^ b) m (gcmStream key nonce ((m.length + 15) / 16) 2)

/-- The tag of a ciphertext without further authenticated data. -/
def gcmTag (key nonce c : List Nat) : List Nat :=
  let h := beNum (aes256 key (List.replicate 16 0))
  let p := padBlocks c ++ beBytes 8 0 ++ beBytes 8 (8 * c.length)
  List.zipWith (fun a b => a ^^^ b) (beBytes 16 (ghash h (p.length / 16) p 0)) (aes256 key (nonce ++ beBytes 4 1))

/-- Open a ciphertext followed by its 16-byte tag: the plaintext, or none where the tag fails. -/
def gcmOpen (key : Nat) (nonce sealed_ : List Byte) : Option (List Nat) :=
  let k := leBytes 32 key
  let n := nonce.map (fun b => b.toNat)
  let m := sealed_.map (fun b => b.toNat)
  let c := m.take (m.length - 16)
  if gcmTag k n c = m.drop (m.length - 16) then some (gcmCrypt k n c) else none

/-- Seal a plaintext: the ciphertext and its tag. -/
def gcmSeal (key : Nat) (nonce : List Byte) (m : List Nat) : List Byte :=
  let k := leBytes 32 key
  let n := nonce.map (fun b => b.toNat)
  let c := gcmCrypt k n m
  (c ++ gcmTag k n c).map (BitVec.ofNat 8)

/-- Whether an update segment opens under a key and has its digest (R390, R393). -/
def segmentGood (key : Nat) (nonce sealed_ digest : List Byte) : Bool :=
  match gcmOpen key nonce sealed_ with
  | some p => sha256 p == digest.map (fun b => b.toNat)
  | none => false

end Sys2Proof.Machine
end

