-- ==== Sys2Proof/Machine/Curves.lean ====
section
/-! DEFINITION. The public-key operations of the key store (R4, R169, R384): ECDSA and ECDH on P-256, P-384 and P-521, X448, Ed448. A private
key is a number; public keys, shares and signatures are strings of bytes as their standards write them. -/
namespace Sys2Proof.Machine

/-- The inverse modulo a prime of at most w bits. -/
def invMod (p x w : Nat) : Nat :=
  ((List.range w).foldl (fun acc i => if (p - 2).testBit i then (acc.1 * acc.2 % p, acc.2 * acc.2 % p) else (acc.1, acc.2 * acc.2 % p))
    (1, x % p)).1

/-- The difference modulo p of two residues. -/
def subMod (p a b : Nat) : Nat := (a + p - b % p) % p

/-! ### The curves over prime fields (FIPS 186-5, SP 800-186) -/

/-- A curve y² = x³ − 3x + b over the field of p: its order n, base point, and the bytes of a coordinate. -/
structure Curve where
  p : Nat
  b : Nat
  n : Nat
  gx : Nat
  gy : Nat
  len : Nat
  deriving DecidableEq, Repr

def curveP256 : Curve :=
  { p := 2 ^ 256 - 2 ^ 224 + 2 ^ 192 + 2 ^ 96 - 1
    b := 0x5AC635D8AA3A93E7B3EBBD55769886BC651D06B0CC53B0F63BCE3C3E27D2604B
    n := orderP256
    gx := 0x6B17D1F2E12C4247F8BCE6E563A440F277037D812DEB33A0F4A13945D898C296
    gy := 0x4FE342E2FE1A7F9B8EE7EB4A7C0F9E162BCE33576B315ECECBB6406837BF51F5
    len := 32 }

def curveP384 : Curve :=
  { p := 2 ^ 384 - 2 ^ 128 - 2 ^ 96 + 2 ^ 32 - 1
    b := 0xB3312FA7E23EE7E4988E056BE3F82D19181D9C6EFE8141120314088F5013875AC656398D8A2ED19D2A85C8EDD3EC2AEF
    n := orderP384
    gx := 0xAA87CA22BE8B05378EB1C71EF320AD746E1D3B628BA79B9859F741E082542A385502F25DBF55296C3A545E3872760AB7
    gy := 0x3617DE4A96262C6F5D9E98BF9292DC29F8F41DBD289A147CE9DA3113B5F0B8C00A60B1CE1D7E819D7A431D7C90EA0E5F
    len := 48 }

def curveP521 : Curve :=
  { p := 2 ^ 521 - 1
    b := 0x0051953EB9618E1C9A1F929A21A0B68540EEA2DA725B99B315F3B8B489918EF109E156193951EC7E937B1652C0BD3BB1BF073573DF883D2C34F1EF451FD46B503F00
    n := (2 ^ 261 - 1) * 2 ^ 260 + 0xA51868783BF2F966B7FCC0148F709A5D03BB5C9B8899C47AEBB6FB71E91386409
    gx := 0x00C6858E06B70404E9CD9E3ECB662395B4429C648139053FB521F828AF606B4D3DBAA14B5E77EFE75928FE1DC127A2FFA8DE3348B3C1856A429BF97E7E31C2E5BD66
    gy := 0x011839296A789A3BC0045C8A5FB42C7D1BD998F54449579B446817AFBD17273E662C97EE72995EF42640C550B9013FAD0761353C7086A272C24088BE94769FD16650
    len := 66 }

/-- A point in Jacobian coordinates; Z = 0 is the point at infinity. -/
structure Point where
  x : Nat
  y : Nat
  z : Nat
  deriving DecidableEq, Repr

def Curve.zero (_ : Curve) : Point := { x := 1, y := 1, z := 0 }

/-- The double of a point. -/
def Curve.double (c : Curve) (q : Point) : Point :=
  let p := c.p
  let zz := q.z * q.z % p
  let yy := q.y * q.y % p
  let s := 4 * q.x * yy % p
  let m := 3 * subMod p q.x zz * (q.x + zz) % p
  let x := subMod p (m * m % p) (2 * s)
  { x := x, y := subMod p (m * subMod p s x % p) (8 * yy * yy), z := 2 * q.y * q.z % p }

/-- The sum of two points. -/
def Curve.add (c : Curve) (q r : Point) : Point :=
  let p := c.p
  if q.z = 0 then r
  else if r.z = 0 then q
  else
    let zq := q.z * q.z % p
    let zr := r.z * r.z % p
    let u := q.x * zr % p
    let v := q.y * zr * r.z % p
    let h := subMod p (r.x * zq % p) u
    let d := subMod p (r.y * zq * q.z % p) v
    if h = 0 then (if d = 0 then c.double q else c.zero)
    else
      let hh := h * h % p
      let hhh := hh * h % p
      let x := subMod p (d * d % p) (hhh + 2 * u * hh)
      { x := x, y := subMod p (d * subMod p (u * hh % p) x % p) (v * hhh), z := h * q.z * r.z % p }

/-- k times a point, over the low bits of k from the highest on. -/
def Curve.mul (c : Curve) (k : Nat) (q : Point) : Nat → Point → Point
  | 0, acc => acc
  | i + 1, acc =>
    let d := c.double acc
    Curve.mul c k q i (if k.testBit i then c.add d q else d)

def Curve.times (c : Curve) (k : Nat) (q : Point) : Point := c.mul k q (8 * c.len) c.zero

/-- The affine coordinates of a point. -/
def Curve.affine (c : Curve) (q : Point) : Nat × Nat :=
  let i := invMod c.p q.z (8 * c.len)
  let ii := i * i % c.p
  (q.x * ii % c.p, q.y * ii * i % c.p)

def Curve.base (c : Curve) : Point := { x := c.gx, y := c.gy, z := 1 }

/-- A private key from a drawn or derived value: 1 to n − 1, itself where it lies there. -/
def Curve.scalar (c : Curve) (v : Nat) : Nat := (v - 1) % (c.n - 1) + 1

/-- A public key as its two coordinates. -/
def Curve.pubBytes (c : Curve) (v : Nat) : List Nat :=
  let a := c.affine (c.times (c.scalar v) c.base)
  beBytes c.len a.1 ++ beBytes c.len a.2

/-- The point that two coordinates name, where it lies on the curve (SP 800-56A). -/
def Curve.point (c : Curve) (m : List Nat) : Option Point :=
  let x := beNum (m.take c.len)
  let y := beNum ((m.drop c.len).take c.len)
  if x < c.p ∧ y < c.p ∧ (y * y + 3 * x) % c.p = (x * x * x + c.b) % c.p then some { x := x, y := y, z := 1 } else none

/-- The shared secret of ECDH (SP 800-56A): the x coordinate; none for a key that is no point of the curve. -/
def Curve.ecdh (c : Curve) (v : Nat) (pub : List Nat) : Option (List Nat) :=
  (c.point pub).map (fun q => beBytes c.len (c.affine (c.times (c.scalar v) q)).1)

/-- An ECDSA signature of a hash value (FIPS 186-5) with a nonce: r and s. A hash longer than the order is cut to its bits. -/
def Curve.sign (c : Curve) (v nonce : Nat) (hash : List Nat) : List Nat :=
  let d := c.scalar v
  let k := c.scalar nonce
  let r := (c.affine (c.times k c.base)).1 % c.n
  let s := invMod c.n k (8 * c.len) * (beNum (hash.take c.len) + r * d) % c.n
  beBytes c.len r ++ beBytes c.len s

/-- Whether an ECDSA signature of a hash value is valid under a public key. -/
def Curve.verify (c : Curve) (pub hash sig : List Nat) : Bool :=
  let r := beNum (sig.take c.len)
  let s := beNum ((sig.drop c.len).take c.len)
  match c.point pub with
  | none => false
  | some q =>
    let w := invMod c.n s (8 * c.len)
    let a := c.times (beNum (hash.take c.len) * w % c.n) c.base
    let x := c.add a (c.times (r * w % c.n) q)
    decide (0 < r) && decide (r < c.n) && decide (0 < s) && decide (s < c.n) && x.z != 0 && (c.affine x).1 % c.n == r

/-! ### X448 (RFC 7748) -/

def p448 : Nat := 2 ^ 448 - 2 ^ 224 - 1

/-- One step of the ladder for u on the pair of points (x2 : z2), (x3 : z3). -/
def ladderStep (u : Nat) (q : Nat × Nat × Nat × Nat) : Nat × Nat × Nat × Nat :=
  let p := p448
  let a := q.1 + q.2.1
  let b := subMod p q.1 q.2.1
  let aa := a * a % p
  let bb := b * b % p
  let e := subMod p aa bb
  let da := subMod p q.2.2.1 q.2.2.2 * a % p
  let cb := (q.2.2.1 + q.2.2.2) * b % p
  let f := subMod p da cb
  (aa * bb % p, e * (aa + 39081 * e) % p, (da + cb) * (da + cb) % p, u * (f * f % p) % p)

/-- The ladder over the bits of k from the highest on. -/
def ladder (k u : Nat) : Nat → Nat × Nat × Nat × Nat → Nat × Nat × Nat × Nat
  | 0, q => q
  | i + 1, q =>
    let swap (x : Nat × Nat × Nat × Nat) : Nat × Nat × Nat × Nat := (x.2.2.1, x.2.2.2, x.1, x.2.1)
    ladder k u i (if k.testBit i then swap (ladderStep u (swap q)) else ladderStep u q)

/-- X448 of a private value and a share of 56 bytes. -/
def x448 (v : Nat) (share : List Nat) : List Nat :=
  let m := v % 2 ^ 448
  let k := m - m % 4 + (if m.testBit 447 then 0 else 2 ^ 447)
  let u := leNum (share.take 56) % p448
  let q := ladder k u 448 (1, 0, u, 1)
  leBytes 56 (q.1 * invMod p448 q.2.1 448 % p448)

/-- The share of a private value: X448 of the base point. -/
def x448Share (v : Nat) : List Nat := x448 v (leBytes 56 5)

/-! ### SHAKE256 (FIPS 202) -/

/-- A lane of 64 bits rotated left. -/
def rol64 (x n : Nat) : Nat := (x <<< (n % 64) ||| x >>> (64 - n % 64)) % 2 ^ 64

/-- One step of the LFSR of the round constants. -/
def keccakLfsr (r : Nat) : Nat := if 128 ≤ r then (2 * r) % 256 ^^^ 0x71 else 2 * r

/-- The state of the LFSR after n steps. -/
def lfsrAt : Nat → Nat
  | 0 => 1
  | n + 1 => keccakLfsr (lfsrAt n)

/-- The constant of a round: bit 2^j − 1 from step 7 i + j. -/
def keccakConst (i : Nat) : Nat := (List.range 7).foldl (fun acc j => if (lfsrAt (7 * i + j)).testBit 0 then acc + 2 ^ (2 ^ j - 1) else acc) 0

/-- ρ and π along the path of the lanes: the lane at (x, y) goes, rotated by the t-th triangular number, to (y, 2x + 3y). -/
def keccakPath (a : List Nat) : Nat → Nat → Nat → Nat → List Nat → List Nat
  | 0, _, _, _, out => out
  | n + 1, t, x, y, out =>
    let y2 := (2 * x + 3 * y) % 5
    keccakPath a n (t + 1) y y2 (upd out (y + 5 * y2) (fun _ => rol64 (nth a 0 (x + 5 * y)) ((t + 1) * (t + 2) / 2)))

/-- A round on the 25 lanes. -/
def keccakRound (a : List Nat) (i : Nat) : List Nat :=
  let c := (List.range 5).map (fun x => (List.range 5).foldl (fun acc y => acc ^^^ nth a 0 (x + 5 * y)) 0)
  let d (x : Nat) : Nat := nth c 0 ((x + 4) % 5) ^^^ rol64 (nth c 0 ((x + 1) % 5)) 1
  let b := (List.range 25).map (fun k => nth a 0 k ^^^ d (k % 5))
  let e := keccakPath b 24 0 1 0 b
  let f := (List.range 25).map (fun k =>
    let x := k % 5
    let row := k - x
    nth e 0 k ^^^ ((2 ^ 64 - 1 - nth e 0 (row + (x + 1) % 5)) &&& nth e 0 (row + (x + 2) % 5)))
  upd f 0 (fun v => v ^^^ keccakConst i)

def keccak (a : List Nat) : List Nat := (List.range 24).foldl keccakRound a

/-- Absorb whole blocks of 136 bytes. -/
def absorb : Nat → List Nat → List Nat → List Nat
  | 0, _, a => a
  | n + 1, m, a => absorb n (m.drop 136) (keccak ((List.range 25).map (fun k => nth a 0 k ^^^ (if k < 17 then leNum ((m.drop (8 * k)).take 8) else 0))))

/-- SHAKE256 of a string of bytes, the first n ≤ 136 bytes. -/
def shake256 (n : Nat) (m : List Nat) : List Nat :=
  let z := 135 - m.length % 136
  let p := if z = 0 then m ++ [0x9F] else m ++ [0x1F] ++ List.replicate (z - 1) 0 ++ [0x80]
  (((absorb (p.length / 136) p (List.replicate 25 0)).take 17).flatMap (leBytes 8)).take n

/-! ### Ed448 (RFC 8032) -/

/-- The order of the base point, and the base point, in projective coordinates. -/
def orderEd448 : Nat := 2 ^ 446 - 13818066809895115352007386748515426880336692474882178609894547503885
def baseEd448 : Point :=
  { x := 224580040295924300187604334099896036246789641632564134246125461686950415467406032909029192869357953282578032075146446173674602635247710
    y := 298819210078481492676017930443930673437544040154080242095928241372331506189835876003536878655418784733982303233503462500531545062832660
    z := 1 }

/-- The sum of two points of the curve x² + y² = 1 − 39081 x² y², in projective coordinates. -/
def edAdd (q r : Point) : Point :=
  let p := p448
  let a := q.z * r.z % p
  let b := a * a % p
  let c := q.x * r.x % p
  let d := q.y * r.y % p
  let e := subMod p 0 (39081 * c * d)
  let f := subMod p b e
  let g := (b + e) % p
  let h := (q.x + q.y) * (r.x + r.y) % p
  { x := a * f * subMod p h (c + d) % p, y := a * g * subMod p d c % p, z := f * g % p }

/-- k times a point, over the bits of k from the highest on. -/
def edMul (k : Nat) (q : Point) : Nat → Point → Point
  | 0, acc => acc
  | i + 1, acc =>
    let d := edAdd acc acc
    edMul k q i (if k.testBit i then edAdd d q else d)

/-- The 57 bytes of a point: y, and the parity of x in the last bit. -/
def edBytes (q : Point) : List Nat :=
  let i := invMod p448 q.z 448
  leBytes 56 (q.y * i % p448) ++ [q.x * i % p448 % 2 * 128]

/-- The secret scalar and the prefix of a private value of 57 bytes. -/
def edSecret (v : Nat) : Nat × List Nat :=
  let h := shake256 114 (leBytes 57 v)
  let s := leNum (h.take 56)
  (s % 2 ^ 447 - s % 4 + 2 ^ 447, h.drop 57)

def edTimes (k : Nat) : Point := edMul (k % orderEd448) baseEd448 448 { x := 0, y := 1, z := 1 }

/-- The public key of a private value. -/
def ed448Pub (v : Nat) : List Nat := edBytes (edTimes (edSecret v).1)

/-- SHAKE256 under the domain separator of Ed448 with an empty context, as a scalar. -/
def edHash (m : List Nat) : Nat := leNum (shake256 114 ("SigEd448".toList.map Char.toNat ++ [0, 0] ++ m)) % orderEd448

/-- The Ed448 signature of a message. -/
def ed448Sign (v : Nat) (m : List Nat) : List Nat :=
  let s := edSecret v
  let r := edHash (s.2 ++ m)
  let R := edBytes (edTimes r)
  let k := edHash (R ++ ed448Pub v ++ m)
  R ++ leBytes 57 ((r + k * s.1) % orderEd448)

/-! ### Strings of bytes -/

def toBytes (l : List Nat) : List Byte := l.map (BitVec.ofNat 8)
def fromBytes (l : List Byte) : List Nat := l.map (fun b => b.toNat)

/-- Whether 96 bytes are a valid ECDSA signature on P-384 with SHA-384 under a public key (R34, R389). -/
def signed384 (key : List Nat) (m sig : List Byte) : Bool := curveP384.verify key (sha384 (fromBytes m)) (fromBytes sig)

end Sys2Proof.Machine
end

