-- ==== Sys2Proof/Machine/Faults.lean ====
section
/-! DEFINITION. The fault log of 22_faults.md: the order of a beat's entries, writing them to the ring, the entry's
bytes, the counts, and the read of an entry. -/
namespace Sys2Proof.Machine

/-- Whether entry x is written before entry y: falling class, rising code, rising PARAM0 (R426). -/
def FaultEntry.before (x y : FaultEntry) : Bool :=
  if x.cls ≠ y.cls then decide (y.cls < x.cls)
  else if x.code ≠ y.code then decide (x.code < y.code)
  else decide (x.p0 ≤ y.p0)

/-- Insert an entry in the order of R426, after equals. -/
def insertEntry (x : FaultEntry) : List FaultEntry → List FaultEntry
  | [] => [x]
  | y :: t => if y.before x then y :: insertEntry x t else x :: y :: t

/-- The entries of a beat in the order of R426. -/
def sortEntries : List FaultEntry → List FaultEntry
  | l => l.foldl (fun acc x => insertEntry x acc) []

/-- The count of FLT.COUNT for a class (R421, R422). -/
def fltCountField (cls : Nat) : Fld :=
  if cls = 0 then FLT_COUNT_NOTE else if cls = 1 then FLT_COUNT_DEGRADE
  else if cls = 2 then FLT_COUNT_OUTLET_STOP else FLT_COUNT_SAFE_HOLD

/-- Write one entry: the next SEQ, the oldest overwritten when the ring is full (R424, R426). SETTING entries have no
count in FLT.COUNT. -/
def writeEntry (e : FaultEntry) (s : State) : State :=
  let seq := s.rdN A_FLT_HEAD + 1
  let full := decide (s.flt.ring.length ≥ 4096)
  let lost := full && decide (s.rdN A_FLT_ACK < (match s.flt.ring.getLast? with | some o => o.seq | none => 0))
  let t := { s with flt := { s.flt with ring := { e with seq := seq } :: s.flt.ring.take 4095 } }
  let t := t.wrN A_FLT_HEAD seq
  let t := when lost (fun u => u.inc FLT_STATUS_OVERRUN) t
  let t := when (decide (e.cls ≤ 3)) (fun u => u.inc (fltCountField e.cls)) t
  t.putSat FLT_STATUS_UNREAD (min 4096 (seq - s.rdN A_FLT_ACK))

/-- The owner writes the beat's entries, those kept by the Case die first (R424, R425). -/
def writeLog (s : State) : State :=
  let es := s.flt.aon ++ sortEntries s.flt.waiting
  forEach es writeEntry { s with flt := { s.flt with waiting := [], aon := [] } }

/-- No lane runs: the Case die keeps up to 16 entries for the next start (R425). -/
def keepLog (s : State) : State :=
  let es := s.flt.aon ++ s.flt.waiting
  { s with flt := { s.flt with waiting := [], aon := es.take 16 } }

/-- At the next start the kept entries are written with DEFERRED set, with BEAT, MONO and WALL of that start, in the
order in which they were raised (R423, R425). -/
def deferredLog (s : State) : State :=
  let es := s.flt.aon.map (fun e =>
    { e with deferred := true, beat := s.now, mono := s.faultMono, wall := s.faultWall })
  forEach es writeEntry { s with flt := { s.flt with aon := [] } }

/-- Raise a fault that its chapter logs at the next start, with DEFERRED set (R425). -/
def State.raiseDeferred (s : State) (code cls src p0 p1 : Nat) : State :=
  let e : FaultEntry :=
    { beat := s.now, code := code, mono := s.faultMono, wall := s.faultWall, seq := 0, source := src, cls := cls,
      deferred := true, suppressed := false, p0 := p0 % 2 ^ 16, p1 := p1 % 2 ^ 32 }
  { s with flt := { s.flt with waiting := s.flt.waiting ++ [e] } }

/-- The FLAGS byte of an entry (R423). -/
def FaultEntry.flags (e : FaultEntry) : Nat :=
  e.cls + (if e.deferred then 8 else 0) + (if e.suppressed then 16 else 0)

/-- The 32 bytes of an entry (R423). -/
def FaultEntry.bytes (e : FaultEntry) : List Byte :=
  le 6 e.beat ++ le 2 e.code ++ le 8 e.mono ++ le 4 e.wall ++ le 4 e.seq ++ le 1 e.source ++ le 1 e.flags ++
    le 2 e.p0 ++ le 4 e.p1

/-- The held entry with a SEQ, or none (R427). -/
def State.faultEntry (s : State) (seq : Nat) : Option FaultEntry :=
  if seq = 0 then none else s.flt.ring.find? (fun e => e.seq == seq)

/-- Word w of the entry that FLT.SEL names; zeros when it is no longer held (R427). -/
def State.faultWord (s : State) (w : Nat) : Word :=
  match s.faultEntry (s.rdN A_FLT_SEL) with
  | some e => BitVec.ofNat 32 (ofLe ((e.bytes.drop (4 * w)).take 4))
  | none => 0#32

/-- FLT.STATUS.SEL_VALID follows FLT.SEL and the ring (R427). -/
def State.selValid (s : State) : State :=
  s.putB FLT_STATUS_SEL_VALID (s.faultEntry (s.rdN A_FLT_SEL)).isSome

/-- A write of FLT.ACK: a value above FLT.HEAD is taken as FLT.HEAD (R427). -/
def State.ackFaults (s : State) (v : Nat) : State :=
  let h := s.rdN A_FLT_HEAD
  let a := min v h
  (s.wrN A_FLT_ACK a).putSat FLT_STATUS_UNREAD (min 4096 (h - a))

/-- A write of FLT.SEL (R427). -/
def State.selFault (s : State) (v : Nat) : State := (s.wrN A_FLT_SEL v).selValid

end Sys2Proof.Machine
end

