-- ==== Sys2Proof/Machine/Ageing.lean ====
section
/-! DEFINITION. What 20_wear.md counts while other units work: contactor openings and thermal cycles (R400, R405), the clock step of
a lane and its display (R402). -/
namespace Sys2Proof.Machine

def State.updWear (s : State) (f : WearSt → WearSt) : State := { s with wear := f s.wear }

/-- The hottest value of the hour of a sensor (R400): 0 Lane A, 1 Lane B, 2 Case, 3 Dial, in 0.1 °C. -/
def State.wearTemp (s : State) (k : Nat) (t : Int) : State :=
  s.updWear (fun w => { w with tmax := upd w.tmax k (fun o => match o with | some v => some (max v t) | none => some t) })

/-- An opening of an outlet's contactors took some ms (R190, R405): 0xC006 once, when the mean of the last 64 openings reaches
80 % of T_OPEN_MAX. -/
def State.wearOpen (s : State) (n ms : Nat) : State :=
  let l := (ms :: nth s.wear.openMs [] n).take 64
  let t := s.updWear (fun w => { w with opens := w.opens + 1, openMs := upd w.openMs n (fun _ => l) })
  if l.length = 64 ∧ 80 * 64 * s.get (OUT_PROT_CFG_T_OPEN_MAX n) ≤ 100 * l.foldl (· + ·) 0 ∧ !s.wear.onceOut.testBit n then
    let t := t.updWear (fun w => { w with onceOut := natBit w.onceOut n true })
    (t.set1 WEAR_EVENTS_PART_WEAR).raise 0xC006 NOTE t.srcOwner n 0
  else t

/-- A thermal cycle of a load channel has been counted (R405): 0xC007 once, at 80 % of LC_RATING. -/
def State.wearCycle (s : State) (k : Nat) : State :=
  let t := s.updWear (fun w => { w with cycles := w.cycles + 1 })
  if 800 * s.get WEAR_THRESH_LC_RATING ≤ s.get (LCH_COUNT_CYCLES k) ∧ !s.wear.onceLc.testBit k then
    let t := t.updWear (fun w => { w with onceLc := natBit w.onceLc k true })
    (t.set1 WEAR_EVENTS_PART_WEAR).raise 0xC007 NOTE t.srcOwner k 0
  else t

/-- The clock step in force of a lane. -/
def State.laneStep (s : State) (lane : Nat) : Nat := if lane = 0 then s.esc.stepA else s.esc.stepB

/-- ESC.BEAT_CFG.STEP and CLK.LANE. -/
def State.showStep (s : State) : State :=
  ((s.put ESC_BEAT_CFG_STEP (s.laneStep s.owner)).put CLK_LANE_LA_DIV s.esc.stepA).put CLK_LANE_LB_DIV s.esc.stepB

/-- The clock period at a step in 0.1 ps (R401). -/
def period (step : Nat) : Int := if step = 0 then 8333 else if step = 1 then 9091 else 10000

/-- A slack in ps at one step, converted to another, in 0.1 ps (R401). -/
def convertSlack (s : Int) (old new : Nat) : Int := 10 * s + period new - period old

/-- Set the clock step in force of a lane. The worst slack of the hour so far is then that at the new step (R401). -/
def State.setStep (s : State) (lane step : Nat) : State :=
  let s := s.updWear (fun w => { w with
    worst := upd w.worst lane (fun o => o.map (fun v => convertSlack v (s.laneStep lane) step / 10)) })
  State.showStep { s with esc := { s.esc with
    stepA := if lane = 0 then step else s.esc.stepA
    stepB := if lane = 1 then step else s.esc.stepB } }

/-- A lane's divider switches to the next step, and 4 000 beats of cross-check begin (R402 steps 2 and 3). -/
def State.applyStep (s : State) (lane : Nat) : State :=
  (s.setStep lane (s.laneStep lane + 1)).updWear (fun w => { w with check := some (lane, s.now) })

/-- A lane is reset: it comes back at the step stored for it (R402). -/
def State.storedStep (s : State) (lane : Nat) : State :=
  let t := if (match s.wear.check with | some c => c.1 == lane | none => false) then
    s.updWear (fun w => { w with check := none }) else s
  t.setStep lane (s.get (WEAR_LANE_STEP lane))

end Sys2Proof.Machine
end

