-- ==== Sys2Proof/Machine/LegalLog.lean ====
section
/-! DEFINITION. The legal event log (R147) and class A tamper occurrences (R148) of 06_legal.md. -/
namespace Sys2Proof.Machine

/-- Append an entry to the legal event log; an unacknowledged entry overwritten raises 0x4019 (R147). -/
def State.legalLog (s : State) (type subject param : Nat) : State :=
  let seq := (s.rdN A_LGL_LOG_HEAD + 1) % 2 ^ 32
  let e : LegalEntry :=
    { seq := seq, type := type, subject := subject, mono := s.mono,
      wall := if s.isSet LGL_CHRONO_WALL_VALID then s.wall else 0, param := param }
  let lost := decide (s.lgl.log.length ≥ 1024) &&
    decide (s.rdN A_LGL_LOG_ACK < (match s.lgl.log.getLast? with | some o => o.seq | none => 0))
  let t := { s with lgl := { s.lgl with log := e :: s.lgl.log.take 1023 } }
  let t := t.wrN A_LGL_LOG_HEAD seq
  when lost (fun u => u.raise 0x4019 NOTE u.srcOwner 0 0) t

/-- A class A occurrence of a kind with its own MONO and WALL (R148, R149). -/
def State.tamperAt (s : State) (kind mono wall : Nat) : State :=
  let stamp := mono % 2 ^ 64 + (wall % 2 ^ 64) * 2 ^ 64
  let first := decide (s.rdN (A_LGL_TA_CNT kind) = 0)
  let t := s.wrN (A_LGL_TA_CNT kind) (min (s.rdN (A_LGL_TA_CNT kind) + 1) 0xFFFFFFFF)
  let t := when first (fun u => u.wr128 (A_LGL_TA_FIRST kind) stamp) t
  let t := t.wr128 (A_LGL_TA_LAST kind) stamp
  let t := t.raise 0x4015 NOTE t.srcOwner kind 0
  (t.putBit LGL_TAMPER_NEW_TA kind true).legalLog 0x11 kind kind

/-- A class A occurrence of a kind now (R148). -/
def State.tamperA (s : State) (kind : Nat) : State :=
  s.tamperAt kind s.mono (if s.isSet LGL_CHRONO_WALL_VALID then s.wall else 0)

end Sys2Proof.Machine
end

