-- ==== Sys2Proof/Machine/Operands.lean ====
section
/-! DEFINITION. The operand forms and codes the meanings share: CRC-16 (R336, R152, R181), CRC-32 of IEEE 802.3
(R34, R178, R230), and integer arithmetic with the roundings the spec names. -/
namespace Sys2Proof.Machine

/-- One bit of the CRC-16 with polynomial 0x1021. -/
def crc16Bit (c : Nat) : Nat :=
  if c.testBit 15 then (2 * c % 2 ^ 16) ^^^ 0x1021 else 2 * c % 2 ^ 16

/-- Apply a step a number of times. -/
def iter {α : Type} (n : Nat) (f : α → α) (x : α) : α :=
  match n with
  | 0 => x
  | k + 1 => iter k f (f x)

/-- One byte of the CRC-16. -/
def crc16Byte (c : Nat) (b : Byte) : Nat := iter 8 crc16Bit (c ^^^ (b.toNat * 256))

/-- CRC-16: polynomial 0x1021, initial value 0xFFFF, no final inversion (R336). -/
def crc16 (bs : List Byte) : Nat := bs.foldl crc16Byte 0xFFFF

/-- One bit of the reflected CRC-32. -/
def crc32Bit (c : Nat) : Nat := if c % 2 = 1 then (c / 2) ^^^ 0xEDB88320 else c / 2

/-- One byte of the CRC-32. -/
def crc32Byte (c : Nat) (b : Byte) : Nat := iter 8 crc32Bit (c ^^^ b.toNat)

/-- CRC-32 (IEEE 802.3). -/
def crc32 (bs : List Byte) : Nat := (bs.foldl crc32Byte 0xFFFFFFFF) ^^^ 0xFFFFFFFF

/-- Division rounded to the nearest integer, halves to even. -/
def roundEven (n d : Int) : Int :=
  let q := n / d
  let r := n % d
  if 2 * r < d then q else if 2 * r > d then q + 1 else if q % 2 = 0 then q else q + 1

/-- The integer square root. -/
def isqrtGo : Nat → Nat → Nat → Nat
  | 0, _, r => r
  | k + 1, n, r =>
    let b := r + 2 ^ k
    isqrtGo k n (if b * b ≤ n then b else r)

/-- The integer square root of a number below 2^256, rounded down. -/
def isqrt (n : Nat) : Nat := isqrtGo 128 n 0

/-- The larger of a list of numbers, 0 for none. -/
def maxN (l : List Nat) : Nat := l.foldl max 0

/-- The sum of a list of integers. -/
def sumI (l : List Int) : Int := l.foldl (· + ·) 0

/-- The sum of a list of numbers. -/
def sumN (l : List Nat) : Nat := l.foldl (· + ·) 0

end Sys2Proof.Machine
end

