-- ==== Sys2Proof/Machine/Jewels.lean ====
section
/-! DEFINITION. The jewels of 18_keys.md (R373 to R379): their attributes, what a store holds, and whether it performs an
operation. -/
namespace Sys2Proof.Machine

def State.updKey (s : State) (f : KeySt → KeySt) : State := { s with key := f s.key }

/-- Masters of R26 by name: the lanes' application and legal cores, the legal cores, the application cores. -/
def mkLanes : Nat := 0x36
def mkLegal : Nat := 0x24
def mkApp : Nat := 0x12
/-- Worlds: LEGAL, OPERATOR, SERVICE. -/
def wLegal : Nat := 1
def wOp : Nat := 2
def wOpSvc : Nat := 6
/-- Life-cycle states 1 to 3, and 1 to 2. -/
def lc13 : Nat := 0xE
def lc12 : Nat := 0x6

/-- Operations of R378 by bit. -/
def opDERIVE : Nat := 0
def opHMAC : Nat := 1
def opRESPOND : Nat := 2
def opCHECK : Nat := 3
def opAES_ENC : Nat := 4
def opAES_DEC : Nat := 5
def opSIGN : Nat := 6
def opVERIFY : Nat := 7
def opECDH : Nat := 8
def opCOMPARE : Nat := 9
def opUNWRAP : Nat := 10
def opEXPORT : Nat := 11

/-- Types of KEY.JW_ATTR1. -/
def tySECRET : Nat := 1
def tyP256 : Nat := 2
def tyP384 : Nat := 3
def tyP521 : Nat := 4
def tyX448 : Nat := 5
def tyEd448 : Nat := 6
def tyP384PUB : Nat := 7
def tyHMAC : Nat := 8

/-- The public key of a jewel by type and value (KEY_PUBLIC, R382): of the curves over prime fields the two coordinates, of X448 the
share, of Ed448 the encoded point, of an imported public key itself. -/
def publicKey (ty v : Nat) : List Byte :=
  toBytes (if ty = tyP256 then curveP256.pubBytes v else if ty = tyP384 then curveP384.pubBytes v
    else if ty = tyP521 then curveP521.pubBytes v else if ty = tyX448 then x448Share v
    else if ty = tyEd448 then ed448Pub v else leBytes 96 v)

/-- A derived secret of the table of R379. -/
def derived (masters worlds lc ops parent depth typ : Nat) : JAttr :=
  { masters := masters, worlds := worlds, lc := lc, ops := ops, typ := typ, origin := 1, parent := parent, depth := depth }

/-- The type of an ephemeral jewel by the key exchange of its handshake (R168, R379). -/
def groupType (g : TlsGroup) : Nat :=
  match g with
  | .secp256r1 => tyP256
  | .secp521r1 => tyP521
  | .x448 => tyX448

/-- Bytes of a value of a type as it is wrapped (R382, R383; log entry 7). -/
def valueLen (typ : Nat) : Nat :=
  if typ = tyP384 then 48 else if typ = tyP521 then 66 else if typ = tyX448 then 56 else if typ = tyEd448 then 57
  else if typ = tyP384PUB then 96 else 32

/-- The attributes of a jewel (R379): a user jewel's as the OPERATOR section sets them, never LEGAL, within life-cycle states 1 and 2. -/
def State.jattr (s : State) (j : Nat) : JAttr :=
  if j = 0 then { masters := mkLanes, worlds := 3, lc := lc13, ops := 1, typ := tySECRET, origin := 0 }
  else if j = 1 then derived mkLanes wOp lc13 0x30 0 1 tySECRET
  else if j = 2 then derived mkLegal wLegal lc13 1 0 1 tySECRET
  else if j = 3 then derived mkLegal wLegal lc13 0x40 2 2 tyP256
  else if j = 4 then derived mkLanes wOp lc13 0x20 0 1 tySECRET
  else if j = 5 then derived (mkLanes + 0x1000) wOp lc12 0x20 0 1 tySECRET
  else if j = 6 then derived (mkLanes + 0x1000) wOp lc13 0x30 0 1 tySECRET
  else if j = 7 then derived mkLanes wOpSvc lc12 0x500 0 1 tyP384
  else if j = 8 then { masters := mkLanes, worlds := wOpSvc, lc := lc12, ops := 1, typ := tySECRET, origin := 2 }
  else if j = 9 then { masters := mkLanes, worlds := wOpSvc, lc := lc12, ops := 0x80, typ := tyP384PUB, origin := 2 }
  else if j = 10 then derived 0xC0 wOp lc13 8 8 1 tySECRET
  else if j = 11 then derived (mkLanes + 0x800) wOp lc12 0xE 8 1 tySECRET
  else if j = 12 then { masters := mkLegal, worlds := wLegal, lc := lc12, ops := 1, typ := tySECRET, origin := 2 }
  else if j ≤ 28 then derived mkLegal wLegal lc12 0x10 12 1 tySECRET
  else if j = 29 then derived mkLanes wOpSvc lc12 2 0 1 tySECRET
  else if j = 30 then { masters := mkLanes, worlds := wOpSvc, lc := lc12, ops := 0x200, typ := tyHMAC }
  else if j = 31 then { masters := mkApp, worlds := wOp, lc := lc12, ops := 0x140, typ := tyP256 }
  else if j = 32 then { masters := mkApp, worlds := wOp, lc := lc12, ops := 0x40, typ := tyP521 }
  else if j ≤ 44 then
    { masters := mkApp, worlds := wOp, lc := lc12, ops := 0x100
      typ := match (nth s.outs.o {} (j - 33)).link.tls with | some c => groupType c.group | none => 0 }
  else if j ≤ 60 then
    let u := nth s.key.user {} (j - 45)
    { u with worlds := u.worlds &&& wOpSvc, lc := u.lc &&& lc12 }
  else {}

/-- The value a jewel holds. -/
def State.jewel (s : State) (j : Nat) : Option Nat := nth s.key.loaded none j
def State.jewelVal (s : State) (j : Nat) : Nat := (s.jewel j).getD 0

/-- KEY.STATUS.LOADED. -/
def State.showLoaded (s : State) : State :=
  s.putSat KEY_STATUS_LOADED ((s.key.loaded.filter (fun v => v.isSome)).length)

/-- Set what a jewel holds in the stores. -/
def State.setJewel (s : State) (j : Nat) (v : Option Nat) : State :=
  (s.updKey (fun k => { k with loaded := upd k.loaded j (fun _ => v) })).showLoaded

/-- The module serial as it enters a derivation (R374). -/
def State.serial64 (s : State) : Nat := s.glb.serial

/-- The LABEL of a derived jewel (R374, R379). -/
def jewelLabel (j : Nat) : List Nat :=
  let name : String :=
    if j = 1 then "WRAP" else if j = 2 then "LEGAL" else if j = 3 then "SESSIGN" else if j = 4 then "CALIBRE"
    else if j = 5 then "UPDTRANSIT" else if j = 6 then "UPDSTORE" else if j = 7 then "IMPORT" else if j = 10 then "SERVICE"
    else if j = 11 then "CROWNTAG" else if j = 29 then "SAFETYPWD" else "GXK/TOKEN/ACC"
  kdfLabel (name.toList.map Char.toNat) (if 13 ≤ j ∧ j ≤ 28 then j - 13 else 0)

/-- The value of a derived jewel from its parent's (R374). -/
def State.deriveJewel (s : State) (parent j : Nat) : Nat := kdf parent (jewelLabel j) s.serial64 (s.jattr j).typ

/-- Count an operation performed on a jewel. -/
def State.jewelUsed (s : State) (j : Nat) : State :=
  s.updKey (fun k => { k with used := upd k.used j (fun n => min (n + 1) 0xFFFF) })

/-- Derive every jewel below a parent again, parents before children (R374, R382). -/
def State.deriveBelow (s : State) (root : Nat) : State :=
  forUpTo 64 (fun j u =>
    let a := u.jattr j
    if a.origin = 1 ∧ j ≠ 0 ∧ (a.parent = root ∨ (u.jattr a.parent).origin = 1 ∧ (u.jattr a.parent).parent = root) ∧
        (j < 45) then
      match u.jewel a.parent with
      | some v => (u.jewelUsed a.parent).setJewel j (some (u.deriveJewel v j))
      | none => u.setJewel j none
    else u) s

/-- Step 4 of start-up (R373): derived jewels are derived again, MRAM jewels unwrapped under J_1; one whose tag fails stays empty. -/
def State.loadJewels (s : State) (corrupt : List Nat) : State :=
  if s.glb.lifecycle = 0 ∨ s.glb.lifecycle = 4 then
    (s.updKey (fun k => { k with loaded := List.replicate 64 none })).showLoaded
  else
    let t := s.updKey (fun k => { k with
      loaded := (List.range 64).map (fun j =>
        if j = 0 then some Config.fusedRoot else if corrupt.contains j then none else nth k.mram none j) })
    let t := forEach (corrupt.filter (fun j => (nth s.key.mram none j).isSome)) (fun j u =>
      u.raise 0xB006 DEGRADE u.srcOwner j 0) t
    let t := (((t.deriveBelow 0).deriveBelow 8).deriveBelow 12).showLoaded
    forUpTo 64 (fun j u => when ((nth s.key.mram none j).isSome) (fun v => v.jewelUsed 1) u) t

/-- Whether the store performs an operation (R377): master, world (a bit), life-cycle state, operation, value held. -/
def State.jewelOk (s : State) (j op master world : Nat) : Bool :=
  let a := s.jattr j
  a.masters.testBit master && a.worlds.testBit world && a.lc.testBit s.glb.lifecycle && a.ops.testBit op && (s.jewel j).isSome

/-- A refusal counted without a fault (R381). -/
def State.jewelDenied (s : State) (j : Nat) : State :=
  s.updKey (fun k => { k with refused := upd k.refused j (fun n => min (n + 1) 0xFFFF) })

/-- A refusal of R377: counted, 0xB001 at most once per jewel per second. -/
def State.jewelRefused (s : State) (j : Nat) : State :=
  ((s.jewelDenied j).set1 KEY_EVENTS_REFUSED).raiseLimited (0xB00100 + j) secBeats 0xB001 NOTE s.srcOwner j 0

/-- An operation that a master asks of the store (R377): performed and counted, or refused. -/
def State.storeOp (s : State) (j op master world : Nat) : State :=
  if s.jewelOk j op master world then s.jewelUsed j else s.jewelRefused j

/-- The world of a port (R25) as a bit of WORLDS. -/
def State.portWorld (s : State) (port : Nat) : Nat := if s.inService port then 2 else 1

/-- The master that carries out a host command: the owner's application core. -/
def State.appMaster (s : State) : Nat := 3 * s.owner + 1

/-- Whether a safety password is set: its value lies in J_30's place in MRAM (R265). -/
def State.pwdSet (s : State) : Bool := (nth s.key.mram none 30).isSome

/-- DRBG_OK (R385). -/
def State.drbgOk (s : State) : Bool := s.isSet KEY_STATUS_DRBG_OK

end Sys2Proof.Machine
end

