-- ==== Sys2Proof/Machine/Sessions.lean ====
section
/-! DEFINITION. What the outlet chapters share (07_outlets.md, 08_protection.md): access to an outlet and a session
context, the duty of R162, commanding a pilot and a pair, allocating a context (R175), stopping a session (R176,
R177), ending it with its billing record (R178). -/
namespace Sys2Proof.Machine

/-- An outlet's state beside its registers. -/
def State.o (s : State) (n : Nat) : OutSt := nth s.outs.o {} n

/-- Change an outlet's state. -/
def State.updO (s : State) (n : Nat) (f : OutSt → OutSt) : State :=
  { s with outs := { s.outs with o := upd s.outs.o n f } }

/-- A session context beside its registers. -/
def State.sx (s : State) (k : Nat) : SesSt := nth s.outs.ses {} k

/-- Change a session context. -/
def State.updS (s : State) (k : Nat) (f : SesSt → SesSt) : State :=
  { s with outs := { s.outs with ses := upd s.outs.ses k f } }

/-- Change an outlet's pilot, link, close, weld and protection state. -/
def State.updPilot (s : State) (n : Nat) (f : PilotSt → PilotSt) : State :=
  s.updO n (fun o => { o with pilot := f o.pilot })
def State.updLink (s : State) (n : Nat) (f : LinkSt → LinkSt) : State :=
  s.updO n (fun o => { o with link := f o.link })
def State.updClose (s : State) (n : Nat) (f : CloseSt → CloseSt) : State :=
  s.updO n (fun o => { o with close := f o.close })
def State.updWeld (s : State) (n : Nat) (f : WeldSt → WeldSt) : State :=
  s.updO n (fun o => { o with weld := f o.weld })
def State.updProt (s : State) (n : Nat) (f : ProtSt → ProtSt) : State :=
  s.updO n (fun o => { o with prot := f o.prot })

/-- Kinds of an outlet (R157). -/
def State.isDc (s : State) (n : Nat) : Bool := s.get (OUT_CFG_KIND n) == 3
def State.isAbsent (s : State) (n : Nat) : Bool := s.get (OUT_CFG_KIND n) == 0

/-- The session on an outlet, or none (OUT.On_STATE.SES). -/
def State.sesOn (s : State) (n : Nat) : Option Nat :=
  if s.get (OUT_STATE_SES n) < 128 then some (s.get (OUT_STATE_SES n)) else none

/-- SES.Sn_STATE.STATE (R176). -/
def State.sst (s : State) (k : Nat) : Nat := s.get (SES_STATE_STATE k)

/-- Session states of R176. -/
def IDLE : Nat := 0
def PLUGGED : Nat := 1
def AUTHORISING : Nat := 2
def CHARGING : Nat := 3
def SUSPENDED : Nat := 4
def STOPPING : Nat := 5
def ENDED : Nat := 6
def BILLED : Nat := 7

/-- Reasons of SES.Sn_STATE.REASON. -/
def rHOST_STOP : Nat := 1
def rUNPLUG : Nat := 2
def rVEHICLE : Nat := 3
def rREFUSED : Nat := 4
def rAUTH_TIMEOUT : Nat := 5
def rCREDIT : Nat := 6
def rPROTECTION : Nat := 7
def rPILOT_ERROR : Nat := 8
def rCOMM : Nat := 9
def rSUPPLY_LOSS : Nat := 10
def rSETTING : Nat := 11
def rUNIT_RESTART : Nat := 12

/-- The duty of R162 in 0.01 %, rounded down, for a current in µA of at least 6 A; 0 below 6 A (steady +12 V). -/
def dutyUa (i : Nat) : Nat :=
  if i < 6000000 then 0 else if i ≤ 51000000 then i / 6000 else min i 63000000 / 25000 + 6400

/-- Command a drive mode and duty with the beat's command set (R14, R159). DUTY_SET shows the commanded duty, 10 000 in steady drive. A
command that changes is both lanes' own unless a host command decided it. -/
def State.cmdPilot (s : State) (n drive duty : Nat) : State :=
  (s.updPilot n (fun p => { p with
    cmdDrive := drive, cmdDuty := duty
    byOwner := if p.cmdDrive = drive ∧ p.cmdDuty = duty then p.byOwner else none })).put (OUT_PILOT_DUTY_SET n)
    (if drive = 1 then duty else 10000)

/-- The Case die takes a pilot's command from the applied set (R14, R159). One that a host command decided waits until the standby has
it (R229). -/
def State.applyPilot (s : State) (n : Nat) : State :=
  s.updPilot n (fun p =>
    if s.decided p.byOwner then { p with setDrive := p.cmdDrive, setDuty := p.cmdDuty, byOwner := none } else p)

/-- A host command's effect on an outlet: a pilot's command that changes with it and an opening asked for with it are the owner's decision
of the beat (R229). -/
def State.ownerActs (n : Nat) (f : State → State) (s : State) : State :=
  let t := f s
  let p := (s.o n).pilot
  let q := (t.o n).pilot
  let t := if p.cmdDrive = q.cmdDrive ∧ p.cmdDuty = q.cmdDuty then t
    else t.updPilot n (fun x => { x with byOwner := some s.now })
  if (t.o n).prot.openReq ∧ !(s.o n).prot.openReq then t.updProt n (fun x => { x with openBy := some s.now }) else t

/-- Steady +12 V, state F, and the 5 % of R163. -/
def State.drive12 (s : State) (n : Nat) : State := s.cmdPilot n 0 0
def State.driveF (s : State) (n : Nat) : State := s.cmdPilot n 2 0
def State.drive5 (s : State) (n : Nat) : State := s.cmdPilot n 1 500

/-- Whether an outlet takes part at all: neither absent (R157), locked out (R193) nor disabled (OUT_ENABLE). -/
def State.usable (s : State) (n : Nat) : Bool :=
  !s.isAbsent n && !s.isSet (OUT_CONTACT_LOCKOUT n) && !s.isSet (OUT_STATE_DISABLED n)

/-- VCPP and VCPN in range (R161, R410). -/
def State.pilotSupply (s : State) : Bool := s.bitOf PWR_STATUS_IN_RANGE 3 && s.bitOf PWR_STATUS_IN_RANGE 2

/-- The drive mode and duty that an outlet's state asks for (R157, R161 to R163, R176, R177, R193). -/
def State.wantedDrive (s : State) (n : Nat) : Nat × Nat :=
  if !s.usable n || (s.o n).pilot.fEnd.isSome then (2, 0)
  else match s.sesOn n with
    | none => (0, 0)
    | some k =>
      let st := s.sst k
      let x := s.sx k
      let served := !(decide (s.get (OUT_STATE_PILOT_ST n) = 3) && !s.isSet (OUT_CFG_VENT n))
      if s.isSet (OUT_CFG_HLC n) ∧ s.get (OUT_STATE_PROTO n) ≠ 1 ∧ !x.plain ∧ (st ≠ STOPPING ∨ x.path = 2 ∨ x.path = 3) then
        (if served then (1, 500) else (0, 0))
      else if (st = CHARGING ∨ st = SUSPENDED) ∧ served ∧ !s.isDc n then
        let d := dutyUa (s.o n).allowUa
        if d = 0 then (0, 0) else (1, d)
      else (0, 0)

/-- The vehicle requests energy (R176): state C, or D where it may be served; for AC under V2G also PowerDelivery start, for DC no pause by
PowerDelivery stop. -/
def State.vehAsks (s : State) (n : Nat) : Bool :=
  let b := (s.o n).pilot.band
  (b == 2 || (b == 3 && s.isSet (OUT_CFG_VENT n))) &&
    (if s.isDc n then !(s.o n).link.paused else s.get (OUT_STATE_PROTO n) == 1 || (s.o n).link.wantsEnergy)

/-- Command the drive that the outlet's state asks for. In SAFE_HOLD and the setting position the forced drive stands
(R22, R44), and high impedance while a pilot supply is out of range (R161). -/
def State.refreshPilot (s : State) (n : Nat) : State :=
  if !s.running then s
  else if !s.pilotSupply then s.cmdPilot n 3 0
  else
    let w := s.wantedDrive n
    s.cmdPilot n w.1 w.2

/-- The pair of an outlet (R185). -/
def State.pairOf (s : State) (n : Nat) : Nat := s.get (OUT_PROT_CFG_PAIR n)

/-- Whether an outlet's pair is energised (OUT.On_CONTACT.CMD). -/
def State.energised (s : State) (n : Nat) : Bool := s.get (OUT_CONTACT_CMD n) == 3

/-- The meter of an outlet. -/
def State.meterOf (s : State) (n : Nat) : Nat := (s.o n).cfg.meter

/-- The 11 legal totals of a meter (R177). -/
def State.totals (s : State) (m : Nat) : List Int :=
  (List.range 11).map (fun q => s.rd128i (A_MTR_M_TOTAL m q))

/-- Of the currents that came into force, newest first, each with its beat: those in force at some time of the last 5 s (R200). -/
def liveRefs (now_ : Nat) (l : List (Nat × Nat)) : List (Nat × Nat) :=
  let live := l.takeWhile (fun p => decide (now_ < p.2 + 5 * secBeats))
  live ++ (l.drop live.length).take 1

/-- A new current in front of them. -/
def pushIRef (now_ i : Nat) (l : List (Nat × Nat)) : List (Nat × Nat) := (i, now_) :: liveRefs now_ l

/-- The allowed current of an outlet takes a value in µA; I_ALLOWED shows it to the nearest 0.1 A (DESIGN CHOICE, log entry 36), and a
change there joins the currents of the last 5 s (R200). -/
def State.putAllowed (s : State) (n ua : Nat) : State :=
  let i := (ua + 50000) / 100000
  let t := when (decide (s.get (OUT_LIMIT_I_ALLOWED n) ≠ i)) (fun u => u.updO n (fun o => { o with iRefs := pushIRef s.now i o.iRefs })) s
  (t.updO n (fun o => { o with allowUa := ua })).put (OUT_LIMIT_I_ALLOWED n) i

/-- The number of contexts in ENDED (R175). -/
def State.endedCount (s : State) : Nat :=
  ((List.range 128).filter (fun k => s.sst k == ENDED)).length

/-- A SETPOINT mode for an outlet's target (R181); the next SETPOINT frame carries it. -/
def State.setModule (s : State) (n mode v : Nat) (i : Int) (p : Nat) : State :=
  s.updO n (fun o => { o with setMode := mode, setV := v, setI := i, setP := p })

/-- MODE OFF (R181). While a weld proof runs the target stays at OUTPUT_DISCHARGE until the proof has a result (R192). -/
def State.moduleOff (s : State) (n : Nat) : State := if (s.o n).weld.active then s else s.setModule n 0 0 0 0

/-- The lowest-numbered context in IDLE, else the context longest in BILLED (R175). -/
def State.freeContext (s : State) : Option Nat :=
  match (List.range 128).find? (fun k => s.sst k == IDLE) with
  | some k => some k
  | none =>
    (List.range 128).foldl (fun acc k =>
      if s.sst k == BILLED then
        match acc with
        | none => some k
        | some j => if (s.sx k).billed < (s.sx j).billed then some k else some j
      else acc) none

/-- Allocate a context to an outlet (R175): PLUGGED, the next serial, the start snapshot, no limits of the host, no current until the next
placement round (R176). -/
def State.allocAt (s : State) (n k : Nat) : State :=
  let serial := (s.outs.serial + 1) % 2 ^ 32
  let t := { s with outs := { s.outs with serial := serial } }
  let t := t.wrN (A_SES_STATE k) 0
  let t := (t.put (SES_STATE_STATE k) PLUGGED).put (SES_STATE_OUTLET k) n
  let t := t.put (SES_STATE_PROG k) (s.o n).cfg.prog
  let t := t.wrN (A_SES_SERIAL k) serial
  let t := t.wrN (A_SES_PROTO k) 0
  let t := t.wr128 (A_SES_START k) (s.mono + (if s.isSet LGL_CHRONO_WALL_VALID then s.wall else 0) * 2 ^ 64)
  let t := (((t.wr128 (A_SES_E_IMP k) 0).wr128 (A_SES_E_EXP k) 0).wr128 (A_SES_COST k) 0).wr128 (A_SES_VID k) 0
  let t := t.wrN (A_SES_TARGET k) 0xFFFFFFFF
  let t := t.wrN (A_SES_POWER k) 0xFFFF0000
  let t := t.wrN (A_SES_CREDIT k) 0xFFFFFFFF
  let t := t.wrN (A_SES_ALLOC k) 0
  let t := t.updS k (fun _ => { start := s.totals (s.meterOf n) })
  let t := (t.put (OUT_STATE_SES n) k).clr (OUT_STATE_NO_CONTEXT n)
  let t := t.put (OUT_RETRY_LEFT n) (s.get (OUT_RETRY_RETRY_MAX n))
  let t := (t.updO n (fun o => { o with allocI := 0, link := {}, plugWait := false })).putAllowed n 0
  t.updProt n (fun p => { p with supplyOut := false, trips := 0, slowDue := false })

/-- No context is free: steady +12 V, NO_CONTEXT, fault 0x5105 (R175). -/
def State.noContext (s : State) (n : Nat) : State :=
  ((s.drive12 n).set1 (OUT_STATE_NO_CONTEXT n)).raise 0x5105 NOTE s.srcOwner n 0

/-- The billing record of a session, before its signature (R178). -/
def State.recordHead (s : State) (k : Nat) : List Byte :=
  let x := s.sx k
  let start := s.rd128 (A_SES_START k)
  le 4 (s.rdN (A_SES_SERIAL k)) ++ le 1 (s.get (SES_STATE_OUTLET k)) ++ le 1 (s.get (SES_STATE_AUTH k)) ++
    le 1 (if s.isSet (SES_STATE_ACC_VALID k) then s.get (SES_STATE_ACCOUNT k) else 0xFF) ++
    le 1 (s.get (SES_STATE_PROG k)) ++ le 1 (s.get (SES_STATE_REASON k)) ++ le 1 x.flags ++ le 2 x.endFault ++
    le 4 0 ++ le 8 (start % 2 ^ 64) ++ le 8 (start / 2 ^ 64) ++ le 8 x.endMono ++ le 8 x.endWall ++
    le 16 (s.rd128 (A_SES_COST k)) ++ padTo 32 x.ident ++ padTo 32 x.evcc ++
    padTo 176 (x.start.flatMap (fun v => le 16 (twos 128 v))) ++
    padTo 176 (x.endSnap.flatMap (fun v => le 16 (twos 128 v)))

/-- The signature of a record's head under SES_SIGN, J_3 (R178, R379): ECDSA on P-256 with SHA-256. -/
def State.sesSignature (s : State) (h : List Byte) : List Byte :=
  let d := sha256 (fromBytes h)
  toBytes (curveP256.sign (s.jewelVal 3) (Config.signNonce (s.jewelVal 3) d) d)

/-- The 576-byte billing record: head, signature, CRC-32, zeros (R178). -/
def State.billingRecord (s : State) (k : Nat) : List Byte :=
  let h := s.recordHead k
  let sig := s.sesSignature h
  h ++ sig ++ le 4 (crc32 (h ++ sig)) ++ List.replicate 28 0#8

/-- The growth of a session's energies since its start snapshot (R177). -/
def State.sesGrowth (s : State) (k : Nat) : State :=
  let m := s.meterOf (s.get (SES_STATE_OUTLET k))
  let d (q : Nat) : Int := s.rd128i (A_MTR_M_TOTAL m q) - nth (s.sx k).start 0 q
  (s.wr128 (A_SES_E_IMP k) (twos 128 (d 0))).wr128 (A_SES_E_EXP k) (twos 128 (d 1))

/-- A session reaches ENDED (R176 to R178): end snapshot, frozen energies, billing record, the outlet freed, the waiting
SES_STOP answered OK, and 0x510E when 64 or more contexts are in ENDED (R175). -/
def State.endSession (s : State) (k : Nat) : State :=
  let n := s.get (SES_STATE_OUTLET k)
  let t := s.sesGrowth k
  let wallNow := if s.isSet LGL_CHRONO_WALL_VALID then s.wall else 0
  let t := t.updS k (fun x =>
    { x with endSnap := s.totals (s.meterOf n), endMono := s.mono, endWall := wallNow, endBeat := s.now, path := 0, collected := false })
  let t := when (decide (s.get (SES_STATE_REASON k) = rSUPPLY_LOSS)) (fun u => u.updS k (fun x => { x with flags := x.flags ||| 2 })) t
  let t := t.put (SES_STATE_STATE k) ENDED
  let t := (t.jewelUsed 3).updS k (fun x => { x with record := t.billingRecord k })
  let t := t.wr128 (A_OUT_ENDED n) (natBit (t.rd128 (A_OUT_ENDED n)) k true)
  let t := (t.put (OUT_STATE_SES n) 0xFF).put (OUT_STATE_PROTO n) 0
  let t := ((t.set1 (OUT_EVENTS_SES_END n)).put (SES_PROTO_TIMER k) 0).put (OUT_SLAC_PHASE n) 0
  let t := t.updO n (fun o => { o with link := { tcpSeq := o.link.tcpSeq, segs := o.link.segs }, setMode := 0, setI := 0, setP := 0 })
  let t := t.updProt n (fun p => { p with holdLatch := false })
  let t := t.clr (OUT_RETRY_HOLD n)
  let t := t.refreshPilot n
  let t := match (s.sx k).stopCmd with
    | some c => (t.replyTo c.port c.seq stOK 0).updS k (fun x => { x with stopCmd := none })
    | none => t
  when (decide (t.endedCount ≥ 64)) (fun u => u.raise 0x510E NOTE u.srcOwner 0 u.endedCount) t

/-- Request the opening of an outlet's pair at the next pallet 10 (R190). -/
def State.requestOpen (s : State) (n : Nat) : State :=
  when (s.energised n) (fun u => u.updProt n (fun p => { p with openReq := true, openBy := none })) s

/-- A V2G segment goes to the vehicle with its place in the TCP stream (R171). Until it is acknowledged it is held; the notification of a
stop goes with it (R177). -/
def State.sendSeg (s : State) (n : Nat) (kind : V2gKind) (ongoing : Bool) : State :=
  s.updLink n (fun l => { l with
    segs := l.segs ++ [{ kind := kind, seq := l.tcpSeq, ongoing := ongoing, notify := l.notified || l.notifyStop }]
    tcpSeq := l.tcpSeq + 1
    notified := l.notified || l.notifyStop
    responses := l.responses + 1 })

/-- A close in progress is dropped, its self-test released (R206). -/
def State.dropClose (s : State) (n : Nat) : State :=
  let c := (s.o n).close
  if c.step = 0 then s
  else
    let lcs := if c.test = 1 ∧ s.get (LCH_CFG_USE (s.o n).cfg.testLc) = 3 then upd s.lch.c (s.o n).cfg.testLc (fun x => { x with pend := some false }) else s.lch.c
    let t := { s with lch := { s.lch with c := lcs } }
    let t := t.updClose n (fun c => { quiet := c.quiet })
    when (decide (s.get (OUT_CONTACT_CSTATE n) = 1) || decide (s.get (OUT_CONTACT_CSTATE n) = 2))
      (fun u => u.put (OUT_CONTACT_CSTATE n) (if u.energised n then 3 else 0)) t

/-- Whether a high-level session runs on an outlet (R163). -/
def State.hlc (s : State) (n : Nat) : Bool := decide (s.get (OUT_STATE_PROTO n) ≥ 2)

/-- Decide the stop of a session (R176, R177): STOPPING with a reason; `now_` is true for an unplug, a pilot error and
an OUTLET_STOP fault. An unplug in the beat of another stop governs (R184); of two stopping faults in a beat END_FAULT
keeps the lower code (R206). A session that is not in CHARGING skips to the last step, which for a DC pair still closed is step 3. -/
def State.stopSession (s : State) (k reason code : Nat) (now_ : Bool) : State :=
  let st := s.sst k
  let n := s.get (SES_STATE_OUTLET k)
  if st = PLUGGED ∨ st = AUTHORISING ∨ st = CHARGING ∨ st = SUSPENDED then
    let path := if now_ then (if s.isDc n && st == CHARGING then 3 else 4)
      else if s.hlc n then 2 else if s.isDc n then 3 else 1
    let path := if st = CHARGING then path else if st = SUSPENDED ∧ s.isDc n ∧ s.energised n then 3 else 4
    let t := ((s.put (SES_STATE_STATE k) STOPPING).put (SES_STATE_REASON k) reason).updS k (fun x =>
      { x with path := path, stopBeat := s.now, committed := false, before := st, endFault := code, joined := none })
    let t := t.dropClose n
    let t := when (decide (path = 1)) (fun u => u.drive12 n) t
    let t := when (decide (path = 2)) (fun u => u.updLink n (fun l => { l with notifyStop := true })) t
    let t := when (decide (path ≥ 3) && s.isDc n) (fun u => u.moduleOff n) t
    when (decide (path = 4)) (fun u => u.requestOpen n) t
  else if st = STOPPING then
    let x := s.sx k
    let t := when (x.stopCmd.isSome && x.joined.isNone) (fun u => u.updS k (fun y => { y with joined := some (reason, code) })) s
    let t := when (decide (reason = rUNPLUG) && decide (x.stopBeat = s.now))
      (fun u => u.put (SES_STATE_REASON k) rUNPLUG) t
    let t := when (decide (code ≠ 0) && decide (x.stopBeat = s.now) && (x.endFault == 0 || decide (code < x.endFault)))
      (fun u => u.updS k (fun y => { y with endFault := code })) t
    if !now_ || (s.isDc n && x.path == 3) then t
    else if s.isDc n && x.path == 2 then (t.updS k (fun y => { y with path := 3 })).moduleOff n
    else t.requestOpen n
  else s

/-- Stop whatever session an outlet holds, with a fault code; a close in progress is dropped and the pair opened. -/
def State.stopOutlet (s : State) (n reason code : Nat) : State :=
  match s.sesOn n with
  | some k => s.stopSession k reason code true
  | none => (s.dropClose n).requestOpen n

/-- A fault of class OUTLET_STOP for one outlet: its entry and the stop with reason PROTECTION (R422). -/
def State.raiseOutlet (s : State) (code n p1 : Nat) : State :=
  (s.raise code OUTLETSTOP s.srcOwner n p1).stopOutlet n rPROTECTION code

/-- A fault of class OUTLET_STOP for every outlet (R421, R422). -/
def State.raiseEveryOutlet (s : State) (code src p0 p1 : Nat) : State :=
  forUpTo 12 (fun n u => u.stopOutlet n rPROTECTION code) (s.raise code OUTLETSTOP src p0 p1)

/-- The session of an outlet leaves AUTHORISING without acceptance (R176): ENDED with steady +12 V, and under V2G with the refusal sent. -/
def State.refuseSession (s : State) (k reason : Nat) : State :=
  let n := s.get (SES_STATE_OUTLET k)
  let t := when (s.hlc n) (fun u => u.sendSeg n .refusal false) s
  ((t.put (SES_STATE_REASON k) reason).drive12 n).endSession k

/-- A STOPPING session whose pair is open with no proof running, or was never closed, ends (R176). -/
def State.settleStop (s : State) (n : Nat) : State :=
  match s.sesOn n with
  | some k =>
    when (s.running && decide (s.sst k = STOPPING) && !s.energised n && !(s.o n).weld.active &&
        (decide ((s.sx k).path = 4) || (s.sx k).committed)) (fun u => u.endSession k) s
  | none => s

end Sys2Proof.Machine
end

