-- ==== Sys2Proof/Machine/LoadCh.lean ====
section
/-! DEFINITION. The protected load channels of 12_load_channels.md: commanded states, inrush, cut-off, thermal latch,
retries, clamp energy and the stopwork, open load, motors, shedding, the current sense mirror, and the commands 0x09xx. -/
namespace Sys2Proof.Machine

abbrev Out := Host.Outcome State Fault Refusal

/-- Change a load channel's and a motor run's state. -/
def State.lc (s : State) (k : Nat) : LcSt := nth s.lch.c {} k
def State.updLc (s : State) (k : Nat) (f : LcSt → LcSt) : State := { s with lch := { s.lch with c := upd s.lch.c k f } }
def State.mrun (s : State) (j : Nat) : RunSt := nth s.lch.run {} j
def State.updRun (s : State) (j : Nat) (f : RunSt → RunSt) : State :=
  { s with lch := { s.lch with run := upd s.lch.run j f } }

/-- LCH.Ck_STATE.ST codes. -/
def lcOFF : Nat := 0
def lcINRUSH : Nat := 1
def lcON : Nat := 2
def lcLIMIT : Nat := 3
def lcWAIT : Nat := 4
def lcDEFER : Nat := 5
def lcFAULT : Nat := 6
def lcSTOPWORK : Nat := 7
def lcSHED : Nat := 8

/-- The channel's state code. -/
def State.lcst (s : State) (k : Nat) : Nat := s.get (LCH_STATE_ST k)

/-- Whether a channel is on, in inrush or in limit. -/
def State.lcOn (s : State) (k : Nat) : Bool := s.lcst k == lcINRUSH || s.lcst k == lcON || s.lcst k == lcLIMIT

/-- Turn a channel on: inrush begins, and the output rises at SLEW (R273). A thermal latch that is set defers it (R276). -/
def State.lcTurnOn (s : State) (k : Nat) : State :=
  if s.isSet (LCH_STATE_LATCH k) then (s.put (LCH_STATE_ST k) lcDEFER).putBit LCH_LOCKS_SHED k false
  else (((s.put (LCH_STATE_ST k) lcINRUSH).putBit LCH_STATUS_ON k true).putBit LCH_LOCKS_SHED k false).updLc k
    (fun c => { c with onBeat := s.now, ramp := if s.get (LCH_CFG_SLEW k) = 0 then none else some 0 })

/-- Turn a channel off with a state code. -/
def State.lcTurnOff (s : State) (k st : Nat) : State :=
  ((s.put (LCH_STATE_ST k) st).putBit LCH_STATUS_ON k false).clr (LCH_STATE_OL k)

/-- Command a channel on or off: applied at the next pallet 10 (R272). -/
def State.lcCommand (s : State) (k : Nat) (b : Bool) : State := s.updLc k (fun c => { c with pend := some b })

/-- The Case die takes a commanded state (R272): off refills the retries (R275); a channel in FAULT or stopwork stays off
(R275, R278). -/
def State.lcTake (s : State) (k : Nat) (b : Bool) : State :=
  let t := (s.updLc k (fun c => { c with pend := none, stuck := c.stuck && !b })).putB (LCH_STATE_CMD k) b
  if b then
    if t.lcst k = lcOFF ∨ t.lcst k = lcSHED then t.lcTurnOn k else t
  else
    let t := (t.put (LCH_STATE_LEFT k) (t.get (LCH_CFG_RETRY_MAX k))).putBit LCH_LOCKS_SHED k false
    if t.lcst k = lcFAULT ∨ t.lcst k = lcSTOPWORK then t else t.lcTurnOff k lcOFF

/-- A commanded change at pallet 10 (R272); it waits while a decision of an earlier beat does (R229). -/
def State.lcApply (s : State) (k : Nat) : State :=
  match (s.lc k).pend with
  | none => s
  | some b => if s.mirrored then s.lcTake k b else s

/-- An output of a pair that its mode drives high, or not (R281): its state, its command and STATUS.ON follow. -/
def State.driveHalf (s : State) (k : Nat) (high : Bool) : State :=
  ((s.put (LCH_STATE_ST k) (if high then lcON else lcOFF)).putB (LCH_STATE_CMD k) high).putBit LCH_STATUS_ON k high

/-- A pair takes a mode (R281): FORWARD drives LC_2j high, REVERSE LC_2j + 1; in BRAKE and COAST neither is high. -/
def State.pairMode (s : State) (j mode : Nat) : State :=
  ((s.put (LCH_P_STATE_MODE j) mode).driveHalf (2 * j) (mode == 1)).driveHalf (2 * j + 1) (mode == 2)

/-- The drive of a motor run ends by its limit, a stop or an event: braking begins (R281). -/
def State.endRun (s : State) (j result : Nat) : State :=
  let r := s.mrun j
  let ms := (s.now - r.start) / 40
  (((s.pairMode j 3).put (LCH_P_STATE_RESULT j) result).putSat (LCH_P_STATE_RUN_MS j) ms).updRun j
    (fun x => { x with brake := s.now })

/-- Whether a pair is driving. -/
def State.running? (s : State) (j : Nat) : Bool := s.get (LCH_P_STATE_MODE j) == 1 || s.get (LCH_P_STATE_MODE j) == 2

/-- Whether a pair drives or brakes. -/
def State.pairOn? (s : State) (j : Nat) : Bool := s.get (LCH_P_STATE_MODE j) != 0

/-- A run has ended and the pair coasts (R281): LCH_MOTOR, and a stop of it, are answered with RESULT. -/
def State.coast (s : State) (j : Nat) : State :=
  let r := s.mrun j
  let t := ((s.pairMode j 0).set1 LCH_EVENTS_MOTOR).updRun j (fun x => { x with cmd := none, stop := none })
  forEach (r.cmd.toList ++ r.stop.toList) (fun c u => u.replyTo c.port c.seq stOK (s.get (LCH_P_STATE_RESULT j))) t

/-- A run that was stopped before it drove. -/
def State.noRun (s : State) (j : Nat) : State := (s.put (LCH_P_STATE_RESULT j) 3).put (LCH_P_STATE_RUN_MS j) 0

/-- An event ends a run with RESULT 3, or the braking after it, and both switches open (R274, R281). -/
def State.cutRun (s : State) (j : Nat) : State :=
  ((if s.running? j then s.endRun j 3 else s).put (LCH_P_STATE_RESULT j) 3).coast j

/-- A retryable event of a channel (R275): off, EVENTS counted; with a retry left it waits RETRY_DELAY, else FAULT with
0x8003. On a half-bridge the run ends with RESULT 3 and no retry is made (R281). -/
def State.lcEvent (s : State) (k : Nat) : State :=
  let t := (s.inc (LCH_COUNT_EVENTS k)).set1 LCH_EVENTS_EVENT
  if s.isSet (LCH_CFG_HB k) then
    if s.pairOn? (k / 2) then (t.cutRun (k / 2)).raise 0x8008 NOTE srcCase (k / 2) 3 else t
  else if s.get (LCH_STATE_LEFT k) = 0 then
    (((t.lcTurnOff k lcFAULT).putBit LCH_STATUS_FAULT k true).set1 LCH_EVENTS_FAULT).raise 0x8003 DEGRADE srcCase k 0
  else
    (t.lcTurnOff k lcWAIT).updLc k (fun c => { c with due := s.now + 400 * s.get (LCH_OL_RETRY_DELAY k) })

/-- E_SUM: the clamp events that ended within the last 40 000 beats (R277). -/
def State.clampSum (s : State) (k : Nat) : State :=
  let l := (s.lc k).clamps.filter (fun e => decide (s.now < e.1 + 40000))
  (s.updLc k (fun c => { c with clamps := l })).putSat (LCH_CLAMP_E_SUM k) (sumN (l.map (·.2)))

/-- The thermal cycles of a channel: a rise of at least 40 K from a minimum followed by a fall of at least 40 K from
the peak (LCH.Ck_COUNT). -/
def State.lcCycle (s : State) (k : Nat) (t : Int) : State :=
  let c := s.lc k
  if c.rising then
    if t > c.tHigh then s.updLc k (fun x => { x with tHigh := t })
    else if t ≤ c.tHigh - 400 then
      ((s.inc (LCH_COUNT_CYCLES k)).wearCycle k).updLc k (fun x => { x with rising := false, tLow := t })
    else s
  else
    if t < c.tLow then s.updLc k (fun x => { x with tLow := t })
    else if t ≥ c.tLow + 400 then s.updLc k (fun x => { x with rising := true, tHigh := t })
    else s

/-- The current sum of the channels in mA (R282). -/
def State.lcAmps (s : State) : Nat := sumN ((List.range 16).map (fun k => (s.geti (LCH_MEAS_I k)).natAbs))

/-- I² × R_ON of the channels that a test picks, in nW (R282); R_ON is at most 80 mΩ (R270). -/
def State.lcLoss (s : State) (p : Nat → Bool) : Nat :=
  sumN (((List.range 16).filter p).map (fun k => (s.geti (LCH_MEAS_I k)).natAbs ^ 2 * min 80 (Config.rOn k)))

/-- What the channels draw through VAUX beside their loss (R72): Σ V_OUT I in 10 µW. -/
def State.loadPower (s : State) : Nat :=
  sumN ((List.range 16).map (fun k => (s.geti (LCH_MEAS_V_OUT k) * s.geti (LCH_MEAS_I k)).natAbs))

/-- The current that ISNS sources in nA (R284): that of its channel over 2 000, for a pair the magnitude of the bridge current. -/
def State.showIsns (s : State) : State :=
  { s with lch := { s.lch with isns := s.lch.mirror.map (fun k => (s.geti (LCH_MEAS_I k)).natAbs * 500) } }

/-- The sums of a beat (R282): the current and the beats in sequence above 16.0 A; the dissipation Σ I² R_ON and the clamp energy, averaged
over 40 000 beats. -/
def State.lcSum (s : State) : State :=
  let sum := s.lcAmps
  let l := (s.lcLoss (fun _ => true) + s.lch.clampNow * 4000000000) :: s.lch.diss.take 39999
  let t := (s.putSat LCH_TOTAL_I_SUM sum).putSat LCH_TOTAL_P_DISS (sumN l / 40000 / 1000000)
  State.showIsns { t with lch := { t.lch with
    diss := l, clampNow := 0, overBeats := if 16000 < sum then t.lch.overBeats + 1 else 0 } }

/-- A channel's ramp goes on for a beat (R273), 2.5 mV for each 0.1 V/ms of SLEW, until it has reached VAUX. -/
def State.lcRamp (s : State) (k : Nat) : Option Nat :=
  match (s.lc k).ramp with
  | some v =>
    let w := v + 2500 * s.get (LCH_CFG_SLEW k)
    if s.get PWR_VAUX_VAUX * 10000 ≤ w then none else some w
  | none => none

/-- What the Case die measures of a channel in a beat: output voltage in 10 mV, current in mA, sensor in 0.1 °C. While the output ramps it
stands no higher than SLEW has let it rise. -/
def State.lcMeasure (s : State) (k : Nat) (m : Int × Int × Int) : State :=
  let r := s.lcRamp k
  let v : Int := match r with | some w => min m.1 (w / 10000 : Nat) | none => m.1
  let t := ((s.updLc k (fun c => { c with ramp := r })).puti (LCH_MEAS_V_OUT k) (satI 16 v)).puti (LCH_MEAS_I k) (satI 16 m.2.1)
  (t.puti (LCH_STATE_TEMP k) (satI 16 m.2.2)).lcCycle k m.2.2

/-- All that the Case die measures of the load channels in a beat. -/
def State.lcBeat (s : State) (l : List (Int × Int × Int)) : State :=
  (forEach l.zipIdx (fun m u => when (decide (m.2 < 16)) (fun v => v.lcMeasure m.2 m.1) u) s).lcSum

/-- Whether a channel has cooled (R278): sensor below 90 °C and E_SUM 0. -/
def State.lcCooled (s : State) (k : Nat) : Bool :=
  decide (s.geti (LCH_STATE_TEMP k) < 900) && decide ((s.clampSum k).get (LCH_CLAMP_E_SUM k) = 0)

/-- The channel the mirror shows follows LCH.ISNS and the SEL balls (R284). -/
def State.isnsSelect (s : State) : State :=
  let m := if s.isSet LCH_ISNS_EN then some (if s.isSet LCH_ISNS_SRC then s.get LCH_ISNS_CH else s.lch.sel) else none
  State.showIsns { s with lch := { s.lch with mirror := m } }

/-- SAFE_HOLD: each channel to its SAFE level; LOCK, RDC_TEST and NONE off (R271); a motor run completes (R283). -/
def State.lcSafe (s : State) : State :=
  forUpTo 16 (fun k u =>
    if u.isSet (LCH_CFG_HB k) then u
    else if u.get (LCH_CFG_USE k) = 0 ∨ u.get (LCH_CFG_USE k) = 2 ∨ u.get (LCH_CFG_USE k) = 3 ∨ u.get (LCH_CFG_SAFE k) = 1 then
      u.lcTake k false
    else if u.get (LCH_CFG_SAFE k) = 2 then u.lcTake k true
    else u.updLc k (fun c => { c with pend := none })) s

/-- The setting position opens both switches of a half-bridge (R44, R283): a run in progress ends, stopped by an event. -/
def State.motorOff (s : State) (j : Nat) : State :=
  if (s.mrun j).want = 0 ∧ !s.pairOn? j then s
  else
    let t := if s.running? j then s.endRun j 3 else if (s.mrun j).want ≠ 0 then s.noRun j else s
    (t.updRun j (fun x => { x with want := 0 })).coast j

/-- The setting position: every channel off (R44, R283). -/
def State.lcSetting (s : State) : State :=
  let s := forUpTo 4 (fun j u => u.motorOff j) s
  forUpTo 16 (fun k u => ((u.lcTurnOff k (if u.isSet (LCH_STATE_STOPWORK k) then lcSTOPWORK else lcOFF)).clr
    (LCH_STATE_CMD k)).updLc k (fun c => { c with pend := none })) s

/-- A channel goes to INIT at step 11 of start-up, or in a LOADCH restart; one in stopwork stays off (R283), one in FAULT until LCH_CLEAR
or a module reset (R275), one that was shed until LCH_DRIVE or LCH_CLEAR (R282). -/
def State.lcInit (s : State) (k : Nat) : State :=
  let t := s.put (LCH_STATE_LEFT k) (s.get (LCH_CFG_RETRY_MAX k))
  if s.isSet (LCH_STATE_STOPWORK k) then t.lcTurnOff k lcSTOPWORK
  else if s.lcst k = lcFAULT ∨ s.lcst k = lcSHED then t
  else if s.isSet (LCH_CFG_INIT k) && decide (s.get (LCH_CFG_USE k) ≠ 0) && !s.isSet (LCH_CFG_HB k) then
    (t.set1 (LCH_STATE_CMD k)).lcTurnOn k
  else (t.clr (LCH_STATE_CMD k)).lcTurnOff k lcOFF

/-! ### Meanings -/

/-- T_INRUSH has passed since the channel was turned on (R273), whether a lane runs or not (R272). -/
def State.inrushOver (s : State) (k : Nat) : Bool :=
  s.lcst k == lcINRUSH && decide ((s.lc k).onBeat + 40 * s.get (LCH_LIMITS_T_INRUSH k) ≤ s.now)

/-- LC_INRUSH_END (R273): the output must be at VAUX − 1.0 V or higher; voltages in 10 mV. -/
def execLcInrushEnd (k : Fin 16) (vOut vaux : Int) (s : State) : Out :=
  if s.inrushOver k then
    let t := s.puti (LCH_MEAS_V_OUT k) (satI 16 vOut)
    if vOut ≥ vaux - 100 then .next ((t.put (LCH_STATE_ST k) lcON).updLc k (fun c => { c with onBeat := s.now }))
    else .next ((t.raise 0x8006 NOTE srcCase k 0).lcEvent k)
  else .next s

/-- LC_CURRENT_LIMIT_CUTOFF (R274): held at ILIM for `held` × 0.1 ms outside inrush; 0 where the limit no longer holds it. -/
def execLcCurrentLimitCutoff (k : Fin 16) (held : Nat) (s : State) : Out :=
  let hb := s.isSet (LCH_CFG_HB k) && s.pairOn? (k.val / 2)
  if (s.lcst k = lcON ∨ s.lcst k = lcLIMIT ∨ hb) ∧ s.get (LCH_LIMITS_T_LIM k) ≤ held then
    .next ((s.raise 0x8001 NOTE srcCase k 0).lcEvent k)
  else if s.lcst k = lcON ∧ held ≠ 0 then .next (s.put (LCH_STATE_ST k) lcLIMIT)
  else if s.lcst k = lcLIMIT ∧ held = 0 then .next (s.put (LCH_STATE_ST k) lcON)
  else .next s

/-- LC_THERMAL_LATCH (R274, R276): the channel's sensor reaches 170 °C. -/
def execLcThermalLatch (k : Fin 16) (temp : Int) (s : State) : Out :=
  if temp ≥ 1700 ∧ !s.isSet (LCH_STATE_LATCH k) then
    let t := (s.puti (LCH_STATE_TEMP k) (satI 16 temp)).set1 (LCH_STATE_LATCH k)
    if s.lcst k = lcFAULT ∨ s.lcst k = lcSTOPWORK then .next t
    else
      let t := t.raise 0x8002 NOTE srcCase k (twos 32 temp)
      if s.lcOn k || (s.isSet (LCH_CFG_HB k) && s.pairOn? (k.val / 2)) then .next (t.lcEvent k) else .next t
  else .next s

/-- LC_THERMAL_RELEASE (R274, R276): below 145 °C the latch clears; a deferred attempt is made 1 ms later. -/
def execLcThermalRelease (k : Fin 16) (temp : Int) (s : State) : Out :=
  if temp < 1450 ∧ s.isSet (LCH_STATE_LATCH k) then
    let t := (s.puti (LCH_STATE_TEMP k) (satI 16 temp)).clr (LCH_STATE_LATCH k)
    if s.lcst k = lcDEFER then
      .next ((t.put (LCH_STATE_ST k) lcWAIT).updLc k (fun c => { c with due := s.now + 40 }))
    else .next t
  else .next s

/-- LC_RETRY (R275, R276, R285): the retry falls due; the latch defers it, an off command of the same beat wins. -/
def execLcRetry (k : Fin 16) (s : State) : Out :=
  if s.lcst k = lcWAIT ∧ (s.lc k).due ≤ s.now ∧ (s.lc k).pend ≠ some false then
    if s.isSet (LCH_STATE_LATCH k) then .next (s.put (LCH_STATE_ST k) lcDEFER)
    else .next ((s.put (LCH_STATE_LEFT k) (s.get (LCH_STATE_LEFT k) - 1)).lcTurnOn k)
  else .next s

/-- LC_RETRY_REFILL (R275): on for 1 s without an event. -/
def execLcRetryRefill (k : Fin 16) (s : State) : Out :=
  if s.lcst k = lcON ∧ (s.lc k).onBeat + 40000 ≤ s.now then
    .next (s.put (LCH_STATE_LEFT k) (s.get (LCH_CFG_RETRY_MAX k)))
  else .next s

/-- An LCH_CLEAR of this beat that had released the channel is answered REFUSED_STATE with the channel named (R285). -/
def State.unclear (s : State) (k : Nat) : State :=
  match (s.lc k).cleared with
  | some (b, r) => if b = s.now then s.amendReply r.port r.seq stREFUSED_STATE (2 ^ k) else s
  | none => s

/-- LC_CLAMP_EVENT (R277, R278, R285): energy in 0.1 mJ; above E_EVT, or E_SUM above E_SEC, the stopwork locks the channel. -/
def execLcClampEvent (k : Fin 16) (e : Nat) (s : State) : Out :=
  if s.isSet (LCH_CFG_HB k) then .next s
  else
    let t := s.putSat (LCH_CLAMP_E_LAST k) e
    let t := (t.updLc k (fun c => { c with clamps := c.clamps ++ [(s.now, e)] })).clampSum k
    let t := { t with lch := { t.lch with clampNow := t.lch.clampNow + e } }
    if s.get (LCH_CLAMP_CFG_E_EVT k) < e ∨ s.get (LCH_CLAMP_CFG_E_SEC k) < t.get (LCH_CLAMP_E_SUM k) then
      let t := ((t.lcTurnOff k lcSTOPWORK).set1 (LCH_STATE_STOPWORK k)).putBit LCH_LOCKS_STOPWORK k true
      let t := t.unclear k
      .next ((t.set1 LCH_EVENTS_STOPWORK).raise 0x8005 DEGRADE srcCase k e)
    else .next t

/-- OL_I in µA (R279). -/
def State.openLoadUa (s : State) (k : Nat) : Nat :=
  s.get (LCH_OL_OL_I k) * (if s.isSet (LCH_CFG_OL_FINE k) then 50 else 5000)

/-- LC_OPEN_LOAD (R279): the current, in µA, has stayed below OL_I for 100 ms with VAUX, in mV, at 9 V or above. -/
def execLcOpenLoad (k : Fin 16) (iUa vauxMv : Nat) (s : State) : Out :=
  if s.lcst k = lcON ∧ !s.isSet (LCH_CFG_HB k) ∧ !s.isSet (LCH_STATE_OL k) ∧ iUa < s.openLoadUa k ∧ 9000 ≤ vauxMv then
    .next (((s.set1 (LCH_STATE_OL k)).set1 LCH_EVENTS_OPEN_LOAD).raise 0x8004 NOTE srcCase k iUa)
  else .next s

/-- LC_OPEN_LOAD_CLEAR (R279): the current has stayed at or above OL_I for 100 ms with VAUX, in mV, at 9 V or above. -/
def execLcOpenLoadClear (k : Fin 16) (o : OpenObs) (s : State) : Out :=
  if s.isSet (LCH_STATE_OL k) ∧ s.openLoadUa k ≤ o.iUa ∧ 9000 ≤ o.vauxMv then .next (s.clr (LCH_STATE_OL k)) else .next s

/-- LC_STUCK (R280): commanded off and above VAUX − 2 V for 10 ms; voltages in 10 mV. -/
def execLcStuck (k : Fin 16) (vOut vaux : Int) (s : State) : Out :=
  if !s.isSet (LCH_STATE_CMD k) ∧ vOut > vaux - 200 ∧ !(s.lc k).stuck then
    let t := ((s.updLc k (fun c => { c with stuck := true })).puti (LCH_MEAS_V_OUT k) (satI 16 vOut)).putBit LCH_STATUS_FAULT k true
    .next ((t.set1 LCH_EVENTS_STUCK).raise 0x8009 DEGRADE srcCase k 0)
  else .next s

/-- MOTOR_STALL (R281): the current, in 0.1 A, has stayed above STALL for `held` ms. -/
def execMotorStall (j : Fin 4) (i held : Nat) (s : State) : Out :=
  if s.running? j ∧ s.get (LCH_P_CFG_STALL j) < i ∧ s.get (LCH_P_CFG_T_STALL j) ≤ held then .next (s.endRun j 1)
  else .next s

/-- MOTOR_RUN_TIMEOUT (R281): the run reaches T_RUN and brakes. -/
def execMotorRunTimeout (j : Fin 4) (s : State) : Out :=
  if s.running? j ∧ (s.mrun j).start + 40 * (s.mrun j).tRun ≤ s.now then .next (s.endRun j 2) else .next s

/-- MOTOR_BRAKE_END (R281): after T_BRAKE the pair coasts and the command is answered with RESULT. -/
def execMotorBrakeEnd (j : Fin 4) (s : State) : Out :=
  if s.get (LCH_P_STATE_MODE j) = 3 ∧ (s.mrun j).brake + 40 * s.get (LCH_P_CFG_T_BRAKE j) ≤ s.now then .next (s.coast j)
  else .next s

/-- A run or a stop that LCH_MOTOR decided reaches its pair with the command set (R272), once the standby has it (R229). A run that its
stop overtakes does not start. -/
def State.motorApply (s : State) (j : Nat) : State :=
  let r := s.mrun j
  if r.want = 0 ∨ !s.decided (some r.wantBeat) then s
  else
    let t := s.updRun j (fun x => { x with want := 0 })
    if r.want = 3 then (if s.running? j then t.endRun j 3 else (t.noRun j).coast j)
    else ((t.pairMode j r.want).put (LCH_P_STATE_RESULT j) 0).updRun j (fun x => { x with start := s.now, brake := 0 })

/-- The channel R282 sheds next: highest SHED rank among those on, higher number among equals; rank 0 never. -/
def State.shedPick (s : State) : Option Nat :=
  (List.range 16).foldl (fun acc k =>
    if s.lcOn k && decide (s.get (LCH_CFG_SHED k) ≠ 0) then
      match acc with
      | none => some k
      | some b => if s.get (LCH_CFG_SHED b) ≤ s.get (LCH_CFG_SHED k) then some k else some b
    else acc) none

/-- LC_SHED (R282): shedding begins when the current sum has exceeded 16.0 A for 40 beats or the averaged dissipation exceeds 3.0 W. While it
lasts one channel goes off every 40 beats, until the sum is at most 16.0 A and the present loss of the channels that are on at most 3.0 W. A pair
that is shed ends its run. -/
def execLcShed (_x _y _z : Unit) (s : State) : Out :=
  let sum := s.lcAmps
  let start := (decide (16000 < sum) && decide (40 ≤ s.lch.overBeats)) || decide (3000 < s.get LCH_TOTAL_P_DISS)
  let cont := s.lch.shedding && (decide (16000 < sum) || decide (3000000000 < s.lcLoss s.lcOn))
  if cont || (!s.lch.shedding && start) then
    if s.lch.shedding && decide (s.now < s.lch.shedBeat + 40) then .next s
    else match s.shedPick with
      | some k =>
        let t := if s.isSet (LCH_CFG_HB k) then s.cutRun (k / 2) else s.lcTurnOff k lcSHED
        let t := t.putBit LCH_LOCKS_SHED k true
        let t := { t with lch := { t.lch with shedding := true, shedBeat := s.now } }
        .next ((t.set1 LCH_EVENTS_SHED).raise 0x8007 DEGRADE srcCase k sum)
      | none => .next { s with lch := { s.lch with shedding := true } }
  else .next { s with lch := { s.lch with shedding := false } }

/-- ISNS_SELECTION_CHANGE (R284): new levels of SEL_0 to SEL_3, SEL_0 the least significant bit. -/
def execIsnsSelectionChange (sel : Fin 16) (s : State) : Out :=
  .next (State.isnsSelect { s with lch := { s.lch with sel := sel } })

/-- Channels of a mask that LCH_DRIVE refuses: not HOST, or in stopwork, FAULT or retry wait when turned on (R285). -/
def State.driveRefused (s : State) (mask levels : Nat) : Nat :=
  (List.range 16).foldl (fun acc k =>
    if mask.testBit k && (decide (s.get (LCH_CFG_USE k) ≠ 1) ||
        (levels.testBit k && (s.lcst k == lcSTOPWORK || s.lcst k == lcFAULT || s.lcst k == lcWAIT ||
          s.lcst k == lcDEFER))) then acc + 2 ^ k else acc) 0

/-- LCH_DRIVE, 0x0901: channel mask in [15:0], levels in [31:16]. The refused channels are named in PARAM and do not
change; the others follow. -/
def execLchDrive (mb : Fin 8) (s : State) : Out :=
  .next (s.command mb 0x0901 .running false (fun c s =>
    let mask := c.u32 0 % 2 ^ 16
    let levels := c.u32 0 / 2 ^ 16
    if (List.range 16).any (fun k => mask.testBit k && s.isSet (LCH_CFG_HB k)) then s.reply c stBAD_ARG 0
    else
      let bad := s.driveRefused mask levels
      let t := forUpTo 16 (fun k u =>
        when (mask.testBit k && !bad.testBit k) (fun v => v.lcCommand k (levels.testBit k)) u) s
      if bad = 0 then t.reply c stOK 0 else t.reply c stREFUSED_STATE bad))

/-- Whether both channels of a pair are in half-bridge mode with USE HOST. -/
def State.hostPair (s : State) (j : Nat) : Bool :=
  [2 * j, 2 * j + 1].all (fun k => s.get (LCH_CFG_USE k) == 1 && s.isSet (LCH_CFG_HB k))

/-- LCH_MOTOR, 0x0902: pair; 0 stop, 1 FORWARD, 2 REVERSE; T_RUN in ms (10 to 2 000). Answered at the end of the run; a set thermal latch
keeps the pair off (R274). -/
def execLchMotor (mb : Fin 8) (s : State) : Out :=
  .next (s.command mb 0x0902 .running false (fun c s =>
    let j := c.u32 0
    let op := c.u32 1
    let tRun := c.u32 2
    let r : CmdRef := { port := c.port, seq := c.seq }
    if j ≥ 4 ∨ op > 2 then s.reply c stBAD_ARG 0
    else if !s.hostPair j then s.reply c stREFUSED_STATE 0
    else if op = 0 then
      if (s.mrun j).stop.isSome then s.reply c stBUSY 0
      else if (s.mrun j).want = 1 ∨ (s.mrun j).want = 2 ∨ s.running? j then
        s.updRun j (fun x => { x with stop := some r, want := 3, wantBeat := s.now })
      else if s.pairOn? j then s.updRun j (fun x => { x with stop := some r })
      else s.reply c stOK (s.get (LCH_P_STATE_RESULT j))
    else if tRun < 10 ∨ 2000 < tRun then s.reply c stBAD_ARG 0
    else if (s.mrun j).want ≠ 0 ∨ s.pairOn? j then s.reply c stBUSY 0
    else if s.isSet (LCH_STATE_LATCH (2 * j)) || s.isSet (LCH_STATE_LATCH (2 * j + 1)) then s.reply c stREFUSED_STATE 0
    else
      let t := (s.putBit LCH_LOCKS_SHED (2 * j) false).putBit LCH_LOCKS_SHED (2 * j + 1) false
      t.updRun j (fun _ => { cmd := some r, want := op, wantBeat := s.now, tRun := tRun })))

/-- The channels of a mask that stopwork locks and that have not cooled (R278). -/
def State.hotMask (s : State) (mask : Nat) : Nat :=
  (List.range 16).foldl (fun acc k =>
    if mask.testBit k && s.isSet (LCH_STATE_STOPWORK k) && !s.lcCooled k then acc + 2 ^ k else acc) 0

/-- LCH_CLEAR of a channel that has cooled: FAULT, stopwork, shed and the report of a stuck channel end, and a channel that was shed while
commanded on turns on. -/
def State.clearChannel (s : State) (r : CmdRef) (k : Nat) : State :=
  let shed := s.lcst k == lcSHED
  let t := ((s.clr (LCH_STATE_STOPWORK k)).putBit LCH_LOCKS_STOPWORK k false).putBit LCH_LOCKS_SHED k false
  let t := ((t.putBit LCH_STATUS_FAULT k false).clampSum k).updLc k (fun x => { x with stuck := false, cleared := some (s.now, r) })
  if shed && t.isSet (LCH_STATE_CMD k) then t.lcTurnOn k
  else if t.lcst k = lcFAULT ∨ t.lcst k = lcSTOPWORK ∨ t.lcst k = lcSHED then
    ((t.lcTurnOff k lcOFF).put (LCH_STATE_LEFT k) (t.get (LCH_CFG_RETRY_MAX k))).clr (LCH_STATE_CMD k)
  else t

/-- LCH_CLEAR, 0x0903: clears FAULT, stopwork and shed of the channels of the mask; one that has not cooled is named in
PARAM and unchanged (R278). A stuck channel's report is cleared with its FAULT bit. -/
def execLchClear (mb : Fin 8) (s : State) : Out :=
  .next (s.command mb 0x0903 .runHold false (fun c s =>
    let mask := c.u32 0 % 2 ^ 16
    let hot := s.hotMask mask
    let t := forUpTo 16 (fun k u => when (mask.testBit k && !hot.testBit k) (fun v =>
      v.clearChannel { port := c.port, seq := c.seq } k) u) s
    if hot = 0 then t.reply c stOK 0 else t.reply c stREFUSED_STATE hot))

/-- LCH_OL_TEST, 0x0904: the output voltage at the end of the 5 ms test and VAUX, in 10 mV (R280). PARAM: 0 load
present, 1 open, 2 above VAUX − 2 V; between 0.5 V and 3.0 V the spec states no result: a free value. -/
def execLchOlTest (mb : Fin 8) (vOut vaux : Int) (s : State) : Out :=
  .next (s.command mb 0x0904 .running false (fun c s =>
    let k := c.u32 0
    if k ≥ 16 then s.reply c stBAD_ARG 0
    else if s.lcOn k || s.lcst k == lcWAIT || s.lcst k == lcDEFER || (s.isSet (LCH_CFG_HB k) && s.pairOn? (k / 2)) then
      s.reply c stREFUSED_STATE 0
    else if vOut > vaux - 200 then s.reply c stOK 2
    else if vOut > 300 then s.reply c stOK 1
    else if vOut < 50 then s.reply c stOK 0
    else
      let d := s.draw
      d.2.reply c stOK d.1))

end Sys2Proof.Machine
end

