-- ==== Sys2Proof/Machine/Outputs.lean ====
section
/-! DEFINITION. The safety outputs of 11_safety.md as two elements per output (R252, R253, R260), and what SAFE_HOLD
and the setting position do to every output (R22, R44). -/
namespace Sys2Proof.Machine

/-- A safety function's state beside its registers. -/
def State.fn (s : State) (k : Nat) : FnSt := nth s.saf.fn {} k
def State.updFn (s : State) (k : Nat) (f : FnSt → FnSt) : State := { s with saf := { s.saf with fn := upd s.saf.fn k f } }

/-- The two outputs of a pair as a mask. -/
def pairMask (p : Nat) : Nat := 3 * 4 ^ p

/-- Clear the bits of a mask. -/
def clearMask (v m : Nat) : Nat := v - (v &&& m)

/-- An output is energised while both its elements are closed (R252); SAF.OUTPUTS shows it. -/
def State.showOutputs (s : State) : State := s.put SAF_OUTPUTS_SO (s.saf.elemL &&& s.saf.elemH)

/-- Open or close an element of both outputs of a pair; path 0 is element L (lanes), 1 element H (hardwired). In the setting
position no element closes (R44, R24). -/
def State.setElem (s : State) (path p : Nat) (on : Bool) : State :=
  let m := pairMask p
  let f (v : Nat) : Nat := if on then (if s.settingPos then v else v ||| m) else clearMask v m
  State.showOutputs { s with saf := { s.saf with
    elemL := if path = 0 then f s.saf.elemL else s.saf.elemL
    elemH := if path = 1 then f s.saf.elemH else s.saf.elemH } }

/-- Whether a pair is energised. -/
def State.pairOn (s : State) (p : Nat) : Bool := (s.saf.elemL &&& s.saf.elemH &&& pairMask p) == pairMask p

/-- Whether the lanes may command a pair energised (R253, R262): every function whose OUT_MASK holds it is in RUN on the lane path,
and the pair is not latched. -/
def State.laneMayClose (s : State) (p : Nat) : Bool :=
  (s.get SAF_SO_FAULT_LATCH &&& pairMask p) == 0 &&
    (List.range 8).all (fun k => !(s.get (SAF_FN_CFG_OUT_MASK k)).testBit p || s.get (SAF_FN_CFG_TYPE k) == 0 ||
      decide (5 < s.get (SAF_FN_CFG_TYPE k)) || s.get (SAF_FN_STATE_LANE k) == 2)

/-- Element L of a pair opens with the next command set that the Case die applies (R14). Outside the running states the Case die's own
logic opens it. -/
def State.dropL (s : State) (p : Nat) : State :=
  if s.running then { s with saf := { s.saf with openL := natBit s.saf.openL p true } } else s.setElem 0 p false

/-- Whether readbacks are judged: VAUX at 18 V or above (R262). -/
def State.vauxJudges (s : State) : Bool := decide (1800 ≤ s.get PWR_VAUX_VAUX)

/-- Whether STOP1_MS delays the opening of a path's closed element of a MACHINE pair (R260). -/
def State.stop1Waits (s : State) (path p : Nat) : Bool :=
  s.get (SAF_PAIR_CFG_USE p) == 2 && s.get (SAF_PAIR_CFG_STOP1_MS p) != 0 &&
    (if path = 0 then s.saf.elemL else s.saf.elemH) &&& pairMask p != 0

/-- Open an element on a demand: after STOP1_MS on a MACHINE pair, otherwise element H at once and element L with the next command set
(R260, R252, R14). -/
def State.openElem (s : State) (path p : Nat) : State :=
  if s.stop1Waits path p then
    if path = 0 then
      { s with saf := { s.saf with
        stopL := natBit s.saf.stopL p true
        stopLAt := if s.saf.stopL.testBit p then s.saf.stopLAt else upd s.saf.stopLAt p (fun _ => s.now) } }
    else
      { s with saf := { s.saf with
        stopH := natBit s.saf.stopH p true
        stopHAt := if s.saf.stopH.testBit p then s.saf.stopHAt else upd s.saf.stopHAt p (fun _ => s.now) } }
  else if path = 0 then s.dropL p
  else s.setElem path p false

/-- The setting position de-energises every safety output at once (R260, R44). -/
def State.outputsOff (s : State) : State :=
  State.showOutputs { s with saf := { s.saf with elemL := 0, elemH := 0, stopL := 0, stopH := 0, heldL := none, openL := 0 } }

/-- Set a function's state on both paths. -/
def State.fnBoth (s : State) (k st : Nat) : State := (s.put (SAF_FN_STATE_STATE k) st).put (SAF_FN_STATE_LANE k) st

/-- STATUS.RUN and STATUS.FAULT follow the functions' states. -/
def State.fnStatus (s : State) : State :=
  forUpTo 8 (fun k u =>
    (u.putBit SAF_STATUS_RUN k (u.get (SAF_FN_STATE_STATE k) == 2)).putBit SAF_STATUS_FAULT k
      (u.get (SAF_FN_STATE_STATE k) == 3)) s

/-- The pilots' drive as the Case die forces it, without waiting for a period (R44). -/
def State.forceDrive (s : State) (n drive : Nat) : State :=
  ((s.cmdPilot n drive 0).updPilot n (fun p => { p with setDrive := drive, setDuty := 0, byOwner := none })).put (OUT_STATE_DRIVE n) drive

/-- The site line's transmitters go off (R332): the message in flight is queued again. -/
def State.siteStop (s : State) (st : Nat) : State :=
  let back := match s.sit.tx with | some x => [x.msg] | none => []
  let t := { s with sit := { s.sit with outq := back ++ s.sit.outq, tx := none, btx := [none, none, none] } }
  t.put SIT_STATUS_STATE (if s.get SIT_CFG_ROLE = 0 then 0 else st)

/-- The reader's field goes off (R44, R296): the card is gone, and an exchange ends with TIMEOUT. -/
def State.readerOff (s : State) : State :=
  let t := match s.nfc.ex with | some e => s.replyTo e.cmd.port e.cmd.seq stTIMEOUT 0 | none => s
  let t := ((t.wrN A_NFC_RD_CARD 0).wr128 A_NFC_RD_UID 0)
  { t with nfc := { t.nfc with ex := none, misses := 0 } }

/-- An UNLOCK that still waits is given up and answered REFUSED_STATE. -/
def State.dropUnlock (s : State) : State :=
  match s.saf.guard with
  | some g => { s.replyTo g.2.port g.2.seq stREFUSED_STATE 0 with saf := { s.saf with guard := none } }
  | none => s

/-- SAFE_HOLD (R22, R269, R283): every safety function STOPPED, safety outputs to their safe state, contactors open with
their weld proof, pilots to F, modules OFF, site line and reader off, load channels to their SAFE levels. -/
def State.holdOutputs (s : State) : State :=
  let t := forUpTo 8 (fun k u => u.fnBoth k 0) { s with saf := { s.saf with heldL := none, openL := 0 } }
  let t := t.fnStatus
  let t := forUpTo 12 (fun p u => (u.openElem 0 p).openElem 1 p) t
  let t := forUpTo 12 (fun n u => ((u.requestOpen n).moduleOff n).forceDrive n 2) t
  (t.siteStop 3).readerOff.dropUnlock.lcSafe

/-- The setting position of every output (R44): safety outputs de-energised, pilots F (high-impedance while VCPN is out
of range), load channels off, pulse outputs inactive, reader field off. -/
def State.settingOutputs (s : State) : State :=
  let t := s.outputsOff
  let t := forUpTo 12 (fun n u =>
    (((u.forceDrive n (if u.bitOf PWR_STATUS_IN_RANGE 2 then 2 else 3)).put (OUT_CONTACT_CMD n) 0).put
      (OUT_CONTACT_CSTATE n) (if u.isSet (OUT_CONTACT_LOCKOUT n) then 5 else 0)).moduleOff n) t
  let pls := t.mtr.pls.map (fun p => { p with active := false, due := [] })
  let t := { t with mtr := { t.mtr with pls := pls } }
  let t := { t with bzl := { t.bzl with write := none } }
  ((t.clr BZL_STATE_BUSY).siteStop 0).readerOff.dropUnlock.lcSetting

end Sys2Proof.Machine
end

