-- ==== Sys2Proof/Machine/Modes.lean ====
section
/-! DEFINITION. Entries into SAFE_HOLD, SETTING and RUNNING_SINGLE (R22, R422), and the ownership of the outputs
(R227, R235, R245): the shared operations behind every fault of those classes. -/
namespace Sys2Proof.Machine

/-- Enter SAFE_HOLD with a cause; a later cause of the same beat counts if its code is lower (R22, R426). The outputs of a part in RETURNED or
SCRAPPED stay in the setting position (R24). -/
def State.enterSafeHold (s : State) (code : Nat) : State :=
  if s.inRunning then
    let t := s.setGstate 5 code
    let t := if s.retiredPart then t else t.holdOutputs
    { t with glb := { t.glb with holdBeat := s.now } }
  else if s.gstate = 5 ∧ s.glb.holdBeat = s.now ∧ code < s.get GLB_STATE_CAUSE then s.put GLB_STATE_CAUSE code
  else s

/-- A fault of class SAFE_HOLD (R422). -/
def State.raiseHold (s : State) (code src p0 p1 : Nat) : State := (s.raise code SAFEHOLD src p0 p1).enterSafeHold code

/-- Enter SETTING with a cause (R22, R44, R43: the legal log records the entry); of two causes in one beat the lower
code stands (R426). -/
def State.enterSetting (s : State) (code : Nat) : State :=
  if s.gstate = 0 ∨ s.gstate = 1 then
    let t := (s.setGstate 2 code).settingOutputs
    (t.set1 CAL_EVENTS_IMAGE_NEEDED).legalLog 0x02 0 code
  else if s.gstate = 2 ∧ code ≠ 0 ∧ code < s.get GLB_STATE_CAUSE then s.put GLB_STATE_CAUSE code
  else s

/-- A fault of class SETTING (R422). -/
def State.raiseSetting (s : State) (code src p0 p1 : Nat) : State :=
  (s.raise code SETTINGCLASS src p0 p1).enterSetting code

/-- STANDBY_OK in GLB.STATE and its copy in RED.STATUS. -/
def State.setStandbyOk (s : State) (b : Bool) : State := (s.putB GLB_STATE_STANDBY_OK b).putB RED_STATUS_STANDBY_OK b

/-- Requests to the Mainplate that a condition on master and kind keeps; the others are withdrawn. -/
def State.keepReqs (s : State) (p : Nat → Bool → Bool) : State :=
  { s with mp := { s.mp with reqs := s.mp.reqs.filter (fun r => p r.master r.acc.write) } }

/-- Ownership in GLB.STATE and its copy in RED.STATUS (R227): only the owner's masters write the Mainplate. -/
def State.setOwner (s : State) (lane : Nat) : State :=
  let t := ((s.put GLB_STATE_ACTIVE lane).put RED_STATUS_OWNER lane).showStep
  t.keepReqs (fun m w => !w || decide (6 ≤ m) || m / 3 == lane)

/-- The domains of a lane and of its memories (R415): off while the lane is held in reset, the memories then in retention, and
both off while it is retired. -/
def State.laneDomains (s : State) (lane st : Nat) : State :=
  let b := 2 + 2 * lane
  let t := (s.putBit PWR_DOMAINS_ON b (st != 0 && st != 7)).putBit PWR_DOMAINS_ON (b + 1) (st != 0 && st != 7)
  t.putBit PWR_DOMAINS_RET (b + 1) (st == 0)

/-- RED state of a lane: 0 reset, 1 booting, 2 self-test, 3 copying, 4 catching up, 5 checking, 6 standby, 7 retired,
8 owner. -/
def State.laneState (s : State) (lane : Nat) : Nat :=
  if lane = 0 then s.get RED_STATUS_LA_STATE else s.get RED_STATUS_LB_STATE
def State.setLaneState (s : State) (lane v : Nat) : State :=
  (if lane = 0 then s.put RED_STATUS_LA_STATE v else s.put RED_STATUS_LB_STATE v).laneDomains lane v

/-- The other lane. -/
def other (lane : Nat) : Nat := 1 - lane

/-- Change the redundancy state. -/
def State.updRed (s : State) (f : RedSt → RedSt) : State := { s with red := f s.red }

/-- Whether a lane still runs (R23): states 6 and 8 of RED.STATUS. -/
def State.laneRuns (s : State) (lane : Nat) : Bool := s.laneState lane == 6 || s.laneState lane == 8

/-- Whether any lane still runs (R23). In SETTING and RUNNING a lane always serves. -/
def State.anyLane (s : State) : Bool := s.laneRuns 0 || s.laneRuns 1

/-- The lane that serves (R23): the one that owns the outputs, or owned them last, else the other one. -/
def State.servingLane (s : State) : Nat := if s.laneRuns s.owner then s.owner else other s.owner

/-- CLK_MAIN and CLK_SNS among the domains of CLK.STATUS.LOST, in the order of R417. -/
def cMAIN : Nat := 3
def cSNS : Nat := 4

/-- Whether a lane does the beat's essential work (log entry 26): RUNNING, or SAFE_HOLD while a lane still runs (R23) and the
beat still comes (R419). -/
def State.lanesWork (s : State) : Bool :=
  s.running || (s.gstate == 5 && !s.retiredPart && s.anyLane && !s.bitOf CLK_STATUS_LOST cSNS)

/-- Whether a lane that works reaches the mailboxes and MRAM too (R23): CLK_MAIN and CLK_SNS run. -/
def State.lanesReach (s : State) : Bool := s.lanesWork && !(s.gstate == 5 && s.bitOf CLK_STATUS_LOST cMAIN)

/-- Whether a tourbillon swap is wanted: by its period or R233, by RED_SWAP, or for a self-test of the owner (R249). -/
def State.swapWanted (s : State) : Bool := s.red.swapWait.isSome || s.red.swapCmd.isSome || s.red.testQueued

/-- RED.STATUS.SWAP_PEND. -/
def State.showSwap (s : State) : State := s.putB RED_STATUS_SWAP_PEND s.swapWanted

/-- The background self-test of a lane that is reset stops (R250). RED_SELFTEST for that lane, running or waiting for a swap, is answered
REFUSED_STATE, as in RUNNING_SINGLE. -/
def State.dropTest (s : State) (lane : Nat) : State :=
  let runs := s.isSet RED_SELFTEST_RUNNING && s.red.testLane == lane
  let mine := (runs && s.red.testRuns) || (s.red.testQueued && s.owner == lane)
  let t := when runs (fun u => u.clr RED_SELFTEST_RUNNING) s
  if mine then
    let t := match s.red.testCmd with
      | some c => t.replyTo c.port c.seq stREFUSED_STATE 0
      | none => t
    (t.updRed (fun r => { r with testCmd := none, testRuns := false, testQueued := false })).showSwap
  else t

/-- A lane is reset and rebooted (R245, R246): counted, its late-beat history, its waiting requests and its self-test dropped. -/
def State.resetLane (s : State) (lane : Nat) : State :=
  let t := ((s.dropTest lane).setLaneState lane 0).inc (RED_LANE_REBOOTS lane)
  let t := t.setStandbyOk false
  let t := ((t.put (RED_LANE_WINDOW lane) 0).clr KEY_STATUS_AGREED).storedStep lane
  let t := t.put ARB_CUTOFF_MASTER (clearMask (t.get ARB_CUTOFF_MASTER) (7 * 8 ^ lane))
  let t := t.keepReqs (fun m _ => decide (6 ≤ m) || m / 3 != lane)
  let t := { t with esc := { t.esc with
    lateA := if lane = 0 then [] else t.esc.lateA
    lateB := if lane = 1 then [] else t.esc.lateB
    failedA := if lane = 0 then false else t.esc.failedA
    failedB := if lane = 1 then false else t.esc.failedB
    queueA := if lane = 0 then [] else t.esc.queueA
    queueB := if lane = 1 then [] else t.esc.queueB
    runA := if lane = 0 then [] else t.esc.runA
    runB := if lane = 1 then [] else t.esc.runB } }
  t.updRed (fun r => { r with
    resignA := if lane = 0 then none else r.resignA
    resignB := if lane = 1 then none else r.resignB
    attempt := none
    clean := 0
    retryWait := none
    handover := 0
    unacked := []
    jnl := { r.jnl with recs := [], inbox := [], stbSeq := none, shadow := none, crcs := none }
    step := 0
    beatTaken := none
    stall := 0
    lostA := if lane = 0 then some s.now else r.lostA
    lostB := if lane = 1 then some s.now else r.lostB })

/-- The standby is lost (R245): RUNNING_SINGLE, the lane held in reset; `fault` is false for a standby taken out on
purpose, which raises nothing, opens no recovery window and leaves CAUSE 0. Between a takeover's decision and its completion there is none. -/
def State.loseStandby (s : State) (fault : Bool) : State :=
  if s.gstate = 3 ∧ s.red.takeover.isNone then
    let lane := other s.owner
    let t := (s.setGstate 4 (if fault then 0x6005 else 0)).resetLane lane
    let t := t.updRed (fun r => { r with attempt := some s.now })
    when fault (fun u => (((u.set1 RED_STATUS_REC_WIN).set1 RED_EVENTS_STANDBY_LOST).set1 GLB_EVENTS_LANE).raise 0x6005 DEGRADE srcCase lane 0) t
  else s

/-- A lane declares a lane-level fault and resigns on both heartbeat paths (R237); the voter acts on the resignation
(R235). In SAFE_HOLD such a lane runs no longer (R23). -/
def State.resign (s : State) (lane code : Nat) : State :=
  if s.gstate = 5 then s.setLaneState lane 0
  else s.updRed (fun r => { r with
    resignA := if lane = 0 then (if r.resignA.isSome then r.resignA else some code) else r.resignA
    resignB := if lane = 1 then (if r.resignB.isSome then r.resignB else some code) else r.resignB })

/-- Whether a lane has run in the present beat (R62): it runs, or the voter has lost it in this beat. -/
def State.ranInBeat (s : State) (lane : Nat) : Bool :=
  s.laneRuns lane || (if lane = 0 then s.red.lostA else s.red.lostB) == some s.now

/-- The owner of the present beat (R62): the lane that owns the outputs, or the one that a takeover of this beat has replaced. -/
def State.beatOwner (s : State) : Nat :=
  match s.red.takeover with | some t => if t.beat = s.now then other t.lane else s.owner | none => s.owner

/-- The lane-level fault a lane resigned on. -/
def State.resigned (s : State) (lane : Nat) : Option Nat := if lane = 0 then s.red.resignA else s.red.resignB

/-- A takeover's decision moves ownership to the other lane (R227, R235, R239), and is recorded with its cause. -/
def State.moveOwner (s : State) (code : Nat) : State :=
  let t := (s.setOwner (other s.owner)).set1 GLB_EVENTS_LANE
  let t := (t.wrN A_RED_LAST_TO_BEAT (s.now % 2 ^ 32)).put RED_LAST_TO_CAUSE code
  if code = 0x6003 then t.inc RED_TAKEOVERS_LOSS else t.inc RED_TAKEOVERS_RESIGN

/-- The owner is lost (R235, R236, R248): a takeover when the standby is synchronised, else SAFE_HOLD with 0x600B.
`code` is 0x6003 for heartbeat loss and 0x6004 for a resignation, `p1` the lane-level fault, `off` the decision's offset
in the beat in ns. -/
def State.loseOwner (s : State) (code p1 off : Nat) : State :=
  let lane := s.owner
  if s.inRunning then
    if s.gstate = 3 ∧ s.standbyOk then
      let t := s.raise code DEGRADE srcCase lane p1
      let t := ((t.resetLane lane).set1 RED_STATUS_REC_WIN).moveOwner code
      (t.setLaneState (other lane) 8).updRed (fun r => { r with
        takeover := some { lane := other lane, code := code, beat := s.now, at_ := off }
        resignA := none
        resignB := none })
    else
      let t := (s.setLaneState lane 0).updRed (fun r => { r with
        lostA := if lane = 0 then some s.now else r.lostA
        lostB := if lane = 1 then some s.now else r.lostB
        takeover := none })
      t.raiseHold 0x600B srcCase lane p1
  else s

/-! ### Activations (R396, R397, R399) -/

/-- Change the update state. -/
def State.updUpd (s : State) (f : UpdSt → UpdSt) : State := { s with fwu := f s.fwu }

/-- Whether an activation of LANE_FW or BEAT_LIB is in progress. -/
def State.laneAct (s : State) : Bool :=
  match s.fwu.act with | some a => a.comp == 1 || a.comp == 2 | none => false

/-- The running version of a component is written back into flash (R394). -/
def State.startRestore (s : State) (comp : Nat) : State :=
  let t := s.updUpd (fun u => { u with restore := some comp })
  ((t.put UPD_STATUS_PHASE 3).put UPD_STATUS_COMPONENT comp).put (UPD_C_STATE_ENTRY comp) 1

/-- An activation ends with 0xB109, and the old version is restored (R397). -/
def State.actFail (s : State) : State :=
  match s.fwu.act with
  | some a =>
    let t := (s.raise 0xB109 DEGRADE s.srcOwner a.comp 0).set1 UPD_EVENTS_FAILED
    let t := (t.updUpd (fun u => { u with act := none, abandon := false })).startRestore a.comp
    t.replyTo a.cmd.port a.cmd.seq stREFUSED_STATE 0xB109
  | none => s

/-- An activation completes (R396): the component runs its flash version. -/
def State.actDone (s : State) : State :=
  match s.fwu.act with
  | some a =>
    let r := nth s.fwu.flash {} a.comp
    let t := s.updUpd (fun u => { u with run := upd u.run a.comp (fun _ => r), act := none, abandon := false })
    let t := (t.put (UPD_C_RUN_VERSION a.comp) r.version).clr (UPD_C_STATE_PENDING a.comp)
    let t := (t.set1 UPD_EVENTS_ACTIVATED).put UPD_STATUS_PHASE 0
    let t := when (a.comp == 1) (fun u => (u.put UPD_MIRROR_ALT r.alt).put UPD_MIRROR_SPOKEN r.mirror) t
    t.replyTo a.cmd.port a.cmd.seq stOK 0
  | none => s

/-- An activation that a power-fail warning has abandoned stops at its next step; flash keeps the new version (R399). -/
def State.actAbandon (s : State) : State :=
  match s.fwu.act with
  | some a =>
    let t := (s.updUpd (fun u => { u with act := none, abandon := false })).put UPD_STATUS_PHASE 2
    t.replyTo a.cmd.port a.cmd.seq stREFUSED_STATE 0
  | none => s

/-- An activation goes to a stage, or is abandoned there (R396, R399). -/
def State.actStage (s : State) (n : Nat) (f : State → State) : State :=
  if s.fwu.abandon then s.actAbandon
  else f (s.updUpd (fun u => { u with act := u.act.map (fun a => { a with stage := n }) }))

end Sys2Proof.Machine
end

