-- ==== Sys2Proof/Machine/Journal.lean ====
section
/-! DEFINITION. The records and entries of the journal of 10_lanes.md (R228 to R232): their bytes, their sizes, and what the standby does with
them. -/
namespace Sys2Proof.Machine

def State.updJnl (s : State) (f : JnlSt → JnlSt) : State := s.updRed (fun r => { r with jnl := f r.jnl })

/-! ### Records (R231) -/

/-- Record types (R231). -/
def jCMD : Nat := 0x01
def jREPLY : Nat := 0x02
def jV2G : Nat := 0x04
def jCAN : Nat := 0x05
def jMRAM : Nat := 0x06
def jALLOC : Nat := 0x08
def jEVENT : Nat := 0x09
def jSTEP : Nat := 0x0A
def jSITE : Nat := 0x0B

/-- The data go as a bulk block: V2G payloads, and whatever exceeds 48 bytes. -/
def JRecord.onBulk (r : JRecord) : Bool := r.bulk || decide (48 < r.data.length)

/-- The length of a record: 8 bytes of header, the payload, the data or the 32-byte digest of their block; in whole 4-byte units. -/
def JRecord.size (r : JRecord) : Nat := (8 + r.head.length + (if r.onBulk then 32 else r.data.length) + 3) / 4 * 4

/-- The bytes of its bulk block. -/
def JRecord.bulkSize (r : JRecord) : Nat := if r.onBulk then r.data.length else 0

/-- TYPE, LEN, KEY, ISEQ and the payload (R231). -/
def JRecord.bytes (r : JRecord) : List Byte :=
  let tail := if r.onBulk then (sha256 (r.data.map BitVec.toNat)).map (BitVec.ofNat 8) else r.data
  padTo r.size (le 1 r.type ++ le 1 (r.size / 4) ++ le 2 r.key ++ le 4 r.iseq ++ r.head ++ tail)

/-! ### Entries (R230) -/

/-- The bytes of a list of records, in an entry and in bulk blocks. -/
def recRoom (rs : List JRecord) : Nat := (rs.map JRecord.size).sum
def bulkRoom (rs : List JRecord) : Nat := (rs.map JRecord.bulkSize).sum

/-- Records in their order as far as `room` bytes of the entry and `bulk` bytes of blocks hold them, and those that wait. -/
def fitRecords : Nat → Nat → List JRecord → List JRecord × List JRecord
  | _, _, [] => ([], [])
  | room, bulk, r :: rs =>
    if r.size ≤ room ∧ r.bulkSize ≤ bulk then
      let t := fitRecords (room - r.size) (bulk - r.bulkSize) rs
      (r :: t.1, t.2)
    else ([], r :: rs)

/-- What the header of 32 bytes and the CRC leave of 3 072 bytes; the bulk bytes of a beat. -/
def entryRoom : Nat := 3036
def beatBulk : Nat := 16384

/-- LENGTH in 16-byte units (R230). -/
def JEntry.units (e : JEntry) : Nat := (36 + recRoom e.records + 15) / 16

/-- FLAGS (R230): HANDOVER, SNAPSHOT, BULK. -/
def JEntry.flags (e : JEntry) : Nat :=
  (if e.handover then 1 else 0) + (if e.snapshot then 2 else 0) + (if e.records.any JRecord.onBulk then 4 else 0)

/-- The entry as it goes over the mirror link (R230). -/
def JEntry.bytes (e : JEntry) : List Byte :=
  let h := le 6 e.beat ++ le 2 e.units ++ le 4 e.jseq ++ le 4 e.flags ++ le 4 e.crcs.cmd.toNat ++ le 4 e.crcs.inc.toNat ++
    le 4 e.crcs.tot.toNat ++ le 4 e.crcs.ses.toNat
  let body := padTo (16 * e.units - 4) (h ++ e.records.flatMap JRecord.bytes)
  body ++ le 4 (crc32 body)

/-! ### The standby (R228, R232) -/

/-- A record replaces the last one of its TYPE and KEY. -/
def keepRecord (l : List JRecord) (r : JRecord) : List JRecord := r :: l.filter (fun x => !(x.type == r.type && x.key == r.key))

/-- The standby applies a record: an MP_WR to its own copy of the Mainplate regions that the owner writes; of the others it keeps the last
of each item. -/
def JnlSt.apply (j : JnlSt) (r : JRecord) : JnlSt :=
  if r.type = jMPWR then { j with stbRam := Memory.storeAll j.stbRam (ramOff (ofLe (r.head.take 4))) r.data }
  else { j with stbRecs := keepRecord j.stbRecs r }

/-- The standby applies what it has received of the journal (R232). -/
def State.applyEntries (s : State) : State :=
  s.updJnl (fun j => { j.inbox.foldl JnlSt.apply j with inbox := [] })

end Sys2Proof.Machine
end

