-- ==== Sys2Proof/Machine/Lanes.lean ====
section
/-! DEFINITION. The lanes of 10_lanes.md: the journal and its cross-check, heartbeats and the voter, takeover, loss of
the standby, reboot and resynchronisation, the tourbillon swap, and the commands 0x07xx. -/
namespace Sys2Proof.Machine

/-- A difference of the cross-check in the last 24 h (R233). -/
def dayBeats : Nat := 3456000000

/-- A swap falls due (R249, R233). -/
def State.wantSwap (s : State) : State :=
  (s.updRed (fun r => { r with swapWait := if r.swapWait.isSome then r.swapWait else some s.now })).showSwap

/-- Start the background self-test of a lane with a mask of test groups (R250), for RED_SELFTEST or after a swap. -/
def State.startTest (s : State) (lane mask : Nat) (command : Bool) : State :=
  let t := s.updRed (fun r => { r with
    testLane := lane
    testMask := mask
    testRuns := command
    testQueued := r.testQueued && !command
    legalMono := if mask.testBit 3 then s.mono else r.legalMono })
  ((((t.set1 RED_SELFTEST_RUNNING).put RED_SELFTEST_LANE lane).put RED_SELFTEST_FAILED 0).put RED_SELFTEST_PROGRESS 0).showSwap

/-- The background self-test of the standby advances, finishes or fails (R250): percent done, failing groups. A failure
is a lane-level fault of the standby, which is lost with 0x600E; a failed legal flash check also raises 0x4010 (R130). -/
def State.selfTestSlice (s : State) (percent failed : Nat) : State :=
  if s.isSet RED_SELFTEST_RUNNING then
    let t := (s.putSat RED_SELFTEST_PROGRESS (min percent 100)).put RED_SELFTEST_FAILED failed
    if percent ≥ 100 ∨ failed ≠ 0 then
      let t := (t.clr RED_SELFTEST_RUNNING).set1 RED_EVENTS_SELFTEST
      let t := match t.red.testCmd with
        | some c => when t.red.testRuns (fun u => (u.replyTo c.port c.seq stOK failed).updRed (fun r => { r with testCmd := none, testRuns := false })) t
        | none => t
      if failed ≠ 0 then
        let lane := t.red.testLane
        let t := when (failed.testBit 3) (fun u => u.raise 0x4010 DEGRADE (u.srcLane lane) lane 0) t
        (t.raise 0x600E DEGRADE (t.srcLane lane) lane failed).loseStandby true
      else t
    else t
  else s

/-- The tourbillon swap moves ownership (R249): roles change, nothing is replayed, the new standby is self-tested
(R250), and a voter channel that agrees votes again (R238). A self-test of RED_SELFTEST that runs on the lane that becomes the owner waits
for a swap (R68, R250). -/
def State.doSwap (s : State) : State :=
  let old := s.owner
  let new := other old
  let t := (s.setOwner new).setLaneState new 8
  let t := t.setLaneState old 6
  let t := ((t.inc RED_SWAP_STAT_COUNT).set1 RED_EVENTS_SWAP).set1 GLB_EVENTS_LANE
  let t := forUpTo 3 (fun k u => when (nth u.red.voteDiff 0 k == 0) (fun v => v.putBit RED_STATUS_V_OK k true) u) t
  let t := match t.red.swapCmd with
    | some c => t.replyTo c.port c.seq stOK 0
    | none => t
  let t := t.updUpd (fun u => { u with act := u.act.map (fun a => if a.comp ≤ 2 && a.stage == 2 then { a with stage := 3 } else a) })
  let t := t.updRed (fun r => { r with
    swapWait := none
    swapDeferred := false
    swapCmd := none
    handover := 0
    swapMono := s.mono })
  if t.red.testQueued then t.startTest old t.red.queueMask true
  else
    let t := when t.red.testRuns (fun u => u.updRed (fun r => { r with testRuns := false, testQueued := true, queueMask := r.testMask })) t
    t.startTest old 0x1F false

/-- Differences in CRC_CMD and CRC_SES are not counted while the lanes run different versions and the new image sets MIXED_DIFF
(R396). -/
def State.mixedDiff (s : State) : Bool :=
  match s.fwu.act with | some a => a.comp == 1 && (nth s.fwu.flash {} 1).mixed | none => false

/-- The CRCs in which two lanes' beats differ: bit 0 CRC_CMD, 1 CRC_INC, 2 CRC_TOT, 3 CRC_SES (R233). -/
def BeatCrcs.diff (x y : BeatCrcs) : Nat :=
  (if x.cmd = y.cmd then 0 else 1) + (if x.inc = y.inc then 0 else 2) + (if x.tot = y.tot then 0 else 4) + (if x.ses = y.ses then 0 else 8)

/-- RED.CHECKS.DAY: the differences of the last 24 h (R233). -/
def State.ageDay (s : State) : State :=
  let day := s.red.diffs.filter (fun b => decide (s.now < b + dayBeats))
  if day.length = s.red.diffs.length then s
  else (s.updRed (fun r => { r with diffs := day })).putSat RED_CHECKS_DAY day.length

/-- The standby takes a copy of the owner's state (R233, R246): the Mainplate regions that the owner writes, the last record of each item, the
command set. -/
def JnlSt.copy (j : JnlSt) (ram : List Host.Cell) (set : CmdSet) : JnlSt :=
  { j with
    stbRam := ram
    stbRecs := j.seen.map (fun x => { type := x.1, key := x.2.1, iseq := j.iseq, head := [], data := x.2.2 })
    shadow := some set }

/-- The command set of the beat as the owner sends it (R14). -/
def State.setOf (s : State) : CmdSet :=
  { elemL := s.saf.elemL
    pilots := (List.range 12).map (fun n => ((s.o n).pilot.cmdDrive, (s.o n).pilot.cmdDuty))
    lc := sumN ((List.range 16).map (fun k => s.get (LCH_STATE_CMD k) * 2 ^ k)) }

/-- JOURNAL_ENTRY_APPLY (R232, R233): the standby applies the records of the owner's entries to its own state and compares the four CRCs of
the entry with those of its own computation of the beat, `own`; the flags say whose pallet checker flags the beat. While path M is down
no entry comes, and the cross-check waits for the journal. -/
def execJournalEntryApply (own : BeatCrcs) (ownerFlag standbyFlag : Bool) (s : State) : Out :=
  let lane := other s.owner
  match s.red.jnl.crcs with
  | none => .next s
  | some e =>
  if s.running ∧ 4 ≤ s.laneState lane ∧ s.laneState lane ≤ 6 ∧ e.1 = s.beat then
    .next (State.within (fun s =>
      let s := (s.applyEntries).updJnl (fun j => { j with crcs := none })
      let diff := if s.mixedDiff then e.2.diff own / 2 % 4 * 2 else e.2.diff own
      if diff = 0 then s.updRed (fun r => { r with clean := r.clean + 1 })
      else if ownerFlag then s.resign s.owner 0
      else if standbyFlag then
        if s.gstate = 3 then s.loseStandby true else s.updRed (fun r => { r with clean := 0 })
      else
        let day := s.now :: s.red.diffs.filter (fun b => decide (s.now < b + dayBeats))
        let t := s.updRed (fun r => { r with diffs := day, clean := 0 })
        let t := (t.set1 RED_EVENTS_MISMATCH).putSat RED_CHECKS_DAY day.length
        let t := (t.raise 0x6006 NOTE (t.srcLane lane) diff 0).updJnl (fun j => j.copy t.ram t.setOf)
        when (decide (day.length ≥ 3)) State.wantSwap t) s)
  else .next s

/-- JOURNAL_ACK (R232, R229, R249): the acknowledgement carries the JSEQ of an entry that the standby has; it and the entries before it are dropped, and
the decisions of their beats may be released. -/
def execJournalAck (jseq : Nat) (s : State) : Out :=
  match s.red.unacked.find? (fun e => e.jseq == jseq && e.got) with
  | some e =>
    let rest := (s.red.unacked.dropWhile (fun d => d.jseq != jseq)).drop 1
    let t := s.updRed (fun r => { r with
      unacked := rest
      ackedBeat := max r.ackedBeat e.beat
      stall := 0
      handover := if e.handover && r.handover == 1 && e.beat == s.beat then 2 else r.handover })
    .next ((t.wrN A_RED_JSEQ jseq).putSat RED_JOURNAL_NOW rest.length)
  | none => .next s

/-- JOURNAL_STALL (R232): 40 beats without an acknowledgement while the standby's heartbeats arrive; it is treated as lost. -/
def execJournalStall (s : State) : Out :=
  if s.gstate = 3 ∧ 40 ≤ s.red.stall ∧ s.red.stbHeard then
    .next (State.within (fun s => (s.raise 0x6007 DEGRADE (s.srcLane s.owner) (other s.owner) 0).loseStandby true) s)
  else .next s

/-- No lane is left (R235): a takeover, which moves ownership and is recorded with its cause, followed at once by a lane-level fault of the new
owner. -/
def State.noLane (s : State) (code p1 : Nat) : State :=
  let t := (s.setGstate 4 code).moveOwner code
  let t := (t.setLaneState 0 0).setLaneState 1 0
  let t := t.updRed (fun r => { r with lostA := some s.now, lostB := some s.now, resignA := none, resignB := none })
  ((t.set1 RED_STATUS_REC_WIN).setStandbyOk false).raiseHold 0x600B srcCase t.owner p1

/-- A heartbeat counts on a path when it has come in time with the beat number and a right CRC (R234). -/
def HeartMsg.good (n : Nat) (m : Option HeartMsg) : Bool := match m with | some x => x.crcOk && x.beat == n | none => false

/-- A heartbeat that counts carries RESIGN (R235). -/
def HeartMsg.resigns (n : Nat) (m : Option HeartMsg) : Bool := HeartMsg.good n m && (match m with | some x => x.resign | none => false)

/-- RESIGN on either path. -/
def Heart.resigns (h : Heart) (n : Nat) : Bool := HeartMsg.resigns n h.m || HeartMsg.resigns n h.c

/-- A path fault (R235): counted; a fault that begins raises its code. -/
def State.pathFault (s : State) (m : Bool) (lane : Nat) : State :=
  let flag := if m then RED_STATUS_PATH_M else RED_STATUS_PATH_C
  let t := if m then s.inc RED_CHECKS_PATH_M else s.inc RED_CHECKS_PATH_C
  let t := t.updRed (fun r => { r with pathBeat := some s.now })
  if s.isSet flag then t
  else (((t.set1 flag).set1 RED_EVENTS_PATH).set1 GLB_EVENTS_LANE).raise (if m then 0x6001 else 0x6002) NOTE srcCase lane 0

/-- The voter's own channels (R238): a channel that differs from the majority in two consecutive beats is faulty. -/
def State.voterChannels (s : State) (differs : Nat) : State :=
  let t := when (decide (differs ≠ 0)) (fun u => u.inc RED_CHECKS_VOTE) s
  let t := t.updRed (fun r => { r with
    voteDiff := (List.range 3).map (fun k => if differs.testBit k then nth r.voteDiff 0 k + 1 else 0) })
  forUpTo 3 (fun k u =>
    when (u.bitOf RED_STATUS_V_OK k && decide (nth u.red.voteDiff 0 k ≥ 2)) (fun v =>
      let v := ((v.putBit RED_STATUS_V_OK k false).set1 RED_EVENTS_VOTER).raise 0x6009 NOTE srcCase k 0
      let left := (List.range 3).filter (fun j => v.bitOf RED_STATUS_V_OK j)
      when (decide (left.length < 2)) (fun w => w.raiseHold 0x600A srcCase k 0) v) u) t

/-- The heartbeats of the beat as the voter's registers hold them (R234): those of both lanes, and each lane's verdict on the other's path-M
heartbeat. -/
def State.takeHearts (s : State) (own stb : Heart) : State :=
  let mOk (h : Heart) : Bool := HeartMsg.good s.now h.m
  s.updRed (fun r => { r with
    hearts := if s.owner = 0 then [own, stb] else [stb, own]
    verdicts := if s.owner = 0 then [mOk stb, mOk own] else [mOk own, mOk stb]
    stbHeard := mOk stb || HeartMsg.good s.now stb.c })

/-- HEARTBEAT_VOTE (R234, R235, R238): the heartbeats of the owner and of the other lane as they stand at the start of pallet 13, and
which voter channels differ from the majority (a bit each). A rebooting lane sends heartbeats from when it has taken the beat count
(R246 step 7), and a path of it that is lost is a path fault with no switch (R248). A lane both of whose paths are lost in SAFE_HOLD runs no longer (R23). -/
def execHeartbeatVote (own stb : Heart) (differs : Fin 8) (s : State) : Out :=
  if s.inRunning then
    .next (State.within (fun s =>
      let lane := s.owner
      let oth := other lane
      let ownM := HeartMsg.good s.now own.m
      let ownC := HeartMsg.good s.now own.c
      let stbM := HeartMsg.good s.now stb.m
      let stbC := HeartMsg.good s.now stb.c
      let t := (s.voterChannels differs).takeHearts own stb
      let synced := decide (s.gstate = 3) && s.red.takeover.isNone
      let ownLost := !ownM && !ownC
      let ownGone := ownLost || own.resigns s.now || (s.resigned lane).isSome
      let stbGone := synced && ((!stbM && !stbC) || stb.resigns s.now || (s.resigned oth).isSome)
      let code := (s.resigned lane).getD 0
      if ownGone && stbGone then t.noLane (if ownLost then 0x6003 else 0x6004) code
      else if ownGone then
        if ownLost then t.loseOwner 0x6003 0 20812 else t.loseOwner 0x6004 code 20812
      else
        let sends := synced || s.red.beatTaken.isSome
        let mLost := !ownM || (sends && !stbM && stbC)
        let cLost := !ownC || (sends && !stbC && stbM)
        let t := if mLost then t.pathFault true (if ownM then oth else lane) else t.clr RED_STATUS_PATH_M
        let t := if cLost then t.pathFault false (if ownC then oth else lane) else t.clr RED_STATUS_PATH_C
        when stbGone (fun u => u.loseStandby true) t) s)
  else if s.gstate = 5 then
    .next (State.within (fun s =>
      let gone (h : Heart) : Bool := !HeartMsg.good s.now h.m && !HeartMsg.good s.now h.c
      let t := (s.voterChannels differs).takeHearts own stb
      let t := when (gone own && t.laneRuns t.owner) (fun u => u.setLaneState u.owner 0) t
      when (gone stb && t.laneRuns (other t.owner)) (fun u => u.setLaneState (other u.owner) 0) t) s)
  else .next s

/-- RESIGNATION (R235, R237, R248): a heartbeat of a lane that has declared itself failed, with RESIGN set, is received
at an offset in the beat (ns). A rebooting lane's own fault is left to RESYNC_ATTEMPT_FAIL. -/
def execResignation (lane : Fin 2) (off : Nat) (s : State) : Out :=
  match s.resigned lane with
  | some code =>
    if s.inRunning then
      .next (State.within (fun s =>
        if lane.val = s.owner then
          if s.gstate = 3 ∧ (s.resigned (other lane)).isSome then s.noLane 0x6004 code
          else s.loseOwner 0x6004 code (min off 24999)
        else s.loseStandby true) s)
    else .next s
  | none => .next s

/-- The record of a takeover (0x0705): beat, cause, interval, A, JSEQ. -/
def TakeoverRec.bytes (r : TakeoverRec) : List Byte :=
  le 8 r.beat ++ le 2 r.cause ++ le 2 r.gap ++ le 8 r.a ++ le 4 r.jseq ++ List.replicate 8 0#8

/-- The next output update after a completion, in ns (R240). -/
def State.nextUpdate (s : State) (m completion : Nat) : Nat :=
  if s.red.appliedBeat ≥ m then (m + 1) * 25000 + 15625 else max completion (m * 25000 + 15625)

/-- The record of a completed takeover (R239 to R241): GAP in 10 ns, its largest value, the list of the last 16. -/
def State.recordTakeover (s : State) (t : Takeover) (ns : Nat) : State :=
  let nxt := s.nextUpdate t.beat (t.beat * 25000 + t.at_ + ns)
  let gap := min ((nxt - s.red.lastUpdate) / 10) 0xFFFF
  let u := (s.put RED_LAST_TO_GAP gap).raiseTo RED_GAP_MAX_GAP gap
  u.updRed (fun r => { r with
    lastUpdate := if r.appliedBeat ≥ t.beat then r.lastUpdate else nxt
    appliedBeat := max r.appliedBeat t.beat
    takeover := none
    records := { beat := t.beat, cause := t.code, gap := gap, a := r.ackedBeat, jseq := r.jseq } :: r.records.take 15 })

/-- Completion has not occurred 10 µs after the decision (R239): the Case die enters SAFE_HOLD. -/
def State.takeoverLate (s : State) (t : Takeover) : State :=
  (s.updRed (fun r => { r with takeover := none })).raiseHold 0x600F srcCase t.lane 0

/-- TAKEOVER_LATE (R239). -/
def execTakeoverLate (s : State) : Out :=
  match s.red.takeover with
  | some t => if s.inRunning then .next (s.takeoverLate t) else .next s
  | none => .next s

/-- LANE_RESET_RELEASE (R246 step 1): the 1 ms reset of a lost lane ends; its PLL locks again (R417). -/
def execLaneResetRelease (lane : Fin 2) (s : State) : Out :=
  match s.red.attempt with
  | some b =>
    if s.inRunning ∧ lane.val ≠ s.owner ∧ s.laneState lane = 0 ∧ b + 40 ≤ s.now then
      .next ((((s.setLaneState lane 1).putBit CLK_STATUS_LOST (1 + lane) false).putBit CLK_STATUS_LOCK lane true).updRed
        (fun r => { r with step := 1, beatTaken := none }))
    else .next s
  | none => .next s

/-- A step of the resynchronisation is reached (R246 steps 2 to 8), each after the one before it; while path M is down the attempt waits (R248):
2 the resident loader verified, 3 the firmware set loaded, 4 the lane's part of the running image applied, its digest equal to the running
image's, 5 self-test done, 6 state copied from beat s, 7 entries applied and the beat count taken, 8 the cross-check has run 4 000 beats without
a difference. -/
def State.resyncStep (s : State) (step digest : Nat) : State :=
  let lane := other s.owner
  let st := s.laneState lane
  let go (u : State) : State := u.updRed (fun r => { r with step := step })
  if s.gstate = 4 ∧ s.red.attempt.isSome ∧ 1 ≤ st ∧ st ≤ 4 ∧ step = s.red.step + 1 ∧ !s.isSet RED_STATUS_PATH_M then
    if step = 4 then (if digest = s.cal.run.digest then go (s.set1 KEY_STATUS_AGREED) else s)
    else if step = 5 then go (s.setLaneState lane 2)
    else if step = 6 then (if s.red.jnl.stbSeq.isSome then go (s.setLaneState lane 3) else s)
    else if step = 7 then (go (s.applyEntries.setLaneState lane 4)).updRed (fun r => { r with clean := 0, beatTaken := some s.now })
    else if step = 8 then (if s.red.clean ≥ 4000 then go (s.setLaneState lane 5) else s)
    else go s
  else s

/-- Answer the command RED_LANE_RESTART or RED_LANE_ENABLE that waits. -/
def State.answerLane (s : State) (status param : Nat) : State :=
  match s.red.laneCmd with
  | some c => (s.replyTo c.port c.seq status param).updRed (fun r => { r with laneCmd := none })
  | none => s

/-- The stage of an activation of LANE_FW or BEAT_LIB, 0 for none. -/
def State.laneStage (s : State) : Nat :=
  match s.fwu.act with | some a => if s.laneAct then a.stage else 0 | none => 0

/-- A lane is synchronised on a new image (R396): after the first reboot both lanes speak MIRROR_ALT, or MIRROR where the two
are equal, and a swap follows, in place of one that is pending (R399); after the second the activation completes. A clock step
that is due is applied here (R409). -/
def State.actResync (s : State) : State :=
  let lane := other s.owner
  let s := when ((s.laneStage == 1 || s.laneStage == 4) && s.isSet (WEAR_LANE_DUE lane)) (fun u => u.applyStep lane) s
  if s.laneStage = 1 then
    s.actStage 2 (fun t =>
      let old := nth t.fwu.run {} 1
      let new := nth t.fwu.flash {} 1
      (t.put UPD_MIRROR_SPOKEN (if new.mirror = old.mirror then new.mirror else new.alt)).wantSwap)
  else if s.laneStage = 4 then (if s.fwu.abandon then s.actAbandon else s.actDone)
  else s

/-- The swap of an activation is followed in the next beat by the reboot of the new standby (R396). -/
def State.actSecond (s : State) : State :=
  if s.laneStage = 3 then s.actStage 4 (fun t => t.loseStandby false) else s

/-- An attempt to resynchronise has run for 2 s (R247). -/
def State.attemptOld (s : State) : Bool := match s.red.attempt with | some b => decide (b + 80000 ≤ s.now) | none => true

/-- LANE_RESYNC_DONE (R246 step 9, R22, R247, R248): the lane is synchronised, within 2 s. -/
def execLaneResyncDone (lane : Fin 2) (s : State) : Out :=
  if s.gstate = 4 ∧ lane.val ≠ s.owner ∧ s.laneState lane = 5 ∧ !s.attemptOld then
    let t := ((s.setLaneState lane 6).setStandbyOk true).setGstate 3 0
    let t := ((t.put (RED_LANE_TRIES lane) 0).set1 RED_EVENTS_RESYNC_DONE).clr RED_STATUS_REC_WIN
    let t := t.updRed (fun r => { r with attempt := none, abandoned := false })
    .next ((t.answerLane stOK 0).actResync)
  else .next s

/-- RESYNC_ATTEMPT_FAIL (R247, R248): a step fails, or step 9 is not reached within 2 s; the third failure in sequence
retires the lane. -/
def execResyncAttemptFail (lane : Fin 2) (failed : Bool) (s : State) : Out :=
  match s.red.attempt with
  | some b =>
    if s.gstate = 4 ∧ lane.val ≠ s.owner ∧ (failed ∨ b + 80000 ≤ s.now) then
      let tries := min (s.get (RED_LANE_TRIES lane) + 1) 3
      let t := (s.put (RED_LANE_TRIES lane) tries).set1 RED_EVENTS_RESYNC_FAIL
      let t := t.raise 0x6008 DEGRADE (t.srcLane t.owner) lane 0
      let t := t.updRed (fun r => { r with
        attempt := none
        clean := 0
        step := 0
        beatTaken := none
        retryWait := if tries ≥ 3 then none else some (s.now + 10 * secBeats)
        resignA := if lane.val = 0 then none else r.resignA
        resignB := if lane.val = 1 then none else r.resignB })
      let t := when (decide (t.laneStage = 1) || decide (t.laneStage = 4)) State.actFail t
      if tries ≥ 3 then
        let t := (t.setLaneState lane 7).raise 0x600C DEGRADE (t.srcLane t.owner) lane 0
        .next (t.answerLane stREFUSED_STATE 0x6008)
      else .next (t.setLaneState lane 0)
    else .next s
  | none => .next s

/-- RESYNC_RETRY (R247): 10 s after a failed attempt it is made again from step 1. -/
def execResyncRetry (lane : Fin 2) (s : State) : Out :=
  match s.red.retryWait with
  | some b =>
    if s.gstate = 4 ∧ lane.val ≠ s.owner ∧ b ≤ s.now then
      .next ((s.inc (RED_LANE_REBOOTS lane)).updRed (fun r => { r with retryWait := none, attempt := some s.now }))
    else .next s
  | none => .next s

/-- TOURBILLON_DUE (R249): PERIOD hours after the last swap; 0 disables. -/
def execTourbillonDue (s : State) : Out :=
  if s.inRunning ∧ s.get RED_SWAP_CFG_PERIOD ≠ 0 ∧ s.red.swapMono + 3600 * s.get RED_SWAP_CFG_PERIOD ≤ s.mono then
    .next s.wantSwap
  else .next s

/-- SWAP_WAIT_TIMEOUT (R249): no quiet beat within WAIT minutes; the Obrik keeps looking. -/
def execSwapWaitTimeout (s : State) : Out :=
  match s.red.swapWait with
  | some b =>
    if b + 60 * secBeats * s.get RED_SWAP_CFG_WAIT ≤ s.now ∧ !s.red.swapDeferred then
      .next ((s.updRed (fun r => { r with swapDeferred := true })).raise 0x600D NOTE (s.srcLane s.owner) 0 0)
    else .next s
  | none => .next s

/-- RED_SWAP_TIMEOUT (0x0701): no quiet beat within 60 s of the command. -/
def execRedSwapTimeout (s : State) : Out :=
  match s.red.swapCmd with
  | some c =>
    if s.red.swapCmdBeat + 60 * secBeats ≤ s.now then
      .next (((s.replyTo c.port c.seq stTIMEOUT 0).updRed (fun r => { r with swapCmd := none })).showSwap)
    else .next s
  | none => .next s

/-- RED_SWAP, 0x0701 (R249): a swap at the next quiet beat; BUSY while another RED_SWAP waits. -/
def execRedSwap (mb : Fin 8) (s : State) : Out :=
  .next (s.command mb 0x0701 .dual false (fun c s =>
    if s.red.swapCmd.isSome then s.reply c stBUSY 0
    else (s.updRed (fun r => { r with swapCmd := some { port := c.port, seq := c.seq }, swapCmdBeat := s.now })).showSwap))

/-- RED_SELFTEST, 0x0702 (R250, R68): a lane and a mask of the five test groups; on the owner it waits for a swap. -/
def execRedSelftest (mb : Fin 8) (s : State) : Out :=
  .next (s.command mb 0x0702 .dual false (fun c s =>
    let lane := c.u32 0
    let mask := c.u32 1
    if lane > 1 ∨ mask = 0 ∨ mask > 0x1F then s.reply c stBAD_ARG 0
    else if s.red.testCmd.isSome then s.reply c stBUSY 0
    else
      let t := s.updRed (fun r => { r with testCmd := some { port := c.port, seq := c.seq } })
      if lane = s.owner then (t.updRed (fun r => { r with testQueued := true, queueMask := mask })).showSwap
      else
        let full := s.isSet RED_SELFTEST_RUNNING && s.red.testLane == lane
        t.startTest lane (if full then mask ||| s.red.testMask else mask) true))

/-- RED_LANE_RESTART, 0x0703 (R245): the standby is taken out on purpose and resynchronised. -/
def execRedLaneRestart (mb : Fin 8) (s : State) : Out :=
  .next (s.command mb 0x0703 .dual true (fun c s =>
    let lane := c.u32 0
    if lane > 1 ∨ lane = s.owner then s.reply c stBAD_ARG 0
    else (s.loseStandby false).updRed (fun r => { r with laneCmd := some { port := c.port, seq := c.seq } })))

/-- RED_LANE_ENABLE, 0x0704 (R247): a retired lane is resynchronised again. -/
def execRedLaneEnable (mb : Fin 8) (s : State) : Out :=
  .next (s.command mb 0x0704 .single true (fun c s =>
    let lane := c.u32 0
    if lane > 1 ∨ s.laneState lane ≠ 7 then s.reply c stBAD_ARG 0
    else
      let t := ((s.setLaneState lane 0).put (RED_LANE_TRIES lane) 0).inc (RED_LANE_REBOOTS lane)
      t.updRed (fun r => { r with laneCmd := some { port := c.port, seq := c.seq }, attempt := some s.now })))

/-- RED_INFO, 0x0705 (R239): the last 16 takeover records, newest first, absent ones zero. -/
def execRedInfo (mb : Fin 8) (s : State) : Out :=
  .next (s.command mb 0x0705 .running false (fun c s =>
    let a := c.u32 0
    if !argRangeOk a 512 then s.reply c stBAD_ARG 0
    else (s.laneWrite a (padTo 512 (s.red.records.flatMap TakeoverRec.bytes))).reply c stOK 0))

end Sys2Proof.Machine
end

