-- ==== Sys2Proof/Machine/Escapement.lean ====
section
/-! DEFINITION. The escapement beat and the power reserve of 03_escapement.md: late beats, complications and their
admission, the conditions of the reserve, the budget record, and the commands 0x02xx. -/
namespace Sys2Proof.Machine

/-- Change the escapement state. -/
def State.updEsc (s : State) (f : EscSt → EscSt) : State := { s with esc := f s.esc }

/-! ### Late beats -/

/-- Late beats of a lane counted under R63, newest first. -/
def State.lates (s : State) (lane : Nat) : List Nat := if lane = 0 then s.esc.lateA else s.esc.lateB
def State.setLates (s : State) (lane : Nat) (l : List Nat) : State :=
  s.updEsc (fun e => { e with lateA := if lane = 0 then l else e.lateA, lateB := if lane = 1 then l else e.lateB })

/-- A lane's last late beat. -/
def State.lastLate (s : State) (lane : Nat) : Option Nat := if lane = 0 then s.esc.lastLateA else s.esc.lastLateB

/-- Late beats in sequence that end at a beat. -/
def runEnding (b : Nat) : List Nat → Nat
  | [] => 0
  | x :: t => if x = b then (match b with | 0 => 1 | k + 1 => 1 + runEnding k t) else 0

/-- The late-beat window of a lane in the registers (ESC.LATE_STATE for the owner, RED.LANE_x). -/
def State.showLate (s : State) : State :=
  let count (lane : Nat) : Nat := ((s.lates lane).filter (fun b => decide (s.now < b + 1024))).length
  let t := (s.put (RED_LANE_WINDOW 0) (count 0)).put (RED_LANE_WINDOW 1) (count 1)
  let t := t.put ESC_LATE_STATE_WINDOW (count s.owner)
  t.put ESC_LATE_STATE_CONSEC (min 3 (runEnding s.now (s.lates s.owner)))

/-- A lane declares itself failed and resigns (R63, R237). -/
def State.laneFails (s : State) (lane code : Nat) : State := if s.laneRuns lane then s.resign lane code else s

/-- A late beat of a lane (R61 to R63): counted once a beat; `counted` is false where R62 exempts it from R63. -/
def State.lateBeat (s : State) (lane : Nat) (counted : Bool) : State :=
  if !s.ranInBeat lane then s
  else
    let t := if s.lastLate lane = some s.now then s
      else
        let t := s.set1 GLB_EVENTS_BEAT_LATE
        let t := if lane = s.beatOwner then (t.inc ESC_LATE_TOTAL_COUNT).set1 ESC_EVENTS_LATE
          else t.wrN (A_RED_LATE lane) (min (t.rdN (A_RED_LATE lane) + 1) 0xFFFFFFFF)
        let t := t.raise 0x2001 NOTE (t.srcLane lane) lane 0
        t.updEsc (fun e => { e with
          lastLateA := if lane = 0 then some s.now else e.lastLateA
          lastLateB := if lane = 1 then some s.now else e.lastLateB })
    if counted && (t.lates lane).head? != some s.now then
      let l := s.now :: (t.lates lane).filter (fun b => decide (s.now < b + 1024))
      let t := t.setLates lane l
      if (l.length ≥ 4 ∨ runEnding s.now l ≥ 2) ∧ (t.resigned lane).isNone then
        (t.raise 0x2003 DEGRADE (t.srcLane lane) lane 0).laneFails lane 0x2003
      else t
    else t

/-- The times of the beat's essential work (R57, R61): the owner's in ESC.ESS_TIME, a late beat for each lane. -/
def State.beatTimes (s : State) (a b : LaneObs) : State :=
  let o := if s.owner = 0 then a else b
  let t := (s.putSat ESC_ESS_TIME_ESS_LAST o.essEnd).putSat ESC_ESS_TIME_CMD_LAST o.cmdAt
  let t := (t.raiseTo ESC_ESS_MAX_ESS_MAX o.essEnd).raiseTo ESC_ESS_MAX_CMD_MAX o.cmdAt
  let late (x : LaneObs) : Bool := decide (x.essEnd > 18750) || decide (x.cmdAt > 15625)
  let t := when (late a) (fun u => u.lateBeat 0 true) t
  when (late b) (fun u => u.lateBeat 1 true) t

/-! ### Complications -/

/-- A lane's complication queue and the slices it runs. -/
def State.queue (s : State) (lane : Nat) : List Comp := if lane = 0 then s.esc.queueA else s.esc.queueB
def State.setQueue (s : State) (lane : Nat) (q : List Comp) : State :=
  let t := s.updEsc (fun e => { e with queueA := if lane = 0 then q else e.queueA, queueB := if lane = 1 then q else e.queueB })
  when (decide (lane = s.owner)) (fun u => u.putSat ESC_QUEUE_DEPTH q.length) t
def State.slices (s : State) (lane : Nat) : List Comp := if lane = 0 then s.esc.runA else s.esc.runB
def State.setSlices (s : State) (lane : Nat) (q : List Comp) : State :=
  s.updEsc (fun e => { e with runA := if lane = 0 then q else e.runA, runB := if lane = 1 then q else e.runB })

/-- Post a complication slice to a lane (R65). -/
def State.postComp (s : State) (lane : Nat) (c : Comp) : State :=
  if (s.queue lane).length ≥ 256 then
    let t := when (decide (lane = s.owner)) (fun u => (u.inc ESC_QUEUE_FULL_CNT).set1 ESC_EVENTS_QUEUE_FULL) s
    t.raiseLimited 0x2008 secBeats 0x2008 NOTE (t.srcLane lane) c.kind 0
  else s.setQueue lane (s.queue lane ++ [c])

/-- HARMONIC, GP_IDLE, TLS_WORK, SELF_TEST, DISPLAY and SITE_OFDM among the kinds of R64. -/
def kHARMONIC : Nat := 0
def kGP_IDLE : Nat := 1
def kTLS : Nat := 2
def kSELF_TEST : Nat := 3
def kDISPLAY : Nat := 4
def kOFDM : Nat := 5

/-- The engines on which a kind runs, as bits of EscSt.engA (R64). -/
def kindEngines (kind : Nat) : Nat := nth [1, 3, 4, 25, 32, 1] 0 kind

/-- The engines that the slices of a lane's window reserve (R64). -/
def State.engines (s : State) (lane : Nat) : Nat := if lane = 0 then s.esc.engA else s.esc.engB
def State.reserve (s : State) (lane : Nat) (l : List Comp) : State :=
  let m := l.foldl (fun v c => v ||| kindEngines c.kind) 0
  s.updEsc (fun e => { e with engA := if lane = 0 then m else e.engA, engB := if lane = 1 then m else e.engB })

/-- The warned and islanded supply states (R69). -/
def State.warned (s : State) : Bool := s.isSet PWR_STATUS_WARN
def State.islanded (s : State) : Bool := s.isSet GOV_PL_STATE_ISLANDED

/-- A lane's thermal condition. -/
def State.therm (s : State) (lane : Nat) : Nat := if lane = 0 then s.esc.thermA else s.esc.thermB

/-- The kinds that the conditions of R69 allow on a lane. -/
def State.allowed (s : State) (lane : Nat) : Nat :=
  if s.therm lane = 2 ∨ s.isSet GOV_RES_STATE_CEIL ∨ s.warned then 0
  else
    let cool := clearMask (s.get GOV_RES_KINDS_ENABLE) (s.get GOV_RES_HOST_KIND_MASK)
    if s.islanded then cool &&& s.get GOV_RES_KINDS_ISLAND_OK else cool

/-- The window of pallets 12 to 14 in cycles (R56, R66 step 1, R69). -/
def State.window (s : State) (lane : Nat) : Nat :=
  let step := if lane = 0 then s.esc.stepA else s.esc.stepB
  let full := if step = 0 then 5625 else if step = 1 then 5156 else 4687
  if s.therm lane = 2 ∨ s.isSet GOV_RES_STATE_CEIL ∨ s.warned then 0
  else if s.therm lane = 1 then full / 2 else full

/-- Insert a slice in the order of R66 step 3: latest-start beat, then kind, then age. -/
def insertComp (c : Comp) : List Comp → List Comp
  | [] => [c]
  | d :: t => if c.latest < d.latest ∨ (c.latest = d.latest ∧ c.kind < d.kind) then c :: d :: t else d :: insertComp c t

/-- Take the entries of a queue in order while they fit (R66 step 3): those admitted and those that stay. -/
def admitGo (ok : Nat → Bool) : Nat → List Comp → List Comp × List Comp
  | _, [] => ([], [])
  | left, c :: t =>
    if ok c.kind && decide (c.cost ≤ left) then
      let r := admitGo ok (left - c.cost) t
      (c :: r.1, r.2)
    else
      let r := admitGo ok left t
      (r.1, c :: r.2)

/-- Count a dropped entry (R66 step 2); a dropped line write is posted again (R292). -/
def State.dropComp (s : State) (lane : Nat) (c : Comp) : State :=
  let t := when (decide (lane = s.owner)) (fun u => (u.inc (ESC_COMP_DROP_DROP c.kind)).set1 ESC_EVENTS_COMP_DROP) s
  let t := when (decide (lane = s.owner) && c.kind == kDISPLAY) (fun u =>
    { (u.inc BZL_COUNT_DROP) with bzl := { u.bzl with dropped := u.bzl.dropped ++ [c] } }) t
  t.raiseLimited (0x20060 + c.kind) secBeats 0x2006 NOTE (t.srcLane lane) c.kind c.subject

/-- Admission at the end of pallet 11 of a beat that is not late (R66). -/
def State.admitSlices (s : State) (lane : Nat) : State :=
  if s.laneRuns lane ∧ s.lastLate lane ≠ some s.now then
    let q := s.queue lane
    let t := forEach (q.filter (fun c => decide (c.latest < s.now))) (fun c u => u.dropComp lane c) s
    let live := (q.filter (fun c => !decide (c.latest < s.now))).foldl (fun l c => insertComp c l) []
    let kinds := s.allowed lane
    let r := admitGo (fun k => kinds.testBit k && !(k == kSELF_TEST && lane == s.owner)) (s.window lane) live
    ((t.setQueue lane r.2).setSlices lane r.1).reserve lane r.1
  else (s.setSlices lane []).reserve lane []

/-- GOV.RES_STATE of the owner after the admissions. -/
def State.showReserve (s : State) : State :=
  let ran := (s.slices s.owner).foldl (fun m c => natBit m c.kind true) 0
  ((s.put GOV_RES_STATE_ADMITTED ran).put GOV_RES_STATE_ALLOWED (s.allowed s.owner)).put GOV_RES_STATE_THERM (s.therm s.owner)

/-! ### The power reserve -/

/-- The image ceiling for the present supply state, and the effective ceiling (R70). -/
def State.imageCeil (s : State) : Nat :=
  if s.get GOV_RES_STATE_SUPPLY = 2 then s.get GOV_RES_CEIL_CFG_ISLAND else s.get GOV_RES_CEIL_CFG_NORMAL
def State.effCeil (s : State) : Nat :=
  let t := s.get GOV_RES_HOST_TIGHTEN
  if t = 0 then s.imageCeil else min t s.imageCeil

/-- The supply state of the reserve: warned before islanded (R69). -/
def State.updSupply (s : State) : State :=
  let v := if s.warned then 1 else if s.islanded then 2 else 0
  if s.get GOV_RES_STATE_SUPPLY = v then s
  else
    let t := ((s.put GOV_RES_STATE_SUPPLY v).put PWR_STATUS_SUPPLY v).set1 GOV_RES_EVENTS_SUPPLY_CHG
    t.put GOV_RES_POWER_CEIL_EFF t.effCeil

/-- The module power estimate of R69 in mW: the mean of the monitors' readings over the last 400 beats. -/
def State.powerEst (s : State) : Nat := sumN s.esc.power / max s.esc.power.length 1

/-- The power-ceiling condition (R69, R70) for the estimate as it stands. -/
def State.judgeCeil (s : State) : State :=
  let c := s.effCeil
  let est := s.powerEst
  let t := (s.putSat GOV_RES_POWER_EST est).put GOV_RES_POWER_CEIL_EFF c
  if s.isSet GOV_RES_STATE_CEIL then when (decide (est + 500 < c)) (fun u => u.clr GOV_RES_STATE_CEIL) t
  else if c < est then
    ((t.set1 GOV_RES_STATE_CEIL).set1 GOV_RES_EVENTS_CEIL).raise 0x200B NOTE (t.srcLane t.owner) 0 est
  else t

/-- A beat's reading of the supply-current monitors in mW enters the estimate (R69). -/
def State.updCeil (s : State) (mw : Nat) : State :=
  (s.updEsc (fun e => { e with power := (mw :: e.power).take 400 })).judgeCeil

/-- The thermal condition for a lane temperature in 0.1 °C (R69). -/
def State.thermOf (s : State) (old : Nat) (t : Int) : Nat :=
  let warm : Int := 10 * s.get GOV_RES_THERM_CFG_WARM
  let hot : Int := 10 * s.get GOV_RES_THERM_CFG_HOT
  if t ≥ hot ∨ (old = 2 ∧ t ≥ hot - 30) then 2
  else if t ≥ warm ∨ (old ≥ 1 ∧ t ≥ warm - 30) then 1
  else 0

/-- A lane's temperature sample and what follows of it. -/
def State.sampleLane (s : State) (lane : Nat) (temp : Int) : State :=
  if !s.laneRuns lane then s
  else
    let old := s.therm lane
    let new := s.thermOf old temp
    let t := (s.wearTemp lane temp).updEsc (fun e => { e with
      tempA := if lane = 0 then temp else e.tempA
      tempB := if lane = 1 then temp else e.tempB
      thermA := if lane = 0 then new else e.thermA
      thermB := if lane = 1 then new else e.thermB })
    let t := when (decide (old = 0) && decide (new ≥ 1)) (fun u => u.raise 0x2009 NOTE (u.srcLane lane) lane (twos 32 temp)) t
    let t := when (decide (old < 2) && decide (new = 2)) (fun u => u.raise 0x200A DEGRADE (u.srcLane lane) lane (twos 32 temp)) t
    if lane = s.owner then
      when (decide (old ≠ new)) (fun u => (u.put GOV_RES_STATE_THERM new).set1 GOV_RES_EVENTS_THERM_CHG)
        (t.puti GOV_RES_TEMP_LANE_T temp)
    else t

/-- The hottest of a list of temperatures. -/
def hottest : List Int → Int
  | [] => 0
  | x :: t => t.foldl max x

/-! ### Meanings -/

/-- ESSENTIAL_OVERRUN (R62, R63): essential work unfinished at the start of pallet 15. The heartbeats have not left, so the voter
may have taken the lane out in this beat already; the lane then reports its failure and resigns from nothing. -/
def execEssentialOverrun (lane : Fin 2) (s : State) : Out :=
  .next (State.within (fun s =>
    if s.ranInBeat lane && (s.running || s.gstate == 5) then
      let t := (s.lateBeat lane false).raise 0x2004 DEGRADE (s.srcLane lane) lane 0
      let t := when (decide (lane.val = s.beatOwner)) (fun u => u.set1 ESC_EVENTS_OVERRUN) t
      (t.raise 0x2003 DEGRADE (t.srcLane lane) lane 0).laneFails lane 0x2004
    else s) s)

/-- CMD_LATE (R61, R62): the owner's commands are missing at pallet 10; it resigns at once. That the outputs hold is what
BEAT does with the time at which the commands arrived. -/
def execCmdLate (s : State) : Out :=
  if s.lanesWork && s.laneRuns s.owner then
    .next (State.within (fun s =>
      let lane := s.owner
      ((s.lateBeat lane true).raise 0x2002 DEGRADE (s.srcLane lane) lane 0).laneFails lane 0x2002) s)
  else .next s

/-- CORE_WATCHDOG_EXPIRY (R237): a lane's application or legal core is not served for 4 beats; no fault code of its own. -/
def execCoreWatchdogExpiry (lane : Fin 2) (s : State) : Out :=
  if s.lanesWork then .next (s.laneFails lane 0) else .next s

/-- SRAM_ECC_UNCORRECTABLE (R237): an uncorrectable error in a lane's private or legal SRAM. -/
def execSramEccUncorrectable (lane : Fin 2) (s : State) : Out :=
  if s.lanesWork then .next (s.laneFails lane 0) else .next s

/-- COMPLICATION_POST (R65); a DISPLAY slice has its latest start 400 beats after the post (R292). -/
def execComplicationPost (lane : Fin 2) (kind : Fin 8) (cost latest subject : Nat) (s : State) : Out :=
  if s.running && s.laneRuns lane then
    .next (s.postComp lane { kind := kind, cost := cost, latest := if kind.val = kDISPLAY then s.now + 400 else latest, subject := subject })
  else .next s

/-- COMPLICATION_OVERRUN (R67): a slice still running at the start of pallet 15 is stopped. -/
def execComplicationOverrun (lane : Fin 2) (kind : Fin 8) (subject : Nat) (s : State) : Out :=
  match (s.slices lane).find? (fun c => c.kind == kind.val && c.subject == subject) with
  | some c =>
    .next (State.within (fun s =>
      let t := s.setSlices lane ((s.slices lane).erase c)
      let t := when (decide (lane.val = s.owner)) (fun u =>
        (u.inc (ESC_COMP_DROP_OVR kind)).set1 ESC_EVENTS_COMP_OVERRUN) t
      t.raise 0x2007 NOTE (t.srcLane lane) kind subject) s)
  | none => .next s

/-- LANE_TEMP_SAMPLE (R69, R72): every 40 beats, the four sensors of each lane and the Case die in 0.1 °C, and what the module itself and the
safety outputs draw through VAUX in 0.1 W. -/
def execLaneTempSample (a b : List Int) (caseT : Int) (aux : Nat) (s : State) : Out :=
  if s.running && decide (s.now % 40 = 0) then
    let t := (s.sampleLane 0 (hottest a)).sampleLane 1 (hottest b)
    let t := (t.puti GOV_RES_TEMP_CASE_T caseT).wearTemp 2 caseT
    .next (t.updEsc (fun e => { e with
      caseSum := e.caseSum + caseT
      laneSum := e.laneSum + (if s.owner = 0 then hottest a else hottest b)
      auxSum := e.auxSum + aux + s.loadPower / 10000
      samples := e.samples + 1 }))
  else .next s

/-- DERATE of R73 in units of 2^-16, for a temperature in 0.1 °C as a fraction num/den. -/
def State.derateOf (s : State) (num : Int) (den : Nat) : Nat :=
  let st : Int := 10 * s.get GOV_RES_THERM_CFG_CASE_START
  let en : Int := 10 * s.get GOV_RES_THERM_CFG_CASE_END
  let d : Int := (den : Int)
  if num ≤ st * d then 0x10000
  else if num ≥ en * d then 0
  else ((en * d - num) * 65536 / ((en - st) * d)).toNat

/-- BUDGET_PUBLISH (R72, R73): in the last beat of a round, the record for the next round from the round's averages, which are
rounded down; a round without a sample has the average 0 (DESIGN CHOICE, log entry 131). -/
def execBudgetPublish (s : State) : Out :=
  if s.running && decide (s.now % 400 = 399) then
    let n := max s.esc.samples 1
    let d := s.derateOf s.esc.caseSum n
    let old := s.get GOV_BUDGET_DERATE_DERATE
    let t := s.wrN A_GOV_BUDGET_ROUND ((s.now / 400 + 1) % 2 ^ 32)
    let t := (t.put GOV_BUDGET_DERATE_SUPPLY (s.get GOV_RES_STATE_SUPPLY)).put GOV_BUDGET_DERATE_DERATE d
    let t := t.putSat GOV_BUDGET_AUX_AUX (s.esc.auxSum / n)
    let t := t.puti GOV_BUDGET_HEAD_CASE_HEAD (10 * s.get GOV_RES_THERM_CFG_CASE_END - s.esc.caseSum / n)
    let t := t.puti GOV_BUDGET_HEAD_LANE_HEAD (10 * s.get GOV_RES_THERM_CFG_HOT - s.esc.laneSum / n)
    let t := when (decide (old ≠ d)) (fun u => u.set1 GOV_RES_EVENTS_DERATE) t
    let t := when (decide (old = 0x10000) && decide (d < 0x10000)) (fun u =>
      u.raise 0x200C DEGRADE (u.srcLane u.owner) 0 d) t
    .next (t.updEsc (fun e => { e with caseSum := 0, laneSum := 0, auxSum := 0, samples := 0 }))
  else .next s

/-- COMP_MASK, 0x0201 (R69, R71). -/
def execCompMask (mb : Fin 8) (s : State) : Out :=
  .next (s.command mb 0x0201 .running false (fun c s =>
    if c.u32 0 > 0xFF then s.reply c stBAD_ARG 0
    else (s.put GOV_RES_HOST_KIND_MASK (c.u32 0)).reply c stOK 0))

/-- A COMP_MASK dequeued in the beat counts at its admission already (R71). -/
def State.takeMask (s : State) : State :=
  forEach (s.host.exec.filter (fun c => c.code == 0x0201 && !c.started)) (fun c u =>
    when (u.running && decide (c.u32 0 ≤ 0xFF)) (fun v => v.put GOV_RES_HOST_KIND_MASK (c.u32 0)) u) s

/-- RESERVE_TIGHTEN, 0x0202 (R70): a ceiling in mW; 0 cancels. The condition is judged against it at once. -/
def execReserveTighten (mb : Fin 8) (s : State) : Out :=
  .next (s.command mb 0x0202 .running false (fun c s =>
    if c.u32 0 > s.imageCeil then s.reply c stBAD_ARG 0
    else
      (s.put GOV_RES_HOST_TIGHTEN (c.u32 0)).judgeCeil.reply c stOK 0))

/-- The end of each essential group at a clock in MHz: 1.2 µs plus the cumulative cycles (R57, R59), in whole ns rounded up
(DESIGN CHOICE, log entry 131). -/
def groupEnds (plan : List Nat) (mhz : Nat) : List Nat :=
  (List.range plan.length).map (fun i => 1200 + (sumN (plan.take (i + 1)) * 1000 + mhz - 1) / mhz)

/-- The clock of a step in MHz. -/
def stepMhz (step : Nat) : Nat := if step = 0 then 1200 else if step = 1 then 1100 else 1000

/-- Whether a beat plan fits at every step down to the lowest clock (R59), in half ns times MHz: 1.2 µs, the cumulative cycles and
the 1.0 µs of reserve against the latest ends of R56. -/
def planFits (plan : List Nat) (lowest : Nat) : Bool :=
  (List.range (lowest + 1)).all (fun st => (List.range 4).all (fun i =>
    decide (2000 * sumN (plan.take (i + 1)) + 4400 * stepMhz st ≤ nth [9375, 21875, 31250, 37500] 0 i * stepMhz st)))

/-- ESC_PLAN_INFO, 0x0203 (R59): four cycle counts, then the four ends in ns at each step down to LOWEST_CLOCK, as
4-byte numbers (log entry 11). -/
def execEscPlanInfo (mb : Fin 8) (s : State) : Out :=
  .next (s.command mb 0x0203 .running false (fun c s =>
    let steps := List.range (min 2 (s.get ESC_BEAT_CFG_LOWEST_CLOCK) + 1)
    let nums := s.esc.plan ++ steps.flatMap (fun k => groupEnds s.esc.plan (stepMhz k))
    s.reply c stOK 0 (nums.flatMap (le 4))))

end Sys2Proof.Machine
end

