-- ==== Sys2Proof/Machine/Sense.lean ====
section
/-! DEFINITION. The sense ports of 04_sense.md: frames, modulator trim, dual-range channels, swing-in and known-state
calibration, the reference chain, and the commands 0x03xx. -/
namespace Sys2Proof.Machine

/-- Change the sense state. -/
def State.updSns (s : State) (f : SnsSt → SnsSt) : State := { s with sns := f s.sns }

/-- 2^23, the full scale of a code. -/
def fullScale : Int := 8388608

/-- The clip of R75. -/
def clipCode (c : Int) : Int :=
  if c > fullScale - 1 then fullScale - 1 else if c < -(fullScale - 1) then -(fullScale - 1) else c

/-- The mapping of a logical channel: 0 none, 1 direct, 2 dual-range, 3 bitstream (R78). -/
def State.chSrc (s : State) (n : Nat) : Nat := s.get (SNS_CH_MAP_SRC n)

/-- The COMPANION slot of a dual-range channel (R79). -/
def State.slotOf (s : State) (n : Nat) : Nat := ((List.range n).filter (fun k => s.chSrc k == 2)).length

/-! ### Frames -/

/-- The code that the Dial puts into the frame for a channel (R75, R77), before the clip. -/
def State.rawCode (s : State) (f : Frame) (n : Nat) : Int :=
  let c := nth f.prim 0 n
  if s.chSrc n = 3 ∧ s.sns.invert.testBit (s.get (SNS_CH_MAP_INPUT n)) then -c else c

/-- A frame with every code clipped; a clip of a high-gain sample sets its RANGE bit. -/
def State.clipped (s : State) (f : Frame) : Frame :=
  { f with
    prim := (List.range 128).map (fun n => clipCode (s.rawCode f n))
    comp := f.comp.map clipCode
    range := (List.range 32).foldl (fun m j => if clipCode (nth f.comp 0 j) != nth f.comp 0 j then natBit m j true else m) f.range
    spare := f.spare.map (fun p => (p.1, clipCode p.2)) }

/-- An overload beat of a channel (R75): counted, 0x3003 at most once per channel per minute. -/
def State.overload (s : State) (n : Nat) : State :=
  (s.inc (SNS_CH_STAT_OVL n)).raiseLimited (0x300300 + n) (60 * secBeats) 0x3003 NOTE (s.srcLane s.owner) n 0

/-- Whether a channel's code is clipped in a frame. -/
def State.isOver (s : State) (f : Frame) (n : Nat) : Bool := clipCode (s.rawCode f n) != s.rawCode f n

/-- The VALID bit that the Dial sends for a channel (R98): its sample is valid, the channel mapped, its input not stuck, its clock
good, no modulator of it failed or in the settling of R91. -/
def State.dialValid (s : State) (f : Frame) (n : Nat) : Bool :=
  let inp := s.get (SNS_CH_MAP_INPUT n)
  let failed (h : Nat) : Bool := s.sns.invalid91.testBit (2 * n + h) &&
    !(s.sns.swings.any (fun w => w.chan == n && w.high == (h == 1) && w.stage == 4 && decide (w.start + 65 ≤ s.now)))
  f.valid.testBit n && s.chSrc n != 0 && !failed 0 && !failed 1 &&
    !(s.chSrc n == 3 && (s.bitOf SNS_IB_CLK_FAULT (inp / 8) ||
      (decide (0 < (nth s.sns.ib {} inp).run) && (nth s.sns.ib {} inp).last == s.now)))

/-- The number of COMPANION slots in use (R79). -/
def State.slotsUsed (s : State) : Nat := s.slotOf 128

/-- The frame as the Dial sends it: codes clipped, VALID by channel, unused COMPANION slots and their RANGE bits 0 (R75, R79, R98). -/
def State.dialFrame (s : State) (f : Frame) : Frame :=
  let g := s.clipped f
  { g with
    valid := (List.range 128).foldl (fun m n => if s.dialValid f n then natBit m n true else m) 0
    comp := (List.range 32).map (fun j => if j < s.slotsUsed then nth g.comp 0 j else 0)
    range := g.range % 2 ^ min 32 s.slotsUsed }

/-- The 512 bytes of a frame (R79), the fields packed in the order of the table, each little-endian (log entry 53). -/
def State.frameBytes (s : State) (f : Frame) : List Byte :=
  let slot (l : List Int) (n : Nat) : List Byte := le 3 (twos 24 (nth l 0 n))
  let status := s.get SNS_STATUS_REF_ACTIVE * 2 ^ 15 + (if f.accLost || s.isSet SNS_STATUS_ACCURACY then 2 ^ 14 else 0)
  let body := le 2 f.beat ++ le 2 status ++ le 16 f.valid ++ (List.range 128).flatMap (slot f.prim) ++
    (List.range 32).flatMap (slot f.comp) ++ le 4 f.range ++ le 2 (twos 16 f.dialT) ++ le 2 0
  body ++ le 4 (crc32 body)

/-- The owner's frame goes to its place in the sample frame ring (R351). -/
def State.ringFrame (s : State) (f : Frame) : State :=
  s.bothWrite (0x40800000 + 512 * (s.now % 4096)) (s.frameBytes f)

/-- FRAME_ARRIVAL (R12, R13, R75, R79): a lane that works receives its frame; one with a bad CRC or a wrong beat number gives no
sample. The registers show the owner's frame. -/
def execFrameArrival (lane : Fin 2) (f : Frame) (s : State) : Out :=
  if s.lanesWork && s.laneRuns lane then
    let good := f.crcOk && f.beat == s.now % 65536
    let t := s.updSns (fun x => { x with
      gotA := if lane.val = 0 then some good else x.gotA
      gotB := if lane.val = 1 then some good else x.gotB })
    if good then
      let g := s.dialFrame f
      let t := t.updSns (fun x => { x with
        frame := g
        ovlMask := (List.range 128).foldl (fun m n => if s.isOver f n then natBit m n true else m) 0 })
      if lane.val = s.servingLane then
        let t := (t.puti SNS_DIAL_T_TEMP f.dialT).ringFrame g
        .next (forUpTo 128 (fun n u =>
          let u := u.putB (SNS_CH_STAT_INVALID n) (!g.valid.testBit n)
          when (s.isOver f n) (fun v => v.overload n) u) t)
      else .next t
    else
      let t := t.updSns (fun x => { x with
        badA := if lane.val = 0 then (s.now :: x.badA).take 17 else x.badA
        badB := if lane.val = 1 then (s.now :: x.badB).take 17 else x.badB })
      .next (t.raise 0x3001 NOTE (t.srcLane lane) lane 0)
  else .next s

/-- Whether a lane's frame of the beat is good; a beat whose frame no row reports has the last good frame's samples
again (log entry 12). -/
def State.frameGood (s : State) (lane : Nat) : Bool :=
  s.laneRuns lane && (if lane = 0 then s.sns.gotA else s.sns.gotB).getD true

/-- What the beat's frames mean for the lanes (R13, R61, R62, R98): a bad frame on one lane is a late beat counted
under R63; a bad frame on both is not, and the beat is registered with the previous increments (SUBST_BEAT). A bad frame of the
only running lane is a counted late beat whose increments are repeated too, without 0x2005 (DESIGN CHOICE, log entry 131). A beat
in which no good frame came counts toward 0x3012. -/
def State.judgeFrames (s : State) : State :=
  let a := s.frameGood 0
  let b := s.frameGood 1
  let badA := s.laneRuns 0 && !a
  let badB := s.laneRuns 1 && !b
  let t := s.updSns (fun x => { x with
    gotA := none
    gotB := none
    common := !a && !b
    lost := if x.gotA == some true || x.gotB == some true then 0 else x.lost + 1
    lostHeld := !(x.gotA == some true || x.gotB == some true) && x.lostHeld })
  let t :=
    if badA && badB then
      let t := (t.lateBeat 0 false).lateBeat 1 false
      let t := (t.raise 0x2005 NOTE (t.srcLane 0) 0 0).raise 0x2005 NOTE (t.srcLane 1) 1 0
      t.inc ESC_LATE_STATE_COMMON_CNT
    else when badB (fun u => u.lateBeat 1 true) (when badA (fun u => u.lateBeat 0 true) t)
  when (!a && !b) (fun u => u.legalLog 0x0D 0 u.now) t

/-! ### Trim and dual-range channels -/

/-- The trim of a modulator at a gain. -/
def State.trimOf (s : State) (k g : Nat) : Int × Int × Nat := nth s.sns.trims (0, 16777216, 0) (6 * k + g)

/-- A direct sample less its modulator's offset, times its gain (R82), to the nearest code, halves to even: the rule gives no rounding
(DESIGN CHOICE, log entry 155). -/
def State.trim (s : State) (k g : Nat) (code : Int) : Int :=
  let t := s.trimOf k g
  roundEven ((256 * code - t.1) * t.2.1) (256 * 16777216)

/-- The weight of the high-gain sample in 2^-16 (R84): 0.2 F and 0.8 F are compared exactly; with RANGE set the weight is 0 whatever
|x| is (DESIGN CHOICE, log entry 132). -/
def dualWeight (x : Int) (above held : Bool) : Int :=
  let a := (x.natAbs : Int)
  if held || above then 0
  else if 10 * a ≤ 2 * fullScale then 65536
  else if 10 * a ≥ 8 * fullScale then 0
  else (8 * fullScale - 10 * a) * 65536 / (6 * fullScale)

/-- The cross-fade of R84. -/
def crossFade (sHi x w : Int) : Int := roundEven (w * sHi + (65536 - w) * x) 65536

/-- The overlap band of R84 and R85. -/
def inOverlap (x : Int) : Bool :=
  decide (10 * (x.natAbs : Int) > 2 * fullScale) && decide (10 * (x.natAbs : Int) < 8 * fullScale)

/-- The match of a pair in 0.1 ppm (R85). -/
def matchOf (h : List (Int × Nat)) : Int :=
  let xx : Int := sumN (h.map (·.2))
  if xx = 0 then 0 else roundEven ((sumI (h.map (·.1)) - xx) * 10000000) xx

/-- The gain code of the high member of a dual-range pair (R83). -/
def highGain (g : Nat) : Nat := g + 4

/-- A dual-range channel's output of the beat and its match (R84, R85). An output beyond 28 bits is kept as it is (DESIGN CHOICE, log
entry 132). -/
def State.dualChannel (s : State) (n : Nat) : State :=
  let g := s.get (SNS_CH_MAP_GAIN n)
  let j := s.slotOf n
  let f := s.sns.frame
  let x := 16 * s.trim (s.get (SNS_CH_MAP_MOD_A n)) g (nth f.prim 0 n)
  let sHi := s.trim (s.get (SNS_CH_MAP_MOD_B n)) (highGain g) (nth f.comp 0 j)
  let above := f.range.testBit j
  let t :=
    if inOverlap x && !above then
      let t := s.updSns (fun y => { y with hist := upd y.hist j (fun h => (sHi * x, (x * x).toNat) :: h.take 39999) })
      let m := matchOf (nth t.sns.hist [] j)
      let t := t.puti (SNS_CH_CAL_MATCH n) (satI 16 m)
      if m.natAbs > 5000 ∧ !t.isSet (SNS_CH_STAT_MATCH_DEG n) then
        let t := t.updSns (fun y => { y with swung := natBit y.swung j false })
        (t.set1 (SNS_CH_STAT_MATCH_DEG n)).raise 0x300F DEGRADE (t.srcLane t.owner) n (twos 32 m)
      else if t.isSet (SNS_CH_STAT_MATCH_DEG n) ∧ t.sns.swung.testBit j ∧ m.natAbs < 2500 then
        t.clr (SNS_CH_STAT_MATCH_DEG n)
      else t
    else s
  let w := dualWeight x above (t.isSet (SNS_CH_STAT_MATCH_DEG n))
  t.updSns (fun y => { y with val := upd y.val n (fun _ => crossFade sHi x w) })

/-- The trimmed sample of a channel (R82), to the nearest code as `State.trim` (log entry 155). -/
def State.intakeChannel (s : State) (n : Nat) : State :=
  let c := nth s.sns.frame.prim 0 n
  let src := s.chSrc n
  if src = 2 then s.dualChannel n
  else
    let v :=
      if src = 1 then s.trim (s.get (SNS_CH_MAP_MOD_A n)) (s.get (SNS_CH_MAP_GAIN n)) c
      else if src = 3 then roundEven (256 * c - s.geti (SNS_CH_TRIM_OFFSET n)) 256
      else 0
    s.updSns (fun y => { y with val := upd y.val n (fun _ => v) })

/-- The VALID bit of a channel as the beat uses it: mapped, not stuck, its clock good, not under R91 (R98). -/
def State.chValid (s : State) (n : Nat) : Bool := s.dialValid s.sns.frame n

/-- Intake and correction of the beat (pallets 0 to 2). -/
def State.intake (s : State) : State :=
  let t := s.judgeFrames
  if t.sns.common then t
  else
    let t := forUpTo 128 (fun n u => u.intakeChannel n) t
    t.updSns (fun y => { y with
      ok := (List.range 128).foldl (fun m n => if t.chValid n then natBit m n true else m) 0 })

/-! ### Modulators -/

/-- A modulator's role (SNS.MOD_STATE_k): 0 assigned, 1 spare, 2 comparing, 3 calibrating, 4 retired, 5 needs
calibration. -/
def State.role (s : State) (k : Nat) : Nat := s.get (SNS_MOD_STATE_ROLE k)
def State.setRole (s : State) (k r : Nat) : State := s.put (SNS_MOD_STATE_ROLE k) r

/-- SNS.STATUS.SPARES and RETIRED, and the suspension of R92: usable is a modulator of ROLE 1, not one in comparison or calibration
(DESIGN CHOICE, log entry 132). -/
def State.showSpares (s : State) : State :=
  let spares := ((List.range 72).filter (fun k => s.role k == 1)).length
  let ret := ((List.range 72).filter (fun k => s.role k == 4)).length
  let t := (s.put SNS_STATUS_SPARES spares).put SNS_STATUS_RETIRED ret
  if spares < 2 ∧ !s.isSet SNS_STATUS_SWING_SUSP then
    (t.set1 SNS_STATUS_SWING_SUSP).raise 0x3008 DEGRADE (t.srcLane t.owner) spares 0
  else if 2 ≤ spares then t.clr SNS_STATUS_SWING_SUSP
  else t

/-- Retire a modulator (R90, R91). -/
def State.retire (s : State) (k : Nat) : State := (s.setRole k 4).showSpares

/-- A calibration's result (R90): stored trims, noise and temperature; a modulator out of its limits is retired. -/
def State.applyCal (s : State) (c : ModCal) : State :=
  let t := s.updSns (fun x => { x with
    trims := (List.range 6).foldl (fun l g => upd l (6 * c.k + g) (fun o => nth c.trims o g)) x.trims
    modMono := upd x.modMono c.k (fun _ => s.mono) })
  let t := (t.putSat (SNS_MOD_HEALTH_NOISE c.k) c.noise).puti (SNS_MOD_STATE_CAL_T c.k) (s.geti SNS_DIAL_T_TEMP)
  if c.inLimits then t
  else ((t.inc (SNS_MOD_HEALTH_FAILS c.k)).raise 0x3009 NOTE (t.srcLane t.owner) c.k 0).retire c.k

/-- The calibration result a beat carries for a modulator; without one it is in its limits with its trims unchanged. -/
def State.calFor (s : State) (cals : List ModCal) (k : Nat) : ModCal :=
  (cals.find? (fun c => c.k == k)).getD
    { k := k, trims := (List.range 6).map (s.trimOf k), noise := s.get (SNS_MOD_HEALTH_NOISE k), inLimits := true }

/-! ### References -/

/-- Rescale every gain trim by a ratio num/den (R97). -/
def State.rescale (s : State) (num den : Int) : State :=
  s.updSns (fun x => { x with trims := x.trims.map (fun t => (t.1, roundEven (t.2.1 * num) den, t.2.2)) })

/-- Make a bandgap active (R97). -/
def State.useBandgap (s : State) (b : Nat) (d10 : Int) : State :=
  if s.get SNS_STATUS_REF_ACTIVE = b then s
  else
    let t := s.put SNS_STATUS_REF_ACTIVE b
    if b = 1 then t.rescale (10000000 + d10) 10000000 else t.rescale 10000000 (10000000 + d10)

/-- The outcome of R96 as a number: 0 all agree, 1 the bandgaps disagree, 2 the secondary agrees with neither, 3 none
agree; d10 = BG_1 - BG_0, d0s = BG_0 - secondary, in 0.1 ppm. Bandgaps that agree while the secondary agrees with one of them alone
count as all agreeing (DESIGN CHOICE, log entry 132). -/
def refOutcome (d10 d0s : Int) : Nat :=
  let bg := decide (d10.natAbs ≤ 1500)
  let a0 := decide (d0s.natAbs ≤ 3000)
  let a1 := decide ((d0s + d10).natAbs ≤ 3000)
  if bg then (if a0 || a1 then 0 else 2) else if a0 || a1 then 1 else 3

/-- Compare the references and act (R96). Where the bandgaps disagree and the secondary agrees with both, the active one stays; ACCURACY
clears at the next comparison with another outcome (DESIGN CHOICE, log entry 132). -/
def State.compareRefs (s : State) (d10 d0s : Int) : State :=
  let a0 := decide (d0s.natAbs ≤ 3000)
  let a1 := decide ((d0s + d10).natAbs ≤ 3000)
  let act := s.get SNS_STATUS_REF_ACTIVE
  let o := refOutcome d10 d0s
  let t := s.puti SNS_REF_DIFF_BG_DIFF (satI 16 d10)
  let t := t.updSns (fun x => { x with bgDiff := d10 })
  let t :=
    if o = 1 then
      let keep := if act = 0 then a0 else a1
      let t := t.raise 0x300C DEGRADE (t.srcLane t.owner) 0 (twos 32 d10)
      if keep then t else t.useBandgap (1 - act) d10
    else if o = 2 then t.raise 0x300D NOTE (t.srcLane t.owner) 0 (twos 32 d0s)
    else if o = 3 then
      ((t.set1 SNS_STATUS_ACCURACY).raiseEveryOutlet 0x300E (t.srcLane t.owner) 0xFFF 0).legalLog 0x0F 0 0x300E
    else t
  let t := when (decide (o ≠ 3)) (fun u => u.clr SNS_STATUS_ACCURACY) t
  t.puti SNS_REF_DIFF_SEC_DIFF (satI 16 (if t.get SNS_STATUS_REF_ACTIVE = 0 then d0s else d0s + d10))

/-! ### Swing-in -/

/-- Swings in steps 1 to 4 (R86), an emergency swing among them. -/
def State.swingsOpen (s : State) : Nat := (s.sns.swings.filter (fun w => w.stage != 3)).length

/-- Connect the spare of a swing (step 1). -/
def State.connect (s : State) (w : Swing) : State :=
  let g := s.get (SNS_CH_MAP_GAIN w.chan)
  let t := (s.setRole w.spare 2).put (SNS_MOD_STATE_CHAN w.spare) w.chan
  let t := (t.put (SNS_MOD_STATE_GAIN w.spare) (if w.high then highGain g else g)).putB (SNS_MOD_STATE_HIGH w.spare) w.high
  (t.set1 (SNS_CH_STAT_SWINGING w.chan)).showSpares

/-- Disconnect the spare of a swing: the channel stays on its own modulator. -/
def State.disconnect (s : State) (w : Swing) : State :=
  ((s.setRole w.spare 1).clr (SNS_CH_STAT_SWINGING w.chan)).showSpares

/-- The bit of a channel's member in SnsSt.invalid91. -/
def memberBit (n : Nat) (high : Bool) : Nat := 2 * n + (if high then 1 else 0)

/-- The commit point (R87 step 5): the spare fills the channel's slot, and the released modulator is calibrated unless it is retired. -/
def State.commitSwing (s : State) (w : Swing) : State :=
  let t := if w.high then s.put (SNS_CH_MAP_MOD_B w.chan) w.spare else s.put (SNS_CH_MAP_MOD_A w.chan) w.spare
  let t := (t.setRole w.spare 0).clr (SNS_CH_STAT_SWINGING w.chan)
  let t := when (w.stage != 4 && t.role w.old != 4) (fun u => u.setRole w.old 3) t
  let t := t.updSns (fun x => { x with
    invalid91 := natBit x.invalid91 (memberBit w.chan w.high) false
    swung := if s.chSrc w.chan = 2 then natBit x.swung (s.slotOf w.chan) true else x.swung })
  let t := (t.inc SNS_SWING_CNT_DONE).showSpares
  match w.cmd with
  | some c => t.replyTo c.port c.seq stOK 0
  | none => t

/-- The verdict of R88. -/
def State.swingPasses (s : State) (w : Swing) : Bool :=
  let g := s.get (SNS_CH_MAP_GAIN w.chan)
  let g := if w.high then highGain g else g
  let n := w.counted
  let mean := decide (w.sumE.natAbs ≤ 84 * n)
  let big := decide (w.sumOO * 10000 ≥ n * (8388608 * 8388608))
  let na := (s.trimOf w.spare g).2.2
  let nb := (s.trimOf w.old g).2.2
  mean && (if big then decide ((w.sumSO - (w.sumOO : Int)).natAbs * 1000000 ≤ 150 * w.sumOO)
    else decide (w.sumEE * 65536 ≤ n * 16 * (na * na + nb * nb)))

/-- One compared beat of a swing (R88): the spare's sample and the own modulator's, both trimmed; an overload beat of the channel
(R75) is counted apart, and a beat whose frame brings no sample of the spare is not counted. The spare's samples stand beside the
fields of R79's frame (DESIGN CHOICE, log entry 132). -/
def State.compareBeat (s : State) (w : Swing) : Swing :=
  let g := s.get (SNS_CH_MAP_GAIN w.chan)
  let g := if w.high then highGain g else g
  let f := s.sns.frame
  let ownCode := if w.high then nth f.comp 0 (s.slotOf w.chan) else nth f.prim 0 w.chan
  if s.sns.ovlMask.testBit w.chan then { w with above := w.above + 1 }
  else
    match f.spare.find? (fun p => p.1 == w.spare) with
    | none => w
    | some p =>
      let own := s.trim w.old g ownCode
      let sp := s.trim w.spare g p.2
      let e := sp - own
      { w with
        sumE := w.sumE + e
        sumEE := w.sumEE + (e * e).toNat
        sumSO := w.sumSO + sp * own
        sumOO := w.sumOO + (own * own).toNat
        counted := w.counted + 1 }

/-- A swing with its comparison begun anew. -/
def Swing.restart (w : Swing) (b : Nat) : Swing :=
  { w with start := b, stage := 1, sumE := 0, sumEE := 0, sumSO := 0, sumOO := 0, counted := 0, above := 0 }

/-- A swing whose commit point falls in the beat (R87 step 5, R91): it commits before the beat's samples are trimmed. -/
def State.swingCommits (s : State) (w : Swing) : Bool :=
  (w.stage == 4 && decide (w.start + 65 ≤ s.now)) || (w.stage == 1 && decide (w.start + 4066 ≤ s.now))

/-- The commit points of a beat. -/
def State.swingsCommit (s : State) : State :=
  let t := forEach (s.sns.swings.filter (fun w => s.swingCommits w)) (fun w u => u.commitSwing w) s
  t.updSns (fun x => { x with swings := x.swings.filterMap (fun w =>
    if !s.swingCommits w then some w else if w.stage = 4 then none else some { w with stage := 3, cmd := none }) })

/-- The reference check of step 7 (R87, R96): BG_1 - BG_0 and BG_0 - secondary as the beat's observation carries them. -/
def State.stepSeven (s : State) (refs : Int × Int) : State := s.compareRefs refs.1 refs.2

/-- What a beat does to a swing (R87 to R91): the state and the swing as it goes on, or none when it is over. SUSPECT clears at
step 8, when the suspect modulator has been calibrated (DESIGN CHOICE, log entry 132). -/
def State.swingBeat (s : State) (cals : List ModCal) (refs : Int × Int) (w : Swing) : State × Option Swing :=
  let d := s.now - w.start
  if w.stage = 4 then (s, some w)
  else if w.stage = 1 then
    if d ≤ 64 then (s, some w)
    else if d ≤ 4064 then (s, some (if s.sns.common then w else s.compareBeat w))
    else if d = 4065 then
      if w.above > 400 then
        ((s.disconnect w).updSns (fun x => { x with
          waits := x.waits ++ [{ chan := w.chan, high := w.high, at_ := s.mono + 600, cmd := w.cmd }] }), none)
      else if s.swingPasses w then (s, some w)
      else
        let t := s.inc SNS_SWING_CNT_FAILED
        if w.second then (t.set1 (SNS_CH_STAT_SUSPECT w.chan), some w)
        else
          let t := (t.inc (SNS_MOD_HEALTH_FAILS w.spare)).raise 0x3006 NOTE (t.srcLane t.owner) w.chan w.spare
          (t.setRole w.spare 3, some { w with stage := 2, start := s.now })
    else (s, some w)
  else if w.stage = 2 then
    if d = 12768 then (s.stepSeven refs, some w)
    else if d < 13832 then (s, some w)
    else
      let t := s.applyCal (s.calFor cals w.spare)
      if t.role w.spare = 4 then
        ((t.clr (SNS_CH_STAT_SWINGING w.chan)).updSns (fun x => { x with
          waits := x.waits ++ [{ chan := w.chan, high := w.high, at_ := s.mono, cmd := w.cmd }] }), none)
      else
        let w := { w with second := true }
        (t.connect w, some (w.restart s.now))
  else
    if d = 16834 then
      ((if s.role w.old = 4 then s else s.applyCal (s.calFor cals w.old)).stepSeven refs, some w)
    else if d ≥ 17898 then
      let t := s.clr (SNS_CH_STAT_SUSPECT w.chan)
      (if t.role w.old = 4 then t else (t.setRole w.old 1).showSpares, none)
    else (s, some w)

/-- SNS.SWING_STATE: the swing of the lowest-numbered channel. -/
def State.showSwing (s : State) : State :=
  let low := s.sns.swings.foldl (fun (acc : Option Swing) w =>
    match acc with | none => some w | some v => if w.chan < v.chan then some w else some v) none
  match low with
  | none => s.wrN A_SNS_SWING_STATE 0
  | some w =>
    let d := s.now - w.start
    let phase := if w.stage = 2 then (if d < 12768 then 3 else 4)
      else if w.stage = 3 then (if d < 16834 then 3 else 4)
      else if d ≤ 64 then 1 else 2
    let t := (s.set1 SNS_SWING_STATE_BUSY).put SNS_SWING_STATE_PHASE phase
    ((t.put SNS_SWING_STATE_CHAN w.chan).put SNS_SWING_STATE_OLD_MOD w.old).put SNS_SWING_STATE_SPARE w.spare

/-- Every swing of a beat. -/
def State.swingsBeat (s : State) (cals : List ModCal) (refs : Int × Int) : State :=
  let ws := s.sns.swings
  let t := s.updSns (fun x => { x with swings := [] })
  let t := forEach ws (fun w u =>
    let r := u.swingBeat cals refs w
    match r.2 with
    | some v => r.1.updSns (fun x => { x with swings := x.swings ++ [v] })
    | none => r.1) t
  t.showSwing

/-- A takeover restarts the swings that have not reached step 5, with the same spares (R93). -/
def State.swingsRestart (s : State) : State :=
  let t := forEach (s.sns.swings.filter (fun w => w.stage == 1 || w.stage == 2)) (fun w u => u.connect w) s
  (t.updSns (fun x => { x with swings := x.swings.map (fun w =>
    if w.stage = 1 ∨ w.stage = 2 then ({ w with second := false }).restart s.now else w) })).showSwing

/-- A power-fail warning withdraws the swings that have not reached step 5 (R93): each is retried after the next start. One that a
command waits for, where the warning is withdrawn, is made then (DESIGN CHOICE, log entry 132). -/
def State.swingsWithdraw (s : State) : State :=
  let early := s.sns.swings.filter (fun w => w.stage == 1 || w.stage == 2)
  let t := forEach early (fun w u => u.disconnect w) s
  (t.updSns (fun x => { x with
    swings := x.swings.filter (fun w => w.stage == 3 || w.stage == 4)
    waits := x.waits ++ early.map (fun w =>
      { chan := w.chan, high := w.high, at_ := s.mono, cmd := w.cmd, next := true }) })).showSwing

/-- The modulator that carries a channel, or its high-gain member. -/
def State.carrier (s : State) (n : Nat) (high : Bool) : Nat :=
  if high then s.get (SNS_CH_MAP_MOD_B n) else s.get (SNS_CH_MAP_MOD_A n)

/-- A swing of a channel in progress. -/
def State.swingOf (s : State) (n : Nat) (high : Bool) : Option Swing :=
  s.sns.swings.find? (fun w => w.chan == n && w.high == high && w.stage != 3)

/-- The Dial's sequencer restarts on a new DIAL_FW, which holds swings (R396). -/
def State.dialRestart (s : State) : Bool :=
  match s.fwu.act with | some a => a.comp == 4 && a.stage == 1 | none => false

/-- Whether a spare may be connected to a channel (R75): the channel is direct and in no swing, the spare usable. -/
def State.canSwing (s : State) (n : Nat) (high : Bool) (spare : Nat) : Bool :=
  let src := s.chSrc n
  s.running && (src == 2 || (src == 1 && !high)) && s.role spare == 1 &&
    !(s.sns.swings.any (fun w => w.chan == n && w.stage != 3)) && !s.warned && !s.dialRestart

/-- Whether a swing other than an emergency may start (R86): fewer than MAX_PAR are in steps 1 to 4. -/
def State.mayStart (s : State) (n : Nat) (high : Bool) (spare : Nat) : Bool :=
  s.canSwing n high spare && decide (s.swingsOpen < max 1 (s.get SNS_SWING_CFG_MAX_PAR))

/-- The number of assigned direct modulators (R86): a dual-range channel counts twice. -/
def State.assignedCount (s : State) : Nat :=
  (List.range 128).foldl (fun c n => c + (if s.chSrc n = 1 then 1 else if s.chSrc n = 2 then 2 else 0)) 0

/-- MONO in 2^-32 s at the beat's sample. -/
def State.monoFine (s : State) : Nat := s.mono * 2 ^ 32 + s.lgl.frac

/-- PERIOD divided by the number of assigned direct modulators (R86), in 2^-32 s. -/
def State.swingStep (s : State) : Nat := 60 * s.get SNS_SWING_CFG_PERIOD * 2 ^ 32 / max s.assignedCount 1

/-- The time of a routine swing in the even spacing of R86: where it is due, or, a whole spacing late, the present. -/
def State.swingSlot (s : State) : Nat :=
  match s.sns.lastSwing with
  | some m => if s.monoFine < m + 2 * s.swingStep then m + s.swingStep else s.monoFine
  | none => s.monoFine

/-- A swing starts (R87 step 1) for a wait, or for none. -/
def State.startSwing (s : State) (n : Nat) (high : Bool) (spare : Nat) (wait : Option SwingWait) (routine : Bool) : State :=
  let w : Swing :=
    { chan := n, high := high, spare := spare, old := s.carrier n high, start := s.now, stage := 1,
      cmd := wait.bind (fun x => x.cmd) }
  let t := s.updSns (fun x => { x with
    swings := x.swings ++ [w]
    waits := match wait with | some v => x.waits.erase v | none => x.waits
    swingMono := upd x.swingMono (memberBit n high) (fun _ => some s.mono)
    lastSwing := if routine then some s.swingSlot else x.lastSwing })
  (t.connect w).showSwing

/-- A routine swing of a member is due (R86): PERIOD after its last one, and PERIOD divided by the number of assigned modulators after
the last routine swing of any. -/
def State.routineDue (s : State) (n : Nat) (high : Bool) : Bool :=
  let p := 60 * s.get SNS_SWING_CFG_PERIOD
  (match nth s.sns.swingMono none (memberBit n high) with | some m => decide (m + p ≤ s.mono) | none => true) &&
    (match s.sns.lastSwing with | some m => decide (m + s.swingStep ≤ s.monoFine) | none => true)

/-- The Dial is at least TEMP_TRIG from the temperature of a member's last calibration (R86). -/
def State.tempTrigger (s : State) (n : Nat) (high : Bool) : Bool :=
  decide (10 * s.get SNS_SWING_CFG_TEMP_TRIG ≤
    (s.geti SNS_DIAL_T_TEMP - s.geti (SNS_MOD_STATE_CAL_T (s.carrier n high))).natAbs)

/-- The swing of a failed modulator (R91): the spare settles for 64 beats and is not compared. -/
def State.emergencySwing (s : State) (n : Nat) (high : Bool) (spare old : Nat) (cmd : Option CmdRef) : State :=
  let w : Swing := { chan := n, high := high, spare := spare, old := old, start := s.now, stage := 4, cmd := cmd }
  ((s.updSns (fun x => { x with swings := x.swings ++ [w] })).connect w).showSwing

/-- SWING_IN_START (R86, R87 step 1): a spare is connected to a channel, in the order of precedence of R86: a member that has failed
under R91, an SNS_SWING_NOW that waits for it, the temperature trigger or the routine. -/
def execSwingInStart (n : Fin 128) (high : Bool) (spare : Fin 72) (s : State) : Out :=
  if !s.canSwing n high spare then .next s
  else if s.sns.invalid91.testBit (memberBit n high) then .next (s.emergencySwing n high spare (s.carrier n high) none)
  else if !s.mayStart n high spare then .next s
  else if s.isSet SNS_STATUS_SWING_SUSP then .next s
  else
    match s.sns.waits.find? (fun w => w.chan == n.val && w.high == high && w.cmd.isSome && decide (w.at_ ≤ s.mono)) with
    | some w => .next (s.startSwing n high spare (some w) false)
    | none =>
      if s.sns.waits.any (fun w => w.cmd.isSome && decide (w.at_ ≤ s.mono)) then .next s
      else if s.tempTrigger n high then .next (s.startSwing n high spare none false)
      else if s.routineDue n high then .next (s.startSwing n high spare none true)
      else .next s

/-- SWING_RETRY (R88, R93): a withdrawn swing is made again 10 min later, or after the next start. -/
def execSwingRetry (n : Fin 128) (high : Bool) (spare : Fin 72) (s : State) : Out :=
  match s.sns.waits.find? (fun w => w.chan == n.val && w.high == high && !w.next && decide (w.at_ ≤ s.mono)) with
  | some w =>
    if s.mayStart n high spare && !s.isSet SNS_STATUS_SWING_SUSP then .next (s.startSwing n high spare (some w) false)
    else .next s
  | none => .next s

/-- MODULATOR_FAILED (R91): an assigned modulator fails; a spare swings in at once, the named one or else the lowest. -/
def execModulatorFailed (k spare : Fin 72) (s : State) : Out :=
  if s.lanesWork && s.role k == 0 && s.chSrc (s.get (SNS_MOD_STATE_CHAN k)) != 0 then
    let n := s.get (SNS_MOD_STATE_CHAN k)
    let high := s.isSet (SNS_MOD_STATE_HIGH k)
    let t := match s.swingOf n high with
      | some w => (s.disconnect w).updSns (fun x => { x with swings := x.swings.filter (fun v => v != w) })
      | none => s
    let cmd := (s.swingOf n high).bind (fun w => w.cmd)
    let pick := if t.role spare = 1 then some spare.val else (List.range 72).find? (fun j => t.role j == 1)
    let t := (t.retire k).updSns (fun x => { x with invalid91 := natBit x.invalid91 (memberBit n high) true })
    let t := t.raise 0x3010 DEGRADE (t.srcLane t.owner) k (n + (if pick.isSome then 0 else 0x100))
    match pick with
    | some j => .next (t.emergencySwing n high j k cmd)
    | none => .next t
  else .next s

/-! ### Known-state calibration -/

/-- Whether a known-state window may be open for a bitstream channel (R94). -/
def State.ksOpen (s : State) (n : Nat) : Bool :=
  match nth s.sns.ksOutlet none n with
  | none => false
  | some o =>
    s.chSrc n == 3 && s.get (OUT_CONTACT_CSTATE o) == 0 && decide ((s.o o).weld.t0 + 400 ≤ s.now) &&
      s.get (OUT_WELD_RESULT o) == 1 && !(s.o o).weld.active &&
      (match s.sesOn o with | some k => s.sst k != CHARGING | none => true)

/-- Open a window for a channel (R94). -/
def State.ksStart (s : State) (n : Nat) (cmd : Option CmdRef) : State :=
  s.updSns (fun x => { x with ks := x.ks ++ [{ chan := n, cmd := cmd }] })

/-- Take or refuse a measured offset in 2^-8 code (R95). -/
def State.ksTake (s : State) (w : KsWin) : State :=
  let m := roundEven (256 * w.sum) (max w.count 1)
  let dif := (m - s.geti (SNS_CH_TRIM_OFFSET w.chan)).natAbs
  let refused := nth s.sns.ksRefused 0 w.chan
  let inStep := decide (dif * 1000000 ≤ s.sns.offsetStep * 2147483648)
  let answer (st : Nat) (u : State) : State := match w.cmd with | some c => u.replyTo c.port c.seq st 0 | none => u
  if inStep || decide (refused ≥ 3) then
    let t := (s.puti (SNS_CH_TRIM_OFFSET w.chan) (satI 32 m)).clr (SNS_CH_STAT_KS_REFUSED w.chan)
    let t := (t.clr (SNS_CH_STAT_STALE w.chan)).updSns (fun x => { x with
      ksRefused := upd x.ksRefused w.chan (fun _ => 0)
      ksMono := upd x.ksMono w.chan (fun _ => s.mono) })
    answer stOK (when (!inStep) (fun u => u.raise 0x300A NOTE (u.srcLane u.owner) w.chan 0) t)
  else
    let t := s.updSns (fun x => { x with ksRefused := upd x.ksRefused w.chan (fun r => r + 1) })
    answer stTIMEOUT ((t.set1 (SNS_CH_STAT_KS_REFUSED w.chan)).raise 0x300A NOTE (t.srcLane t.owner) w.chan 0)

/-- What a beat does to the open windows (R94): a close command or a session that charges discards the measurement. A beat without a
valid sample is left out, and the window lasts a beat longer: the rule says nothing of it (DESIGN CHOICE, log entry 155). -/
def State.ksBeat (s : State) : State :=
  let ws := s.sns.ks
  forEach ws (fun w u =>
    if !u.ksOpen w.chan then
      match w.cmd with | some c => u.replyTo c.port c.seq stTIMEOUT 0 | none => u
    else
      let w := if u.sns.ok.testBit w.chan && !u.sns.common then
          { w with sum := w.sum + nth u.sns.frame.prim 0 w.chan, count := w.count + 1 }
        else w
      if w.count ≥ 4000 then u.ksTake w else u.updSns (fun x => { x with ks := x.ks ++ [w] }))
    (s.updSns (fun x => { x with ks := [] }))

/-- KNOWN_STATE_WINDOW (R94). -/
def execKnownStateWindow (n : Fin 128) (s : State) : Out :=
  if s.running && s.ksOpen n && !(s.sns.ks.any (fun w => w.chan == n.val)) then .next (s.ksStart n none) else .next s

/-- KS_STALE (R95): no successful window for 7 days. -/
def execKsStale (n : Fin 128) (s : State) : Out :=
  if s.running ∧ s.chSrc n = 3 ∧ (nth s.sns.ksOutlet none n).isSome ∧ !s.isSet (SNS_CH_STAT_STALE n) ∧
      nth s.sns.ksMono 0 n + 604800 ≤ s.mono then
    .next ((s.set1 (SNS_CH_STAT_STALE n)).raise 0x300B NOTE (s.srcLane s.owner) n 0)
  else .next s

/-- REFERENCE_COMPARE (R96): the differences found, in 0.1 ppm, at the comparison of every 10 min. Those of step 7 of a swing-in and
of step 9 of start-up belong to BEAT and START_ORDER. -/
def execReferenceCompare (d10 d0s : Int) (s : State) : Out :=
  if s.running && (s.sns.refMono == 0 || decide (s.sns.refMono + 600 ≤ s.mono)) then
    .next ((s.compareRefs d10 d0s).updSns (fun x => { x with refMono := s.mono }))
  else .next s

/-! ### Inputs and lost frames -/

/-- IB_STUCK (R77, 0x3004): an input without a transition for 64 periods; 4 beats in sequence raise the fault, which
4 000 beats with transitions clear. -/
def execIbStuck (n : Fin 64) (s : State) : Out :=
  if s.lanesWork then
    let x := nth s.sns.ib {} n
    let held := x.held && decide (s.now < x.last + 4000)
    let run := if x.last + 1 = s.now then x.run + 1 else 1
    let t := s.updSns (fun y => { y with ib := upd y.ib n (fun _ =>
      { last := s.now, run := run, held := held || decide (run ≥ 4) }) })
    .next (when (decide (run ≥ 4) && !held) (fun u => u.raise 0x3004 DEGRADE (u.srcLane u.owner) n 0) t)
  else .next s

/-- IBCLK_FAULT (R76, 0x3005): the readback of an IBCLK ball differs from the driven level, or agrees again. -/
def execIbclkFault (k : Fin 8) (differs : Bool) (s : State) : Out :=
  if s.lanesWork then
    let t := s.putBit SNS_IB_CLK_FAULT k differs
    .next (when (differs && !s.bitOf SNS_IB_CLK_FAULT k) (fun u => u.raise 0x3005 DEGRADE (u.srcLane u.owner) k 0) t)
  else .next s

/-- FRAME_LOSS (R98): 4 beats in sequence without a good frame on either lane. -/
def execFrameLoss (s : State) : Out :=
  if s.lanesWork ∧ 4 ≤ s.sns.lost ∧ !s.sns.lostHeld then
    .next ((s.updSns (fun x => { x with lostHeld := true })).raiseEveryOutlet 0x3012 (s.srcLane s.owner) 0xFFF 0)
  else .next s

/-- LINK_DEGRADED (R98, R237): more than 16 bad frames of a lane in 40 000 beats. -/
def execLinkDegraded (lane : Fin 2) (s : State) : Out :=
  let l := (if lane.val = 0 then s.sns.badA else s.sns.badB).filter (fun b => decide (s.now < b + 40000))
  if s.lanesWork ∧ s.laneRuns lane ∧ l.length > 16 ∧ (s.resigned lane).isNone then
    .next ((s.raise 0x3011 DEGRADE (s.srcLane lane) lane 0).laneFails lane 0x3011)
  else .next s

/-! ### Commands -/

/-- SNS_SWING_NOW, 0x0301 (R86, R92). -/
def execSnsSwingNow (mb : Fin 8) (s : State) : Out :=
  .next (s.command mb 0x0301 .running false (fun c s =>
    let n := c.u32 0
    let high := c.u32 1 = 1
    let src := s.chSrc n
    if n ≥ 128 ∨ (src ≠ 1 ∧ src ≠ 2) ∨ (src = 2 ∧ c.u32 1 > 1) then s.reply c stBAD_ARG 0
    else if s.isSet SNS_STATUS_SWING_SUSP then s.reply c stREFUSED_STATE 0
    else s.updSns (fun x => { x with waits := x.waits ++
      [{ chan := n, high := high && src == 2, at_ := s.mono, cmd := some { port := c.port, seq := c.seq } }] })))

/-- SNS_CAL_ABORT, 0x0302 (R30, R93): before step 5 the spare is disconnected. A swing that has become an emergency swing goes on for
its channel's sake, the command alone is withdrawn (DESIGN CHOICE, log entry 155). -/
def execSnsCalAbort (mb : Fin 8) (s : State) : Out :=
  .next (s.command mb 0x0302 .any false (fun c s =>
    let r : CmdRef := { port := c.port, seq := c.u32 0 }
    match s.sns.swings.find? (fun w => w.cmd == some r) with
    | some w =>
      let t := if w.stage = 4 then s.updSns (fun x => { x with
          swings := x.swings.map (fun v => if v == w then { v with cmd := none } else v) })
        else (s.disconnect w).updSns (fun x => { x with swings := x.swings.filter (fun v => v != w) })
      ((t.dropCmd r.port r.seq).showSwing).reply c stOK 0
    | none =>
      if s.sns.waits.any (fun w => w.cmd == some r) then
        ((s.updSns (fun x => { x with waits := x.waits.filter (fun w => w.cmd != some r) })).dropCmd r.port r.seq).reply c stOK 0
      else s.abortLate c r))

/-- SNS_KS_CAL, 0x0303 (R94). -/
def execSnsKsCal (mb : Fin 8) (s : State) : Out :=
  .next (s.command mb 0x0303 .running false (fun c s =>
    let n := c.u32 0
    let r : CmdRef := { port := c.port, seq := c.seq }
    if n ≥ 128 ∨ s.chSrc n ≠ 3 then s.reply c stBAD_ARG 0
    else if !s.ksOpen n then s.reply c stREFUSED_STATE 0
    else
      match s.sns.ks.find? (fun w => w.chan == n) with
      | some w =>
        if w.cmd.isSome then s.reply c stBUSY 0
        else s.updSns (fun x => { x with ks := x.ks.map (fun v => if v.chan == n then { v with cmd := some r } else v) })
      | none => s.ksStart n (some r)))

/-- SNS_REF_CHECK, 0x0304 (R96): the outcome and BG_1 - BG_0, BG_0 - secondary, BG_1 - secondary in 0.1 ppm. -/
def execSnsRefCheck (mb : Fin 8) (d10 d0s : Int) (s : State) : Out :=
  .next (s.command mb 0x0304 .running false (fun c s =>
    let t := s.compareRefs d10 d0s
    t.reply c stOK 0 (le 4 (refOutcome d10 d0s) ++ le 4 (twos 32 d10) ++ le 4 (twos 32 d0s) ++ le 4 (twos 32 (d0s + d10)))))

/-- SNS_SPARE_RETEST, 0x0305 (R90): a retired modulator is calibrated again. -/
def execSnsSpareRetest (mb : Fin 8) (cal : ModCal) (s : State) : Out :=
  .next (s.command mb 0x0305 .running true (fun c s =>
    let k := c.u32 0
    if k ≥ 72 ∨ s.role k ≠ 4 then s.reply c stBAD_ARG 0
    else if cal.inLimits then (((s.applyCal { cal with k := k }).setRole k 1).showSpares).reply c stOK 0
    else (s.inc (SNS_MOD_HEALTH_FAILS k)).reply c stBAD_ARG 0))

/-- SNS_CAPTURE, 0x0306 (R366): one to eight channels, then the beat count and the Mainplate address. -/
def execSnsCapture (mb : Fin 8) (s : State) : Out :=
  .next (s.command mb 0x0306 .running false (fun c s =>
    let n := c.args.length / 4 - 2
    let chans := (List.range n).map c.u32
    let cnt := c.u32 n
    let a := c.u32 (n + 1)
    if n = 0 ∨ n > 8 ∨ cnt = 0 ∨ cnt > 40000 ∨ chans.any (fun k => decide (k ≥ 128)) ∨ !argRangeOk a (4 * n * cnt) then
      s.reply c stBAD_ARG 0
    else if s.sns.capture.isSome then s.reply c stBUSY 0
    else s.updSns (fun x => { x with
      capture := some { chans := chans, left := cnt, addr := a, cmd := { port := c.port, seq := c.seq } } })))

/-- The samples of a beat that a capture takes, 4 bytes each, channel-interleaved. -/
def State.captureBeat (s : State) : State :=
  match s.sns.capture with
  | none => s
  | some c =>
    let t := s.laneWrite c.addr (c.chans.flatMap (fun n => le 4 (twos 32 (nth s.sns.val 0 n))))
    if c.left ≤ 1 then (t.updSns (fun x => { x with capture := none })).replyTo c.cmd.port c.cmd.seq stOK 0
    else
      let d := { c with left := c.left - 1, addr := c.addr + 4 * c.chans.length }
      t.updSns (fun x => { x with capture := some d })

end Sys2Proof.Machine
end

