-- ==== Sys2Proof/Machine/Metering.lean ====
section
/-! DEFINITION. Energy computation of 05_metering.md: channel correction, cycles, the quantities of a meter with their
roundings and pending registers, totals and interval registers, pulse outputs, and the saves. -/
namespace Sys2Proof.Machine

/-! ### Access -/

def State.updMtr (s : State) (f : MtrSt → MtrSt) : State := { s with mtr := f s.mtr }
def State.chn (s : State) (n : Nat) : ChanSt := nth s.mtr.ch {} n
def State.updChn (s : State) (n : Nat) (f : ChanSt → ChanSt) : State := s.updMtr (fun x => { x with ch := upd x.ch n f })
def State.met (s : State) (m : Nat) : MeterSt := nth s.mtr.m {} m
def State.updMet (s : State) (m : Nat) (f : MeterSt → MeterSt) : State := s.updMtr (fun x => { x with m := upd x.m m f })
def State.pulse (s : State) (k : Nat) : PulseSt := nth s.mtr.pls {} k
def State.updPulse (s : State) (k : Nat) (f : PulseSt → PulseSt) : State :=
  s.updMtr (fun x => { x with pls := upd x.pls k f })

/-- KIND of a meter: 0 unused, 1 AC1, 2 AC3, 3 DC (R99). -/
def State.mKind (s : State) (m : Nat) : Nat := s.get (MTR_M_CFG_KIND m)

/-- The channels of a meter. -/
def MeterSt.chans (x : MeterSt) : List Nat := x.vCh ++ x.iCh ++ x.nCh.toList

/-- The timing meter of a channel (R107): the first meter that contains it. -/
def State.timing (s : State) (n : Nat) : Option Nat :=
  (List.range 32).find? (fun m => s.mKind m != 0 && (s.met m).chans.contains n)

/-- Whether a meter runs on fixed cycles (R106). -/
def State.fixedCycles (s : State) (m : Nat) : Bool := s.mKind m == 3 || s.isSet (MTR_M_STATE_NOREF m)

/-- Rounded to the nearest integer, halves away from zero (R102). -/
def roundAway (n : Int) (d : Nat) : Int :=
  if n < 0 then -(((-n) * 2 + d) / (2 * d)) else (n * 2 + d) / (2 * d)

/-! ### Channel correction -/

/-- The segment of R102 for an index in 2^-40 of a thousandth: (segment, t in 2^-16, G, D). -/
def segmentOf (tab : List (Nat × Int × Int)) (idx : Nat) : Nat × Nat × Int × Int :=
  let b (k : Nat) : Nat := (nth tab (0, 0, 0) k).1 * 2 ^ 40
  let g (k : Nat) : Int := (nth tab (0, 0, 0) k).2.1
  let d (k : Nat) : Int := (nth tab (0, 0, 0) k).2.2
  if idx < b 0 then (0, 0, g 0, d 0)
  else if idx ≥ b 7 then (7, 0, g 7, d 7)
  else
    let k := ((List.range 7).filter (fun j => decide (b j ≤ idx))).length - 1
    let t := (idx - b k) * 65536 / (b (k + 1) - b k)
    (k, t, roundAway (g k * 65536 + t * (g (k + 1) - g k)) 65536, roundAway (d k * 65536 + t * (d (k + 1) - d k)) 65536)

/-- Renew a channel's segment values from its band and its index (R102, R107). -/
def State.renewSegment (s : State) (n : Nat) : State :=
  let c := s.chn n
  let r := segmentOf (nth c.bands [] (s.get (MTR_CH_CORR_BAND n))) (if c.ended then c.rms * 1000 else 0)
  let t := (s.put (MTR_CH_CORR_SEG n) r.1).put (MTR_CH_CORR_T n) r.2.1
  t.updChn n (fun x => { x with g := r.2.2.1, d := r.2.2.2 })

/-- Apply a pending band change of a channel (R104, R107). -/
def State.applyBand (s : State) (n : Nat) : State :=
  let now_ := s.get MTR_BAND_NOW
  if s.get (MTR_CH_CORR_BAND n) = now_ then s
  else ((s.put (MTR_CH_CORR_BAND n) now_).clr (MTR_CH_CORR_PEND n)).set1 MTR_EVENTS_BAND_CHG

/-- The band after one look at DIAL_T in 0.1 °C (R104), from the signed thresholds in °C. -/
def State.nextBand (s : State) (b : Nat) (t : Int) : Nat :=
  let tb (k : Nat) : Int := if k = 1 then s.geti MTR_BAND_TB1 else if k = 2 then s.geti MTR_BAND_TB2 else s.geti MTR_BAND_TB3
  if b < 3 ∧ t ≥ 10 * tb (b + 1) then b + 1
  else if 0 < b ∧ t ≤ 10 * tb b - 30 then b - 1
  else b

/-- The band follows DIAL_T; PEND shows a change that waits (R104). -/
def State.bandBeat (s : State) : State :=
  let t := s.sns.frame.dialT
  let b := s.nextBand (s.nextBand (s.nextBand (s.get MTR_BAND_NOW) t) t) t
  let u := s.put MTR_BAND_NOW b
  forUpTo 128 (fun n v =>
    if v.chSrc n = 0 then v
    else match v.timing n with
      | some m =>
        if v.mKind m = 3 then (if v.get (MTR_CH_CORR_BAND n) = b then v else (v.applyBand n).renewSegment n)
        else v.putB (MTR_CH_CORR_PEND n) (v.get (MTR_CH_CORR_BAND n) != b)
      | none => if v.get (MTR_CH_CORR_BAND n) = b then v else (v.applyBand n).renewSegment n) u

/-- The filter FD_D over the last eight samples, times the gain factor and the scale (R103), in 2^-40 V or A. -/
def ChanSt.correct (c : ChanSt) : Int :=
  let y := sumI ((List.range 8).map (fun k => Config.fdTap c.d k * nth c.hist 0 k))
  let v := roundEven (y * (16777216 + c.g) * c.scale) (1073741824 * 16777216)
  if c.neg then -v else v

/-- A beat without a frame on either lane: the channel's last corrected sample stands for it (R62). -/
def State.repeatChannel (s : State) (n : Nat) : State :=
  if s.chSrc n = 0 then s
  else s.updChn n (fun c =>
    let v := nth c.corr 0 0
    { c with hist := (nth c.hist 0 0 :: c.hist).take 8, corr := (v :: c.corr).take 1600, held := (c.lastOk :: c.held).take 1600
             sumSq := c.sumSq + (v * v).toNat })

/-- A channel's corrected sample of the beat (R103), or the substituted one (R118). A channel of no meter is treated as a
DC channel (log entry 17). Before an AC meter has ended its first cycle there is no N_c, and its last valid sample stands in
(DESIGN CHOICE, log entry 155). -/
def State.corrChannel (s : State) (n : Nat) : State :=
  if s.chSrc n = 0 then s
  else
    let ok := s.sns.ok.testBit n
    let nc := match s.timing n with
      | some m => if s.mKind m = 3 then 0 else (s.met m).nPrev
      | none => 0
    s.updChn n (fun c =>
      let c := { c with hist := ((if ok then nth s.sns.val 0 n else nth c.hist 0 0) :: c.hist).take 8 }
      let v := if ok then c.correct
        else if nc = 0 then c.lastOk
        else nth c.corr c.lastOk (nc - 1)
      { c with
        corr := (v :: c.corr).take 1600
        held := ((if ok then v else c.lastOk) :: c.held).take 1600
        lastOk := if ok then v else c.lastOk
        sumSq := c.sumSq + (v * v).toNat })

/-! ### Increments -/

/-- Δt as a factor from 2^-80 units to 2^-72 quanta: 25 µs × 2^-8 (R108, R109). -/
def perBeat (x : Int) : Int := roundEven (x * 25) 256000000

/-- The reactive product of a phase (R108): the Hilbert output times the current 31 beats earlier, in 2^-80. -/
def hilbert (v : List Int) : Int :=
  roundEven (sumI ((List.range 63).map (fun k => Config.hilbertTap k * nth v 0 k))) 1073741824

/-- A meter's signed increments of the beat in 2^-72 of their unit: legal, raw, charge, reactive, S, F, I2H (R108). -/
def State.rawIncs (s : State) (m : Nat) : List Int :=
  let x := s.met m
  let at_ (n k : Nat) : Int := nth (s.chn n).corr 0 k
  let ph := x.vCh.zip x.iCh
  let vi := sumI (ph.map (fun p => at_ p.1 0 * at_ p.2 0))
  let ii := sumI (x.iCh.map (fun n => at_ n 0 * at_ n 0))
  if s.mKind m = 3 then
    let i := at_ (nth x.iCh 0 0) 0
    let loss := roundEven ((x.rCab : Int) * i * i) 1000000
    [perBeat (vi - loss), perBeat vi, roundEven (i * 2 ^ 32 * 25) 1000000, 0, 0, 0, perBeat ii]
  else
    let r := sumI (ph.map (fun p => hilbert (s.chn p.1).corr * at_ p.2 31))
    [perBeat vi, 0, 0, perBeat r, perBeat x.sPrev, perBeat x.fPrev, perBeat ii]

/-- The rounding of R109: the increment in quanta and the remainder that is carried. -/
def roundInc (inc rem : Int) : Int × Int :=
  let t := inc + rem
  let q := roundEven t 4294967296
  (q, t - q * 4294967296)

/-- A transfer of R110: what goes to the import and export quantity and what stays pending. -/
def transfer (known : Bool) (bar pend : Int) : Nat × Nat × Int :=
  if known && decide (pend > 0) && decide (bar ≥ 0) then (pend.toNat, 0, 0)
  else if known && decide (pend < 0) && decide (bar < 0) then (0, (-pend).toNat, 0)
  else (0, 0, pend)

/-- The quadrant of R111: 0 Q1, 1 Q2, 2 Q3, 3 Q4. -/
def quadrant (p q : Int) : Nat := if q ≥ 0 then (if p ≥ 0 then 0 else 1) else if p < 0 then 2 else 3

/-- Add the rounded increments to pending registers and totals (R109 to R111). -/
def State.register (s : State) (m : Nat) (incs : List Int) : State :=
  let x := s.met m
  let dc := s.mKind m = 3
  let p (k : Nat) : Int := nth x.pend 0 k + nth incs 0 k
  let b (k : Nat) : Int := nth x.bar 0 k
  let t0 := transfer x.ended (b 0) (p 0)
  let t1 := transfer x.ended (b 1) (p 1)
  let t2 := transfer x.ended (b 2) (p 2)
  let t3 := transfer x.ended (b 3) (p 3)
  let qd := quadrant (b 0) (b 3)
  let react := t3.1 + t3.2.1
  let sInc := (nth incs 0 4).toNat
  let f := nth incs 0 5
  let growth : List Nat :=
    if dc then [t0.1, t0.2.1, t2.1, t2.2.1, t1.1, t1.2.1, 0, 0, 0, 0, (nth incs 0 6).toNat]
    else
      [t0.1, t0.2.1] ++ (List.range 4).map (fun k => if k = qd then react else 0) ++
        (if b 0 ≥ 0 then [sInc, 0] else [0, sInc]) ++ (if f ≥ 0 then [f.toNat, 0] else [0, (-f).toNat]) ++
        [(nth incs 0 6).toNat]
  let u := s.updMet m (fun y => { y with
    pend := [t0.2.2, t1.2.2, t2.2.2, t3.2.2]
    sums := (List.range 4).map (fun k => nth y.sums 0 k + nth incs 0 k)
    growth := growth
    cycGrow := (List.range 11).map (fun q => nth y.cycGrow 0 q + nth growth 0 q) })
  forUpTo 11 (fun q v =>
    when (decide (nth growth 0 q ≠ 0)) (fun w => w.acc128 (A_MTR_M_TOTAL m q) ((nth growth 0 q : Nat) : Int)) v) u

/-- The place of an increment's remainder (R109): apparent and fundamental energy keep one for each direction. -/
def remOf (k : Nat) (bar f : Int) : Nat := if k = 4 ∧ bar < 0 then 7 else if k = 5 ∧ f < 0 then 8 else k

/-- A meter's increments of a beat: rounded with the carried remainders (R109), or none in creep (R113). -/
def State.addIncs (s : State) (m : Nat) (raws : List Int) : State :=
  if s.isSet (MTR_M_STATE_CREEP m) then
    s.updMet m (fun y => { y with last := [0, 0, 0, 0, 0, 0, 0], growth := List.replicate 11 0 })
  else
    let x := s.met m
    let f := nth raws 0 5
    let place (k : Nat) : Nat := remOf k (nth x.bar 0 0) f
    let rs := (List.range 7).map (fun k =>
      roundInc (if k = 5 then (f.natAbs : Int) else nth raws 0 k) (nth x.rem 0 (place k)))
    let rem := (List.range 7).foldl (fun l k => upd l (place k) (fun _ => (nth rs (0, 0) k).2)) x.rem
    (s.updMet m (fun y => { y with rem := rem, last := raws })).register m
      (rs.mapIdx (fun k r => if k = 5 ∧ f < 0 then -r.1 else r.1))

/-! ### Cycles -/

/-- 2π in 2^-64. -/
def twoPi : Int := 115904311329233965478

/-- Cosine and sine, in 2^-64, of an angle of at most 2π in 2^-64 rad, by their power series about 0 at an angle of at most π. -/
def cosSin (x : Int) : Int × Int :=
  let a := if twoPi < 2 * x then x - twoPi else x
  let r := (List.range 34).foldl (fun (acc : Int × Int × Int) (k : Nat) =>
    let p : Int := acc.1 * a / (2 ^ 64 * ((k : Int) + 1))
    let sign : Int := if (k + 1) / 2 % 2 = 0 then 1 else -1
    if k % 2 = 0 then (p, acc.2.1, acc.2.2 + sign * p) else (p, acc.2.1 + sign * p, acc.2.2)) (2 ^ 64, 2 ^ 64, 0)
  r.2

/-- The single bin of a DFT over samples of a cycle of len/64 beats, newest first: its two parts in 2^-64 of the samples' unit. -/
def dftBin (len : Nat) (l : List Int) : Int × Int :=
  l.zipIdx.foldl (fun acc p =>
    let c := cosSin (twoPi * (64 * p.2 % max len 1) / max len 1)
    (acc.1 + p.1 * c.1, acc.2 + p.1 * c.2)) (0, 0)

/-- The fundamental active power of one phase over a cycle's corrected voltages and currents, in 2^-80 W (R108): a single-bin DFT at the
measured cycle length, in 2^-6 beat. Its precision is the model's (log entry 14). -/
def fundamental (len : Nat) (v i : List Int) : Int :=
  let a := dftBin len v
  let b := dftBin len i
  let n : Int := max v.length 1
  roundEven (2 * (a.1 * b.1 + a.2 * b.2)) (2 ^ 128 * n * n)

/-- The sums of the cycle for RMS, means and P1. -/
def State.sumCycle (s : State) (m : Nat) : State :=
  let x := s.met m
  let at_ (n : Nat) : Int := nth (s.chn n).corr 0 0
  let cur := x.iCh ++ x.nCh.toList
  s.updMet m (fun y => { y with
    n := y.n + 1
    v2 := (List.range 3).map (fun p => nth y.v2 0 p + (if p < x.vCh.length then (at_ (nth x.vCh 0 p) ^ 2).toNat else 0))
    v1 := (List.range 3).map (fun p => nth y.v1 0 p + (if p < x.vCh.length then at_ (nth x.vCh 0 p) else 0))
    i2 := (List.range 4).map (fun p => nth y.i2 0 p + (if p < cur.length then (at_ (nth cur 0 p) ^ 2).toNat else 0))
    i1 := (List.range 4).map (fun p => nth y.i1 0 p + (if p < cur.length then at_ (nth cur 0 p) else 0))
    vs := (List.range 3).map (fun p => if p < x.vCh.length then at_ (nth x.vCh 0 p) :: nth y.vs [] p else [])
    is := (List.range 3).map (fun p => if p < x.iCh.length then at_ (nth x.iCh 0 p) :: nth y.is [] p else []) })

/-- The residual channel that iΔ of a meter's BYPASS sum stands for (R150): its outlet's, none for the site meter. -/
def State.bypassCh (s : State) (m : Nat) : Option Nat :=
  let o := s.get (MTR_M_CFG_OUTLET m)
  if s.get (MTR_M_CFG_ROLE m) = 0 ∧ o < 12 then (s.o o).cfg.resCh else none

/-- The sums of the cycle for the class B conditions (R150). -/
def State.sumClassB (s : State) (m : Nat) : State :=
  let x := s.met m
  let at_ (n : Nat) : Int := nth (s.chn n).corr 0 0
  let v (p : Nat) : Int := if p < x.vCh.length then at_ (nth x.vCh 0 p) else 0
  let i (p : Nat) : Int := if p < x.iCh.length then at_ (nth x.iCh 0 p) else 0
  let iN : Int := match x.nCh with | some n => at_ n | none => 0
  let iD : Int := match s.bypassCh m with | some n => at_ n | none => 0
  let b := i 0 + i 1 + i 2 - iN - iD
  s.updMet m (fun y => { y with
    pw := (List.range 3).map (fun p => nth y.pw 0 p + v p * i p)
    ll2 := (List.range 3).map (fun p => nth y.ll2 0 p + ((v p - v ((p + 1) % 3)) ^ 2).toNat)
    by2 := y.by2 + (b ^ 2).toNat })

/-- The RMS of a sum of squares over n beats, in 2^-40. -/
def rmsOf (sq n : Nat) : Nat := if n = 0 then 0 else isqrt (sq / n)

/-- Whether an outlet is in an authorised discharge (R150, R217): its session's allocation is negative. -/
def State.discharging (s : State) (n : Nat) : Bool :=
  match s.sesOn n with
  | some k => decide (s.geti (SES_ALLOC_ALLOC k) < 0)
  | none => false

/-- Whether a class B condition holds over the cycle that ends (R150): kind 0 REVERSED of a phase, 1 BYPASS, 2 NEUTRAL_MISSING; RMS
values are in 2^-40, Un in V, In in 0.1 A. -/
def State.classB (s : State) (m kind phase : Nat) : Bool :=
  let x := s.met m
  let n := max x.n 1
  let un := s.gov.un
  let us := (List.range 3).map (fun p => rmsOf (nth x.v2 0 p) n)
  let is := (List.range 3).map (fun p => rmsOf (nth x.i2 0 p) n)
  if kind = 0 then
    let pw := nth x.pw 0 phase
    let o := s.get (MTR_M_CFG_OUTLET m)
    let export_ := s.get (MTR_M_CFG_ROLE m) == 0 && decide (o < 12) && !s.discharging o && decide (nth x.sums 0 0 < 0)
    let opposite := decide (pw < 0 ∧ 0 ≤ nth x.sums 0 0) || decide (0 < pw ∧ nth x.sums 0 0 < 0)
    decide (phase < x.iCh.length) && decide (un * s.get (MTR_M_CFG_IN m) * n * 2 ^ 80 ≤ pw.natAbs * 500) &&
      (opposite || (export_ && decide (pw < 0)))
  else if phase ≠ 0 then false
  else if kind = 1 then
    let r := rmsOf x.by2 n
    decide (2 ^ 40 < 2 * r) && decide (maxN (is.take x.iCh.length) < 20 * r)
  else
    decide (x.vCh.length = 3) && us.any (fun u => decide (u * 100 < 85 * un * 2 ^ 40)) &&
      us.any (fun u => decide (115 * un * 2 ^ 40 < u * 100)) &&
      x.ll2.all (fun q => decide (3 * 81 * un ^ 2 * 2 ^ 80 * n ≤ q * 100) && decide (q * 100 ≤ 3 * 121 * un ^ 2 * 2 ^ 80 * n))

/-- The class B conditions are judged at the end of a cycle (R150): cycles in sequence with and without each. -/
def State.judgeClassB (s : State) (m : Nat) : State :=
  let held := (List.range 9).map (fun k => s.classB m (k / 3) (k % 3))
  s.updMet m (fun y => { y with
    tbOn := held.mapIdx (fun k h => if h then nth y.tbOn 0 k + 1 else 0)
    tbOff := held.mapIdx (fun k h => if h then 0 else nth y.tbOff 0 k + 1)
    pw := [0, 0, 0]
    ll2 := [0, 0, 0]
    by2 := 0 })

/-- The registers of a meter at the end of a cycle (R108, R110, R113): len is its duration in 2^-6 beat. -/
def State.endCycle (s : State) (m len : Nat) (freq : Bool) : State :=
  let s := s.judgeClassB m
  let x := s.met m
  let n := max x.n 1
  let dc := s.mKind m = 3
  let cur := x.iCh ++ x.nCh.toList
  let milli (v : Int) : Int := roundEven (v * 1000) (2 ^ 40)
  let us := (List.range 3).map (fun p => rmsOf (nth x.v2 0 p) n)
  let is := (List.range 4).map (fun p => rmsOf (nth x.i2 0 p) n)
  let s80 := sumN ((List.range x.iCh.length).map (fun p => nth us 0 p * nth is 0 p))
  let p40 (k : Nat) : Int := nth x.sums 0 k * 40000 / n
  let f80 := if dc then 0 else sumI ((List.range x.iCh.length).map (fun p => fundamental len (nth x.vs [] p) (nth x.is [] p)))
  let thr := s.get (MTR_M_LIMITS_CREEP m) * s.get (MTR_M_CFG_IN m)
  let creep := !cur.isEmpty && (List.range cur.length).all (fun p => decide (nth is 0 p * 1000000 < thr * 2 ^ 40))
  let t := s.putSat (MTR_M_CYCLE_LEN m) len
  let t := t.putSat (MTR_M_CYCLE_FREQ m) (if freq && len != 0 then (2560000000 + len / 2) / len else 0)
  let t := forUpTo 3 (fun p u => u.puti (MTR_M_U_U m p)
    (satI 32 (if dc then milli (roundEven (nth x.v1 0 p) n) else milli ((nth us 0 p : Nat) : Int)))) t
  let t := forUpTo 4 (fun p u => u.puti (MTR_M_I_I m p)
    (satI 32 (if dc then milli (roundEven (nth x.i1 0 p) n) else milli ((nth is 0 p : Nat) : Int)))) t
  let t := t.puti (MTR_M_P_P m) (satI 32 (roundEven (p40 0 * 10) (2 ^ 40)))
  let t := t.puti (MTR_M_Q_Q m) (if dc then 0 else satI 32 (roundEven (p40 3 * 10) (2 ^ 40)))
  let t := t.puti (MTR_M_S_S m) (if dc then 0 else satI 32 (roundEven (s80 * 10) (2 ^ 80)))
  let t := t.puti (MTR_M_PF_PF m) (if dc ∨ s80 = 0 then 0 else satI 16 (roundEven (p40 0 * 2 ^ 40 * 10000) s80))
  let t := t.put (MTR_M_STATE_DIR m) (if nth x.sums 0 0 ≥ 0 then 0 else 1)
  let t := t.put (MTR_M_STATE_QUAD m) (quadrant (nth x.sums 0 0) (nth x.sums 0 3))
  let t := t.putB (MTR_M_STATE_CREEP m) creep
  let t := t.updMet m (fun y => { y with
    nPrev := x.n
    n := 0
    ended := true
    bar := x.sums
    sums := [0, 0, 0, 0]
    sPrev := s80
    fPrev := f80
    v2 := [0, 0, 0]
    i2 := [0, 0, 0, 0]
    v1 := [0, 0, 0]
    i1 := [0, 0, 0, 0]
    vs := [[], [], []]
    is := [[], [], []]
    prevGrow := y.cycGrow
    cycGrow := List.replicate 11 0
    newCycle := true })
  forEach x.chans (fun c u =>
    when (u.timing c == some m) (fun v =>
      let v := v.updChn c (fun y => { y with rms := rmsOf y.sumSq n, sumSq := 0, ended := true })
      (v.applyBand c).renewSegment c) u) t

/-- A meter begins or resumes registering with the next cycle (R43, R118); its channels take their segment values and a pending band
change for it (R102, R107). -/
def State.beginCycles (s : State) (m : Nat) : State :=
  let t := s.updMet m (fun y => { y with
    reg := true
    n := 0
    sums := [0, 0, 0, 0]
    v2 := [0, 0, 0]
    i2 := [0, 0, 0, 0]
    v1 := [0, 0, 0]
    i1 := [0, 0, 0, 0]
    vs := [[], [], []]
    is := [[], [], []]
    pw := [0, 0, 0]
    ll2 := [0, 0, 0]
    by2 := 0 })
  let t := forEach (s.met m).chans (fun c u =>
    when (u.timing c == some m) (fun v =>
      ((v.updChn c (fun y => { y with sumSq := 0 })).applyBand c).renewSegment c) u) t
  if t.isSet (MTR_M_STATE_HALTED m) ∧ (t.met m).substRun = 0 then
    (t.clr (MTR_M_STATE_HALTED m)).legalLog 0x0C m 0
  else t

/-- A recognised crossing of a meter at an instant in 2^-6 beat (R105, R106). -/
def State.crossing (s : State) (m at_ : Nat) : State :=
  let x := s.met m
  let t := s.updMet m (fun y => { y with armed := false })
  let mark (u : State) : State := u.updMet m (fun y => { y with crossBeat := s.now, crossAt := at_ })
  if !x.reg then (mark t).beginCycles m
  else if s.isSet (MTR_M_STATE_NOREF m) then
    let t := (mark t).clr (MTR_M_STATE_NOREF m)
    let t := if s.isSet (MTR_M_STATE_HALTED m) then t else t.endCycle m (64 * x.n) false
    t.beginCycles m
  else if s.isSet (MTR_M_STATE_HALTED m) then (mark t).beginCycles m
  else if x.n < 600 ∨ x.n > 1000 then t
  else (mark t).endCycle m (at_ - x.crossAt) true

/-- The reference voltage of an AC meter in the beat (R105): arms below −2 % of the nominal peak, then recognises the
first sample of 0 or more; none on a substituted sample (R118). After substituted samples the crossing is interpolated from the last
valid one as if it stood one beat earlier (DESIGN CHOICE, log entry 155). -/
def State.reference (s : State) (m : Nat) : State :=
  let x := s.met m
  let n := s.get (MTR_M_CFG_REF_CH m)
  let v := nth (s.chn n).corr 0 0
  if !s.sns.ok.testBit n then s
  else
    let t := s.updMet m (fun y => { y with
      armed := y.armed || decide (50 * v < -(y.vPeak : Int))
      prevRef := v })
    if x.armed ∧ v ≥ 0 then
      let a := -x.prevRef
      let frac := if a + v ≤ 0 then 0 else (64 * a / (a + v)).toNat
      t.crossing m (64 * (s.now - 1) + frac)
    else t

/-- A meter whose METER restart is in progress registers nothing (R47). -/
def State.meterDown (s : State) (m : Nat) : Bool := s.cal.units.testBit 3 && s.bitOf CAL_STAGED_METERS_METERS m

/-- A meter's count of substituted beats (R118) and its view of a channel whose match is degraded (R85). -/
def State.watchChannels (s : State) (m : Nat) (chans : List Nat) : State :=
  let bad := chans.any (fun n => !s.sns.ok.testBit n)
  let s := if bad then ((s.inc (MTR_M_STATE_SUBST m)).set1 MTR_EVENTS_SUBST).updMet m (fun y => { y with substRun := y.substRun + 1 })
    else s.updMet m (fun y => { y with substRun := 0 })
  let deg := chans.any (fun n => s.isSet (SNS_CH_STAT_MATCH_DEG n))
  let s := when (deg && !s.isSet (MTR_M_STATE_DUAL_DEG m)) (fun u => u.raise 0x4004 NOTE (u.srcLane u.owner) m 0) s
  s.putB (MTR_M_STATE_DUAL_DEG m) deg

/-- The increments of a beat and the reference of a meter (R105 to R109). -/
def State.meterWork (s : State) (m : Nat) (reg halted : Bool) : State :=
  let s := when (s.mKind m == 3 && !reg) (fun u => u.beginCycles m) s
  let s := when ((s.met m).reg && !halted) (fun u => ((u.addIncs m (u.rawIncs m)).sumCycle m).sumClassB m) s
  when (s.mKind m != 3) (fun u => u.reference m) s

/-- The end of a cycle of fixed length (R106). -/
def State.fixedEnd (s : State) (m : Nat) : State :=
  if s.fixedCycles m && decide ((s.now + 1) % 800 = 0) && (s.met m).reg then
    if s.isSet (MTR_M_STATE_HALTED m) then (if (s.met m).substRun = 0 then s.beginCycles m else s)
    else s.endCycle m (64 * (s.met m).n) false
  else s

/-- One meter in one beat (R105 to R118). A cycle that METER_NOREF has ended since the last beat counts as ended in this one. -/
def State.meterBeat (s : State) (m : Nat) : State :=
  if s.mKind m = 0 ∨ s.meterDown m then
    s.updMet m (fun y => { y with growth := List.replicate 11 0, newCycle := false, lateCycle := false })
  else
    let x := s.met m
    let s := s.updMet m (fun y => { y with growth := List.replicate 11 0, newCycle := y.lateCycle, lateCycle := false })
    let halted := s.isSet (MTR_M_STATE_HALTED m)
    if s.sns.common then
      (when (x.reg && !halted) (fun u => ((u.addIncs m x.last).sumCycle m).sumClassB m) s).fixedEnd m
    else ((s.watchChannels m x.chans).meterWork m x.reg halted).fixedEnd m

/-! ### Pulses -/

/-- E_p × C in 2^-72 of the unit: 3.6 × 10^6 (R119). -/
def pulseLevel : Int := 3600000 * 2 ^ 72

/-- The end of a pulse that began at an instant (R120): `stop`, or half-way to a next pulse that falls due sooner; that pulse begins at
least 500 µs after it (R121). -/
def pulseEndAt (start stop next : Nat) : Nat :=
  let st := max next (start + 5000)
  if st < stop then (start + st) / 2 else stop

/-- The pulse accumulator of PLS_k in one beat (R119, R120): u and δ anew at a cycle start, then the growth of the
accumulator (kept times C) and the instant at which the next pulse falls due at this growth, in 100 ns, to which a pulse in progress
holds its half-way end (DEDUCED, log entry 134). While its meter is HALTED or restarts, the accumulator goes on with the last u + δ
(DESIGN CHOICE, log entry 155). -/
def State.pulseBeat (s : State) (k : Nat) : State :=
  if !s.isSet (MTR_PLS_CFG_EN k) || s.cal.units.testBit 2 then s
  else
    let x := s.met (s.get (MTR_PLS_CFG_METER k))
    let c : Int := s.get (MTR_PLS_CFG_CONST k)
    let p := s.pulse k
    let add := p.u + p.delta
    let acc := p.acc + add * c
    let next := (s.now + 1) * 250 + (roundEven ((pulseLevel - p.acc) * 250) (max 1 (add * c))).toNat
    let stop := p.lastStart + 1000 * s.get (MTR_PLS_STAT_WIDTH k)
    let p1 : PulseSt := { p with
      sumIn := p.sumIn + add
      acc := acc
      endAt := if p.active && p.due.isEmpty && decide (0 < add * c) then pulseEndAt p.lastStart stop next else p.endAt }
    let p2 : PulseSt := if acc ≥ pulseLevel ∧ add > 0 then { p1 with acc := acc - pulseLevel, due := p1.due ++ [next] } else p1
    let p3 : PulseSt :=
      if x.newCycle then
        let g : Int := ((nth x.prevGrow 0 (s.get (MTR_PLS_CFG_QTY k)) : Nat) : Int) * 2 ^ 32
        let n := max x.nPrev 1
        { p2 with u := roundEven g n, delta := roundEven (g - p2.sumIn) n, sumIn := 0 }
      else p2
    s.updPulse k (fun _ => p3)

/-- Whether an edge waits for a command set that is still held during a takeover (R242): the sets of earlier beats placed those before the next
beat. -/
def State.edgeHeld (s : State) (d : Nat) : Bool :=
  match s.red.takeover with
  | some t => s.saf.heldL.isSome && decide ((t.beat + 1) * 250 ≤ d)
  | none => false

/-- PULSE_START (R120, R121, R242): the sub-beat timer starts the pulse that is due; one less than 500 µs after the last is
delayed and sets LAG. -/
def execPulseStart (k : Fin 4) (s : State) : Out :=
  let p := s.pulse k
  match p.due with
  | [] => .next s
  | d :: rest =>
    let lag := decide (p.lastStart ≠ 0) && decide (d < p.lastStart + 5000)
    let st := if lag then p.lastStart + 5000 else d
    if (s.running || s.gstate == 5) && !s.edgeHeld d && decide (st / 250 ≤ s.now) then
      let w := st + 1000 * s.get (MTR_PLS_STAT_WIDTH k)
      let en := match rest with
        | [] => w
        | e :: _ => pulseEndAt st w e
      let t := (s.updPulse k (fun x => { x with due := rest, lastStart := st, active := true, endAt := en })).inc
        (MTR_PLS_STAT_COUNT k)
      let t := t.putB (MTR_PLS_STAT_LAG k) lag
      .next (when lag (fun u => (u.set1 MTR_EVENTS_PULSE_RATE).raiseLimited (0x40080 + k) (60 * secBeats) 0x4008 NOTE
        (u.srcLane u.owner) k 0) t)
    else .next s

/-- PULSE_END (R120): WIDTH later, or half-way to the next pulse, as the sub-beat timer holds it. -/
def execPulseEnd (k : Fin 4) (s : State) : Out :=
  if (s.pulse k).active ∧ (s.pulse k).endAt / 250 ≤ s.now then .next (s.updPulse k (fun x => { x with active := false })) else .next s

/-! ### Rows of single meters -/

/-- METER_NOREF (R106, R43): an AC meter without a recognised crossing for 1 600 beats. Its running cycle ends in this beat (DESIGN
CHOICE, log entry 134); one that has not begun registers from here on, which the legal log records. -/
def execMeterNoref (m : Fin 32) (s : State) : Out :=
  let x := s.met m
  if s.lanesWork ∧ (s.mKind m = 1 ∨ s.mKind m = 2) ∧ !s.isSet (MTR_M_STATE_NOREF m) ∧ !s.meterDown m ∧ x.crossBeat + 1600 ≤ s.now then
    let t := ((s.set1 (MTR_M_STATE_NOREF m)).set1 MTR_EVENTS_NOREF).raise 0x4003 NOTE (s.srcLane s.owner) m 0
    .next (if !x.reg then (t.beginCycles m).legalLog 0x01 0 (2 ^ m.val)
      else if s.isSet (MTR_M_STATE_HALTED m) then t
      else (t.endCycle m (64 * x.n) false).updMet m (fun y => { y with lateCycle := true }))
  else .next s

/-- METER_HALT (R118): 400 substituted beats in sequence. -/
def execMeterHalt (m : Fin 32) (s : State) : Out :=
  if s.lanesWork ∧ s.mKind m ≠ 0 ∧ 400 ≤ (s.met m).substRun ∧ !s.isSet (MTR_M_STATE_HALTED m) then
    let t := ((s.set1 (MTR_M_STATE_HALTED m)).set1 MTR_EVENTS_HALTED).legalLog 0x0B m 0
    let t := t.updMet m (fun y => { y with last := [0, 0, 0, 0, 0, 0, 0] })
    let o := s.get (MTR_M_CFG_OUTLET m)
    .next (if o < 12 then (t.raise 0x4002 OUTLETSTOP (t.srcLane t.owner) o m).stopOutlet o rPROTECTION 0x4002
      else t.raise 0x4002 DEGRADE (t.srcLane t.owner) m 0)
  else .next s

/-- The interval value of a quantity (R117). -/
def State.interval (s : State) (m q : Nat) : Nat :=
  (s.rd128 (A_MTR_M_TOTAL m q) + 2 ^ 128 - nth s.mtr.snap 0 (11 * m + q) % 2 ^ 128) % 2 ^ 128

/-- A read of word 0 of an interval register latches words 1 to 3 for the port and sets the snapshot (R117, R18). -/
def State.readInterval (s : State) (port m q : Nat) : State :=
  let v := s.interval m q
  let a := A_MTR_M_INTV m q
  let keep := s.host.latches.filter (fun l => !(l.port == port && a < l.addr && l.addr < a + 16))
  let news := (List.range 3).map (fun i =>
    ({ port := port, addr := a + 4 * (i + 1), word := BitVec.ofNat 32 (v / 2 ^ (32 * (i + 1))) } : Latch))
  let t := { s with host := { s.host with latches := keep ++ news } }
  t.updMtr (fun x => { x with snap := upd x.snap (11 * m + q) (fun _ => s.rd128 (A_MTR_M_TOTAL m q)) })

/-- INTERVAL_READ (R117). -/
def execIntervalRead (port : Fin 2) (m : Fin 32) (q : Fin 11) (s : State) : Out := .next (s.readInterval port m q)

/-! ### Saves -/

/-- The values a record holds (R123), in the present beat. -/
def State.saveNow (s : State) (seq : Nat) (good : Bool) : SaveRec :=
  { seq := seq
    beat := s.mtr.lastBeat
    mono := s.mono
    good := good
    totals := (List.range 352).map (fun i => s.rd128 (A_MTR_M_TOTAL (i / 11) (i % 11)))
    snaps := s.mtr.snap
    pends := s.mtr.m.map (fun x => x.pend)
    rems := s.mtr.m.map (fun x => x.rem)
    residues := s.mtr.pls.map (fun p => p.acc)
    consumed := s.lgl.consumed
    treg := s.lgl.treg
    demE := s.lgl.demE
    demMono := s.lgl.demMono
    subs := s.lgl.subs }

/-- The newest full record's sequence number. -/
def State.fullSeq (s : State) : Nat := maxN (s.mtr.full.map (fun r => r.seq))

/-- Write a full record into the older area (R123, R124), after which the deltas of the record before it can still serve; a
verification that fails twice raises 0x4006 (R125). -/
def State.fullSave (s : State) (ok : Bool) : State :=
  let seq := s.fullSeq
  let r := s.saveNow (seq + 1) ok
  let t := s.updMtr (fun x => { x with
    full := if (nth x.full {} 0).seq = seq then [nth x.full {} 0, r] else [r, nth x.full {} 1]
    deltas := x.deltas.filter (fun d => d.seq == seq) })
  let t := t.put MTR_SAVE_STAT_FULL_AGE 0
  when (!ok) (fun u => (u.set1 MTR_EVENTS_SAVE_FAIL).raise 0x4006 DEGRADE (u.srcLane u.owner) 0 0) t

/-- The values of a record that a delta holds as changes (R123): totals, pending registers, remainders, residues, CONSUMED. -/
def SaveRec.values (r : SaveRec) : List Int :=
  r.totals.map Int.ofNat ++ r.pends.flatten ++ r.rems.flatten ++ r.residues ++ r.consumed.map Int.ofNat

/-- A change as a signed 64-bit value. -/
def change64 (x : Int) : Int :=
  let v := twos 64 x
  if 2 ^ 63 ≤ v then (v : Int) - 2 ^ 64 else v

/-- The delta record that leads from a full record to a later one (R123). -/
def SaveRec.delta (full now_ : SaveRec) : DeltaRec :=
  let ch := List.zipWith (fun a b => b - a) full.values now_.values
  let sn := now_.snaps.zip full.snaps
  let bits := ch.map (fun d => d != 0) ++ sn.map (fun p => p.1 != p.2)
  { seq := full.seq
    beat := now_.beat
    mono := now_.mono
    good := now_.good
    present := bits.zipIdx.foldl (fun m b => if b.1 then natBit m b.2 true else m) 0
    changes := (ch.filter (fun d => d != 0)).map change64
    snaps := (sn.filter (fun p => p.1 != p.2)).map (fun p => p.1)
    treg := now_.treg
    demE := now_.demE
    demMono := now_.demMono
    subs := now_.subs }

/-- Values with the changes that a bitmap names, from a bit on. -/
def applyChanges (present : Nat) : Nat → List Int → List Int → List Int
  | _, [], _ => []
  | k, v :: vs, ch =>
    if present.testBit k then
      match ch with
      | c :: cs => (v + c) :: applyChanges present (k + 1) vs cs
      | [] => v :: applyChanges present (k + 1) vs []
    else v :: applyChanges present (k + 1) vs ch

/-- Values with the new ones that a bitmap names, from a bit on. -/
def applyNew (present : Nat) : Nat → List Nat → List Nat → List Nat
  | _, [], _ => []
  | k, v :: vs, ch =>
    if present.testBit k then
      match ch with
      | c :: cs => c :: applyNew present (k + 1) vs cs
      | [] => v :: applyNew present (k + 1) vs []
    else v :: applyNew present (k + 1) vs ch

/-- A list cut into n lists of a length. -/
def chunks (w : Nat) : Nat → List Int → List (List Int)
  | 0, _ => []
  | n + 1, l => l.take w :: chunks w n (l.drop w)

/-- A full record with a delta of it applied (R125). -/
def DeltaRec.apply (d : DeltaRec) (full : SaveRec) : SaveRec :=
  let v := applyChanges d.present 0 full.values d.changes
  { full with
    beat := d.beat
    mono := d.mono
    totals := (v.take 352).map Int.toNat
    pends := chunks 4 32 (v.drop 352)
    rems := chunks 9 32 (v.drop 480)
    residues := (v.drop 768).take 4
    consumed := (v.drop 772).map Int.toNat
    snaps := applyNew d.present 788 full.snaps d.snaps
    treg := d.treg
    demE := d.demE
    demMono := d.demMono
    subs := d.subs }

/-- The bytes of a delta record: bitmap, changes, snapshots, sequence number and CRC-32 (log entry 134). -/
def DeltaRec.size (d : DeltaRec) : Nat := 143 + 8 * d.changes.length + 16 * d.snaps.length + 8

/-- The newest records, at the end of the list, that the circular area of 256 KiB holds (R123). -/
def inArea (l : List DeltaRec) : List DeltaRec :=
  (l.foldr (fun d (acc : List DeltaRec × Nat) =>
    if acc.2 + d.size ≤ 262144 then (d :: acc.1, acc.2 + d.size) else (acc.1, 262145)) ([], 0)).1

/-- The newest full record. -/
def State.newestFull (s : State) : SaveRec :=
  let a := nth s.mtr.full {} 0
  let b := nth s.mtr.full {} 1
  if a.seq ≥ b.seq then a else b

/-- Write a delta record (R123); `good` says that its CRC is good when it is read. -/
def State.deltaSave (s : State) (good : Bool) : State :=
  let d := s.newestFull.delta (s.saveNow s.fullSeq good)
  (s.updMtr (fun x => { x with deltas := inArea (x.deltas ++ [d]) })).put MTR_SAVE_STAT_DELTA_AGE 0

/-- DELTA_SAVE (R122): every 16 beats in CONTINUOUS and BOTH, every beat while warned in WARNED and BOTH. Whether the record's CRC is good
when it is read (R125) is a free value (log entry 4). -/
def execDeltaSave (s : State) : Out :=
  let mode := s.get MTR_SAVE_MODE
  if s.lanesReach && (((mode == 1 || mode == 3) && decide (16 ≤ s.get MTR_SAVE_STAT_DELTA_AGE)) ||
      ((mode == 2 || mode == 3) && s.warned)) then .next (State.within (fun u => u.draw.2.deltaSave (u.draw.1 % 2 == 0)) s)
  else .next s

/-- FULL_SAVE (R122, R123): every 400 beats in CONTINUOUS and BOTH, every 40 000 in WARNED. -/
def execFullSave (ok : Bool) (s : State) : Out :=
  let mode := s.get MTR_SAVE_MODE
  let age := s.get MTR_SAVE_STAT_FULL_AGE
  if s.lanesReach && (((mode == 1 || mode == 3) && decide (400 ≤ age)) || (mode == 2 && decide (40000 ≤ age))) then
    .next (State.within (fun u => u.fullSave ok) s)
  else .next s

/-- Put a record's values back (R125). Of an interval that began after the record nothing was saved. -/
def State.restoreFrom (s : State) (r : SaveRec) : State :=
  let t := forUpTo 352 (fun i u => u.wr128 (A_MTR_M_TOTAL (i / 11) (i % 11)) (nth r.totals 0 i)) s
  let t := t.updMtr (fun x => { x with
    snap := r.snaps
    m := x.m.mapIdx (fun i y => { y with pend := nth r.pends [0, 0, 0, 0] i, rem := nth r.rems [0, 0, 0, 0, 0, 0, 0, 0, 0] i })
    pls := x.pls.mapIdx (fun i p => { p with acc := nth r.residues 0 i }) })
  { t with lgl := { t.lgl with
      consumed := r.consumed
      treg := r.treg
      demE := if r.demMono = t.lgl.demMono then r.demE else List.replicate 64 0
      subs := if r.demMono = t.lgl.demMono then r.subs else t.lgl.subs } }

/-- The delta records up to the first bad one. -/
def goodPrefix : List DeltaRec → List DeltaRec
  | [] => []
  | r :: t => if r.good then r :: goodPrefix t else []

/-- TOTALS_RESTORE (R125): the newest full record with a good CRC and its deltas, the older one with RESTORE_LOSS, or
none with TOTALS_LOST. The answer says whether anything could be restored. -/
def State.restoreTotals (s : State) : State × Bool :=
  let a := nth s.mtr.full {} 0
  let b := nth s.mtr.full {} 1
  let new := if a.seq ≥ b.seq then a else b
  let old := if a.seq ≥ b.seq then b else a
  let last (r : SaveRec) : SaveRec := (goodPrefix (s.mtr.deltas.filter (fun d => d.seq == r.seq))).foldl (fun _ d => d.apply r) r
  if new.good then (((s.restoreFrom (last new)).put MTR_SAVE_LOSS_BEATS 0), true)
  else if old.good then
    let loss := s.mtr.lastBeat - (last old).beat
    let t := (s.restoreFrom (last old)).putSat MTR_SAVE_LOSS_BEATS loss
    (((t.set1 MTR_EVENTS_RESTORE_LOSS).raise 0x4007 NOTE (t.srcLane t.owner) 0 loss).legalLog 0x0E 0 loss, true)
  else (((s.put MTR_SAVE_LOSS_BEATS 0xFFFF).legalLog 0x0E 0 (2 ^ 64 - 1)), false)

/-! ### The beat -/

/-- Metering in a beat (pallets 0 to 6): correction, meters, pulses, the start of metering in the legal log, ages of the
records. -/
def State.metering (s : State) : State :=
  let was := (List.range 32).filter (fun m => (s.met m).reg)
  let t := if s.sns.common then forUpTo 128 (fun n u => u.repeatChannel n) s
    else (forUpTo 128 (fun n u => u.corrChannel n) s).bandBeat
  let t := forUpTo 32 (fun m u => u.meterBeat m) t
  let new := (List.range 32).filter (fun m => (t.met m).reg && !was.contains m)
  let t := when (!new.isEmpty) (fun u => u.legalLog 0x01 0 (new.foldl (fun a m => natBit a m true) 0)) t
  let t := forUpTo 4 (fun k u => u.pulseBeat k) t
  let t := (t.inc MTR_SAVE_STAT_DELTA_AGE).inc MTR_SAVE_STAT_FULL_AGE
  t.updMtr (fun x => { x with lastBeat := x.lastBeat + 1 })

end Sys2Proof.Machine
end

