-- ==== Sys2Proof/Machine/Legal.lean ====
section
/-! DEFINITION. The legal partition of 06_legal.md: the chronometer, tariff registers, demand, billing, boundaries and
outages, tamper records, and the commands 0x0401 to 0x0406. -/
namespace Sys2Proof.Machine

def State.updLgl (s : State) (f : LglSt → LglSt) : State := { s with lgl := f s.lgl }

/-- Whether a meter is legal (R100). -/
def State.legalMeter (s : State) (m : Nat) : Bool := s.isSet (MTR_M_CFG_LEGAL m) && s.mKind m != 0

/-- A programme, and that of a meter. -/
def State.prog (s : State) (k : Nat) : Prog := nth s.lgl.progs {} k
def State.progOfMeter (s : State) (m : Nat) : Nat := nth s.lgl.meterProg 0 m

/-- The site meter (ROLE 1), if the image has one. -/
def State.siteMeter (s : State) : Option Nat := (List.range 32).find? (fun m => s.mKind m != 0 && s.get (MTR_M_CFG_ROLE m) == 1)

/-- The programme of module local time (R139): the site meter's where it is legal, else the lowest legal meter's. -/
def State.localProg (s : State) : Prog :=
  match (List.range 32).find? (fun m => s.legalMeter m && s.get (MTR_M_CFG_ROLE m) == 1) with
  | some m => s.prog (s.progOfMeter m)
  | none =>
    match (List.range 32).find? s.legalMeter with
    | some m => s.prog (s.progOfMeter m)
    | none => {}

/-- The active register of a programme (R461, R136). -/
def State.active (s : State) (k : Nat) : Nat := nth s.lgl.act 0 k
def State.activeOf (s : State) (m : Nat) : Nat := s.active (s.progOfMeter m)

/-- Module local time in seconds (R139). -/
def State.localTime (s : State) : Int := (s.wall : Int) + s.localProg.offset s.wall * 60

/-- The module's local time offset (R139). -/
def State.showLocal (s : State) : State :=
  let w : Int := s.wall
  (s.puti LGL_LOCAL_OFFSET (s.localProg.offset w)).putB LGL_LOCAL_DST (s.localProg.inDst w)

/-- Show the active registers in LGL.ACT_REG_j and the module's local time offset (R139). -/
def State.showActive (s : State) : State :=
  State.showLocal (forUpTo 4 (fun j u => u.wrN (A_LGL_ACT_REG j)
    (sumN ((List.range 8).map (fun i => if u.legalMeter (8 * j + i) then u.activeOf (8 * j + i) % 16 * 16 ^ i else 0)))) s)

/-- Every programme on its fallback register (R136). -/
def State.fallbackAll (s : State) : State :=
  (s.updLgl (fun x => { x with act := x.progs.map (fun p => p.fallback) })).showActive

/-- A programme's register at a WALL time: that of its latest switch point, else its fallback (R461). -/
def Prog.regAt (p : Prog) (w : Int) : Nat := match p.lastSwitch w with | some x => x.2 | none => p.fallback

/-- Take the registers and the last boundaries of the present WALL without closing anything (R136, first start); a demand interval in
progress keeps its energy and its MONO. -/
def State.initBounds (s : State) : State :=
  let w : Int := s.wall
  let lp := s.localProg
  let t := s.updLgl (fun x => { x with
    act := x.progs.map (fun p => p.regAt w)
    tarLast := x.progs.map (fun p => match p.lastSwitch w with | some y => y.1.toNat | none => 0)
    tarMono := x.progs.map (fun _ => s.mono)
    demLast := (lp.gridBefore (60 * s.get LGL_DEM_CFG_LEN / max 1 (s.get LGL_DEM_CFG_SUB)) w).toNat
    demMono := if s.lgl.metered then x.demMono else s.mono
    billLast := (lp.billBefore (s.get LGL_BILL_CFG_DAY) (s.get LGL_BILL_CFG_TIME) w).toNat })
  t.showActive

/-! ### Demand -/

/-- The length of an interval and of a sub-interval in seconds (R140). -/
def State.demLen (s : State) : Nat := 60 * s.get LGL_DEM_CFG_LEN
def State.demSub (s : State) : Nat := max 1 (s.get LGL_DEM_CFG_SUB)

/-- The latest demand boundary at or before the present WALL (R140, R142). -/
def State.demBoundary (s : State) : Nat := (s.localProg.gridBefore (s.demLen / s.demSub) s.wall).toNat

/-- Demand in W of an energy over a duration, and whether the duration is MONO's (R140). -/
def demandOf (energy nominal mono : Nat) : Nat × Bool :=
  let adj := decide (mono > nominal + 1) || decide (nominal > mono + 1)
  (energy / (2 ^ 40 * max 1 (if adj then mono else nominal)), adj)

/-- A demand value of a meter and quantity: attributed to the active register, a new maximum if larger and complete. -/
def State.demandValue (s : State) (i energy nominal mono boundary : Nat) (bad : Bool) : State :=
  let m := i / 2
  let r := s.activeOf m
  let d := demandOf energy nominal mono
  let key := m * 32 + (i % 2) * 16 + r
  let old := ((kvFind key s.lgl.md).getD (0, 0)).1
  let t := s.updLgl (fun x => { x with
    demVal := upd x.demVal i (fun _ => { demand := d.1, reg := r, incomplete := bad, adj := d.2, valid := true }) })
  if !bad && decide (old < d.1) then t.updLgl (fun x => { x with md := kvInsert (0, 0) key (d.1, boundary) x.md }) else t

/-- Close the demand interval or sub-interval in progress at a boundary (R140, R146). -/
def State.closeDemand (s : State) (boundary : Nat) (bad : Bool) : State :=
  let dur := s.mono - s.lgl.demMono
  let bad := bad || s.lgl.demBad
  let sub := s.demSub
  let idx := (List.range 64).filter (fun i => s.legalMeter (i / 2))
  let t :=
    if sub ≤ 1 then
      forEach idx (fun i u => u.demandValue i (nth s.lgl.demE 0 i) s.demLen dur boundary bad) s
    else
      let new : SubInt := { dur := dur, nominal := s.demLen / sub, energy := s.lgl.demE, incomplete := bad }
      let l := (new :: s.lgl.subs).take sub
      let t := s.updLgl (fun x => { x with subs := l })
      if l.length < sub then t
      else forEach idx (fun i u => u.demandValue i (sumN (l.map (fun y => nth y.energy 0 i))) s.demLen
        (sumN (l.map (fun y => y.dur))) boundary (l.any (fun y => y.incomplete))) t
  t.updLgl (fun x => { x with
    demLast := boundary
    demMono := s.mono
    demE := List.replicate 64 0
    demBad := false })

/-! ### Billing and tariff -/

/-- The record of a meter in a billing record (R141): totals, registers and maxima of q = 0 and 1. -/
def State.billMeter (s : State) (m : Nat) : List Byte :=
  (List.range 11).flatMap (fun q => le 16 (s.rd128 (A_MTR_M_TOTAL m q))) ++
  (List.range 32).flatMap (fun i => le 16 ((kvFind (m * 176 + i) s.lgl.treg).getD 0)) ++
  (List.range 32).flatMap (fun i =>
    let v := (kvFind (m * 32 + i) s.lgl.md).getD (0, 0)
    le 8 v.1 ++ le 8 v.2)

/-- Close the billing period at a boundary (R141): the record is kept, the maxima reset. Of the flags, 1 is OUTAGE (R146) and 2 a close by
command: the rules give them no bits (DESIGN CHOICE, log entry 15). A boundary once closed stays closed (R144). -/
def State.closeBilling (s : State) (boundary flags : Nat) : State :=
  let cnt := s.get LGL_BILL_STAT_COUNT
  let idx := if cnt = 0 then 0 else (s.get LGL_BILL_STAT_LAST_IDX + 1) % 24
  let ms := (List.range 32).filter s.legalMeter
  let r : BillRec :=
    { index := idx, mono := s.mono, wall := boundary, flags := flags,
      mask := ms.foldl (fun a m => natBit a m true) 0, body := ms.flatMap s.billMeter }
  let t := s.updLgl (fun x => { x with
    bills := r :: (x.bills.filter (fun b => b.index != idx)).take 23
    billLast := max x.billLast boundary
    billMono := s.mono
    md := [] })
  let t := (t.put LGL_BILL_STAT_LAST_IDX idx).put LGL_BILL_STAT_COUNT (min 24 (cnt + 1))
  t.legalLog 0x0A 0 (idx + 256 * flags)

/-- The latest billing boundary at or before the present WALL. -/
def State.billBoundary (s : State) : Nat :=
  (s.localProg.billBefore (s.get LGL_BILL_CFG_DAY) (s.get LGL_BILL_CFG_TIME) s.wall).toNat

/-- Close a programme's tariff period at its latest switch point, with its WALL time and the MONO sample of the beat (R142, R461). A
programme whose latest switch point has left the span of 366 days goes to its fallback register. -/
def State.switchTariff (s : State) (k : Nat) : State :=
  match (s.prog k).lastSwitch s.wall with
  | some x =>
    if x.1 > (nth s.lgl.tarLast 0 k : Nat) then
      (s.updLgl (fun y => { y with
        act := upd y.act k (fun _ => x.2)
        tarLast := upd y.tarLast k (fun _ => x.1.toNat)
        tarMono := upd y.tarMono k (fun _ => s.mono) })).showActive
    else s
  | none =>
    if (nth s.lgl.tarLast 0 k : Nat) ≤ s.wall ∧ s.active k ≠ (s.prog k).fallback then
      (s.updLgl (fun y => { y with
        act := upd y.act k (fun _ => (s.prog k).fallback)
        tarMono := upd y.tarMono k (fun _ => s.mono) })).showActive
    else s

/-- The boundaries of the demand grid that lie at or before a change of the offset by a new programme belong to no interval (R140): the one
in progress ends at the first boundary after the change. `off` is the offset before. -/
def State.newGrid (s : State) (off : Int) : State :=
  if !s.lgl.valid ∨ !s.lgl.metered ∨ s.localProg.offset s.wall = off then s
  else s.updLgl (fun x => { x with
    demLast := max x.demLast (s.localProg.gridAt (60 * s.get LGL_DEM_CFG_LEN / max 1 (s.get LGL_DEM_CFG_SUB)) s.wall).toNat })

/-- Programmes other than before the start take their register and last switch at the present WALL (R461); before metering has run
every boundary starts there; without WALL all are on their fallback registers (R136). -/
def State.startProgs (s : State) (old : List Prog) : State :=
  if !s.lgl.valid then s.fallbackAll
  else if !s.lgl.metered then s.initBounds
  else
    let w : Int := s.wall
    State.showActive (forUpTo 8 (fun k u =>
      when (u.prog k != nth old {} k) (fun v => v.updLgl (fun x => { x with
        act := upd x.act k (fun _ => (u.prog k).regAt w)
        tarLast := upd x.tarLast k (fun _ => match (u.prog k).lastSwitch w with | some y => y.1.toNat | none => 0) })) u) s)

/-- The rule for forward steps (R145, R146): each type closes its period at its last scheduled boundary at or before the
present WALL, in the order of R143. The answer says whether any boundary was due. -/
def State.closeForward (s : State) (bad : Bool) (flags : Nat) : State × Bool :=
  let d := s.demBoundary
  let b := s.billBoundary
  let dueD := decide (s.lgl.demLast < d)
  let dueB := decide (s.lgl.billLast < b)
  let t := when dueD (fun u => u.closeDemand d bad) s
  let t := when dueB (fun u => u.closeBilling b flags) t
  let u := forUpTo 8 (fun k u => u.switchTariff k) t
  (u, dueD || dueB || u.lgl.tarLast != s.lgl.tarLast)

/-! ### The chronometer -/

/-- One second in units of the chronometer. -/
def oneSec : Nat := 4294967296

/-- What a slew of ±500 ppm has absorbed of its rest in the present second, `frac` of which has run (R135). -/
def State.slewed (s : State) (frac : Nat) : Int :=
  let r : Int := ((2147483 * (frac - s.lgl.slewAt) / oneSec : Nat) : Int)
  if 0 ≤ s.lgl.slew then min s.lgl.slew r else max s.lgl.slew (-r)

/-- The part of a slew that a second has absorbed enters WALL (R135). -/
def State.settleSlew (s : State) (frac : Nat) : State :=
  let d := s.slewed frac
  s.updLgl (fun x => { x with
    wall := if x.valid then ((x.wall : Int) + d).toNat else x.wall
    slew := x.slew - d
    slewAt := frac })

/-- Set WALL so that the sample of this beat reads a value (R135). -/
def State.stepWall (s : State) (target frac : Nat) : State :=
  s.updLgl (fun x => { x with wall := target - frac, valid := true, slew := 0, slewAt := 0 })

/-- The sample of WALL and MONO at pallet 0 (R134), `frac` the part of the chronometer's second that has run. -/
def State.sampleChrono (s : State) (frac : Nat) : State :=
  let w := if s.lgl.valid then (((s.lgl.wall + frac : Nat) : Int) + s.slewed frac).toNat % 2 ^ 96 else 0
  let t := (s.wr128 A_LGL_WALL w).wr128 A_LGL_MONO (s.lgl.mono % 2 ^ 64)
  (t.putB LGL_CHRONO_WALL_VALID s.lgl.valid).updLgl (fun x => { x with frac := frac })

/-- Demand intervals that lie wholly between two WALL times (R145). -/
def State.skipped (s : State) (a b : Nat) : Nat :=
  let len := max 1 (s.demLen / s.demSub)
  let lp := s.localProg
  ((lp.gridBefore len b - lp.gridBefore len a).toNat / len) - 1

/-- A set of WALL takes effect (R135, R145): kind 1 the first, 2 a slew, 3 a step forward, 4 back; `old` WALL seconds before it. -/
def State.takeWallSet (s : State) (old target kind frac : Nat) : State :=
  if kind = 2 then
    let t := (s.settleSlew frac).sampleChrono frac
    let d : Int := (target : Int) - (t.lgl.wall + frac : Nat)
    let t := (t.updLgl (fun x => { x with slew := d })).putB LGL_CHRONO_SLEWING (d != 0)
    t.legalLog 0x07 0 (twos 64 (d * 1000 / 4294967296))
  else
    let t := ((s.stepWall target frac).clr LGL_CHRONO_SLEWING).sampleChrono frac
    if kind = 1 then t.initBounds
    else
      let t := (t.raise 0x4012 NOTE t.srcOwner 0 0)
      if kind = 3 then
        ((t.legalLog 0x05 (t.skipped old t.wall) old).tamperA 5).updLgl (fun x => { x with fwd := some old })
      else (t.legalLog 0x06 0 old).tamperA 5

/-- Pallet 0 of a beat (R134, R135): a set that waits takes effect, then WALL and MONO are sampled. -/
def State.chronoBeat (s : State) (frac : Nat) : State :=
  let t := s.updLgl (fun x => { x with fwd := none })
  let t := when (decide (t.lgl.slew = t.slewed frac)) (fun u => u.settleSlew frac) t
  let t := when (decide (t.lgl.slew = 0)) (fun u => u.clr LGL_CHRONO_SLEWING) t
  match s.lgl.wallSet with
  | none => t.sampleChrono frac
  | some (target, kind) => (t.updLgl (fun x => { x with wallSet := none })).takeWallSet s.wall target kind frac

/-- CHRONO_SECOND (R133, R135): MONO rises by 1, WALL advances, a slew absorbs at most 500 ppm; the rate compensation
applied, in 0.01 ppm; 0 while the chronometer counts CLK_REF (R418). -/
def execChronoSecond (comp : Int) (s : State) : Out :=
  let t := (s.settleSlew oneSec).updLgl (fun y => { y with
    mono := y.mono + 1
    wall := if y.valid then y.wall + oneSec else y.wall
    slewAt := 0 })
  .next (t.puti LGL_CHRONO_COMP (if s.isSet CLK_STATUS_CHRONO_FB then 0 else satI 16 comp))

/-- MONO of the newest record of the totals. -/
def State.lastSaved (s : State) : Nat := maxN (s.mtr.full.map (fun r => r.mono) ++ s.mtr.deltas.map (fun d => d.mono))

/-- The chronometer is lost (R136): MONO resumes from the newest record, WALL is invalid. -/
def State.loseChrono (s : State) : State :=
  let m := s.lastSaved + 1
  let t := s.updLgl (fun x => { x with mono := m, valid := false, wall := 0, slew := 0, slewAt := 0, wallSet := none })
  let t := ((t.sampleChrono 0).set1 LGL_CHRONO_CHRONO_LOST).raise 0x4011 DEGRADE srcCase 0 0
  (t.legalLog 0x08 0 m).fallbackAll

/-! ### The beat -/

/-- Add a beat's growth to the active tariff registers and the demand interval (R137, R140, R143 step 1). -/
def State.tariffBeat (s : State) : State :=
  forEach ((List.range 32).filter s.legalMeter) (fun m u =>
    let g := (u.met m).growth
    let r := u.activeOf m
    let t := u.updLgl (fun x => { x with
      treg := (List.range 11).foldl (fun l q =>
        let k := m * 176 + q * 16 + r
        kvInsert 0 k ((kvFind k l).getD 0 + nth g 0 q) l) x.treg
      demE := upd (upd x.demE (2 * m) (fun e => e + nth g 0 0)) (2 * m + 1) (fun e => e + nth g 0 1) })
    t) s

/-- What falls due in a beat by a forward step or by LGL_BILL_CLOSE (R145, R141). -/
def State.boundaryBeat (s : State) : State :=
  let t := match s.lgl.fwd with
    | some _ => (s.closeForward false 0).1
    | none => s
  match t.lgl.billCmd with
  | none => t
  | some c =>
    let d := t.demBoundary
    let due := t.lgl.valid && decide (t.lgl.demLast < d)
    let u := when due (fun v => v.closeDemand d false) t
    ((u.closeBilling u.wall 2).updLgl (fun x => { x with billCmd := none })).replyTo c.port c.seq stOK 0

/-- DEMAND_INTERVAL_END (R140, R142): in block mode. -/
def execDemandIntervalEnd (s : State) : Out :=
  if s.lanesWork && s.lgl.valid && decide (s.demSub ≤ 1) && decide (s.lgl.demLast < s.demBoundary) then
    .next (State.within (fun u => u.closeDemand u.demBoundary false) s)
  else .next s

/-- DEMAND_SUBINTERVAL_END (R140): in sliding mode. -/
def execDemandSubintervalEnd (s : State) : Out :=
  if s.lanesWork && s.lgl.valid && decide (2 ≤ s.demSub) && decide (s.lgl.demLast < s.demBoundary) then
    .next (State.within (fun u => u.closeDemand u.demBoundary false) s)
  else .next s

/-- The demand interval closes first where both fall due in one beat (R143 step 2). -/
def State.demandFirst (s : State) : State :=
  when (decide (s.lgl.demLast < s.demBoundary)) (fun u => u.closeDemand u.demBoundary false) s

/-- A billing period closes after the demand interval (R143 steps 2 and 3). -/
def State.billingFirst (s : State) : State :=
  let t := s.demandFirst
  when (decide (t.lgl.billLast < t.billBoundary)) (fun u => u.closeBilling u.billBoundary 0) t

/-- BILLING_PERIOD_END (R141, R142, R143): the record includes a demand interval that closes in the same beat. -/
def execBillingPeriodEnd (s : State) : Out :=
  if s.lanesWork && s.lgl.valid && decide (s.lgl.billLast < s.billBoundary) then .next (State.within State.billingFirst s)
  else .next s

/-- TARIFF_SWITCH (R461, R142 to R144): a programme's switch point falls due; an interval and a period that end in the same beat close
under the old register. -/
def execTariffSwitch (k : Fin 8) (s : State) : Out :=
  if s.lanesWork && s.lgl.valid then .next (State.within (fun u => u.billingFirst.switchTariff k) s) else .next s

/-- OUTAGE_PROCESSING (R146) at start-up; before metering has run there is no outage. -/
def State.outage (s : State) : State :=
  let start := s.lastSaved
  if !s.lgl.metered then s
  else
    let t := s.updLgl (fun x => { x with demBad := true })
    let r := if t.lgl.valid then t.closeForward true 1 else (t, false)
    let t := r.1.updLgl (fun x => { x with demBad := true })
    let t := when r.2 (fun u => u.raise 0x4014 NOTE u.srcOwner 0 0) t
    t.legalLog 0x09 0 start

/-! ### Tamper -/

/-- An opening of the cover (kind 0) or door (kind 1): only a change from closed to open (R149). Without a running legal
core, which step 4 of start-up loads, it is stamped by the chronometer and counted at the next start. -/
def State.tamperOpen (s : State) (kind : Nat) : State :=
  let was := if kind = 0 then s.lgl.cover else s.lgl.door
  if was then s
  else
    let t := s.updLgl (fun x => { x with cover := x.cover || kind == 0, door := x.door || kind == 1 })
    if s.gstate = 0 ∨ s.gstate = 1 ∧ s.cal.step < 4 ∨ s.gstate = 6 then
      t.updLgl (fun x => { x with aon := x.aon ++ [(kind, x.mono, if x.valid then x.wall / oneSec else 0)] })
    else t.tamperA kind

/-- The openings that PD_AON stamped are counted at the next start (R149). -/
def State.countAon (s : State) : State :=
  (forEach s.lgl.aon (fun p u => u.tamperAt p.1 p.2.1 p.2.2) s).updLgl (fun x => { x with aon := [] })

/-- TAMPER_COVER_OPEN (R149). -/
def execTamperCoverOpen (s : State) : Out := .next (s.tamperOpen 0)

/-- TAMPER_DOOR_OPEN (R149). -/
def execTamperDoorOpen (s : State) : Out := .next (s.tamperOpen 1)

/-- TAMPER_CLOSED_READING (R149): the cover's or the door's switch reads closed. -/
def execTamperClosedReading (door : Bool) (s : State) : Out :=
  .next (s.updLgl (fun x => { x with cover := x.cover && door, door := x.door && !door }))

/-- TAMPER_MAGNETIC (R148): the field in mT and how long it has held in ms; the condition counts once until it clears. -/
def execTamperMagnetic (mT ms : Nat) (s : State) : Out :=
  if s.lgl.magLim < mT then
    if 2000 ≤ ms ∧ !s.lgl.magnetic then .next ((s.updLgl (fun x => { x with magnetic := true })).tamperA 2) else .next s
  else .next (s.updLgl (fun x => { x with magnetic := false }))

/-- A refused write of the legal areas, at most one occurrence per beat (R128, R129, R148). -/
def State.legalWrite (s : State) : State :=
  if s.lgl.writeBeat = some s.now then s else (s.updLgl (fun x => { x with writeBeat := some s.now })).tamperA 3

/-- LEGAL_WRITE_REFUSED (R128, R129): the write itself is not performed. -/
def execLegalWriteRefused (s : State) : Out := .next s.legalWrite

/-- Meters on which class B events are watched (R150). -/
def State.watched (s : State) (m : Nat) : Bool :=
  (s.mKind m == 1 || s.mKind m == 2) &&
    (s.get (MTR_M_CFG_ROLE m) == 1 || (s.legalMeter m && s.get (MTR_M_CFG_ROLE m) == 0))

/-- A_IMP plus A_EXP of a meter. -/
def State.sumEnergy (s : State) (m : Nat) : Nat := s.rd128 (A_MTR_M_TOTAL m 0) + s.rd128 (A_MTR_M_TOTAL m 1)

/-- LGL.TB_OPEN. -/
def State.showTb (s : State) : State :=
  s.wrN A_LGL_TB_OPEN ((s.lgl.tb.filter (fun r => r.isOpen)).foldl (fun a r => natBit a r.meter true) 0)

/-- TAMPER_B_START (R150): a condition has held for 50 cycles: meter, kind (0 REVERSED, 1 BYPASS, 2 NEUTRAL_MISSING),
phase. -/
def execTamperBStart (m : Fin 32) (kind phase : Fin 3) (s : State) : Out :=
  if s.lanesWork && s.watched m && decide (50 ≤ nth (s.met m).tbOn 0 (3 * kind + phase)) &&
      !(s.lgl.tb.any (fun r => r.isOpen && r.meter == m.val && r.kind == kind.val && r.phase == phase.val)) then
    let seq := (s.rdN A_LGL_TB_HEAD + 1) % 2 ^ 32
    let r : TbRec :=
      { seq := seq, meter := m, kind := kind, phase := phase, startMono := s.mono,
        startWall := if s.isSet LGL_CHRONO_WALL_VALID then s.wall else 0, endMono := 0, endWall := 0,
        energy := s.sumEnergy m, isOpen := true }
    let t := (s.updLgl (fun x => { x with tb := r :: x.tb.take 127 })).wrN A_LGL_TB_HEAD seq
    let t := (t.putBit LGL_TAMPER_NEW_TB kind true).wrN (A_LGL_TB_CNT kind) (min (t.rdN (A_LGL_TB_CNT kind) + 1) 0xFFFFFFFF)
    .next (((t.raise 0x4016 NOTE t.srcOwner m kind).legalLog 0x12 m seq).showTb)
  else .next s

/-- TAMPER_B_END (R150): the condition has been absent for 10 cycles. -/
def execTamperBEnd (m : Fin 32) (kind phase : Fin 3) (s : State) : Out :=
  let long := decide (10 ≤ nth (s.met m).tbOff 0 (3 * kind + phase))
  match s.lgl.tb.find? (fun r => long && r.isOpen && r.meter == m.val && r.kind == kind.val && r.phase == phase.val) with
  | some r =>
    let e : TbRec := { r with
      endMono := s.mono
      endWall := if s.isSet LGL_CHRONO_WALL_VALID then s.wall else 0
      energy := s.sumEnergy m - r.energy
      isOpen := false }
    let t := s.updLgl (fun x => { x with tb := x.tb.map (fun y => if y.seq == r.seq then e else y) })
    .next ((t.legalLog 0x13 m r.seq).showTb)
  | none => .next s

/-! ### Host views -/

/-- The tariff register, maximum and last demand that LGL.TR_SEL selects. -/
def State.trSel (s : State) : Nat × Nat := (s.get LGL_TR_SEL_METER, s.get LGL_TR_SEL_QTY)
def State.tregWord (s : State) (k : Nat) : Nat :=
  let x := s.trSel
  if x.1 < 32 ∧ x.2 < 11 ∧ s.legalMeter x.1 ∧ k < nth s.lgl.nRegs 1 x.1 then
    (kvFind (x.1 * 176 + x.2 * 16 + k) s.lgl.treg).getD 0
  else 0
def State.mdWord (s : State) (k : Nat) : Nat :=
  let x := s.trSel
  if x.1 < 32 ∧ x.2 < 2 then
    let v := (kvFind (x.1 * 32 + x.2 * 16 + k) s.lgl.md).getD (0, 0)
    v.1 % 2 ^ 32 + v.2 % 2 ^ 64 * 2 ^ 64
  else 0
def State.demSel (s : State) : DemVal :=
  let x := s.trSel
  if x.1 < 32 ∧ x.2 < 2 then nth s.lgl.demVal {} (2 * x.1 + x.2) else {}

/-- The 32 bytes of a legal log entry (R147). -/
def LegalEntry.bytes (e : LegalEntry) : List Byte :=
  le 4 e.seq ++ le 2 e.type ++ le 2 e.subject ++ le 8 e.mono ++ le 8 e.wall ++ le 8 e.param

/-- The 64 bytes of a class B record (R150). -/
def TbRec.bytes (r : TbRec) : List Byte :=
  le 4 r.seq ++ le 1 r.meter ++ le 1 r.kind ++ le 1 r.phase ++ le 1 (if r.isOpen then 1 else 0) ++ le 8 r.startMono ++
    le 8 r.startWall ++ le 8 r.endMono ++ le 8 r.endWall ++ le 16 (if r.isOpen then 0 else r.energy) ++ le 8 0

/-- The bytes of a billing record (R141): index, MONO, WALL, flags and meter mask in a header of 64 bytes (log entry
15), then the meters. -/
def BillRec.bytes (r : BillRec) : List Byte :=
  padTo 64 (le 4 r.index ++ le 8 r.mono ++ le 8 r.wall ++ le 4 r.flags ++ le 4 r.mask) ++ r.body

/-! ### Commands -/

/-- LGL_WALL_SET, 0x0401 (R135, R136): seconds, then the fraction in 2^-32 s. -/
def execLglWallSet (mb : Fin 8) (s : State) : Out :=
  .next (s.command mb 0x0401 .running false (fun c s =>
    let sec := c.u32 0
    let target := sec * oneSec + c.u32 1
    let set (kind : Nat) (u : State) : State := (u.updLgl (fun x => { x with wallSet := some (target, kind) })).reply c stOK 0
    if sec < 631152000 then s.reply c stBAD_ARG 0
    else if !s.isSet LGL_CHRONO_WALL_VALID then set 1 s
    else
      let d : Int := (target : Int) - (s.rd128 A_LGL_WALL : Nat)
      if d.natAbs ≤ 2 * oneSec then set 2 s
      else if d > 0 then set 3 s
      else if d < -(86400 * (oneSec : Int)) ∧ !s.inService c.port then
        (s.raise 0x4013 NOTE s.srcOwner c.port 0).reply c stREFUSED_AUTH 0x4013
      else set 4 s))

/-- LGL_READ_LOG, 0x0403 (R147): entries no longer held are skipped. -/
def execLglReadLog (mb : Fin 8) (s : State) : Out :=
  .next (s.command mb 0x0403 .runSetting false (fun c s =>
    let first := c.u32 0
    let cnt := c.u32 1
    let a := c.u32 2
    if cnt = 0 ∨ cnt > 1024 ∨ !argRangeOk a (32 * cnt) then s.reply c stBAD_ARG 0
    else
      let es := (s.lgl.log.filter (fun e => decide (first ≤ e.seq) && decide (e.seq < first + cnt))).reverse
      (s.laneWrite a (es.flatMap LegalEntry.bytes)).reply c stOK 0))

/-- LGL_READ_BILLING, 0x0404 (R141). -/
def execLglReadBilling (mb : Fin 8) (s : State) : Out :=
  .next (s.command mb 0x0404 .running false (fun c s =>
    match s.lgl.bills.find? (fun b => b.index == c.u32 0) with
    | some b =>
      if !argRangeOk (c.u32 1) b.bytes.length then s.reply c stBAD_ARG 0
      else (s.laneWrite (c.u32 1) b.bytes).reply c stOK 0
    | none => s.reply c stBAD_ARG 0))

/-- LGL_READ_TAMPER_B, 0x0405 (R150). -/
def execLglReadTamperB (mb : Fin 8) (s : State) : Out :=
  .next (s.command mb 0x0405 .runSetting false (fun c s =>
    let first := c.u32 0
    let cnt := c.u32 1
    let a := c.u32 2
    if cnt = 0 ∨ cnt > 128 ∨ !argRangeOk a (64 * cnt) then s.reply c stBAD_ARG 0
    else
      let es := (s.lgl.tb.filter (fun e => decide (first ≤ e.seq) && decide (e.seq < first + cnt))).reverse
      (s.laneWrite a (es.flatMap TbRec.bytes)).reply c stOK 0))

/-- LGL_BILL_CLOSE, 0x0406 (R141): the close runs in the next beat. -/
def execLglBillClose (mb : Fin 8) (s : State) : Out :=
  .next (s.command mb 0x0406 .running true (fun c s =>
    if s.lgl.billCmd.isSome then s.reply c stBUSY 0
    else s.updLgl (fun x => { x with billCmd := some { port := c.port, seq := c.seq } })))

end Sys2Proof.Machine
end

