-- ==== Sys2Proof/Machine/Tokens.lean ====
section
/-! DEFINITION. The keypad, the legal display content and prepayment of 06_legal.md (R131, R132, R151 to R156), and the
commands 0x0402, 0x0407 and 0x0408. -/
namespace Sys2Proof.Machine

/-- One minor unit in MQ (R155). -/
def mq : Int := 1099511627776

def State.acct (s : State) (a : Nat) : AcctSt := nth s.lgl.acct {} a
def State.updAcct (s : State) (a : Nat) (f : AcctSt → AcctSt) : State := s.updLgl (fun x => { x with acct := upd x.acct a f })

/-- MODE of an account: 0 unused, 1 OUTLET, 2 SESSION. -/
def State.acctMode (s : State) (a : Nat) : Nat := s.get (TOK_ACCT_CFG_MODE a)

/-- The balance of an account in MQ (R155). -/
def State.balance (s : State) (a : Nat) : Int :=
  ((s.acct a).added : Int) - (nth s.lgl.consumed 0 a : Nat) - (s.acct a).cleared

/-- The registers of an account, and the states of R156. A fall below LOW and a fall to 0 are logged once; an account
leaves EXHAUSTED when the balance is positive. -/
def State.showAcct (s : State) (a : Nat) : State :=
  let b := s.balance a
  let k := (s.acct a).k
  let old := s.get (TOK_ACCT_STAT_STATE a)
  let new := if b ≤ 0 then 2 else if b < (s.rdN (A_TOK_ACCT_LOW a) : Int) * mq then 1 else 0
  let t := (s.wr128 (A_TOK_ACCT_BAL a) (twos 128 b)).put (TOK_ACCT_STAT_STATE a) new
  let t := (t.put (TOK_ACCT_STAT_KEPT a) k.length).put (TOK_ACCT_FLOOR_FLOOR a)
    (if k.length = 256 then k.headD 0 else 0)
  let t := when (decide (old = 0) && decide (new ≥ 1)) (fun u => u.legalLog 0x16 a (twos 64 (b / mq))) t
  when (decide (old < 2) && decide (new = 2))
    (fun u => (u.legalLog 0x17 a (twos 64 (b / mq))).raise 0x4018 NOTE u.srcOwner a 0) t

/-! ### The legal display -/

/-- Show legal content until a beat; TOK.KEYPAD.MODE is 4 while something is shown (R132). -/
def State.showFor (s : State) (v : LegalShow) (sec : Nat) : State :=
  (s.updLgl (fun x => { x with showing := v, showEnd := s.now + sec * secBeats, showNext := none })).put TOK_KEYPAD_MODE 4

/-- `# # 0 #` and LGL_SHOW_ID (R132). -/
def State.showId (s : State) : State := s.showFor .fwId 10

/-- LEGAL_SHOW_STEP (R132): a 10 s interval has ended: the checksum follows the identifier, what a test token asked for follows its
result, else the legal content that stood before returns. -/
def execLegalShowStep (s : State) : Out :=
  if s.lgl.showing = .reading ∨ s.now < s.lgl.showEnd then .next s
  else if s.lgl.showing = .fwId then .next (s.showFor .fwSum 10)
  else match s.lgl.showNext with
    | some v => .next (s.showFor v 10)
    | none => .next ((s.updLgl (fun x => { x with showing := .reading })).put TOK_KEYPAD_MODE 0)

/-! ### Tokens -/

/-- The number a list of decimal digits spells. -/
def digitsVal (ds : List Nat) : Nat := ds.foldl (fun v d => 10 * v + d) 0

/-- Decryption of R151: rounds j = 3, 2, 1, 0 take (L, R) to (R xor F_j(L), L). -/
def tokenDecrypt (key n : Nat) : Nat :=
  let step (p : Nat × Nat) (j : Nat) : Nat × Nat := (p.2 ^^^ (tokenF key j p.1 % 2 ^ 32), p.1)
  let r := [3, 2, 1, 0].foldl step (n / 2 ^ 32 % 2 ^ 32, n % 2 ^ 32)
  r.1 * 2 ^ 32 + r.2

/-- The CRC-16 of R152 over bytes 7 to 2 of a plaintext, most significant byte first. -/
def tokenCrc (p : Nat) : Nat := crc16 ((List.range 6).map (fun i => BitVec.ofNat 8 (p / 2 ^ (56 - 8 * i))))

/-- Fields of a plaintext (R152). -/
def tokClass (p : Nat) : Nat := p / 2 ^ 62 % 4
def tokSub (p : Nat) : Nat := p / 2 ^ 58 % 16
def tokTid (p : Nat) : Nat := p / 2 ^ 34 % 2 ^ 24
def tokAmount (p : Nat) : Nat := p / 2 ^ 16 % 2 ^ 16 * 10 ^ (p / 2 ^ 32 % 4)

/-- Whether a CLASS and SUBCLASS are defined (R152). -/
def tokDefined (cls sub : Nat) : Bool :=
  (cls == 0 && sub == 0) || (cls == 1 && decide (sub ≤ 2)) || (cls == 2 && decide (sub ≤ 1))

/-- Whether the key store performs the decryption under an account's token key, for the owner's legal core (R377, R379). -/
def State.tokKeyOk (s : State) (a : Nat) : Bool := s.jewelOk (13 + a) opAES_ENC (3 * s.owner + 2) 0

/-- Results of R153. -/
def tokACCEPTED : Nat := 0
def tokFORMAT : Nat := 1
def tokACCOUNT : Nat := 2
def tokCRC : Nat := 3
def tokCLASS : Nat := 4
def tokUSED : Nat := 5
def tokTOO_OLD : Nat := 6
def tokNOT_YET : Nat := 7
def tokOVER_MAX : Nat := 8
def tokBUSY : Nat := 9

/-- The checks of R153 in their order, on a number of 20 digits: the result code and the plaintext where the CRC is
right. The identifiers of tokens before their commit point count as kept (06_legal.md, first corner case). -/
def State.judgeToken (s : State) (a : Nat) (n : Nat) : Nat × Option Nat :=
  if n ≥ 2 ^ 64 then (tokFORMAT, none)
  else if a ≥ 16 ∨ s.acctMode a = 0 then (tokACCOUNT, none)
  else
    let p := tokenDecrypt (s.jewelVal (13 + a)) n
    if !s.tokKeyOk a || tokenCrc p ≠ p % 2 ^ 16 then (tokCRC, none)
    else
      let tid := tokTid p
      let k := (s.acct a).k
      let wallMin := s.wall / 60
      let r :=
        if !tokDefined (tokClass p) (tokSub p) then tokCLASS
        else if k.contains tid || s.lgl.tok.any (fun x => x.acct == a && x.tid == tid) then tokUSED
        else if decide (k.length = 256) && decide (tid < k.headD 0) then tokTOO_OLD
        else if s.isSet LGL_CHRONO_WALL_VALID && decide (wallMin + 1440 < s.rdN A_TOK_BASE + tid) then tokNOT_YET
        else if decide (tokClass p = 0) &&
            decide (s.balance a + (tokAmount p : Int) * mq > (s.rdN (A_TOK_ACCT_MAX a) : Int) * mq) then tokOVER_MAX
        else if s.lgl.tok.any (fun x => x.acct == a) then tokBUSY
        else tokACCEPTED
      (r, some p)

/-- TOK.LAST, the count and the bezel's showing of a result (R153); SOURCE 1 is TOK_SUBMIT. CLASS and SUBCLASS stand from result CLASS on, and when
the token was accepted. -/
def State.tokOutcome (s : State) (a cls sub r : Nat) (keypad : Bool) : State :=
  let t := (s.put TOK_LAST_RESULT r).put TOK_LAST_ACCOUNT a
  let t := when (decide (r ≥ 4) || decide (r = 0)) (fun u => (u.put TOK_LAST_CLASS cls).put TOK_LAST_SUBCLASS sub) t
  let t := t.put TOK_LAST_SOURCE (if keypad then 0 else 1)
  let t := if r = 0 then t.inc TOK_COUNT_ACCEPTED else t.inc TOK_COUNT_REFUSED
  t.showFor (.token r) 10

/-- A token is refused (R153): logged, fault 0x4017 at most once per account per minute. -/
def State.refuseToken (s : State) (a cls sub r : Nat) (keypad : Bool) : State :=
  let t := (s.tokOutcome a cls sub r keypad).legalLog 0x15 a r
  t.raiseLimited (0x4017 * 16 + a) (60 * secBeats) 0x4017 NOTE t.srcOwner a r

/-- Judge a token from the keypad or from TOK_SUBMIT (R153). One that passes waits for its account record (R154). -/
def State.takeToken (s : State) (a n : Nat) (cmd : Option CmdRef) : State :=
  let keypad := cmd.isNone
  let r := s.judgeToken a n
  let p := r.2.getD 0
  let t := when (decide (n < 2 ^ 64) && decide (a < 16) && s.acctMode a != 0) (fun u => u.storeOp (13 + a) opAES_ENC (3 * u.owner + 2) 0) s
  let t := match r.2 with
    | some p => t.put TOK_LAST_TID_TID (tokTid p)
    | none => t
  if r.1 = 0 then
    t.updLgl (fun x => { x with tok := x.tok ++
      [{ acct := a, tid := tokTid p, cls := tokClass p, sub := tokSub p, amount := tokAmount p,
         keypad := keypad, cmd := cmd }] })
  else
    let u := t.refuseToken a (tokClass p) (tokSub p) r.1 keypad
    match cmd with
    | some c => u.replyTo c.port c.seq stOK r.1
    | none => u

/-- Insert an identifier in rising order; of 257 the smallest goes (R154). -/
def insertTid (tid : Nat) : List Nat → List Nat
  | [] => [tid]
  | x :: t => if tid < x then tid :: x :: t else x :: insertTid tid t

/-- What an account record's CRC-32 covers (R154; the layout is log entry 135): the sequence number, K as TOK_READ_IDS gives it, ADDED,
CLEARED, LOW, MAX. -/
def AcctRec.bytes (r : AcctRec) : List Byte :=
  le 8 r.seq ++ (r.k ++ List.replicate (256 - r.k.length) 0xFFFFFFFF).flatMap (le 4) ++ le 16 r.added ++ le 16 (twos 128 r.cleared) ++
    le 8 r.low ++ le 8 r.max

def AcctRec.good (r : AcctRec) : Bool := r.crc == crc32 r.bytes

/-- The account record as it stands, with its CRC-32. -/
def State.acctRecord (s : State) (a : Nat) : AcctRec :=
  let x := s.acct a
  let r : AcctRec :=
    { seq := x.seq, k := x.k, added := x.added, cleared := x.cleared
      low := s.rdN (A_TOK_ACCT_LOW a), max := s.rdN (A_TOK_ACCT_MAX a), crc := 0 }
  { r with crc := crc32 r.bytes }

/-- Write the account record to one of its two copies, in turn by the sequence number (R154). -/
def State.writeAcct (s : State) (a : Nat) (r : Option AcctRec) : State :=
  s.updAcct a (fun x => { x with copies := upd x.copies ((match r with | some r => r.seq | none => x.seq + 1) % 2) (fun _ => r) })

/-- The newest of an account's copies whose CRC-32 is right (R154). -/
def AcctSt.newest (x : AcctSt) : Option AcctRec :=
  (x.copies.filterMap id).foldl (fun best r =>
    if !r.good then best
    else match best with
      | some b => if b.seq < r.seq then some r else some b
      | none => some r) none

/-- At a start the accounts stand as their newest good records hold them (R154). -/
def State.restoreAccts (s : State) : State :=
  forUpTo 16 (fun a u =>
    match (u.acct a).newest with
    | some r => u.updAcct a (fun x => { x with k := r.k, added := r.added, cleared := r.cleared, seq := r.seq })
    | none => u) s

/-- The effect of an accepted token (R152, R154, R155): K, the account, and its record in the copy whose turn it is. What a test token asks
for is shown for 10 s after the 10 s of its result (DESIGN CHOICE, log entry 155). -/
def State.applyToken (s : State) (w : TokPend) : State :=
  let k := insertTid w.tid (s.acct w.acct).k
  let k := if k.length > 256 then k.drop 1 else k
  let b := s.balance w.acct
  let t := s.updAcct w.acct (fun x => { x with
    k := k
    seq := x.seq + 1
    added := if w.cls = 0 then x.added + w.amount * 1099511627776 else x.added
    cleared := if w.cls = 1 ∧ w.sub = 0 then x.cleared + b else x.cleared
    lowTok := x.lowTok || (w.cls == 1 && w.sub == 1)
    maxTok := x.maxTok || (w.cls == 1 && w.sub == 2) })
  let t := when (w.cls == 1 && w.sub == 1) (fun u => u.wrN (A_TOK_ACCT_LOW w.acct) w.amount) t
  let t := when (w.cls == 1 && w.sub == 2) (fun u => u.wrN (A_TOK_ACCT_MAX w.acct) w.amount) t
  let t := t.writeAcct w.acct (some (t.acctRecord w.acct))
  let t := (t.showAcct w.acct).legalLog 0x14 w.acct (w.tid + w.amount * 2 ^ 32)
  let t := t.tokOutcome w.acct w.cls w.sub tokACCEPTED w.keypad
  when (w.cls == 2) (fun u => u.updLgl (fun x => { x with showNext := some (if w.sub = 0 then .segments else .balance w.acct) })) t

/-- ACCOUNT_RECORD_COMMIT (R154): the account record of a waiting token is read back. `ok` is false when the verify has
failed twice: fault 0x401A, the token is refused with BUSY, and that copy holds no record. -/
def execAccountRecordCommit (a : Fin 16) (ok : Bool) (s : State) : Out :=
  match s.lgl.tok.find? (fun w => w.acct == a.val) with
  | none => .next s
  | some w =>
    let t := s.updLgl (fun x => { x with tok := x.tok.filter (fun y => y.acct != a.val) })
    let t := if ok then t.applyToken w
      else ((t.writeAcct a none).raise 0x401A DEGRADE t.srcOwner a 0).refuseToken a w.cls w.sub tokBUSY w.keypad
    .next (match w.cmd with
      | some c => t.replyTo c.port c.seq stOK (if ok then tokACCEPTED else tokBUSY)
      | none => t)

/-! ### The keypad -/

/-- Whether two keys name an account, 00 to 15 (R131). -/
def acctKeys (x y : Nat) : Bool := decide (x ≤ 9) && decide (y ≤ 9) && decide (10 * x + y ≤ 15)

/-- What a prefix of keys is (10 A, 11 B, 12 C, 13 D, 14 *, 15 #): TOK.KEYPAD.MODE 1 command, 2 account, 3 token digits,
or none where no entry of R131 begins so. -/
def keyMode (ks : List Nat) : Option Nat :=
  match ks with
  | [] => some 0
  | 14 :: r =>
    if r.length ≤ 1 then (if r.all (· ≤ 1) then some 2 else none)
    else if !acctKeys (nth r 0 0) (nth r 0 1) then none
    else if r.length = 2 then some 2
    else if nth r 0 2 ≠ 14 then none
    else
      let ds := r.drop 3
      if ds.length ≤ 20 then (if ds.all (· ≤ 9) then some 3 else none)
      else if ds.length = 21 ∧ (ds.take 20).all (· ≤ 9) ∧ nth ds 0 20 = 15 then some 3 else none
  | 15 :: r =>
    match r with
    | [] => some 1
    | [15] => some 1
    | [15, 0] => some 1
    | [15, 1] => some 1
    | [15, 2] => some 1
    | [15, 0, 15] => some 1
    | [15, 2, 15] => some 1
    | [15, 1, x] => if x ≤ 1 then some 2 else none
    | [15, 1, x, y] => if acctKeys x y then some 2 else none
    | [15, 1, x, y, 15] => if acctKeys x y then some 1 else none
    | _ => none
  | _ => none

/-- Keep an entry's keys and show their number and mode. -/
def State.setKeys (s : State) (ks : List Nat) : State :=
  ((s.updLgl (fun x => { x with keys := ks, keyBeat := s.now })).put TOK_KEYPAD_KEYS ks.length).put TOK_KEYPAD_MODE
    (if ks = [] ∧ s.lgl.showing ≠ .reading then 4 else (keyMode ks).getD 0)

/-- A complete entry of R131 acts. -/
def State.keyEntry (s : State) (ks : List Nat) : State :=
  match ks with
  | [15, 15, 0, 15] => if s.running then (s.setKeys []).showId else s.setKeys []
  | [15, 15, 2, 15] => (s.setKeys []).showFor .register 10
  | [15, 15, 1, x, y, 15] => (s.setKeys []).showFor (.balance (10 * x + y)) 10
  | 14 :: x :: y :: 14 :: ds =>
    if ds.length = 21 then (s.setKeys []).takeToken (10 * x + y) (digitsVal (ds.take 20)) none else s.setKeys ks
  | _ => s.setKeys ks

/-- KEYPAD_KEY (R131): an accepted key. D deletes the last key, C abandons the entry, A and B are ignored; a key that
continues no entry of R131 abandons it (log entry 16). In the setting position the keypad is not evaluated (R44). -/
def execKeypadKey (key : Fin 16) (s : State) : Out :=
  let ks := s.lgl.keys
  if s.settingPos then .next s
  else if key.val = 10 ∨ key.val = 11 then .next s
  else if key.val = 12 then .next (s.setKeys [])
  else if key.val = 13 then .next (s.setKeys ks.dropLast)
  else
    let new := ks ++ [key.val]
    match keyMode new with
    | some _ => .next (s.keyEntry new)
    | none => .next (s.setKeys [])

/-- KEYPAD_ENTRY_TIMEOUT (R131): no key for 30 s. -/
def execKeypadEntryTimeout (s : State) : Out :=
  if s.lgl.keys ≠ [] ∧ s.lgl.keyBeat + 30 * secBeats ≤ s.now then .next (s.setKeys []) else .next s

/-! ### Credit in a beat -/

/-- Price of a programme's active register in 2^-16 minor unit per kWh (R461). -/
def State.price (s : State) (k : Nat) : Nat := nth (s.prog k).prices 0 (s.active k)

/-- Whether a session still runs: PLUGGED to STOPPING. -/
def State.sesLive (s : State) (k : Nat) : Bool := decide (1 ≤ s.sst k) && decide (s.sst k ≤ 5)

/-- e × P of an account in a beat (R155): the import increments of its meters, priced. -/
def State.acctDraw (s : State) (a : Nat) : Nat :=
  let imp (n : Nat) : Nat := nth (s.met (s.meterOf n)).growth 0 0
  if s.acctMode a = 1 then
    sumN (((List.range 12).filter (fun n => (s.get (TOK_ACCT_CFG_OUTLETS a)).testBit n)).map imp) *
      s.price (s.get (TOK_ACCT_CFG_PROG a))
  else
    sumN (((List.range 128).filter (fun k => s.sesLive k && s.isSet (SES_STATE_ACC_VALID k) &&
      s.get (SES_STATE_ACCOUNT k) == a)).map (fun k =>
        imp (s.get (SES_STATE_OUTLET k)) * s.price (s.get (SES_STATE_PROG k))))

/-- CONSUMED of a beat (R155): e × P / (3.6 × 10^6 × 2^16), rounded and carried as R109 states. -/
def State.creditBeat (s : State) : State :=
  forUpTo 16 (fun a u =>
    if u.acctMode a = 0 then u
    else
      let r := roundInc (roundEven ((u.acctDraw a : Int) * 65536) 3600000) (u.acct a).rem
      let t := u.updAcct a (fun x => { x with rem := r.2 })
      (t.updLgl (fun x => { x with consumed := upd x.consumed a (fun v => v + r.1.toNat) })).showAcct a) s

/-- The cost of a session in MQ in a beat (R178), priced by its programme; kept at SES.Sn_COST with a remainder. -/
def State.costBeat (s : State) : State :=
  forUpTo 128 (fun k u =>
    if u.sesLive k then
      let n := u.get (SES_STATE_OUTLET k)
      let e := nth (u.met (u.meterOf n)).growth 0 0 * u.price (u.get (SES_STATE_PROG k))
      let r := roundInc (roundEven ((e : Int) * 65536) 3600000) (u.sx k).costRem
      (u.acc128 (A_SES_COST k) r.1).updS k (fun x => { x with costRem := r.2 })
    else u) s

/-! ### Commands -/

/-- LGL_SHOW_ID, 0x0402 (R132). -/
def execLglShowId (mb : Fin 8) (s : State) : Out :=
  .next (s.command mb 0x0402 .running false (fun c s => s.showId.reply c stOK 0))

/-- The 20 digits of a string of ASCII digits, or none. -/
def asciiDigits (l : List Byte) : Option (List Nat) :=
  if l.length = 20 ∧ l.all (fun b => decide (48 ≤ b.toNat) && decide (b.toNat ≤ 57)) then
    some (l.map (fun b => b.toNat - 48)) else none

/-- TOK_SUBMIT, 0x0407 (R153): an account and 20 ASCII digits. -/
def execTokSubmit (mb : Fin 8) (s : State) : Out :=
  .next (s.command mb 0x0407 .running false (fun c s =>
    match asciiDigits (c.str 4) with
    | some ds =>
      if c.u32 0 < 16 then s.takeToken (c.u32 0) (digitsVal ds) (some { port := c.port, seq := c.seq })
      else s.reply c stBAD_ARG 0
    | none => s.reply c stBAD_ARG 0))

/-- TOK_READ_IDS, 0x0408: K as 256 words, ascending, unused entries 0xFFFF_FFFF. -/
def execTokReadIds (mb : Fin 8) (s : State) : Out :=
  .next (s.command mb 0x0408 .running false (fun c s =>
    if c.u32 0 ≥ 16 ∨ !argRangeOk (c.u32 1) 1024 then s.reply c stBAD_ARG 0
    else
      let k := (s.acct (c.u32 0)).k
      let ws := k ++ List.replicate (256 - k.length) 0xFFFFFFFF
      (s.laneWrite (c.u32 1) (ws.flatMap (le 4))).reply c stOK 0))

end Sys2Proof.Machine
end

