-- ==== Sys2Proof/Machine/Bezel.lean ====
section
/-! DEFINITION. The bistable segment display of 13_bezel.md: legal and host fields (R289, R290), line writes (R286 to R293),
supply loss (R294, R295), and the commands 0x0910 to 0x0912. -/
namespace Sys2Proof.Machine

def State.updBzl (s : State) (f : BzlSt → BzlSt) : State := { s with bzl := f s.bzl }

/-- Whether a line belongs to the legal field. -/
def State.legalLine (s : State) (k : Nat) : Bool := s.bitOf BZL_CFG_LEGAL_LINES k

/-- Whether a line is pending (R291). -/
def State.linePending (s : State) (k : Nat) : Bool :=
  s.bzl.forced.testBit k || nth s.bzl.wanted 0 k != nth s.bzl.confirmed 0 k

/-- BZL.STATE.PENDING. -/
def State.showPending (s : State) : State :=
  s.put BZL_STATE_PENDING ((List.range 8).foldl (fun m k => natBit m k (s.linePending k)) 0)

/-- Set the wanted content of some lines; in FRAME mode a content change flips the polarity (R288). -/
def State.want (s : State) (f : Nat → Nat → Nat) : State :=
  let w := s.bzl.wanted.mapIdx f
  if w = s.bzl.wanted then s
  else (s.updBzl (fun b => { b with wanted := w, frame := !b.frame })).showPending

/-- What the legal field shows (R131, R132, R153, R289), as numbers that the glyph map turns into dots: for `# # 2 #` the site meter's
active register and module local time (R139). -/
def State.legalContent (s : State) : List Int :=
  match s.lgl.showing with
  | .reading => [0, s.bzl.shown, s.bzl.meter, s.bzl.qty]
  | .fwId => [1, s.rdN A_GLB_LEGAL_FW_ID]
  | .fwSum => [2, s.rdN A_GLB_LEGAL_FW_SUM]
  | .balance a => [3, s.balance a]
  | .register => [4, match s.siteMeter with | some m => s.activeOf m | none => 0, s.localTime]
  | .token r => [5, r]
  | .segments => [6]

/-- The reading the legal field shows: it follows the register, not oftener than LEGAL_MIN allows (R289). -/
def State.legalReading (s : State) : State :=
  let r := s.rd128i (A_MTR_M_TOTAL s.bzl.meter s.bzl.qty) / (max 1 s.bzl.unit : Nat)
  let free : Bool := match s.bzl.shownBeat with | some b => decide (b + s.bzl.legalMin * secBeats ≤ s.now) | none => true
  if r ≠ s.bzl.shown ∧ free then s.updBzl (fun b => { b with shown := r, shownBeat := some s.now }) else s

/-- The legal field in a beat (R289): temporary content at once, of the segment test every dot (R152); the reading when one of its digits
changes, at most once per LEGAL_MIN. -/
def State.legalField (s : State) : State :=
  let t := s.legalReading
  if t.bzl.shown = s.bzl.shown ∧ s.bzl.showing = s.lgl.showing ∧ s.bzl.shownBeat.isSome then t
  else
    let c := t.legalContent
    let t := t.updBzl (fun b => { b with showing := s.lgl.showing, shownBeat := if b.shownBeat.isSome then b.shownBeat else some s.now })
    t.want (fun k w => if t.legalLine k then (if s.lgl.showing = .segments then 2 ^ 64 - 1 else Config.legalDots c k % 2 ^ 64) else w)

/-! ### Line writes -/

/-- Whether the rails meet every relation of R286; mV. -/
def railsGood (v : List Nat) : Bool :=
  let r (k : Nat) : Int := ((nth v 0 k : Nat) : Int)
  decide (10000 ≤ r 0) && decide (r 0 ≤ 40000) && decide ((r 1 + r 2 - r 0).natAbs * 100 ≤ (3 * r 0).natAbs) &&
    decide ((2 * r 3 - r 0).natAbs * 100 ≤ (3 * r 0).natAbs)

/-- The next line to write (R291, R295), and whether its freshness segment is forced. -/
def State.nextLine (s : State) : Option (Nat × Option Bool) :=
  match s.bzl.seq with
  | x :: _ => some x
  | [] =>
    let p := (List.range 8).filter s.linePending
    match p.find? s.legalLine, p.head? with
    | some k, _ => some (k, none)
    | none, some k => some (k, none)
    | none, none => none

/-- S_max of a line in 0.01 V·s. -/
def State.lineStress (s : State) (k : Nat) : Nat := maxN ((s.bzl.stress.drop (64 * k)).take 64)

/-- The pulse length of a line in 0.1 ms before the cap (R293): T_SEL × (1 + AGE_K × S_max / S_REF), rounded up. -/
def State.pulseLen (s : State) (k : Nat) : Nat :=
  let ref := 256 * 10000 * s.get BZL_AGE_S_REF
  let sel := 10 * s.get BZL_CFG_T_SEL
  if ref = 0 then sel else (sel * (ref + s.get BZL_AGE_AGE_K * s.lineStress k) + ref - 1) / ref

/-- Start a line write (R287, R292 to R294): the START record, the pulse. -/
def State.startLine (s : State) (k : Nat) (fresh : Option Bool) (rails : List Nat) : State :=
  let w := nth s.bzl.wanted 0 k
  let content := match fresh with | some b => natBit w s.bzl.freshSeg b | none => w
  let pol := if s.get BZL_CFG_INV = 0 then s.bzl.frame else s.bitOf BZL_STATE_POL k
  let raw := s.pulseLen k
  let cap := 10 * s.get BZL_CFG_T_MAX
  let t := min raw cap
  let u := s.updBzl (fun b => { b with
    refused := 0
    startRec := some (k, content, pol)
    write := some { line := k, content := content, pol := pol, t := t, start := s.now, rails := rails } })
  let u := ((u.set1 BZL_STATE_BUSY).put BZL_STATE_LINE k).putSat BZL_STATE_T_LAST (t / 5)
  if cap < raw ∧ !s.bzl.capped.testBit k then
    ((u.updBzl (fun b => { b with capped := natBit b.capped k true })).set1 BZL_EVENTS_CAP).raise 0x8104 NOTE u.srcOwner k 0
  else u

/-- The rails fail (R286): refused; 0x8101 at the first refusal, stopped with 0x8102 after 10 in sequence. -/
def State.refuseLine (s : State) : State :=
  let n := s.bzl.refused + 1
  let t := s.updBzl (fun b => { b with refused := n })
  let t := when (decide (n = 1)) (fun u => (u.set1 BZL_EVENTS_RAIL).raise 0x8101 NOTE srcCase 0 0) t
  when (decide (n = 10)) (fun u => (u.set1 BZL_STATE_STOPPED).raise 0x8102 DEGRADE srcCase 0 0) t

/-- The bezel may start a line: RUNNING, no warning, no line in progress, not stopped, and no sequence of R295 to begin. -/
def State.bezelFree (s : State) : Bool :=
  s.running && !s.bzl.recover && !s.isSet PWR_STATUS_WARN && s.bzl.write.isNone && !s.isSet BZL_STATE_STOPPED

/-- Since when the rails meet every relation, while writing is stopped (R286). -/
def State.watchRails (s : State) (rails : List Nat) : State :=
  if s.isSet BZL_STATE_STOPPED then
    s.updBzl (fun b => { b with railsOk := if railsGood rails then (if b.railsOk.isSome then b.railsOk else some s.now) else none })
  else s

/-- An admitted DISPLAY complication starts a line after the rails are measured (R286, R292). -/
def State.bezelAdmitted (s : State) (rails : List Nat) : State :=
  if !(s.slices s.owner).any (fun c => c.kind == kDISPLAY) then s
  else if !s.bezelFree then s
  else
    match s.nextLine with
      | none => s
      | some x =>
        let t := forUpTo 4 (fun k u => u.putSat (BZL_RAILS_VB k) (nth rails 0 k / 200)) s
        if railsGood rails then t.startLine x.1 x.2 rails else t.refuseLine

/-- Stress of a dot (R293): |V| × t in 0.01 V·s, V in mV and t in 0.1 ms, rounded to the nearest unit. -/
def stressOf (mv t : Nat) : Nat := (2 * mv * t + 100000) / 200000

/-- The level of a ball of the panel (R287): a rail VB_0 to VB_3, or 0 V. -/
def ballMv (rails : List Nat) (level : Option Nat) : Nat := match level with | some k => nth rails 0 k | none => 0

/-- What drives a ball of the panel: none where it is not driven, as all are in the setting position (R44). -/
def State.panelBall (s : State) (level : Option Nat) : Option (Option Nat) := if s.settingPos then none else some level

/-- The rail on COM_k while the panel is driven (R287): the selected common in its polarity, every other one at VB_3, between writes all
at VB_3. -/
def State.comLevel (s : State) (k : Nat) : Option Nat :=
  match s.bzl.write with
  | some w => if w.line = k ∧ !w.rest then (if w.pol then none else some 0) else some 3
  | none => some 3

/-- The rail on SEG_i while the panel is driven (R287, R288): the dot's data in its polarity; a dot that a pulse of DOT mode does not address follows the common. -/
def State.segLevel (s : State) (i : Nat) : Option Nat :=
  match s.bzl.write with
  | some w =>
    if w.rest then some 3
    else if s.get BZL_CFG_INV = 2 ∧ ((w.line + i) % 2 = 1) ≠ w.second then s.comLevel w.line
    else if w.content.testBit i then (if w.pol then some 0 else none)
    else some (if w.pol then 2 else 1)
  | none => some 3

/-- COM_k and SEG_i (R44, R287). -/
def State.comBall (s : State) (k : Nat) : Option (Option Nat) := s.panelBall (s.comLevel k)
def State.segBall (s : State) (i : Nat) : Option (Option Nat) := s.panelBall (s.segLevel i)

/-- Add a pulse to the counters of the dots that it addressed (R288, R293). -/
def State.addStress (s : State) (w : LineWrite) : State :=
  let dot := s.get BZL_CFG_INV = 2
  s.updBzl (fun b => { b with stress := b.stress.mapIdx (fun i v =>
    let sg := i % 64
    if i / 64 = w.line ∧ (!dot ∨ ((w.line + sg) % 2 = 1) = w.second) then
      min 0xFFFFFFFF (v + stressOf (nth w.rails 0 (if w.content.testBit sg then 0 else 2)) w.t)
    else v) })

/-- R406: the switched charge of a line against its mean of the first year, or of the 1 000 writes after a raise; below 85 %
AGE_K goes up by 8. -/
def State.judgeCharge (s : State) (k q : Nat) : State :=
  let c := nth s.bzl.charge (0, 0) k
  let collect := if nth s.bzl.raised false k then decide (c.2 < 1000) else decide (s.mono < 8760 * 3600)
  if collect then s.updBzl (fun b => { b with charge := upd b.charge k (fun x => (x.1 + q, x.2 + 1)) })
  else if c.2 ≠ 0 ∧ q * 100 * c.2 < 85 * c.1 then
    ((s.putSat BZL_AGE_AGE_K (s.get BZL_AGE_AGE_K + 8)).set1 WEAR_EVENTS_BEZEL).updBzl (fun b => { b with
      ageAdd := b.ageAdd + 8, charge := upd b.charge k (fun _ => (0, 0)), raised := upd b.raised k (fun _ => true) })
  else s

/-- BEZEL_PULSE_END (R288, R293, R406): the counters; the second pulse of DOT mode, or the rest. `charge` is the charge that
the line switched. -/
def execBezelPulseEnd (charge : Nat) (s : State) : Out :=
  match s.bzl.write with
  | some w =>
    if !w.rest ∧ w.start + 4 * w.t ≤ s.now then
      let t := (s.addStress w).judgeCharge w.line charge
      .next (t.updBzl (fun b => { b with write := some (if s.get BZL_CFG_INV = 2 ∧ !w.second then
        { w with second := true, start := s.now } else { w with rest := true, start := s.now }) }))
    else .next s
  | none => .next s

/-- Answer the commands whose lines are confirmed. -/
def State.bezelAnswers (s : State) : State :=
  let host := (List.range 8).any (fun k => !s.legalLine k && s.linePending k)
  let any := (List.range 8).any s.linePending
  let t := if host then s
    else (forEach s.bzl.shows (fun c u => u.replyTo c.port c.seq stOK 0) s).updBzl (fun b => { b with shows := [] })
  if any then t
  else (forEach s.bzl.refresh (fun c u => u.replyTo c.port c.seq stOK 0) t).updBzl (fun b => { b with refresh := [] })

/-- The DONE record of a line (R291, R294): confirmed, its polarity bit flipped; a step of R295 is over. -/
def State.lineDone (s : State) (w : LineWrite) : State :=
  let t := s.updBzl (fun b => { b with
    confirmed := upd b.confirmed w.line (fun _ => w.content)
    forced := natBit b.forced w.line false
    startRec := none
    write := none
    seq := b.seq.drop 1 })
  let t := (t.clr BZL_STATE_BUSY).inc BZL_COUNT_LINES
  let t := t.putBit BZL_STATE_POL w.line (if s.get BZL_CFG_INV = 0 then w.pol else !w.pol)
  let t := when (decide (t.bzl.seq = [])) (fun u => u.clr BZL_STATE_FRESH) t
  let t := t.showPending
  let t := when (decide (t.get BZL_STATE_PENDING = 0)) (fun u => u.set1 BZL_EVENTS_DONE) t
  t.bezelAnswers

/-- BEZEL_REST_END (R291): 1 ms after the pulses, also when the warning came during the rest (R294). -/
def execBezelRestEnd (s : State) : Out :=
  match s.bzl.write with
  | some w => if w.rest ∧ w.start + 40 ≤ s.now then .next (s.lineDone w) else .next s
  | none => .next s

/-- BEZEL_RAIL_RESUME (R286): the rails (mV) of this measurement, and of every beat of the last second, have met every relation. -/
def execBezelRailResume (rails : List Nat) (s : State) : Out :=
  let t := s.watchRails rails
  match t.bzl.railsOk with
  | some b =>
    if s.isSet BZL_STATE_STOPPED ∧ b + secBeats ≤ s.now then
      .next ((t.clr BZL_STATE_STOPPED).updBzl (fun x => { x with refused := 0, railsOk := none }))
    else .next t
  | none => .next t

/-- BEZEL_DROP_REPOST (R292): at the next placement round every dropped write is posted again. -/
def execBezelDropRepost (s : State) : Out :=
  if s.running ∧ s.now % 400 = 0 then
    .next (forEach s.bzl.dropped (fun c u => u.postComp u.owner { c with latest := s.now + 400 }) (s.updBzl (fun b => { b with dropped := [] })))
  else .next s

/-- A power-fail warning (R294): no further line starts; a pulse longer than the holdup left (0.1 ms) is cut. -/
def State.bezelWarn (s : State) (left : Nat) : State :=
  match s.bzl.write with
  | some w =>
    if w.rest then s
    else
      let gone := (s.now - w.start) / 4
      let more := (w.t - gone) + (if s.get BZL_CFG_INV = 2 ∧ !w.second then w.t else 0)
      if left < more then (s.updBzl (fun b => { b with write := none })).clr BZL_STATE_BUSY else s
  | none => s

/-- BEZEL_RECOVERY (R295): after step 11 of start-up, before any other bezel work, where the newest START record has no DONE record. The
record stays until the first rewrite makes its own. -/
def execBezelRecovery (s : State) : Out :=
  match s.bzl.startRec with
  | some r =>
    if s.running ∧ s.bzl.recover then
      let f := s.get BZL_CFG_FRESH_LINE
      let rest := (List.range 8).filter (fun k => k != f && k != r.1)
      let order := rest.filter s.legalLine ++ rest.filter (fun k => !s.legalLine k)
      let seq := [(r.1, none), (f, some true)] ++ order.map (fun k => (k, none)) ++ [(f, some false)]
      let t := s.updBzl (fun b => { b with seq := seq, recover := false })
      .next (((t.set1 BZL_STATE_FRESH).set1 BZL_EVENTS_CUT).raise 0x8103 NOTE t.srcOwner r.1 0)
    else .next s
  | none => .next s

/-- A BEZEL unit restart rewrites the whole panel (R47). -/
def State.bezelRestart (s : State) : State := (s.updBzl (fun b => { b with forced := 0xFF })).showPending

/-- BZL.STRESS for BZL.STRESS_SEL. -/
def State.stressSel (s : State) : Nat := nth s.bzl.stress 0 (64 * s.get BZL_STRESS_SEL_LINE + s.get BZL_STRESS_SEL_SEG)

/-! ### Commands -/

/-- The transposed host image (R290, R367): bit s of word k is bit k of byte s. -/
def lineWords (bs : List Byte) : List Nat :=
  (List.range 8).map (fun k => (List.range 64).foldl (fun v i => natBit v i ((nth bs 0#8 i).toNat.testBit k)) 0)

/-- BZL_SHOW, 0x0910 (R290). -/
def execBzlShow (mb : Fin 8) (s : State) : Out :=
  .next (s.command mb 0x0910 .running false (fun c s =>
    if !argRangeOk (c.u32 0) 64 then s.reply c stBAD_ARG 0
    else
      let l := lineWords (s.mpRead (c.u32 0) 64)
      let t := s.want (fun k w => if s.legalLine k then w else nth l 0 k)
      (t.updBzl (fun b => { b with shows := b.shows ++ [{ port := c.port, seq := c.seq }] })).bezelAnswers))

/-- BZL_REFRESH, 0x0911: every line is pending once. -/
def execBzlRefresh (mb : Fin 8) (s : State) : Out :=
  .next (s.command mb 0x0911 .running false (fun c s =>
    (s.updBzl (fun b => { b with
      forced := 0xFF, refresh := b.refresh ++ [{ port := c.port, seq := c.seq }] })).showPending))

/-- BZL_STRESS_READ, 0x0912 (R293): 512 counters of 4 bytes. -/
def execBzlStressRead (mb : Fin 8) (s : State) : Out :=
  .next (s.command mb 0x0912 .running false (fun c s =>
    if !argRangeOk (c.u32 0) 2048 then s.reply c stBAD_ARG 0
    else (s.laneWrite (c.u32 0) (s.bzl.stress.flatMap (fun v => le 4 v))).reply c stOK 0))

end Sys2Proof.Machine
end

