-- ==== Sys2Proof/Machine/Reader.lean ====
section
/-! DEFINITION. Card reader and crown tag of 14_contactless.md: polling and ISO-DEP (R296 to R298), the tag's states and crown
commands (R301 to R303, R305), its memory (R306 to R308), the installer record, the fault mirror (R309, R310), and the commands
0x0A01 to 0x0A03 and 0x0A05 to 0x0A09. -/
namespace Sys2Proof.Machine

def State.updNfc (s : State) (f : NfcSt → NfcSt) : State := { s with nfc := f s.nfc }

/-! ### The reader -/

/-- RD_CARD.STATE: 0 off, 1 polling, 2 card selected, 3 ISO-DEP active, 4 exchange running. -/
def State.rdState (s : State) : Nat := s.get NFC_RD_CARD_STATE

/-- A card is no longer selected. -/
def State.cardGone (s : State) : State :=
  let t := (s.wrN A_NFC_RD_CARD 0).wr128 A_NFC_RD_UID 0
  (t.put NFC_RD_CARD_STATE (if s.isSet NFC_RD_CFG_EN ∧ s.running ∧ !s.nfc.stopped then 1 else 0)).updNfc
    (fun x => { x with misses := 0 })

/-- An exchange ends by an error (R298): TIMEOUT, counted, 0x9002 at most once per minute. -/
def State.exchangeError (s : State) : State :=
  match s.nfc.ex with
  | some e =>
    let t := (s.replyTo e.cmd.port e.cmd.seq stTIMEOUT 0).updNfc (fun x => { x with ex := none })
    let t := (t.inc NFC_RD_COUNT_ERRORS).set1 NFC_EVENTS_CARD_ERROR
    let t := if t.rdState = 4 then t.put NFC_RD_CARD_STATE 3 else t
    t.raiseLimited 0x9002 (60 * secBeats) 0x9002 NOTE srcCase 0 0
  | none => s

/-- FSDI and FSD of ISO/IEC 14443-4 (R298): 8 stands for 256 bytes, of which PCB and CRC take 3. -/
def fsdi : Nat := 8
def fsd : Nat := 256

/-- READER_POLL (R296, R297): the card that answers, if any, and whether the drive current lies within its limits; 0x9001 after
3 polls outside them. -/
def execReaderPoll (card : Option CardObs) (driveOk : Bool) (s : State) : Out :=
  if s.running ∧ s.isSet NFC_RD_CFG_EN ∧ !s.nfc.stopped ∧ s.rdState ≤ 1 ∧ !s.bitOf CLK_STATUS_LOST 9 ∧
      s.nfc.pollBeat + 40 * s.get NFC_RD_CFG_PERIOD ≤ s.now then
    let bad := if driveOk then 0 else s.nfc.drive + 1
    let t := (s.put NFC_RD_CARD_STATE 1).updNfc (fun x => { x with pollBeat := s.now, drive := bad })
    if 3 ≤ bad then
      .next (((t.updNfc (fun x => { x with stopped := true })).put NFC_RD_CARD_STATE 0).raise 0x9001 DEGRADE srcCase 0 0)
    else match card with
      | none => .next t
      | some c =>
        if c.uid = s.nfc.uid then .next t
        else
          let iso := c.sak.testBit 5
          let t := (t.put NFC_RD_CARD_ATQA c.atqa).put NFC_RD_CARD_SAK c.sak
          let t := (t.put NFC_RD_CARD_STATE (if iso then 3 else 2)).put NFC_RD_CARD_RATE
            (if iso then min c.rate (s.get NFC_RD_CFG_MAX_RATE) else 0)
          let t := if iso then t.updNfc (fun x => { x with rats := 0x10 * fsdi }) else t
          let t := (t.putB NFC_RD_CARD_ISO_DEP iso).set1 NFC_RD_CARD_PRESENT
          let t := t.wr128 A_NFC_RD_UID (ofLe (padTo 10 c.uid) + 2 ^ 80 * min 15 c.uid.length)
          let t := (t.inc NFC_RD_COUNT_CARDS).set1 NFC_EVENTS_CARD
          .next (t.updNfc (fun x => { x with
            misses := 0, checkBeat := s.now, fwt := min c.fwt 197960, fsc := c.fsc, blockNo := 0 }))
  else .next s

/-- CARD_PRESENCE_CHECK (R297): every 100 ms; 3 misses remove the card. -/
def execCardPresenceCheck (answered : Bool) (s : State) : Out :=
  if s.isSet NFC_RD_CARD_PRESENT ∧ s.rdState ≠ 4 ∧ s.nfc.checkBeat + 4000 ≤ s.now then
    let n := if answered then 0 else s.nfc.misses + 1
    let t := s.updNfc (fun x => { x with misses := n, checkBeat := s.now })
    .next (if 3 ≤ n then t.cardGone.set1 NFC_EVENTS_CARD_REMOVED else t)
  else .next s

/-- Bytes of an APDU that one I-block carries: the card's frame size without PCB and CRC. -/
def State.chunkLen (s : State) : Nat := max 1 (s.nfc.fsc - 3)

/-- Send the next I-block of an exchange (R298). -/
def State.sendChunk (s : State) (e : IsoEx) : State :=
  s.updNfc (fun x => { x with ex := some { e with
    chunk := e.rest.take s.chunkLen, rest := e.rest.drop s.chunkLen, naks := 0, rnak := false, sent := false, deadline := s.now + x.fwt } })

/-- The I-block that waits is sent, with the command set of a beat or by the new owner (R300); its frame waiting time begins. -/
def State.isoSend (s : State) : State :=
  match s.nfc.ex with
  | some e => if e.sent then s else s.updNfc (fun x => { x with ex := some { e with sent := true, deadline := s.now + x.fwt } })
  | none => s

/-- Whether a card's block fits FSD (R298). -/
def IsoBlock.fits : IsoBlock → Bool
  | .info _ _ data => decide (data.length + 3 ≤ fsd)
  | _ => true

/-- ISO_DEP_BLOCK_RECEIVED (R298): chaining, waiting-time extensions, the end of the response APDU. A block longer than FSD is none, nor is
one before the Obrik's own block has left. -/
def execIsoDepBlockReceived (b : IsoBlock) (s : State) : Out :=
  match s.nfc.ex with
  | none => .next s
  | some e =>
    if !e.sent ∨ !b.fits then .next s else
    let no := s.nfc.blockNo
    let flip (u : State) : State := u.updNfc (fun x => { x with blockNo := 1 - x.blockNo })
    let again (u : State) : State := u.updNfc (fun x => { x with ex := some { e with rnak := false, deadline := s.now + x.fwt } })
    match b with
    | .ack n => .next (if n = no ∧ e.rest ≠ [] then (flip s).sendChunk e else again s)
    | .nak _ => .next (again s)
    | .wtx m => .next (s.updNfc (fun x => { x with ex := some { e with rnak := false, deadline := s.now + min 197960 (x.fwt * max 1 m) } }))
    | .info n more data =>
      if n ≠ no then .next (again s)
      else
        let got := e.got ++ data
        if more then
          .next ((flip s).updNfc (fun x => { x with ex := some { e with got := got, naks := 0, rnak := false, deadline := s.now + x.fwt } }))
        else
          let t := ((flip s).laneWrite e.addr got).replyTo e.cmd.port e.cmd.seq stOK got.length
          .next ((t.put NFC_RD_CARD_STATE 3).updNfc (fun x => { x with ex := none, checkBeat := s.now }))

/-- ISO_DEP_TIMEOUT (R298): no answer within the frame waiting time; two R(NAK), then TIMEOUT. -/
def execIsoDepTimeout (s : State) : Out :=
  match s.nfc.ex with
  | some e =>
    if e.deadline ≤ s.now then
      if e.naks < 2 then
        .next (s.updNfc (fun x => { x with ex := some { e with naks := e.naks + 1, rnak := true, deadline := s.now + x.fwt } }))
      else .next s.exchangeError
    else .next s
  | none => .next s

/-- After a takeover (R300): an I-block that was sent and is not answered is followed by R(NAK) with its block number; one not yet sent is
sent. -/
def State.isoReplay (s : State) : State :=
  match s.nfc.ex with
  | some e =>
    if e.sent then s.updNfc (fun x => { x with ex := some { e with rnak := true, deadline := s.now + x.fwt } }) else s.isoSend
  | none => s

/-! ### The tag's memory -/

def State.tagState (s : State) : Nat := s.get NFC_TAG_STATE_STATE

/-- The cell of a block or counter as stored. -/
def State.cell0 (s : State) (k : Nat) : TagCell := (kvFind k s.nfc.cells).getD {}
def State.setCell (s : State) (k : Nat) (c : TagCell) : State :=
  s.updNfc (fun x => { x with cells := kvInsert ({} : TagCell) k c x.cells })

/-- No beats count: the module is without supply or before its first beat, while the tag runs on its own (R301). -/
def State.noBeats (s : State) : Bool := s.pwr.off || s.esc.gen != 2

/-- Sequence number a is newer than b (R307). -/
def newerSeq (a b : Nat) : Bool := let d := (a + 65536 - b) % 65536; decide (1 ≤ d) && decide (d ≤ 32767)

/-- The winning copy (R307): sequence number and data; none when neither is valid. -/
def TagCell.winner (c : TagCell) : Option (Nat × Nat) :=
  match c.pOk, c.bOk with
  | true, true => if newerSeq c.bSeq c.pSeq then some (c.bSeq, c.bData) else some (c.pSeq, c.pData)
  | true, false => some (c.pSeq, c.pData)
  | false, true => some (c.bSeq, c.bData)
  | false, false => none

/-- A losing or invalid copy restored from the winner (R307). -/
def TagCell.restored (c : TagCell) : TagCell :=
  match c.winner with
  | some w => { pData := w.2, pSeq := w.1, bData := w.2, bSeq := w.1 }
  | none => c

/-- A cell after a write has run for a number of beats (R307, R308): a losing or invalid copy is restored before step 2; steps 2 and 4 leave
their copy invalid while they write it. -/
def TagCell.after (c : TagCell) (w : TagWrite) (e : Nat) : TagCell :=
  if e < 4 then c
  else if e < 164 then { c.restored with bOk := false }
  else
    let c := { c.restored with bData := w.data, bSeq := (w.seq + 1) % 65536, bOk := true }
    if e < 176 then c
    else if e < 336 then { c with pOk := false }
    else { c with pData := w.data, pSeq := (w.seq + 1) % 65536, pOk := true }

/-- A cell as a read finds it, a write in progress included. -/
def State.cell (s : State) (k : Nat) : TagCell :=
  match s.nfc.write with
  | some w => if w.key = k then (s.cell0 k).after w (s.now - w.start) else s.cell0 k
  | none => s.cell0 k

/-- The Obrik reads blocks or counters: 0x9005 for each that has no valid copy (R307). -/
def State.tagReads (s : State) (ks : List Nat) : State :=
  forEach (ks.filter (fun k => (s.cell k).winner.isNone)) (fun k u => u.raise 0x9005 DEGRADE u.srcOwner k 0) s

/-- Both copies hold the winner. -/
def TagCell.whole (c : TagCell) : Bool := c.pOk && c.bOk && c.pSeq == c.bSeq && c.pData == c.bData

/-- The value of a block or counter, 0 for an unreadable one. -/
def State.tagVal (s : State) (k : Nat) : Nat := match (s.cell k).winner with | some x => x.2 | none => 0

/-- Store a value in both copies with the next sequence number, as the tag and the Obrik do for C_0 and C_1. -/
def State.setTagVal (s : State) (k v : Nat) : State :=
  let q := (match (s.cell k).winner with | some x => x.1 + 1 | none => 1) % 65536
  s.setCell k { pData := v, pSeq := q, bData := v, bSeq := q }

/-- Show C_k. -/
def State.showCounter (s : State) (k : Nat) : State := s.put (NFC_TAG_CNT_VALUE k) (s.tagVal (512 + k))

/-- Count one in C_k (R306): at 0xFF_FFFF the value stays, with 0x9007 (R311); a counter without a valid copy is not counted, since its value
may never fall (R307). -/
def State.countTag (s : State) (k : Nat) : State :=
  match (s.cell (512 + k)).winner with
  | none => s
  | some w =>
    if 0xFFFFFF ≤ w.2 then s.raise 0x9007 NOTE srcCase k 0
    else (s.setTagVal (512 + k) (w.2 + 1)).showCounter k

/-- USER_RIGHTS (B_4 bits 3:2). -/
def State.userRights (s : State) : Nat := (s.tagVal 4 / 4) % 4

/-- A field transaction is open. -/
def State.txn (s : State) : Bool := s.isSet NFC_TAG_STATE_TXN

/-- Field rights of R306: `secured` is the state's. -/
def State.mayRead (s : State) (b : Nat) (secured : Bool) : Bool :=
  if b ≤ 4 then true
  else if b ≤ 7 then false
  else if b ≤ 15 then true
  else if b ≤ 208 then secured
  else if b ≤ 255 then true
  else if b ≤ 511 then (s.userRights % 2 == 0 || secured)
  else false
def State.mayWrite (s : State) (b : Nat) (secured : Bool) : Bool :=
  secured && ((decide (16 ≤ b) && decide (b ≤ 208)) || (decide (256 ≤ b) && decide (b ≤ 511) && decide (s.userRights < 2)))

/-- Host rights: never B_5 to B_7 for a read, and for a write never the blocks that the Obrik keeps. -/
def hostMayRead (b : Nat) : Bool := decide (b ≤ 511) && !(decide (5 ≤ b) && decide (b ≤ 7))
def hostMayWrite (b : Nat) : Bool := decide (b ≤ 511) && decide (16 ≤ b) && !(decide (209 ≤ b) && decide (b ≤ 240))

/-! ### Writes -/

/-- Start the write steps of a cell (R308). -/
def State.startWrite (s : State) (k v : Nat) (f : TagWrite → TagWrite) : State :=
  let w := ((s.cell k).winner).getD (0, 0)
  let t := s.updNfc (fun x => { x with write := some (f { key := k, data := v, seq := w.1, old := w.2, start := s.now }) })
  t.set1 NFC_TAG_STATE_WRITING

/-- The Obrik's own writes, as master TAG: the next one starts when no transaction is open and nothing is being written. -/
def State.tagOwn (s : State) : State :=
  match s.nfc.own with
  | (k, v) :: rest =>
    if s.txn ∨ s.nfc.write.isSome ∨ s.settingPos ∧ s.gstate = 0 then s
    else ((s.updNfc (fun x => { x with own := rest })).put NFC_TAG_STATE_WRITER 0).startWrite k v id
  | [] => s

/-- Queue the Obrik's own writes. -/
def State.ownWrites (s : State) (l : List (Nat × Nat)) : State := (s.updNfc (fun x => { x with own := x.own ++ l })).tagOwn

/-- The power of the tag fails during a write: the cell stays as its steps left it (R308). How far it has come is a free value where no
beats count (log entry 4). -/
def State.tagCollapse (s : State) : State :=
  match s.nfc.write with
  | some w =>
    let d := if s.noBeats then (s.draw.1 % 348, s.draw.2) else (s.now - w.start, s)
    let e := d.1
    let s := d.2
    let t := s.setCell w.key ((s.cell0 w.key).after w e)
    let t := (t.updNfc (fun x => { x with write := none })).clr NFC_TAG_STATE_WRITING
    when (decide (e < 336)) (fun u => u.inc NFC_TAG_STAT_COLLAPSES) t
  | none => s

/-- Answer the field with 4 bits, or with bytes. -/
def State.tagAnswer (s : State) (a : Option Nat) (bytes : List Byte) (n : Nat) (f : CrownFrame) : State :=
  s.updNfc (fun x => { x with answer := a, reply := bytes, delay := n * 128 + (if f.last then 84 else 20) })

/-- What the write of a block of the key cell leaves (R304): 0x9006 when it could not be written. -/
def State.keyWritten (s : State) (key : Nat) (ok : Bool) : State :=
  if key ≠ 6 ∧ key ≠ 7 then s
  else if ok then s.updNfc (fun x => { x with keyBad := x.keyBad && decide (key = 7) })
  else (s.updNfc (fun x => { x with keyBad := true })).raise 0x9006 DEGRADE srcCase key 0

/-- Aborts of a host write that has reached its commit point or ended get a copy of its result (R30). -/
def State.tagAbortsLate (s : State) (op : CmdRef) : State :=
  forEach s.nfc.aborts (fun r u => u.abortLateTo r op) (s.updNfc (fun x => { x with aborts := [] }))

/-- TAG_WRITE_COMMIT (R308 steps 5 and 6): the primary is verified. `failed`: 1 the backup, 2 the primary failed its verify
twice; a host write then ends with the blocks written so far. A key cell that could not be written raises 0x9006 (R304). -/
def execTagWriteCommit (failed : Fin 3) (s : State) : Out :=
  match s.nfc.write with
  | none => .next s
  | some w =>
    if s.now < w.start + 348 ∧ !s.noBeats then .next s
    else
      let c0 := s.cell0 w.key
      let c : TagCell := if failed = 1 then c0.after w 4
        else if failed = 2 then { (c0.after w 348) with pOk := false } else c0.after w 348
      let t := ((s.setCell w.key c).updNfc (fun x => { x with write := none })).clr NFC_TAG_STATE_WRITING
      let t := if 512 ≤ w.key then t.showCounter (w.key - 512) else t
      let t := when (decide (failed ≠ 0)) (fun u => u.raise 0x9005 DEGRADE srcCase w.key 0) t
      let t := t.keyWritten w.key (decide (failed = 0))
      let t := when w.byField (fun u =>
        ((if w.key < 512 then u.put NFC_TAG_STATE_LAST_BLOCK w.key else u).set1 NFC_EVENTS_TAG_FIELD_WRITE).updNfc
          (fun x => { x with answer := some (if failed = 0 then 0xA else 0x8), reply := [] })) t
      match w.cmd, w.more with
      | some r, (k, v) :: rest =>
        if failed ≠ 0 then .next (((t.replyTo r.port r.seq stOK w.done).tagAbortsLate r).tagOwn)
        else .next (t.startWrite k v (fun y => { y with cmd := some r, more := rest, done := w.done + 1 }))
      | some r, [] => .next (((t.replyTo r.port r.seq stOK (if 512 ≤ w.key then t.tagVal w.key
        else if failed = 0 then w.done + 1 else w.done)).tagAbortsLate r).tagOwn)
      | none, _ => .next t.tagOwn

/-! ### The field -/

/-- The field transaction ends. -/
def State.endTxn (s : State) : State :=
  if s.txn then ((s.clr NFC_TAG_STATE_TXN).set1 NFC_EVENTS_TAG_TXN_END).tagOwn else s

/-- TAG_FIELD_ON (R301). -/
def execTagFieldOn (s : State) : Out := .next (s.set1 NFC_TAG_STATE_FIELD)

/-- TAG_FIELD_LOSS (R303, R305, R308): SECURED and the transaction end; SILENT goes on; a write goes on while the module is
powered. -/
def execTagFieldLoss (s : State) : Out :=
  let t := if s.pwr.off then s.tagCollapse else s
  let t := t.clr NFC_TAG_STATE_FIELD
  let t := if t.tagState = 5 then t else t.put NFC_TAG_STATE_STATE 0
  .next ((t.updNfc (fun x => { x with mute := false, fails := 0, served := false, chal := none })).endTxn)

/-- ATQA (R301): a double-size UID with bit-frame anticollision; which of its five bits is set and the proprietary ones are free. -/
def tagAtqaBytes : List Byte := le 2 (0x40 + 2 ^ (Config.tagAtqa % 5) + 0x100 * (Config.tagAtqa / 8 % 16))

/-- SAK (R301, R4): the UID is complete, no ISO-DEP; the other bits are free. -/
def tagSakByte : List Byte := le 1 (clearMask (Config.tagSak % 256) 0x24)

/-- An answer of the tag on the grid of R302, n = 9. -/
def State.tagSays (s : State) (bytes : List Byte) (last : Bool) : State :=
  s.updNfc (fun x => { x with reply := bytes, answer := none, delay := 9 * 128 + (if last then 84 else 20) })

/-- A frame that the state does not expect (R301): a tag in READY, or selected and not SECURED, goes back to IDLE, or to HALT where it was woken from
there. SECURED lasts until HLTA, DESELECT or loss of field (R303; log entry 157). -/
def State.tagBack (s : State) : State :=
  if (s.tagState = 1 ∨ s.tagState = 2) ∧ !s.nfc.mute then
    (s.put NFC_TAG_STATE_STATE (if s.nfc.star then 4 else 0)).updNfc (fun x => { x with chal := none })
  else s

/-- TAG_REQA (R301, R302, R305): only an idle tag answers. The last bit of REQA is 0, that of WUPA 1 (log entry 146). -/
def execTagReqa (s : State) : Out :=
  if s.isSet NFC_TAG_STATE_FIELD ∧ s.tagState = 0 ∧ !s.nfc.mute then
    .next (((s.put NFC_TAG_STATE_STATE 1).updNfc (fun x => { x with star := false })).tagSays tagAtqaBytes false)
  else .next s.tagBack

/-- TAG_WUPA (R301, R305): an idle or a halted tag answers. -/
def execTagWupa (s : State) : Out :=
  if s.isSet NFC_TAG_STATE_FIELD ∧ (s.tagState = 0 ∨ s.tagState = 4) ∧ !s.nfc.mute then
    .next (((s.put NFC_TAG_STATE_STATE 1).updNfc (fun x => { x with star := decide (s.tagState = 4) })).tagSays tagAtqaBytes true)
  else .next s.tagBack

/-- The CRC_A of a frame, from its value so far (ISO/IEC 14443-3; log entry 146). -/
def crcA : Nat → List Byte → Nat
  | c, [] => c
  | c, b :: l => crcA ((List.range 8).foldl (fun v _ => if v % 2 = 1 then (v / 2) ^^^ 0x8408 else v / 2) (c ^^^ b.toNat)) l

/-- The last bit of the SELECT that selects a UID: of CRC_A after the second cascade level's four bytes and their check byte. -/
def selectLast (uid : List Byte) : Bool :=
  let u := uid.drop 3
  (crcA 0x6363 ([0x95#8, 0x70#8] ++ u ++ [u.foldl (fun x b => x ^^^ b) 0#8])).testBit 15

/-- TAG_ANTICOLLISION (R301, R302): the tag answers with its 7-byte UID; the request that holds no bit of it yet ends in a 0 (log entry
146). -/
def execTagAnticollision (s : State) : Out :=
  if s.tagState = 1 then .next (s.tagSays s.nfc.uid false) else .next s.tagBack

/-- TAG_SELECT (R301 to R303): SELECT with the tag's own UID; it answers SAK, is OPEN, and the transaction opens. -/
def execTagSelect (s : State) : Out :=
  if s.tagState = 1 then
    .next (((s.tagSays tagSakByte (selectLast s.nfc.uid)).put NFC_TAG_STATE_STATE 2).set1 NFC_TAG_STATE_TXN |>.updNfc (fun x => { x with
      served := false, fails := 0, chal := none, cmdBeat := s.now }))
  else .next s.tagBack

/-- TAG_HLTA (R305): SILENT after a crown command, else HALT. -/
def execTagHlta (s : State) : Out :=
  if s.tagState = 2 ∨ s.tagState = 3 then
    let t := s.put NFC_TAG_STATE_STATE (if s.nfc.served then 5 else 4)
    .next ((t.updNfc (fun x => { x with silentBeat := some s.now, chal := none })).endTxn)
  else .next s.tagBack

/-- TAG_DESELECT (R303): the tag halts without SILENT (log entry 45). -/
def execTagDeselect (s : State) : Out :=
  if s.tagState = 2 ∨ s.tagState = 3 then
    .next (((s.put NFC_TAG_STATE_STATE 4).updNfc (fun x => { x with chal := none })).endTxn)
  else .next s.tagBack

/-- TAG_SILENCE_END (R305): 2.0 to 2.6 s after HLTA, by the tag's charge cell; across a reset of the module no beats measure it. -/
def execTagSilenceEnd (s : State) : Out :=
  let due : Bool := match s.nfc.silentBeat with | some b => decide (b + 2 * secBeats ≤ s.now) | none => true
  if s.tagState = 5 ∧ (s.noBeats ∨ due) then .next (s.put NFC_TAG_STATE_STATE 0) else .next s

/-- TAG_TXN_IDLE_TIMEOUT (R311): 2 s without a crown command; it ends for the host only. -/
def execTagTxnIdleTimeout (s : State) : Out :=
  if s.txn ∧ (s.noBeats ∨ s.nfc.cmdBeat + 2 * secBeats ≤ s.now) then .next s.endTxn else .next s

/-- A crown command (R302, R303): none is answered without SELECT, with a wrong CRC_A or after 3 failures; one during a host
write gets NAK 0x5. The transaction is open again. -/
def State.crown (s : State) (f : CrownFrame) (n : Nat) (body : State → State) : Out :=
  if (s.tagState ≠ 2 ∧ s.tagState ≠ 3) ∨ s.nfc.mute then .next s.tagBack
  else if !f.crcOk then .next (s.updNfc (fun x => { x with answer := none, reply := [] }))
  else
    let t := (s.set1 NFC_TAG_STATE_TXN).updNfc (fun x => { x with served := true, cmdBeat := s.now })
    if s.nfc.write.isSome then .next (t.tagAnswer (some 0x5) [] n f) else .next (body (t.tagAnswer none [] n f))

/-- A 4-bit answer in the frame of a command. -/
def State.nak (s : State) (a : Nat) : State := s.updNfc (fun x => { x with answer := some a, reply := [] })
def State.answerBytes (s : State) (l : List Byte) : State := s.updNfc (fun x => { x with answer := none, reply := l })

/-- GET_INFO (R302): format, state, host lock, block count, counter count (log entry 46). -/
def execGetInfo (f : CrownFrame) (s : State) : Out :=
  s.crown f 9 (fun s => s.answerBytes
    (le 2 1 ++ le 1 s.tagState ++ le 1 (s.get NFC_TAG_CTRL_HOST_LOCK) ++ le 2 512 ++ le 2 8))

/-- READ_BLOCK (R306, R307): B_241 to B_255 read as 0. -/
def execReadBlock (f : CrownFrame) (block : BitVec 16) (s : State) : Out :=
  s.crown f 9 (fun s =>
    let b := block.toNat
    if !s.mayRead b (s.tagState == 3) then s.nak 0x0
    else if 241 ≤ b ∧ b ≤ 255 then s.answerBytes (le 16 0)
    else match (s.cell b).winner with
      | some w => s.answerBytes (le 16 w.2)
      | none => s.nak 0x8)

/-- WRITE_BLOCK (R306, R308, R311): `reserve`: the storage capacitor holds the energy of steps 2 and 3. -/
def execWriteBlock (f : CrownFrame) (block : BitVec 16) (data : BitVec 128) (reserve : Bool) (s : State) : Out :=
  s.crown f 1000 (fun s =>
    let b := block.toNat
    if s.tagState ≠ 3 ∨ !s.mayWrite b true then s.nak 0x0
    else if s.isSet NFC_TAG_CTRL_HOST_LOCK then s.nak 0x6
    else if !reserve then s.nak 0x4
    else (s.set1 NFC_TAG_STATE_WRITER).startWrite b data.toNat (fun w => { w with byField := true }))

/-- READ_COUNTER (R306). -/
def execReadCounter (f : CrownFrame) (k : BitVec 8) (s : State) : Out :=
  s.crown f 9 (fun s =>
    if 8 ≤ k.toNat then s.nak 0x0
    else match (s.cell (512 + k.toNat)).winner with
      | some w => s.answerBytes (le 3 w.2)
      | none => s.nak 0x8)

/-- INCR_COUNTER (R306 to R308, R311): C_2 to C_7, when SECURED; a counter at its maximum keeps its value, one without a valid copy has none to
count from. -/
def execIncrCounter (f : CrownFrame) (k : BitVec 8) (inc : BitVec 24) (reserve : Bool) (s : State) : Out :=
  s.crown f 1000 (fun s =>
    let c := 512 + k.toNat
    let v := s.tagVal c + inc.toNat
    if s.tagState ≠ 3 ∨ k.toNat < 2 ∨ 8 ≤ k.toNat then s.nak 0x0
    else if s.isSet NFC_TAG_CTRL_HOST_LOCK then s.nak 0x6
    else if (s.cell c).winner.isNone then s.nak 0x8
    else if 0xFFFFFF < v then (s.nak 0x7).raise 0x9007 NOTE srcCase k.toNat 0
    else if !reserve then s.nak 0x4
    else (s.set1 NFC_TAG_STATE_WRITER).startWrite c v (fun w => { w with byField := true }))

/-- A failed authentication (R303): C_1, and silence after 3 in one activation. -/
def State.tagFail (s : State) : State :=
  let t := (s.countTag 1).updNfc (fun x => { x with fails := x.fails + 1, mute := decide (2 ≤ x.fails), chal := none })
  t.nak 0x0

/-- PWD_AUTH (R303, R307). -/
def execPwdAuth (f : CrownFrame) (pwd : BitVec 32) (s : State) : Out :=
  s.crown f 9 (fun s =>
    if !s.isSet NFC_TAG_CTRL_PWD_EN then s.nak 0x0
    else if (s.cell 5).winner.isNone then s.nak 0x8
    else if pwd.toNat = s.tagVal 5 % 2 ^ 32 then (s.put NFC_TAG_STATE_STATE 3).nak 0xA
    else s.tagFail)

/-- The tag key (R304): the key cell B_6 and B_7. -/
def State.tagKey (s : State) : Nat := s.tagVal 6 + 2 ^ 128 * s.tagVal 7

/-- HMAC under the tag key, truncated to 16 bytes (R303). -/
def State.tagMac (s : State) (chal : Nat) : Nat := hmac s.tagKey (le 16 chal) % 2 ^ 128

/-- Whether the key cell can be read (R307). -/
def State.keyReads (s : State) : Bool := (s.cell 6).winner.isSome && (s.cell 7).winner.isSome

/-- AUTH_BEGIN (R303): the challenge comes from the tag's own ring-oscillator source, a free value. -/
def execAuthBegin (f : CrownFrame) (chal : BitVec 128) (s : State) : Out :=
  s.crown f 64 (fun s =>
    if !s.keyReads then s.nak 0x8 else
    let d := s.draw
    let c := d.1 % 2 ^ 128
    (d.2.updNfc (fun x => { x with chal := some c })).answerBytes (le 16 c ++ le 16 (s.tagMac chal.toNat)))

/-- AUTH_END (R303); with a key cell that could not be written only the password secures the tag (R304). -/
def execAuthEnd (f : CrownFrame) (resp : BitVec 128) (s : State) : Out :=
  s.crown f 64 (fun s =>
    match s.nfc.chal with
    | none => s.nak 0x0
    | some c =>
      if resp.toNat = s.tagMac c ∧ !s.nfc.keyBad then
        ((s.put NFC_TAG_STATE_STATE 3).updNfc (fun x => { x with chal := none })).nak 0xA
      else s.tagFail)

/-! ### The Obrik's own use of the tag -/

/-- C_1 has grown since the last start or scrub: 0x9003. -/
def State.judgeC1 (s : State) : State :=
  let v := s.tagVal 513
  let t := (s.showCounter 1).updNfc (fun x => { x with c1 := v })
  if s.nfc.c1 < v then
    ((t.incBy NFC_TAG_STAT_AUTH_FAIL (v - s.nfc.c1)).set1 NFC_EVENTS_TAG_AUTH).raise 0x9003 NOTE t.srcOwner 1 (v - s.nfc.c1)
  else t

/-- Read one cell in the scrub (R307): a losing or invalid copy is restored. -/
def State.scrubCell (s : State) (k : Nat) : State :=
  let c := s.cell0 k
  match c.winner with
  | none => s.raise 0x9005 DEGRADE s.srcOwner k 0
  | some _ =>
    if c.whole then s
    else
      let t := s.setCell k c.restored
      ((t.inc NFC_TAG_STAT_REPAIRS).set1 NFC_EVENTS_TAG_REPAIR).raise 0x9004 NOTE t.srcOwner k 0

/-- Whether the lanes' firmware serves the tag: from LOADING on, in SAFE_HOLD while a lane still runs (R44, R23). -/
def State.tagServed (s : State) : Bool := s.gstate == 1 || s.gstate == 2 || s.anyLane

/-- TAG_SCRUB (R307): every 24 h; a cell at its default needs no repair. -/
def execTagScrub (s : State) : Out :=
  if s.tagServed ∧ s.nfc.write.isNone ∧ s.nfc.scrubBeat + 86400 * secBeats ≤ s.now then
    let t := forEach (s.nfc.cells.map (·.1)) (fun k u => u.scrubCell k) s
    let t := forUpTo 8 (fun k u => u.showCounter k) t
    .next (t.judgeC1.updNfc (fun x => { x with scrubBeat := s.now }))
  else .next s

/-- The newest entry of class DEGRADE or higher that the mirror does not hold (R310). -/
def State.mirrorNext (s : State) : Option FaultEntry :=
  s.flt.ring.find? (fun e => decide (DEGRADE ≤ e.cls) && decide (s.nfc.mirSeq < e.seq))

/-- Whether a minute has passed since the last record of the fault mirror (R310): by beats, after a reset by MONO, whose seconds tell it within
one. -/
def State.mirrorFree (s : State) : Bool :=
  match s.nfc.mirBeat, s.nfc.mirMono with
  | some b, _ => decide (b + 60 * secBeats ≤ s.now)
  | none, some m => decide (m + 61 ≤ s.mono)
  | none, none => true

/-- FAULT_MIRROR_WRITE (R310): at most one record a minute; the others that wait are skipped. -/
def execFaultMirrorWrite (s : State) : Out :=
  match s.mirrorNext with
  | some e =>
    if s.tagServed ∧ s.mirrorFree then
      let b := 209 + 2 * (s.nfc.mirNext % 16)
      let t := s.updNfc (fun x => { x with mirSeq := e.seq, mirNext := (x.mirNext + 1) % 16, mirBeat := some s.now, mirMono := some s.mono })
      .next (t.ownWrites [(b, ofLe (e.bytes.take 16)), (b + 1, ofLe (e.bytes.drop 16))])
    else .next s
  | none => .next s

/-- The configuration block B_4 from NFC.TAG_CTRL; USER_RIGHTS stay. -/
def State.configBlock (s : State) : Nat :=
  s.get NFC_TAG_CTRL_HOST_LOCK + 2 * s.get NFC_TAG_CTRL_PWD_EN + 4 * s.userRights

/-- A write of NFC.TAG_CTRL.HOST_LOCK (R311): it holds for the next field command; B_4 is written when granted. -/
def State.setHostLock (s : State) (v : Bool) : State :=
  let t := s.putB NFC_TAG_CTRL_HOST_LOCK v
  t.ownWrites [(4, t.configBlock)]

/-- TAG_HOST_LOCK_WRITE (R311). -/
def execTagHostLockWrite (v : Bool) (s : State) : Out := .next (s.setHostLock v)

/-- The Obrik reads the installer record area (R309, R307): its header, and the blocks that the header's length names. -/
def State.readInstaller (s : State) : State :=
  let n := ((s.tagVal 16 / 2 ^ 32) % 2 ^ 16 + 15) / 16
  s.tagReads (16 :: (List.range (min n 192)).map (fun i => 17 + i))

/-- The installer record of the tag (R309): VERSION and section bytes, or none when MAGIC, LENGTH or CRC-32 do not match, or a block has no valid
copy. -/
def State.tagRecord (s : State) : Option (Nat × List Byte) :=
  let h := le 16 (s.tagVal 16)
  let reads (k : Nat) : Bool := (s.cell k).winner.isSome
  let len := ofLe ((h.drop 4).take 2)
  let n := (len + 15) / 16
  let body := (List.range n).flatMap (fun i => le 16 (s.tagVal (17 + i)))
  if h.take 4 = [BitVec.ofNat 8 0x49, BitVec.ofNat 8 0x4E, BitVec.ofNat 8 0x53, BitVec.ofNat 8 0x52] ∧ len ≤ 3072 ∧ reads 16 ∧
      (List.range n).all (fun i => reads (17 + i)) ∧ crc32 body = ofLe (h.drop 12) then some (ofLe ((h.drop 8).take 4), body.take len) else none

/-- Cut bytes into blocks from a block on. -/
def blocksOf (b : Nat) (l : List Byte) : List (Nat × Nat) :=
  (List.range ((l.length + 15) / 16)).map (fun i => (b + i, ofLe ((l.drop (16 * i)).take 16)))

/-- The commissioning record B_8 to B_15 (R309), and what taking a record does beside it: C_0 and NFC.TAG_COMM. -/
def State.commission (s : State) (offered accepted result detail : Nat) : State :=
  let w := if s.isSet LGL_CHRONO_WALL_VALID then s.wall else 0
  let h := padTo 124 (le 4 offered ++ le 4 accepted ++ le 2 result ++ le 1 detail ++ le 5 0 ++ le 8 s.mono ++ le 8 w)
  let t := s.ownWrites (blocksOf 8 (h ++ le 4 (crc32 h)))
  if result = 0 then
    let t := t.tagReads [512]
    (if (t.cell 512).winner.isNone then t
      else if 0xFFFFFF ≤ t.tagVal 512 then t.raise 0x9007 NOTE t.srcOwner 0 0
      else t.ownWrites [(512, t.tagVal 512 + 1)]).wrN A_NFC_TAG_COMM accepted
  else t

/-- The identity blocks B_0 to B_3 (R306; log entry 46). -/
def State.identity (s : State) : List (Nat × Nat) :=
  let h := padTo 60 (le 2 1 ++ le 2 0x8200 ++ le 8 (s.rdN A_GLB_SERIAL_LO + 2 ^ 32 * s.rdN A_GLB_SERIAL_HI) ++
    le 2 (s.get GLB_REV_LEGAL_BUILD) ++ le 4 (s.rdN A_GLB_LEGAL_FW_ID) ++ le 4 (s.rdN A_GLB_LEGAL_FW_SUM))
  blocksOf 0 (h ++ le 4 (crc32 h))

/-- Step 6 of start-up on the tag (R304, R306, R307): identity if changed, key cell if its digest differs, C_1; `key` is none without J_11. -/
def State.tagStart (s : State) (key : Option Nat) : State :=
  let s := s.tagReads [0, 1, 2, 3, 4, 6, 7, 513]
  let id := s.identity.filter (fun b => s.tagVal b.1 != b.2 || (s.cell b.1).winner.isNone)
  let cellW := match key with
    | some v => if s.tagKey = v ∧ s.keyReads then [] else [(6, v % 2 ^ 128), (7, v / 2 ^ 128)]
    | none => []
  ((s.ownWrites (id ++ cellW)).judgeC1).updNfc (fun x => { x with scrubBeat := s.now })

/-! ### Commands -/

/-- NFC_RD_ENABLE, 0x0A01 (R296). -/
def execNfcRdEnable (mb : Fin 8) (s : State) : Out :=
  .next (s.command mb 0x0A01 .running false (fun c s =>
    if c.u32 0 > 1 then s.reply c stBAD_ARG 0
    else
      let t := s.updNfc (fun x => { x with stopped := false, drive := 0 })
      let t := if c.u32 0 = 1 then (t.set1 NFC_RD_CFG_EN).put NFC_RD_CARD_STATE (max 1 t.rdState)
        else (t.clr NFC_RD_CFG_EN).exchangeError.cardGone
      t.reply c stOK 0))

/-- NFC_RD_APDU, 0x0A02 (R298): address and length of the command APDU, address for the response. -/
def execNfcRdApdu (mb : Fin 8) (s : State) : Out :=
  .next (s.command mb 0x0A02 .running false (fun c s =>
    let n := c.u32 1
    if s.rdState ≠ 3 then s.reply c stREFUSED_STATE 0
    else if n = 0 ∨ !argRangeOk (c.u32 0) n ∨ !argAddrOk (c.u32 2) then s.reply c stBAD_ARG 0
    else
      let e : IsoEx := { cmd := { port := c.port, seq := c.seq }, addr := c.u32 2, rest := s.mpRead (c.u32 0) n, chunk := [],
                         deadline := 0 }
      (s.sendChunk e).put NFC_RD_CARD_STATE 4))

/-- NFC_RD_RELEASE, 0x0A03 (R297). -/
def execNfcRdRelease (mb : Fin 8) (s : State) : Out :=
  .next (s.command mb 0x0A03 .running false (fun c s => (s.exchangeError.cardGone).reply c stOK 0))

/-- The value of a block as the host reads it: B_241 to B_255 read as 0 (R306). -/
def State.hostBlock (s : State) (b : Nat) : Nat := if 241 ≤ b ∧ b ≤ 255 then 0 else s.tagVal b

/-- NFC_TAG_READ, 0x0A05 (R307): first block, count, Mainplate address. -/
def execNfcTagRead (mb : Fin 8) (s : State) : Out :=
  .next (s.command mb 0x0A05 .any false (fun c s =>
    let b := c.u32 0
    let n := c.u32 1
    if n = 0 ∨ n > 512 ∨ b + n > 512 ∨ !argRangeOk (c.u32 2) (16 * n) ∨
        !(List.range n).all (fun i => hostMayRead (b + i)) then s.reply c stBAD_ARG 0
    else
      let bad := (List.range n).filter (fun i => (s.cell (b + i)).winner.isNone)
      let t := forEach bad (fun i u => u.raise 0x9005 DEGRADE u.srcOwner (b + i) 0) s
      (t.laneWrite (c.u32 2) ((List.range n).flatMap (fun i => le 16 (s.hostBlock (b + i))))).reply c stOK 0))

/-- NFC_TAG_WRITE, 0x0A06 (R308, R311): first block, count, Mainplate address. -/
def execNfcTagWrite (mb : Fin 8) (s : State) : Out :=
  .next (s.command mb 0x0A06 .runSetting false (fun c s =>
    let b := c.u32 0
    let n := c.u32 1
    if n = 0 ∨ n > 16 ∨ !argRangeOk (c.u32 2) (16 * n) ∨ !(List.range n).all (fun i => hostMayWrite (b + i)) then
      s.reply c stBAD_ARG 0
    else if s.txn ∨ s.nfc.write.isSome then s.reply c stBUSY 0
    else
      let l := blocksOf b (s.mpRead (c.u32 2) (16 * n))
      match l with
      | (k, v) :: rest =>
        (s.put NFC_TAG_STATE_WRITER 0).startWrite k v (fun w => { w with
          cmd := some { port := c.port, seq := c.seq }, more := rest })
      | [] => s.reply c stBAD_ARG 0))

/-- Stop a host write (R308): the step in progress completes; a valid backup gets the old winner's data with s + 2. -/
def State.abortWrite (s : State) (w : TagWrite) : State :=
  let e := s.now - w.start
  let fin := if e < 4 then 0 else if e < 176 then 175 else 347
  let c := (s.cell0 w.key).after w fin
  let c := if fin = 0 then c else { c with bData := w.old, bSeq := (w.seq + 2) % 65536, bOk := true }
  (((s.setCell w.key c).updNfc (fun x => { x with write := none })).clr NFC_TAG_STATE_WRITING).tagOwn

/-- NFC_TAG_ABORT, 0x0A07 (R30, R308): it takes effect in its beat; a commit point of that beat still wins. -/
def execNfcTagAbort (mb : Fin 8) (s : State) : Out :=
  .next (s.command mb 0x0A07 .any false (fun c s =>
    let r : CmdRef := { port := c.port, seq := c.u32 0 }
    match s.nfc.write with
    | some w =>
      if w.cmd = some r then s.updNfc (fun x => { x with aborts := x.aborts ++ [{ port := c.port, seq := c.seq }] })
      else s.abortLate c r
    | none => s.abortLate c r))

/-- The end of an abort beat without the commit point (R30, R308): the write stops, and the aborts are answered OK. -/
def State.tagAborts (s : State) : State :=
  match s.nfc.write with
  | some w =>
    if s.nfc.aborts = [] ∨ (w.start + 348 < s.now ∧ !s.noBeats) then s
    else
      let t := (s.abortWrite w).updNfc (fun x => { x with aborts := [] })
      let t := match w.cmd with | some c => t.dropCmd c.port c.seq | none => t
      forEach s.nfc.aborts (fun r u => u.replyTo r.port r.seq stOK 0) t
  | none => s

/-- NFC_TAG_COUNTER, 0x0A08 (R307, R311): counter 2 to 7, increment. -/
def execNfcTagCounter (mb : Fin 8) (s : State) : Out :=
  .next (s.command mb 0x0A08 .running false (fun c s =>
    let k := c.u32 0
    let v := s.tagVal (512 + k) + c.u32 1
    if k < 2 ∨ k > 7 then s.reply c stBAD_ARG 0
    else if s.txn ∨ s.nfc.write.isSome then s.reply c stBUSY 0
    else if (s.cell (512 + k)).winner.isNone then (s.tagReads [512 + k]).reply c stBAD_ARG 0x9005
    else if 0xFFFFFF < v then (s.raise 0x9007 NOTE s.srcOwner k 0).reply c stBAD_ARG 0
    else (s.put NFC_TAG_STATE_WRITER 0).startWrite (512 + k) v (fun w => { w with
      cmd := some { port := c.port, seq := c.seq } })))

/-- NFC_TAG_PWD, 0x0A09 (R303, R344): new password of 4 bytes and PWD_EN, from a port in SERVICE. -/
def execNfcTagPwd (mb : Fin 8) (s : State) : Out :=
  .next (s.command mb 0x0A09 .any true (fun c s =>
    let pwd := c.str 0
    if pwd.length ≠ 4 ∨ c.u32 2 > 1 then s.reply c stBAD_ARG 0
    else if s.txn ∨ s.nfc.write.isSome then s.reply c stBUSY 0
    else
      let t := s.putB NFC_TAG_CTRL_PWD_EN (c.u32 2 == 1)
      (t.ownWrites [(5, ofLe pwd), (4, t.configBlock)]).reply c stOK 0))

end Sys2Proof.Machine
end

