-- ==== Sys2Proof/Machine/Mainplate.lean ====
section
/-! DEFINITION. The Mainplate of 17_mainplate.md: regions and banks, the deadline arbiter, errors and the spare bank, the hack
bit, and the motion works. Cycles are counted as the rows give them, from one origin for the whole run. -/
namespace Sys2Proof.Machine

def State.updMp (s : State) (f : MpSt → MpSt) : State := { s with mp := f s.mp }

/-! ### Regions, banks, words -/

/-- The logical bank of a host address (R350). -/
def bankOf (a : Nat) : Nat := a / 0x200000 % 8

/-- The 16-byte word of an address. -/
def wordOf (a : Nat) : Nat := a / 16 * 16

/-- Masters of R26 by kind. -/
def isEngine (m : Nat) : Bool := m == 0 || m == 3
def isApp (m : Nat) : Bool := m == 1 || m == 4
def isLegal (m : Nat) : Bool := m == 2 || m == 5
def isHost (m : Nat) : Bool := m == 6 || m == 7
def isLane (m : Nat) : Bool := m < 6
def laneOfMaster (m : Nat) : Nat := m / 3
def mMOTION : Nat := 8
def mSITE : Nat := 9
def mGP : Nat := 10
def mTAG : Nat := 11
def mUPDATE : Nat := 12
def mCASE : Nat := 13

/-- The masters that may write a bank (R351). -/
def mpMayWrite (b m : Nat) : Bool :=
  if b ≤ 1 then isHost m || isApp m || isLegal m || m == mMOTION
  else if b = 2 then isEngine m || isApp m || m == mGP
  else if b = 3 then isApp m || m == mGP || m == mSITE || m == mMOTION
  else if b = 4 then isEngine m || m == mMOTION
  else if b = 5 then isLegal m || isApp m
  else if b = 6 then isApp m || m == mMOTION || m == mTAG || m == mCASE
  else isEngine m || isApp m || m == mMOTION

/-- The masters that may read a bank (R351). -/
def mpMayRead (b m : Nat) : Bool :=
  if b ≤ 2 || b == 4 then true
  else if b = 3 then !isHost m
  else if b = 5 then isLegal m || isApp m
  else if b = 6 then isApp m || m == mMOTION || m == mTAG || m == mCASE || m == mUPDATE
  else isEngine m || isApp m || m == mMOTION

/-- Whether a master may make an access: the table of R351, and lane masters write only as the owner (R227). -/
def State.accessOk (s : State) (m a : Nat) (write : Bool) : Bool :=
  if write then mpMayWrite (bankOf a) m && (!isLane m || laneOfMaster m == s.owner) else mpMayRead (bankOf a) m

/-- A fault of the Mainplate, at most once per second for each unit it names. -/
def State.raiseMp (s : State) (code cls p0 p1 : Nat) : State :=
  s.raiseLimited (code * 256 + p0) secBeats code cls srcBarrel p0 p1

/-- A refused access (R351, R19). -/
def State.accessFault (s : State) (m a : Nat) : State := (s.set1 ARB_EVENTS_ACCESS).raiseMp 0xA101 NOTE m a

/-- The region of a lane physical address (R19, R20). -/
def laneRegion (a : Nat) : LaneRegion :=
  if a < 0x40000 then .rom
  else if 0x10000000 ≤ a ∧ a < 0x10800000 then .privateSram
  else if 0x20000000 ≤ a ∧ a < 0x20100000 then .legalSram
  else if 0x40000000 ≤ a ∧ a < 0x41000000 then .mainplate
  else if 0x60000000 ≤ a ∧ a < 0x60100000 then .registers
  else if 0x100000000 ≤ a ∧ a < 0x101000000 then .mram
  else if 0x200000000 ≤ a ∧ a < 0x204000000 then .flash
  else .unused

/-- The lane address of a register (R20). -/
def laneAddr (host : Nat) : Nat := 0x60000000 + host

/-- The legal MRAM area (R128) and the fault log's area (R424). -/
def legalMram (a : Nat) : Bool := decide (0x100000000 ≤ a) && decide (a < 0x100400000)
def faultMram (a : Nat) : Bool := decide (0x100400000 ≤ a) && decide (a < 0x100420000)

/-- A write of `n` words of 16 bytes touches the legal flash region, sealed in every life-cycle state after MANUFACTURE (R129). -/
def State.sealedFlash (s : State) (a n : Nat) : Bool :=
  decide (1 ≤ s.glb.lifecycle) && (List.range (max n 1)).any (fun i => Config.legalFlash (a + 16 * i))

/-- A write from a master that may not make it, to the areas that only the legal cores write (R127, R128) or that nothing writes (R129). -/
def State.legalArea (s : State) (m a n : Nat) : Bool :=
  match laneRegion a with
  | .legalSram => !isLegal m
  | .mram => legalMram a && !isLegal m
  | .flash => s.sealedFlash a n
  | _ => false

/-- The masters that R19 permits at a lane address: ROM and flash are read by the lane's cores, flash is written by UPDATE but for the legal
region (R129); MRAM is written by the owner's cores (R227), its legal area by the legal core alone (R128). -/
def State.lanePermits (s : State) (m a n : Nat) (write : Bool) : Bool :=
  match laneRegion a with
  | .rom => !write && (isApp m || isLegal m)
  | .privateSram => isEngine m || isApp m
  | .legalSram => isLegal m
  | .mainplate => true
  | .registers => isLane m
  | .mram => (isApp m || isLegal m) && (!write || (laneOfMaster m == s.owner && (!legalMram a || isLegal m)))
  | .flash => if write then m == mUPDATE && !s.sealedFlash a n else isApp m || isLegal m
  | .unused => isLane m

/-- An access of a master to a lane address outside the Mainplate (R19): one that is not permitted is not performed and logged; at an
unused address, or at no register, it behaves as R8 states. A refused write to a legal area is a class A occurrence (R128, R129). The contents of
ROM, lane SRAM and flash are no state of the model. -/
def State.laneAccess (s : State) (m a n : Nat) (write : Bool) : State :=
  let r := laneRegion a
  if !s.lanePermits m a n write then when (write && s.legalArea m a n) State.legalWrite (s.accessFault m a)
  else if r = .unused ∨ (r = .registers ∧ (findRow (a - laneAddr 0) regRows).isNone) then s.raiseHost 0xA002 m a
  else s

/-! ### Error correction, the scrubber and the spare bank -/

/-- The physical bank that serves a logical bank (R350, R355). -/
def State.physOf (s : State) (b : Nat) : Nat := if s.get ARB_BANK_MAP_SPARED = b then 8 else b

/-- ARB.ECC_b: the words poisoned in the physical banks in use. -/
def State.showPoison (s : State) : State :=
  forUpTo 8 (fun b u =>
    u.putSat (ARB_ECC_POISONED (u.physOf b)) (u.mp.poison.filter (fun a => bankOf a == b)).length) s

/-- Distinct addresses of a physical bank corrected in the last 24 h. -/
def State.corrected (s : State) (pb : Nat) : Nat :=
  (s.mp.corr.filter (fun e => e.1 == pb && decide (s.mono < e.2.2 + 86400))).length

/-- A logical bank meets the trigger of R355: the copy starts, or the spare is already in use. -/
def State.spareTrigger (s : State) (b : Nat) : State :=
  if s.mp.copying = some b then s
  else if s.mp.copying.isNone ∧ s.get ARB_BANK_MAP_SPARED = 15 then
    let t := s.updMp (fun m => { m with copying := some b, copied := false })
    (t.put ARB_BANK_MAP_COPYING b).put ARB_BANK_MAP_PROGRESS 0
  else (s.set1 ARB_EVENTS_SPARE).raiseMp 0xA107 DEGRADE b 0

/-- The registers of the last ECC event. -/
def State.eccLast (s : State) (finder a : Nat) (double : Bool) : State :=
  let t := (s.wrN A_ARB_ECC_LAST a).putB ARB_ECC_INFO_DOUBLE double
  (t.put ARB_ECC_INFO_FINDER finder).put ARB_ECC_INFO_BANK (t.physOf (bankOf a))

/-- A single-bit error is corrected (R352): 0xA104 at most once per bank per hour; 16 addresses in 24 h spare the bank. -/
def State.eccSingle (s : State) (finder a : Nat) : State :=
  let b := bankOf a
  let pb := s.physOf b
  let t := (s.eccLast finder a false).set1 ARB_EVENTS_CORR
  let rest := t.mp.corr.filter (fun e => decide (t.mono < e.2.2 + 86400) && !(e.1 == pb && e.2.1 == a))
  let t := t.updMp (fun m => { m with corr := (pb, a, s.mono) :: rest })
  let t := t.putSat (ARB_ECC_CORR_24H pb) (t.corrected pb)
  let t := t.raiseLimited (0xA10400 + pb) (3600 * secBeats) 0xA104 NOTE srcBarrel pb a
  when (decide (t.corrected pb ≥ 16)) (fun u => u.spareTrigger b) t

/-- A double-bit error marks the word poisoned and spares its bank (R352, R355). -/
def State.poisonWord (s : State) (finder a : Nat) : State :=
  let w := wordOf a
  let t := (s.eccLast finder w true).set1 ARB_EVENTS_UNCORR
  if t.mp.poison.contains w then t
  else ((t.updMp (fun m => { m with poison := w :: m.poison })).showPoison).spareTrigger (bankOf w)

/-- Clear the poison of a word (R353). -/
def State.clearPoison (s : State) (w : Nat) : State :=
  (s.updMp (fun m => { m with poison := m.poison.filter (fun x => x != w) })).showPoison

/-- The poisoned words of a range. -/
def State.poisoned (s : State) (a n : Nat) : List Nat :=
  s.mp.poison.filter (fun w => decide (w < a + n) && decide (a < w + 16))

/-- A read of a poisoned word by a master other than MOTION (R353): 0xA105; in RUNNING_DUAL the owner fetches the word from
the standby, in RUNNING_SINGLE the owner resigns. -/
def State.poisonRead (s : State) (m w : Nat) : State :=
  let t := s.raiseMp 0xA105 DEGRADE (bankOf w) w
  if isLane m then
    if t.gstate = 3 ∧ laneOfMaster m = t.owner then t.clearPoison w
    else if t.gstate = 4 ∧ laneOfMaster m = t.owner then t.resign t.owner 0xA105
    else t
  else t

/-- A lane reads a range of the Mainplate (R353). -/
def State.laneReads (s : State) (a n : Nat) : State :=
  forEach (s.poisoned a n) (fun w u => u.poisonRead (3 * u.owner + 1) w) s

/-- The banks that a host's hack holds (R360). -/
def State.hostHeld (s : State) : Nat := if s.isSet ARB_CTRL_HACK then s.get ARB_CTRL_HACK_BANKS else 0

/-- The Obrik's own hack on a bank ends; a host's hack on it stays (R360). -/
def State.releaseBank (s : State) (b : Nat) : State :=
  let held := s.hostHeld.testBit b
  ((s.updMp (fun m => { m with ownHack := false })).putBit ARB_STATUS_HELD b held).putBit ARB_STATUS_DRAINED b
    (held && !s.bitOf ARB_STATUS_BUSY b)

/-- The map switches to the spare bank and the old bank is retired (R355 steps 3 and 4). -/
def State.spareSwitch (s : State) : State :=
  match s.mp.copying with
  | some b =>
    let t := (s.releaseBank b).updMp (fun m => { m with copying := none, copied := false })
    let t := (t.put ARB_BANK_MAP_SPARED b).putBit ARB_BANK_MAP_RETIRED b true
    let t := ((t.put ARB_BANK_MAP_COPYING 15).put ARB_BANK_MAP_PROGRESS 0).set1 ARB_EVENTS_SPARE
    (t.showPoison).raiseMp 0xA106 NOTE b 0
  | none => s

/-! ### The arbiter -/

/-- The burst in progress on a bank at a cycle. -/
def State.burstAt (s : State) (b t : Nat) : Option MpBurst :=
  match nth s.mp.bursts none b with
  | some x => if t < x.stop then some x else none
  | none => none

/-- ARB.STATUS at a cycle; a bank that the Obrik's own hack holds switches once it is drained (R355, R360). -/
def State.showBanks (s : State) (t : Nat) : State :=
  let busy := (List.range 8).foldl (fun m b => if (s.burstAt b t).isSome then natBit m b true else m) 0
  let u := (s.put ARB_STATUS_BUSY busy).put ARB_STATUS_DRAINED (clearMask (s.get ARB_STATUS_HELD) busy)
  match u.mp.copying with
  | some b => if u.mp.ownHack ∧ !busy.testBit b then u.spareSwitch else u
  | none => u

/-- The switch of a copied bank is due at the start of a beat (R355 step 3): at once on an idle bank, else its hack bit is set. -/
def State.spareBeat (s : State) : State :=
  match s.mp.copying with
  | some b =>
    if !s.mp.copied ∨ s.mp.ownHack then s
    else if s.bitOf ARB_STATUS_BUSY b then
      (s.updMp (fun m => { m with ownHack := true })).putBit ARB_STATUS_HELD b true
    else s.spareSwitch
  | none => s

/-- The slack of a request at a cycle (R356). -/
def MpReq.slack (r : MpReq) (t : Nat) : Int := (r.due : Int) - ((t : Int) - (r.at_ : Int))

/-- Whether a request is eligible at a cycle: not backing off, or urgent (R356, R357). -/
def MpReq.eligible (r : MpReq) (t : Nat) : Bool :=
  decide (r.backEnd ≤ t) || decide (r.slack t < (r.backEnd : Int) - (t : Int))

/-- The request with the least slack, on equal slack the lower master (R356). -/
def leastSlack (t : Nat) : List MpReq → Option MpReq
  | [] => none
  | r :: l =>
    match leastSlack t l with
    | none => some r
    | some q =>
      if r.slack t < q.slack t ∨ (r.slack t = q.slack t ∧ r.master ≤ q.master) then some r else some q

/-- The cycles of a burst: one per word, two for a word written in part (R352, R356). -/
def MpAccess.cycles (a : MpAccess) : Nat :=
  if a.write then
    let n := a.data.length
    let first := a.off / 16
    let last := (a.off + n - 1) / 16
    let partHead := decide (a.off % 16 ≠ 0) || decide (a.off + n < (first + 1) * 16)
    let partTail := decide ((a.off + n) % 16 ≠ 0) && decide (first < last)
    (last - first + 1) + (if partHead then 1 else 0) + (if partTail then 1 else 0)
  else a.words

/-- A loser backs off 2^(j-1) cycles after its j-th consecutive loss, at most 1 024 (R357). -/
def MpReq.lose (r : MpReq) (t : Nat) : MpReq :=
  { r with losses := r.losses + 1, backEnd := t + 2 ^ min 10 r.losses }

/-- The counts of a grant (R358) and its cycles in ARB.LOAD_b. -/
def State.countGrant (s : State) (r : MpReq) (t : Nat) : State :=
  let w := t - r.at_
  let u := (s.inc (ARB_WAIT_GRANTS r.master)).raiseTo (ARB_WAIT_MAX_WAIT r.master) w
  let u := if r.at_ + r.due < t then
      let late := t - (r.at_ + r.due)
      let u := ((u.inc (ARB_MISS_COUNT r.master)).raiseTo (ARB_MISS_WORST r.master) late).set1 ARB_EVENTS_MISS
      u.raiseMp 0xA102 NOTE r.master late
    else u
  let pb := u.physOf (bankOf r.acc.off)
  let old := (nth u.mp.loads [] pb).filter (fun e => decide (u.now < e.1 + secBeats))
  u.updMp (fun m => { m with loads := upd m.loads pb (fun _ => (u.now, r.acc.cycles) :: old) })

/-- ARB.LOAD_b of the last 40 000 beats of 15 000 cycles. -/
def State.showLoads (s : State) : State :=
  forUpTo 9 (fun b u =>
    let l := (nth u.mp.loads [] b).filter (fun e => decide (u.now < e.1 + secBeats))
    if (nth u.mp.loads [] b).isEmpty then u
    else
      let v := sumN (l.map (fun e => e.2)) * 100 / (secBeats * 15000)
      ((u.updMp (fun m => { m with loads := upd m.loads b (fun _ => l) })).put (ARB_LOAD_LOAD b) v).raiseTo (ARB_LOAD_PEAK b) v) s

/-! ### The motion works -/

/-- A channel beside its registers. -/
def State.dma (s : State) (n : Nat) : DmaSt := nth s.mp.dma {} n
def State.updDma (s : State) (n : Nat) (f : DmaSt → DmaSt) : State :=
  s.updMp (fun m => { m with dma := upd m.dma n f })

/-- Set a channel's state: DMA.Cn_STAT and DMA.STATUS. -/
def State.dmaSet (s : State) (n st : Nat) : State :=
  let t := s.put (DMA_C_STAT_STATE n) st
  (t.putBit DMA_STATUS_ACTIVE n (st == 1 || st == 2 || st == 4)).putBit DMA_STATUS_PAUSED n (st == 3)

/-- The requests that wait for a channel. -/
def State.dropReqs (s : State) (n : Nat) : State :=
  s.updMp (fun m => { m with reqs := m.reqs.filter (fun r => r.chan != some n) })

/-- A channel enters ERROR (R362, R365). -/
def State.dmaError (s : State) (n err : Nat) : State :=
  let t := ((s.dropReqs n).dmaSet n 6).put (DMA_C_STAT_ERR n) err
  (t.putBit DMA_EVENTS_ERROR n true).raiseMp 0xA109 NOTE n err

/-- Element size, channels and whole records of a DEINTERLEAVE transfer (R366). -/
def State.elem (s : State) (n : Nat) : Nat := 2 ^ s.get (DMA_C_MODE_ESIZE n)
def State.nch (s : State) (n : Nat) : Nat := s.get (DMA_C_MODE_NCH n)
def State.records (s : State) (n : Nat) : Nat := s.get (DMA_C_LEN_LEN n) / (s.nch n * s.elem n)

/-- Whether every byte of a range lies where MOTION may read or write; a host channel's in the host area (R361, R362). -/
def rangeOk (host write : Bool) (a n : Nat) : Bool :=
  let first := a
  let last := a + n - 1
  if host then inHostArea first && inHostArea last
  else
    inMainplate first && inMainplate last &&
      (List.range 8).all (fun b =>
        decide (b < bankOf first) || decide (bankOf last < b) ||
          (if write then mpMayWrite b mMOTION else mpMayRead b mMOTION))

/-- The bytes that a transfer's destination spans. -/
def State.dstSpan (s : State) (n : Nat) : Nat :=
  if s.get (DMA_C_MODE_MODE n) = 1 then
    (s.nch n - 1) * s.get (DMA_C_STRIDE_STRIDE n) + s.records n * s.elem n
  else s.get (DMA_C_LEN_LEN n)

/-- Whether length and alignment suit the mode (R362, R366, R367). -/
def State.dmaShape (s : State) (n : Nat) : Bool :=
  let len := s.get (DMA_C_LEN_LEN n)
  let src := s.get (DMA_C_SRC_SRC n)
  let dst := s.get (DMA_C_DST_DST n)
  let mode := s.get (DMA_C_MODE_MODE n)
  if mode = 0 then true
  else if mode = 1 then
    let e := s.elem n
    let c := s.nch n
    let st := s.get (DMA_C_STRIDE_STRIDE n)
    decide (e ≤ 16) && decide (1 ≤ c) && decide (c ≤ 128) && decide (len % (c * e) = 0) && decide (src % e = 0) &&
      decide (dst % e = 0) && decide (st % e = 0) && decide (s.records n * e ≤ st)
  else if mode = 2 then decide (len % 64 = 0) && decide (src % 16 = 0) && decide (dst % 16 = 0)
  else false

/-- A channel that runs while MOTION is cut off stops with ERR 5 (R359). -/
def State.stopIfCut (s : State) (n : Nat) : State :=
  let st := s.get (DMA_C_STAT_STATE n)
  if s.bitOf ARB_CUTOFF_MASTER mMOTION ∧ (st = 1 ∨ st = 2 ∨ st = 4) then s.dmaError n 5 else s

/-- START takes effect on a channel (R362). -/
def State.dmaStart (s : State) (n : Nat) : State :=
  let st := s.get (DMA_C_STAT_STATE n)
  let len := s.get (DMA_C_LEN_LEN n)
  let host := decide (12 ≤ n)
  let ok := (st == 0 || st == 5 || st == 6 || st == 7) && decide (len ≠ 0) && s.dmaShape n &&
    rangeOk host false (s.get (DMA_C_SRC_SRC n)) len && rangeOk host true (s.get (DMA_C_DST_DST n)) (s.dstSpan n)
  if ok then
    let t := ((s.wrN (A_DMA_C_STAT n) 0).wrN (A_DMA_C_BEAT n) (s.now % 2 ^ 32)).put (DMA_C_REMAIN_REMAIN n) len
    let t := (t.wrN (A_DMA_C_CUR_SRC n) (s.get (DMA_C_SRC_SRC n))).wrN (A_DMA_C_CUR_DST n) (s.get (DMA_C_DST_DST n))
    let t := (t.updDma n (fun _ => { start := s.now })).dmaSet n (if t.isSet (DMA_C_CTRL_PAUSE n) then 3 else 1)
    t.stopIfCut n
  else s.dmaError n 1

/-- A channel stops reading (R368): its read request is withdrawn, and a block of BITPLANE that is read in part is read again. -/
def State.stopReads (s : State) (n : Nat) : State :=
  let t := s.updMp (fun m => { m with reqs := m.reqs.filter (fun r => !(r.chan == some n && !r.acc.write)) })
  let t := t.wrN (A_DMA_C_CUR_SRC n) (t.get (DMA_C_CUR_SRC_CUR_SRC n) - (t.dma n).part.length)
  t.updDma n (fun d => { d with part := [], wr := !d.buf.isEmpty })

/-- A channel that has written every byte read stops reading: PAUSED, or ABORTED (R368, R369). -/
def State.dmaDrained (s : State) (n : Nat) : State :=
  if s.get (DMA_C_REMAIN_REMAIN n) = 0 then s.dmaSet n 4
  else if (s.dma n).abort.isSome then (s.dmaSet n 7).putBit DMA_EVENTS_DONE n true
  else s.dmaSet n 3

/-- PAUSE = 1 takes effect (R368). -/
def State.dmaPause (s : State) (n : Nat) : State :=
  let t := s.put (DMA_C_CTRL_PAUSE n) 1
  if t.get (DMA_C_STAT_STATE n) = 1 then
    let t := (t.dmaSet n 2).stopReads n
    if (t.dma n).buf.isEmpty then t.dmaDrained n else t
  else t

/-- ABORT takes effect (R369, R30): the channel goes on in its abort beat, whose read-back still wins. -/
def State.dmaAbort (s : State) (n : Nat) : State :=
  let st := s.get (DMA_C_STAT_STATE n)
  if st = 5 then s.set1 (DMA_C_STAT_ABORT_LATE n)
  else if 1 ≤ st ∧ st ≤ 4 then s.updDma n (fun d => { d with abort := some (d.abort.getD s.now) })
  else s

/-- The end of the abort beat without a read-back that matched (R369): the channel stops reading and drains. -/
def State.dmaAborts (s : State) : State :=
  forUpTo 16 (fun n u =>
    match (u.dma n).abort with
    | some b =>
      let st := u.get (DMA_C_STAT_STATE n)
      if (b < u.now ∨ u.esc.gen ≠ 2) ∧ (st = 1 ∨ st = 2 ∨ st = 3) then
        let t := (u.stopReads n).dmaSet n 2
        if (t.dma n).buf.isEmpty then t.dmaDrained n else t
      else u
    | none => u) s

/-- The destination address of the element after `done` bytes (R366). -/
def State.elemAddr (s : State) (n done : Nat) : Nat :=
  let e := s.elem n
  let k := done / e
  s.get (DMA_C_DST_DST n) + (k % s.nch n) * s.get (DMA_C_STRIDE_STRIDE n) + (k / s.nch n) * e + done % e

/-- A 64-byte block transposed: bit i of byte 8k + j is bit k of byte 8j + i (R367). -/
def bitplane (src : List Byte) : List Byte :=
  (List.range 64).map (fun q =>
    let k := q / 8
    let j := q % 8
    BitVec.ofNat 8 ((List.range 8).foldl (fun v i =>
      if (nth src 0#8 (8 * j + i)).toNat.testBit k then v + 2 ^ i else v) 0))

/-- The bytes of a channel's buffer that its next write burst takes, and where they go (R363, R364): COPY fills words, and
only a drain or the end writes a part of one; DEINTERLEAVE writes up to 16 elements of one bank; a burst is at most 16
words. -/
def State.dmaPieces (s : State) (n : Nat) : List (Nat × Byte) :=
  let d := s.dma n
  let mode := s.get (DMA_C_MODE_MODE n)
  if mode = 1 then
    let e := s.elem n
    let whole := min (d.buf.length / e) 16 * e
    let all := (List.range whole).map (fun i => (s.elemAddr n (d.done + i), nth d.buf 0#8 i))
    all.filter (fun p => bankOf p.1 == bankOf (s.elemAddr n d.done)) |>.take whole
  else
    let a := s.get (DMA_C_CUR_DST_CUR_DST n)
    let ended := decide (s.get (DMA_C_REMAIN_REMAIN n) = d.buf.length) || s.get (DMA_C_STAT_STATE n) == 2
    let fit := (wordOf a + 256) - a
    let bank := (bankOf a + 1) * 0x200000 - (a - mainplateBase) % 0x1000000
    let avail := if ended then d.buf.length else (a + d.buf.length) / 16 * 16 - a
    (List.range (min (min avail fit) bank)).map (fun i => (a + i, nth d.buf 0#8 i))

/-- PAUSE = 0 takes effect (R368): the channel goes on from the next byte. -/
def State.dmaResume (s : State) (n : Nat) : State :=
  let t := s.put (DMA_C_CTRL_PAUSE n) 0
  let st := t.get (DMA_C_STAT_STATE n)
  if st = 3 ∨ (st = 2 ∧ (t.dma n).abort.isNone) then
    ((t.dmaSet n 1).updDma n (fun d => { d with wr := !((t.dmaSet n 1).dmaPieces n).isEmpty })).stopIfCut n
  else t

/-- A write of DMA.Cn_CTRL (R362, R368, R369): ABORT governs a PAUSE of the same beat. -/
def State.dmaCtrl (s : State) (n w : Nat) : State :=
  let pause := w.testBit 1
  let t := if w.testBit 0 then (s.put (DMA_C_CTRL_PAUSE n) (if pause then 1 else 0)).dmaStart n else s
  if w.testBit 2 then (t.put (DMA_C_CTRL_PAUSE n) (if pause then 1 else 0)).dmaAbort n
  else if pause then t.dmaPause n
  else t.dmaResume n

/-- Whether a channel has a burst to make, and the access of that burst (R363). -/
def State.dmaNext (s : State) (n : Nat) : Option MpAccess :=
  let d := s.dma n
  let st := s.get (DMA_C_STAT_STATE n)
  if st ≠ 1 ∧ st ≠ 2 then none
  else if d.wr then
    match s.dmaPieces n with
    | [] => none
    | p :: t => some { off := ramOff p.1, write := true, words := 0, data := (p :: t).map (fun q => q.2) }
  else if st = 1 then
    let a := s.get (DMA_C_CUR_SRC_CUR_SRC n)
    let left := s.get (DMA_C_REMAIN_REMAIN n) - d.buf.length - d.part.length
    if left = 0 then none
    else
      let w := (a + left + 15) / 16 - a / 16
      let bank := 0x20000 - a / 16 % 0x20000
      some { off := ramOff (wordOf a), write := false, words := min (min w 16) bank }
  else none

/-- The next channel to serve (R363): the highest priority level with a ready channel, round-robin within it. -/
def State.dmaPick (s : State) : Option (Nat × MpAccess) :=
  let ready (n : Nat) : Option (Nat × MpAccess) :=
    match s.dmaNext n with
    | some a =>
      if s.mp.reqs.any (fun r => r.chan == some n || (r.master == mMOTION && bankOf r.acc.off == bankOf a.off)) then none
      else some (n, a)
    | none => none
  (List.range 4).findSome? (fun p =>
    (List.range 16).findSome? (fun i =>
      let n := (nth s.mp.served 0 p + 1 + i) % 16
      if s.get (DMA_C_MODE_PRIO n) = p then ready n else none))

/-- A read burst of a channel: the bytes of its range go to the funnel; a poisoned word stops it with ERR 4 (R353). -/
def State.dmaRead (s : State) (n : Nat) (a : MpAccess) : State :=
  let base := mainplateBase + a.off
  if !(s.poisoned base (16 * a.words)).isEmpty then (s.raiseMp 0xA105 DEGRADE (bankOf base) base).dmaError n 4
  else
    let cur := s.get (DMA_C_CUR_SRC_CUR_SRC n)
    let left := s.get (DMA_C_REMAIN_REMAIN n) - (s.dma n).buf.length - (s.dma n).part.length
    let k := min left (base + 16 * a.words - cur)
    let raw := (s.dma n).part ++ s.mpRead cur k
    let whole := if s.get (DMA_C_MODE_MODE n) = 2 then raw.length / 64 * 64 else raw.length
    let bs := if s.get (DMA_C_MODE_MODE n) = 2 then
        (List.range (raw.length / 64)).flatMap (fun i => bitplane ((raw.drop (64 * i)).take 64)) else raw
    let t := s.updDma n (fun d => { d with buf := d.buf ++ bs, part := raw.drop whole })
    let t := t.wrN (A_DMA_C_CUR_SRC n) (cur + k)
    t.updDma n (fun d => { d with wr := !(t.dmaPieces n).isEmpty })

/-- Store each byte of a list at its own address; store a run of bytes at the address of the first. -/
def State.storeEach (s : State) (ps : List (Nat × Byte)) : State := forEach ps (fun q u => u.mpWrite q.1 [q.2]) s
def State.storeRun (s : State) (ps : List (Nat × Byte)) : State :=
  match ps with
  | [] => s
  | p :: _ => s.mpWrite p.1 (ps.map (fun q => q.2))

/-- A write burst of a channel (R364, R366); the last byte written leads to VERIFYING (R365). -/
def State.dmaWrite (s : State) (n : Nat) : State :=
  let ps : List (Nat × Byte) := s.dmaPieces n
  let k := ps.length
  let t : State := if s.get (DMA_C_MODE_MODE n) = 1 then s.storeEach ps else s.storeRun ps
  let last := wordOf ((ps.map (fun p => p.1)).getLast?.getD 0)
  let t := t.updDma n (fun d => { d with
    buf := d.buf.drop k
    done := d.done + k
    sent := ps.filter (fun p => wordOf p.1 == last) })
  let rem := t.get (DMA_C_REMAIN_REMAIN n) - k
  let t := t.put (DMA_C_REMAIN_REMAIN n) rem
  let t := t.wrN (A_DMA_C_CUR_DST n)
    (if t.get (DMA_C_MODE_MODE n) = 1 then t.elemAddr n (t.dma n).done else t.get (DMA_C_CUR_DST_CUR_DST n) + k)
  let t := t.updDma n (fun d => { d with wr := !(t.dmaPieces n).isEmpty })
  if rem = 0 then t.dmaSet n 4
  else if t.get (DMA_C_STAT_STATE n) = 2 ∧ (t.dma n).buf.isEmpty then t.dmaDrained n
  else t

/-- While MOTION is cut off every running channel stops with ERR 5 (R359). -/
def State.dmaCut (s : State) : State :=
  forUpTo 16 (fun n u =>
    let st := u.get (DMA_C_STAT_STATE n)
    when (decide (1 ≤ st) && decide (st ≤ 4) && decide (st ≠ 3)) (fun v => v.dmaError n 5) u) s

/-! ### Meanings -/

/-- The due stamp D of a master's request in cycle t (R358): the table's, a host port's write due at cycle 900 of its beat of 15 000
cycles; an engine's is set per access by Unhorn. -/
def dueStamp (m : Nat) (write : Bool) (t due : Nat) : Nat :=
  if isEngine m then max 1 (min due 65535)
  else if isApp m ∨ m = mTAG then 6000
  else if isLegal m then 3000
  else if isHost m then (if write then max 1 (900 - t % 15000) else 80)
  else if m = mGP then 300
  else if m = mSITE then 600
  else if m = mUPDATE then 30000
  else if m = mCASE then 1200
  else max 1 (min due 65535)

/-- MAINPLATE_REQUEST (R350, R351, R356, R358, R363): a master places a request with its due stamp in cycle t. MOTION's access is the
next burst of the channel that R363 chooses, under that channel's DUE_STAMP. `acc.off` is the lane address of R19; outside the Mainplate the
access is one of that map. -/
def execMainplateRequest (m : Fin 14) (acc : MpAccess) (due t : Nat) (s : State) : Out :=
  let v := s.showBanks t
  let place (r : MpReq) (u : State) : State :=
    if u.mp.reqs.any (fun q => q.master == r.master && bankOf q.acc.off == bankOf r.acc.off) then u
    else u.updMp (fun x => { x with reqs := x.reqs ++ [r] })
  if v.bitOf ARB_CUTOFF_MASTER m then .next v
  else if m.val = mMOTION then
    match v.dmaPick with
    | some (n, a) =>
      let p := v.get (DMA_C_MODE_PRIO n)
      let u := v.updMp (fun x => { x with served := upd x.served p (fun _ => n) })
      .next (place { master := m, acc := a, due := u.get (DMA_C_MODE_DUE_STAMP n), at_ := t, chan := some n } u)
    | none => .next v
  else if laneRegion acc.off ≠ .mainplate then .next (v.laneAccess m acc.off acc.words acc.write)
  else
    let off := acc.off - mainplateBase
    let words := max 1 (min acc.words (min 16 (0x20000 - off / 16 % 0x20000)))
    let data := acc.data.take (words * 16 - off % 16)
    let a : MpAccess := { off := off, write := acc.write, words := words, data := data }
    if v.accessOk m off acc.write then
      .next (place { master := m, acc := a, due := dueStamp m acc.write t due, at_ := t } v)
    else .next (v.accessFault m (mainplateBase + off))

/-- What a granted burst does (R352, R353, R364): errors found in its words, then the read or the write. -/
def State.runBurst (s : State) (r : MpReq) (ecc : List (Fin 16 × Bool)) : State :=
  let base := mainplateBase + wordOf r.acc.off
  let s := forEach (ecc.filter (fun e => decide (e.1.val < max 1 r.acc.words))) (fun e u =>
    if e.2 then u.poisonWord r.master (base + 16 * e.1) else u.eccSingle r.master (base + 16 * e.1)) s
  match r.chan with
  | some n => if r.acc.write then s.dmaWrite n else s.dmaRead n r.acc
  | none =>
    if r.acc.write then
      let t := s.mpWrite (mainplateBase + r.acc.off) r.acc.data
      let h := le 4 (mainplateBase + r.acc.off) ++ le 2 r.acc.data.length
      (when (decide (r.master < 6)) (fun u => u.journal jMPWR r.master h r.acc.data) t).showPoison
    else forEach (s.poisoned base (16 * r.acc.words)) (fun w u => u.poisonRead r.master w) s

/-- BANK_GRANT (R356 to R358): bank b is free in cycle t and grants the eligible request with the least slack, which runs its
burst; the others lose. A lane's
write waits no longer once it is not the owner (R227). `ecc` names the words of the burst in which a read finds an error, and whether it is a double one. -/
def execBankGrant (b : Fin 8) (t : Nat) (ecc : List (Fin 16 × Bool)) (s : State) : Out :=
  let v := s.showBanks t
  let here (r : MpReq) : Bool := bankOf r.acc.off == b.val && !v.bitOf ARB_CUTOFF_MASTER r.master &&
    v.accessOk r.master r.acc.off r.acc.write && r.eligible t
  if (v.burstAt b t).isSome ∨ v.bitOf ARB_STATUS_HELD b then .next v
  else
    match leastSlack t (v.mp.reqs.filter here) with
    | none => .next v
    | some r =>
      let u := v.updMp (fun m => { m with
        reqs := (m.reqs.filter (fun q => q != r)).map (fun q => if here q then q.lose t else q)
        bursts := upd m.bursts b (fun _ => some { master := r.master, start := t, stop := t + r.acc.cycles }) })
      .next (((u.countGrant r t).runBurst r ecc).showBanks t)

/-- BACKOFF_END (R357): a losing master's backoff on a bank has run out in cycle t; it requests again. -/
def execBackoffEnd (m : Fin 14) (b : Fin 8) (t : Nat) (s : State) : Out :=
  .next ((s.showBanks t).updMp (fun x => { x with reqs := x.reqs.map (fun r =>
    if r.master == m.val && bankOf r.acc.off == b.val && decide (r.backEnd ≤ t) then { r with backEnd := 0 } else r) }))

/-- MASTER_CUTOFF (R359): in cycle t the master of bank b's burst has held its grant for more than HOLD_MAX cycles. -/
def execMasterCutoff (b : Fin 8) (t : Nat) (s : State) : Out :=
  match nth s.mp.bursts none b with
  | some x =>
    if x.start + s.get ARB_HOLD_MAX_HOLD_MAX < t ∧ !s.bitOf ARB_CUTOFF_MASTER x.master then
      let u := s.updMp (fun m => { m with bursts := upd m.bursts b (fun _ => none) })
      let u := ((u.putBit ARB_CUTOFF_MASTER x.master true).set1 ARB_EVENTS_CUTOFF).raiseMp 0xA103 DEGRADE x.master 0
      .next ((when (x.master == mMOTION) State.dmaCut u).showBanks t)
    else .next s
  | none => .next s

/-- The W1C write of ARB.CUTOFF (R359). -/
def State.clearCutoff (s : State) (w : Nat) : State :=
  s.put ARB_CUTOFF_MASTER (clearMask (s.get ARB_CUTOFF_MASTER) (w % 2 ^ 14))

/-- ARB_CUTOFF_CLEAR (R359): a write of ARB.CUTOFF from a host port. -/
def execArbCutoffClear (w : PortWrite 14) (s : State) : Out :=
  .next (s.hostSets w.port A_ARB_CUTOFF (fun u => u.clearCutoff w.val.toNat))

/-- SCRUB_PASS_END (R352, R354): the scrubber has read every word; the addresses it corrected, or found with a double error. -/
def execScrubPassEnd (found : List (Fin 0x1000000 × Bool)) (s : State) : Out :=
  let t := forEach found (fun e u =>
    if e.2 then (u.poisonWord 15 (mainplateBase + e.1)).raiseMp 0xA105 DEGRADE (bankOf (mainplateBase + e.1)) (mainplateBase + e.1)
    else u.eccSingle 15 (mainplateBase + wordOf e.1)) s
  let t := (t.put ARB_SCRUB_PASSES (t.get ARB_SCRUB_PASSES + 1)).put ARB_SCRUB_AGE 0
  .next (t.updMp (fun m => { m with scrubMono := s.mono, scrubLag := false }))

/-- SCRUB_LAG (R354): a pass has not finished after 30 min. -/
def execScrubLag (s : State) : Out :=
  if s.mp.scrubMono + 1800 ≤ s.mono ∧ !s.mp.scrubLag then
    .next ((s.updMp (fun m => { m with scrubLag := true })).raise 0xA108 NOTE srcBarrel 0 0)
  else .next s

/-- SPARE_COPY_DONE (R355 step 2): every word has been copied; double errors met are copied as poisoned. -/
def execSpareCopyDone (found : List (Fin 0x200000)) (s : State) : Out :=
  match s.mp.copying with
  | some b =>
    let t := forEach found (fun o u =>
      let a := mainplateBase + b * 0x200000 + o.val
      (u.poisonWord 15 a).raiseMp 0xA105 DEGRADE b (wordOf a)) s
    .next ((t.updMp (fun m => { m with copied := true })).put ARB_BANK_MAP_PROGRESS 100)
  | none => .next s

/-- Whether a host port may set the hack bit (R360). -/
def State.hackOk (s : State) (port : Nat) : Bool := (s.gstate == 2 && s.inService port) || s.gstate == 6

/-- A host write of ARB.CTRL that sets or clears the hack bit (R360). -/
def State.writeHack (s : State) (banks : Nat) (on : Bool) : State :=
  let t := (s.put ARB_CTRL_HACK_BANKS banks).putB ARB_CTRL_HACK on
  let held := t.hostHeld
  let own := match t.mp.copying with | some b => if t.mp.ownHack then 2 ^ b else 0 | none => 0
  let t := t.put ARB_STATUS_HELD (held ||| own)
  t.put ARB_STATUS_DRAINED (clearMask (held ||| own) (t.get ARB_STATUS_BUSY))

/-- HACK_SET (R360): HACK = 1 for the named banks from a port; refused elsewhere with 0xA003. -/
def execHackSet (port : Fin 2) (banks : BitVec 8) (s : State) : Out :=
  .next (s.hostSets port A_ARB_CTRL (fun u =>
    if u.hackOk port then u.writeHack banks.toNat true
    else (u.inc (HPD_P_ERR_REFUSED port)).raiseHost 0xA003 port A_ARB_CTRL))

/-- HACK_CLEAR (R360): HACK = 0. -/
def execHackClear (w : PortWrite 8) (s : State) : Out :=
  .next (s.hostSets w.port A_ARB_CTRL (fun u => u.writeHack w.val.toNat false))

/-- HACK_TIMEOUT (R360): a hack that the Obrik set has lasted 600 cycles; the bank is released, the switch stays due. -/
def execHackTimeout (s : State) : Out :=
  match s.mp.copying with
  | some b =>
    if s.mp.ownHack then
      .next ((s.releaseBank b).raiseMp 0xA10B NOTE b 0)
    else .next s
  | none => .next s

/-- A write of DMA.Cn_CTRL or of a descriptor: by a port for the host's channels MW_12 to MW_15, by firmware for the others (R361). -/
def State.dmaSets (s : State) (port n : Nat) (f : State → State) : State :=
  if n < 12 then f s else s.hostSets port (A_DMA_C_CTRL n) f

/-- The descriptor written with START, and START (R362). -/
def State.dmaBegin (s : State) (n : Nat) (desc : Option DmaDesc) : State :=
  match desc with
  | none => s.dmaStart n
  | some d =>
    let st := s.get (DMA_C_STAT_STATE n)
    let t := if 1 ≤ st ∧ st ≤ 4 then s
      else
        let t := (s.wrN (A_DMA_C_SRC n) d.src).wrN (A_DMA_C_DST n) d.dst
        let t := (t.put (DMA_C_LEN_LEN n) d.len).wrN (A_DMA_C_MODE n) (setBits (d.mode % 2 ^ 32) 16 1 0)
        (t.wrN (A_DMA_C_STRIDE n) d.stride).put (DMA_C_DEADLINE_DEADLINE n) d.deadline
    t.dmaStart n

/-- DMA_START (R361, R362): START takes effect on a channel, with the descriptor its registers hold or one written in the same
beat. -/
def execDmaStart (c : PortChan) (desc : Option DmaDesc) (s : State) : Out :=
  .next (s.dmaSets c.port c.n (fun u => u.dmaBegin c.n desc))

/-- DMA_PAUSE (R368): PAUSE = 1 takes effect. -/
def execDmaPause (c : PortChan) (s : State) : Out := .next (s.dmaSets c.port c.n (fun u => u.dmaPause c.n))

/-- DMA_RESUME (R368): PAUSE = 0 takes effect. -/
def execDmaResume (c : PortChan) (s : State) : Out := .next (s.dmaSets c.port c.n (fun u => u.dmaResume c.n))

/-- DMA_ABORT (R369): ABORT takes effect. -/
def execDmaAbort (c : PortChan) (s : State) : Out := .next (s.dmaSets c.port c.n (fun u => u.dmaAbort c.n))

/-- A read-back that meets a poisoned word reports it (R353). -/
def State.sentPoison (s : State) (sent : List (Nat × Byte)) : State :=
  match sent.find? (fun p => s.mp.poison.contains (wordOf p.1)) with
  | some p => s.raiseMp 0xA105 DEGRADE (bankOf p.1) (wordOf p.1)
  | none => s

/-- DMA_VERIFY (R353, R365, R371): the last destination word is read back; `flip` says that its cells do not hold what was written. A
match is the commit point; a first mismatch writes the word again. -/
def execDmaVerify (n : Fin 16) (flip : Bool) (s : State) : Out :=
  if s.get (DMA_C_STAT_STATE n) ≠ 4 then .next s
  else
    let d := s.dma n
    let bad := flip || d.sent.any (fun p =>
      s.mp.poison.contains (wordOf p.1) || Memory.byte s.ram (ramOff p.1) != p.2)
    let u := s.sentPoison d.sent
    let late := match d.abort with | some b => decide (b < s.now) | none => false
    let gone (u : State) : State := (u.dmaSet n 7).putBit DMA_EVENTS_DONE n true
    if late then .next (gone u)
    else if !bad then
      let t := (u.dmaSet n 5).putBit DMA_EVENTS_DONE n true
      .next (when d.abort.isSome (fun u => u.set1 (DMA_C_STAT_ABORT_LATE n)) t)
    else if d.abort.isSome then .next (gone u)
    else if d.retried then .next (u.dmaError n 6)
    else
      let t := u.updDma n (fun x => { x with retried := true })
      .next (if s.get (DMA_C_MODE_MODE n) = 1 then t.storeEach d.sent else t.storeRun d.sent)

/-- DMA_DEADLINE (R370): a channel in progress is not DONE, DEADLINE beats after its start beat; it runs on. -/
def execDmaDeadline (n : Fin 16) (s : State) : Out :=
  let st := s.get (DMA_C_STAT_STATE n)
  let dl := s.get (DMA_C_DEADLINE_DEADLINE n)
  if 1 ≤ st ∧ st ≤ 4 ∧ dl ≠ 0 ∧ (s.dma n).start + dl ≤ s.now ∧ !s.isSet (DMA_C_STAT_LATE n) then
    .next (((s.set1 (DMA_C_STAT_LATE n)).putBit DMA_LATE_LATE n true).raiseMp 0xA10A NOTE n 0)
  else .next s

end Sys2Proof.Machine
end

