-- ==== Sys2Proof/Machine/Outlets.lean ====
section
/-! DEFINITION. Outlets and sessions of 07_outlets.md: the pilot and proximity (R159 to R164), plug-in and unplug,
authorisation (R172 to R174), the session table (R175 to R179), the stop paths of R177, and the commands 0x0501 to
0x0508. -/
namespace Sys2Proof.Machine

/-! ### Limits -/

/-- Cable rating of an outlet in 0.1 A (R162, R164): read on a socket, from the image on a tethered outlet; a DC outlet
has none of its own. -/
def State.cableOf (s : State) (n : Nat) : Nat :=
  match s.get (OUT_CFG_KIND n) with
  | 1 => 10 * s.get (OUT_PP_CABLE n)
  | 2 => s.get (OUT_LIMIT_CABLE_INST n)
  | _ => s.get (OUT_CFG_RATING n)

/-- The lower of the outlet rating and the cable rating, in 0.1 A. -/
def State.iLim (s : State) (n : Nat) : Nat := min (s.get (OUT_CFG_RATING n)) (s.cableOf n)

/-- The allowed current of an AC outlet (R162): the lowest of the outlet rating, the cable rating and the allocation. It
takes effect at the next period start. The beat of a lowering is kept for the follow time (R214). -/
def State.setAllowed (s : State) (n : Nat) : State :=
  let i := min (s.o n).allocI (100000 * s.iLim n)
  let t := match s.sesOn n with
    | some k => when (decide (i < (s.o n).allowUa)) (fun u => u.updS k (fun y => { y with lowered := s.now })) s
    | none => s
  (t.putAllowed n i).refreshPilot n

/-! ### Session steps -/

/-- AUTH_TIMEOUT of an outlet in beats (R170): at most 55 s for high-level sessions. -/
def State.authBeats (s : State) (n : Nat) : Nat :=
  secBeats * (if s.isSet (OUT_CFG_HLC n) ∧ s.get (OUT_STATE_PROTO n) ≠ 1 then min 55 (s.o n).cfg.authTimeout
    else (s.o n).cfg.authTimeout)

/-- PLUGGED to AUTHORISING: an identity is presented (R176). -/
def State.enterAuth (s : State) (k : Nat) : State :=
  let n := s.get (SES_STATE_OUTLET k)
  let t := (s.put (SES_STATE_STATE k) AUTHORISING).set1 (OUT_EVENTS_AUTH_NEEDED n)
  t.updS k (fun x => { x with authEnd := s.now + s.authBeats n })

/-- Acceptance of a session (R173, R176): SUSPENDED in its mode. -/
def State.acceptSession (s : State) (k mode : Nat) : State :=
  let n := s.get (SES_STATE_OUTLET k)
  let t := (s.put (SES_STATE_STATE k) SUSPENDED).put (SES_STATE_AUTH k) mode
  (t.updS k (fun x => { x with preBeat := none })).refreshPilot n

/-- Name a credit account as the session's (R173). -/
def State.useAccount (s : State) (k a : Nat) : State := (s.put (SES_STATE_ACCOUNT k) a).set1 (SES_STATE_ACC_VALID k)

/-- The ID of a TOKEN session: "ACC" and two digits in ASCII (R178). -/
def accId (a : Nat) : List Byte :=
  [BitVec.ofNat 8 65, BitVec.ofNat 8 67, BitVec.ofNat 8 67, BitVec.ofNat 8 (48 + a / 10), BitVec.ofNat 8 (48 + a % 10)]

/-- Accept a TOKEN session on an account whose balance is positive (R173): the credit limit is the balance. -/
def State.acceptToken (s : State) (k a : Nat) : State :=
  let t := (s.useAccount k a).updS k (fun x => { x with ident := accId a })
  let t := t.wrN (A_SES_CREDIT k) (min 0xFFFFFFFE (s.balance a / mq).toNat)
  t.acceptSession k 5

/-- The account in OUTLET mode that lists an outlet (R173), the lowest-numbered if several do. -/
def State.outletAcct (s : State) (n : Nat) : Option Nat :=
  (List.range 16).find? (fun a => s.acctMode a == 1 && (s.get (TOK_ACCT_CFG_OUTLETS a)).testBit n)

/-- What the Obrik decides by itself for a session in PLUGGED or AUTHORISING (R173, R176): mode FREE, or TOKEN on an OUTLET account with a
positive balance. An identity bound before the plug-in goes first (R174). -/
def State.selfAccept (s : State) (k : Nat) : State :=
  let n := s.get (SES_STATE_OUTLET k)
  if s.sst k ≠ PLUGGED ∧ !(s.sst k = AUTHORISING ∧ (s.sx k).preBeat.isNone) then s
  else if s.isSet (OUT_CFG_FREE n) then s.acceptSession k 1
  else match s.outletAcct n with
    | some a => if s.balance a > 0 then s.acceptToken k a else s
    | none => s

/-- A context is allocated to an outlet in B (R161, R163, R174, R175): basic charging or the wait for SLAC, a bound
pre-authorisation, or the Obrik's own decision. -/
def State.allocate (s : State) (n : Nat) : State :=
  match s.freeContext with
  | none => s.noContext n
  | some k =>
    let hlc := s.isSet (OUT_CFG_HLC n)
    let t := s.allocAt n k
    let t := (t.put (OUT_STATE_PROTO n) (if hlc then 0 else 1)).put (SES_PROTO_PROTO k) (if hlc then 0 else 1)
    let t := when hlc (fun u => (u.put (OUT_SLAC_PHASE n) 1).updLink n (fun _ => { slacBeat := s.now })) t
    let t := match (s.o n).preauth with
      | some (mode, id, acct, end_) =>
        let u := t.updO n (fun o => { o with preauth := none })
        if s.now ≤ end_ then
          let u := (u.enterAuth k).updS k (fun x => { x with ident := id, preBeat := some s.now })
          let u := u.put (SES_STATE_AUTH k) mode
          if acct < 16 then u.useAccount k acct else u
        else u.selfAccept k
      | none => t.selfAccept k
    t.refreshPilot n

/-- Plug-in (R161): only on an outlet that takes sessions. While the former session still stops, the allocation waits for its end (R175). -/
def State.plugIn (s : State) (n : Nat) : State :=
  if !(s.usable n && s.running) then s
  else if (s.sesOn n).isNone then (s.set1 (OUT_EVENTS_PLUG n)).allocate n
  else (s.set1 (OUT_EVENTS_PLUG n)).updO n (fun o => { o with plugWait := true })

/-- A vehicle that plugged in while the former session stopped gets its context once that session has ended (R161, R175). -/
def State.plugLate (s : State) (n : Nat) : State :=
  if (s.o n).plugWait ∧ s.running ∧ s.usable n ∧ (s.sesOn n).isNone ∧ 1 ≤ (s.o n).pilot.band ∧ (s.o n).pilot.band ≤ 3 then
    (s.updO n (fun o => { o with plugWait := false })).allocate n
  else s

/-- CHARGING to SUSPENDED (R176): an AC pair opens; a DC module gets setpoint 0, and its pair opens after SUSPEND_OPEN. -/
def State.suspend (s : State) (k : Nat) : State :=
  let n := s.get (SES_STATE_OUTLET k)
  if s.sst k ≠ CHARGING then s
  else
    let t := (s.put (SES_STATE_STATE k) SUSPENDED).updO n (fun o => { o with suspBeat := s.now })
    let t := if !s.isDc n then t.requestOpen n
      else if s.energised n && !s.isSet (OUT_RETRY_HOLD n) then t.setModule n 2 (s.o n).link.vTarget 0 0 else t
    t.refreshPilot n

/-- A pilot error (R161): OUTLET_STOP with reason PILOT_ERROR, F for 4 s and steady +12 V after that. -/
def State.pilotError (s : State) (n code : Nat) : State :=
  let t := (s.raise code OUTLETSTOP s.srcOwner n 0).stopOutlet n rPILOT_ERROR code
  (t.updPilot n (fun p => { p with fEnd := some (s.now + 4 * secBeats), fSlac := false, low := 0 })).refreshPilot n

/-! ### The pilot -/

/-- The band of a high plateau in mV (R160): 0 A to 4 E, 5 INVALID. -/
def bandOf (v : Int) : Nat :=
  if 11000 ≤ v ∧ v ≤ 13000 then 0
  else if 8000 ≤ v ∧ v ≤ 10000 then 1
  else if 5000 ≤ v ∧ v ≤ 7000 then 2
  else if 2000 ≤ v ∧ v ≤ 4000 then 3
  else if -1000 ≤ v ∧ v ≤ 1000 then 4
  else 5

/-- A period begins with the drive and the duty applied last (R14, R159): its falling edge comes `duty` steps of 100 ns later. -/
def State.startPeriod (s : State) (n : Nat) : State :=
  (s.updPilot n (fun p => { p with duty := if p.setDrive = 1 then p.setDuty else 0 })).put (OUT_STATE_DRIVE n) (s.o n).pilot.setDrive

/-- PILOT_PERIOD_START (R159, R160): the plateaus in mV and the duty in 0.01 % measured in the period that ends, then the
commanded drive starts. Nothing is judged while the Obrik itself drives F or high impedance. A low plateau out of its
band in PWM for 3 periods is a pilot error (R161). -/
def execPilotPeriodStart (n : Fin 12) (vHigh vLow : Int) (duty : Nat) (s : State) : Out :=
  if s.esc.gen = 2 ∧ (s.now + 40 - 3 * n.val) % 40 = 0 ∧ !s.isAbsent n then
    let d := s.get (OUT_STATE_DRIVE n)
    let t := (s.puti (OUT_PILOT_V_V_HIGH n) (satI 16 vHigh)).puti (OUT_PILOT_V_V_LOW n) (if d = 1 then satI 16 vLow else 0)
    let t := t.putSat (OUT_PILOT_DUTY_MEAS n) duty
    let p := (s.o n).pilot
    let b := bandOf vHigh
    let t :=
      if d ≥ 2 then t.updPilot n (fun p => { p with cand := 6, cnt := 0, low := 0, anew := true })
      else t.updPilot n (fun q => { q with
        cand := b
        cnt := if b = p.cand then p.cnt + 1 else 1
        low := if d = 1 ∧ !(decide (-13000 ≤ vLow) && decide (vLow ≤ -11000)) then p.low + 1 else 0 })
    let t := when (decide ((t.o n).pilot.low ≥ 3) && t.running) (fun u => u.pilotError n 0x5102) t
    .next (t.startPeriod n)
  else if s.esc.gen = 2 ∧ (s.now + 40 - 3 * n.val) % 40 = 0 then .next (s.startPeriod n)
  else .next s

/-- The session on an outlet whose vehicle leaves C or D (R161, R176, R177): a charging session is suspended and its pair
opened; a stopping one goes on to the opening. -/
def State.leaveC (s : State) (n : Nat) : State :=
  match s.sesOn n with
  | none => s
  | some k =>
    let x := s.sx k
    if s.sst k = CHARGING then ((s.suspend k).requestOpen n)
    else if s.sst k = SUSPENDED then (s.dropClose n).requestOpen n
    else if s.sst k = STOPPING ∧ x.path = 1 then s.requestOpen n
    else if s.sst k = STOPPING ∧ x.path = 2 ∧ (s.o n).link.stopAnswered then
      if s.isDc n then (s.updS k (fun y => { y with path := 3, stopBeat := s.now })).moduleOff n else s.requestOpen n
    else s

/-- Act on a recognised pilot state (R161). INVALID is shown; its effect comes after 100 periods (log entry 18). DESIGN CHOICE (log entry
153): a change from C to D with VENT = 0 while the session charges leaves it in CHARGING with the drive at steady +12 V. -/
def State.recognise (s : State) (n st : Nat) : State :=
  let old := (s.o n).pilot.band
  let t := (s.put (OUT_STATE_PILOT_ST n) st).set1 (OUT_EVENTS_PILOT_CHG n)
  if st ≥ 5 then t
  else
    let t := t.updPilot n (fun p => { p with band := st, anew := false, bBeat := if st = 1 then s.now else p.bBeat })
    if st = 4 then t.pilotError n 0x5103
    else if st = 0 then
      let u := when (decide (1 ≤ old) && decide (old ≤ 3)) (fun v => v.set1 (OUT_EVENTS_UNPLUG n)) t
      let u := match u.sesOn n with
        | some k => u.stopSession k rUNPLUG 0 true
        | none => u
      ((u.clr (OUT_STATE_NO_CONTEXT n)).updO n (fun o => { o with plugWait := false })).refreshPilot n
    else
      let u := when (decide (old = 0)) (fun v => v.plugIn n) t
      let u := when (decide (st = 1) && decide (2 ≤ old)) (fun v => v.leaveC n) u
      let u := when (decide (2 ≤ st)) (fun v => v.updLink n (fun l => { l with cpEnd := none })) u
      u.refreshPilot n

/-- PILOT_STATE_RECOGNISED (R160): three consecutive periods in the same band. The state that stood before the Obrik drove F is recognised
anew (R166). -/
def execPilotStateRecognised (n : Fin 12) (s : State) : Out :=
  let p := (s.o n).pilot
  if s.running ∧ 3 ≤ p.cnt ∧ p.cand ≤ 5 ∧ p.cand ≠ s.get (OUT_STATE_PILOT_ST n) then .next (s.recognise n p.cand)
  else if s.running ∧ 3 ≤ p.cnt ∧ p.cand ≤ 4 ∧ p.anew then
    .next (s.updPilot n (fun q => { q with anew := false, bBeat := if q.cand = 1 then s.now else q.bBeat }))
  else .next s

/-- DEFERRED_ALLOCATION (R175): a context is free and the outlet still waits in B. -/
def execDeferredAllocation (n : Fin 12) (s : State) : Out :=
  if s.running ∧ s.isSet (OUT_STATE_NO_CONTEXT n) ∧ (s.o n).pilot.band = 1 ∧ s.freeContext.isSome ∧ s.usable n then
    .next (s.allocate n)
  else .next s

/-- PILOT_INVALID (R161): INVALID for 100 consecutive periods. -/
def execPilotInvalid (n : Fin 12) (s : State) : Out :=
  let p := (s.o n).pilot
  if s.running ∧ p.cand = 5 ∧ 100 ≤ p.cnt then
    .next ((s.pilotError n 0x5101).updPilot n (fun q => { q with cnt := 0 }))
  else .next s

/-- PILOT_F_HOLD_END (R161, R167): after 4 s of state F the drive returns, to 5 % where SLAC asked for it. -/
def execPilotFHoldEnd (n : Fin 12) (s : State) : Out :=
  match (s.o n).pilot.fEnd with
  | some b =>
    if b ≤ s.now then
      let slac := (s.o n).pilot.fSlac
      let t := s.updPilot n (fun p => { p with fEnd := none, fSlac := false })
      let t := when slac (fun u => (u.put (OUT_SLAC_PHASE n) 1).updLink n (fun l => { l with slacBeat := s.now })) t
      .next (t.refreshPilot n)
    else .next s
  | none => .next s

/-! ### Proximity -/

/-- Class of a resistance in Ω (R164): 0 no plug, 1 to 4 the ratings 13, 20, 32 and 63 A, 5 invalid. -/
def ppClass (r : Nat) : Nat :=
  if 4500 ≤ r then 0
  else if 2700 ≤ r then 5
  else if 1100 ≤ r then 1
  else if 440 ≤ r then 2
  else if 160 ≤ r then 3
  else if 60 ≤ r then 4
  else 5

/-- The rating of a class in A. -/
def ppAmps (c : Nat) : Nat := if c = 1 then 13 else if c = 2 then 20 else if c = 3 then 32 else if c = 4 then 63 else 0

/-- A charging AC session whose allowed current has fallen below 6 A is suspended (R162). -/
def State.suspendLow (s : State) (n : Nat) : State :=
  match s.sesOn n with
  | some k => if !s.isDc n ∧ (s.o n).allowUa < 6000000 then s.suspend k else s
  | none => s

/-- PROXIMITY_MEASURE (R164): one reading in Ω, every 40 beats; a band is accepted after 3 equal ones. A tethered outlet's
contact is not read (R157); in the setting position none is evaluated (R44). -/
def execProximityMeasure (n : Fin 12) (r : Nat) (s : State) : Out :=
  if s.settingPos then .next s
  else if s.get (OUT_CFG_KIND n) = 1 ∨ s.isDc n then
    let c := if s.isDc n ∧ 1 ≤ ppClass r ∧ ppClass r ≤ 4 then 1 else ppClass r
    let p := (s.o n).prox
    let cnt := if c = p.cand then p.cnt + 1 else 1
    let t := s.put (OUT_PP_R_PP n) (if 4500 ≤ r then 0xFFFF else r)
    let t := t.updO n (fun o => { o with prox := { p with
      cand := c
      cnt := cnt
      inv := if c = 5 then p.inv + 1 else 0
      accepted := if 3 ≤ cnt then c else p.accepted } })
    if cnt < 3 then .next t
    else
      let t := (t.putB (OUT_PP_VALID n) (c != 5)).put (OUT_PP_CABLE n) (if s.isDc n then 0 else ppAmps c)
      .next (if s.isDc n ∨ c = p.accepted then t else (t.setAllowed n).suspendLow n)
  else .next s

/-- PP_INVALID (R164): an invalid reading has lasted 100 ms. -/
def execPpInvalid (n : Fin 12) (s : State) : Out :=
  if s.running ∧ 100 ≤ (s.o n).prox.inv then
    let t := s.updO n (fun o => { o with prox := { o.prox with inv := 0 } })
    .next (((t.raise 0x5104 OUTLETSTOP t.srcOwner n 0).stopOutlet n rPILOT_ERROR 0x5104).refreshPilot n)
  else .next s

/-! ### Deadlines -/

/-- AUTH_TIMEOUT (R170, R176) of a session. -/
def execAuthTimeout (k : Fin 128) (s : State) : Out :=
  if s.running ∧ s.sst k = AUTHORISING ∧ (s.sx k).preBeat.isNone ∧ (s.sx k).authEnd ≤ s.now then .next (s.refuseSession k rAUTH_TIMEOUT)
  else .next s

/-- PREAUTH_EXPIRY (R174). -/
def execPreauthExpiry (n : Fin 12) (s : State) : Out :=
  match (s.o n).preauth with
  | some p => if p.2.2.2 < s.now then .next (s.updO n (fun o => { o with preauth := none })) else .next s
  | none => .next s

/-- SUSPEND_OPEN_EXPIRY (R176): a suspended DC session's pair opens. -/
def execSuspendOpenExpiry (n : Fin 12) (s : State) : Out :=
  match s.sesOn n with
  | some k =>
    if s.running ∧ s.isDc n ∧ s.sst k = SUSPENDED ∧ s.energised n ∧ (s.o n).suspBeat + (s.o n).cfg.suspendOpen * secBeats ≤ s.now then
      .next ((s.moduleOff n).requestOpen n)
    else .next s
  | none => .next s

/-- The forced opening under load of step 2′ (R177). -/
def State.stopLate (s : State) (n : Nat) : State :=
  ((s.set1 (OUT_EVENTS_STOP_LATE n)).raise 0x510D NOTE s.srcOwner n 0).requestOpen n

/-- STOP_LATE (R177): 3 s after a basic stop the vehicle is still in C or D. -/
def execStopLate (n : Fin 12) (s : State) : Out :=
  match s.sesOn n with
  | some k =>
    let x := s.sx k
    if s.running ∧ s.sst k = STOPPING ∧ x.path = 1 ∧ !x.committed ∧ !(s.o n).prot.openReq ∧ x.stopBeat + 3 * secBeats ≤ s.now then
      .next (s.stopLate n)
    else .next s
  | none => .next s

/-- V2G_STOP_TIMEOUT (R177): 10 s after a V2G stop: steady +12 V, then AC basic step 2′ or DC step 3. -/
def execV2gStopTimeout (n : Fin 12) (s : State) : Out :=
  match s.sesOn n with
  | some k =>
    let x := s.sx k
    if s.running ∧ s.sst k = STOPPING ∧ x.path = 2 ∧ !x.committed ∧ x.stopBeat + 10 * secBeats ≤ s.now then
      let t := (s.updS k (fun y => { y with plain := true })).drive12 n
      .next (if s.isDc n then (t.updS k (fun y => { y with path := 3, stopBeat := s.now })).moduleOff n
        else (t.updS k (fun y => { y with path := 1 })).stopLate n)
    else .next s
  | none => .next s

/-- The current of a DC outlet's meter in 2^-40 A, the last corrected sample. -/
def State.dcCurrent (s : State) (n : Nat) : Int :=
  nth (s.chn (nth (s.met (s.meterOf n)).iCh 0 0)).corr 0 0

/-- DC_STOP_OPEN (R177 step 3): the DC meter reads below 5 A, or 1 s has passed. -/
def execDcStopOpen (n : Fin 12) (s : State) : Out :=
  match s.sesOn n with
  | some k =>
    let x := s.sx k
    if s.running ∧ s.sst k = STOPPING ∧ x.path = 3 ∧ !x.committed ∧ s.energised n ∧
        ((s.dcCurrent n).natAbs < 5 * 2 ^ 40 ∨ x.stopBeat + secBeats ≤ s.now) then .next (s.requestOpen n)
    else .next s
  | none => .next s

/-! ### Commands -/

/-- The limits of SES_LIMITS from an argument index (R172): PMAX, PMIN, requested energy, departure, V2G permission, credit
limit. -/
def State.setLimits (s : State) (k : Nat) (c : Cmd) (off : Nat) : State :=
  let a (i : Nat) : Nat := ofLe ((c.args.drop (off + 4 * i)).take 4)
  let e := min 0xFFFF (a 2)
  let t := ((s.putSat (SES_POWER_PMAX k) (a 0)).put (SES_POWER_PMIN k) (a 1)).updS k (fun x => { x with eHost := e })
  let t := (t.put (SES_TARGET_E_REQ k) (min e (t.sx k).eVeh)).putSat (SES_TARGET_DEPART k) (a 3)
  (t.putB (SES_STATE_V2G_OK k) (a 4 == 1)).wrN (A_SES_CREDIT k) (a 5)

/-- Whether a host decision may name a mode with an account (R173). -/
def State.modeOk (s : State) (n mode acct : Nat) : Bool :=
  if mode = 1 then s.isSet (OUT_CFG_FREE n)
  else if mode = 5 then
    decide (acct < 16) &&
      (s.acctMode acct == 2 || (s.acctMode acct == 1 && (s.get (TOK_ACCT_CFG_OUTLETS acct)).testBit n))
  else decide (2 ≤ mode) && decide (mode ≤ 4) && (decide (acct ≥ 16) || s.acctMode acct == 2)

/-- SES_AUTHORISE, 0x0501 (R172, R173, R176, R184): session, decision, mode, ID, account, programme, priority, limits. A CONTRACT session
keeps the eMAID that the vehicle presented. DESIGN CHOICE (log entry 153): REFUSE ends a session in PLUGGED as it does one in AUTHORISING. -/
def execSesAuthorise (mb : Fin 8) (s : State) : Out :=
  .next (s.command mb 0x0501 .running false (fun c s =>
    let k := c.u32 0
    let d := c.u32 1
    let mode := c.u32 2
    let id := c.str 12
    let off := c.strEnd 12
    let a (i : Nat) : Nat := ofLe ((c.args.drop (off + 4 * i)).take 4)
    let n := s.get (SES_STATE_OUTLET k)
    State.ownerActs n (fun s =>
    if k ≥ 128 ∨ d > 2 then s.reply c stBAD_ARG 0
    else if (s.sst k ≠ PLUGGED ∧ s.sst k ≠ AUTHORISING) ∨ (s.sst k = AUTHORISING ∧ (s.sx k).authEnd ≤ s.now) then
      s.reply c stREFUSED_STATE 0
    else if d = 0 then (if s.sst k = PLUGGED then s.enterAuth k else s).reply c stOK 0
    else if d = 2 then (s.refuseSession k rREFUSED).reply c stOK 0
    else if !s.modeOk n mode (a 0) || id.length > 32 || a 1 > 7 || a 2 > 3 then s.reply c stBAD_ARG 0
    else if mode = 4 ∧ !(s.o n).link.contract then s.reply c stREFUSED_STATE 0
    else if mode = 5 ∧ s.balance (a 0) ≤ 0 then s.reply c stREFUSED_STATE 0
    else
      let t := ((s.put (SES_STATE_PROG k) (a 1)).put (SES_STATE_PRIO k) (a 2)).setLimits k c (off + 12)
      let t := t.updS k (fun x => { x with ident := if mode = 4 then x.ident else id })
      let t := if mode = 5 then t.acceptToken k (a 0)
        else (if a 0 < 16 then t.useAccount k (a 0) else t).acceptSession k mode
      t.reply c stOK 0) s))

/-- SES_PREAUTH, 0x0502 (R174): outlet, mode, ID, account, validity in s. CONTRACT needs a verified chain, which no vehicle has presented
before its plug-in (R173; log entry 137). -/
def execSesPreauth (mb : Fin 8) (s : State) : Out :=
  .next (s.command mb 0x0502 .running false (fun c s =>
    let n := c.u32 0
    let mode := c.u32 1
    let id := c.str 8
    let off := c.strEnd 8
    let a (i : Nat) : Nat := ofLe ((c.args.drop (off + 4 * i)).take 4)
    if n ≥ 12 ∨ mode = 4 ∨ !s.modeOk n mode (a 0) ∨ id.length > 32 ∨ a 1 < 10 ∨ a 1 > 600 then s.reply c stBAD_ARG 0
    else (s.updO n (fun o => { o with preauth := some (mode, id, a 0, s.now + a 1 * secBeats) })).reply c stOK 0))

/-- SES_LIMITS, 0x0503 (R172): placement reads the limits from its next round. -/
def execSesLimits (mb : Fin 8) (s : State) : Out :=
  .next (s.command mb 0x0503 .running false (fun c s =>
    let k := c.u32 0
    if k ≥ 128 then s.reply c stBAD_ARG 0
    else if s.sst k < AUTHORISING ∨ s.sst k > SUSPENDED then s.reply c stREFUSED_STATE 0
    else (s.setLimits k c 4).reply c stOK 0))

/-- SES_STOP, 0x0504 (R177, R184): answered OK at ENDED. -/
def execSesStop (mb : Fin 8) (s : State) : Out :=
  .next (s.command mb 0x0504 .running false (fun c s =>
    let k := c.u32 0
    let wait (u : State) : State := u.updS k (fun x => { x with stopCmd := some { port := c.port, seq := c.seq } })
    let n := s.get (SES_STATE_OUTLET k)
    if k ≥ 128 then s.reply c stBAD_ARG 0
    else if PLUGGED ≤ s.sst k ∧ s.sst k ≤ SUSPENDED then
      State.ownerActs n (fun s => ((wait s).stopSession k rHOST_STOP 0 false).refreshPilot n) s
    else if s.sst k = STOPPING ∧ s.get (SES_STATE_REASON k) = rUNPLUG ∧ (s.sx k).stopBeat = s.now then wait s
    else if s.sst k = ENDED ∧ s.get (SES_STATE_REASON k) = rUNPLUG ∧ (s.sx k).stopBeat = s.now then s.reply c stOK 0
    else s.reply c stREFUSED_STATE 0))

/-- The session that a SES_STOP of a port and sequence number stops. -/
def State.stoppedBy (s : State) (r : CmdRef) : Option Nat :=
  (List.range 128).find? (fun k => (s.sx k).stopCmd == some r && s.sst k == STOPPING)

/-- Withdraw a stop before its commit point (R177): the session returns to CHARGING, or to SUSPENDED where the pilot or the vehicle's
requests no longer ask for energy. A stop that has joined it since goes on in its own name. -/
def State.withdrawStop (s : State) (k : Nat) : State :=
  let n := s.get (SES_STATE_OUTLET k)
  let x := s.sx k
  match x.joined with
  | some j => (s.put (SES_STATE_REASON k) j.1).updS k (fun y => { y with stopCmd := none, joined := none, endFault := j.2 })
  | none =>
  let t := (s.put (SES_STATE_STATE k) x.before).put (SES_STATE_REASON k) 0
  let t := t.updS k (fun y => { y with path := 0, plain := false, stopCmd := none, endFault := 0 })
  let t := t.updLink n (fun l => { l with notifyStop := false, stopAnswered := false })
  let t := t.updProt n (fun p => { p with openReq := false })
  let t := if t.vehAsks n then t else if s.isDc n then t.suspend k else (t.suspend k).requestOpen n
  t.refreshPilot n

/-- SES_STOP_ABORT, 0x0505 (R30, R177): before the opening is applied the stop is withdrawn. -/
def execSesStopAbort (mb : Fin 8) (s : State) : Out :=
  .next (s.command mb 0x0505 .any false (fun c s =>
    let r : CmdRef := { port := c.port, seq := c.u32 0 }
    match s.stoppedBy r with
    | some k =>
      if (s.sx k).committed ∨ (s.sx k).path = 4 then s.abortLate c r
      else ((State.ownerActs (s.get (SES_STATE_OUTLET k)) (fun u => u.withdrawStop k) s).dropCmd r.port r.seq).reply c stOK 0
    | none => s.abortLate c r))

/-- SES_COLLECT, 0x0506 (R179). -/
def execSesCollect (mb : Fin 8) (s : State) : Out :=
  .next (s.command mb 0x0506 .any false (fun c s =>
    let k := c.u32 0
    if k ≥ 128 ∨ !argRangeOk (c.u32 1) 576 then s.reply c stBAD_ARG 0
    else if s.sst k ≠ ENDED ∧ s.sst k ≠ BILLED then s.reply c stREFUSED_STATE 0
    else ((s.laneWrite (c.u32 1) (s.sx k).record).updS k (fun x => { x with collected := true })).reply c stOK 0))

/-- SES_ACK, 0x0507 (R179): only in ENDED, after a SES_COLLECT, with the matching SERIAL. -/
def execSesAck (mb : Fin 8) (s : State) : Out :=
  .next (s.command mb 0x0507 .any false (fun c s =>
    let k := c.u32 0
    if k ≥ 128 then s.reply c stBAD_ARG 0
    else if s.sst k ≠ ENDED ∨ !(s.sx k).collected then s.reply c stREFUSED_STATE 0
    else if c.u32 1 ≠ s.rdN (A_SES_SERIAL k) then s.reply c stBAD_ARG 0
    else
      let n := s.get (SES_STATE_OUTLET k)
      let t := { s with outs := { s.outs with billCount := s.outs.billCount + 1 } }
      let t := (t.put (SES_STATE_STATE k) BILLED).updS k (fun x => { x with billed := t.outs.billCount })
      (t.wr128 (A_OUT_ENDED n) (natBit (t.rd128 (A_OUT_ENDED n)) k false)).reply c stOK 0))

/-- OUT_ENABLE, 0x0508: a disabled outlet drives F (R210). -/
def execOutEnable (mb : Fin 8) (s : State) : Out :=
  .next (s.command mb 0x0508 .running false (fun c s =>
    let n := c.u32 0
    if n ≥ 12 ∨ c.u32 1 > 1 then s.reply c stBAD_ARG 0
    else if (match s.sesOn n with | some k => decide (s.sst k = CHARGING) | none => false) then s.reply c stREFUSED_STATE 0
    else (State.ownerActs n (fun u => (u.putB (OUT_STATE_DISABLED n) (c.u32 1 == 0)).refreshPilot n) s).reply c stOK 0))

end Sys2Proof.Machine
end

