-- ==== Sys2Proof/Machine/V2g.lean ====
section
/-! DEFINITION. SLAC and V2G of 07_outlets.md (R163, R165 to R172, R188 steps 4 to 6): the matching, the timers of R170,
what each request of the vehicle does, and the commands 0x0509 and 0x050A. -/
namespace Sys2Proof.Machine

/-! ### SLAC -/

/-- TT_EVSE_SLAC_init of an outlet in beats (R167). -/
def State.slacBeats (s : State) (n : Nat) : Nat := secBeats * (s.o n).cfg.slacInit

/-- Whether an outlet takes part in SLAC: HLC, with a live session that is not on basic charging, while CLK_GP runs (R417). -/
def State.slacOpen (s : State) (n : Nat) : Bool :=
  s.isSet (OUT_CFG_HLC n) && (s.sesOn n).isSome && s.get (OUT_STATE_PROTO n) != 1 && !s.bitOf CLK_STATUS_LOST 6

/-- Whether an outlet may answer a CM_SLAC_PARAM.REQ (R166): state B was recognised within TT_EVSE_SLAC_init. -/
def State.slacQualifies (s : State) (n : Nat) : Bool :=
  s.slacOpen n && decide (s.now ≤ (s.o n).pilot.bBeat + s.slacBeats n) && s.get (OUT_SLAC_PHASE n) != 0

/-- The entry with the lowest attenuation of those heard. -/
def lowestAtten : List (Nat × Nat) → Option (Nat × Nat)
  | [] => none
  | p :: t => match lowestAtten t with
    | none => some p
    | some q => if q.2 < p.2 then some q else some p

/-- The outlet that answers a CM_SLAC_PARAM.REQ heard on these outlets with these mean attenuations in dB (R166). -/
def State.slacAnswer (s : State) (heard : List (Nat × Nat)) : Option Nat :=
  match heard with
  | [p] => if s.slacOpen p.1 then some p.1 else none
  | _ =>
    let q := heard.filter (fun p => s.slacQualifies p.1)
    match q with
    | [] => none
    | [p] => some p.1
    | _ =>
      match lowestAtten q with
      | some b => if q.all (fun p => p.1 == b.1 || decide (b.2 + 3 ≤ p.2)) then some b.1 else none
      | none => none

/-- Whether an outlet decodes in this beat (R165): with a session always, without one as an admitted GP_IDLE complication. -/
def State.decodes (s : State) (n : Nat) : Bool := (s.sesOn n).isSome || (s.slices s.owner).any (fun c => c.kind == kGP_IDLE)

/-- SLAC_PARAM_REQ (R165, R166): the outlets on which a RunID is heard, each with its mean attenuation in dB, as far as they decode. A
request that no outlet answers counts as a refusal on each of them. -/
def execSlacParamReq (runId : Nat) (heard : List (Fin 12 × Nat)) (s : State) : Out :=
  let h := (heard.map (fun p => (p.1.val, p.2))).filter (fun p => s.decodes p.1)
  if !s.running then .next s
  else match s.slacAnswer h with
    | some n =>
      let t := s.put (OUT_SLAC_PHASE n) 2
      .next (t.updLink n (fun l => { l with runId := runId, sounds := 0, attenSum := 0, slacOut := some (.paramCnf runId) }))
    | none => .next (forEach h (fun p u => u.inc (OUT_SLAC_TRIES p.1)) s)

/-- MNBC_SOUND (R165): a sound of the matching in progress enters the attenuation characterisation, which CM_ATTEN_CHAR.IND reports. -/
def execMnbcSound (n : Fin 12) (runId atten : Nat) (s : State) : Out :=
  let l := (s.o n).link
  if s.get (OUT_SLAC_PHASE n) = 2 ∧ l.runId = runId then
    let mean := (l.attenSum + atten) / (l.sounds + 1)
    let t := s.updLink n (fun x => { x with
      sounds := x.sounds + 1, attenSum := x.attenSum + atten, slacOut := some (.attenChar runId mean) })
    .next (t.putSat (OUT_SLAC_ATTEN n) mean)
  else .next s

/-- SLAC_MATCH (R165, R170): the match is made with a fresh network membership key, a free value; none is made while the
DRBG has stopped (R385). The confirmation leaves once the standby has the draw (R229). -/
def execSlacMatch (n : Fin 12) (runId : Nat) (s : State) : Out :=
  if s.get (OUT_SLAC_PHASE n) = 2 ∧ (s.o n).link.runId = runId ∧ s.slacOpen n ∧ s.drbgOk then
    let d := s.drbg 5
    let t := (d.2.put (OUT_SLAC_PHASE n) 3).set1 (OUT_EVENTS_SLAC_DONE n)
    .next (t.updLink n (fun l => { l with
      nmk := d.1, timer := 3, deadline := s.now + 20 * secBeats, slacWait := some (.matchCnf runId d.1, s.red.jnl.iseq) }))
  else .next s

/-- SLAC or V2G set-up has failed (R163): basic charging from the next period, or the session ends with COMM. -/
def State.hlcFailed (s : State) (n : Nat) : State :=
  match s.sesOn n with
  | none => s
  | some k =>
    let t := s.updLink n (fun l => { l with timer := 0, cpEnd := none })
    if s.isSet (OUT_CFG_FALLBACK n) then
      ((t.put (OUT_STATE_PROTO n) 1).put (SES_PROTO_PROTO k) 1).refreshPilot n
    else (((t.updS k (fun x => { x with plain := true })).stopSession k rCOMM 0 false).refreshPilot n).settleStop n

/-- SLAC_TIMEOUT (R167): no match within TT_EVSE_SLAC_init: F for 4 s and 5 % again, once; then SLAC has failed. -/
def execSlacTimeout (n : Fin 12) (s : State) : Out :=
  let ph := s.get (OUT_SLAC_PHASE n)
  let l := (s.o n).link
  if s.slacOpen n ∧ (ph = 1 ∨ ph = 2) ∧ (s.o n).pilot.fEnd.isNone ∧ l.slacBeat + s.slacBeats n ≤ s.now then
    if l.failedOnce then
      let t := (s.put (OUT_SLAC_PHASE n) 4).set1 (OUT_EVENTS_SLAC_DONE n)
      .next ((t.raise 0x5106 NOTE t.srcOwner n 0).hlcFailed n)
    else
      let t := s.updLink n (fun x => { x with failedOnce := true })
      .next ((t.updPilot n (fun p => { p with fEnd := some (s.now + 4 * secBeats), fSlac := true })).refreshPilot n)
  else .next s

/-! ### Responses and timers -/

/-- A missed response bound (R170): counted in SES.Sn_PROTO.LATE, fault 0x5107. -/
def State.v2gLate (s : State) (n k : Nat) (late : Bool) : State :=
  when late (fun u => (u.inc (SES_PROTO_LATE k)).raise 0x5107 NOTE u.srcOwner n k) s

/-- A request received whole acknowledges every segment sent before it (R171; log entry 136). -/
def State.ackSegs (s : State) (n : Nat) : State := s.updLink n (fun l => { l with segs := [] })

/-- A response is sent (R170): V2G_SECC_Sequence_Timeout runs from it. DESIGN CHOICE (log entry 153): the first response ends
V2G_SECC_CommunicationSetup_Performance_Time. -/
def State.respond (s : State) (n : Nat) (ongoing : Bool) : State :=
  (s.sendSeg n .response ongoing).updLink n (fun l => { l with
    timer := 4
    deadline := s.now + 60 * secBeats
    ongoing := ongoing })

/-- The running timer of R170 of a session and its deadline beat: the one that ends first (log entry 19). -/
def State.sesTimer (s : State) (k : Nat) : Nat × Nat :=
  let n := s.get (SES_STATE_OUTLET k)
  let l := (s.o n).link
  let cand := (if s.sesLive k ∧ s.sesOn n = some k then
      (if l.timer ≠ 0 then [(l.timer, l.deadline)] else []) ++
      (match l.cpEnd with | some b => [(5, b)] | none => []) else []) ++
    (if s.sst k = AUTHORISING then [(6, (s.sx k).authEnd)] else [])
  cand.foldl (fun best p => if best.1 = 0 ∨ p.2 < best.2 then p else best) (0, 0)

/-- SDP_REQUEST (R170): an SECC discovery request; `late` when the answer missed 50 ms. -/
def execSdpRequest (n : Fin 12) (late : Bool) (s : State) : Out :=
  match s.sesOn n with
  | some k =>
    if s.get (OUT_SLAC_PHASE n) = 3 then
      .next ((s.updLink n (fun l => { l with responses := l.responses + 1 })).v2gLate n k late)
    else .next s
  | none => .next s

/-- Whether a protocol (2 DIN SPEC 70121, 3 ISO 15118-2, 4 ISO 15118-20) runs over a TLS version (0 none, 1 TLS 1.2, 2 TLS 1.3) (R4, R168;
log entry 137): DIN SPEC 70121 without TLS, ISO 15118-2 over TLS 1.2, ISO 15118-20 over TLS 1.3. -/
def protoTls (p tls : Nat) : Bool := (p == 2 && tls == 0) || (p == 3 && tls == 1) || (p == 4 && tls == 2)

/-- The protocol that answers a ranked list (R168): the first that the image enables, the outlet's kind allows and the connection
carries. -/
def State.pickProtocol (s : State) (n tls : Nat) (ranked : List Nat) : Option Nat :=
  ranked.find? (fun p => (s.o n).cfg.protos.contains p && (p == 3 || p == 4 || (p == 2 && s.isDc n)) && protoTls p tls)

/-- SUPPORTED_APP_PROTOCOL (R168): protocols in the vehicle's rank order, coded as OUT.On_STATE.PROTO. -/
def execSupportedAppProtocol (n : Fin 12) (ranked : List Nat) (late : Bool) (s : State) : Out :=
  match s.sesOn n with
  | some k =>
    if s.get (OUT_SLAC_PHASE n) = 3 ∧ s.get (OUT_STATE_PROTO n) ≠ 1 then
      let t := (s.v2gLate n k late).ackSegs n
      match s.pickProtocol n (s.get (SES_PROTO_TLS k)) ranked with
      | some p => .next (((t.put (OUT_STATE_PROTO n) p).put (SES_PROTO_PROTO k) p).respond n false)
      | none => .next ((t.sendSeg n .noProtocol false).hlcFailed n)
    else .next s
  | none => .next s

/-- V_CC of a DC outlet in 0.1 V (R188): the lower of the vehicle's maximum voltage and the outlet rating. -/
def State.vcc (s : State) (n : Nat) : Nat :=
  let o := s.o n
  if o.link.vMax = 0 then 10 * o.cfg.vRating else min o.link.vMax (10 * o.cfg.vRating)

/-- MODE PRECHARGE at a voltage in 0.1 V with 2.0 A (R188); P_LIM is what that takes (log entry 20). -/
def State.precharge (s : State) (n v : Nat) : State := s.setModule n 1 v 20 ((v * 20 + 9999) / 10000)

/-- The session proceeds to CHARGING: the close is proven (R187, R188). -/
def State.startCharging (s : State) (n k : Nat) : State :=
  let t := (s.put (SES_STATE_STATE k) CHARGING).put (OUT_CONTACT_CSTATE n) 3
  (t.updClose n (fun c => { quiet := c.quiet })).refreshPilot n

/-- What a V2G request does beside its response (R168, R172, R176, R177, R188): the new state and whether EVSEProcessing is
Ongoing. A service that the table of R168 does not give the session's protocol (Plug & Charge without a certificate or TLS, certificate
messages outside ISO 15118-2, BPT, dynamic control and renegotiation outside ISO 15118-20) has no effect. -/
def State.v2gEffect (s : State) (n k : Nat) (m : V2gMsg) : State × Bool :=
  let p := s.get (OUT_STATE_PROTO n)
  match m with
  | .sessionSetup evccid =>
    ((s.wr128 (A_SES_VID k) (ofLe (padTo 16 evccid))).updS k (fun x => { x with evcc := evccid.take 32 }), false)
  | .service bpt dynamic =>
    (s.updLink n (fun l => { l with bpt := bpt && s.isSet (OUT_CFG_BPT n) && p == 4, dynamic := dynamic && p == 4 }), false)
  | .authEim =>
    let t := if s.sst k = PLUGGED then s.enterAuth k else s
    (t, t.sst k == AUTHORISING)
  | .authPnc emaid chainOk =>
    if p = 2 ∨ s.get (SES_PROTO_TLS k) = 0 then (s, false)
    else if !chainOk then (s.raise 0x5108 NOTE s.srcOwner n 0, false)
    else
      let t := s.updLink n (fun l => { l with contract := true })
      let t := if s.sst k = PLUGGED then (t.enterAuth k).updS k (fun x => { x with ident := emaid.take 32 }) else t
      (t, t.sst k == AUTHORISING)
  | .certificate =>
    if p ≠ 3 then (s, false)
    else match (s.o n).link.certReply with
    | some _ => (s.updLink n (fun l => { l with waitsCert := false, certReply := none }), false)
    | none => ((s.updLink n (fun l => { l with waitsCert := true })).set1 (OUT_EVENTS_V2G_HOST n), true)
  | .chargeParams vMax eReq depart =>
    let t := (s.updLink n (fun l => { l with vMax := vMax })).updS k (fun x => { x with eVeh := min eReq 0xFFFF })
    ((t.put (SES_TARGET_E_REQ k) (min (t.sx k).eVeh (t.sx k).eHost)).putSat (SES_TARGET_DEPART k) depart, false)
  | .cableCheck =>
    let t := s.updLink n (fun l => { l with wantsEnergy := true, paused := false })
    if (s.o n).close.step = 5 then
      let done := decide ((s.o n).prot.isoCycles ≥ 1)
      let u := t.precharge n (s.vcc n)
      (u.updLink n (fun l => { l with isoSent := if done then s.get (OUT_ISO_STATUS n) else 3 }), !done)
    else (t, true)
  | .preCharge v =>
    if ((s.o n).close.step = 5 ∧ (s.o n).link.isoSent ≤ 1) ∨ (s.o n).close.step = 6 then
      (((s.updClose n (fun c => { c with step := 6 })).updLink n (fun l => { l with vTarget := v })).precharge n v, false)
    else (s, true)
  | .powerStart =>
    let t := s.updLink n (fun l => { l with
      wantsEnergy := true
      paused := false
      stopAnswered := false
      cpEnd := if (s.o n).pilot.band < 2 then some (s.now + 60000) else none })
    if s.isDc n ∧ (s.o n).close.step = 6 then (t.startCharging n k, false) else (t, false)
  | .current v i => (s.updLink n (fun l => { l with vTarget := v, iTarget := i }), false)
  | .powerStop =>
    let t := s.updLink n (fun l => { l with wantsEnergy := false, paused := true, stopAnswered := true })
    if s.sst k = CHARGING then (t.suspend k, false)
    else if s.sst k = STOPPING ∧ (s.o n).pilot.band = 1 then (t.leaveC n, false)
    else (t, false)
  | .renegotiate eReq depart =>
    if p ≠ 4 then (s, false)
    else
      let t := (s.updLink n (fun l => { l with renegotiated := true })).updS k (fun x => { x with eVeh := min eReq 0xFFFF })
      ((t.put (SES_TARGET_E_REQ k) (min (t.sx k).eVeh (t.sx k).eHost)).putSat (SES_TARGET_DEPART k) depart, false)
  | .sessionStop => ((s.stopSession k rVEHICLE 0 false).settleStop n, false)
  | .other => (s, false)

/-- V2G_REQUEST (R170): a request received whole; `late` when its response missed 250 ms. -/
def execV2gRequest (n : Fin 12) (m : V2gMsg) (late : Bool) (s : State) : Out :=
  match s.sesOn n with
  | some k =>
    if s.hlc n && s.sesLive k then
      let r := ((s.v2gLate n k late).ackSegs n).v2gEffect n k m
      .next (if r.1.sesOn n = some k ∧ m ≠ .sessionStop then r.1.respond n r.2 else r.1.sendSeg n .sessionStop false)
    else .next s
  | none => .next s

/-! ### TLS -/

/-- Clear an outlet's ephemeral jewel (R379). -/
def State.clearEph (s : State) (n : Nat) : State := s.setJewel (33 + n) none

/-- A handshake stops for want of a draw: the vehicle reconnects (18_keys.md, coinciding events). -/
def State.tlsStop (s : State) (n : Nat) : State :=
  let t := ((s.updLink n (fun l => { l with tls := none, tlsBeat := none })).clearEph n)
  let t := match t.sesOn n with | some k => t.put (SES_PROTO_TLS k) 0 | none => t
  t.raise 0x5108 NOTE t.srcOwner n 0

/-- What the Obrik takes of an offer (R168): for each of suite, key exchange and signature the first that the table names for the TLS
version; none without a common suite, key exchange and signature. -/
def tlsChoose (o : TlsOffer) : Option TlsChoice :=
  let suite := o.suites.find? (fun x => (x == .aes256GcmSha384) == o.tls13)
  let group := o.groups.find? (fun x => (x != .secp256r1) == o.tls13)
  let sig := o.sigs.find? (fun x => (x != .ecdsaSecp256r1Sha256) == o.tls13)
  match suite, group, sig with
  | some a, some b, some c => some { suite := a, group := b, sig := c }
  | _, _, _ => none

/-- TLS_CLIENT_HELLO (R168, R169, R379): a handshake of a version that a protocol enabled for the outlet uses, with a suite, a key exchange
and a signature of that protocol, starts with a fresh ephemeral jewel; its public-key steps, with their declared cost, are posted as
TLS_WORK. -/
def execTlsClientHello (n : Fin 12) (offer : TlsOffer) (cost : Nat) (s : State) : Out :=
  match s.sesOn n, tlsChoose offer with
  | some k, some choice =>
    if s.get (OUT_SLAC_PHASE n) = 3 ∧ !s.drbgOk then .next (s.tlsStop n)
    else if s.get (OUT_SLAC_PHASE n) = 3 ∧ (s.o n).cfg.protos.contains (if offer.tls13 then 4 else 3) then
      let d := s.drbg 6
      let t := (d.2.setJewel (33 + n) (some d.1)).updKey (fun x => { x with ephMono := upd x.ephMono n (fun _ => s.mono) })
      let t := t.updLink n (fun l => { l with tls := some choice, tlsBeat := some s.now, tlsAdmitted := false })
      let t := t.put (SES_PROTO_TLS k) (if offer.tls13 then 2 else 1)
      .next (t.postComp t.owner { kind := kTLS, cost := cost, latest := s.now + 15 * secBeats, subject := n })
    else .next s
  | _, _ => .next s

/-- Whether the public-key step of an outlet's handshake has been admitted. -/
def State.tlsAdmitted (s : State) (n : Nat) : Bool :=
  (s.o n).link.tlsAdmitted || (s.slices s.owner).any (fun c => c.kind == kTLS && c.subject == n)

/-- TLS_PK_TIMEOUT (R169): not admitted within 15 s: the connection is closed; the vehicle may reconnect. -/
def execTlsPkTimeout (n : Fin 12) (s : State) : Out :=
  match (s.o n).link.tlsBeat, s.sesOn n with
  | some b, some k =>
    if b + 15 * secBeats ≤ s.now ∧ !s.tlsAdmitted n then
      .next ((s.put (SES_PROTO_TLS k) 0).tlsStop n)
    else .next s
  | _, _ => .next s

/-! ### Expiries -/

/-- A timer of R170 has expired and the session ends with a reason. -/
def State.v2gExpire (s : State) (n timer reason : Nat) : State :=
  match s.sesOn n with
  | some k =>
    let l := (s.o n).link
    let due := if timer = 5 then (match l.cpEnd with | some b => decide (b ≤ s.now) | none => false)
      else decide (l.timer = timer) && decide (l.deadline ≤ s.now)
    if s.running && due && s.sesLive k && s.sst k != STOPPING then
      let t := s.updLink n (fun x => { x with timer := 0, cpEnd := none })
      (t.stopSession k reason 0 false).settleStop n
    else s
  | none => s

/-- COMM_SETUP_TIMEOUT (R170): 20 s from the SLAC match. -/
def execCommSetupTimeout (n : Fin 12) (s : State) : Out := .next (s.v2gExpire n 3 rCOMM)

/-- SEQUENCE_TIMEOUT (R170): 60 s from a response. -/
def execSequenceTimeout (n : Fin 12) (s : State) : Out := .next (s.v2gExpire n 4 rCOMM)

/-- CP_STATE_DETECTION_TIMEOUT (R170): 1.5 s from the PowerDelivery start response. -/
def execCpStateDetectionTimeout (n : Fin 12) (s : State) : Out := .next (s.v2gExpire n 5 rPILOT_ERROR)

/-! ### Commands -/

/-- What V2G_TRUST finds at its address (R172; the layout is log entry 136): a length, for roots the numbers of V2G, mobility-operator and
provisioning roots, at most 8 of each, and the certificates. -/
def State.trustData (s : State) (a : Nat) (roots : Bool) : Option (List Byte) :=
  let len := ofLe (s.mpRead a 4)
  if a + 4 + len > 0x40400000 then none
  else
    let bs := s.mpRead (a + 4) len
    if roots && !(decide (12 ≤ len) && (List.range 3).all (fun i => decide (ofLe ((bs.drop (4 * i)).take 4) ≤ 8))) then none else some bs

/-- V2G_TRUST, 0x0509 (R172): set roots, generate the SECC key and its CSR, install the SECC chain. `ok` says whether the
chains that the Mainplate holds verify. -/
def execV2gTrust (mb : Fin 8) (ok : Bool) (s : State) : Out :=
  .next (s.command mb 0x0509 .running false (fun c s =>
    let a := c.u32 1
    if c.u32 0 > 2 ∨ !argAddrOk a then s.reply c stBAD_ARG 0
    else if c.u32 0 = 1 ∧ !s.drbgOk then s.reply c stBUSY 0
    else if c.u32 0 = 1 then
      let d := s.drbg 7
      let bs := Config.csr d.1
      if a + bs.length > 0x40400000 then s.reply c stBAD_ARG 0
      else
        let t := (d.2.updKey (fun x => { x with mram := upd x.mram 31 (fun _ => some d.1) })).setJewel 31 (some d.1)
        ((t.set1 KEY_EVENTS_IMPORT).laneWrite a bs).reply c stOK 0
    else if !ok ∨ (c.u32 0 = 2 ∧ (s.jewel 31).isNone) then
      (s.raise 0x5108 NOTE s.srcOwner 0 0).reply c stBAD_ARG 0
    else match s.trustData a (c.u32 0 == 0) with
      | none => s.reply c stBAD_ARG 0
      | some bs =>
        let t := { s with outs := { s.outs with
          roots := if c.u32 0 = 0 then some bs else s.outs.roots
          seccChain := if c.u32 0 = 2 then some bs else s.outs.seccChain } }
        t.reply c stOK 0))

/-- V2G_CERT_REPLY, 0x050A (R172): session, address of the backend's response, or 0xFFFF_FFFF for failure (log entry 21). -/
def execV2gCertReply (mb : Fin 8) (s : State) : Out :=
  .next (s.command mb 0x050A .any false (fun c s =>
    let k := c.u32 0
    let n := s.get (SES_STATE_OUTLET k)
    if k ≥ 128 ∨ !(c.u32 1 = 0xFFFFFFFF ∨ argAddrOk (c.u32 1)) then s.reply c stBAD_ARG 0
    else if s.sesOn n ≠ some k ∨ !(s.o n).link.waitsCert then s.reply c stREFUSED_STATE 0
    else (s.updLink n (fun l => { l with waitsCert := false, certReply := some (c.u32 1) })).reply c stOK 0))

end Sys2Proof.Machine
end

