-- ==== Sys2Proof/Machine/Complications.lean ====
section
/-! DEFINITION. The end of a complication slice (R64): the harmonic records of 05_metering.md, the public-key steps of TLS
handshakes, the background self-test. -/
namespace Sys2Proof.Machine

/-- The 1 280 bytes of a harmonic record: the values in 0.1 mV and 0.1 mA, the beat of the last sample, reserved bytes up to the
record's length (log entry 54). -/
def harmonicRecord (values : List Nat) (beat : Nat) : List Byte :=
  padTo 1280 ((List.range 280).flatMap (fun i => le 4 (nth values 0 i)) ++ le 8 beat)

/-- The motion works writes the harmonic record of a meter where MTR.HARM.ADDR points, unless it is 0 (05_metering.md). -/
def State.writeHarmonic (s : State) (m : Nat) (values : List Nat) : State :=
  let a := s.get MTR_HARM_ADDR + 1280 * m
  if s.get MTR_HARM_ADDR = 0 then s
  else if inMainplate a && s.accessOk mMOTION a true then s.laneWrite a (harmonicRecord values s.now)
  else s.accessFault mMOTION a

/-- The public-key steps of a handshake are done (R169, R379): the share and the server's key of its version were used, and the
ephemeral jewel is cleared. -/
def State.tlsDone (s : State) (n : Nat) : State :=
  let old : Bool := match (s.o n).link.tls with | some x => x.group == .secp256r1 | none => true
  let t := (s.jewelUsed (33 + n)).jewelUsed (if old then 31 else 32)
  (t.updLink n (fun l => { l with tlsAdmitted := true, tlsBeat := none })).clearEph n

/-- What a completed slice delivers to the firmware that posted it. -/
def State.deliverComp (s : State) (lane : Nat) (c : Comp) (r : CompResult) : State :=
  match r with
  | .slice => if c.kind = kTLS then s.updLink c.subject (fun l => { l with tlsAdmitted := true }) else s
  | .harmonic v => if c.kind = kHARMONIC ∧ lane = s.owner ∧ c.subject < 32 then s.writeHarmonic c.subject v else s
  | .tlsEnd =>
    if c.kind = kTLS ∧ c.subject < 12 then
      s.tlsDone c.subject
    else s
  | .selfTest p f => if c.kind = kSELF_TEST ∧ lane ≠ s.owner then s.selfTestSlice p f else s

/-- COMPLICATION_DONE (R64, R66): an admitted slice completes in its window. -/
def execComplicationDone (lane : Fin 2) (kind : Fin 8) (subject : Nat) (result : CompResult) (s : State) : Out :=
  match (s.slices lane).find? (fun c => c.kind == kind.val && c.subject == subject) with
  | some c =>
    .next (State.within (fun s =>
      let t := s.setSlices lane ((s.slices lane).erase c)
      let t := when (decide (lane.val = s.owner)) (fun u => u.inc (ESC_COMP_RUN_RUN kind)) t
      t.deliverComp lane c result) s)
  | none => .next s

end Sys2Proof.Machine
end

