-- ==== Sys2Proof/Machine/Protection.lean ====
section
/-! DEFINITION. Contactors, earth fault and insulation of 08_protection.md: the close of R187 to R189, the opening and weld
proof of R190 to R193, residual current (R194 to R197), insulation (R198, R199), overcurrent and temperature (R200, R201),
holds (R202, R203), and the commands 0x0510 and 0x0511. -/
namespace Sys2Proof.Machine

/-! ### Measurements -/

/-- The corrected samples of a channel as protection uses them, newest first, in 2^-40 (R204): the last valid one for an invalid one. -/
def State.heldCorr (s : State) (c : Nat) : List Int := (s.chn c).held

/-- The last of them. -/
def State.lastCorr (s : State) (c : Nat) : Int := nth (s.heldCorr c) 0 0

/-- The last valid trimmed sample of a channel scaled to V or A, in 2^-40 (R200, R204). -/
def State.fastSample (s : State) (c : Nat) : Int := nth (s.chn c).hist 0 0 * ((s.chn c).scale : Nat)

/-- A temperature channel in 0.1 °C, averaged over its last 40 beats (R201); its scale gives °C (log entry 138). -/
def State.tempOf (s : State) (c : Nat) : Int :=
  let l := (s.heldCorr c).take 40
  roundEven (10 * sumI l) (max 1 l.length * 2 ^ 40)

/-- The two connector temperatures of a DC outlet in 0.1 °C (R201). -/
def State.tempsOf (s : State) (n : Nat) : Int × Int :=
  (s.tempOf (nth (s.o n).cfg.tempCh 0 0), s.tempOf (nth (s.o n).cfg.tempCh 0 1))

/-- Whether a magnitude in 2^-40 is below a number of units. -/
def below (v : Int) (u : Nat) : Bool := decide (v.natAbs < u * 2 ^ 40)

/-- Whether every outlet-side sample of the beat lies below 30 V (R187, R191). -/
def State.outQuiet (s : State) (n : Nat) : Bool := (s.o n).cfg.vOut.all (fun c => below (s.lastCorr c) 30)

/-- The outlet voltage and the pre-contactor voltage of a DC outlet in 2^-40 V. -/
def State.vOutDc (s : State) (n : Nat) : Int := s.lastCorr (nth (s.o n).cfg.vOut 0 0)
def State.vPreDc (s : State) (n : Nat) : Int := s.lastCorr (s.o n).cfg.vPre

/-- The site phases that feed an outlet's conductors L1, L2 and L3 (R460), 0 for none. -/
def State.phasesOf (s : State) (n : Nat) : List Nat := [s.get (OUT_PHASE_L1 n), s.get (OUT_PHASE_L2 n), s.get (OUT_PHASE_L3 n)]

/-- The supply-side check of R187 step 2: each site phase used within 0.85 to 1.10 Un over the previous cycle. -/
def State.supplyIn (s : State) (n : Nat) : Bool :=
  match s.siteMeter with
  | none => true
  | some m =>
    let un := (s.o n).cfg.un
    (s.phasesOf n).all (fun q => q == 0 ||
      (let u := s.geti (MTR_M_U_U m (q - 1))
       decide (850 * (un : Int) ≤ u) && decide (u ≤ 1100 * (un : Int))))

/-- The RMS of a channel's last samples in 2^-40. -/
def State.rmsLast (s : State) (c beats : Nat) : Nat :=
  rmsOf (sumN (((s.heldCorr c).take beats).map (fun v => (v * v).toNat))) beats

/-- R187 step 5: each outlet-side phase RMS of the meter's last cycle within ±10 % of its supply-side RMS. -/
def State.sidesMatch (s : State) (n : Nat) : Bool :=
  match s.siteMeter with
  | none => true
  | some m =>
    let beats := max 1 (s.met (s.meterOf n)).nPrev
    (List.range 3).all (fun p =>
      let q := nth (s.phasesOf n) 0 p
      q == 0 ||
        (let u : Int := s.geti (MTR_M_U_U m (q - 1)) * 2 ^ 40
         let v : Int := ((s.rmsLast (nth (s.o n).cfg.vOut 0 p) beats : Nat) : Int) * 1000
         decide ((v - u).natAbs * 10 ≤ u.natAbs)))

/-- N_c of R194: the beats of the outlet meter's last cycle, 800 in NOREF. -/
def State.ncOf (s : State) (n : Nat) : Nat :=
  let x := s.met (s.meterOf n)
  if x.nPrev = 0 ∨ s.isSet (MTR_M_STATE_NOREF (s.meterOf n)) then 800 else x.nPrev

/-- I_DC in 0.01 mA and I_AC in 0.1 mA of an AC outlet (R194). -/
def State.residual (s : State) (n : Nat) : Nat × Nat :=
  match (s.o n).cfg.resCh with
  | none => (0, 0)
  | some c =>
    let l := (s.heldCorr c).take (s.ncOf n)
    let k := max 1 l.length
    let sum := sumI l
    let sq := sumN (l.map (fun v => (v * v).toNat))
    let var := (k * sq - (sum * sum).toNat) / (k * k)
    (sum.natAbs * 100000 / (k * 2 ^ 40), isqrt var * 10000 / 2 ^ 40)

/-- Both AUX inputs of an outlet's pair in the beat: K1, K2. -/
def State.auxOf (s : State) (n : Nat) : Bool × Bool := (s.outs.aux.testBit (2 * s.pairOf n), s.outs.aux.testBit (2 * s.pairOf n + 1))

/-! ### Opening -/

/-- Whether line current flows on an AC outlet: 0.01 In or more over the previous cycle on some conductor (R191). -/
def State.underLoad (s : State) (n : Nat) : Bool :=
  (s.o n).cfg.iCh.any (fun c => decide ((s.chn c).rms * 1000 ≥ s.get (MTR_M_CFG_IN (s.meterOf n)) * 2 ^ 40))

/-- Beats from the latest sign change among the last samples of a channel to now, none without one (R191). -/
def crossedAgo : List Int → Nat → Option Nat
  | a :: b :: t, k => if (decide (a < 0)) != (decide (b < 0)) then some k else crossedAgo (b :: t) (k + 1)
  | _, _ => none

/-- The last expected current zero z (R191; log entry 23): of each conductor the first current zero after a beat, half cycles on from its
latest zero of the previous cycle; the latest of them, or the beat itself where no current crossed zero. -/
def State.expectedZero (s : State) (n end_ : Nat) : Nat :=
  let nc := max 1 (s.met (s.meterOf n)).nPrev
  let one (c : Nat) : Nat :=
    match crossedAgo ((s.heldCorr c).take (nc + 1)) 0 with
    | some k =>
      let x := s.now - k
      let h := 2 * (end_ - x) / nc + 1
      x + (h * nc + 1) / 2
    | none => end_
  max end_ (maxN ((s.o n).cfg.iCh.map one))

/-- An outlet-side sample of 30 V or more, or an AUX of 1 (R191). -/
def State.weldBad (s : State) (n : Nat) : Bool := !s.outQuiet n || (s.auxOf n).1 || (s.auxOf n).2

/-- The largest outlet-side sample magnitude of the beat, in V (R191). -/
def State.outMax (s : State) (n : Nat) : Nat := maxN ((s.o n).cfg.vOut.map (fun c => (s.lastCorr c).natAbs / 2 ^ 40))

/-- The bias outputs in a dwell state (R198): IMD_2j in state P (1), IMD_2j+1 in state N (3), none in state 0. -/
def State.setBias (s : State) (n d : Nat) : State :=
  let j := 2 * (n - 8)
  let m := natBit (natBit s.outs.imd j (d == 1)) (j + 1) (d == 3)
  { s with outs := { s.outs with imd := m } }

/-- An opening is applied (R190): both outputs de-energised at pallet 10, t0 of the weld proof, the commit point of a stop
(R31). Every counter of R195 returns to 0, and the insulation bias goes off. A DC module is commanded OUTPUT_DISCHARGE (R192). -/
def State.openPair (s : State) (n : Nat) (load : Bool) : State :=
  let t := s.setElem 0 (s.pairOf n) false
  let t := when (s.isDc n) (fun u => u.setBias n 0) t
  let t := (t.put (OUT_CONTACT_CMD n) 0).put (OUT_CONTACT_CSTATE n) 4
  let z := s.expectedZero n (s.now + 40 * s.get (OUT_PROT_CFG_T_OPEN_MAX n))
  let t := (t.incBy (OUT_OPS_COUNT n) 1).updWeld n (fun _ =>
    { active := true, t0 := s.now, load := load, win := if s.weldBad n then s.now + 1 else s.now, z := z
      vMax := if s.isDc n || (!load && !s.weldBad n) then s.outMax n else 0 })
  let t := (t.updClose n (fun c => { quiet := c.quiet })).updProt n (fun p => { p with
    openReq := false
    openBy := none
    cntDc := List.replicate 8 0
    cntAc := List.replicate 8 0
    lowDc := List.replicate 8 0
    lowAc := List.replicate 8 0
    dwell := 0
    dwellBeat := none
    slow := 0
    aux1 := 0
    aux2 := 0 })
  let t := t.put (OUT_ISO_VALID n) 0
  let t := when (s.isDc n) (fun u => u.setModule n 4 0 0 0) t
  match t.sesOn n with
  | some k => when (decide (t.sst k = STOPPING)) (fun u => u.updS k (fun x => { x with committed := true })) t
  | none => t

/-- An opening that falls due in the beat; one that a host command decided waits until the standby has it (R229). -/
def State.openDue (s : State) (n : Nat) : State :=
  if (s.o n).prot.openReq ∧ s.decided (s.o n).prot.openBy then s.openPair n (s.underLoad n) else s

/-- An opening that a decision of the beat asks for is applied with that beat's command set (R200, R205); where that set came too late for
pallet 10 it goes with the next one (R61). -/
def State.openNow (s : State) (n : Nat) : State := if s.saf.heldL.isSome then s else s.openDue n

/-- What follows an uncommanded opening (R206): weld proof under load, the session stops. -/
def State.uncmdOpen (s : State) (n : Nat) : State :=
  let t := ((s.raise 0x5212 NOTE s.srcOwner n 0).set1 (OUT_PROT_EVENTS_UNCMD n)).openPair n true
  match t.sesOn n with
  | some k => (t.stopSession k rPROTECTION 0x5212 true).updS k (fun x => { x with committed := true, path := 4 })
  | none => t

/-- A safety function has de-energised a closed pair (R206). -/
def State.uncommanded (s : State) (n : Nat) : State :=
  if s.energised n ∧ !s.pairOn (s.pairOf n) ∧ !(s.o n).prot.openReq then s.uncmdOpen n else s

/-- Whether a contactor of a commanded pair has dropped out while VAUX is below 18 V (R262). -/
def State.droppedOut (s : State) (n : Nat) : Bool :=
  !s.vauxJudges && s.energised n && s.pairOn (s.pairOf n) && !(s.o n).prot.openReq && (!(s.auxOf n).1 || !(s.auxOf n).2)

/-! ### Closing -/

/-- The allocation is at least the minimum (R176, R212). -/
def State.allocOk (s : State) (n k : Nat) : Bool :=
  if s.isDc n then s.get (SES_ALLOC_ALLOC k) != 0 else decide (6000000 ≤ (s.o n).allowUa)

/-- Whether a close may be requested (R161, R164, R176, R187, R206). -/
def State.mayClose (s : State) (n k : Nat) : Bool :=
  s.running && s.usable n && !s.cal.units.testBit (8 + n) && s.sst k == SUSPENDED && s.vehAsks n && s.allocOk n k &&
    !s.isSet (OUT_CONTACT_RDC_LOCK n) && !s.isSet (OUT_RETRY_HOLD n) && !(s.o n).weld.active && !(s.o n).prot.openReq &&
    (s.o n).close.test == 0 && (s.get (OUT_CFG_KIND n) != 1 || (s.isSet (OUT_PP_VALID n) && s.get (OUT_PP_CABLE n) != 0))

/-- The load channel of an outlet's test winding is commanded, where its USE is RDC_TEST (R196, R271). -/
def State.driveTest (s : State) (n : Nat) (on : Bool) : State :=
  when (decide (s.get (LCH_CFG_USE (s.o n).cfg.testLc) = 3)) (fun u => u.lcCommand (s.o n).cfg.testLc on) s

/-- Start the residual sensor self-test (R196): the test load channel is driven. -/
def State.startTestRdc (s : State) (n : Nat) : State :=
  match (s.o n).cfg.resCh with
  | none => s.updClose n (fun c => { c with test := 3, testBeat := s.now, testOk := true })
  | some _ =>
    (s.updClose n (fun c => { c with test := 1, testBeat := s.now, testOk := true })).driveTest n true

/-- The pre-checks of R187 step 2, judged when the self-test has passed and then every cycle; 0x5211 once per session. -/
def State.precheckAc (s : State) (n : Nat) : State :=
  if decide ((s.o n).close.quiet ≥ 200) && s.supplyIn n && !s.isSet (OUT_CONTACT_LOCKOUT n) && !s.isSet (OUT_RETRY_HOLD n) then
    s.updClose n (fun c => { c with step := 2 })
  else if (s.o n).prot.supplyOut then s
  else (s.raise 0x5211 NOTE s.srcOwner n 0).updProt n (fun p => { p with supplyOut := true })

/-- The self-test in a beat (R196): test 1 driven, 2 released, 3 passed, 4 failed. -/
def State.testRdcBeat (s : State) (n idc : Nat) : State :=
  let c := (s.o n).close
  if c.test = 1 then
    if c.testBeat + 1600 ≤ s.now then
      (s.updClose n (fun d => { d with test := if c.testOk then 2 else 4 })).driveTest n false
    else if c.testBeat + 1200 ≤ s.now then
      let inside := decide ((s.o n).cfg.testMin ≤ idc) && decide (idc ≤ (s.o n).cfg.testMax)
      (s.updClose n (fun d => { d with testOk := d.testOk && inside })).putSat (OUT_RDC_STAT_TEST_I n) idc
    else s
  else if c.test = 2 then
    if idc < 300 then s.updClose n (fun d => { d with test := 3 })
    else if c.testBeat + 3200 ≤ s.now then s.updClose n (fun d => { d with test := 4 })
    else s
  else s

/-- A close has failed (R187, R188): the pair opens, 0x5201. -/
def State.closeFail (s : State) (n : Nat) : State := (s.set1 (OUT_PROT_EVENTS_CLOSE n)).raiseOutlet 0x5201 n 0

/-- Energise both outputs of the pair at pallet 10 (R187 step 3, R188 step 2). -/
def State.energise (s : State) (n : Nat) : State :=
  let t := (s.setElem 0 (s.pairOf n) true).put (OUT_CONTACT_CMD n) 3
  (t.put (OUT_CONTACT_CSTATE n) 2).updClose n (fun c => { c with step := 3, beat := s.now, cycles := 0 })

/-- Weld proof fails (R193). -/
def State.weldFail (s : State) (n : Nat) : State :=
  let a := s.auxOf n
  let t := (s.put (OUT_WELD_RESULT n) 2).put (OUT_WELD_WHICH n) ((if a.1 then 1 else 0) + (if a.2 then 2 else 0))
  let t := t.putSat (OUT_WELD_BEATS n) (s.now - (s.o n).weld.t0)
  let t := (t.set1 (OUT_PROT_EVENTS_WELD n)).updWeld n (fun w => { w with active := false })
  let t := ((t.set1 (OUT_CONTACT_LOCKOUT n)).put (OUT_CONTACT_CSTATE n) 5).raise 0x5203 OUTLETSTOP t.srcOwner n 0
  let t := when (s.isDc n) (fun u => u.moduleOff n) t
  let t := (t.setElem 0 (s.pairOf n) false).updClose n (fun c => { quiet := c.quiet })
  match t.sesOn n with
  | some k =>
    let t := t.stopSession k rPROTECTION 0x5203 true
    let t := t.updS k (fun x => { x with flags := x.flags ||| 1, endFault := if x.endFault = 0 then 0x5203 else x.endFault })
    if t.running then t.endSession k else t
  | none => t.refreshPilot n

/-- The DC close in a beat before the pair is energised (R188 step 1, R189, R192). -/
def State.dcPre (s : State) (n : Nat) : State :=
  let c := (s.o n).close
  let vo := s.vOutDc n
  let vp := s.vPreDc n
  let low (v : Int) : Bool := below v 60
  if c.step = 1 then
    if (s.o n).lost || s.isSet (OUT_CONTACT_LOCKOUT n) || s.isSet (OUT_RETRY_HOLD n) then s
    else if s.isSet (OUT_CONTACT_WELD_UNPROVEN n) then
      (s.precharge n 2000).updClose n (fun d => { d with step := 8, beat := s.now, run := 0 })
    else if low vo && low vp then s.updClose n (fun d => { d with step := 2, run := 0 })
    else if !low vo then
      (s.precharge n (vo.natAbs * 10 / 2 ^ 40)).updClose n (fun d => { d with step := 7, beat := s.now, run := 0 })
    else s
  else if c.step = 7 then
    let near := decide ((vp - vo).natAbs ≤ s.get (OUT_PROT_CFG_V_MATCH n) * 2 ^ 40)
    let run := if near then c.run + 1 else 0
    s.updClose n (fun d => { d with run := run, step := if run ≥ 40 then 2 else 7 })
  else if c.step = 8 then
    if !low vo then (s.clr (OUT_CONTACT_WELD_UNPROVEN n)).weldFail n
    else if c.run + 1 ≥ 40 then
      ((((s.clr (OUT_CONTACT_WELD_UNPROVEN n)).put (OUT_WELD_RESULT n) 1).moduleOff n)).updClose n
        (fun d => { d with step := 1, run := 0 })
    else s.updClose n (fun d => { d with run := d.run + 1 })
  else s

/-- A close is requested (R187, R188): AC begins the self-test, DC runs its pre-checks in the same beat. A DC pair that is still closed only
resumes. -/
def State.requestClose (s : State) (n k : Nat) : State :=
  if s.energised n then (if s.isDc n then s.startCharging n k else s)
  else
    let t := (s.updClose n (fun c => { step := 1, beat := s.now, quiet := c.quiet })).put (OUT_CONTACT_CSTATE n) 1
    if s.isDc n then t.dcPre n else t.startTestRdc n

/-- The insulation measurement begins (R198): state 0, nothing known. -/
def State.startIso (s : State) (n : Nat) : State :=
  (s.put (OUT_ISO_STATUS n) 3).updProt n (fun p => { p with
    dwell := 0, dwellBeat := some s.now, sumP := 0, sumN := 0, cntV := 0, poles := 0
    isoCycles := 0, isoBad := 0, isoGood := 0, isoIn := true, rp := none, rn := none })

/-- The close of an outlet in a beat (R187 to R189). -/
def State.closeBeat (s : State) (n k : Nat) : State :=
  let c := (s.o n).close
  let a := s.auxOf n
  let both := a.1 && a.2
  if c.step = 0 then (if s.mayClose n k then s.requestClose n k else s)
  else if c.step = 2 then (if s.laneMayClose (s.pairOf n) ∧ s.mirrored then s.energise n else s)
  else if c.step = 3 then
    if s.isDc n then
      let near := decide ((s.vPreDc n - s.vOutDc n).natAbs ≤ s.get (OUT_PROT_CFG_V_MATCH n) * 2 ^ 40)
      if both && near then
        if c.run ≥ 40 then (s.startIso n).startCharging n k
        else (s.startIso n).updClose n (fun d => { d with step := 5 })
      else s
    else if both then s.updClose n (fun d => { d with step := 4, auxBeat := s.now, cycles := 0 })
    else s
  else if c.step = 4 then
    if (s.met (s.meterOf n)).newCycle then
      if c.cycles = 0 then s.updClose n (fun d => { d with cycles := 1 })
      else if s.sidesMatch n then s.startCharging n k
      else s.closeFail n
    else s
  else if s.isDc n then s.dcPre n
  else if c.step = 1 ∧ c.test = 5 ∧ (s.met (s.meterOf n)).newCycle then s.precheckAc n
  else s

/-! ### Supervision in a beat -/

/-- A counter of the trip curve and its beats below the level (R195). -/
def curveStep (value level time nc : Nat) (p : Nat × Nat) : Nat × Nat :=
  if time = 0 then (0, 0)
  else if level ≤ value then (p.1 + 1, 0)
  else if p.2 + 1 ≥ nc then (0, p.2 + 1)
  else (p.1, p.2 + 1)

/-- Residual current in a beat (R194, R195): shown always, counted only while the pair is energised and no test drives the
sensor. A counter that reaches its t_k trips the outlet, also when the pair opens in the same beat (R206). -/
def State.rdcBeat (s : State) (n : Nat) : State :=
  let r := s.residual n
  let nc := s.ncOf n
  let t := (s.putSat (OUT_RDC_I_DC n) r.1).putSat (OUT_RDC_I_AC n) r.2
  let t := t.updProt n (fun p => { p with calm := if r.1 < 300 then p.calm + 1 else 0 })
  let t :=
    if s.energised n ∧ (s.o n).close.test ≠ 1 then
      t.updProt n (fun p =>
        let dc := (List.range 8).map (fun k =>
          curveStep r.1 (s.get (OUT_RDC_DC_LEVEL n k)) (s.get (OUT_RDC_DC_TIME n k)) nc (nth p.cntDc 0 k, nth p.lowDc 0 k))
        let ac := (List.range 8).map (fun k =>
          curveStep r.2 (s.get (OUT_RDC_AC_LEVEL n k)) (s.get (OUT_RDC_AC_TIME n k)) nc (nth p.cntAc 0 k, nth p.lowAc 0 k))
        let hit (m off : Nat) (l : List (Nat × Nat)) (time : Nat → Nat) : Nat :=
          (List.range 8).foldl (fun m k => if time k ≠ 0 ∧ 40 * time k ≤ (nth l (0, 0) k).1 then natBit m (off + k) true else m) m
        { p with cntDc := dc.map (·.1), lowDc := dc.map (·.2), cntAc := ac.map (·.1), lowAc := ac.map (·.2)
                 trips := hit (hit p.trips 0 dc (fun k => s.get (OUT_RDC_DC_TIME n k))) 8 ac (fun k => s.get (OUT_RDC_AC_TIME n k)) })
    else t
  t.testRdcBeat n r.1

/-- U_ref of R199 in 0.1 V. -/
def State.uRef (s : State) (n : Nat) : Nat := if (s.o n).link.vMax = 0 then 10 * (s.o n).cfg.vRating else (s.o n).link.vMax

/-- The fast checks of R200 in a beat: consecutive beats of OC_INST and OVERVOLT. -/
def State.fastBeat (s : State) (n : Nat) : State :=
  let lim := s.get (OUT_OC_CFG_I_INST n)
  let above := (s.o n).cfg.iCh.any (fun c => decide ((s.fastSample c).natAbs * 10 > lim * 2 ^ 40))
  let high := s.isDc n && (s.o n).cfg.vOut.any (fun c => decide ((s.fastSample c).natAbs * 1000 > 102 * s.uRef n * 2 ^ 40))
  s.updProt n (fun p => { p with oc := if above then p.oc + 1 else 0, ov := if high then p.ov + 1 else 0 })

/-- I_ref of R200: the highest I_ALLOWED in force during the last 5 s, in 0.1 A. -/
def State.iRef (s : State) (n : Nat) : Nat := maxN (s.get (OUT_LIMIT_I_ALLOWED n) :: (liveRefs s.now (s.o n).iRefs).map (·.1))

/-- The beats above the slow limit have lasted OC_SLOW_T (R200). -/
def State.slowJudge (s : State) (n : Nat) : State :=
  s.updProt n (fun p => { p with
    slowDue := p.slowDue || (decide (0 < p.slow) && decide (4000 * s.get (OUT_OC_CFG_OC_SLOW_T n) ≤ p.slow)) })

/-- The slow overcurrent of R200 in a beat. -/
def State.slowBeat (s : State) (n : Nat) : State :=
  if !s.energised n then s.updProt n (fun p => { p with slow := 0, iSum := 0, iCnt := 0 })
  else if s.isDc n then
    let p := (s.o n).prot
    let sum := p.iSum + ((s.dcCurrent n).natAbs : Int)
    if p.iCnt + 1 < 800 then s.updProt n (fun q => { q with iSum := sum, iCnt := p.iCnt + 1 })
    else
      let iset := (s.o n).setI.natAbs
      let lim := max (20 * iset + 1000) (21 * iset)
      let above := decide (sum * 200 > (800 * lim * 2 ^ 40 : Nat))
      s.updProt n (fun q => { q with iSum := 0, iCnt := 0, slow := if above then q.slow + 800 else 0 })
  else
    let r := s.iRef n
    let lim : Int := max (110 * r) (100 * r + 1000)
    let m := s.meterOf n
    let above := (List.range (s.met m).iCh.length).any (fun p => decide (s.geti (MTR_M_I_I m p) > lim))
    s.updProt n (fun q => { q with slow := if above then q.slow + 1 else 0 })

/-- Each AUX against the command (R186), outside the close and open sequences. -/
def State.auxBeat (s : State) (n : Nat) : State :=
  let a := s.auxOf n
  let t := (s.putB (OUT_CONTACT_AUX1 n) a.1).putB (OUT_CONTACT_AUX2 n) a.2
  let seq := (s.o n).weld.active || (s.o n).close.step != 0
  let bad1 := !seq && a.1 != s.energised n
  let bad2 := !seq && a.2 != s.energised n
  t.updProt n (fun p => { p with
    aux1 := if bad1 then p.aux1 + 1 else 0
    aux2 := if bad2 then p.aux2 + 1 else 0
    auxSaid := p.auxSaid && (bad1 || bad2) })

/-- Samples of an insulation dwell's last 40 % (R198): from three fifths of DWELL on. -/
def State.dwellBeat (s : State) (n : Nat) : State :=
  match (s.o n).prot.dwellBeat with
  | some b =>
    if b + 240 * s.get (OUT_ISO_BRIDGE_DWELL n) ≤ s.now ∧ s.now < b + 400 * s.get (OUT_ISO_BRIDGE_DWELL n) then
      s.updProt n (fun p => { p with
        sumP := p.sumP + s.lastCorr (s.o n).cfg.isoP, sumN := p.sumN + s.lastCorr (s.o n).cfg.isoN, cntV := p.cntV + 1 })
    else s
  | none => s

/-- The channels that protection supervises on an outlet (R204). -/
def State.supervised (s : State) (n : Nat) : List Nat :=
  let c := (s.o n).cfg
  if s.isDc n then c.iCh ++ c.vOut ++ [c.vPre, c.isoP, c.isoN] ++ c.tempCh else c.iCh ++ c.vOut ++ c.resCh.toList

/-- Whether the beat lies in the weld window of an outlet (R191, R192). -/
def State.inWindow (s : State) (n : Nat) : Bool :=
  let w := (s.o n).weld
  if s.isDc n then decide (s.now ≤ w.t0 + 4000)
  else if w.load then decide (w.z + 3 ≤ s.now) && decide (s.now < w.z + 203)
  else decide (s.now < w.win + 200)

/-- Weld proof in a beat: the fall of the AUX inputs (R190), the AC window (R191), the DC voltages (R192). -/
def State.weldBeat (s : State) (n : Nat) : State :=
  let w := (s.o n).weld
  if !w.active then s
  else
    let a := s.auxOf n
    let d := s.now - w.t0
    let f1 := if a.1 then w.fall1 else (if w.fall1.isSome then w.fall1 else some d)
    let f2 := if a.2 then w.fall2 else (if w.fall2.isSome then w.fall2 else some d)
    let t := match f1, f2 with
      | some x, some y =>
        let u := s.putSat (OUT_OPS_OPEN_MS n) (max x y / 40)
        when (w.fall1.isNone || w.fall2.isNone) (fun v => v.wearOpen n (max x y / 40)) u
      | _, _ => s
    let bad := s.weldBad n
    let preLow := below (s.vPreDc n) 60
    let outLow := below (s.vOutDc n) 60
    let t := t.updWeld n (fun x => { x with
      fall1 := f1
      fall2 := f2
      win := if bad && decide (s.now < x.win + 200) then s.now + 1 else x.win
      bad := x.bad || (bad && decide (x.z + 3 ≤ s.now) && decide (s.now < x.z + 203))
      vMax := if !s.isDc n && !x.load && bad && decide (s.now < x.win + 200) then 0
        else if s.inWindow n then max x.vMax (s.outMax n) else x.vMax
      preLow := preLow
      outLow := outLow
      both := x.both || (preLow && outLow && !a.1 && !a.2 && decide (d ≤ 4000)) })
    t.putSat (OUT_WELD_V_MAX n) (t.o n).weld.vMax

/-- Seconds until the next attempt of a held outlet (OUT.On_RETRY.NEXT). -/
def State.showNext (s : State) (n : Nat) : State :=
  let due := (s.o n).prot.holdBeat + (s.o n).cfg.retryDelay * secBeats
  s.put (OUT_RETRY_NEXT n) (if !s.isSet (OUT_RETRY_HOLD n) then 0
    else if s.now < due then (due - s.now + secBeats - 1) / secBeats
    else if s.isSet (OUT_RETRY_LATCH n) then 0xFFFF else 0)

/-- A held DC pair opens when its current is below 5 A, or 1 s after the hold began (R202, R177 step 3). -/
def State.holdOpen (s : State) (n : Nat) : State :=
  if s.isDc n ∧ s.isSet (OUT_RETRY_HOLD n) ∧ s.energised n ∧
      ((s.dcCurrent n).natAbs < 5 * 2 ^ 40 ∨ (s.o n).prot.holdBeat + secBeats ≤ s.now) then s.requestOpen n
  else s

/-- A beat of an outlet's session (R170, R176): an authorisation given before the plug-in or by the outlet itself takes effect,
and the session closes and counts. -/
def State.sessionBeat (s : State) (n k : Nat) : State :=
  let early : Bool := match (s.sx k).preBeat with | some b => decide (b < s.now) | none => false
  let t := when (s.running && decide (s.sst k = AUTHORISING) && early) (fun u =>
    let mode := u.get (SES_STATE_AUTH k)
    if mode = 5 ∧ u.balance (u.get (SES_STATE_ACCOUNT k)) ≤ 0 then u.refuseSession k rREFUSED
    else if mode = 5 then u.acceptToken k (u.get (SES_STATE_ACCOUNT k)) else u.acceptSession k mode) s
  let t := when t.running (fun u => u.selfAccept k) t
  when (t.running && t.sesLive k) (fun u => (u.closeBeat n k).sesGrowth k) t

/-- One outlet in one beat (pallets 5 to 10). -/
def State.outletBeat (s : State) (n : Nat) : State :=
  if s.isAbsent n then s
  else
    let t := (s.auxBeat n).dwellBeat n
    let t := if s.isDc n then
        let temp := t.tempsOf n
        let hot : Int := 10 * t.get (OUT_OC_CFG_T_TRIP n) - 100
        let cool := decide (temp.1 < hot) && decide (temp.2 < hot)
        ((t.puti (OUT_TEMP_T1 n) (satI 16 temp.1)).puti (OUT_TEMP_T2 n) (satI 16 temp.2)).updProt n
          (fun p => { p with cool := if cool then p.cool + 1 else 0 })
      else t.rdcBeat n
    let t := ((t.fastBeat n).slowBeat n).slowJudge n
    let t := t.updClose n (fun c => { c with quiet := if s.outQuiet n then c.quiet + 1 else 0 })
    let blind := (t.supervised n).zipIdx.map (fun c =>
      if t.sns.ok.testBit c.1 then 0 else nth (t.o n).prot.blind 0 c.2 + 1)
    let t := t.updProt n (fun p => { p with blind := blind, blindSaid := p.blindSaid && decide (4 ≤ maxN blind) })
    let t := (t.weldBeat n).uncommanded n
    let t := ((t.holdOpen n).openDue n).plugLate n
    let t := match t.sesOn n with
      | some k => t.sessionBeat n k
      | none => t.dropClose n
    (t.settleStop n).showNext n

/-! ### Rows -/

/-- RDC_SELF_TEST_END (R187, R196): the test has passed or failed. After a pass the pre-checks follow; RDC_TEST is answered
with the reading, or with 0x5207. -/
def execRdcSelfTestEnd (n : Fin 12) (s : State) : Out :=
  let c := (s.o n).close
  let answer (param : Nat) (u : State) : State :=
    match (u.o n).prot.testCmd with
    | some r => (u.replyTo r.port r.seq stOK param).updProt n (fun p => { p with testCmd := none })
    | none => u
  if c.test = 3 then
    .next (State.within (fun s =>
      let t := answer (s.get (OUT_RDC_STAT_TEST_I n)) (s.set1 (OUT_RDC_STAT_TEST_OK n))
      if c.step = 1 then (t.updClose n (fun d => { d with test := 5 })).precheckAc n
      else t.updClose n (fun d => { d with test := 0 })) s)
  else if c.test = 4 then
    .next (State.within (fun s =>
      let t := answer 0x5207 (s.clr (OUT_RDC_STAT_TEST_OK n))
      let t := (t.set1 (OUT_PROT_EVENTS_RDC n)).updClose n (fun d => { d with test := 0 })
      t.raiseOutlet 0x5207 n 0) s)
  else .next s

/-- CLOSE_TIMEOUT (R187, R188): the AUX inputs (and, DC, the voltages) have not followed within T_CLOSE. -/
def execCloseTimeout (n : Fin 12) (s : State) : Out :=
  let c := (s.o n).close
  if c.step = 3 ∧ c.beat + 40 * s.get (OUT_PROT_CFG_T_CLOSE n) ≤ s.now then .next (s.closeFail n) else .next s

/-- VMATCH_TIMEOUT (R189): no match within 5 s. -/
def execVmatchTimeout (n : Fin 12) (s : State) : Out :=
  let c := (s.o n).close
  if c.step = 7 ∧ c.beat + 5 * secBeats ≤ s.now then
    .next (((s.set1 (OUT_PROT_EVENTS_CLOSE n)).moduleOff n).raiseOutlet 0x5205 n 0)
  else .next s

/-- AUX_MISMATCH (R186): an AUX disagrees with its command for 40 beats; once until it agrees again (log entry 22). A DC outlet that charges
opens under R177: module OFF, then the pair below 5 A or 1 s later (R205). Below 18 V a contactor that drops out is an uncommanded opening
(R262). -/
def execAuxMismatch (n : Fin 12) (s : State) : Out :=
  if 40 ≤ max (s.o n).prot.aux1 (s.o n).prot.aux2 ∧ !(s.o n).prot.auxSaid ∧ s.droppedOut n then
    .next (State.within (fun s => (s.updProt n (fun p => { p with auxSaid := true })).uncmdOpen n) s)
  else if 40 ≤ max (s.o n).prot.aux1 (s.o n).prot.aux2 ∧ !(s.o n).prot.auxSaid then
    .next (State.within (fun s =>
      let t := when (s.isDc n && !s.settingPos) (fun u => u.moduleOff n) s
      let t := ((t.updProt n (fun p => { p with auxSaid := true })).raiseOutlet 0x5202 n 0)
      (if s.isDc n then t else t.requestOpen n).openNow n) s)
  else .next s

/-- Weld proof has passed, or counts as proven for the session (R191, R192). -/
def State.weldPass (s : State) (n result : Nat) : State :=
  let t := (s.put (OUT_WELD_RESULT n) result).putSat (OUT_WELD_BEATS n) (s.now - (s.o n).weld.t0)
  let t := (t.updWeld n (fun w => { w with active := false })).put (OUT_CONTACT_CSTATE n) 0
  let t := when (s.isDc n) (fun u => u.moduleOff n) t
  t.settleStop n

/-- WELD_PROOF_AC (R191): under load the window of 200 beats begins 3 beats after the last expected current zero and holds no sample of 30 V
or more; otherwise the first complete window ends by t0 + T_OPEN_MAX + 200 beats. -/
def execWeldProofAc (n : Fin 12) (_z : Unit) (s : State) : Out :=
  let w := (s.o n).weld
  let end_ := w.t0 + 40 * s.get (OUT_PROT_CFG_T_OPEN_MAX n)
  if !w.active ∨ s.isDc n then .next s
  else if w.load then
    if w.bad then .next (s.weldFail n)
    else if w.z + 203 ≤ s.now then .next (s.weldPass n 1)
    else .next s
  else if w.win ≤ end_ + 1 ∧ w.win + 200 ≤ s.now then .next (s.weldPass n 1)
  else if end_ + 200 < s.now then .next (s.weldFail n)
  else .next s

/-- WELD_PROOF_DC (R192): RESULT 3 once both voltages are below 60 V in one beat of the 100 ms; after 100 ms the pre-contactor side below
60 V and the outlet side above pass. A combination that no row of its table names after 100 ms counts as failed (log entry 24). -/
def execWeldProofDc (n : Fin 12) (s : State) : Out :=
  let w := (s.o n).weld
  let a := s.auxOf n
  let open_ := !a.1 && !a.2
  if !w.active ∨ !s.isDc n then .next s
  else if w.both then
    let t := ((s.set1 (OUT_CONTACT_WELD_UNPROVEN n)).set1 (OUT_PROT_EVENTS_WELD n)).raise 0x5204 NOTE s.srcOwner n 0
    .next (t.weldPass n 3)
  else if w.t0 + 4000 ≤ s.now then .next (if w.preLow && !w.outLow && open_ then s.weldPass n 1 else s.weldFail n)
  else .next s

/-- RDC_TRIP (R195, R197): a counter of the DC or AC curve has reached its time. While a weld proof runs, the proof goes on (R206). -/
def execRdcTrip (n : Fin 12) (ac : Bool) (k : Fin 8) (s : State) : Out :=
  if (s.o n).prot.trips.testBit (if ac then 8 + k.val else k.val) ∧ !s.isDc n then
    .next (State.within (fun s =>
      let t := (s.set1 (OUT_CONTACT_RDC_LOCK n)).set1 (OUT_PROT_EVENTS_RDC n)
      let t := (t.putB (OUT_RDC_STAT_TRIP_AC n) ac).put (OUT_RDC_STAT_TRIP_PT n) k
      ((t.updProt n (fun p => { p with trips := 0 })).raiseOutlet 0x5206 n k).openNow n) s)
  else .next s

/-- The conditions of R197: state A recognised and I_DC below 3 mA for 1 s. -/
def State.rdcFree (s : State) (n : Nat) : Bool := (s.o n).pilot.band == 0 && decide (secBeats ≤ (s.o n).prot.calm)

/-- RDC_LOCK_RELEASE (R197). -/
def execRdcLockRelease (n : Fin 12) (s : State) : Out :=
  if s.isSet (OUT_CONTACT_RDC_LOCK n) ∧ s.rdcFree n then .next (s.clr (OUT_CONTACT_RDC_LOCK n)) else .next s

/-! ### Insulation -/

/-- A pole resistance of R198 in Ω from state 0 (v, w) and the biased state (v', w'): v is the voltage of the biased half.
none is a resistance beyond any reading. -/
def poleOhm (rb rm : Nat) (v w v' w' : Int) : Option Nat :=
  let num := (rb : Int) * (v * w' - w * v')
  let den := w * v'
  let d := (rm : Int) * den - num
  if num ≤ 0 then some 0 else if d ≤ 0 then none else some ((num * rm) / d).toNat

/-- R_iso in Ω of two poles. -/
def isoOhm (rp rn : Option Nat) : Option Nat :=
  match rp, rn with
  | some a, some b => some (if a + b = 0 then 0 else a * b / (a + b))
  | some a, none => some a
  | none, some b => some b
  | none, none => none

/-- A new R_iso is judged (R199): each below WARN raises 0x5208. -/
def State.isoJudge (s : State) (n : Nat) (r : Option Nat) : State :=
  let u := s.uRef n
  let lowThan (w : Nat) : Bool := match r with | some v => decide (10 * v < w * u) | none => false
  let warn := lowThan (s.get (OUT_ISO_CFG_WARN n))
  let fault := lowThan (s.get (OUT_ISO_CFG_FAULT n))
  let p := (s.o n).prot
  let bad := if fault then p.isoBad + 1 else 0
  let good := if warn then 0 else p.isoGood + 1
  let old := s.get (OUT_ISO_STATUS n)
  let t := s.updProt n (fun q => { q with isoBad := bad, isoGood := good })
  let ohmV := match r with | some v => min 8191 (10 * v / max 1 u) | none => 8191
  let t := (t.putSat (OUT_ISO_R_ISO n) (match r with | some v => v / 1000 | none => 0xFFFF)).put (OUT_ISO_OHM_V n) ohmV
  let t := t.put (OUT_ISO_VALID n) 1
  let t := when warn (fun u => (u.set1 (OUT_PROT_EVENTS_ISO n)).raise 0x5208 NOTE u.srcOwner n ohmV) t
  if 2 ≤ bad then
    if old = 2 then t
    else (t.put (OUT_ISO_STATUS n) 2).raiseOutlet 0x5209 n ohmV
  else if warn then
    if old = 2 then t else t.put (OUT_ISO_STATUS n) 1
  else if old = 3 ∨ 2 ≤ good then t.put (OUT_ISO_STATUS n) 0
  else t

/-- One pole of R198 from a dwell's averages and those of the state 0 before it; then R_iso, once both poles are known, is judged (R199). -/
def State.isoPole (s : State) (n : Nat) (d : Nat) (vp vn : Int) : State :=
  let p := (s.o n).prot
  let sum := p.vp0 + p.vn0
  if sum < 50 * 2 ^ 40 then s.clr (OUT_ISO_VALID n)
  else
    let rb := 10000 * s.get (OUT_ISO_BRIDGE_RB n)
    let rm := 10000 * s.get (OUT_ISO_BRIDGE_RM n)
    let r := if d = 1 then
        (if p.vp0 * 100 < sum then some 0 else poleOhm rb rm p.vp0 p.vn0 vp vn)
      else (if p.vn0 * 100 < sum then some 0 else poleOhm rb rm p.vn0 p.vp0 vn vp)
    let kohm := match r with | some v => min 0xFFFF (v / 1000) | none => 0xFFFF
    let t := if d = 1 then (s.put (OUT_ISO_POLES_RP n) kohm).updProt n (fun q => { q with rp := r, poles := q.poles ||| 1 })
      else (s.put (OUT_ISO_POLES_RN n) kohm).updProt n (fun q => { q with rn := r, poles := q.poles ||| 2 })
    if (t.o n).prot.poles = 3 then t.isoJudge n (isoOhm (t.o n).prot.rp (t.o n).prot.rn) else t

/-- INSULATION_DWELL_END (R198): DWELL has passed; V_p and V_n are averaged over its last 40 %, and the next state begins. -/
def execInsulationDwellEnd (n : Fin 12) (_vp _vn : Unit) (s : State) : Out :=
  let p := (s.o n).prot
  match p.dwellBeat with
  | none => .next s
  | some b =>
    if s.isDc n ∧ s.energised n ∧ b + 400 * s.get (OUT_ISO_BRIDGE_DWELL n) ≤ s.now then
      let vp := roundEven p.sumP (max 1 p.cntV)
      let vn := roundEven p.sumN (max 1 p.cntV)
      let vcc : Int := s.vcc n * 2 ^ 40
      let near := decide (((vp + vn) * 200 - vcc * 20).natAbs ≤ vcc.natAbs)
      let next_ := (p.dwell + 1) % 4
      let t := s.updProt n (fun q => { q with
        dwell := next_, dwellBeat := some s.now, sumP := 0, sumN := 0, cntV := 0
        isoIn := if p.dwell = 3 then true else q.isoIn && near
        isoCycles := if p.dwell = 3 ∧ p.isoIn ∧ near then q.isoCycles + 1 else q.isoCycles })
      let t := t.setBias n next_
      .next (if p.dwell = 0 ∨ p.dwell = 2 then t.updProt n (fun q => { q with vp0 := vp, vn0 := vn }) else t.isoPole n p.dwell vp vn)
    else .next s

/-! ### Overcurrent, temperature and holds -/

/-- An instantaneous trip (R200): the pair opens at once, with the set of the confirming beat, and a DC module is commanded OFF. -/
def State.tripNow (s : State) (n code : Nat) : State :=
  State.within (fun s =>
    let t := when (s.isDc n) (fun u => u.moduleOff n) (s.set1 (OUT_PROT_EVENTS_OVERCURRENT n))
    ((t.raiseOutlet code n 0).requestOpen n).openNow n) s

/-- OC_INST (R200): 2 consecutive beats. -/
def execOcInst (n : Fin 12) (s : State) : Out :=
  if 2 ≤ (s.o n).prot.oc ∧ s.energised n then .next (s.tripNow n 0x520A) else .next s

/-- OVERVOLT (R200). -/
def execOvervolt (n : Fin 12) (s : State) : Out :=
  if s.isDc n ∧ 2 ≤ (s.o n).prot.ov then .next (s.tripNow n 0x520C) else .next s

/-- A retryable condition (R202): a hold begins, or the session stops when no retry is left. An AC pair opens with the set of the beat
(R205). A session that is already stopping is not
held (R206, R226). -/
def State.startHold (s : State) (n : Nat) (latch : Bool) : State :=
  match s.sesOn n with
  | none => s
  | some k =>
    if s.isSet (OUT_RETRY_HOLD n) ∨ s.sst k = STOPPING then s
    else if s.get (OUT_RETRY_LEFT n) = 0 then s.raiseOutlet 0x520E n 0
    else
      let t := (s.set1 (OUT_RETRY_HOLD n)).set1 (OUT_PROT_EVENTS_HOLD n)
      let t := t.updProt n (fun p => { p with holdBeat := s.now, holdLatch := latch, slow := 0 })
      let t := t.dropClose n
      if s.isDc n then t.moduleOff n else (t.suspend k).openNow n

/-- OC_SLOW (R200, R203): above the slow limit for OC_SLOW_T, also where placement has opened the pair since (R226). -/
def execOcSlow (n : Fin 12) (s : State) : Out :=
  if (s.o n).prot.slowDue ∧ !(s.isSet (OUT_RETRY_HOLD n) && (s.o n).prot.holdLatch) then
    let t := (s.set1 (OUT_PROT_EVENTS_OVERCURRENT n)).raise 0x520B DEGRADE s.srcOwner n 0
    .next (State.within (fun u => (u.updProt n (fun q => { q with slow := 0, slowDue := false })).startHold n false) t)
  else .next s

/-- CONNECTOR_THERMAL_LATCH (R201): a connector channel has reached T_TRIP. -/
def execConnectorThermalLatch (n : Fin 12) (s : State) : Out :=
  let trip : Int := 10 * s.get (OUT_OC_CFG_T_TRIP n)
  if s.isDc n ∧ !s.isSet (OUT_RETRY_LATCH n) ∧ (s.geti (OUT_TEMP_T1 n) ≥ trip ∨ s.geti (OUT_TEMP_T2 n) ≥ trip) then
    let t := (s.set1 (OUT_RETRY_LATCH n)).raise 0x520D DEGRADE s.srcOwner n 0
    .next ((t.updProt n (fun p => { p with latchBeat := s.now, holdLatch := true })).startHold n true)
  else .next s

/-- CONNECTOR_LATCH_CLEAR (R201): both channels below T_TRIP − 10 K for 60 s. -/
def execConnectorLatchClear (n : Fin 12) (s : State) : Out :=
  if s.isSet (OUT_RETRY_LATCH n) ∧ 60 * secBeats ≤ (s.o n).prot.cool then .next (s.clr (OUT_RETRY_LATCH n)) else .next s

/-- HOLD_RETRY (R202, R203): RETRY_DELAY has passed and no thermal latch defers it: the hold is released and one retry
spent. -/
def execHoldRetry (n : Fin 12) (s : State) : Out :=
  if s.isSet (OUT_RETRY_HOLD n) ∧ (s.o n).prot.holdBeat + (s.o n).cfg.retryDelay * secBeats ≤ s.now ∧
      !s.isSet (OUT_RETRY_LATCH n) then
    let t := (s.clr (OUT_RETRY_HOLD n)).put (OUT_RETRY_LEFT n) (s.get (OUT_RETRY_LEFT n) - 1)
    .next (t.updProt n (fun p => { p with holdLatch := false }))
  else .next s

/-- LATCH_TIMEOUT (R203): the latch is still set 30 min after it set. -/
def execLatchTimeout (n : Fin 12) (s : State) : Out :=
  if s.isSet (OUT_RETRY_LATCH n) ∧ (s.sesOn n).isSome ∧ (s.o n).prot.latchBeat + 1800 * secBeats ≤ s.now then
    .next (s.raiseOutlet 0x520F n 0)
  else .next s

/-- PROT_BLIND (R204): a supervised channel's sample is invalid for the 4th consecutive beat; once until every channel is valid again. -/
def execProtBlind (n : Fin 12) (s : State) : Out :=
  if 4 ≤ maxN (s.o n).prot.blind ∧ !(s.o n).prot.blindSaid then
    .next (State.within (fun s => ((s.updProt n (fun p => { p with blindSaid := true })).raiseOutlet 0x5210 n 0).openNow n) s)
  else .next s

/-! ### Commands -/

/-- PROT_CLEAR, 0x0510 (R193, R197): bit 0 weld lockout (SERVICE only), bit 1 RDC_LOCK. -/
def execProtClear (mb : Fin 8) (s : State) : Out :=
  .next (s.command mb 0x0510 .running false (fun c s =>
    let n := c.u32 0
    let m := c.u32 1
    if n ≥ 12 ∨ m > 3 then s.reply c stBAD_ARG 0
    else if m.testBit 0 && !s.inService c.port then s.reply c stREFUSED_AUTH 0
    else if m.testBit 1 && s.isSet (OUT_CONTACT_RDC_LOCK n) && !s.rdcFree n then s.reply c stREFUSED_STATE 0
    else
      let t := when (m.testBit 0 && s.isSet (OUT_CONTACT_LOCKOUT n))
        (fun u => ((u.clr (OUT_CONTACT_LOCKOUT n)).put (OUT_CONTACT_CSTATE n) 0).refreshPilot n) s
      (when (m.testBit 1) (fun u => u.clr (OUT_CONTACT_RDC_LOCK n)) t).reply c stOK 0))

/-- RDC_TEST, 0x0511 (R196): answered when the self-test ends. -/
def execRdcTest (mb : Fin 8) (s : State) : Out :=
  .next (s.command mb 0x0511 .running false (fun c s =>
    let n := c.u32 0
    if n ≥ 12 ∨ s.isAbsent n ∨ s.isDc n ∨ (s.o n).cfg.resCh.isNone then s.reply c stBAD_ARG 0
    else if (match s.sesOn n with | some k => decide (s.sst k = CHARGING) | none => false) then s.reply c stREFUSED_STATE 0
    else if (s.o n).prot.testCmd.isSome ∨ (s.o n).close.test ≠ 0 then s.reply c stBUSY 0
    else (s.updProt n (fun p => { p with testCmd := some { port := c.port, seq := c.seq } })).startTestRdc n))

end Sys2Proof.Machine
end

