-- ==== Sys2Proof/Machine/Can.lean ====
section
/-! DEFINITION. CAN FD setpoints of 07_outlets.md (R180 to R183): the targets of the four controllers, the SETPOINT and
STATUS frames, loss and bus-off. -/
namespace Sys2Proof.Machine

def State.updGov (s : State) (f : GovSt → GovSt) : State := { s with gov := f s.gov }
def State.conv (s : State) (j : Nat) : ConvSt := nth s.gov.conv {} j
def State.updConv (s : State) (j : Nat) (f : ConvSt → ConvSt) : State := s.updGov (fun x => { x with conv := upd x.conv j f })

/-- The DC outlet that is target k of a controller (R180). -/
def State.outletTarget (s : State) (c k : Nat) : Option Nat :=
  (List.range 12).find? (fun n => s.isDc n && s.get (OUT_CFG_CAN n) == c && s.get (OUT_CFG_TGT n) == k)

/-- The battery converter that is target k of a controller. -/
def State.convTarget (s : State) (c k : Nat) : Option Nat :=
  (List.range 2).find? (fun j => (s.conv j).target == some (c, k))

/-- The identifier of a target's SETPOINT frame (R181): BASE + 2k; its STATUS comes with the next number (R182). -/
def State.setpointId (s : State) (c k : Nat) : Nat := (nth s.outs.can {} c).base + 2 * k

/-- A converter commanded OFF. -/
def ConvSt.off (x : ConvSt) : ConvSt := { x with setMode := 0, setV := 0, setI := 0, setP := 0 }

/-! ### SETPOINT -/

/-- The 16 bytes of a SETPOINT frame (R181). -/
def setpointFrame (seq mode flags v : Nat) (i : Int) (p ramp : Nat) : List Byte :=
  let h := le 2 seq ++ le 1 mode ++ le 1 flags ++ le 2 (min v 0xFFFF) ++ le 2 (twos 16 (satI 16 i)) ++ le 2 (min p 0xFFFF) ++
    le 2 ramp ++ le 2 0
  h ++ le 2 (crc16 h)

/-- A frame sent again from the journal (R171, R182): its content and SEQ with FLAGS.REISSUE. -/
def resentFrame (f : List Byte) : List Byte :=
  let h := f.take 3 ++ le 1 1 ++ (f.drop 4).take 10
  h ++ le 2 (crc16 h)

/-- The frame that may leave (R229): the new one, or, while a decision of an earlier beat waits for its acknowledgement, the setpoint of the
last frame under the new SEQ. -/
def State.sendable (s : State) (last : List Byte) (seq : Nat) (f : List Byte) : List Byte :=
  if s.mirrored || last.isEmpty then f
  else
    let h := le 2 seq ++ (last.drop 2).take 1 ++ le 1 0 ++ (last.drop 4).take 10
    h ++ le 2 (crc16 h)

/-- A power in W over a voltage in 2^-40 V as a current in 0.1 A, rounded toward 0 (R181, R215). -/
def ampsOf (w : Int) (v : Nat) : Int := if v = 0 then 0 else Int.tdiv (w * 10 * 2 ^ 40) v

/-- Mode, V_SET, I_SET and P_LIM of an outlet's target (R181): while the session charges, and in a V2G stop before its step 3 (R177), the lowest of the vehicle's target
current, the allocation over the present DC voltage, and the outlet's rating; what is commanded otherwise. -/
def State.setpointOf (s : State) (n : Nat) : Nat × Nat × Int × Nat :=
  let o := s.o n
  match s.sesOn n with
  | some k =>
    let stopping := decide (s.sst k = STOPPING) && (s.sx k).path == 2 && (s.sx k).before == CHARGING
    if s.running ∧ (s.sst k = CHARGING ∨ stopping) ∧ !s.isSet (OUT_RETRY_HOLD n) then
      let a := s.geti (SES_ALLOC_ALLOC k)
      let i := ampsOf a.natAbs (s.vOutDc n).natAbs
      let lim : Int := min (o.link.iTarget.natAbs : Int) (s.get (OUT_CFG_RATING n) : Int)
      let j := if i < lim then i else lim
      (if a < 0 then 3 else 2, o.link.vTarget, if a < 0 then -j else j, a.natAbs / 100)
    else (o.setMode, o.setV, o.setI, o.setP)
  | none => (o.setMode, o.setV, o.setI, o.setP)

/-- SETPOINT_FRAME (R181): the frame of a target, FD with its identifier and bit-rate switching, in its beat; after a takeover the last one is sent again with its SEQ
(R182). No frame goes out in the setting position (R44) or while the controller is bus-off. -/
def execSetpointFrame (c : Fin 4) (k : Fin 2) (s : State) : Out :=
  if s.esc.gen = 2 ∧ (s.now + 40 - 20 * k.val) % 40 = 0 ∧ !s.settingPos ∧ (nth s.outs.busOff none c).isNone then
    match s.outletTarget c k, s.convTarget c k with
    | some n, _ =>
      let p := s.setpointOf n
      let o := s.o n
      let seq := (s.get (OUT_CAN_SEQ n) + 1) % 65536
      if o.reissue && !o.frame.isEmpty then
        .next (s.updO n (fun x => { x with frame := resentFrame o.frame, frameId := s.setpointId c k, reissue := false }))
      else
      let f := s.sendable o.frame seq (setpointFrame seq p.1 0 p.2.1 p.2.2.1 p.2.2.2 o.cfg.ramp)
      let t := (s.put (OUT_CAN_SEQ n) seq).puti (OUT_LIMIT_I_ALLOWED n) (satI 16 p.2.2.1)
      .next (t.updO n (fun x => { x with frame := f, frameId := s.setpointId c k, reissue := false, setI := p.2.2.1 }))
    | none, some j =>
      let x := s.conv j
      let mode := if s.running then x.setMode else 0
      let seq := (x.seq + 1) % 65536
      if x.reissue && !x.frame.isEmpty then
        .next (s.updConv j (fun y => { y with frame := resentFrame x.frame, frameId := s.setpointId c k, reissue := false }))
      else
      let f := s.sendable x.frame seq (setpointFrame seq mode 0 x.setV (if mode = 0 then 0 else x.setI) x.setP 0)
      let t := s.put (GOV_PL_BAT_SET_MODE j) mode
      .next (t.updConv j (fun y => { y with frame := f, frameId := s.setpointId c k, seq := seq, reissue := false }))
    | none, none => .next s
  else .next s

/-! ### STATUS -/

/-- Whether a STATUS frame is whole and its CRC right (R182). -/
def statusOk (bs : List Byte) : Bool := bs.length == 16 && crc16 (bs.take 14) == ofLe (bs.drop 14)

/-- A number of a frame. -/
def field (bs : List Byte) (off n : Nat) : Nat := ofLe ((bs.drop off).take n)

/-- A two's-complement number of a frame. -/
def fieldI (bs : List Byte) (off n : Nat) : Int :=
  let v := field bs off n
  if v < 2 ^ (8 * n - 1) then (v : Int) else (v : Int) - (2 : Int) ^ (8 * n)

/-- The beat since which SEQ_ECHO is more than 8 frames behind (R183). -/
def lagSince (seq echo now_ : Nat) (old : Option Nat) : Option Nat :=
  if 8 < (seq + 65536 - echo) % 65536 then (if old.isSome then old else some now_) else none

/-- The session on a DC outlet stops and its module goes OFF (R183). -/
def State.moduleStop (s : State) (n code : Nat) : State := (s.moduleOff n).raiseOutlet code n 0

/-- Whether a target counts as lost (R183). -/
def targetLost (now_ : Nat) (status lag : Option Nat) : Bool :=
  decide (status.getD 0 + 400 ≤ now_) || (match lag with | some b => decide (b + 400 ≤ now_) | none => false)

/-- STATUS_FRAME (R182, R183): a STATUS frame of a target; one with a wrong CRC is not used. STATE 5 is a module fault. -/
def execStatusFrame (c : Fin 4) (k : Fin 2) (bs : List Byte) (s : State) : Out :=
  if !statusOk bs || s.settingPos then .next s
  else
    match s.outletTarget c k, s.convTarget c k with
    | some n, _ =>
      let fault := decide (field bs 2 1 = 5) && s.get (OUT_CAN_STATE n) != 5
      let t := (s.putSat (OUT_CAN_STATE n) (field bs 2 1)).updO n (fun x => { x with
        seqEcho := field bs 0 2
        statusBeat := some s.now
        lagBeat := lagSince (s.get (OUT_CAN_SEQ n)) (field bs 0 2) s.now x.lagBeat
        lost := x.lost && targetLost s.now (some s.now) (lagSince (s.get (OUT_CAN_SEQ n)) (field bs 0 2) s.now x.lagBeat)
        mFault := field bs 3 1
        vOut := field bs 4 2
        iOut := fieldI bs 6 2
        pAvail := field bs 8 2
        tMax := fieldI bs 10 1 })
      .next (if fault then t.moduleStop n 0x510C else t)
    | none, some j =>
      let fault := decide (field bs 2 1 = 5) && (s.conv j).state != 5
      let t := s.updConv j (fun x => { x with
        state := field bs 2 1
        seqEcho := field bs 0 2
        statusBeat := some s.now
        lagBeat := lagSince x.seq (field bs 0 2) s.now x.lagBeat
        lost := x.lost && targetLost s.now (some s.now) (lagSince x.seq (field bs 0 2) s.now x.lagBeat)
        mFault := field bs 3 1
        vOut := field bs 4 2
        iOut := fieldI bs 6 2
        pAvail := field bs 8 2
        tMax := fieldI bs 10 1 })
      .next (if fault then (t.updConv j ConvSt.off).raise 0x510C OUTLETSTOP t.srcOwner (16 + j) 0 else t)
    | none, none => .next s

/-- CAN_TARGET_LOST (R183). -/
def execCanTargetLost (c : Fin 4) (k : Fin 2) (s : State) : Out :=
  if !s.running then .next s
  else match s.outletTarget c k, s.convTarget c k with
    | some n, _ =>
      let o := s.o n
      if !o.lost && targetLost s.now o.statusBeat o.lagBeat then
        let t := (s.updO n (fun x => { x with lost := true })).set1 (OUT_EVENTS_CAN_LOST n)
        .next (t.moduleStop n 0x510A)
      else .next s
    | none, some j =>
      let x := s.conv j
      if !x.lost && targetLost s.now x.statusBeat x.lagBeat then
        .next ((s.updConv j (fun y => { y.off with lost := true })).raise 0x510A OUTLETSTOP s.srcOwner (16 + j) 0)
      else .next s
    | none, none => .next s

/-- CAN_BUS_OFF (R183): every session on the controller stops. -/
def execCanBusOff (c : Fin 4) (s : State) : Out :=
  if s.settingPos ∨ (nth s.outs.busOff none c).isSome then .next s
  else
    let t := { s with outs := { s.outs with busOff := upd s.outs.busOff c (fun _ => some s.now) } }
    let t := t.raise 0x510B OUTLETSTOP t.srcOwner c 0
    .next (forUpTo 12 (fun n u =>
      if u.isDc n ∧ u.get (OUT_CFG_CAN n) = c.val then (u.moduleOff n).stopOutlet n rPROTECTION 0x510B else u) t)

/-- BUS_OFF_RECOVERY (R183): 100 ms after bus-off. -/
def execBusOffRecovery (c : Fin 4) (s : State) : Out :=
  match nth s.outs.busOff none c with
  | some b =>
    if b + 4000 ≤ s.now then .next { s with outs := { s.outs with busOff := upd s.outs.busOff c (fun _ => none) } } else .next s
  | none => .next s

end Sys2Proof.Machine
end

