-- ==== Sys2Proof/Machine/Keys.lean ====
section
/-! DEFINITION. The key store's events and commands of 18_keys.md (R380 to R386), and NFC_CARD_RESPOND of 14_contactless.md. -/
namespace Sys2Proof.Machine

/-- Whether a jewel is a user jewel (R379). -/
def isUser (j : Nat) : Bool := decide (45 ≤ j) && decide (j ≤ 60)

/-- HMAC-SHA-256 of a 16-byte challenge under a jewel, truncated to 16 bytes (R380). -/
def State.respondTo (s : State) (j chal : Nat) : Nat := hmac (s.jewelVal j) (le 16 chal) % 2 ^ 128

/-- Answer a command that the store refuses under R377. -/
def State.keyRefuse (s : State) (c : Cmd) (j : Nat) : State := (s.jewelRefused j).reply c stREFUSED_AUTH 0xB001

/-- Wrong responses of the last 10 min. -/
def State.svcFails (s : State) : List Nat := s.key.fails.filter (fun t => decide (s.mono < t + 600))

/-- A wrong or expired response (R381): 0xB002; the third within 10 min locks out both ports for 15 min. -/
def State.svcWrong (s : State) (port : Nat) : State :=
  let l := s.mono :: s.svcFails
  let t := s.updKey (fun k => { k with fails := l, chal := upd k.chal port (fun _ => none) })
  let t := ((t.set1 KEY_EVENTS_SVC).putSat KEY_SVC_FAILS l.length).raise 0xB002 NOTE t.srcOwner port 0
  if 3 ≤ l.length then
    let t := (t.updKey (fun k => { k with lockEnd := s.mono + 900 })).set1 KEY_STATUS_SVC_LOCK
    (t.put KEY_SVC_LOCK_S 900).raise 0xB003 NOTE t.srcOwner port 0
  else t

/-- KEY_SVC_CHALLENGE, 0x0B01 (R381): a challenge for the port. -/
def execKeySvcChallenge (mb : Fin 8) (s : State) : Out :=
  .next (s.command mb 0x0B01 .any false (fun c s =>
    if s.glb.lifecycle = 0 then s.reply c stREFUSED_STATE 0
    else if !s.jewelOk 10 opCHECK (6 + c.port) (s.portWorld c.port) then s.keyRefuse c 10
    else if !s.drbgOk then s.reply c stBUSY 0
    else
      let d := s.drbg 1
      let v := d.1 % 2 ^ 128
      let t := d.2.updKey (fun k => { k with chal := upd k.chal c.port (fun _ => some (v, s.mono)) })
      t.reply c stOK 0 (le 16 v)))

/-- KEY_SVC_RESPONSE, 0x0B02 (R381): the port enters SERVICE with the next beat. -/
def execKeySvcResponse (mb : Fin 8) (s : State) : Out :=
  .next (s.command mb 0x0B02 .any false (fun c s =>
    if s.glb.lifecycle = 0 then s.reply c stREFUSED_STATE 0
    else if s.isSet KEY_STATUS_SVC_LOCK then (s.jewelDenied 10).reply c stREFUSED_AUTH 0
    else if !s.jewelOk 10 opCHECK (6 + c.port) (s.portWorld c.port) then s.keyRefuse c 10
    else
      let t := s.jewelUsed 10
      let good := match nth s.key.chal none c.port with
        | some (v, m) => decide (s.mono < m + 60) && ofLe (c.args.take 16) == s.respondTo 10 v
        | none => false
      if good then
        (t.updKey (fun k => { k with
          chal := upd k.chal c.port (fun _ => none)
          enter := k.enter ||| 2 ^ c.port })).reply c stOK 0
      else (t.svcWrong c.port).reply c stREFUSED_AUTH 0xB002))

/-- At the start of a beat: ports enter SERVICE (R381), and the imports of the beat before apply, every jewel below one derived
again (R382, coinciding events). -/
def State.svcBeat (s : State) : State :=
  let t := forEach s.key.due (fun x u => ((u.setJewel x.1 (some x.2)).deriveBelow x.1).set1 KEY_EVENTS_IMPORT) s
  let t := t.updKey (fun k => { k with due := [] })
  if t.key.enter = 0 then t
  else
    let t := when (t.key.enter.testBit 0) (fun u => u.put GLB_WORLD_HP0 2) t
    let t := when (t.key.enter.testBit 1) (fun u => u.put GLB_WORLD_HP1 2) t
    (t.set1 KEY_EVENTS_SVC).updKey (fun k => { k with enter := 0 })

/-- SVC_CHALLENGE_EXPIRY (R380): 60 s after a port's challenge was drawn. -/
def execSvcChallengeExpiry (port : Fin 2) (s : State) : Out :=
  match nth s.key.chal none port with
  | some (_, m) =>
    if m + 60 ≤ s.mono then .next (s.updKey (fun k => { k with chal := upd k.chal port (fun _ => none) })) else .next s
  | none => .next s

/-- SVC_LOCKOUT_END (R381): 15 min after the lockout began. -/
def execSvcLockoutEnd (s : State) : Out :=
  if s.isSet KEY_STATUS_SVC_LOCK ∧ s.key.lockEnd ≤ s.mono then
    .next (((s.clr KEY_STATUS_SVC_LOCK).put KEY_SVC_LOCK_S 0).put KEY_SVC_FAILS s.svcFails.length)
  else .next s

/-- MONO second of the last command taken from a port (R25). -/
def State.svcMono (s : State) (port : Nat) : Nat := if port = 0 then s.glb.svcMono0 else s.glb.svcMono1

/-- SERVICE_WORLD_TIMEOUT (R25): 15 min after its last command a port returns to OPERATOR. -/
def execServiceWorldTimeout (port : Fin 2) (s : State) : Out :=
  if s.inService port ∧ s.svcMono port + 900 ≤ s.mono then
    .next ((s.put (if port.val = 0 then GLB_WORLD_HP0 else GLB_WORLD_HP1) 0).set1 KEY_EVENTS_SVC)
  else .next s

/-- EPHEMERAL_JEWEL_CLEAR (R379): 60 s after the handshake began at the latest. -/
def execEphemeralJewelClear (n : Fin 12) (s : State) : Out :=
  if (s.jewel (33 + n)).isSome ∧ nth s.key.ephMono 0 n + 60 ≤ s.mono then .next (s.clearEph n) else .next s

/-- ENTROPY_TEST_FAIL (R385): the DRBG stops; handshakes in progress stop (coinciding events). -/
def execEntropyTestFail (s : State) : Out :=
  let t := (((s.clr KEY_STATUS_DRBG_OK).inc KEY_DRBG_HEALTH_FAIL).set1 KEY_EVENTS_ENTROPY).raise 0xB004 DEGRADE s.srcOwner 0 0
  .next (forUpTo 12 (fun n u => when ((u.o n).link.tlsBeat.isSome) (fun v => v.tlsStop n) u) t)

/-- The DRBG is reseeded (R384). -/
def State.reseed (s : State) : State :=
  (s.put KEY_DRBG_RESEEDS (s.get KEY_DRBG_RESEEDS + 1)).updKey (fun k => { k with requests := 0, seedMono := s.mono })

/-- A reseed is due: after 65 536 requests, or 24 h (R384). -/
def State.reseedDue (s : State) : Bool := decide (65536 ≤ s.key.requests) || decide (s.key.seedMono + 86400 ≤ s.mono)

/-- ENTROPY_RECOVERY (R385): 1 024 consecutive samples have passed. -/
def execEntropyRecovery (s : State) : Out :=
  if s.drbgOk then .next s else .next ((s.set1 KEY_STATUS_DRBG_OK).reseed)

/-- DRBG_RESEED (R384): 65 536 requests or 24 h. -/
def execDrbgReseed (s : State) : Out := if s.drbgOk ∧ s.reseedDue then .next s.reseed else .next s

/-- KEY_PUBLIC, 0x0B03. -/
def execKeyPublic (mb : Fin 8) (s : State) : Out :=
  .next (s.command mb 0x0B03 .any false (fun c s =>
    let j := c.u32 0
    let ty := (s.jattr j).typ
    if j ≥ 64 ∨ ty < 2 ∨ 7 < ty then s.reply c stBAD_ARG 0
    else match s.jewel j with
      | some v => s.reply c stOK 0 (publicKey ty v)
      | none => s.reply c stBAD_ARG 0))

/-- Put a value into an imported or generated jewel, with its copy in the MRAM key area, wrapped under J_1 (R373). -/
def State.storeJewel (s : State) (j : Nat) (v : Option Nat) : State :=
  let t := when v.isSome (fun u => u.jewelUsed 1) s
  ((t.updKey (fun k => { k with mram := upd k.mram j (fun _ => v) })).setJewel j v).set1 KEY_EVENTS_IMPORT

/-- The bytes of a P-384 public key: its two coordinates (log entry 7). -/
def pubLen : Nat := 96

/-- The wrapping key of a jewel from an ECDH secret (R382). -/
def State.wrapSecret (s : State) (j : Nat) (shared : List Nat) : Nat :=
  leNum (kdfBlock shared 1
    (kdfLabel (("IMPORT" : String).toList.map Char.toNat) j) s.serial64)

/-- The value that a wrapped message opens to (R382): ephemeral public key, nonce, ciphertext, tag; none where the tag fails or the
key is no point of P-384 (log entry 7). -/
def State.unwrapKey (s : State) (j : Nat) (m : List Byte) : Option Nat :=
  match curveP384.ecdh (s.jewelVal 7) (fromBytes (m.take pubLen)) with
  | none => none
  | some z => (gcmOpen (s.wrapSecret j z) ((m.drop pubLen).take 12) (m.drop (pubLen + 12))).map leNum

/-- The wrapped value of a jewel for a recipient's public key (R383): the ephemeral key and the nonce are drawn. None for a key
that is no point of P-384. -/
def State.wrapKey (s : State) (j eph draw : Nat) (pub : List Byte) : Option (List Byte) :=
  (curveP384.ecdh eph (fromBytes (pub.take pubLen))).map (fun z =>
    publicKey tyP384 eph ++ le 12 draw ++ gcmSeal (s.wrapSecret j z) (le 12 draw) (leBytes (valueLen (s.jattr j).typ) (s.jewelVal j)))

/-- KEY_IMPORT, 0x0B04 (R382): OP_ROOT, OP_SIGN and TOK_ROOT in PROVISIONED only, replaced only from a port in SERVICE. The value
applies from the next beat. -/
def execKeyImport (mb : Fin 8) (s : State) : Out :=
  .next (s.command mb 0x0B04 .any false (fun c s =>
    let j := c.u32 0
    let root := j == 8 || j == 9 || j == 12
    if !root && !isUser j then s.reply c stBAD_ARG 0
    else if !s.jewelOk 7 opUNWRAP s.appMaster (s.portWorld c.port) then s.keyRefuse c 7
    else if root ∧ (s.glb.lifecycle ≠ 1 ∨ ((s.jewel j).isSome ∨ s.key.due.any (fun x => x.1 == j)) ∧ !s.inService c.port) then s.reply c stREFUSED_AUTH 0
    else
      let t := s.jewelUsed 7
      match s.unwrapKey j (c.args.drop 4) with
      | none => (t.raise 0xB005 NOTE t.srcOwner j 0).reply c stBAD_ARG 0xB005
      | some v =>
        ((t.jewelUsed 1).updKey (fun k => { k with mram := upd k.mram j (fun _ => some v), due := k.due ++ [(j, v)] })).reply c stOK 0))

/-- KEY_GENERATE, 0x0B05 (R373). -/
def execKeyGenerate (mb : Fin 8) (s : State) : Out :=
  .next (s.command mb 0x0B05 .running false (fun c s =>
    let j := c.u32 0
    let a := s.jattr j
    let fixed := j == 31 || j == 32
    if (!fixed && !isUser j) ∨ a.typ < 2 ∨ 6 < a.typ then s.reply c stBAD_ARG 0
    else if fixed ∧ !s.inService c.port then s.reply c stREFUSED_AUTH 0
    else if !a.lc.testBit s.glb.lifecycle then s.keyRefuse c j
    else if !s.drbgOk then s.reply c stBUSY 0
    else
      let d := s.drbg 2
      (d.2.storeJewel j (some d.1)).reply c stOK 0 (publicKey a.typ d.1)))

/-- The response to a challenge of a host under a jewel that permits the port and RESPOND (R299, R377, R380). -/
def State.hostRespond (s : State) (c : Cmd) : State :=
  let j := c.u32 0
  if j ≥ 64 then s.reply c stBAD_ARG 0
  else if !s.jewelOk j opRESPOND (6 + c.port) (s.portWorld c.port) then s.keyRefuse c j
  else (s.jewelUsed j).reply c stOK 0 (le 16 (s.respondTo j (ofLe ((c.args.drop 4).take 16))))

/-- KEY_RESPOND, 0x0B06 (R380). -/
def execKeyRespond (mb : Fin 8) (s : State) : Out :=
  .next (s.command mb 0x0B06 .running false (fun c s => s.hostRespond c))

/-- NFC_CARD_RESPOND, 0x0A04 (R299). -/
def execNfcCardRespond (mb : Fin 8) (s : State) : Out :=
  .next (s.command mb 0x0A04 .running false (fun c s => s.hostRespond c))

/-- KEY_ERASE, 0x0B07 (R376). -/
def execKeyErase (mb : Fin 8) (s : State) : Out :=
  .next (s.command mb 0x0B07 .any true (fun c s =>
    let j := c.u32 0
    if !isUser j then s.reply c stBAD_ARG 0 else (s.storeJewel j none).reply c stOK 0))

/-- KEY_EXPORT, 0x0B08 (R383): a user jewel without EXPORT_BAN whose OPS holds EXPORT. -/
def execKeyExport (mb : Fin 8) (s : State) : Out :=
  .next (s.command mb 0x0B08 .any true (fun c s =>
    let j := c.u32 0
    if j ≥ 64 then s.reply c stBAD_ARG 0
    else if !isUser j ∨ (s.jattr j).exportBan ∨ !s.jewelOk j opEXPORT (6 + c.port) 2 then s.keyRefuse c j
    else if !s.drbgOk then s.reply c stBUSY 0
    else
      let d := s.drbg 3
      let e := d.2.drbg 3
      match e.2.wrapKey j d.1 e.1 (c.args.drop 4) with
      | some m => (e.2.jewelUsed j).reply c stOK 0 m
      | none => (e.2.jewelUsed j).reply c stBAD_ARG 0))

/-- Whether an advance of the life-cycle state is one of R386, and whether its world and its other conditions hold. -/
def State.lcWorld (s : State) (port target : Nat) : Bool := s.inService port || (target == 4 && s.glb.lifecycle == 3)
def State.lcAllowed (s : State) (target : Nat) : Bool :=
  let l := s.glb.lifecycle
  (l == 1 && target == 2 && (s.jewel 8).isSome && (s.jewel 9).isSome && (s.jewel 12).isSome && s.pwdSet) ||
    ((l == 1 || l == 2) && target == 3) || (decide (1 ≤ l) && decide (l < 4) && target == 4)

/-- KEY_LC_ADVANCE, 0x0B09 (R386): the fuses of the next state are blown; BUSY while an earlier advance runs. -/
def execKeyLcAdvance (mb : Fin 8) (s : State) : Out :=
  .next (s.command mb 0x0B09 .any false (fun c s =>
    let g := c.u32 0
    if g > 4 ∨ c.u32 1 ≠ 0x5A17 then s.reply c stBAD_ARG 0
    else if s.key.lc.isSome then s.reply c stBUSY 0
    else if !s.lcWorld c.port g then s.reply c stREFUSED_AUTH 0
    else if !s.lcAllowed g then s.reply c stREFUSED_STATE 0
    else s.updKey (fun k => { k with lc := some { target := g, cmd := { port := c.port, seq := c.seq }, beat := s.now } })))

/-- LC_FUSE_READBACK (R386, R24): both lanes have read the new fuses back; `equal` says whether they agree. RETURNED and
SCRAPPED put the outputs into the setting position, where they stay; the totals are saved. -/
def execLcFuseReadback (equal : Bool) (s : State) : Out :=
  match s.key.lc with
  | none => .next s
  | some a =>
    let t := s.updKey (fun k => { k with lc := none })
    if !equal then .next ((t.raise 0xB008 SAFEHOLD t.srcOwner 0 0).enterSafeHold 0xB008)
    else
      let t := ({ t with glb := { t.glb with lifecycle := a.target } }.put GLB_LIFECYCLE_LC a.target).set1 KEY_EVENTS_LC_ADVANCED
      let t := t.replyTo a.cmd.port a.cmd.seq stOK 0
      let t := if a.target = 4 then (t.updKey (fun k => { k with loaded := List.replicate 64 none })).showLoaded else t
      .next (when (decide (3 ≤ a.target)) (fun u => (when s.lanesReach (fun v => v.fullSave true) u).settingOutputs) t)

/-- The check value of a jewel (KEY.JW_KCV): bytes 0 to 3, big-endian, of SHA-256 of its public key, or of HMAC-SHA-256 under a secret over
16 zero bytes. -/
def checkValue (typ v : Nat) : Nat :=
  let d := if typ = tySECRET ∨ typ = tyHMAC then hmacBytes (leBytes 32 v) (List.replicate 16 0)
    else sha256 (fromBytes (publicKey typ v))
  beNum (d.take 4)

/-- The words KEY.JW_ATTR0, JW_ATTR1, JW_USE and JW_KCV (0 to 3) of the jewel that KEY.JW_SEL names; they show nothing before
step 4 of start-up. -/
def State.jwWord (s : State) (w : Nat) : Nat :=
  let j := s.get KEY_JW_SEL_JEWEL
  let a := s.jattr j
  if s.get KEY_STATUS_LOADED = 0 then 0
  else if w = 0 then
    a.lc * 2 ^ 27 + a.worlds * 2 ^ 24 + (if a.exportBan then 2 ^ 21 else 0) +
      (if (s.jewel j).isSome then 2 ^ 20 else 0) + a.origin * 2 ^ 18 + a.masters
  else if w = 1 then
    a.ops * 2 ^ 16 + (if (s.jewel j).isSome then a.typ * 2 ^ 12 else 0) + a.depth * 2 ^ 9 + a.parent
  else if w = 2 then nth s.key.refused 0 j * 2 ^ 16 + nth s.key.used 0 j
  else match s.jewel j with
    | some v => checkValue a.typ v
    | none => 0

end Sys2Proof.Machine
end

