-- ==== Sys2Proof/Machine/Placement.lean ====
section
/-! DEFINITION. Energy placement of 09_placement.md: the round of R207 to R214, the battery (R215), the price (R216), discharge
(R217), the breach of the site limit (R218, R219), islanding (R222), the partners' shares (R223 to R225), and the commands
0x0601 to 0x0604. Powers are whole watts. -/
namespace Sys2Proof.Machine

/-! ### Inputs of a round -/

/-- The phases of SIT.CFG.INJ that still inject, and those a beat frame to an address goes out on (R319): where a node was
last heard, every one for a broadcast or a node not heard yet. -/
def State.injOk (s : State) : Nat := clearMask (s.get SIT_CFG_INJ) s.sit.injStop
def State.phasesTo (s : State) (dst : Nat) : Nat :=
  match s.sit.nodes.find? (fun x => x.1 == dst) with
  | some x => if dst = 0 then s.injOk else 2 ^ x.2.1
  | none => s.injOk

/-- Queue a site-line message (R328, R329); its MSEQ counts on. -/
def State.sendMsg (s : State) (m : SitMsg) : State :=
  let q := (s.sit.mseq + 1) % 65536
  let left := if 17 ≤ m.dst then s.phasesTo m.dst else m.left
  { s with sit := { s.sit with mseq := q, outq := s.sit.outq ++ [{ m with mseq := q, left := left }] } }
def State.sendSite (s : State) (dst mtype : Nat) (payload : List Byte) (cmd : Option CmdRef) : State :=
  s.sendMsg { dst := dst, mtype := mtype, payload := payload, cmd := cmd }

/-- The mean power of an energy in 2^-40 W·s over a round of 10 ms, in whole watts (R207). -/
def meanW (e : Int) : Int := e * 100 / 2 ^ 40

/-- Mean import minus export of a meter over the round that ends (R208). -/
def State.meanOf (s : State) (m : Nat) : Int := meanW ((nth s.gov.imp 0 m : Nat) - (nth s.gov.exp 0 m : Nat))

/-- The meters of a role (R208). -/
def State.metersOf (s : State) (role : Nat) : List Nat :=
  (List.range 32).filter (fun m => s.mKind m != 0 && s.get (MTR_M_CFG_ROLE m) == role)

/-- Mean generation, battery and site power of the round that ends (R208). -/
def State.pPv (s : State) : Int := sumI ((s.metersOf 2).map (fun m => meanW (nth s.gov.imp 0 m : Nat)))
def State.pBat (s : State) : Int := sumI ((s.metersOf 3).map s.meanOf)
def State.pSite (s : State) : Int := match s.siteMeter with | some m => s.meanOf m | none => 0

/-- The site meter exists and is not HALTED (R221). -/
def State.siteValid (s : State) : Bool := match s.siteMeter with | some m => !s.isSet (MTR_M_STATE_HALTED m) | none => false

/-- The outlets that hold a session, with it. -/
def State.sesOutlets (s : State) : List (Nat × Nat) :=
  (List.range 12).filterMap (fun n => (s.sesOn n).map (fun k => (n, k)))

/-- IMPORT_EFF in 0.1 kW (R208): the lowest of IMPORT, the host limit and, on a partner, the share. -/
def State.importEff (s : State) : Nat :=
  let a := s.get GOV_PL_LIMITS_IMPORT
  let b := if s.isSet GOV_PL_LIMIT_EFF_HOST_LIM then min a (s.get GOV_PL_LIMIT_EFF_HOST_LIM) else a
  match s.gov.share with
  | some x => if s.isSet GOV_PL_CFG_PARTNER then min b x else b
  | none => b

/-- Partner devices known (R223): STATE of GOV.REG_Pk_ID is not 0. -/
def State.partners (s : State) : List Nat := (List.range 255).filter (fun k => s.get (GOV_REG_P_ID_STATE k) != 0)

def State.partner (s : State) (k : Nat) : PartnerSt := nth s.gov.partners {} k
def State.updPartner (s : State) (k : Nat) (f : PartnerSt → PartnerSt) : State :=
  s.updGov (fun g => { g with partners := upd g.partners k f })

/-- What a partner counts for in W (R224, R225): LOST, the higher of its last and its FAILSAFE share; else the highest of
its share in force, a share it has not yet acknowledged giving up, and a raise not yet sent. -/
def State.shareOf (s : State) (k : Nat) : Int :=
  let cur := s.get (GOV_REG_P_SHARE_SHARE k)
  let p := s.partner k
  let w := max (max cur p.oldShare) (p.raise.getD 0)
  100 * ((if s.get (GOV_REG_P_ID_STATE k) = 2 then max w (s.get (GOV_REG_P_SHARE_FAILSAFE k)) else w : Nat) : Int)

/-- L_base in W (R209, R221): the larger of L_u and AUX, or FALLBACK_LOAD while the site meter is invalid. -/
def State.lBase (s : State) : Int :=
  if !s.siteValid then 100 * s.get GOV_PL_FALLBACK_LOAD
  else
    let ses := sumI (s.sesOutlets.map (fun x => s.meanOf (s.meterOf x.1)))
    let acts : Int := if s.isSet GOV_PL_CFG_REGULATOR then sumN (s.partners.map (fun k => 100 * s.get (GOV_REG_P_ACT_P_ACT k)))
      else 0
    let lu := s.pSite - ses - s.pBat + s.pPv - acts
    max lu ((s.get GOV_BUDGET_AUX_AUX / 10 : Nat) : Int)

/-! ### Battery -/

/-- The converters that the image gives (R215). -/
def State.convs (s : State) : List Nat := (List.range 2).filter (fun j => (s.conv j).target.isSome)

/-- A STATUS frame of a converter is current (R183). -/
def State.convCurrent (s : State) (j : Nat) : Bool := (s.conv j).statusBeat.isSome && !(s.conv j).lost && (s.conv j).state != 5

/-- Battery data are valid (R215). -/
def State.batValid (s : State) : Bool :=
  (match s.gov.batEnd with | some b => decide (s.now < b) | none => false) && s.convs.any s.convCurrent

/-- SoC of the battery in 0.1 %: the mean over its converters (log entry 31). -/
def State.batSoc (s : State) : Nat := sumN (s.convs.map (fun j => (s.conv j).soc)) / max 1 s.convs.length

/-- The discharge and charge limits of a converter in W (R215). -/
def State.convDis (s : State) (j : Nat) : Nat :=
  if s.convCurrent j ∧ (s.conv j).target.isSome then 100 * min (s.conv j).disLim (s.conv j).pAvail else 0
def State.convCh (s : State) (j : Nat) : Nat :=
  if s.convCurrent j ∧ (s.conv j).target.isSome then 100 * min (s.conv j).chLim (s.conv j).pAvail else 0

/-- B_dis and B_ch of R215 in W. -/
def State.bDis (s : State) : Int :=
  if s.batValid ∧ 10 * s.get GOV_PL_SOC_CFG_SOC_MIN < s.batSoc then
    (min (100 * s.get GOV_PL_BAT_CFG_DIS_MAX) (s.convDis 0 + s.convDis 1) : Nat) else 0
def State.bCh (s : State) : Int :=
  if s.batValid ∧ s.batSoc < 10 * s.get GOV_PL_SOC_CFG_SOC_MAX then
    (min (100 * s.get GOV_PL_BAT_CFG_CH_MAX) (s.convCh 0 + s.convCh 1) : Nat) else 0

/-- The setpoint table of R215. -/
def State.batterySetpoint (s : State) (g0 lim : Int) : Int :=
  let band := s.get GOV_PL_STATE_BAND
  if g0 > lim then -(min (g0 - lim) s.bDis)
  else if band = 2 ∧ g0 > 0 then -(min g0 s.bDis)
  else if band = 0 then min s.bCh (lim - g0)
  else if g0 < 0 then min s.bCh (-g0)
  else 0

/-! ### Ceilings, minimums and needs -/

/-- ΣU of an AC outlet in mV (R210): the previous cycle's phase voltages of its site phases, or n × Un. -/
def State.sumU (s : State) (n : Nat) : Nat :=
  let ph := (s.phasesOf n).filter (fun q => q != 0)
  match s.siteMeter with
  | some m =>
    if s.siteValid then (sumI (ph.map (fun q => s.geti (MTR_M_U_U m (q - 1))))).toNat else ph.length * s.gov.un * 1000
  | none => ph.length * s.gov.un * 1000

/-- The DC connector factor k_T of O_(8+j) as a fraction (R211). -/
def State.kT (s : State) (j : Nat) : Nat × Nat :=
  let n := s.gov.tempN
  let t := nth s.gov.temps (0, 0) j
  let hot := max t.1 t.2
  let top : Int := 10 * s.get (OUT_OC_CFG_T_TRIP (8 + j)) * n
  if n = 0 ∨ hot ≤ top - 150 * n then (1, 1)
  else if hot ≥ top then (0, 1)
  else ((top - hot).toNat, 150 * n)

/-- The outlet ceiling of a DC outlet in W after DERATE and k_T, rounded down (R210). -/
def State.dcCeil (s : State) (n : Nat) : Nat :=
  let k := s.kT (n - 8)
  100 * min (s.o n).pAvail (s.o n).cfg.pMax * s.get GOV_BUDGET_DERATE_DERATE * k.1 / (65536 * k.2)

/-- Whether a session's account is exhausted (R156). -/
def State.exhausted (s : State) (k : Nat) : Bool :=
  s.isSet (SES_STATE_ACC_VALID k) && s.acctMode (s.get (SES_STATE_ACCOUNT k)) != 0 &&
    decide (s.balance (s.get (SES_STATE_ACCOUNT k)) ≤ 0)

/-- The credit limit of a session is reached (R210, R156): its COST, or its account is exhausted. -/
def State.creditOut (s : State) (k : Nat) : Bool :=
  (s.rdN (A_SES_CREDIT k) != 0xFFFFFFFF && decide (s.rd128i (A_SES_COST k) ≥ s.rdN (A_SES_CREDIT k) * 2 ^ 40)) ||
    s.exhausted k

/-- A session takes part in the round (R210). -/
def State.eligible (s : State) (n k : Nat) : Bool :=
  (s.sst k == SUSPENDED || s.sst k == CHARGING) && s.usable n && !s.isSet (OUT_RETRY_HOLD n) &&
    !s.isSet (OUT_CONTACT_RDC_LOCK n) && !s.creditOut k && !(s.sx k).minOff &&
    (!s.islanded || (decide (s.get (SES_STATE_PRIO k) ≤ s.get GOV_PL_CFG_ISLAND_CLASS) && s.batValid &&
      decide (10 * s.get GOV_PL_SOC_CFG_ISL_SES_SOC ≤ s.batSoc)))

/-- Departure of a session in MONO seconds, none when unknown (R212). -/
def State.departOf (s : State) (k : Nat) : Option Nat :=
  if s.get (SES_TARGET_DEPART k) = 0xFFFF then none
  else some (s.rd128 (A_SES_START k) % 2 ^ 64 + 60 * s.get (SES_TARGET_DEPART k))

/-- E_rem in W·s, and the time left in s, at least 1 min (R212). -/
def State.eRem (s : State) (k : Nat) : Int := 360000 * s.get (SES_TARGET_E_REQ k) - s.rd128i (A_SES_E_IMP k) / 2 ^ 40
def State.tLeft (s : State) (dep : Nat) : Nat := max 60 (dep - s.mono)

/-- The item of a session (R210, R212); the need is rounded to the nearest watt (log entry 32), the 6 A of the minimum up to a whole watt
(log entry 36). -/
def State.itemOf (s : State) (n k : Nat) : PlItem :=
  let su := if s.isDc n then 0 else s.sumU n
  let pmax := 100 * s.get (SES_POWER_PMAX k)
  let pmin : Int := 100 * s.geti (SES_POWER_PMIN k)
  let dep := s.departOf k
  { key := k, cls := s.get (SES_STATE_PRIO k), dep := dep, tie := n, dc := s.isDc n, su := su
    c := (min pmax (if s.isDc n then s.dcCeil n else s.iLim n * su / 10000) : Nat)
    m := max pmin ((if s.isDc n then 100 * s.get GOV_PL_MARGIN_DC_MIN else (60 * su + 9999) / 10000 : Nat) : Int)
    n := match dep with
      | none => 0
      | some d => let e := s.eRem k; if e ≤ 0 then 0 else (2 * e + s.tLeft d) / (2 * s.tLeft d) }

/-- The item of a partner at a share period start (R223). -/
def State.partnerItem (s : State) (k : Nat) : PlItem :=
  { key := 128 + k, cls := s.get (GOV_REG_P_ID_CLASS k), dep := (s.partner k).depart, tie := 128 + k, dc := false
    c := (100 * s.get (GOV_REG_P_DEMAND_P_MAX k) : Nat), m := (100 * s.get (GOV_REG_P_DEMAND_P_MIN k) : Nat)
    n := (100 * s.get (GOV_REG_P_ACT_P_NEED k) : Nat) }

/-- Whether departure a comes before departure b, unknown last. -/
def depBefore : Option Nat → Option Nat → Bool
  | some a, some b => decide (a < b)
  | some _, none => true
  | none, _ => false

/-- The order of the algorithm: class, departure, outlet number. -/
def PlItem.before (x y : PlItem) : Bool :=
  if x.cls ≠ y.cls then decide (x.cls < y.cls)
  else if x.dep ≠ y.dep then depBefore x.dep y.dep
  else decide (x.tie < y.tie)

/-- Insert by departure, latest first, unknown last of all; ties as the algorithm orders them (R217). -/
def insertLate (x : PlItem) : List PlItem → List PlItem
  | [] => [x]
  | y :: t =>
    let later : Bool := match x.dep, y.dep with | some a, some b => decide (b < a) | some _, none => true | none, _ => false
    if later || (x.dep == y.dep && x.before y) then x :: y :: t else y :: insertLate x t
def sortLate (l : List PlItem) : List PlItem := l.foldl (fun acc x => insertLate x acc) []

/-- Sort items into that order. -/
def insertItem (x : PlItem) : List PlItem → List PlItem
  | [] => [x]
  | y :: t => if x.before y then x :: y :: t else y :: insertItem x t
def sortItems (l : List PlItem) : List PlItem := l.foldl (fun acc x => insertItem x acc) []

/-! ### The algorithm -/

/-- Pass 1: minimums of all classes (R214). A DC session whose ceiling has fallen below its minimum gets none, so that its power is 0
before the thermal latch sets, as R211 has it (DESIGN CHOICE, log entry 155: the pass as R214 writes it asks for the pool alone). -/
def passMin : List PlItem → Int → List PlItem × Int
  | [], pool => ([], pool)
  | x :: t, pool =>
    let y := if x.m ≤ pool ∧ !(x.dc && decide (x.c < x.m)) then { x with a := x.m } else { x with starved := true }
    let r := passMin t (pool - y.a)
    (y :: r.1, r.2)

/-- Whether an item is in the set C of a class. -/
def PlItem.inClass (x : PlItem) (c : Nat) : Bool := x.cls == c && decide (x.a > 0)

/-- Pass 2: needs of a class, in order (R214). -/
def passNeed (c : Nat) : List PlItem → Int → List PlItem × Int
  | [], pool => ([], pool)
  | x :: t, pool =>
    let want := min (min x.n x.c - x.a) pool
    let d := if x.inClass c && decide (want > 0) then want else 0
    let r := passNeed c t (pool - d)
    ({ x with a := x.a + d } :: r.1, r.2)

/-- The share of an item at a level. -/
def PlItem.atLevel (x : PlItem) (l : Int) : Int := max x.a (min l x.c)

/-- What a level costs over a class. -/
def levelCost (c : Nat) (l : List PlItem) (level : Int) : Int :=
  sumI (l.map (fun x => if x.inClass c then x.atLevel level - x.a else 0))

/-- The largest level below 2^32 whose cost the pool covers; above every ceiling a level changes nothing. -/
def findLevel (c : Nat) (l : List PlItem) (pool : Int) : Nat → Int → Int
  | 0, lo => lo
  | k + 1, lo =>
    let mid := lo + (2 : Int) ^ k
    findLevel c l pool k (if levelCost c l mid ≤ pool then mid else lo)

/-- Passes 2 and 3 for one class (R214). -/
def passClass (c : Nat) (l : List PlItem) (pool : Int) : List PlItem × Int :=
  let r := passNeed c l pool
  let level := findLevel c r.1 r.2 32 0
  (r.1.map (fun x => if x.inClass c then { x with a := x.atLevel level } else x), r.2 - levelCost c r.1 level)

/-- The charging passes over sorted items (R214). -/
def passes (l : List PlItem) (pool : Int) : List PlItem × Int :=
  [0, 1, 2, 3].foldl (fun r c => passClass c r.1 r.2) (passMin l pool)

/-- The follow pass over DC sessions in rising order; the caller gives the items in reverse (R214). -/
def passCut : List PlItem → Int → List PlItem
  | [], _ => []
  | x :: t, cut =>
    if x.dc && decide (x.a > 0) && decide (cut > 0) then
      let d := max 0 (min cut (x.a - x.m))
      let rest := cut - d
      if rest > 0 then { x with a := 0 } :: passCut t (rest - (x.a - d))
      else { x with a := x.a - d } :: passCut t rest
    else x :: passCut t cut

/-- Discharges, latest departure first, each up to |PMIN| within a total (R217). -/
def passDischarge : List (PlItem × Int) → Int → List PlItem
  | [], _ => []
  | (x, p) :: t, total =>
    let d := max 0 (min p total)
    { x with a := -d } :: passDischarge t (total - d)

/-- Whether a session is chosen for discharge (R217); `breach`: the round before was a breach round. -/
def State.chosen (s : State) (x : PlItem) (breach : Bool) : Bool :=
  let k := x.key
  let n := x.tie
  s.isSet GOV_PL_CFG_V2G_EN && s.isSet (OUT_CFG_BPT n) && s.isSet (SES_STATE_V2G_OK k) &&
    decide (s.geti (SES_POWER_PMIN k) < 0) && s.get (SES_PROTO_PROTO k) == 4 && (s.o n).link.bpt && !s.islanded &&
    s.get GOV_BUDGET_DERATE_SUPPLY == 0 && (s.get GOV_PL_STATE_BAND == 2 || breach) &&
    (match x.dep with
     | some d => decide (((s.tLeft d : Int) - 60 * s.get GOV_PL_CFG_DIS_GUARD) * x.c ≥ s.eRem k)
     | none => false)

/-- Whether an AC session's allowed current was lowered within the last 5 s (R214). -/
def State.following (s : State) (n k : Nat) : Bool :=
  !s.isDc n && (s.sx k).lowered != 0 && decide (s.now ≤ (s.sx k).lowered + 5 * secBeats)

/-- follow[s] (R214): measured power for 5 s after an AC session's current was lowered. -/
def State.follow (s : State) (x : PlItem) : Int :=
  if x.key < 128 ∧ s.following x.tie x.key then s.meanOf (s.meterOf x.tie) else x.a

/-- The draw of the AC sessions that a round leaves out while they still follow a lowered current (R214). -/
def State.followRest (s : State) (items : List PlItem) : Int :=
  sumI ((s.sesOutlets.filter (fun x => s.following x.1 x.2 && !items.any (fun y => y.key == x.2))).map (fun x =>
    max 0 (s.meanOf (s.meterOf x.1))))

/-! ### What a round decides beside the allocations -/

/-- Islanded is set (R222): the site meter is in NOREF, or every phase was below 0.5 Un for 2 cycles. Islanded governs a
breach (R226). -/
def State.islandEntry (s : State) : State :=
  let noref : Bool := match s.siteMeter with | some m => s.isSet (MTR_M_STATE_NOREF m) | none => false
  if !s.islanded ∧ (noref ∨ 2 ≤ s.gov.lowCycles) then
    let t := ((s.set1 GOV_PL_STATE_ISLANDED).set1 GOV_PL_EVENTS_ISLAND_CHG).raise 0x5305 NOTE s.srcOwner 0 0
    let t := ((t.put GOV_PL_BREACH_ROUNDS 0).put GOV_PL_STATE_STAGE 0).updGov (fun g => { g with
      breach := false, quiet := 0, uncontrolled := false, okSince := none })
    t.updSupply
  else s

/-- SITE_VALID and 0x5309 (R221). -/
def State.judgeSite (s : State) : State :=
  let v := s.siteValid
  let t := (s.putB GOV_PL_STATE_SITE_VALID v).updGov (fun g => { g with siteBad := !v })
  when (!v && !s.gov.siteBad) (fun u => u.raise 0x5309 DEGRADE u.srcOwner 0 0) t

/-- The price in force and its band (R216). -/
def State.judgePrice (s : State) : State :=
  let host : Bool := match s.gov.priceEnd with | some b => decide (s.now < b) | none => false
  let p := if host then s.gov.hostPrice else match s.siteMeter with | some m => s.price (s.progOfMeter m) | none => 0
  let band := if p ≤ s.get GOV_PL_PRICE_LOW_LOW then 0 else if s.get GOV_PL_PRICE_HIGH_HIGH ≤ p then 2 else 1
  ((s.putSat GOV_PL_PRICE_PRICE p).putB GOV_PL_STATE_PRICE_HOST host).put GOV_PL_STATE_BAND band

/-- The AC session to open at stage 3 (R219): by how much its current exceeds the allowed one on some phase, in mA. -/
def State.excess (s : State) (n : Nat) : Int :=
  let m := s.meterOf n
  ((List.range (s.met m).iCh.length).map (fun p => s.geti (MTR_M_I_I m p))).foldl max 0 -
    100 * s.get (OUT_LIMIT_I_ALLOWED n)

/-- Whether candidate a is opened before candidate b: largest excess, lowest class (3 first), latest departure, highest
outlet number (R219). -/
def State.openFirst (s : State) (a b : Nat × Nat) : Bool :=
  let ca := s.get (SES_STATE_PRIO a.2)
  let cb := s.get (SES_STATE_PRIO b.2)
  let da := s.departOf a.2
  let db := s.departOf b.2
  if s.excess a.1 ≠ s.excess b.1 then decide (s.excess b.1 < s.excess a.1)
  else if ca ≠ cb then decide (cb < ca)
  else if da ≠ db then depBefore db da
  else decide (b.1 < a.1)

/-- The outlet that the last resort opens, or none (R219). -/
def State.lastResort (s : State) : Option Nat :=
  let cands := s.sesOutlets.filter (fun x => !s.isDc x.1 && s.sst x.2 == CHARGING && decide (s.excess x.1 > 1000))
  (cands.foldl (fun acc x => match acc with | none => some x | some y => if s.openFirst x y then some x else acc) none).map
    (·.1)

/-- The breach response of a round (R218, R219, R221), when the mean site power of round r - 1 exceeds IMPORT_EFF. Stage 3 is the first
breach round of an episode in which ROUNDS is 1 000 or more: it answers the outlet to open, or raises 0x5303 and opens nothing. -/
def State.breachRound (s : State) : Option Nat × State :=
  let above := s.siteValid && !s.islanded && decide (s.pSite > 100 * s.get GOV_PL_LIMIT_EFF_IMPORT_EFF)
  let rounds := s.get GOV_PL_BREACH_ROUNDS
  if above then
    let t := (s.putSat GOV_PL_BREACH_ROUNDS (rounds + 1)).updGov (fun g => { g with breach := true, quiet := 0 })
    let t := if rounds = 0 then
        ((t.put GOV_PL_STATE_STAGE 1).set1 GOV_PL_EVENTS_BREACH).raise 0x5301 NOTE t.srcOwner 0 0
      else if t.get GOV_PL_STATE_STAGE < 2 then t.put GOV_PL_STATE_STAGE 2 else t
    let t := if rounds = 0 then t.updGov (fun g => { g with uncontrolled := false }) else t
    if rounds + 1 ≥ 1000 ∧ !t.gov.uncontrolled then
      match t.lastResort with
      | some n => (some n, t.put GOV_PL_STATE_STAGE 3)
      | none =>
        (none, ((t.updGov (fun g => { g with uncontrolled := true })).put GOV_PL_STATE_STAGE 4).raise 0x5303 DEGRADE
          t.srcOwner 0 0)
    else (none, t)
  else
    let t := s.updGov (fun g => { g with breach := false })
    if rounds = 0 then (none, t.put GOV_PL_STATE_STAGE 0)
    else if t.gov.quiet + 1 ≥ 100 then
      (none, ((t.put GOV_PL_BREACH_ROUNDS 0).put GOV_PL_STATE_STAGE 0).updGov (fun g => { g with quiet := 0 }))
    else (none, (t.putSat GOV_PL_BREACH_ROUNDS (rounds + 1)).updGov (fun g => { g with quiet := g.quiet + 1 }))

/-- The allocations of a round (R214): items with their allocations, the pool of pass 1, G0 and the battery setpoint. In the round at a share
period start the partners enter as sessions (R223); the sessions then share what is left while each partner counts at the higher of its
old and new share (R224). -/
def State.allocate9 (s : State) (pSite lBase : Int) (period : Bool) : PlRound :=
  let lim : Int := if s.islanded then 0 else 100 * ((s.get GOV_PL_LIMIT_EFF_IMPORT_EFF : Int) - s.get GOV_PL_MARGIN_MARGIN)
  let reg := s.isSet GOV_PL_CFG_REGULATOR
  let parts := if reg then s.partners else []
  let inAlg := if period then parts.filter (fun k => s.get (GOV_REG_P_ID_STATE k) != 2) else []
  let held := sumI ((parts.filter (fun k => !inAlg.contains k)).map s.shareOf)
  let pv := s.pPv
  let use := s.islanded || s.isSet GOV_PL_CFG_PEAK_SHAVE || s.get GOV_PL_STATE_BAND == 2 || s.gov.breach
  let bDis := if use then s.bDis else 0
  let pool := if s.islanded then bDis - lBase + pv else lim - lBase + pv - held + bDis
  let news := if inAlg = [] then [] else
    let all := (s.sesOutlets.filter (fun x => s.eligible x.1 x.2)).map (fun x => s.itemOf x.1 x.2)
    ((passes (sortItems (all.filter (fun x => !s.chosen x s.gov.breach) ++ inAlg.map s.partnerItem)) pool).1).filter
      (fun x => decide (128 ≤ x.key))
  let shares := sumI (news.map (fun x => max x.a (s.shareOf (x.key - 128))))
  let pool := pool - shares
  let held := held + shares
  let all := (s.sesOutlets.filter (fun x => s.eligible x.1 x.2)).map (fun x => s.itemOf x.1 x.2)
  let dis := all.filter (fun x => s.chosen x s.gov.breach)
  let chg := sortItems (all.filter (fun x => !s.chosen x s.gov.breach))
  let items := (passes chg pool).1
  let base := lBase + held - pv
  let imp := base + sumI (items.map (·.a))
  let goal := if s.get GOV_PL_STATE_BAND = 2 then 0 else max 0 lim
  let dItems := passDischarge ((sortLate dis).map (fun x => (x, 100 * ((s.geti (SES_POWER_PMIN x.key)).natAbs : Int))))
    (imp - goal)
  let g0 := base + sumI ((items ++ dItems).map (fun x => max x.a (s.follow x))) + s.followRest (items ++ dItems)
  let bat := s.batterySetpoint g0 lim
  let cut := g0 - lim - bDis
  let fin := if cut > 0 then (passCut items.reverse cut).reverse else items
  let atCeil := (fin ++ dItems).all (fun x => decide (x.a ≥ x.c))
  { round := s.now / 400, items := fin ++ dItems ++ news, bat := bat, batDis := s.bDis, batOn := s.batValid, pool := pool
    pSite := pSite, lBase := lBase, pPv := pv, pBat := s.pBat
    exportBad := decide (g0 - bat < -(100 * (s.get GOV_PL_LIMITS_EXPORT : Int))) && atCeil && decide (bat ≥ s.bCh) }

/-- Sessions whose credit is used up are asked to stop (R210); from this round the credit limit of an exhausted account's sessions is 0
(R156), and those are stopped from PLUGGED on (R176). -/
def State.creditStops (s : State) : State :=
  forEach s.sesOutlets (fun x u =>
    let none_ := u.exhausted x.2
    let t := when (none_ && u.sesLive x.2) (fun v => v.wrN (A_SES_CREDIT x.2) 0) u
    if (none_ || u.sst x.2 == SUSPENDED || u.sst x.2 == CHARGING) && t.creditOut x.2 then t.stopSession x.2 rCREDIT 0 false else t) s

/-- k_T and ceilings of the DC outlets (R211). -/
def State.showDc (s : State) : State :=
  forUpTo 4 (fun j u =>
    let k := s.kT j
    (u.putSat (GOV_PL_DC_CEIL j) (s.dcCeil (8 + j) / 100)).put (GOV_PL_DC_K_T j) (10000 * k.1 / k.2)) s

/-! ### The apply beat -/

/-- The current of an AC allocation in W over ΣU in mV (R212), in µA. -/
def ampsAc (a : Int) (su : Nat) : Nat := if su = 0 then 0 else a.toNat * 1000000000 / su

/-- Apply an allocation to a session (R207, R212 to R214). -/
def State.applyOne (s : State) (n k : Nat) (x : Option PlItem) : State :=
  let a := match x with | some y => y.a | none => 0
  let su := match x with | some y => y.su | none => 0
  let t := s.puti (SES_ALLOC_ALLOC k) a
  let t := if s.isDc n then t
    else (t.updO n (fun o => { o with allocI := ampsAc a.natAbs su })).setAllowed n
  let t := when (decide (a < 0)) (fun u => u.updS k (fun y => { y with flags := y.flags ||| 32 })) t
  if a ≠ 0 then t
  else if t.sst k = CHARGING then
    let off := t.get GOV_PL_CFG_MIN_OFF
    (t.suspend k).updS k (fun y => { y with minOff := off != 0, minOffEnd := s.now + off * secBeats })
  else if t.sst k = SUSPENDED ∧ (t.o n).close.step ≠ 0 then (t.dropClose n).requestOpen n
  else t

/-- The setpoint of a converter (R215): its part of the battery's in proportion to its limit; OFF when battery data are not
valid, DISCHARGE with I_SET 0 and P_LIM at its part of B_dis while islanded (R222). The voltage it is sent is a free value:
R215 gives none. -/
def State.applyConv (s : State) (j : Nat) (set : Int) (dis : Int) (on : Bool) : State :=
  let x := s.conv j
  let v := s.draw
  if x.target.isNone then s
  else if !on || !s.convCurrent j then (s.updConv j ConvSt.off).puti (GOV_PL_BAT_SET_SET j) 0
  else
    let i := if x.vOut = 0 then 0 else Int.tdiv (100 * set) x.vOut
    let isl := s.islanded
    let t := v.2.updConv j (fun y => { y with
      setMode := if isl || decide (set < 0) then 3 else 2
      setV := v.1 % 65536
      setI := if isl then 0 else i
      setP := (if isl then dis.natAbs else set.natAbs) / 100 })
    (t.puti (GOV_PL_BAT_SET_SET j) (satI 16 (set / 100))).put (GOV_PL_BAT_SET_SOC j) x.soc

/-- Both converters (R215). -/
def State.applyBattery (s : State) (p : PlRound) : State :=
  let part (w : Int) (x y : Nat) : Int := if x + y = 0 then 0 else Int.tdiv (w * x) (x + y : Nat)
  let lim (j : Nat) : Nat := if p.bat < 0 ∨ s.islanded then s.convDis j else s.convCh j
  let set0 := part p.bat (lim 0) (lim 1)
  let dis0 := part p.batDis (s.convDis 0) (s.convDis 1)
  (s.applyConv 0 set0 dis0 p.batOn).applyConv 1 (p.bat - set0) (p.batDis - dis0) p.batOn

/-- Send a partner its share (R224, R329). -/
def State.sendShare (s : State) (k : Nat) (lowered : Bool) : State :=
  let sh := s.get (GOV_REG_P_SHARE_SHARE k)
  let bytes := le 2 sh ++ le 1 (s.get GOV_REG_STATE_PERIOD) ++ le 1 (if lowered then 1 else 0)
  (s.sendSite (s.get (GOV_REG_P_ID_NODE k)) 0x02 bytes none).updPartner k (fun p => { p with sent := sh, sentBeat := s.now })

/-- The counts of GOV.REG_STATE. -/
def State.showPartners (s : State) : State :=
  let count (v : Nat) : Nat := ((List.range 255).filter (fun k => s.get (GOV_REG_P_ID_STATE k) == v)).length
  ((s.putSat GOV_REG_STATE_PARTNERS s.partners.length).putSat GOV_REG_STATE_LOST (count 2)).putSat GOV_REG_STATE_PENDING (count 3)

/-- Send the raised shares once no lowering still waits (R224). -/
def State.sendRaises (s : State) : State :=
  if (List.range 255).any (fun k => (s.partner k).wait.isSome) then s
  else forUpTo 255 (fun k u =>
    match (u.partner k).raise with
    | some v => ((u.put (GOV_REG_P_SHARE_SHARE k) v).updPartner k (fun p => { p with raise := none })).sendShare k false
    | none => u) s

/-- A partner's new share in 0.1 kW (R223, R224, R329): a lowering is sent at once and waits for its acknowledgement, a raise
waits; a change below 0.5 kW is not sent, and every share is sent at least once in 2 periods. -/
def State.newShare (s : State) (k v : Nat) : State :=
  let cur := s.get (GOV_REG_P_SHARE_SHARE k)
  let due := decide ((s.partner k).sentBeat + 2 * s.get GOV_REG_STATE_PERIOD * secBeats ≤ s.now)
  if v < cur ∧ (cur - v ≥ 5 ∨ v = 0) then
    let t := (s.put (GOV_REG_P_SHARE_SHARE k) v).put (GOV_REG_P_ID_STATE k) 3
    (t.updPartner k (fun p => { p with oldShare := max cur p.oldShare, wait := some s.now, raise := none })).sendShare k true
  else if cur + 5 ≤ v then s.updPartner k (fun p => { p with raise := some v })
  else if due then (s.updPartner k (fun p => { p with raise := none })).sendShare k (s.get (GOV_REG_P_ID_STATE k) == 3)
  else s.updPartner k (fun p => { p with raise := none })

/-- The last resort (R219): the contactor opens in the apply beat, the session stops with END_FAULT 0x5302, the episode ends. -/
def State.openLast (s : State) (n : Nat) : State :=
  let t := (s.inc GOV_PL_BREACH_OPENS).set1 GOV_PL_EVENTS_LAST_RESORT
  (t.put GOV_PL_BREACH_ROUNDS 0).raiseOutlet 0x5302 n 0

/-- The registers of GOV that show a round beside its allocations (R207): they are written in the apply beat. -/
def roundFlds : List Fld :=
  [GOV_PL_LIMIT_EFF_IMPORT_EFF, GOV_PL_STATE_SITE_VALID, GOV_PL_STATE_SOC_VALID, GOV_PL_STATE_PRICE_HOST, GOV_PL_STATE_BAND,
    GOV_PL_STATE_STAGE, GOV_PL_PRICE_PRICE, GOV_PL_BREACH_ROUNDS] ++
  (List.range 4).flatMap (fun j => [GOV_PL_DC_CEIL j, GOV_PL_DC_K_T j])

/-- Write those registers. -/
def State.putRound (s : State) (vs : List Nat) : State := forEach (roundFlds.zip vs) (fun p u => u.put p.1 p.2) s

/-- The registers of a round. -/
def State.showRound (s : State) (p : PlRound) : State :=
  let ses := p.items.filter (fun x => decide (x.key < 128))
  let starved := ses.filter (·.starved)
  let t := s.wrN A_GOV_PL_ROUND (p.round % 2 ^ 32)
  let t := (t.puti GOV_PL_SITE_P_SITE (satI 16 (p.pSite / 100))).puti GOV_PL_SITE_L_BASE (satI 16 (p.lBase / 100))
  let t := (t.putSat GOV_PL_SOURCES_P_PV (p.pPv / 100).toNat).puti GOV_PL_SOURCES_P_BAT (satI 16 (p.pBat / 100))
  let t := (t.puti GOV_PL_POOL_POOL (satI 16 (p.pool / 100))).puti GOV_PL_POOL_ALLOC_SUM
    (satI 16 (sumI (ses.map (·.a)) / 100))
  let t := t.putSat GOV_PL_STATE_STARVED starved.length
  let t := t.wr128 A_GOV_PL_STARVED_SET (starved.foldl (fun v x => natBit v x.key true) 0)
  when (decide (starved ≠ [])) (fun u => u.set1 GOV_PL_EVENTS_STARVED) t

/-- ALLOCATION_APPLY (R207): in beat 400r + 1. -/
def execAllocationApply (s : State) : Out :=
  match s.gov.pending with
  | some p =>
    if s.running ∧ s.now % 400 = 1 then
      let t := s.updGov (fun g => { g with pending := none, last := p })
      let t := (t.putRound p.shown).showRound p
      let t := match p.lastResort with | some n => t.openLast n | none => t
      let t := forEach t.sesOutlets (fun x u =>
        u.applyOne x.1 x.2 (p.items.find? (fun y => y.key == x.2))) t
      let t := t.applyBattery p
      .next (if p.period then
          (forEach (p.items.filter (fun x => decide (128 ≤ x.key))) (fun x u => u.newShare (x.key - 128) (x.a / 100).toNat)
            t).sendRaises.showPartners
        else t)
    else .next s
  | none => .next s

/-! ### Events -/

/-- A phase voltage of the site meter within 0.85 to 1.10 Un, and below 0.5 Un (R222). -/
def State.siteIn (s : State) (m p : Nat) : Bool :=
  let u := s.geti (MTR_M_U_U m p)
  decide (850 * (s.gov.un : Int) ≤ u) && decide (u ≤ 1100 * (s.gov.un : Int))

/-- The island counters of a beat (R222): cycles with every phase below 0.5 Un, and since when every phase is in range. -/
def State.islandBeat (s : State) : State :=
  match s.siteMeter with
  | none => s
  | some m =>
    let ph := List.range (max 1 (s.met m).vCh.length)
    let low := ph.all (fun p => decide (s.geti (MTR_M_U_U m p) < 500 * (s.gov.un : Int)))
    let ok := ph.all (s.siteIn m) && !s.isSet (MTR_M_STATE_NOREF m)
    s.updGov (fun g => { g with
      lowCycles := if (s.met m).newCycle then (if low then g.lowCycles + 1 else 0) else g.lowCycles
      okSince := if ok then (if g.okSince.isSome then g.okSince else some s.now) else none })

/-- A round of 400 beats has ended (R207): its sums are the means that the next round uses. -/
def State.closeRound (s : State) : State :=
  s.updGov (fun g => { g with
    imp := g.sumImp
    exp := g.sumExp
    temps := g.sumTemps
    tempN := g.sumN
    sumImp := List.replicate 32 0
    sumExp := List.replicate 32 0
    sumTemps := List.replicate 4 (0, 0)
    sumN := 0
    closed := some s.now })

/-- The sums of a round in a beat (R207): energies by meter and the connector temperatures of O_8 to O_11. A round that no
PLACEMENT_ROUND has closed is closed by its first beat. Battery data that are valid again may be lost again (R215). -/
def State.roundBeat (s : State) : State :=
  let grow (q m : Nat) : Nat := nth (s.met m).growth 0 q
  let t := when (decide (s.now % 400 = 0) && s.gov.closed != some s.now) State.closeRound s
  t.updGov (fun g => { g with
    sumImp := g.sumImp.mapIdx (fun m v => v + grow 0 m)
    sumExp := g.sumExp.mapIdx (fun m v => v + grow 1 m)
    sumTemps := g.sumTemps.mapIdx (fun j v => (v.1 + (s.tempsOf (8 + j)).1, v.2 + (s.tempsOf (8 + j)).2))
    sumN := g.sumN + 1
    batStale := g.batStale && !s.batValid })

/-- ISLAND_EXIT (R222): every site phase has been in range for RECONNECT. -/
def execIslandExit (s : State) : Out :=
  match s.gov.okSince with
  | some b =>
    if s.running ∧ s.islanded ∧ b + s.get GOV_PL_SOC_CFG_RECONNECT * secBeats ≤ s.now then
      .next ((((s.clr GOV_PL_STATE_ISLANDED).set1 GOV_PL_EVENTS_ISLAND_CHG).updGov (fun g => { g with lowCycles := 0 })).updSupply)
    else .next s
  | none => .next s

/-- BATTERY_DATA_STALE (R215): the battery is commanded OFF. -/
def execBatteryDataStale (s : State) : Out :=
  if s.running ∧ s.convs ≠ [] ∧ !s.batValid ∧ !s.gov.batStale then
    let t := forUpTo 2 (fun j u => (u.updConv j ConvSt.off).puti (GOV_PL_BAT_SET_SET j) 0) s
    let t := (t.clr GOV_PL_STATE_SOC_VALID).set1 GOV_PL_EVENTS_BAT_STALE
    .next ((t.updGov (fun g => { g with batStale := true })).raise 0x5307 DEGRADE t.srcOwner 0 0)
  else .next s

/-- PRICE_STALE (R216): the host price is out of its validity; 0x5306 once. -/
def execPriceStale (s : State) : Out :=
  let above : Bool := match s.gov.priceEnd with | some b => decide (b ≤ s.now) | none => true
  if s.running ∧ above ∧ !s.gov.priceStale then
    let t := s.updGov (fun g => { g with priceStale := true, priceEnd := none })
    let t := t.judgePrice
    .next ((t.set1 GOV_PL_EVENTS_PRICE_STALE).raise 0x5306 NOTE t.srcOwner 0 0)
  else .next s

/-- SITE_LIMIT_EXPIRY (R208). -/
def execSiteLimitExpiry (s : State) : Out :=
  match s.gov.hostEnd with
  | some b =>
    if b ≤ s.now then .next ((s.put GOV_PL_LIMIT_EFF_HOST_LIM 0).updGov (fun g => { g with hostEnd := none })) else .next s
  | none => .next s

/-- MIN_OFF_EXPIRY (R213). -/
def execMinOffExpiry (k : Fin 128) (s : State) : Out :=
  if (s.sx k).minOff ∧ (s.sx k).minOffEnd ≤ s.now then .next (s.updS k (fun x => { x with minOff := false })) else .next s

/-- SHARE_PERIOD_START (R223): the next round takes the partners in. -/
def execSharePeriodStart (s : State) : Out :=
  if s.running ∧ s.isSet GOV_PL_CFG_REGULATOR ∧ s.gov.periodBeat + s.get GOV_REG_STATE_PERIOD * secBeats ≤ s.now then
    .next (s.updGov (fun g => { g with periodDue := true, periodBeat := s.now }))
  else .next s

/-- SHARE_LOWER_TIMEOUT (R224): 2 s without an acknowledgement; raised shares may go, the partner still counts at its higher
share. -/
def execShareLowerTimeout (k : Fin 255) (s : State) : Out :=
  match (s.partner k).wait with
  | some b =>
    if b + 2 * secBeats ≤ s.now then .next ((s.updPartner k (fun p => { p with wait := none })).sendRaises) else .next s
  | none => .next s

/-- PARTNER_LOST (R225): no report for 3 periods. -/
def execPartnerLost (k : Fin 255) (s : State) : Out :=
  let st := s.get (GOV_REG_P_ID_STATE k)
  if s.running ∧ s.isSet GOV_PL_CFG_REGULATOR ∧ st ≠ 0 ∧ st ≠ 2 ∧
      (s.partner k).report + 3 * s.get GOV_REG_STATE_PERIOD * secBeats ≤ s.now then
    let t := (s.put (GOV_REG_P_ID_STATE k) 2).updPartner k (fun p => { p with wait := none })
    .next (((t.set1 GOV_PL_EVENTS_PARTNER_LOST).raise 0x5308 NOTE t.srcOwner (s.get (GOV_REG_P_ID_NODE k)) 0).showPartners)
  else .next s

/-- PARTNER_FAILSAFE (R225): no share for 3 periods, so the partner's own FAILSAFE share is used. -/
def execPartnerFailsafe (s : State) : Out :=
  let period := s.gov.sharePeriod.getD (s.get GOV_REG_STATE_PERIOD)
  if s.running ∧ s.isSet GOV_PL_CFG_PARTNER ∧ s.gov.shareBeat + 3 * period * secBeats ≤ s.now then
    .next (s.updGov (fun g => { g with share := some g.failsafe }))
  else .next s

/-! ### Commands -/

/-- PLACE_PRICE, 0x0601 (R216): price and validity in s. -/
def execPlacePrice (mb : Fin 8) (s : State) : Out :=
  .next (s.command mb 0x0601 .running false (fun c s =>
    if c.u32 1 = 0 ∨ c.u32 1 > 86400 then s.reply c stBAD_ARG 0
    else (s.updGov (fun g => { g with
      hostPrice := c.u32 0, priceEnd := some (s.now + c.u32 1 * secBeats), priceStale := false })).reply c stOK 0))

/-- PLACE_BATTERY, 0x0602 (R215): SoC and limits of both converters, then the validity (0 for the default of 60 s is not
given by the spec and is refused). -/
def execPlaceBattery (mb : Fin 8) (s : State) : Out :=
  .next (s.command mb 0x0602 .running false (fun c s =>
    let v := c.u32 6
    if c.u32 0 > 1000 ∨ c.u32 3 > 1000 ∨ v = 0 ∨ v > 600 then s.reply c stBAD_ARG 0
    else
      let t := forUpTo 2 (fun j u => u.updConv j (fun x => { x with
        soc := c.u32 (3 * j), chLim := c.u32 (3 * j + 1), disLim := c.u32 (3 * j + 2) })) s
      let t := t.updGov (fun g => { g with batEnd := some (s.now + v * secBeats) })
      (t.updGov (fun g => { g with batStale := g.batStale && !t.batValid })).reply c stOK 0))

/-- PLACE_SITE_LIMIT, 0x0603 (R208): it counts from the next round; 0 cancels. -/
def execPlaceSiteLimit (mb : Fin 8) (s : State) : Out :=
  .next (s.command mb 0x0603 .running false (fun c s =>
    let l := c.u32 0
    let d := c.u32 1
    if l > s.get GOV_PL_LIMITS_IMPORT ∨ (l ≠ 0 ∧ (d = 0 ∨ d > 86400)) then s.reply c stBAD_ARG 0
    else
      let first := (s.now / 400 + 1) * 400
      ((s.put GOV_PL_LIMIT_EFF_HOST_LIM l).updGov (fun g => { g with
        hostEnd := if l = 0 then none else some (first + d * secBeats) })).reply c stOK 0))

/-- PLACE_INFO, 0x0604 (R214): 128 records of a, c, m and n as signed 32-bit watts. -/
def execPlaceInfo (mb : Fin 8) (s : State) : Out :=
  .next (s.command mb 0x0604 .running false (fun c s =>
    if !argRangeOk (c.u32 0) 2048 then s.reply c stBAD_ARG 0
    else
      let w (v : Int) : List Byte := le 4 (twos 32 (satI 32 v))
      let body := (List.range 128).flatMap (fun k =>
        match s.gov.last.items.find? (fun x => x.key == k) with
        | some x => w x.a ++ w x.c ++ w x.m ++ w x.n
        | none => w 0 ++ w 0 ++ w 0 ++ w 0)
      (s.laneWrite (c.u32 0) body).reply c stOK 0))

end Sys2Proof.Machine
end

