-- ==== Sys2Proof/Machine/SiteLine.lean ====
section
/-! DEFINITION. The site line of 15_site_line.md: zero crossings and beat signalling (R315 to R320), OFDM frames (R321 to
R325), tone maps and routes (R326, R327), messages (R328 to R331), and the commands 0x0A10 to 0x0A13. -/
namespace Sys2Proof.Machine

def State.updSit (s : State) (f : SitSt → SitSt) : State := { s with sit := f s.sit }

/-- Own address and role (R312). -/
def State.addr (s : State) : Nat := s.get SIT_CFG_ADDR
def State.siteRole (s : State) : Nat := s.get SIT_CFG_ROLE

/-- The site line's transmitters are on (R332). -/
def State.siteOn (s : State) : Bool := s.running && s.get SIT_STATUS_STATE == 2 && s.siteRole != 0

/-- The site line may send (R314): on, its address not heard from elsewhere. -/
def State.siteUp (s : State) : Bool := s.siteOn && !s.sit.clash

/-- Whether a message acknowledges another: SHARE_ACK, E2E_ACK (R329). -/
def SitMsg.isAck (m : SitMsg) : Bool := m.mtype == 0x03 || m.mtype == 0x09

/-- Whether a message may be sent: after a clash only an acknowledgement (R314). -/
def State.maySend (s : State) (m : SitMsg) : Bool := s.siteOn && (!s.sit.clash || m.isAck)

/-- The site line may receive. -/
def State.siteHears (s : State) : Bool := s.get SIT_STATUS_STATE == 2 && s.siteRole != 0

/-- Beats of one mains cycle at the frequency of SIT.MAINS; 50 Hz while none is known. -/
def State.cycleBeats (s : State) : Nat :=
  let f := s.get SIT_MAINS_FREQ
  4000000 / (if f = 0 then 5000 else f)

/-! ### Codes -/

/-- The bits of a number, most significant first. -/
def msb (n v : Nat) : List Bool := (List.range n).map (fun i => v.testBit (n - 1 - i))

/-- The number that bits spell, most significant first. -/
def ofMsb (l : List Bool) : Nat := l.foldl (fun v b => 2 * v + (if b then 1 else 0)) 0

/-- One bit of a CRC of width w with a polynomial. -/
def crcBit (w poly c : Nat) (b : Bool) : Nat :=
  let x := 2 * c % 2 ^ w
  if c.testBit (w - 1) != b then x ^^^ poly else x

/-- A CRC over bits, most significant first. -/
def crcBits (w poly init : Nat) (l : List Bool) : Nat := l.foldl (crcBit w poly) init

/-- The CRC-16 of a beat frame over PRIO to PAYLOAD (R318). -/
def State.beatCrc (s : State) (l : List Bool) : Nat := crcBits 16 0x1021 (s.get SIT_CFG_SITE_ID) l

/-- The CRC-8 of an FCH over its first 40 bits (R322). -/
def State.fchCrc (s : State) (l : List Bool) : Nat :=
  let id := s.get SIT_CFG_SITE_ID
  crcBits 8 0x07 ((id / 256) ^^^ (id % 256)) l

/-- Bits [lo+len-1:lo] of a number. -/
def bitsAt (v lo len : Nat) : Nat := (v >>> lo) % 2 ^ len

/-! ### Hearing nodes -/

def State.link (s : State) (k : Nat) : LinkRec := nth s.sit.links {} k
def State.updLinkRec (s : State) (k : Nat) (f : LinkRec → LinkRec) : State :=
  s.updSit (fun x => { x with links := upd x.links k f })

/-- The level of a sextant in a map (R322). -/
def mapLevel (m sx : Nat) : Nat := bitsAt m (2 * sx) 2

/-- Data bytes of a segment at a level (R322). -/
def levelBytes (l : Nat) : Nat := if l = 1 then 2 else if l = 2 then 8 else if l = 3 then 15 else 0

/-- B of a map: data bytes over its six sextants (R327). -/
def mapBytes (m : Nat) : Nat := sumN ((List.range 6).map (fun j => levelBytes (mapLevel m j)))

/-- A map with one sextant at a level. -/
def setLevel (m sx l : Nat) : Nat := setBits m (2 * sx) 2 l

/-- The map of the link from node u to node v, none when unusable (R327): the own maps, else those that v reported. -/
def State.linkMap (s : State) (u v : Nat) : Option Nat :=
  let me := s.addr
  if u = v then none
  else if u = me then
    (match (s.link (v - 1)).heard with
     | some b => if s.now < b + 180 * secBeats ∧ 8 ≤ mapBytes (s.get (SIT_LINK_TXMAP (v - 1))) then
         some (s.get (SIT_LINK_TXMAP (v - 1))) else none
     | none => none)
  else
    match s.sit.reports.find? (fun r => r.1 == v && r.2.1 == u) with
    | some r => if s.now < r.2.2.2 + 180 * secBeats ∧ 8 ≤ mapBytes r.2.2.1 then some r.2.2.1 else none
    | none => none

/-- A common multiple of 8 to 90: costs c = 540 / B of R327 in this unit are whole, so that sums compare exactly. -/
def costUnit : Nat := ((List.range 91).filter (fun b => 8 ≤ b)).foldl Nat.lcm 1

/-- The cost of a link in that unit. -/
def mapCost (m : Nat) : Nat := 540 * costUnit / mapBytes m

/-- Whether path p is better than q: cost, hops, lower repeater addresses (R327). -/
def betterPath (p q : Nat × List Nat) : Bool :=
  if p.1 ≠ q.1 then decide (p.1 < q.1)
  else if p.2.length ≠ q.2.length then decide (p.2.length < q.2.length)
  else match (p.2.zip q.2).find? (fun x => x.1 != x.2) with
    | some x => decide (x.1 < x.2)
    | none => false

/-- The better of two paths that may be missing. -/
def bestOf (p q : Option (Nat × List Nat)) : Option (Nat × List Nat) :=
  match p, q with
  | none, y => y
  | x, none => x
  | some x, some y => if betterPath y x then some y else some x

/-- The best paths of exactly one hop more, to each address 1 to 16; `bad` are first hops not to be used. -/
def State.hopOnce (s : State) (bad : List Nat) (best : List (Option (Nat × List Nat))) : List (Option (Nat × List Nat)) :=
  (List.range 16).map (fun i =>
    let v := i + 1
    (List.range 16).foldl (fun acc j =>
      let u := j + 1
      match nth best none j, s.linkMap u v with
      | some p, some m =>
        if u = s.addr ∧ bad.contains v then acc else bestOf acc (some (p.1 + mapCost m, p.2 ++ [v]))
      | _, _ => acc) none)

/-- The route to a final destination (R327): the addresses after the own one, at most 4 hops. -/
def State.routeTo (s : State) (dst : Nat) (bad : List Nat) : Option (Nat × List Nat) :=
  let p0 := (List.range 16).map (fun i => if i + 1 = s.addr then some (0, ([] : List Nat)) else none)
  let p1 := s.hopOnce bad p0
  let p2 := s.hopOnce bad p1
  let p3 := s.hopOnce bad p2
  let p4 := s.hopOnce bad p3
  [p1, p2, p3, p4].foldl (fun acc p => bestOf acc (nth p none (dst - 1))) none

/-- Show the links (R327): cost, mean SNR over open sextants, age, route; LINK_CHG when a node became usable or unusable. -/
def State.showLinks (s : State) : State :=
  forUpTo 16 (fun k u =>
    if k + 1 = u.addr then u
    else
      let x := u.link k
      let m := u.linkMap u.addr (k + 1)
      let r := u.routeTo (k + 1) []
      let open_ := (List.range 6).filter (fun j => mapLevel (u.get (SIT_LINK_RXMAP k)) j != 0)
      let snr : Int := if open_ = [] then 0 else sumI (open_.map (fun j => nth x.snr 0 j)) / (open_.length : Nat)
      let t := u.put (SIT_LINKQ_COST k) (match m with | some v => 54000 / mapBytes v | none => 0xFFFF)
      let t := (t.puti (SIT_LINKQ_SNR k) (satI 8 snr)).putB (SIT_LINK_DIRECT k) m.isSome
      let t := t.put (SIT_LINK_HOPS k) (match r with | some p => p.2.length - 1 | none => 0)
      let t := t.putSat (SIT_LINKQ_AGE k) (match x.heard with | some b => (u.now - b) / secBeats | none => 255)
      if x.usable = r.isSome then t
      else (t.set1 SIT_EVENTS_LINK_CHG).updLinkRec k (fun y => { y with usable := r.isSome })) s

/-- CAP of R330 and the beat partners heard by phase. -/
def State.cap (s : State) : Nat := 8 * 2 * s.get GOV_REG_STATE_PERIOD * s.get SIT_MAINS_FREQ / (10 * 110 * 100)
def State.usedOn (s : State) (p : Nat) : Nat :=
  (s.partners.filter (fun k => s.sit.nodes.any (fun x =>
    x.1 == s.get (GOV_REG_P_ID_NODE k) && decide (17 ≤ x.1) && x.2.1 == p && decide (s.now < x.2.2 + 600 * secBeats)))).length

/-- R330: more beat partners on a phase than CAP. -/
def State.judgeCap (s : State) : State :=
  let c := s.cap
  let t := (((s.putSat SIT_CAP_CAP c).putSat SIT_CAP_USED_L1 (s.usedOn 0)).putSat SIT_CAP_USED_L2 (s.usedOn 1)).putSat
    SIT_CAP_USED_L3 (s.usedOn 2)
  forUpTo 3 (fun p u =>
    let above := decide (c < s.usedOn p)
    let v := u.updSit (fun x => { x with capBad := natBit x.capBad p above })
    if above ∧ !s.sit.capBad.testBit p ∧ s.siteRole = 2 then
      (v.set1 SIT_EVENTS_CAPACITY).raise 0x9106 DEGRADE v.srcOwner p c
    else v) t

/-- What the site line shows once a second: links, nodes heard, the age of the last METER_INFO, capacity. -/
def State.siteSecond (s : State) : State :=
  if s.siteRole = 0 then s
  else
    let t := s.showLinks
    let t := t.put SIT_STATUS_PRIV ((s.sit.links.filter (fun x =>
      match x.heard with | some b => decide (s.now < b + 180 * secBeats) | none => false)).length)
    let t := t.putSat SIT_STATUS_BEAT ((s.sit.nodes.filter (fun x =>
      decide (17 ≤ x.1) && decide (s.now < x.2.2 + 600 * secBeats))).length)
    let t := t.putSat SIT_XM_AGE_AGE (match s.sit.xmBeat with | some b => (s.now - b) / secBeats | none => 255)
    t.judgeCap

/-- A node of the site is heard; a new privileged link starts with DBPSK in every sextant (R326). -/
def State.hearNode (s : State) (a : Nat) : State :=
  let t := s.updSit (fun x => { x with heard := s.now, lonely := false })
  if 1 ≤ a ∧ a ≤ 16 ∧ a ≠ s.addr then
    let k := a - 1
    let t := if s.isSet (SIT_LINK_KNOWN k) then t
      else ((t.set1 (SIT_LINK_KNOWN k)).put (SIT_LINK_TXMAP k) 0x555).put (SIT_LINK_RXMAP k) 0x555
    t.updLinkRec k (fun x => { x with heard := some s.now })
  else t

/-- A frame of another site (R313). -/
def State.foreign (s : State) : State :=
  let t := s.inc SIT_DROP_FOREIGN
  let fresh := decide (s.sit.forBeat + 3600 * secBeats ≤ s.now)
  let t := t.updSit (fun x => { x with
    forBeat := if fresh then s.now else x.forBeat
    forCount := if fresh then 1 else x.forCount + 1
    forHeld := if fresh then false else x.forHeld })
  if 100 < t.sit.forCount ∧ !t.sit.forHeld then
    (t.updSit (fun x => { x with forHeld := true })).raise 0x9107 NOTE t.srcOwner 0 t.sit.forCount
  else t

/-- The frame of a preamble or FCH that is lost is aborted (R333); 0x9103 at most once per minute. -/
def State.frameLost (s : State) : State :=
  (s.inc SIT_ERR_PREAMBLE_LOST).raiseLimited 0x9103 (60 * secBeats) 0x9103 NOTE s.srcOwner 0 0

/-- The own address as a source (R314). -/
def State.addrClash (s : State) : State :=
  if s.sit.clash then s
  else ((s.updSit (fun x => { x with clash := true })).set1 SIT_EVENTS_CLASH).raise 0x9102 DEGRADE s.srcOwner s.addr 0

/-! ### Messages -/

/-- A message fails (R323, R333). -/
def State.msgFail (s : State) (m : SitMsg) : State :=
  let t := ((s.inc SIT_ERR_MSG_FAIL).set1 SIT_EVENTS_MSG_FAIL).raise 0x9105 NOTE s.srcOwner m.dst 0
  match m.cmd with
  | some c => t.replyTo c.port c.seq stTIMEOUT 0
  | none => t

/-- Whether the regulator or the host waits for an acknowledgement of a message: a LOWERED share, a HOST_DATA. -/
def SitMsg.wantsAck (m : SitMsg) : Bool :=
  (m.mtype == 0x02 && (nth m.payload 0#8 3).toNat % 2 == 1) || m.mtype == 0x08

/-- A message has been sent whole: counted, and kept while its acknowledgement is due. -/
def State.msgSent (s : State) (m : SitMsg) (dur : Nat) : State :=
  let t := s.inc SIT_COUNT_TX
  if m.wantsAck && m.origin.isNone && m.dst != 0 then
    t.updSit (fun x => { x with await := x.await ++ [{ m with tries := m.tries + 1, sentBeat := s.now, dur := dur }] })
  else t

/-- The partner of an address (R223). -/
def State.partnerOf (s : State) (a : Nat) : Option Nat :=
  (List.range 255).find? (fun k => s.get (GOV_REG_P_ID_STATE k) != 0 && s.get (GOV_REG_P_ID_NODE k) == a)

/-- A SHARE that a later share of the same partner has replaced: it is not sent again (log entry 121). -/
def State.staleShare (s : State) (m : SitMsg) : Bool :=
  m.mtype == 2 && (match s.partnerOf m.dst with
    | some k => field m.payload 0 2 != s.get (GOV_REG_P_SHARE_SHARE k)
    | none => true)

/-- SITE_MESSAGE_RETRY (R329): the oldest message that has waited 3 frame times for its acknowledgement is sent again, 3 times
at most. -/
def execSiteMessageRetry (s : State) : Out :=
  match s.sit.await.find? (fun m => decide (m.sentBeat + 3 * m.dur ≤ s.now)) with
  | some m =>
    if s.siteUp then
      let t := s.updSit (fun x => { x with await := x.await.erase m })
      if s.staleShare m then .next t
      else if m.tries ≤ 3 then
        let left := if 17 ≤ m.dst then s.phasesTo m.dst else 0
        .next (t.updSit (fun x => { x with outq := x.outq ++ [{ m with left := left }] }))
      else .next (t.msgFail m)
    else .next s
  | none => .next s

/-- Whether a message is a duplicate (R328), and the pairs kept when it is taken. -/
def keepPair (p : Nat × Nat × Nat) (l : List (Nat × Nat × Nat)) : List (Nat × Nat × Nat) :=
  p :: ((l.filter (fun x => x.1 == p.1)).take 31 ++ l.filter (fun x => x.1 != p.1))

/-- A message reaches the Obrik as its destination: it waits for the row of its MTYPE. -/
def State.deliver (s : State) (m : RxMsg) : State :=
  (s.inc SIT_COUNT_RX).updSit (fun x => { x with inbox := x.inbox ++ [m] })

/-- The oldest received message of a type, and the state without it. -/
def State.takeMsg (s : State) (mtype : Nat) : Option (RxMsg × State) :=
  (s.sit.inbox.find? (fun m => m.mtype == mtype)).map (fun m => (m, s.updSit (fun x => { x with inbox := x.inbox.erase m })))

/-- Bytes of a payload as a number. -/
def RxMsg.at (m : RxMsg) (off n : Nat) : Nat := ofLe ((m.payload.drop off).take n)

/-! ### Zero crossings and beat signalling -/

/-- A message for beat signalling. -/
def SitMsg.isBeat (m : SitMsg) : Bool := decide (17 ≤ m.dst) || m.left != 0

/-- PRIO of a message (R318). -/
def prioOf (mtype : Nat) : Nat := if mtype = 2 ∨ mtype = 3 then 3 else if mtype = 1 then 2 else 1

/-- Bytes as 64 bits, the first byte most significant, zeros after (log entry 38). -/
def bytes64 (l : List Byte) : Nat := ofMsb (((padTo 8 l).map (fun b => msb 8 b.toNat)).flatten)

/-- The PAYLOAD of a beat frame (R329): a SHARE in slot A, the bytes of the message otherwise. -/
def beatPayload (m : SitMsg) : Nat :=
  if m.mtype = 2 then
    let share := ofLe (m.payload.take 2)
    let low := (nth m.payload 0#8 3).toNat % 2
    ofMsb (msb 10 m.dst ++ msb 12 (min share 4095) ++ msb 22 0 ++ msb 1 low ++ msb 19 0)
  else bytes64 m.payload

/-- The 118 bits of a beat frame (R318). -/
def State.beatBits (s : State) (m : SitMsg) (seq : Nat) : List Bool :=
  let body := msb 2 (prioOf m.mtype) ++ msb 10 s.addr ++ msb 10 m.dst ++ msb 4 m.mtype ++ msb 4 seq ++ msb 64 (beatPayload m)
  msb 8 0xE5 ++ body ++ msb 16 (s.beatCrc body)

/-- BEAT_FRAME_START (R319): B has been absent for 4 half-cycles on a phase and the random wait is over. A frame keeps its
SEQ on every phase and at every sending. -/
def execBeatFrameStart (p : Fin 3) (s : State) : Out :=
  match s.sit.outq.find? (fun m => m.isBeat && m.left.testBit p && s.mayLeave m.iseq && s.maySend m) with
  | some m =>
    if s.injOk.testBit p ∧ s.bitOf SIT_STATUS_ZC_OK p ∧ (nth s.sit.btx none p).isNone ∧
        4 + nth s.sit.bWait 0 p ≤ nth s.sit.bAbsent 0 p then
      let seq := m.seq.getD ((s.sit.bseq + 1) % 16)
      let m' := { m with seq := some seq }
      .next (s.updSit (fun x => { x with
        bseq := if m.seq.isSome then x.bseq else seq
        outq := x.outq.map (fun y => if y == m then m' else y)
        btx := upd x.btx p (fun _ => some { bits := s.beatBits m' seq, msg := m' }) }))
    else .next s
  | none => .next s

/-- A beat frame is given up on a phase; its message stays queued. -/
def State.beatAbort (s : State) (p : Nat) : State :=
  s.updSit (fun x => { x with btx := upd x.btx p (fun _ => none), bAbsent := upd x.bAbsent p (fun _ => 0) })

/-- A beat frame has gone out on a phase; the message is done once every phase has had it. -/
def State.beatDone (s : State) (p : Nat) (m : SitMsg) : State :=
  let left := natBit m.left p false
  let same (y : SitMsg) : Bool := y.mseq == m.mseq && y.origin == m.origin
  let t := s.beatAbort p
  if left = 0 then
    (t.updSit (fun x => { x with outq := x.outq.filter (fun y => !same y) })).msgSent { m with left := 0 } (59 * s.cycleBeats)
  else t.updSit (fun x => { x with outq := x.outq.map (fun y => if same y then { y with left := natBit y.left p false } else y) })

/-- One own pulse more: those in sequence that read 0, up to the 8 of R320. -/
def pulseRead (run : Nat) (one : Bool) : Nat := if 8 ≤ run then run else if one then 0 else run + 1

/-- Own pulses in sequence that read 0 over a half-cycle (R316, R320): B, the data slots of a 1, F of a repeated bit. -/
def pulseRun (run : Nat) (sent again : Bool) (o : HalfRead) : Nat :=
  let r := pulseRead run o.b
  let r := if sent then o.d.foldl pulseRead r else r
  if again then pulseRead r o.f else r

/-- Whether the slots read as a 1: the majority of three (R316). -/
def slots1 (d : List Bool) : Bool := decide (2 ≤ (d.filter id).length)

/-- The windows of a half-cycle as the Obrik reads them: a slot is 1 when its notch is deeper than DET_LVL, the half-cycle
disturbed when the noise exceeds DIST_LVL (R316, R317). -/
def State.readHalf (s : State) (o : HalfObs) : HalfRead :=
  let deep (v : Nat) : Bool := decide (s.get SIT_TX_CFG_DET_LVL < v)
  { bad := decide (s.get SIT_TX_CFG_DIST_LVL < o.q), b := deep o.b, d := [deep o.d1, deep o.d2, deep o.d3], f := deep o.f }

/-- A half-cycle of a phase on which the Obrik sends (R317, R319, R320). One that has lost the arbitration goes on as a receiver
of the frame that won. -/
def State.beatSend (s : State) (p : Nat) (x : BeatTx) (o : HalfRead) : State :=
  let set (f : BeatTx → BeatTx) (u : State) : State :=
    u.updSit (fun y => { y with btx := upd y.btx p (fun b => b.map f) })
  if o.bad then
    if x.idx < 20 then s.beatAbort p
    else
      let t := s.inc SIT_ERR_BEAT_ERASED
      if x.rep + 1 ≥ 3 then t.beatAbort p else set (fun y => { y with rep := y.rep + 1 }) t
  else
    let sent := nth x.bits false x.idx
    let read := slots1 o.d
    let run := pulseRun (nth s.sit.pulse0 0 p) sent (x.rep != 0) o
    let t := s.updSit (fun y => { y with pulse0 := upd y.pulse0 p (fun _ => run) })
    if 8 ≤ run then
      (((t.updSit (fun y => { y with injStop := natBit y.injStop p true })).beatAbort p).set1 SIT_EVENTS_INJ_FAULT).raise 0x9109
        DEGRADE t.srcOwner p 0
    else if 8 ≤ x.idx ∧ x.idx < 20 ∧ read ∧ !sent then
      (t.beatAbort p).updSit (fun y => { y with
        rxBits := upd y.rxBits p (fun _ => (x.bits.take x.idx).map some ++ [some true]) })
    else if 20 ≤ x.idx ∧ read ≠ sent then t.beatAbort p
    else if x.idx + 1 ≥ 118 then t.beatDone p x.msg
    else set (fun y => { y with idx := y.idx + 1, rep := 0 }) t

/-- A half-cycle of a phase on which the Obrik listens (R317): bits, erasures and their repeats. In a disturbed half-cycle of a frame
window B tells nothing. -/
def State.beatListen (s : State) (p : Nat) (o : HalfRead) : State :=
  let l := nth s.sit.rxBits [] p
  let put (v : List (Option Bool)) (u : State) : State := u.updSit (fun y => { y with rxBits := upd y.rxBits p (fun _ => v) })
  if o.b ∧ o.f then
    match l.getLast? with
    | some none => if o.bad then s else put (l.dropLast ++ [some (slots1 o.d)]) s
    | _ => s
  else if l.length ≥ 118 then s
  else if o.bad ∧ (o.b ∨ l ≠ []) then put (l ++ [none]) (s.inc SIT_ERR_BEAT_ERASED)
  else if !o.b then (if l = [] then s else put [] s)
  else put (l ++ [some (slots1 o.d)]) s

/-- The wait for an idle phase: half-cycles in sequence without B, and after the fourth a random wait of 0 to 7 (R319). -/
def State.countB (s : State) (p : Nat) (b : Bool) : State :=
  let n := if b then 0 else nth s.sit.bAbsent 0 p + 1
  let t := s.updSit (fun x => { x with bAbsent := upd x.bAbsent p (fun _ => n) })
  if n = 4 then
    let d := t.draw
    d.2.updSit (fun x => { x with bWait := upd x.bWait p (fun _ => d.1 % 8) })
  else t

/-- MAINS_ZERO_CROSSING (R315 to R320): a crossing of a phase and its half-cycle. The reference is L1, else L2, else L3. -/
def execMainsZeroCrossing (p : Fin 3) (positive : Bool) (o : HalfObs) (s : State) : Out :=
  let h := s.readHalf o
  let t := ((s.putBit SIT_STATUS_ZC_OK p true).updSit (fun x => { x with
    zc := upd x.zc p (fun _ => s.now)
    zcBad := natBit x.zcBad p false })).countB p h.b
  let t := t.clr SIT_STATUS_FREE_RUN
  let isRef := (List.range p).all (fun q => !t.bitOf SIT_STATUS_ZC_OK q)
  let t := if isRef ∧ positive then
      (t.put SIT_MAINS_CYCLE (t.get SIT_MAINS_CYCLE + 1)).putSat SIT_MAINS_FREQ o.freq
    else t
  if !s.siteHears then .next t
  else match nth s.sit.btx none p with
    | some x => .next (if s.maySend x.msg then t.beatSend p x h else t.beatAbort p)
    | none => .next (t.beatListen p h)

/-- ZC_LOST (R315): no crossing on a phase for 4 cycles. With none on any phase the reference runs free at 50 Hz. A site line that is
OFF, or in the setting position, watches no phase (R312, R332). -/
def execZcLost (p : Fin 3) (s : State) : Out :=
  if s.siteRole ≠ 0 ∧ !s.settingPos ∧ !s.sit.zcBad.testBit p ∧ nth s.sit.zc 0 p + 4 * s.cycleBeats ≤ s.now then
    let t := ((s.putBit SIT_STATUS_ZC_OK p false).beatAbort p).updSit (fun x => { x with zcBad := natBit x.zcBad p true })
    let t := t.raise 0x9101 DEGRADE srcCase p 0
    .next (if t.get SIT_STATUS_ZC_OK = 0 then (t.set1 SIT_STATUS_FREE_RUN).put SIT_MAINS_FREQ 5000 else t)
  else .next s

/-- What the received bits of a frame can be (R317, R318): as they are, or with both values of one erasure; with two or more nothing. Bits without
their SYNC, 0xE5, are no frame. -/
def frameBits (l : List (Option Bool)) : List (List Bool) :=
  let fill (v : Bool) : List Bool := l.map (fun b => b.getD v)
  let n := (l.filter (fun b => b.isNone)).length
  (if n = 0 then [fill false] else if n = 1 then [fill false, fill true] else []).filter (fun b => ofMsb (b.take 8) == 0xE5)

/-- The whole bits of a received frame (R317, R318): the one value that passes the CRC. -/
def State.repairBits (s : State) (l : List (Option Bool)) : Option (List Bool) :=
  match (frameBits l).filter (fun b => s.beatCrc ((b.drop 8).take 94) == ofMsb ((b.drop 102).take 16)) with
  | [b] => some b
  | _ => none

/-- A payload of a beat frame in the OFDM form (R329). -/
def fromBeat (me mtype pay : Nat) : Option (List Byte) :=
  let bits := msb 64 pay
  let f (lo n : Nat) : Nat := ofMsb ((bits.drop lo).take n)
  if mtype = 1 then
    some (((List.range 5).map (fun i => le 2 (5 * f (8 * i) 8))).flatten ++ le 1 (f 40 2) ++
      le 2 (if f 42 10 = 1023 then 0xFFFF else f 42 10))
  else if mtype = 2 then
    if f 0 10 = me then some (le 2 (f 10 12) ++ le 1 0 ++ le 1 (f 44 1))
    else if f 22 10 = me then some (le 2 (f 32 12) ++ le 1 0 ++ le 1 (f 45 1))
    else none
  else some ((List.range 8).map (fun i => BitVec.ofNat 8 (f (8 * i) 8)))

/-- BEAT_FRAME_RECEIVED (R313, R314, R317, R318, R328): a phase has 118 bits of a frame. -/
def execBeatFrameReceived (p : Fin 3) (s : State) : Out :=
  let l := nth s.sit.rxBits [] p
  if l.length < 118 then .next s
  else
    let t := s.updSit (fun x => { x with rxBits := upd x.rxBits p (fun _ => []) })
    match s.repairBits l with
    | none => .next (if frameBits l = [] then t else t.foreign)
    | some b =>
      let f (lo n : Nat) : Nat := ofMsb ((b.drop lo).take n)
      let src := f 10 10
      let dst := f 20 10
      let typ := f 30 4
      let seq := f 34 4
      let pay := f 38 64
      if src = s.addr then .next t.addrClash
      else
        let t := (t.hearNode src).updSit (fun x => { x with
          nodes := (src, p.val, s.now) :: x.nodes.filter (fun y => y.1 != src) })
        let dup := s.sit.lastFrom.any (fun y => y == (src, seq, pay))
        let t := t.updSit (fun x => { x with lastFrom := (src, seq, pay) :: x.lastFrom.filter (fun y => y.1 != src) })
        if dst ≠ 0 ∧ dst ≠ s.addr then .next t
        else match fromBeat s.addr typ pay with
          | none => .next t
          | some payload =>
            if dup then
              .next (if typ = 8 ∧ dst ≠ 0 then t.sendSite src 0x09 (le 2 seq) none
                else if typ = 2 ∧ s.isSet GOV_PL_CFG_PARTNER ∧ (nth payload 0#8 3).toNat % 2 = 1 then
                  t.sendSite src 0x03 (payload.take 2 ++ le 2 seq) none
                else t)
            else .next (t.deliver { origin := src, mtype := typ, payload := payload, id := seq })

/-! ### OFDM -/

/-- Lay bytes into segments from a sextant on, passing closed ones; at most n segments (R322). -/
def fillSegs (map : Nat) : Nat → Nat → Nat → Nat → List Byte → List SegTx × List Byte
  | 0, _, _, _, l => ([], l)
  | fuel + 1, sx, off, n, l =>
    if l = [] ∨ n = 0 then ([], l)
    else
      let k := levelBytes (mapLevel map sx)
      if k = 0 then fillSegs map fuel ((sx + 1) % 6) (off + 1) n l
      else
        let r := fillSegs map fuel ((sx + 1) % 6) (off + 1) (n - 1) (l.drop k)
        ({ sext := sx, level := mapLevel map sx, data := padTo k (l.take k), off := off } :: r.1, r.2)

/-- The bytes of a message (R328): header, payload, CRC-16; `path` are the addresses after the own one. -/
def State.msgBytes (s : State) (m : SitMsg) (path : List Nat) : List Byte :=
  let org := m.origin.getD (s.addr, s.get GLB_RESET_CAUSE_COUNT)
  let reps := path.dropLast
  let body := le 2 (s.get SIT_CFG_SITE_ID) ++ le 2 (org.1 + (path.length - 1) * 1024) ++ le 2 m.dst ++ le 1 m.mtype ++
    le 1 m.payload.length ++ le 2 m.mseq ++ le 1 org.2 ++ le 1 0 ++ le 2 (nth reps 0 0) ++ le 2 (nth reps 0 1) ++
    le 2 (nth reps 0 2) ++ m.payload
  body ++ le 2 (crc16 body)

/-- The sextant that lies n after the present one. -/
def State.sextAfter (s : State) (n : Nat) : Nat := (s.sit.sext + n) % 6

/-- The place of the last segment of a frame. -/
def lastOff (l : List SegTx) : Nat := maxN (l.map (·.off))

/-- The 48 bits of an FCH from its first 40 (R322). -/
def State.fchOf (s : State) (v : Nat) : Nat := v * 256 + s.fchCrc (msb 40 v)

/-- The FCH of a DATA (0) or RETX (1) frame: destination, segments, LSEQ, TMV, PROBE (R322). -/
def State.dataFch (s : State) (typ dst nseg lseq tmv : Nat) (probe : Bool) : Nat :=
  s.fchOf (ofMsb (msb 2 typ ++ msb 10 dst ++ msb 10 s.addr ++ msb 4 (nseg - 1) ++ msb 4 lseq ++ msb 4 tmv ++ [probe] ++ msb 5 0))

/-- The FCH of an ACK: destination, LSEQ, BITMAP (R322). -/
def State.ackFch (s : State) (dst lseq map : Nat) : Nat :=
  s.fchOf (ofMsb (msb 2 2 ++ msb 10 dst ++ msb 4 lseq ++ msb 16 map ++ msb 8 0))

/-- The drive at the balls in 0.5 dBµV (R321): OFDM_LEVEL less CPL_GAIN, at most 8.0 V p-p, which is 129 dBµV rms of a sine (R441; log
entry 147). -/
def State.ofdmDrive (s : State) : Int := min 258 (2 * (s.get SIT_TX_CFG_OFDM_LEVEL : Nat) - s.geti SIT_TX_CFG_CPL_GAIN)

/-- A frame goes out with its FCH at the drive of R321. -/
def State.sendFch (s : State) (fch : Nat) : State := s.updSit (fun x => { x with fch := fch, drive := s.ofdmDrive })

/-- The ACK of a frame that was addressed to the Obrik; a broadcast has none (R322, R323). -/
def State.sendAck (s : State) (dst src lseq map : Nat) : State :=
  if dst = 0 then s else (s.updSit (fun x => { x with ack := some (src, lseq, map) })).sendFch (s.ackFch src lseq map)

/-- Send a DATA frame now: preamble, FCH in the next sextant, then its bytes in segments by the present tone map (R322). A frame
sent again counts as one sending more of each of its segments (R323). -/
def State.launch (s : State) (x : OfdmTx) : State :=
  let n := maxN (x.segs.map (·.sends)) + 1
  let r := fillSegs (s.get (SIT_LINK_TXMAP (x.hop - 1))) 96 (s.sextAfter 2) 0 16 ((x.segs.map (·.data)).flatten ++ x.rest)
  let segs : List SegTx := r.1.map (fun g => { g with sends := n })
  let t := s.sendFch (s.dataFch 0 x.hop segs.length x.lseq (s.link (x.hop - 1)).tmvTx x.msg.probe)
  t.updSit (fun y => { y with tx := some { x with
    segs := segs, rest := r.2, start := s.now, due := some (y.sextCount + 2 + lastOff segs + 4) } })

/-- A frame with the next LSEQ that waits to be sent. -/
def State.queueFrame (s : State) (m : SitMsg) (hop : Nat) (segs : List SegTx) (rest : List Byte) : State :=
  let lseq := (s.sit.lseq + 1) % 16
  s.updSit (fun x => { x with
    lseq := lseq
    tx := some { msg := m, hop := hop, lseq := lseq, segs := segs, rest := rest, start := s.now, due := none } })

/-- Start the frame of the first bytes of a message. -/
def State.startFrame (s : State) (m : SitMsg) (hop : Nat) (bytes : List Byte) : State :=
  let t := s.queueFrame m hop [] bytes
  match t.sit.tx with
  | some x => t.launch x
  | none => t

/-- A message goes on another route, or fails after 3 (R323). -/
def State.reroute (s : State) (m : SitMsg) (hop : Nat) : State :=
  let t := s.updSit (fun x => { x with tx := none })
  if 3 ≤ m.routes then t.msgFail m
  else t.updSit (fun x => { x with outq := { m with routes := m.routes + 1, bad := hop :: m.bad } :: x.outq })

/-- The number of frames that a broadcast takes, at DBPSK in every sextant (log entry 39). -/
def bcastFrames (n : Nat) : Nat := (n + 31) / 32

/-- OFDM_FRAME_START (R324): 6 quiet sextants and the backoff are over. A frame that waits to be sent again goes first; a
broadcast has no acknowledgement. -/
def execOfdmFrameStart (s : State) : Out :=
  if s.siteOn ∧ 6 + s.sit.oWait ≤ s.sit.quiet then
    match s.sit.tx with
    | some x =>
      if x.due.isSome ∨ !s.maySend x.msg then .next s
      else if mapBytes (s.get (SIT_LINK_TXMAP (x.hop - 1))) = 0 then .next (s.reroute x.msg x.hop)
      else .next (s.launch x)
    | none =>
      match s.sit.outq.find? (fun m => !m.isBeat && s.mayLeave m.iseq && s.maySend m) with
      | none => .next s
      | some m =>
        let t := s.updSit (fun x => { x with outq := x.outq.erase m })
        if m.dst = 0 then
          let len := (s.msgBytes m [0]).length
          let n := bcastFrames len
          let t := t.updSit (fun x => { x with lseq := (x.lseq + n) % 16 })
          .next ((t.sendFch (t.dataFch 0 0 ((len - 32 * (n - 1) + 1) / 2) t.sit.lseq 0 false)).msgSent m 0)
        else match s.routeTo m.dst m.bad, s.routeTo m.dst [] with
          | some p, _ => .next (t.startFrame m (nth p.2 m.dst 0) (s.msgBytes m p.2))
          | none, some p => .next (t.startFrame m (nth p.2 m.dst 0) (s.msgBytes m p.2))
          | none, none => .next (t.reroute m m.dst)
  else .next s

/-- OFDM_ACK_TIMEOUT (R323, R324): no ACK by the end of the fourth sextant; W doubles. -/
def execOfdmAckTimeout (s : State) : Out :=
  match s.sit.tx with
  | some x =>
    match x.due with
    | some d =>
      if d < s.sit.sextCount then
        let t := s.updSit (fun y => { y with w := min 63 (2 * y.w) })
        .next (if x.segs.any (fun g => decide (4 ≤ g.sends)) then t.reroute x.msg x.hop
          else t.updSit (fun y => { y with tx := some { x with due := none } }))
      else .next s
    | none => .next s
  | none => .next s

/-- Demotion (R326): a sextant in which 3 segments in sequence have failed goes one level down. -/
def State.segResult (s : State) (k sx : Nat) (ok : Bool) : State :=
  let n := if ok then 0 else nth (s.link k).fails 0 sx + 1
  let t := s.updLinkRec k (fun x => { x with fails := upd x.fails sx (fun _ => if n ≥ 3 then 0 else n) })
  let t := if ok then t else t.inc SIT_ERR_SEG_FAIL
  let m := s.get (SIT_LINK_TXMAP k)
  if n < 3 ∨ mapLevel m sx = 0 then t
  else
    ((t.put (SIT_LINK_TXMAP k) (setLevel m sx (mapLevel m sx - 1))).set1 SIT_EVENTS_DEMOTE).raise 0x9104 NOTE t.srcOwner (k + 1) sx

/-- Where the segments of a RETX fall: each in a sextant of its own number, in rising order (R323). -/
def retxOffs : Nat → Nat → List SegTx → Nat
  | _, off, [] => off
  | sx, off, g :: t =>
    let step := (g.sext + 6 - sx) % 6
    retxOffs ((g.sext + 1) % 6) (off + step + 1) t

/-- The answer of SIT_PROBE (R326): round-trip time in µs, SNR by sextant. -/
def State.probeDone (s : State) (m : SitMsg) (hop start : Nat) : State :=
  match m.cmd with
  | some c =>
    if m.probe then
      s.replyTo c.port c.seq stOK (25 * (s.now - start)) ((s.link (hop - 1)).snr.flatMap (fun v => le 1 (twos 8 (satI 8 v))))
    else s
  | none => s

/-- OFDM_ACK_FRAME (R322, R323, R326): the ACK of the frame in flight. After a clash no RETX follows it (R314). -/
def execOfdmAckFrame (fch : BitVec 48) (s : State) : Out :=
  let v := fch.toNat
  if !s.siteHears then .next s
  else if s.fchCrc ((msb 48 v).take 40) ≠ v % 256 then .next s.foreign.frameLost
  else match s.sit.tx with
    | some x =>
      if bitsAt v 46 2 = 2 ∧ bitsAt v 36 10 = s.addr ∧ bitsAt v 32 4 = x.lseq ∧ x.due.isSome then
        let k := x.hop - 1
        let map := bitsAt v 16 16
        let segs : List SegTx := x.segs.mapIdx (fun i g => { g with acked := g.acked || map.testBit i })
        let t := (s.hearNode x.hop).updSit (fun y => { y with w := 7 })
        let t := forEach ((x.segs.zip segs).filter (fun g => !g.1.acked)) (fun g u => u.segResult k g.1.sext g.2.acked) t
        let miss : List SegTx := segs.filter (fun g => !g.acked)
        if miss = [] then
          if x.rest = [] then
            let t := t.updSit (fun y => { y with tx := none })
            .next ((t.probeDone x.msg x.hop x.start).msgSent x.msg (s.now - x.start))
          else .next (t.queueFrame x.msg x.hop [] x.rest)
        else if miss.any (fun (g : SegTx) => decide (4 ≤ g.sends)) then .next (t.reroute x.msg x.hop)
        else if miss.any (fun (g : SegTx) => mapLevel (t.get (SIT_LINK_TXMAP k)) g.sext != g.level) then
          .next (t.queueFrame x.msg x.hop segs x.rest)
        else if !t.maySend x.msg then .next (t.updSit (fun y => { y with tx := some { x with segs := segs, due := none } }))
        else
          let segs := segs.map (fun g => if g.acked then g else { g with sends := g.sends + 1 })
          let wait := (match miss with | g :: _ => (g.sext + 6 - (s.sit.sext + 3)) % 6 | [] => 0)
          let last := match miss with | g :: _ => retxOffs g.sext 0 miss | [] => 0
          let t := t.sendFch (s.dataFch 1 x.hop miss.length x.lseq (s.link k).tmvTx false)
          .next (t.updSit (fun y => { y with tx := some { x with
            segs := segs, due := some (y.sextCount + 3 + wait + last + 3) } }))
      else .next s
    | none => .next s

/-- A received OFDM message (R327, R328): checked, not acted on twice, delivered or forwarded. -/
def State.takeMessage (s : State) (bs : List Byte) : State :=
  let f (off n : Nat) : Nat := field bs off n
  let n := 18 + f 7 1
  if crc16 (bs.take n) ≠ f n 2 then s
  else if f 0 2 ≠ s.get SIT_CFG_SITE_ID then s.foreign
  else
    let origin := f 2 2 % 1024
    let final := f 4 2 % 1024
    let key := (origin, f 10 1, f 8 2)
    let payload := (bs.drop 18).take (f 7 1)
    if origin = s.addr then s.addrClash
    else if s.sit.dedupe.contains key then
      if f 6 1 = 8 ∧ final = s.addr then s.sendSite origin 0x09 (le 2 (f 8 2)) none
      else if f 6 1 = 2 ∧ final = s.addr ∧ s.isSet GOV_PL_CFG_PARTNER ∧ (nth payload 0#8 3).toNat % 2 = 1 then
        s.sendSite origin 0x03 (payload.take 2 ++ le 2 (f 8 2)) none
      else s
    else
      let t := s.updSit (fun x => { x with dedupe := keepPair key x.dedupe })
      if final = 0 ∨ final = s.addr then t.deliver { origin := origin, mtype := f 6 1, payload := payload, id := f 8 2 }
      else
        t.updSit (fun x => { x with outq := x.outq ++ [
          { dst := final, mtype := f 6 1, payload := payload, mseq := f 8 2, origin := some (origin, f 10 1) }] })

/-- The reassembly record of a source. -/
def State.rxOf (s : State) (src : Nat) : OfdmRx :=
  (s.sit.rx.find? (fun r => r.src == src)).getD { src := src, lseq := 16, segs := [] }
def State.setRx (s : State) (r : OfdmRx) : State :=
  s.updSit (fun x => { x with rx := r :: x.rx.filter (fun y => y.src != r.src) })

/-- Promotion (R326): a sextant that has supported a higher level for 16 segments in sequence; a closed one only by probes. -/
def State.segHeard (s : State) (k : Nat) (g : SegObs) : State :=
  let sx := g.sext % 6
  let cur := mapLevel (s.get (SIT_LINK_RXMAP k)) sx
  let up := decide (cur < g.sup) && (cur != 0 || g.probe) && (g.probe || g.data.isSome)
  s.updLinkRec k (fun x => { x with
    snr := upd x.snr sx (fun _ => g.snr)
    ups := upd x.ups sx (fun n => if up then n + 1 else 0) })

/-- The new receive maps of a link, sent as a TONE_MAP with the next TMV, when a sextant is promoted (R326). -/
def State.promote (s : State) (k : Nat) : State :=
  let x := s.link k
  let old := s.get (SIT_LINK_RXMAP k)
  let new := (List.range 6).foldl (fun m j => if 16 ≤ nth x.ups 0 j then setLevel m j (mapLevel m j + 1) else m) old
  if new = old then s
  else
    let tmv := (x.tmvRx + 1) % 16
    let t := s.updLinkRec k (fun y => { y with tmvRx := tmv, ups := y.ups.map (fun n => if 16 ≤ n then 0 else n) })
    (t.put (SIT_LINK_RXMAP k) new).sendSite (k + 1) 0x06 (le 2 (new + tmv * 4096)) none

/-- OFDM_DATA_FRAME (R313, R314, R322, R323, R325, R326): a DATA or RETX frame with its segments, and its ACK. While the power
reserve admits no SITE_OFDM complication, no segment is decoded. -/
def execOfdmDataFrame (fch : BitVec 48) (segs : List SegObs) (s : State) : Out :=
  let v := fch.toNat
  if !s.siteHears then .next s
  else if s.fchCrc ((msb 48 v).take 40) ≠ v % 256 then .next s.foreign.frameLost
  else
    let typ := bitsAt v 46 2
    let dst := bitsAt v 36 10
    let src := bitsAt v 26 10
    let nseg := bitsAt v 22 4 + 1
    let lseq := bitsAt v 18 4
    if typ ≥ 2 then .next s
    else if src = s.addr then .next s.addrClash
    else
      let noComp := !(s.allowed s.owner).testBit kOFDM
      let t := s.hearNode src
      if (dst ≠ 0 ∧ dst ≠ s.addr) ∨ src = 0 ∨ 16 < src then .next t
      else
        let k := src - 1
        let data := segs.filter (fun g => !g.probe)
        let dropped := (data.filter (fun g => g.dropped || noComp)).length
        let failed := (data.filter (fun g => !(g.dropped || noComp) && g.data.isNone)).length
        let t := (t.incBy SIT_DROP_DECODE_DROP dropped).incBy SIT_ERR_SEG_FAIL failed
        let t := forEach (segs.filter (fun g => !(g.dropped || noComp))) (fun g u => u.segHeard k g) t
        let t := t.promote k
        let got := data.map (fun g => if g.dropped || noComp then none else g.data)
        let r := t.rxOf src
        if r.last = some lseq then
          .next (t.sendAck dst src lseq (2 ^ (max nseg r.segs.length) - 1))
        else
          let fresh := decide (r.lseq ≠ lseq) || typ == 0
          let old : List (Option (List Byte)) := if fresh then List.replicate nseg none else r.segs
          let all := if typ = 0 then (List.range old.length).map (fun i =>
              match nth got none i with | some b => some b | none => nth old none i)
            else
              (old.foldl (fun (acc : List (Option (List Byte)) × List (Option (List Byte))) o =>
                match o with
                | some b => (acc.1 ++ [some b], acc.2)
                | none => match acc.2 with
                  | [] => (acc.1 ++ [none], [])
                  | g :: rest => (acc.1 ++ [g], rest)) ([], got)).1
          let map := (List.range all.length).foldl (fun m i => natBit m i (nth all none i).isSome) 0
          let t := t.sendAck dst src lseq map
          let buf := if r.last = some ((lseq + 15) % 16) then r.buf else []
          if all.all (fun o => o.isSome) then
            let bytes := buf ++ (all.filterMap id).flatten
            let whole := decide (18 ≤ bytes.length) && decide (20 + field bytes 7 1 ≤ bytes.length)
            let t := t.setRx { src := src, lseq := lseq, segs := all, buf := if whole then [] else bytes, last := some lseq }
            .next (if whole then t.takeMessage (bytes.take (20 + field bytes 7 1)) else t)
          else .next (t.setRx { src := src, lseq := lseq, segs := all, buf := r.buf, last := r.last })

/-- PREAMBLE_LOST (R333): nothing of the frame is used; 0x9103 at most once per minute. -/
def execPreambleLost (s : State) : Out :=
  .next (if s.siteHears then s.frameLost else s)

/-- SEXTANT_START (R315, R322, R324): a new sextant, S_0 of a free-running reference being its next cycle; `energy` when a preamble or segment energy was detected in the last one. After the sixth
quiet one a random wait of 0 to W sextants is drawn. -/
def execSextantStart (j : Fin 6) (energy : Bool) (s : State) : Out :=
  let n := if energy then 0 else s.sit.quiet + 1
  let t := s.updSit (fun x => { x with sext := j, sextCount := x.sextCount + 1, quiet := n })
  let t := when (s.isSet SIT_STATUS_FREE_RUN && decide (j.val = 0)) (fun u => u.put SIT_MAINS_CYCLE (u.get SIT_MAINS_CYCLE + 1)) t
  let d := t.draw
  .next (if n = 6 then d.2.updSit (fun x => { x with oWait := d.1 % (x.w + 1) }) else t)

/-! ### Periodic messages -/

/-- PROBE_FRAME (R326): a frame with PROBE to a node while one of the maps toward it is closed, every 60 s. It carries the
present receive maps as a TONE_MAP (log entry 40). -/
def execProbeFrame (k : Fin 16) (s : State) : Out :=
  let x := s.link k
  if s.siteUp ∧ s.isSet (SIT_LINK_KNOWN k) ∧ (List.range 6).any (fun j => mapLevel (s.get (SIT_LINK_TXMAP k)) j == 0) ∧
      x.probe + 60 * secBeats ≤ s.now then
    let t := s.updLinkRec k (fun y => { y with probe := s.now })
    .next (t.sendMsg { dst := k + 1, mtype := 0x06, payload := le 2 (s.get (SIT_LINK_RXMAP k) + x.tmvRx * 4096), probe := true })
  else .next s

/-- LINK_REPORT_SEND (R327): every 60 s. -/
def execLinkReportSend (s : State) : Out :=
  let due : Bool := match s.sit.lrBeat with | some b => decide (b + 60 * secBeats ≤ s.now) | none => true
  if s.siteUp ∧ due then
    let rec_ (k : Nat) : Nat :=
      let age := match (s.link k).heard with | some b => min 15 ((s.now - b) / (16 * secBeats)) | none => 15
      s.get (SIT_LINK_RXMAP k) + 4096 * age
    let t := s.updSit (fun x => { x with lrBeat := some s.now })
    .next (t.sendSite 0 0x05 ((List.range 16).flatMap (fun k => le 2 (rec_ k))) none)
  else .next s

/-- LINK_EXPIRY (R327): a link not heard for 180 s is unusable. -/
def execLinkExpiry (k : Fin 16) (s : State) : Out :=
  match (s.link k).heard with
  | some b => if b + 180 * secBeats ≤ s.now ∧ (s.link k).usable then .next s.showLinks else .next s
  | none => .next s

/-- What a partner reports (R223, R329): minimums, needs and ceilings of its sessions, its draw, its FAILSAFE share, the highest
class and the earliest departure in minutes. -/
def State.reportOf (s : State) : List Byte :=
  let it := s.gov.last.items
  let kw (v : Int) : List Byte := le 2 (min 0xFFFF (v / 100).toNat)
  let cls := it.foldl (fun c x => min c x.cls) 3
  let dep := it.foldl (fun d x => match d, x.dep with | none, y => y | y, none => y | some a, some b => some (min a b)) none
  kw (sumI (it.map (·.m))) ++ kw (sumI (it.map (fun x => min x.n x.c))) ++ kw (sumI (it.map (·.c))) ++ kw s.gov.last.pSite ++
    le 2 s.gov.failsafe ++ le 1 cls ++ le 2 (match dep with | some d => min 0xFFFE ((d - s.mono) / 60) | none => 0xFFFF)

/-- Whether a REPORT differs enough from the last one: a value by more than 1 kW, class or departure (R329). -/
def reportMoved (a b : List Byte) : Bool :=
  (List.range 5).any (fun i => decide ((field a (2 * i) 2 : Int) - field b (2 * i) 2 > 10) ||
    decide ((field b (2 * i) 2 : Int) - field a (2 * i) 2 > 10)) || a.drop 10 != b.drop 10

/-- PARTNER_REPORT_SEND (R329). -/
def execPartnerReportSend (s : State) : Out :=
  let period := s.gov.sharePeriod.getD (s.get GOV_REG_STATE_PERIOD)
  let due : Bool := match s.sit.repBeat with | some b => decide (b + 2 * period * secBeats ≤ s.now) | none => true
  let r := s.reportOf
  if s.siteUp ∧ s.isSet GOV_PL_CFG_PARTNER ∧ (due ∨ reportMoved r s.sit.repLast) then
    .next ((s.updSit (fun x => { x with repBeat := some s.now, repLast := r })).sendSite 1 0x01 r none)
  else .next s

/-- ANNOUNCE_SEND (R329): at start and every 600 s, on both layers; role, part number, module serial, phases (log entry 41). -/
def execAnnounceSend (s : State) : Out :=
  let due : Bool := match s.sit.annBeat with | some b => decide (b + 600 * secBeats ≤ s.now) | none => true
  if s.siteUp ∧ due then
    let p := le 1 s.siteRole ++ le 2 (s.get GLB_ID_PART) ++ le 8 (s.rdN A_GLB_SERIAL_LO + 2 ^ 32 * s.rdN A_GLB_SERIAL_HI) ++
      le 1 (s.get SIT_CFG_INJ)
    let t := (s.updSit (fun x => { x with annBeat := some s.now })).sendSite 0 0x07 p none
    .next (if s.injOk = 0 then t else t.sendMsg { dst := 0, mtype := 0x07, payload := p.take 8, left := s.injOk })
  else .next s

/-- NO_PRIVILEGED (Faults): a regulator or partner hears no node of its site for 60 s. -/
def execNoPrivileged (s : State) : Out :=
  if s.siteHears ∧ (s.siteRole = 2 ∨ s.isSet GOV_PL_CFG_PARTNER) ∧ !s.sit.lonely ∧ s.sit.heard + 60 * secBeats ≤ s.now then
    .next ((s.updSit (fun x => { x with lonely := true })).raise 0x9108 DEGRADE s.srcOwner 0 0)
  else .next s

/-! ### Received messages -/

/-- Take the oldest message of a type, if one waits. -/
def State.onMsg (s : State) (mtype : Nat) (f : RxMsg → State → State) : State :=
  match s.takeMsg mtype with
  | some (m, t) => f m t
  | none => s

/-- REPORT (R223, R225, R329): only the regulator uses it; a new partner counts at its FAILSAFE share, which it uses until a
share arrives. -/
def execReport (s : State) : Out :=
  .next (s.onMsg 0x01 (fun m s =>
    if !s.isSet GOV_PL_CFG_REGULATOR then s
    else
      let known := s.partnerOf m.origin
      match (if known.isSome then known else (List.range 255).find? (fun k => s.get (GOV_REG_P_ID_STATE k) == 0)) with
      | none => s
      | some k =>
        let fs := m.at 8 2
        let dep := m.at 11 2
        let st := s.get (GOV_REG_P_ID_STATE k)
        let t := (s.put (GOV_REG_P_ID_NODE k) m.origin).putSat (GOV_REG_P_ID_CLASS k) (m.at 10 1)
        let t := (t.put (GOV_REG_P_DEMAND_P_MIN k) (m.at 0 2)).put (GOV_REG_P_ACT_P_NEED k) (m.at 2 2)
        let t := (t.put (GOV_REG_P_DEMAND_P_MAX k) (m.at 4 2)).put (GOV_REG_P_ACT_P_ACT k) (m.at 6 2)
        let t := t.put (GOV_REG_P_SHARE_FAILSAFE k) fs
        let t := if st = 0 then t.put (GOV_REG_P_SHARE_SHARE k) fs else t
        let t := t.put (GOV_REG_P_ID_STATE k) (if st = 3 then 3 else 1)
        let t := t.updPartner k (fun p => { (if st = 0 then {} else p) with
          report := s.now
          depart := if dep = 0xFFFF then none else some (s.mono + 60 * dep) })
        t.showPartners.judgeCap))

/-- SHARE (R225, R312, R329): a partner takes it from the site regulator, address 1, as its share and acknowledges one marked LOWERED. -/
def execShare (s : State) : Out :=
  .next (s.onMsg 0x02 (fun m s =>
    if !s.isSet GOV_PL_CFG_PARTNER ∨ m.origin ≠ 1 then s
    else
      let per := m.at 2 1
      let t := s.updGov (fun g => { g with
        share := some (m.at 0 2), shareBeat := s.now, sharePeriod := if per = 0 then g.sharePeriod else some per })
      if m.at 3 1 % 2 = 1 then t.sendSite m.origin 0x03 (m.payload.take 2 ++ le 2 m.id) none else t))

/-- SHARE_ACK (R224): the partner counts at its new share; raised shares go once nothing else waits. -/
def execShareAck (s : State) : Out :=
  .next (s.onMsg 0x03 (fun m s =>
    match s.partnerOf m.origin with
    | none => s
    | some k =>
      let t := s.updSit (fun x => { x with await := x.await.filter (fun y => !(y.mtype == 2 && y.dst == m.origin)) })
      if s.get (GOV_REG_P_ID_STATE k) = 3 ∧ m.at 0 2 = s.get (GOV_REG_P_SHARE_SHARE k) then
        let t := (t.put (GOV_REG_P_ID_STATE k) 1).updPartner k (fun p => { p with oldShare := 0, wait := none })
        t.sendRaises.showPartners
      else t))

/-- METER_INFO (R331): from address 2 only. -/
def execMeterInfo (s : State) : Out :=
  .next (s.onMsg 0x04 (fun m s =>
    if m.origin ≠ 2 then s
    else
      let old := s.get SIT_XM_LIMIT_LIMIT
      let t := (s.put SIT_XM_POWER_P_IMP (m.at 0 2)).put SIT_XM_POWER_P_EXP (m.at 2 2)
      let t := ((t.put SIT_XM_AGE_REG (m.at 4 1)).put SIT_XM_AGE_AGE 0).put SIT_XM_LIMIT_LIMIT (m.at 5 2)
      let t := (t.put SIT_XM_LIMIT_MINUTES (m.at 7 2)).updSit (fun x => { x with xmBeat := some s.now })
      when (decide (old ≠ m.at 5 2)) (fun u => u.set1 SIT_EVENTS_XM_LIMIT) t))

/-- LINK_REPORT (R327): the sender's receive maps; an age of 180 s or more leaves a link unreported. -/
def execLinkReport (s : State) : Out :=
  .next (s.onMsg 0x05 (fun m s =>
    let recs := (List.range 16).map (fun k => (m.origin, k + 1, m.at (2 * k) 2 % 4096, s.now))
    let fresh := recs.filter (fun r => decide (16 * (m.at (2 * (r.2.1 - 1)) 2 / 4096) < 180))
    (s.updSit (fun x => { x with reports := fresh ++ x.reports.filter (fun r => r.1 != m.origin) })).showLinks))

/-- TONE_MAP (R326): the maps toward its sender, from the next DATA frame. -/
def execToneMap (s : State) : Out :=
  .next (s.onMsg 0x06 (fun m s =>
    if 1 ≤ m.origin ∧ m.origin ≤ 16 ∧ m.origin ≠ s.addr then
      let k := m.origin - 1
      ((s.put (SIT_LINK_TXMAP k) (m.at 0 2 % 4096)).updLinkRec k (fun x => { x with
        tmvTx := m.at 0 2 / 4096, fails := [0, 0, 0, 0, 0, 0] })).showLinks
    else s))

/-- ANNOUNCE (R329): its sender is a node of the site. -/
def execAnnounce (s : State) : Out := .next (s.onMsg 0x07 (fun m s => (s.hearNode m.origin).showLinks))

/-- HOST_DATA (R329): queued for SIT_RECV, a ninth over the oldest, and acknowledged end to end. -/
def execHostData (s : State) : Out :=
  .next (s.onMsg 0x08 (fun m s =>
    let q := (if 8 ≤ s.sit.rxq.length then s.sit.rxq.drop 1 else s.sit.rxq) ++ [(m.origin, m.payload)]
    let t := (s.updSit (fun x => { x with rxq := q })).put SIT_RXQ_DEPTH q.length
    (t.set1 SIT_EVENTS_RX_HOST).sendSite m.origin 0x09 (le 2 m.id) none))

/-- E2E_ACK (R329): the SIT_SEND that waits for it is answered OK. -/
def execE2eAck (s : State) : Out :=
  .next (s.onMsg 0x09 (fun m s =>
    match s.sit.await.find? (fun y => y.mtype == 8 && y.dst == m.origin &&
        (if m.origin ≤ 16 then y.mseq == m.at 0 2 else y.seq == some (m.at 0 2 % 16))) with
    | none => s
    | some y =>
      let t := s.updSit (fun x => { x with await := x.await.erase y })
      match y.cmd with
      | some c => t.replyTo c.port c.seq stOK 0
      | none => t))

/-- What the new owner sends again after a takeover (R243, R332): the OFDM frame that was cut off, with its LSEQ, and beat
frames with their SEQ. -/
def State.siteReplay (s : State) : State :=
  s.updSit (fun x => { x with
    tx := x.tx.map (fun t => { t with due := none })
    btx := x.btx.map (fun b => b.map (fun y => { y with idx := 0, rep := 0 })) })

/-- A SITE unit restart ends a clash and injection faults (R314, R320, R332); queued messages are kept. -/
def State.siteRestart (s : State) : State :=
  let t := s.siteStop 1
  t.updSit (fun x => { x with clash := false, injStop := 0, pulse0 := [0, 0, 0], w := 7 })

/-! ### Commands -/

/-- SIT_SEND, 0x0A10: destination, Mainplate address, length. -/
def execSitSend (mb : Fin 8) (s : State) : Out :=
  .next (s.command mb 0x0A10 .running false (fun c s =>
    let dst := c.u32 0
    let n := c.u32 2
    if s.siteRole = 0 then s.reply c stREFUSED_STATE 0
    else if dst = 0 ∨ dst > 1023 ∨ dst = s.addr ∨ n = 0 ∨ n > (if dst ≤ 16 then 200 else 8) ∨ !argRangeOk (c.u32 1) n then
      s.reply c stBAD_ARG 0
    else s.sendSite dst 0x08 (s.mpRead (c.u32 1) n) (some { port := c.port, seq := c.seq })))

/-- SIT_RECV, 0x0A11: the oldest HOST_DATA at the address; PARAM is the origin and, from bit 16, the length (log entry 42). -/
def execSitRecv (mb : Fin 8) (s : State) : Out :=
  .next (s.command mb 0x0A11 .running false (fun c s =>
    match s.sit.rxq with
    | [] => s.reply c stBAD_ARG 0
    | m :: rest =>
      if !argRangeOk (c.u32 0) m.2.length then s.reply c stBAD_ARG 0
      else
        let t := ((s.laneWrite (c.u32 0) m.2).updSit (fun x => { x with rxq := rest })).put SIT_RXQ_DEPTH rest.length
        t.reply c stOK (m.1 + m.2.length * 65536)))

/-- SIT_LINK_INFO, 0x0A12: 16 records of 16 bytes: both maps, cost, SNR by sextant, route (log entry 42). -/
def execSitLinkInfo (mb : Fin 8) (s : State) : Out :=
  .next (s.command mb 0x0A12 .running false (fun c s =>
    if !argRangeOk (c.u32 0) 256 then s.reply c stBAD_ARG 0
    else
      let rec_ (k : Nat) : List Byte :=
        let route := match s.routeTo (k + 1) [] with | some p => p.2 | none => []
        padTo 16 (le 2 (s.get (SIT_LINK_TXMAP k)) ++ le 2 (s.get (SIT_LINK_RXMAP k)) ++ le 2 (s.get (SIT_LINKQ_COST k)) ++
          (s.link k).snr.flatMap (fun v => le 1 (twos 8 (satI 8 v))) ++ route.flatMap (fun a => le 1 a))
      (s.laneWrite (c.u32 0) ((List.range 16).flatMap rec_)).reply c stOK 0))

/-- SIT_PROBE, 0x0A13 (R326): answered when the frame is acknowledged. -/
def execSitProbe (mb : Fin 8) (s : State) : Out :=
  .next (s.command mb 0x0A13 .running false (fun c s =>
    let a := c.u32 0
    if s.siteRole = 0 then s.reply c stREFUSED_STATE 0
    else if a = 0 ∨ a > 16 ∨ a = s.addr then s.reply c stBAD_ARG 0
    else
      let k := a - 1
      s.sendMsg { dst := a, mtype := 0x06, payload := le 2 (s.get (SIT_LINK_RXMAP k) + (s.link k).tmvRx * 4096), probe := true,
                  cmd := some { port := c.port, seq := c.seq } }))

end Sys2Proof.Machine
end

