-- ==== Sys2Proof/Machine/Update.lean ====
section
/-! DEFINITION. Firmware update and recovery of 19_update.md: judging, loading, activating, the ROM's recovery. -/
namespace Sys2Proof.Machine

/-- A little-endian field of a byte list. -/
def fieldAt (bs : List Byte) (off n : Nat) : Nat := ofLe ((bs.drop off).take n)

/-- The largest image of a component in bytes (R387). -/
def largest (c : Nat) : Nat :=
  if c = 0 then 0x40000 else if c = 1 then 0x800000 else if c = 2 then 0x200000 else if c = 3 then 0x100000
  else if c = 4 then 0x80000 else if c = 5 then 0x100000 else 0x200000

/-- A compatibility vector of 48 bytes: minimum and maximum of LANE_FW to GP_FW (R388). -/
def vectorOf (bs : List Byte) : List (Nat × Nat) :=
  (List.range 6).map (fun i => (fieldAt bs (8 * i) 4, fieldAt bs (8 * i + 4) 4))

/-- Whether a vector admits a set of versions; a component's entry for itself is ignored (R388). -/
def admits (v : List (Nat × Nat)) (self : Nat) (set : List UpdRec) : Bool :=
  (List.range 6).all (fun i =>
    let w := (nth set {} (i + 1)).version
    let e := nth v (0, 0) i
    i + 1 == self || (decide (e.1 ≤ w) && decide (w ≤ e.2)))

/-- Whether the vector of every image of a set admits the set (R388). -/
def setAdmits (set : List UpdRec) : Bool := (List.range 7).all (fun c => admits (nth set {} c).compat c set)

/-- Whether a MIRROR_PROTO matches a LANE_FW (R388). -/
def mirrorOk (p : Nat) (lane : UpdRec) : Bool := p == lane.mirror || p == lane.alt

/-- COMPAT, MIRROR_PROTO of an image's header (R34). -/
def Image.compat (i : Image) : List (Nat × Nat) := vectorOf (i.header.drop 0x18)
def Image.mirror (i : Image) : Nat := fieldAt i.header 0x48 4

/-- Whether an image admits a set of component versions (R37 step 5). -/
def Image.admitsSet (i : Image) (set : List UpdRec) : Bool := admits i.compat 7 set && mirrorOk i.mirror (nth set {} 1)

/-- Whether a set is consistent (R388); where no calibre image runs, by its vectors alone. -/
def State.consistentSet (s : State) (set : List UpdRec) : Bool :=
  setAdmits set && (!s.running || s.cal.run.admitsSet set)

/-- The set of flash versions with one record in place of a component's. -/
def State.flashWith (s : State) (c : Nat) (r : UpdRec) : List UpdRec := upd s.fwu.flash c (fun _ => r)

/-- The record that a header describes (R389). -/
def headerRec (bs : List Byte) : UpdRec :=
  { version := fieldAt bs 0x0C 4, length := fieldAt bs 0x10 4, mirror := fieldAt bs 0x14 4, alt := fieldAt bs 0x18 4,
    compat := vectorOf (bs.drop 0x28), mixed := fieldAt bs 9 1 % 2 == 1 }

/-- The first check of R391: MAGIC, FORMAT, PART, HEADER_CRC, NSEG against LENGTH. -/
def headerGood (bs : List Byte) : Bool :=
  let n := fieldAt bs 0x0A 2
  let len := fieldAt bs 0x10 4
  fieldAt bs 0 4 == 0x49445055 && fieldAt bs 4 2 == 1 && fieldAt bs 6 2 == 0x8200 &&
    fieldAt bs 0xFC 4 == crc32 (bs.take 0xFC) && decide (1 ≤ n) && decide (n ≤ 128) && n == (len + 65535) / 65536

/-- The checks of R391 in order: the refusal's status and fault, or none. -/
def State.judgeUpdate (s : State) (bs : List Byte) (rom : Bool) : Option (Nat × Nat) :=
  let c := fieldAt bs 8 1
  let r := headerRec bs
  let n := fieldAt bs 0x0A 2
  let signed := bs.take 0x80 ++ (bs.drop 0x100).take (32 * n)
  if !headerGood bs then some (stBAD_ARG, 0xB101)
  else if fieldAt bs 0x20 8 ≠ s.glb.serial ∨ !signed384 s.key.romFirmware signed ((bs.drop 0x80).take 96) then
    some (stREFUSED_AUTH, 0xB102)
  else if c > 6 ∨ (c = 0 ∧ !rom) ∨ largest c < r.length then some (stBAD_ARG, 0xB101)
  else if r.version < s.get (UPD_C_FLOOR_FLOOR c) then some (stREFUSED_AUTH, 0xB103)
  else if !s.consistentSet (s.flashWith c r) then some (stINCOMPATIBLE, 0xB104)
  else none

/-- A refusal of R391: its fault, and for the second and fourth check a class A occurrence (R148). -/
def State.updRefused (s : State) (code c : Nat) : State :=
  let t := s.raise code NOTE s.srcOwner c 0
  when (code == 0xB102 || code == 0xB103) (fun u => u.tamperA 4) t

/-- UPD_BEGIN is answered BUSY (R392, R394). -/
def State.updBusy (s : State) : Bool :=
  s.fwu.load.isSome || s.fwu.restore.isSome || s.warned ||
    (List.range 7).any (fun c => (nth s.fwu.flash {} c).version != (nth s.fwu.run {} c).version)

/-- The load that a header describes. -/
def loadOf (bs : List Byte) (cmd : Option CmdRef) : UpdLoad :=
  { comp := fieldAt bs 8 1, image := headerRec bs, nseg := fieldAt bs 0x0A 2, nonce := (bs.drop 0x58).take 12,
    digests := (bs.drop 0x100).take (32 * fieldAt bs 0x0A 2), cmd := cmd }

/-- Step 1 of a load (R393): the directory entry reads WRITING with the old VERSION. -/
def State.loadStart (s : State) (l : UpdLoad) : State :=
  let t := (s.put UPD_STATUS_PHASE 1).put UPD_STATUS_COMPONENT l.comp
  let t := (t.put UPD_STATUS_SEG_DONE 0).put UPD_STATUS_SEG_TOTAL l.nseg
  t.put (UPD_C_STATE_ENTRY l.comp) 1

/-- Plaintext bytes of a segment (R389). -/
def UpdLoad.segLen (l : UpdLoad) (i : Nat) : Nat :=
  if i + 1 < l.nseg then 65536 else l.image.length - 65536 * (l.nseg - 1)

/-- The nonce of a segment in transit: the last 4 bytes of NONCE_BASE, big-endian, XORed with its index (R389). -/
def UpdLoad.segNonce (l : UpdLoad) (i : Nat) : List Byte :=
  l.nonce.take 8 ++ (le 4 (ofLe (l.nonce.drop 8).reverse ^^^ i)).reverse

/-- The value of UPD_TRANSIT J_5 (R390); the ROM derives it where the stores are not loaded (R374, R398). -/
def State.transitKey (s : State) : Nat := (s.jewel 5).getD (s.deriveJewel Config.fusedRoot 5)

/-- Step 2 of a load over delivered bytes (R393): segments in order, until the bytes, the count or the segments end, or one fails
with its fault; `bad` is a segment whose flash write fails verification twice. -/
def loadSegs (key : Nat) (bad : Option Nat) : Nat → UpdLoad → List Byte → UpdLoad × Nat
  | 0, l, data => ({ l with rest := data }, 0)
  | k + 1, l, data =>
    let n := l.segLen l.next + 16
    if l.nseg ≤ l.next ∨ data.length < n then ({ l with rest := data }, 0)
    else if !segmentGood key (l.segNonce l.next) (data.take n) ((l.digests.drop (32 * l.next)).take 32) then
      (l, 0xB105)
    else if bad = some l.next then (l, 0xB106)
    else loadSegs key bad k { l with next := l.next + 1 } (data.drop n)

/-- The version record is verified (R393 steps 3 and 4, R392): the floor rises to the version replaced. -/
def State.loadCommit (s : State) (l : UpdLoad) : State :=
  let old := (nth s.fwu.flash {} l.comp).version
  let t := s.updUpd (fun u => { u with flash := upd u.flash l.comp (fun _ => l.image) })
  let t := (t.put (UPD_C_FLASH_VERSION l.comp) l.image.version).raiseTo (UPD_C_FLOOR_FLOOR l.comp) old
  let t := (t.put (UPD_C_STATE_ENTRY l.comp) 0).put (UPD_C_STATE_LENGTH l.comp) l.image.length
  (t.putB (UPD_C_STATE_PENDING l.comp) (l.image.version != (nth t.fwu.run {} l.comp).version)).set1 UPD_EVENTS_LOADED

/-- The UPD_BEGIN of a load is answered, and the aborts that came too late get a copy of its result (R30). -/
def State.loadEnd (s : State) (l : UpdLoad) (status code : Nat) : State :=
  match l.cmd with
  | some c =>
    let t := (s.updUpd (fun u => { u with load := none, aborts := [] })).replyTo c.port c.seq status code
    forEach s.fwu.aborts (fun r u => u.abortLateTo r c) t
  | none => s.updUpd (fun u => { u with load := none })

/-- A load ends with a fault and is undone (R393, R394). -/
def State.loadFail (s : State) (l : UpdLoad) (code : Nat) : State :=
  let t := s.raise code (if code = 0xB106 then DEGRADE else NOTE) s.srcOwner l.comp l.next
  ((t.set1 UPD_EVENTS_FAILED).loadEnd l stBAD_ARG code).startRestore l.comp

/-- UPD_BEGIN, 0x0B10 (R391 to R393): address and length of the header and digest table. -/
def execUpdBegin (mb : Fin 8) (s : State) : Out :=
  .next (s.command mb 0x0B10 .running false (fun c s =>
    let a := c.u32 0
    let n := c.u32 1
    if s.glb.lifecycle ≠ 1 ∧ s.glb.lifecycle ≠ 2 then s.reply c stREFUSED_STATE 0
    else if s.updBusy then s.reply c stBUSY 0
    else if !argRangeOk a n ∨ n < 0x100 then s.reply c stBAD_ARG 0
    else
      let t := s.laneReads a n
      let bs := t.mpRead a n
      match t.judgeUpdate bs false with
      | some (st, code) => (t.updRefused code (fieldAt bs 8 1)).reply c st code
      | none =>
        let l := loadOf bs (some { port := c.port, seq := c.seq })
        if l.digests.length < 32 * l.nseg then t.reply c stBAD_ARG 0
        else (t.updUpd (fun u => { u with load := some l })).loadStart l))

/-- UPD_CHUNK, 0x0B11 (R393, R377, R390): first segment, count, address; `bad` is a segment whose flash write fails verification twice. -/
def execUpdChunk (mb : Fin 8) (bad : Option (Fin 128)) (s : State) : Out :=
  .next (s.command mb 0x0B11 .running false (fun c s =>
    let i := c.u32 0
    let k := c.u32 1
    let a := c.u32 2
    match s.fwu.load with
    | none => s.reply c stREFUSED_STATE 0
    | some l =>
      let n := sumN ((List.range (min k 128)).map (fun j => l.segLen (i + j) + 16))
      if k = 0 ∨ i ≠ l.next ∨ l.nseg < i + k ∨ !argRangeOk a n then s.reply c stBAD_ARG 0
      else if !s.jewelOk 5 opAES_DEC s.appMaster 1 then s.keyRefuse c 5
      else
        let t := s.laneReads a n
        let r := loadSegs t.transitKey (bad.map Fin.val) k l (t.mpRead a n)
        let t := (t.updUpd (fun u => { u with load := some r.1 })).put UPD_STATUS_SEG_DONE r.1.next
        let t := forUpTo (r.1.next - l.next) (fun _ u => (u.jewelUsed 5).jewelUsed 6) t
        if r.2 = 0 then t.reply c stOK 0 else (t.loadFail r.1 r.2).reply c stBAD_ARG r.2))

/-- UPDATE_LOAD_COMMIT (R393 step 4): the commit point of a load whose segments are all written. -/
def execUpdateLoadCommit (s : State) : Out :=
  match s.fwu.load with
  | some l =>
    if l.nseg ≤ l.next then .next (((s.loadCommit l).put UPD_STATUS_PHASE 2).loadEnd l stOK 0) else .next s
  | none => .next s

/-- UPDATE_RESTORE_DONE (R394): 0xB107. -/
def execUpdateRestoreDone (s : State) : Out :=
  match s.fwu.restore with
  | some c =>
    let r := nth s.fwu.run {} c
    let t := s.updUpd (fun u => { u with restore := none, flash := upd u.flash c (fun _ => r) })
    let t := (t.put (UPD_C_FLASH_VERSION c) r.version).put (UPD_C_STATE_LENGTH c) r.length
    let t := ((t.put (UPD_C_STATE_ENTRY c) 0).clr (UPD_C_STATE_PENDING c)).put UPD_STATUS_PHASE 0
    .next ((t.set1 UPD_EVENTS_RESTORED).raise 0xB107 NOTE t.srcOwner c 0)
  | none => .next s

/-- The end of an abort beat without the commit point (R30, R394): the load is undone, and the aborts are answered OK. -/
def State.updAborts (s : State) : State :=
  match s.fwu.load with
  | some l =>
    if s.fwu.aborts = [] then s
    else
      let t := s.updUpd (fun u => { u with load := none, aborts := [] })
      let t := match l.cmd with | some c => t.dropCmd c.port c.seq | none => t
      forEach s.fwu.aborts (fun r u => u.replyTo r.port r.seq stOK 0) (t.startRestore l.comp)
  | none => s

/-- UPD_ABORT, 0x0B12 (R30, R394): it takes effect in its beat; a commit point, or an end with a fault, of that beat still wins. -/
def execUpdAbort (mb : Fin 8) (s : State) : Out :=
  .next (s.command mb 0x0B12 .any false (fun c s =>
    let r : CmdRef := { port := c.port, seq := c.u32 0 }
    match s.fwu.load with
    | some l =>
      if l.cmd = some r then s.updUpd (fun u => { u with aborts := u.aborts ++ [{ port := c.port, seq := c.seq }] })
      else s.abortLate c r
    | none => s.abortLate c r))

/-! ### Activation -/

/-- Whether an outlet holds back GP_FW (R396): SLAC in progress, or a session with PROTO 2 to 4. -/
def State.gpHeld (s : State) (n : Nat) : Bool :=
  s.get (OUT_SLAC_PHASE n) == 1 || s.get (OUT_SLAC_PHASE n) == 2 ||
    ((s.sesOn n).isSome && decide (2 ≤ s.get (OUT_STATE_PROTO n)))
def State.gpIdle (s : State) : Bool := (List.range 12).all (fun n => !s.gpHeld n)

/-- A deferred GP_FW activation starts (R396). -/
def State.gpStart (s : State) : State := s.actStage 1 (fun t => t.put UPD_STATUS_PHASE 4)

/-- GP_FW_DEFERRED_START (R396). -/
def execGpFwDeferredStart (s : State) : Out :=
  match s.fwu.act with
  | some a => if a.comp = 6 ∧ a.stage = 0 ∧ s.gpIdle then .next s.gpStart else .next s
  | none => .next s

/-- The first step of an activation by component (R396). -/
def State.actStart (s : State) (comp : Nat) (force : Bool) : State :=
  if comp ≤ 2 then s.actStage 1 (fun t => t.loseStandby false)
  else if comp = 5 then s.actStage 1 State.siteRestart
  else if comp = 6 then
    let t := when force (fun u => forUpTo 12 (fun n v => when (v.gpHeld n) (fun w =>
      match w.sesOn n with
      | some k => w.stopSession k rUNIT_RESTART 0 false
      | none => w) v) u) s
    if t.gpIdle then t.gpStart else (t.put UPD_STATUS_PHASE 5).set1 UPD_EVENTS_DEFERRED
  else s

/-- UPD_ACTIVATE, 0x0B13 (R396): component, FORCE. -/
def execUpdActivate (mb : Fin 8) (s : State) : Out :=
  .next (s.command mb 0x0B13 .running false (fun c s =>
    let k := c.u32 0
    let new := nth s.fwu.flash {} k
    if k = 0 ∨ k > 6 ∨ new.version = (nth s.fwu.run {} k).version then s.reply c stBAD_ARG 0
    else if !s.consistentSet (upd s.fwu.run k (fun _ => new)) then
      (s.raise 0xB104 NOTE s.srcOwner k 0).reply c stINCOMPATIBLE 0xB104
    else if s.fwu.act.isSome ∨ s.fwu.restore.isSome ∨ (k ≤ 2 ∧ s.gstate ≠ 3) then s.reply c stREFUSED_STATE 0
    else
      let a : UpdAct := { comp := k, stage := 0, cmd := { port := c.port, seq := c.seq } }
      let t := s.updUpd (fun u => { u with act := some a, abandon := false })
      ((t.put UPD_STATUS_PHASE 4).put UPD_STATUS_COMPONENT k).actStart k (c.u32 1 % 2 == 1)))

/-- At the start of a beat: an activation goes on where its moment has come (R396): the reboot of the second lane, the Case
controller at a quiet beat with no bezel line in progress, the Dial's sequencer with no swing-in in steps 1 to 8. -/
def State.actBeat (s : State) (quiet : Bool) : State :=
  match s.fwu.act with
  | some a =>
    if a.comp ≤ 2 then s.actSecond
    else if a.comp = 3 ∧ a.stage = 0 ∧ quiet ∧ s.bzl.write.isNone then s.actStage 1 id
    else if a.comp = 4 ∧ a.stage = 0 ∧ s.sns.swings.isEmpty then s.actStage 1 id
    else s
  | none => s

/-- Whether the Case controller restarts on a new CASE_FW: no command set is applied (R396). -/
def State.caseDown (s : State) : Bool :=
  match s.fwu.act with | some a => a.comp == 3 && a.stage == 1 | none => false

/-- A unit that restarts for an activation runs again (R396): DIAL_FW, SITE_FW, GP_FW; CASE_FW counts as a reset. -/
def State.actUnit (s : State) (comp : Nat) : State :=
  match s.fwu.act with
  | some a =>
    if a.comp = comp ∧ a.stage = 1 then
      let t := s.actDone
      if comp = 3 then
        let t := { t with glb := { t.glb with resets := t.glb.resets + 1 } }
        (t.put GLB_RESET_CAUSE_CAUSE 6).put GLB_RESET_CAUSE_COUNT t.glb.resets
      else t
    else s
  | none => s

/-- CASE_FW_READY_TIMEOUT (R397): the Case die enters SAFE_HOLD with 0xB109. -/
def execCaseFwReadyTimeout (s : State) : Out :=
  match s.fwu.act with
  | some a =>
    if a.comp = 3 ∧ a.stage = 1 then
      let t := (s.updUpd (fun u => { u with act := none, abandon := false })).set1 UPD_EVENTS_FAILED
      let t := (t.put UPD_STATUS_PHASE 2).raiseHold 0xB109 srcCase 3 0
      .next (t.replyTo a.cmd.port a.cmd.seq stREFUSED_STATE 0xB109)
    else .next s
  | none => .next s

/-- UPD_INFO, 0x0B14: the seven version records, 96 bytes each. -/
def execUpdInfo (mb : Fin 8) (s : State) : Out :=
  .next (s.command mb 0x0B14 .any false (fun c s =>
    let a := c.u32 0
    if !argRangeOk a 672 then s.reply c stBAD_ARG 0
    else
      let bs := (List.range 7).flatMap (fun k =>
        let r := nth s.fwu.flash {} k
        padTo 96 (Config.versionRecord k r.version r.length r.mirror r.alt r.compat))
      (s.laneWrite a bs).reply c stOK 0))

/-! ### ROM recovery (R398) -/

/-- A write of UPD.REC_CMD in RECOVERY: the ROM takes a part. -/
def State.recWrite (s : State) (key op : Nat) : State :=
  if s.gstate = 6 ∧ key = 0x7E11 ∧ op ≠ 0 ∧ !s.isSet UPD_REC_STAT_BUSY then
    (s.updUpd (fun u => { u with recOp := op })).set1 UPD_REC_STAT_BUSY
  else s

/-- The ROM has finished a part with a result: 0, or the fault code of the refusal. -/
def State.recDone (s : State) (code : Nat) : State :=
  let t := (s.updUpd (fun u => { u with recOp := 0 })).clr UPD_REC_STAT_BUSY
  (t.put UPD_REC_STAT_RESULT code).putB UPD_REC_STAT_ERROR (code != 0)

/-- Segments of a part; the version record follows the last one. Nothing is undone. -/
def State.recSegs (s : State) (l : UpdLoad) (data : List Byte) (bad : Option Nat) : State :=
  let r := loadSegs s.transitKey bad 128 l (l.rest ++ data)
  let t := s.put UPD_STATUS_SEG_DONE r.1.next
  if r.2 ≠ 0 then
    let t := t.updUpd (fun u => { u with recLoad := none })
    (t.raise r.2 (if r.2 = 0xB106 then DEGRADE else NOTE) t.srcOwner l.comp r.1.next).recDone r.2
  else if r.1.nseg ≤ r.1.next then
    (((t.loadCommit r.1).put UPD_STATUS_PHASE 2).updUpd (fun u => { u with recLoad := none })).recDone 0
  else (t.updUpd (fun u => { u with recLoad := some r.1 })).recDone 0

/-- The bytes of the part that UPD.REC_ADDR and UPD.REC_LEN name, inside the host area. -/
def State.recPart (s : State) : List Byte :=
  let a := s.rdN A_UPD_REC_ADDR
  let n := min (s.get UPD_REC_LEN_LEN) 0x200000
  if argRangeOk a n then s.mpRead a n else []

/-- REC_FIRST_PART (R398): the ROM judges the header (R391) and takes the first segments. -/
def execRecFirstPart (bad : Option (Fin 128)) (s : State) : Out :=
  if s.gstate = 6 ∧ s.fwu.recOp = 1 then
    let bs := s.recPart
    let c := fieldAt bs 8 1
    if 3 ≤ s.glb.lifecycle then .next ((s.updRefused 0xB102 c).recDone 0xB102)
    else match s.judgeUpdate bs true with
      | some (_, code) => .next ((s.updRefused code c).recDone code)
      | none =>
        let l := loadOf bs none
        if l.digests.length < 32 * l.nseg then .next ((s.updRefused 0xB101 c).recDone 0xB101)
        else .next ((s.loadStart l).recSegs l (bs.drop (0x100 + 32 * l.nseg)) (bad.map Fin.val))
  else .next s

/-- REC_FURTHER_PART (R398): a part of no image is refused. -/
def execRecFurtherPart (bad : Option (Fin 128)) (s : State) : Out :=
  if s.gstate = 6 ∧ s.fwu.recOp = 2 then
    match s.fwu.recLoad with
    | some l => .next (s.recSegs l s.recPart (bad.map Fin.val))
    | none => .next (s.recDone 0xB101)
  else .next s

/-- REC_CHECK_DIRECTORY (R398): READY when every entry is VALID and the flash set is consistent. -/
def execRecCheckDirectory (s : State) : Out :=
  if s.gstate = 6 ∧ s.fwu.recOp = 3 then
    let ok := (List.range 7).all (fun c => s.get (UPD_C_STATE_ENTRY c) == 0) && setAdmits s.fwu.flash
    .next ((s.recDone 0).putB UPD_REC_STAT_READY ok)
  else .next s

end Sys2Proof.Machine
end

