-- ==== Sys2Proof/Machine/Wear.lean ====
section
/-! DEFINITION. Self-measured ageing and margin re-planning of 20_wear.md. -/
namespace Sys2Proof.Machine

/-! ### Clock steps (R401 to R403) -/

/-- WEAR.LANE_x.SLACK and WEAR.SLACK_AT_x for a slack at the step in force. -/
def State.showSlack (s : State) (lane : Nat) (v : Int) : State :=
  let st := s.laneStep lane
  let t := s.puti (WEAR_LANE_SLACK lane) (satI 16 v)
  let t := t.put (WEAR_SLACK_AT_S10 lane) (min 255 (convertSlack v st 2 / 40).toNat)
  (t.puti (WEAR_SLACK_AT_S11 lane) (satI 8 (convertSlack v st 1 / 40))).puti (WEAR_SLACK_AT_S12 lane)
    (satI 8 (convertSlack v st 0 / 40))

/-- A lane's monitors in a second (R400, R403): slack in ps at the step in force, leakage in mA. At the floor, 60 samples in
sequence below FAIL_PS count as a failed background self-test (R250). -/
def State.slackSample (s : State) (lane : Nat) (slack : Int) (leak : Nat) : State :=
  if !s.laneRuns lane then s
  else
    let low := s.isSet (WEAR_LANE_FLOOR lane) && decide (slack < (s.get WEAR_THRESH_FAIL_PS : Int))
    let run := if low then nth s.wear.failRun 0 lane + 1 else 0
    let t := s.updWear (fun w => { w with
      worst := upd w.worst lane (fun o => match o with | some v => some (min v slack) | none => some slack)
      leak := upd w.leak lane (fun v => v + leak)
      leakN := upd w.leakN lane (fun v => v + 1)
      failRun := upd w.failRun lane (fun _ => if run ≥ 60 then 0 else run) })
    when (decide (run ≥ 60)) (fun u => (u.raise 0x600E DEGRADE (u.srcLane lane) lane 0).laneFails lane 0x600E) t

/-- SLACK_SAMPLE (R400): every second, in each lane that works (R23). -/
def execSlackSample (a b : Int) (leakA leakB : Nat) (s : State) : Out :=
  if s.lanesWork then
    let t := s.updWear (fun w => { w with single := w.single || s.gstate == 4 })
    let t := t.wearTemp 3 (t.geti SNS_DIAL_T_TEMP)
    .next ((t.slackSample 0 a leakA).slackSample 1 b leakB)
  else .next s

/-- The lane whose step is applied first: of two that are due the one with the lower slack (20_wear.md, coinciding events). -/
def State.dueLane (s : State) : Option Nat :=
  let a := s.isSet (WEAR_LANE_DUE 0)
  let b := s.isSet (WEAR_LANE_DUE 1)
  if a && b then (if s.geti (WEAR_LANE_SLACK 0) ≤ s.geti (WEAR_LANE_SLACK 1) then some 0 else some 1)
  else if a then some 0 else if b then some 1 else none

/-- A step can be made now: RUNNING_DUAL with STANDBY_OK, outside the recovery window. -/
def State.stepOpen (s : State) : Bool := s.gstate == 3 && s.standbyOk && !s.isSet RED_STATUS_REC_WIN

/-- A due step of the owner asks for a swap (R402 step 1). -/
def State.stepSwap (s : State) : State :=
  match s.dueLane with
  | some l => when (s.stepOpen && l == s.owner && s.wear.check.isNone) State.wantSwap s
  | none => s

/-- CLOCK_STEP_APPLY (R402 step 2): at a beat that is a multiple of 400, on a standby whose step is due. -/
def execClockStepApply (lane : Fin 2) (s : State) : Out :=
  if s.dueLane = some lane.val ∧ s.stepOpen ∧ lane.val ≠ s.owner ∧ s.wear.check.isNone ∧ s.now % 400 = 0 ∧ !s.laneAct then
    .next (s.applyStep lane)
  else .next s

/-- CLOCK_STEP_CHECK_DONE (R402 steps 3 and 4): the step is stored, 0xC001; the slack is shown at the new step. -/
def execClockStepCheckDone (lane : Fin 2) (s : State) : Out :=
  match s.wear.check with
  | some (l, b) =>
    if l = lane.val ∧ b + 4000 ≤ s.now then
      let st := s.laneStep l
      let t := s.put (WEAR_LANE_STEP l) st
      let t := ((t.clr (WEAR_LANE_DUE l)).clr (WEAR_LANE_HOURS_LOW l)).set1 WEAR_EVENTS_STEP
      let t := t.showSlack l (convertSlack (t.geti (WEAR_LANE_SLACK l)) (st - 1) st / 10)
      let t := t.updWear (fun w => { w with
        check := none
        stepped := true
        yearDue := true
        times := w.times ++ [(0, s.mono)] })
      .next ((t.raise 0xC001 NOTE (t.srcLane l) l st).stepSwap)
    else .next s
  | none => .next s

/-! ### Intervals (R404) -/

/-- The word an image gives a register. -/
def ImgCfg.word (c : ImgCfg) (a : Nat) : Option Nat := (c.regs.find? (fun p => p.1 == a)).map (fun p => p.2)

/-- An image's value of a field where no other field sets its default, or its reset value. -/
def ImgCfg.raw (c : ImgCfg) (f : Fld) : Nat := (((c.word f.addr).getD (regReset f.addr).toNat) >>> f.lo) % 2 ^ f.len

/-- Defaults that rules give for words of the image beside the register descriptions: base, distance, number, word. MTR.SAVE BOTH (R122),
contactor times (R187, R191), retries (R202), points 0 to 2 of the trip curve (R195), load channels (R270, R273 to R275, R278). -/
def calDefaults : List (Nat × Nat × Nat × Nat) :=
  [(0x18000, 4, 1, 0x30000), (0x28100, 1024, 12, 0x321E0000), (0x28138, 1024, 12, 0x30000000),
   (0x28140, 1024, 12, 0x0258251C), (0x28144, 1024, 12, 0x177000FA), (0x28148, 1024, 12, 0x4E200046),
   (0x3c104, 32, 16, 0x32140032), (0x3c108, 32, 16, 0x00640000), (0x3c10c, 32, 16, 0x05DC0190)]

/-- The place of an address among those of a row of defaults. -/
def placeIn (a base dist n : Nat) : Option Nat :=
  if base ≤ a ∧ (a - base) % dist = 0 ∧ (a - base) / dist < n then some ((a - base) / dist) else none

/-- A word whose default rests on other words of the image: I_INST, OC_SLOW_T and T_TRIP of an outlet (R200, R201), V_MATCH of a DC outlet
(R189), CREEP of a meter (R113), FALLBACK_LOAD and MARGIN (R221, 09_placement.md). -/
def ImgCfg.ruleDefault (c : ImgCfg) (a : Nat) : Option Nat :=
  match placeIn a 0x28130 1024 12, placeIn a 0x28100 1024 12, placeIn a 0x1020c 1024 32 with
  | some n, _, _ =>
    let r := c.raw (OUT_CFG_RATING n)
    some (if c.raw (OUT_CFG_KIND n) = 3 then (12 * r / 10) * 0x10000 + 0x0A5A else isqrt (18 * r * r) * 0x10000 + 0x645A)
  | none, some n, _ => if c.raw (OUT_CFG_KIND n) = 3 then some 0x321E0A00 else none
  | none, none, some m =>
    let k := nth c.meters {} m
    some ((if (k.iCh ++ k.nCh.toList).any (fun n => c.raw (SNS_CH_MAP_SRC n) == 2) then 40 else 80) * 0x10000)
  | none, none, none =>
    let i := c.raw GOV_PL_LIMITS_IMPORT
    if a = A_GOV_PL_FALLBACK then some (i / 2)
    else if a = A_GOV_PL_MARGIN then some (2 * i / 100 * 0x10000 + 20)
    else none

/-- An image's word, or its default, or the reset value. -/
def ImgCfg.val (c : ImgCfg) (a : Nat) : Nat :=
  match c.word a with
  | some v => v
  | none =>
    match c.ruleDefault a with
    | some v => v
    | none =>
      match calDefaults.find? (fun d => (placeIn a d.1 d.2.1 d.2.2.1).isSome) with
      | some d => d.2.2.2
      | none => (regReset a).toNat

/-- An image's value of a field, or its default. -/
def ImgCfg.fld (c : ImgCfg) (f : Fld) : Nat := (c.val f.addr >>> f.lo) % 2 ^ f.len

/-- The value of a field in the configuration in force. -/
def State.imageField (s : State) (f : Fld) : Nat := s.cal.force.fld f

/-- An interval halved once for each cause, down to a limit. -/
def halved (v limit : Nat) : Nat → Nat
  | 0 => v
  | k + 1 => halved (if v ≤ limit then v else max limit (v / 2)) limit k

/-- Causes that act on an interval. -/
def bitsSet (v : Nat) : Nat := ((List.range 4).filter (fun k => v.testBit k)).length

/-- SNS.SWING_CFG.PERIOD and RED.SWAP_CFG.PERIOD show the values in force. -/
def State.showIntervals (s : State) : State :=
  let t := s.put SNS_SWING_CFG_PERIOD (halved (s.imageField SNS_SWING_CFG_PERIOD) 90 (bitsSet (s.get WEAR_SHORT_SWING)))
  t.put RED_SWAP_CFG_PERIOD (halved (s.imageField RED_SWAP_CFG_PERIOD) 6 (bitsSet (s.get WEAR_SHORT_SWAP)))

/-- The bit of WEAR.SHORT of a cause: 0 to 3 act on the swing-in period, 4 to 7 on the tourbillon period. -/
def shortField (k : Nat) : Fld := if k < 4 then WEAR_SHORT_SWING else WEAR_SHORT_SWAP

/-- A cause of R404 at an hourly record: it shortens while present, and is undone after 30 days of absence. -/
def State.shortCause (s : State) (k : Nat) (now_ : Bool) : State :=
  let on := s.bitOf (shortField k) (k % 4)
  let hour := s.mono / 3600
  let t := when now_ (fun u => u.updWear (fun w => { w with seen := upd w.seen k (fun _ => hour) })) s
  if now_ ∧ !on then
    let t := (t.putBit (shortField k) (k % 4) true).set1 WEAR_EVENTS_SHORTENED
    let t := t.updWear (fun w => { w with shortened := true, times := w.times ++ [(1 + k, s.mono)] })
    let t := t.raise 0xC005 NOTE t.srcOwner k 0
    when (k == 5 || k == 6) (fun u => u.raise 0xC008 DEGRADE u.srcOwner k 0) t
  else if on ∧ !now_ ∧ nth s.wear.seen 0 k + 720 ≤ hour then
    (t.putBit (shortField k) (k % 4) false).set1 WEAR_EVENTS_SHORTENED
  else t

/-- A lane calls for a step below LOWEST_CLOCK (R403, R60). -/
def State.atFloor (s : State) (lane : Nat) : State :=
  if s.isSet (WEAR_LANE_FLOOR lane) then s
  else
    let t := (s.set1 (WEAR_LANE_FLOOR lane)).raise 0x200F DEGRADE (s.srcLane lane) lane 0
    t.putBit WEAR_SHORT_SWAP 3 true

/-- An image with a lower LOWEST_CLOCK lifts the floor at a module reset (R403). -/
def State.liftFloors (s : State) : State :=
  let low := s.get ESC_BEAT_CFG_LOWEST_CLOCK
  let t := forUpTo 2 (fun l u => when (decide (u.get (WEAR_LANE_STEP l) < low)) (fun v => v.clr (WEAR_LANE_FLOOR l)) u) s
  t.putBit WEAR_SHORT_SWAP 3 (t.isSet (WEAR_LANE_FLOOR 0) || t.isSet (WEAR_LANE_FLOOR 1))

/-! ### Margin estimates (R407) -/

/-- A least-squares line over (hour, value): n, n·Sxx - Sx², n·Sxy - Sx·Sy, Sx, Sy. -/
def fitLine (l : List (Int × Int)) : Int × Int × Int × Int × Int :=
  let n : Int := l.length
  let sx := sumI (l.map (fun p => p.1))
  let sy := sumI (l.map (fun p => p.2))
  let sxx := sumI (l.map (fun p => p.1 * p.1))
  let sxy := sumI (l.map (fun p => p.1 * p.2))
  (n, n * sxx - sx * sx, n * sxy - sx * sy, sx, sy)

/-- Hours, in 0.1 year of 876 h, until the line of a rising quantity reaches a limit, from the hour of the newest record. -/
def estimateUp (l : List (Int × Int)) (limit : Int) : Nat :=
  if l.length < 720 then 0xFFFF
  else
    let f := fitLine l
    let x0 := (l.headD (0, 0)).1
    let num := limit * f.1 * f.2.1 - f.2.2.2.2 * f.2.1 - f.2.2.1 * (f.1 * x0 - f.2.2.2.1)
    if num ≤ 0 then 0
    else if f.2.2.1 ≤ 0 then 0xFFFF
    else min 0xFFFE (num / (f.1 * f.2.2.1 * 876)).toNat

/-- The values of a quantity by hour, newest first. -/
def State.wearVals (s : State) (f : WearRec → Int) : List (Int × Int) :=
  (s.wear.ring.take 8760).map (fun r => ((r.hour : Int), f r))

/-- Estimate of a quantity (R407). A falling quantity is taken with its sign changed. -/
def State.estimate (s : State) (k : Nat) : Nat :=
  if k ≤ 1 then
    if s.isSet (WEAR_LANE_FLOOR k) then 0
    else
      let st := s.laneStep k
      let lim := if st = s.get ESC_BEAT_CFG_LOWEST_CLOCK then s.get WEAR_THRESH_FAIL_PS else s.get WEAR_THRESH_STEP_PS
      estimateUp (s.wearVals (fun r =>
        if k = 0 then -convertSlack r.slackA r.stepA st else -convertSlack r.slackB r.stepB st)) (-10 * (lim : Int))
  else if k = 2 then estimateUp (s.wearVals (fun r => (r.sec.natAbs : Int))) 3000
  else if k = 3 then estimateUp (s.wearVals (fun r => (r.noise : Int))) 512
  else if k = 4 then
    if s.rdN A_WEAR_REC < 8760 then 0xFFFF
    else estimateUp (s.wearVals (fun r => (r.mram : Int) * 8760)) (16 * (s.wear.firstMram : Int))
  else if k = 5 then estimateUp (s.wearVals (fun r => (r.ratio : Int))) 256
  else if k = 6 then estimateUp (s.wearVals (fun r => (r.lcWorst : Int))) (1000 * (s.get WEAR_THRESH_LC_RATING : Int))
  else estimateUp (s.wearVals (fun r => (r.ageK : Int))) 255

/-- Publish the estimates; 0xC002 once for a quantity below 2.0 years. -/
def State.estimates (s : State) : State :=
  forUpTo 8 (fun k u =>
    let v := u.estimate k
    let t := u.put (WEAR_EST_YEARS k) v
    if v < 20 ∧ !t.wear.onceEst.testBit k then
      let t := t.updWear (fun w => { w with onceEst := natBit w.onceEst k true })
      (t.set1 WEAR_EVENTS_ESTIMATE).raise 0xC002 NOTE t.srcOwner k v
    else t) s

/-! ### Records (R408, R409) -/

/-- The 64 bytes of an hourly record. -/
def WearRec.bytes (r : WearRec) : List Byte :=
  let b := le 4 r.seq ++ le 4 r.hour ++ le 8 r.mono ++ le 2 (twos 16 (satI 16 r.slackA)) ++
    le 2 (twos 16 (satI 16 r.slackB)) ++ r.tmax.flatMap (fun t => le 1 (twos 8 (satI 8 t))) ++
    le 2 (min r.leakA 0xFFFF) ++ le 2 (min r.leakB 0xFFFF) ++ le 2 (twos 16 r.sec) ++ le 2 (min r.noise 0xFFFF) ++
    le 2 (min r.mram 0xFFFF) ++ le 2 (min r.flash 0xFFFF) ++ le 1 (r.stepA + 4 * r.stepB) ++ le 1 r.flags ++
    le 2 (min r.opens 0xFFFF) ++ le 2 (min r.ratio 0xFFFF) ++ le 2 (min r.cycles 0xFFFF) ++ List.replicate 16 0#8
  b ++ le 4 (crc32 b)

/-- The fields of 0x10 to 0x2A of a record. -/
def WearRec.fields (r : WearRec) : List Int :=
  [r.slackA, r.slackB] ++ r.tmax ++ [(r.leakA : Int), (r.leakB : Int), r.sec, (r.noise : Int), (r.mram : Int), (r.flash : Int),
    ((r.stepA + 4 * r.stepB : Nat) : Int), (r.flags : Int), (r.opens : Int), (r.ratio : Int), (r.cycles : Int)]

/-- Minimum, maximum and mean of a list. -/
def minMaxMean (l : List Int) : Int × Int × Int :=
  let h := l.headD 0
  (l.foldl min h, l.foldl max h, sumI l / max (l.length : Int) 1)

/-- The worst mean opening time over T_OPEN_MAX in 1/256 (R400). -/
def State.openRatio (s : State) : Nat :=
  maxN ((List.range 12).map (fun n =>
    let l := nth s.wear.openMs [] n
    let m := s.get (OUT_PROT_CFG_T_OPEN_MAX n)
    if l.isEmpty ∨ m = 0 then 0 else 256 * sumN l / (l.length * m)))

/-- The record of the hour that ends (R408). -/
def State.hourRec (s : State) (noise mram flash : Nat) : WearRec :=
  let w := s.wear
  let deg (k : Nat) : Int := ((nth w.tmax none k).getD 0) / 10
  let mean (k : Nat) : Nat := nth w.leak 0 k / max (nth w.leakN 0 k) 1
  { seq := s.rdN A_WEAR_REC + 1, hour := s.mono / 3600, mono := s.mono,
    slackA := (nth w.worst none 0).getD (s.geti (WEAR_LANE_SLACK 0)),
    slackB := (nth w.worst none 1).getD (s.geti (WEAR_LANE_SLACK 1)),
    tmax := (List.range 4).map deg, leakA := mean 0, leakB := mean 1, sec := s.geti SNS_REF_DIFF_SEC_DIFF, noise := noise,
    mram := mram, flash := flash, stepA := s.laneStep 0, stepB := s.laneStep 1,
    flags := (if w.stepped then 1 else 0) + (if w.shortened then 2 else 0) + (if w.single ∨ s.gstate = 4 then 4 else 0),
    opens := w.opens, ratio := s.openRatio, cycles := w.cycles,
    lcWorst := maxN ((List.range 16).map (fun k => s.get (LCH_COUNT_CYCLES k))), ageK := s.get BZL_AGE_AGE_K }

/-- A new hour begins. -/
def State.newHour (s : State) : State :=
  s.updWear (fun w => { w with
    worst := [none, none]
    leak := [0, 0]
    leakN := [0, 0]
    tmax := [none, none, none, none]
    opens := 0
    cycles := 0
    stepped := false
    shortened := false
    single := false
    lastHour := s.mono / 3600 })

/-- What a record says of a lane: HOURS_LOW, a call for a step, the floor (R402, R403). -/
def State.judgeSlack (s : State) (lane : Nat) (v : Int) : State :=
  let low := decide (v < (s.get WEAR_THRESH_STEP_PS : Int))
  let h := if low then min 255 (s.get (WEAR_LANE_HOURS_LOW lane) + 1) else 0
  let t := (s.put (WEAR_LANE_HOURS_LOW lane) h).showSlack lane v
  if h < 24 ∨ t.isSet (WEAR_LANE_DUE lane) then t
  else if t.laneStep lane < t.get ESC_BEAT_CFG_LOWEST_CLOCK then
    when (!t.stepOpen) (fun u => u.set1 WEAR_EVENTS_STEP) (t.set1 (WEAR_LANE_DUE lane))
  else t.atFloor lane

/-- The causes of R404 at a record. -/
def State.judgeCauses (s : State) (r : WearRec) : State :=
  let drift := s.wearVals (fun x => x.sec)
  let f := fitLine drift
  let fast := decide (8760 ≤ drift.length) && decide (300 * f.2.1 ≤ (f.2.2.1.natAbs : Int) * 8760)
  let slack : Int := min r.slackA r.slackB
  let year := decide (8760 < r.seq)
  let t := s.shortCause 0 (decide (1500 ≤ r.sec.natAbs))
  let t := (t.shortCause 1 fast).shortCause 2 (decide (384 ≤ r.noise))
  let t := t.shortCause 4 (decide (slack < (s.get WEAR_THRESH_STEP_PS : Int) + 20))
  let t := t.shortCause 5 (year && decide (4 * s.wear.firstMram < r.mram * 8760))
  (t.shortCause 6 (year && decide (4 * s.wear.firstFlash < r.flash * 8760))).showIntervals

/-- A yearly summary (R409), of which 32 are kept. -/
def State.summary (s : State) : State :=
  let seq := s.rdN A_WEAR_REC
  if 32 ≤ s.wear.years.length then s.updWear (fun w => { w with yearDue := false })
  else
    let l := s.wear.ring.filter (fun r => decide (s.wear.yearSeq < r.seq))
    let fs := (List.range 17).map (fun i => minMaxMean (l.map (fun r => nth r.fields 0 i)))
    let est := (List.range 8).map (fun k => s.get (WEAR_EST_YEARS k))
    let b := padTo 256 (Config.yearSummary fs est s.wear.times)
    let t := s.updWear (fun w => { w with years := w.years ++ [b], yearSeq := seq, yearDue := false, times := [] })
    (t.put WEAR_YEARS_COUNT t.wear.years.length).set1 WEAR_EVENTS_RECORD

/-- HOURLY_RECORD (R408): worst modulator noise ratio in 1/256, errors corrected in MRAM and flash in the hour; a record whose
write fails verification twice is skipped with 0xC009. Under a power-fail warning it waits for the full save (R409). -/
def execHourlyRecord (noise mram flash : Nat) (bad : Bool) (s : State) : Out :=
  let hour := s.mono / 3600
  if s.lanesReach ∧ s.mono % 3600 = 0 ∧ s.wear.lastHour < hour ∧ !s.pwr.saveDue then
    if bad then .next ((s.newHour).raise 0xC009 NOTE s.srcOwner 0 0)
    else
      let r := s.hourRec noise mram flash
      let t := (s.wrN A_WEAR_REC r.seq).updWear (fun w => { w with
        ring := r :: w.ring.take 18431
        firstMram := if r.seq ≤ 8760 then w.firstMram + mram else w.firstMram
        firstFlash := if r.seq ≤ 8760 then w.firstFlash + flash else w.firstFlash })
      let t := ((t.putSat WEAR_NV_MRAM_CORR mram).putSat WEAR_NV_FLASH_CORR flash)
      let t := (t.putSat WEAR_LEAK_LA r.leakA).putSat WEAR_LEAK_LB r.leakB
      let t := when ((nth t.wear.worst none 0).isSome) (fun u => u.judgeSlack 0 r.slackA) t
      let t := when ((nth t.wear.worst none 1).isSome) (fun u => u.judgeSlack 1 r.slackB) t
      let t := (((t.newHour).judgeCauses r).estimates).stepSwap
      .next (when (decide (r.seq % 8760 = 0) || t.wear.yearDue) State.summary t)
  else .next s

/-! ### Commands -/

/-- WEAR_READ_HOURLY, 0x0C01: first SEQ, count, address; records no longer held are skipped. -/
def execWearReadHourly (mb : Fin 8) (s : State) : Out :=
  .next (s.command mb 0x0C01 .runSetting false (fun c s =>
    let first := c.u32 0
    let n := c.u32 1
    let a := c.u32 2
    if n = 0 ∨ 4096 < n ∨ !argRangeOk a (64 * n) then s.reply c stBAD_ARG 0
    else
      let l := (s.wear.ring.filter (fun r => decide (first ≤ r.seq) && decide (r.seq < first + n))).reverse
      (s.laneWrite a (l.flatMap WearRec.bytes)).reply c stOK 0))

/-- WEAR_READ_YEARLY, 0x0C02: first index, count, address. -/
def execWearReadYearly (mb : Fin 8) (s : State) : Out :=
  .next (s.command mb 0x0C02 .runSetting false (fun c s =>
    let i := c.u32 0
    let n := c.u32 1
    let a := c.u32 2
    if 31 < i ∨ n = 0 ∨ 32 < i + n ∨ !argRangeOk a (256 * n) then s.reply c stBAD_ARG 0
    else (s.laneWrite a (((s.wear.years.drop i).take n).flatMap id)).reply c stOK 0))

/-- WEAR_ESTIMATE, 0x0C03: R407 again from the records held. -/
def execWearEstimate (mb : Fin 8) (s : State) : Out :=
  .next (s.command mb 0x0C03 .running false (fun c s => (s.estimates).reply c stOK 0))

end Sys2Proof.Machine
end

