-- ==== Sys2Proof/Machine/Reset.lean ====
section
/-! DEFINITION. The module reset (R22, R23, R29, R349, R415): what it keeps, in MRAM, flash, fuses and the always-on domain, and what
it puts back to the reset state. -/
namespace Sys2Proof.Machine

/-- The bits of a register word that a reset restores from MRAM (reset column nv). -/
def nvMask (a : Nat) : Nat :=
  match findRow a nvRows with
  | some r => r.nv
  | none => 0

/-- The registers after a module reset: nv bits as they stand, every other bit at its reset value; the crown tag's state and
counts stand too, for it is no part of the domains (R301, R415). -/
def keepRegs (l : List (Nat × Word)) : List (Nat × Word) :=
  l.filterMap (fun p =>
    let m : Word := if p.1 = A_NFC_TAG_STATE ∨ p.1 = A_NFC_TAG_STAT then 0xFFFFFFFF#32 else BitVec.ofNat 32 (nvMask p.1)
    let w := (p.2 &&& m) ||| (regReset p.1 &&& ~~~m)
    if w = regReset p.1 then none else some (p.1, w))

/-- Entries of faults that wait go to PD_AON, at most 16 (R425). Where a supply is lost before pallet 10, only those that the Case die
raised by its own logic (R426). -/
def FltSt.kept (f : FltSt) (lost : Bool) : FltSt :=
  { ring := f.ring, aon := (f.aon ++ f.waiting.filter (fun e => !lost || e.source % 4 == srcCase)).take 16 }

/-- The legal partition keeps its MRAM area and the chronometer. -/
def LglSt.afterReset (x : LglSt) : LglSt :=
  { x with
    wallSet := none
    fwd := none
    billCmd := none
    writeBeat := none
    keys := []
    keyBeat := 0
    showing := .reading
    showEnd := 0
    showNext := none
    tok := [] }

/-- The image's registers on which the legal records rest: LGL.DEM_CFG, LGL.BILL_CFG and MTR.Mm_CFG. -/
def State.legalRegs (s : State) : List (Nat × Nat) :=
  if s.running ∨ s.gstate = 5 then
    ([A_LGL_DEM_CFG, A_LGL_BILL_CFG] ++ (List.range 32).map A_MTR_M_CFG).map (fun a => (a, s.rdN a))
  else s.lgl.kept

/-- Every other structure of the state after a reset. -/
def GlbSt.kept (g : GlbSt) : GlbSt :=
  { recoveryReq := g.recoveryReq, lifecycle := g.lifecycle, serial := g.serial, legalBuild := g.legalBuild,
    legalId := g.legalId, legalSum := g.legalSum, resets := g.resets + 1 }
def OutsSt.kept (x : OutsSt) (reason : Nat) : OutsSt :=
  { ses := x.ses, serial := x.serial, billCount := x.billCount, roots := x.roots, seccChain := x.seccChain, endReason := reason }
def SafSt.kept (x : SafSt) : SafSt :=
  { fails := x.fails, lockEnd := x.lockEnd, log := x.log, lastVer := x.lastVer, lastDigest := x.lastDigest }
def SnsSt.kept (x : SnsSt) : SnsSt :=
  { trims := x.trims, modMono := x.modMono, ksMono := x.ksMono, refMono := x.refMono, bgDiff := x.bgDiff,
    swingMono := x.swingMono, lastSwing := x.lastSwing,
    invalid91 := x.invalid91,
    waits := (x.waits.filter (fun w => w.next)).map (fun w => { w with next := false, at_ := 0, cmd := none }) }
def MtrSt.kept (x : MtrSt) : MtrSt := { full := x.full, deltas := x.deltas, lastBeat := x.lastBeat, snap := x.snap }
def BzlSt.kept (x : BzlSt) : BzlSt :=
  { confirmed := x.confirmed, wanted := x.confirmed, frame := x.frame, stress := x.stress, startRec := x.startRec,
    capped := x.capped, charge := x.charge, raised := x.raised, ageAdd := x.ageAdd }
/-- The crown tag is powered by the field too and completes the steps of a write by itself (R308, R311). -/
def NfcSt.finished (x : NfcSt) : NfcSt :=
  match x.write with
  | some w =>
    let q := (w.seq + 1) % 65536
    { x with
      cells := kvInsert ({} : TagCell) w.key { pData := w.data, pSeq := q, bData := w.data, bSeq := q } x.cells
      answer := if w.byField then some 0xA else x.answer
      write := none }
  | none => x
def NfcSt.kept (y : NfcSt) : NfcSt :=
  let x := y.finished
  { x with
    pollBeat := 0
    drive := 0
    stopped := false
    misses := 0
    checkBeat := 0
    ex := none
    own := []
    mirBeat := none
    scrubBeat := 0
    cmdBeat := 0
    silentBeat := none }
def MpSt.kept (x : MpSt) : MpSt := { poison := x.poison, copying := x.copying, scrubMono := x.scrubMono }
def KeySt.kept (x : KeySt) : KeySt := { mram := x.mram, fails := x.fails, lockEnd := x.lockEnd, romLegal := x.romLegal, romFirmware := x.romFirmware }
def UpdSt.kept (x : UpdSt) : UpdSt := { flash := x.flash, run := x.run }
def CalSt.kept (x : CalSt) : CalSt := { slots := x.slots, floors := x.floors, legalDigest := x.legalDigest, legalDef := x.legalDef, map := x.map, newMap := x.newMap }
def WearSt.kept (x : WearSt) : WearSt :=
  { x with
    worst := [none, none]
    leak := [0, 0]
    leakN := [0, 0]
    tmax := [none, none, none, none]
    opens := 0
    cycles := 0
    stepped := false
    shortened := false
    single := false
    failRun := [0, 0]
    check := none }

/-- What a module reset leaves of the state (R22); the Mainplate's contents are lost with its domain (log entry 3). -/
def State.keptState (s : State) (reason : Nat) (lost : Bool) : State :=
  { pending := s.pending, freeCtr := s.freeCtr, regs := keepRegs s.regs, glb := s.glb.kept, flt := s.flt.kept lost,
    lgl := { s.lgl.afterReset with kept := s.legalRegs }, outs := s.outs.kept reason, saf := s.saf.kept, sns := s.sns.kept, mtr := s.mtr.kept,
    bzl := s.bzl.kept, nfc := s.nfc.kept, pwr := { off := s.pwr.off, fault := s.pwr.fault }, mp := s.mp.kept,
    key := s.key.kept, fwu := s.fwu.kept, cal := s.cal.kept, wear := s.wear.kept }

/-- The module reset with a cause (R22, GLB.RESET_CAUSE). A bank being copied is copied again from step 1 (R355). The legal log records
the exit from SETTING (R43). -/
def State.moduleReset (s : State) (cause : Nat) : State :=
  let s := when (s.gstate == 2) (fun u => u.legalLog 0x03 0 0) s
  let reason := if s.gstate = 2 ∨ s.gstate = 5 ∨ s.outs.endReason = rSETTING ∧ !s.running then rSETTING else rSUPPLY_LOSS
  let t := s.keptState reason (s.lanesWork && (cause == 1 || cause == 2))
  let t := t.clr NFC_TAG_STATE_WRITING
  let t := (t.put GLB_RESET_CAUSE_COUNT t.glb.resets).put GLB_RESET_CAUSE_CAUSE cause
  match t.mp.copying with
  | some b => t.put ARB_BANK_MAP_COPYING b
  | none => t

/-- Whether GLB.RESET from a port is accepted (R29). -/
def State.resetOk (s : State) (port : Nat) : Bool := !(s.gstate == 3 || s.gstate == 4) || s.inService port

/-- A lane can make the full save before a reset (R22, R23): in a running state the owner, in SAFE_HOLD a lane that still runs and reaches MRAM. -/
def State.savesReach (s : State) : Bool :=
  s.inRunning || (s.gstate == 5 && s.anyLane && !s.bitOf CLK_STATUS_LOST cSNS && !s.bitOf CLK_STATUS_LOST cMAIN)

/-- An accepted GLB.RESET (R22): the owner, or in SAFE_HOLD a lane that still runs, makes the full save first; ACTION 2 holds a
recovery request in PD_AON. Out of RECOVERY with READY set, the cause is 0x05 (R398). -/
def State.glbReset (s : State) (recovery : Bool) : State :=
  let save := s.savesReach
  let t := when save (fun u => State.within (fun v => v.fullSave true) u) s
  let cause := if s.gstate = 6 ∧ s.isSet UPD_REC_STAT_READY ∧ !recovery then 5 else 3
  State.moduleReset { t with glb := { t.glb with recoveryReq := recovery } } cause

/-- A write of GLB.RESET with the key by a port (R29): a refused one is reported as 0xA003; in SCRAPPED it has no effect (R24). -/
def State.resetWrite (s : State) (port : Nat) (recovery : Bool) : State :=
  s.hostSets port A_GLB_RESET (fun u =>
    if u.resetOk port then u.glbReset recovery else (u.inc (HPD_P_ERR_REFUSED port)).raiseHost 0xA003 port A_GLB_RESET)

/-- GLB_RESET_MODULE (R29): ACTION 0x1 by a port. -/
def execGlbResetModule (port : Fin 2) (s : State) : Out := .next (s.resetWrite port false)

/-- GLB_RESET_RECOVERY (R22): ACTION 0x2 by a port. -/
def execGlbResetRecovery (port : Fin 2) (s : State) : Out := .next (s.resetWrite port true)

end Sys2Proof.Machine
end

