-- ==== Sys2Proof/Machine/Power.lean ====
section
/-! DEFINITION. Supplies, the remontoire and the clocks of 21_power_clocks.md. -/
namespace Sys2Proof.Machine

def State.updPwr (s : State) (f : PwrSt → PwrSt) : State := { s with pwr := f s.pwr }

/-- Rails by their bit of PWR.STATUS.IN_RANGE: 0 HOLD, 1 VBAT_RTC, 2 VCPN, 3 VCPP, 4 V3P3, 5 V1P8, 6 VCORE, 7 VAUX. -/
def rHOLD : Nat := 0
def rVBAT : Nat := 1
def rVCPN : Nat := 2
def rVCPP : Nat := 3
def rVAUX : Nat := 7

/-- Clock domains in the order of R417. -/
def cSITE : Nat := 5
def cGP : Nat := 6
def cMIRROR : Nat := 7
def cNFC : Nat := 9
def cCHRONO : Nat := 10

/-! ### What is measured -/

/-- PWR.HOLD.LEFT in 0.1 ms (R413): the energy of HOLD between its voltage (10 mV) and 12.0 V, over the VSYS draw (mW). -/
def holdLeft (v c p : Nat) : Nat :=
  if v ≤ 1200 then 0 else if p = 0 then 0xFFFF else min 0xFFFF ((v * v - 1440000) * c / (2000 * p))

/-- VAUX counts as out of range after 4 beats below 9.0 V, as back in range after 2 ms (80 beats) inside (R410). -/
def State.judgeVaux (s : State) (vaux : Nat) : State :=
  let low := if vaux < 900 then min 80 (s.pwr.vauxLow + 1) else 0
  let ok := if vaux < 900 then 0 else min 80 (s.pwr.vauxOk + 1)
  let t := s.updPwr (fun p => { p with vauxLow := low, vauxOk := ok })
  if 4 ≤ low then t.putBit PWR_STATUS_IN_RANGE rVAUX false
  else if 80 ≤ ok then t.putBit PWR_STATUS_IN_RANGE rVAUX true
  else t

/-- The beats that R412 counts: VAUX (10 mV) below V_WARN, PFAIL_N low, both good with 1.0 V to spare; the warning, the remontoire's dip
and VSYS on HOLD. -/
def State.countSupply (s : State) (vaux : Nat) (pfail : Bool) : State :=
  let w := 10 * s.get PWR_CFG_V_WARN
  let t := s.putB PWR_STATUS_PFAIL_N (!pfail)
  t.updPwr (fun p => { p with
    warnLow := if vaux < w then p.warnLow + 1 else 0
    pfailLow := if pfail then p.pfailLow + 1 else 0
    goodRun := if w + 100 ≤ vaux ∧ !pfail then p.goodRun + 1 else 0
    warnRun := if s.warned then p.warnRun + 1 else 0
    dipRun := if s.isSet PWR_STATUS_REMONTOIRE then p.dipRun + 1 else 0
    deepRun := if s.isSet PWR_STATUS_VSYS_HOLD then p.deepRun + 1 else 0 })

/-- The measured supplies of a beat. -/
def State.supplyBeat (s : State) (o : SupplyObs) : State :=
  let s := (s.judgeVaux o.vaux).countSupply o.vaux o.pfail
  let t := (s.putSat PWR_VAUX_VAUX o.vaux).put PWR_VAUX_MIN (min (s.get PWR_VAUX_MIN) (min o.vaux 0xFFFF))
  let t := (t.putSat PWR_HOLD_HOLD o.hold).put PWR_HOLD_LEFT (holdLeft o.hold (s.get PWR_CFG_C_HOLD) o.vsys)
  let t := ((t.putSat PWR_RAILS_VCORE o.vcore).putSat PWR_RAILS_V1P8 o.v1p8).putSat PWR_RAILS2_V3P3 o.v3p3
  let t := ((t.putSat PWR_RAILS2_VBAT o.vbat).puti PWR_CP_VCPP (satI 16 o.vcpp)).puti PWR_CP_VCPN (satI 16 o.vcpn)
  t.putSat PWR_VSYS_P o.vsys

/-! ### VAUX and the warning (R412) -/

/-- VAUX has been below V_WARN, or PFAIL_N low, for 4 consecutive beats (R412). -/
def State.warnDue (s : State) : Bool := decide (4 ≤ s.pwr.warnLow) || decide (4 ≤ s.pwr.pfailLow)

/-- POWER_FAIL_WARNING (R412): the warning, what each chapter does with it, the full save after the warning beat (R124). -/
def execPowerFailWarning (_z : Unit) (s : State) : Out :=
  if s.warned ∨ !s.warnDue then .next s
  else
    let t := s.set1 PWR_STATUS_WARN
    let t := ((t.set1 PWR_EVENTS_WARN).inc PWR_DIPS_COUNT).inc PWR_WARN_TOTAL_COUNT
    let t := (t.raise 0xC101 NOTE srcCase 0 0).updSupply
    let t := t.updPwr (fun p => { p with warnRun := 0, saveDue := s.lanesReach && s.get MTR_SAVE_MODE != 1 })
    let t := (t.swingsWithdraw).bezelWarn (t.get PWR_HOLD_LEFT)
    let t := t.updUpd (fun u => { u with abandon := u.act.isSome })
    .next (when (t.red.attempt.isSome && t.gstate == 4) (fun u =>
      (u.setLaneState (other u.owner) 0).updRed (fun r => { r with attempt := none, abandoned := true })) t)

/-- WARNING_WITHDRAWN (R412, R416, R247): VAUX and PFAIL_N have been good for 40 000 beats; the supply state returns; an abandoned attempt is made again from step 1. -/
def execWarningWithdrawn (s : State) : Out :=
  if !s.warned ∨ s.pwr.goodRun < secBeats then .next s
  else
    let t := (s.clr PWR_STATUS_WARN).raiseTo PWR_DIPS_LONGEST (min (s.pwr.warnRun / 40) 0xFFFF)
    let t := (t.set1 PWR_EVENTS_WARN_END).updSupply
    .next (when (t.red.abandoned && t.gstate == 4) (fun u =>
      u.updRed (fun r => { r with attempt := some s.now, abandoned := false })) t)

/-- REMONTOIRE_ON (R412): HOLD feeds the Case die's gate drive and state logic; the 50 ms of a dip begin. -/
def execRemontoireOn (s : State) : Out :=
  if s.isSet PWR_STATUS_REMONTOIRE then .next s
  else .next ((s.set1 PWR_STATUS_REMONTOIRE).updPwr (fun p => { p with dipRun := 0 }))

/-- REMONTOIRE_OFF (R412): VAUX is back above V_RESET. -/
def execRemontoireOff (s : State) : Out := .next ((s.clr PWR_STATUS_REMONTOIRE).clr PWR_STATUS_VSYS_HOLD)

/-- VSYS_TO_HOLD (R411). -/
def execVsysToHold (s : State) : Out :=
  if s.isSet PWR_STATUS_VSYS_HOLD then .next s
  else .next ((s.set1 PWR_STATUS_VSYS_HOLD).updPwr (fun p => { p with deepRun := 0 }))

/-- The supply of the crown tag fails with the module's (R311): without a field its write stops at the step it is in. -/
def State.tagDark (s : State) : State := if s.isSet NFC_TAG_STATE_FIELD then s else s.tagCollapse

/-- The dip has lasted 50 ms, or VSYS has been on HOLD for 3 ms or until HOLD is down to 12.0 V (R412). -/
def State.supplyLost (s : State) : Bool :=
  (s.isSet PWR_STATUS_REMONTOIRE && decide (2000 ≤ s.pwr.dipRun)) ||
    (s.isSet PWR_STATUS_VSYS_HOLD && (decide (120 ≤ s.pwr.deepRun) || decide (s.get PWR_HOLD_HOLD ≤ 1200)))

/-- SUPPLY_RESET (R412): module reset with cause 0x02; 0xC102 at the next start. -/
def execSupplyReset (s : State) : Out :=
  if s.supplyLost then
    .next (State.moduleReset (s.tagDark.updPwr (fun p => { p with off := true, fault := some (0xC102, 0) })) 2)
  else .next s

/-- RAIL_OUT (R414): VCORE, V1P8 or V3P3 (0 to 2) leaves its window: module reset at once, no save; 0xC103 at the next start. The rail is the
crown tag's supply too (log entry 157). -/
def execRailOut (rail : Fin 3) (s : State) : Out :=
  .next (State.moduleReset (s.tagDark.updPwr (fun p => { p with fault := some (0xC103, rail) })) 1)

/-- CASE_WATCHDOG_RESET (R417): cause 0x04. -/
def execCaseWatchdogReset (s : State) : Out := .next (s.moduleReset 4)

/-! ### Other rails -/

/-- CP_SUPPLY_OUT (R410, R161, R427): VCPP, or VCPN where `neg`: the pilots go high-impedance, in the setting position
only without VCPN (R44); every outlet is stopped as for state E.
The entry names every outlet by its mask and the voltage in mV. -/
def execCpSupplyOut (neg : Bool) (s : State) : Out :=
  let t := s.putBit PWR_STATUS_IN_RANGE (if neg then rVCPN else rVCPP) false
  let t := (t.set1 PWR_EVENTS_CP_SUPPLY).raise 0xC104 OUTLETSTOP srcCase 0xFFF
    (twos 32 (s.geti (if neg then PWR_CP_VCPN else PWR_CP_VCPP)))
  if t.running then
    .next (forUpTo 12 (fun n u => ((u.stopOutlet n rPILOT_ERROR 0xC104).updPilot n (fun p =>
      { p with fEnd := some (s.now + 4 * secBeats), fSlac := false, low := 0 })).refreshPilot n) t)
  else .next (forUpTo 12 (fun n u => u.forceDrive n (if u.settingPos && u.bitOf PWR_STATUS_IN_RANGE rVCPN then 2 else 3)) t)

/-- HOLD_LOW (R410): below 34.0 V for 1 s, or a charge rate of a C_HOLD below 176 µF. -/
def execHoldLow (s : State) : Out :=
  .next (((s.putBit PWR_STATUS_IN_RANGE rHOLD false).set1 PWR_EVENTS_HOLD_LOW).raise 0xC105 DEGRADE srcCase 0 0)

/-- VBAT_LOW (R136, R410): 0x401B, the chronometer keeps running. -/
def execVbatLow (s : State) : Out :=
  .next (((s.putBit PWR_STATUS_IN_RANGE rVBAT false).set1 LGL_CHRONO_VBAT_LOW).raise 0x401B NOTE srcCase 0 0)

/-- RAIL_BACK_IN_RANGE (R410): HOLD, VBAT_RTC, VCPN or VCPP (0 to 3) counts as back. After a loss of a pilot supply the drive is F
for 4 s and steady +12 V after that (R161). -/
def execRailBackInRange (rail : Fin 4) (s : State) : Out :=
  let t := s.putBit PWR_STATUS_IN_RANGE rail true
  if rail.val = rVBAT then .next (t.clr LGL_CHRONO_VBAT_LOW)
  else if rail.val = rVCPN ∨ rail.val = rVCPP then
    if t.running then
      if t.pilotSupply ∧ !s.pilotSupply then
        .next (forUpTo 12 (fun n u => (u.updPilot n (fun p => { p with fEnd := some (s.now + 4 * secBeats) })).refreshPilot n) t)
      else .next t
    else .next (forUpTo 12 (fun n u => u.forceDrive n (if u.bitOf PWR_STATUS_IN_RANGE rVCPN then 2 else 3)) t)
  else .next t

/-! ### Clocks (R417 to R419) -/

/-- A clock domain is lost. -/
def State.clockLost (s : State) (d : Nat) : State := (s.putBit CLK_STATUS_LOST d true).set1 CLK_EVENTS_LOST

/-- LANE_PLL_LOST (R417, R235): the lane stops: takeover by heartbeat loss, or the standby is lost. -/
def execLanePllLost (lane : Fin 2) (s : State) : Out :=
  let t := ((s.clockLost (1 + lane)).putBit CLK_STATUS_LOCK lane false).raise 0xC10C NOTE srcCase lane 0
  if t.running then
    if lane.val = t.owner then .next (t.loseOwner 0x6003 0 20812) else .next (t.loseStandby true)
  else .next (when (t.gstate == 5 && t.laneRuns lane) (fun u => u.setLaneState lane 0) t)

/-- The peripheral domain of an operand: 0 CLK_SITE, 1 CLK_GP, 2 CLK_MIRROR of Lane A, 3 of Lane B, 4 CLK_NFC. -/
def periphDomain (d : Fin 5) : Nat :=
  if d.val = 0 then cSITE else if d.val = 1 then cGP else if d.val ≤ 3 then cMIRROR else cNFC

/-- CLK.STATUS.LOCK of a peripheral domain's PLL. -/
def State.periphLock (s : State) (d : Fin 5) (on : Bool) : State :=
  if d.val = 1 then s.putBit CLK_STATUS_LOCK 4 on
  else if d.val = 2 then s.putBit CLK_STATUS_LOCK 5 on
  else if d.val = 3 then s.putBit CLK_STATUS_LOCK 6 on
  else s

/-- PERIPH_CLOCK_LOST (R417): site line, Green PHY and reader stop; the mirror's path M is lost to the voter (R235). -/
def execPeriphClockLost (d : Fin 5) (s : State) : Out :=
  let t := ((s.clockLost (periphDomain d)).periphLock d false).raise 0xC10B DEGRADE srcCase (periphDomain d) 0
  if d.val = 0 then .next (when t.running (fun u => u.siteStop 1) t)
  else if d.val = 1 then
    .next (forUpTo 12 (fun n u =>
      if u.gpHeld n ∨ u.get (OUT_SLAC_PHASE n) = 3 then
        match u.sesOn n with
        | some k => (u.stopSession k rCOMM 0xC10B false).settleStop n
        | none => u
      else u) t)
  else if d.val = 4 then .next ((t.put NFC_RD_CARD_STATE 0).readerOff)
  else .next t

/-- PERIPH_CLOCK_RETURN (R417): the LOST state ends. -/
def execPeriphClockReturn (d : Fin 5) (s : State) : Out :=
  let t := (s.putBit CLK_STATUS_LOST (periphDomain d) false).periphLock d true
  .next (when (d.val == 0 && t.running && t.get SIT_STATUS_STATE == 1) (fun u => u.put SIT_STATUS_STATE 2) t)

/-- CORE_CLOCK_LOST (R419): the beat start is missing (CLK_SNS), or CLK_MAIN is lost; both with CLK_REF. -/
def execCoreClockLost (which : Fin 3) (s : State) : Out :=
  let t := if which.val = 0 then s.clockLost 0 else s
  let t := if which.val ≠ 2 then (t.clockLost cMAIN).putBit CLK_STATUS_LOCK 2 false else t
  let t := if which.val ≠ 1 then (t.clockLost cSNS).putBit CLK_STATUS_LOCK 3 false else t
  .next (t.raiseHold 0xC10A srcCase which 0)

/-- THERMAL_LIMIT (R419): a sensor of a die at or above 135 °C for 1 s. -/
def execThermalLimit (die : Fin 6) (s : State) : Out := .next (s.raiseHold 0xC10D srcCase die 0)

/-- REF_CLOCK_MEASURE (R418): every second, in 0.1 ppm; a deviation above 100 ppm raises 0xC108. -/
def execRefClockMeasure (ppm : Int) (s : State) : Out :=
  let t := s.puti CLK_REF_PPM_PPM (satI 16 ppm)
  .next (when (decide (1000 < ppm.natAbs)) (fun u => (u.set1 CLK_EVENTS_DEVIATION).raise 0xC108 NOTE srcCase 0 (twos 32 ppm)) t)

/-- CHRONO_XTAL_STOP (R418): the chronometer counts CLK_REF; COMP reads 0. -/
def execChronoXtalStop (s : State) : Out :=
  if s.isSet CLK_STATUS_CHRONO_FB then .next s
  else
    let t := (((s.clockLost cCHRONO).set1 CLK_STATUS_CHRONO_FB).set1 CLK_EVENTS_CHRONO).put LGL_CHRONO_COMP 0
    .next (t.raise 0xC109 DEGRADE srcCase 0 0)

/-- CHRONO_XTAL_RESTORE (R418): after 10 s of stable oscillation. -/
def execChronoXtalRestore (s : State) : Out :=
  if s.isSet CLK_STATUS_CHRONO_FB then
    .next (((s.putBit CLK_STATUS_LOST cCHRONO false).clr CLK_STATUS_CHRONO_FB).set1 CLK_EVENTS_CHRONO)
  else .next s

end Sys2Proof.Machine
end

