-- ==== Sys2Proof/Machine/HostPort.lean ====
section
/-! DEFINITION. The host ports of 16_host.md: the words a read returns and what the read changes, the checks and the effect of a
write, GLB.POLL and the watchdog, doorbells, mailboxes, replies and their notices. -/
namespace Sys2Proof.Machine

/-! ### GLB.POLL -/

/-- Bits [27:8] of GLB.POLL as a number, each the OR of its source's pending flags (GLB.POLL, R53, R147, R179, R427 and the
chapters' own lines). -/
def State.pollBits (s : State) : Nat :=
  let any (a : Nat) : Bool := s.rdN a != 0
  let bit (k : Nat) (b : Bool) : Nat := if b then 2 ^ k else 0
  let bells := clearMask (s.rdN A_HPD_DB_IN) (s.rdN A_HPD_DB_IN_MASK)
  bit 19 (s.rdN A_FLT_HEAD != s.rdN A_FLT_ACK) + bit 18 (any A_GLB_EVENTS) +
    bit 17 ((List.range 8).any (fun k => s.isSet (MBX_STAT_FULL (8 + k)))) +
    bit 16 ((List.range 16).any (fun k => s.isSet (MBX_STAT_COLLISION k))) +
    bit 15 (bells != 0) +
    bit 14 ((List.range 128).any (fun k => s.get (SES_STATE_STATE k) == 6)) +
    bit 13 (s.rdN A_LGL_LOG_HEAD != s.rdN A_LGL_LOG_ACK) + bit 12 (any A_LGL_TAMPER_NEW) + bit 11 (any A_SAF_EVENTS) +
    bit 10 ((List.range 12).any (fun n => any (A_OUT_EVENTS n))) +
    bit 9 (any A_GOV_RES_EVENTS || any A_GOV_PL_EVENTS) + bit 8 (s.warned || s.islanded) +
    bit 7 (any A_LCH_EVENTS || any A_BZL_EVENTS) + bit 6 (any A_NFC_EVENTS) + bit 5 (any A_SIT_EVENTS) +
    bit 4 (any A_UPD_EVENTS) + bit 3 (any A_WEAR_EVENTS) + bit 2 (s.gstate == 2 || any A_CAL_EVENTS)

/-- Look at GLB.POLL[27:8] for CHANGE_CNT: note whether any bit has risen since the last look. -/
def State.notePoll (s : State) : State :=
  let p := s.pollBits
  let up := decide (clearMask p s.glb.lastPoll ≠ 0)
  { s with glb := { s.glb with lastPoll := p, rose := s.glb.rose || up } }

/-- The end of a beat: CHANGE_CNT adds 1 in a beat in which any bit of GLB.POLL[27:8] rose. -/
def State.countPoll (s : State) : State :=
  let t := s.notePoll
  if t.glb.rose then
    let u := t.put GLB_POLL_CHANGE_CNT (t.get GLB_POLL_CHANGE_CNT + 1)
    { u with glb := { u.glb with rose := false } }
  else t

/-! ### What registers show -/

/-- The index of an address in a row of n addresses. -/
def indexIn (base stride n a : Nat) : Option Nat :=
  if base ≤ a ∧ (a - base) % stride = 0 ∧ (a - base) / stride < n then some ((a - base) / stride) else none

/-- The index of a 128-bit register and the word of it at an address. -/
def wideIn (base n a : Nat) : Option (Nat × Nat) :=
  match indexIn base 4 (4 * n) a with
  | some i => some (i / 4, i % 4)
  | none => none

/-- Hours since the calibration that a channel rests on: its modulator's, the older one of a dual-range pair, or its last offset
taken (SNS.CH_CAL_n.AGE; log entry 55). -/
def State.calAge (s : State) (n : Nat) : Nat :=
  let src := s.chSrc n
  let since (t : Nat) : Nat := min 0xFFFF ((s.mono - t) / 3600)
  let a := since (nth s.sns.modMono 0 (s.get (SNS_CH_MAP_MOD_A n)))
  if src = 3 then since (nth s.sns.ksMono 0 n)
  else if src = 2 then max a (since (nth s.sns.modMono 0 (s.get (SNS_CH_MAP_MOD_B n))))
  else a

/-- Whole minutes left in SERVICE for a port (GLB.WORLD). -/
def State.svcMinutes (s : State) (port : Nat) : Nat :=
  if s.inService port then (s.svcMono port + 900 - s.mono) / 60 else 0

/-- Commands in execution: taken and not yet answered (R348). -/
def State.execCount (s : State) : Nat := (s.host.exec.filter (fun c => !c.answered)).length

/-- A bit per mailbox of a flag. -/
def State.mboxMask (s : State) (f : Nat → Fld) : Nat :=
  (List.range 16).foldl (fun m k => if s.isSet (f k) then m + 2 ^ k else m) 0

/-- CRC_REQ: always in IN_SERVICE, otherwise as the image sets it. -/
def State.crcReq (s : State) : Bool := s.glb.lifecycle == 2 || s.isSet HPD_CFG_CRC_REQ

/-- Registers of the global block and of the host interface that are read out of other state. -/
def State.shownHost (s : State) (a : Nat) : Option State :=
  if a = A_GLB_POLL then some (s.wrN a ((s.rdN a / 2 ^ 28) * 2 ^ 28 + s.pollBits * 2 ^ 8 + s.gstate))
  else if a = A_GLB_WORLD then
    some ((s.put GLB_WORLD_SVC_MIN0 (s.svcMinutes 0)).put GLB_WORLD_SVC_MIN1 (s.svcMinutes 1))
  else if a = A_HPD_CFG then some (s.putB HPD_CFG_CRC_REQ s.crcReq)
  else if a = A_HPD_STATUS then
    some ((s.putSat HPD_STATUS_POLL_AGE ((s.now - s.host.pollBeat) / 40)).put HPD_STATUS_EXEC s.execCount)
  else if a = A_MBX_SUMMARY then some (s.wrN a (s.mboxMask MBX_STAT_COLLISION * 2 ^ 16 + s.mboxMask MBX_STAT_FULL))
  else if a = A_FLT_STATUS then some s.selValid
  else none

/-- Registers of the store blocks that are read out of other state. -/
def State.shownStores (s : State) (a : Nat) : Option State :=
  if a = A_KEY_SVC then
    some ((s.put KEY_SVC_LOCK_S (s.key.lockEnd - s.mono)).put KEY_SVC_FAILS s.svcFails.length)
  else if a = A_KEY_JW_ATTR0 then some (s.wrN a (s.jwWord 0))
  else if a = A_KEY_JW_ATTR1 then some (s.wrN a (s.jwWord 1))
  else if a = A_KEY_JW_USE then some (s.wrN a (s.jwWord 2))
  else if a = A_KEY_JW_KCV then some (s.wrN a (s.jwWord 3))
  else if a = A_SAF_PWD then
    let left := if s.isSet CAL_STATUS_SAFETY_UNLOCK then s.saf.unlockEnd - s.mono else 0
    some ((s.putSat SAF_PWD_UNLOCK_S left).putSat SAF_PWD_FAILS
      (s.saf.fails.filter (fun m => decide (s.mono < m + 600))).length)
  else if a = A_ARB_SCRUB then some (s.putSat ARB_SCRUB_AGE ((s.mono - s.mp.scrubMono) / 60))
  else match indexIn (A_ARB_ECC 0) 4 9 a with
    | some b => some (s.putSat (ARB_ECC_CORR_24H b) (s.corrected b))
    | none => none

/-- Registers of the beat's units that are read out of other state. -/
def State.shownUnits (s : State) (a : Nat) : Option State :=
  if a = A_LGL_LOCAL then some s.showLocal
  else if a = A_LGL_DEM_LAST then some (s.wrN a s.demSel.demand)
  else if a = A_LGL_DEM_FLAGS then
    let d := s.demSel
    some ((((s.put LGL_DEM_FLAGS_REG d.reg).putB LGL_DEM_FLAGS_INCOMPLETE d.incomplete).putB LGL_DEM_FLAGS_CLOCK_ADJ d.adj).putB
      LGL_DEM_FLAGS_VALID d.valid)
  else if a = A_BZL_STRESS then
    some (s.wrN a (nth s.bzl.stress 0 (64 * s.get BZL_STRESS_SEL_LINE + s.get BZL_STRESS_SEL_SEG)))
  else if a = A_RED_SWAP_STAT then
    let p := s.get RED_SWAP_CFG_PERIOD
    some (s.putSat RED_SWAP_STAT_NEXT (if p = 0 then 0xFFFF else (s.red.swapMono + 3600 * p - s.mono) / 60))
  else match wideIn (A_LGL_TR 0) 16 a with
  | some (k, w) => some (s.wrN a (s.tregWord k / 2 ^ (32 * w)))
  | none => match wideIn (A_LGL_MD 0) 16 a with
  | some (k, w) => some (s.wrN a (s.mdWord k / 2 ^ (32 * w)))
  | none => match indexIn (A_SES_PROTO 0) 256 128 a with
  | some k =>
    let x := s.sesTimer k
    some ((s.put (SES_PROTO_TIMER k) x.1).putSat (SES_PROTO_LEFT k) ((x.2 - s.now) / 400))
  | none => match indexIn (A_OUT_CAN 0) 1024 12 a with
  | some n =>
    let age := match (s.o n).statusBeat with | some b => (s.now - b) / 40 | none => 255
    some (s.putSat (OUT_CAN_AGE n) (if s.isDc n then age else 255))
  | none => match indexIn (A_SNS_CH_CAL 0) 16 128 a with
  | some n => some (s.put (SNS_CH_CAL_AGE n) (s.calAge n))
  | none => match indexIn (A_LCH_CLAMP 0) 0x20 16 a with
  | some k => some (s.clampSum k)
  | none => none

/-- The interval register and word at an address: meter, quantity, word. -/
def intervalAt (a : Nat) : Option (Nat × Nat × Nat) :=
  let o := a - A_MTR_M_INTV 0 0
  let q := o % 1024
  if A_MTR_M_INTV 0 0 ≤ a ∧ o / 1024 < 32 ∧ q / 32 < 11 ∧ q % 32 < 16 ∧ q % 4 = 0 then some (o / 1024, q / 32, q % 32 / 4) else none

/-- Blocks that have not started in the setting position (R44): SNS, MTR, OUT, SES, GOV, RED, SAF, LCH, BZL, SIT. -/
def unstarted (a : Nat) : Bool :=
  (decide (0x8000 ≤ a) && decide (a < 0x20000)) || (decide (0x28000 ≤ a) && decide (a < 0x3E000)) ||
    (decide (0x3F000 ≤ a) && decide (a < 0x40000))

/-- Whether a register is one of a unit that has not started: it reads its reset values and ignores writes (R44). -/
def State.dormant (s : State) (a : Nat) : Bool := s.settingPos && unstarted a

/-- The metering, outlet and session registers of R15: MTR, OUT, SES. -/
def beatReg (a : Nat) : Bool :=
  (decide (0x10000 ≤ a) && decide (a < 0x20000)) || (decide (0x28000 ≤ a) && decide (a < 0x2B000)) ||
    (decide (0x30000 ≤ a) && decide (a < 0x38000))

/-- The registers of R15 as they stand, those read out of other state with them. -/
def State.beatView (s : State) : List (Nat × Word) :=
  let put (a : Nat) (u : State) : State := match s.shownUnits a with | some t => u.wrN a (t.rdN a) | none => u
  let t := forUpTo 128 (fun k u => put (A_SES_PROTO k) u) (forUpTo 12 (fun n u => put (A_OUT_CAN n) u) s)
  t.regs.filter (fun p => beatReg p.1)

/-- The word of a register as it stands now. -/
def State.live (s : State) (a : Nat) : Nat :=
  match s.shownHost a with
  | some t => t.rdN a
  | none => match s.shownStores a with
  | some t => t.rdN a
  | none => match s.shownUnits a with
  | some t => t.rdN a
  | none => match intervalAt a with
  | some (m, q, w) => s.interval m q / 2 ^ (32 * w) % 2 ^ 32
  | none => match indexIn (A_FLT_E 0) 4 8 a with
  | some w => (s.faultWord w).toNat
  | none => s.rdN a

/-- The word of a register that a host read returns: one of R15 as the last finished beat left it, one of a unit that has not started at
its reset values but for what MRAM restores (R44), any other as it stands. -/
def State.shown (s : State) (a : Nat) : Nat :=
  if s.dormant a then clearMask (regReset a).toNat (nvMask a) + (s.live a &&& nvMask a)
  else match s.host.view with
  | some v => if beatReg a && (intervalAt a).isNone then ((kvFind a v).getD (regReset a)).toNat else s.live a
  | none => s.live a

/-! ### Reads -/

/-- The register at an address, or none where it behaves as R8 states: no register, in RECOVERY a block other than GLB, HPD, ARB and
UPD (R44), in SCRAPPED all but the identity registers (R24). -/
def State.regAt (s : State) (a : Nat) : Option RegRow :=
  let blk := a / 0x1000
  if s.glb.lifecycle = 4 ∧ 0x18 ≤ a then none
  else if s.gstate = 6 ∧ !(blk == 0 || blk == 1 || blk == 0x40 || blk == 0x43) then none
  else findRow a regRows

/-- The registers that a read latches for its port (R6 RS, R18): the other words of a wide register, the group of an RS register. -/
def groupOf (a : Nat) (r : RegRow) : List Nat :=
  if a = A_ESC_BEATNO_LO then [A_ESC_BEATNO_HI]
  else if a = A_GOV_BUDGET_ROUND then [A_GOV_BUDGET_DERATE, A_GOV_BUDGET_AUX, A_GOV_BUDGET_HEAD]
  else if a = A_GOV_PL_ROUND then [0x38134, 0x38138, 0x3813C]
  else if a = A_FLT_E 0 then (List.range 7).map (fun i => A_FLT_E (i + 1))
  else if r.words = 4 ∧ (a - r.base) % r.s1 % r.s2 = 0 then [a + 4, a + 8, a + 12]
  else []

/-- Latch a group for a port (R18). -/
def State.latch (s : State) (port : Nat) (g : List Nat) : State :=
  if g.isEmpty then s
  else
    let news : List Latch := g.map (fun a => { port := port, addr := a, word := BitVec.ofNat 32 (s.shown a) })
    let keep := s.host.latches.filter (fun l => !(l.port == port && g.contains l.addr))
    { s with host := { s.host with latches := keep ++ news } }

/-- RC fields restart at their reset values (R6). Where the read returned the last finished beat (R15), what has come since stands. -/
def State.clearRead (s : State) (a : Nat) (r : RegRow) : State :=
  let old := clearMask (s.rdN a) r.rc
  match s.host.view with
  | some v =>
    if beatReg a then
      let seen := ((kvFind a v).getD (regReset a)).toNat
      let word := BitVec.ofNat 32 (clearMask seen r.rc + (r.reset &&& r.rc))
      let t := s.wrN a (old + (((s.rdN a &&& r.rc) - (seen &&& r.rc)) &&& r.rc))
      { t with host := { t.host with view := some (kvInsert (regReset a) a word v) } }
    else s.wrN a (old + (r.reset &&& r.rc))
  | none => s.wrN a (old + (r.reset &&& r.rc))

/-- What the read of a register changes beside the latches (R6 RC, R117, R340, R346): RC fields restart at their reset values. -/
def State.readEffect (s : State) (port a : Nat) (r : RegRow) : State :=
  if a = A_GLB_POLL then
    let t := s.clr HPD_STATUS_HOST_SILENT
    { t with host := { t.host with pollBeat := s.now } }
  else match intervalAt a with
  | some (m, q, 0) => s.readInterval port m q
  | some _ => s
  | none =>
    if a = A_KEY_JW_USE then
      let j := s.get KEY_JW_SEL_JEWEL
      s.updKey (fun k => { k with used := upd k.used j (fun _ => 0), refused := upd k.refused j (fun _ => 0) })
    else if r.rc = 0 ∨ s.dormant a then s
    else
      let t := s.clearRead a r
      match indexIn (A_MBX_HI 8) 16 8 a with
      | some k => (t.notePoll).clr (MBX_STAT_FULL (8 + k))
      | none => t

/-- A read of a register word through a port: the latched word, else the present one with what the read does. -/
def State.readReg (s : State) (port a : Nat) (r : RegRow) : Nat × State :=
  match s.host.latches.find? (fun l => l.port == port && l.addr == a) with
  | some l => (l.word.toNat, s)
  | none => (s.shown a, (s.latch port (groupOf a r)).readEffect port a r)

/-- The answer on a port's lines. -/
def State.setOut (s : State) (port : Nat) (bs : List Byte) : State :=
  { s with host := { s.host with out := upd s.host.out port (fun _ => bs) } }

/-- A host-port fault with its count in HPD.Pn_ERR; PARAM1 is the address (R337, R338). -/
def State.hostFail (s : State) (port code a : Nat) : State :=
  let t := if code = 0xA001 then s.inc (HPD_P_ERR_CRC_ERR port)
    else if code = 0xA003 then s.inc (HPD_P_ERR_REFUSED port)
    else if code = 0xA002 ∨ code = 0xA009 then s.inc (HPD_P_ERR_UNMAPPED port)
    else s
  t.raiseHost code port a

/-- The window of R338 that holds an address: 0 registers, 1 Mainplate, none. -/
def window338 (a : Nat) : Option Nat := if a < 0x100000 then some 0 else if inMainplate a then some 1 else none

/-- What has been read so far of a transaction: bytes, an address outside the maps met, a word that was not ready, a word not sent as
it stands. -/
structure ReadAcc where
  bytes : List Byte := []
  unmapped : Bool := false
  under : Bool := false
  bad : Bool := false

/-- One word of a read transaction at an address (R8, R338, R339, R351, R353); `win` is the window of the first word, `late` says
that the word was not ready. -/
def State.readWord (s : State) (port a : Nat) (win : Option Nat) (late : Bool) (acc : ReadAcc) : ReadAcc × State :=
  let zero : ReadAcc := { acc with bytes := acc.bytes ++ le 4 0 }
  if win.isNone ∨ window338 a ≠ win then ({ zero with unmapped := true }, s)
  else if win = some 0 then
    match s.regAt a with
    | some r =>
      let x := s.readReg port a r
      ({ acc with bytes := acc.bytes ++ le 4 x.1 }, x.2)
    | none => ({ zero with unmapped := true }, s)
  else if s.glb.lifecycle = 4 then ({ zero with unmapped := true }, s)
  else if !s.accessOk (6 + port) a false then (zero, s.accessFault (6 + port) a)
  else if late then ({ zero with bad := true, under := true }, s.inc (HPD_P_ERR_UNDERRUN port))
  else match s.poisoned a 4 with
    | w :: _ => ({ zero with bad := true }, s.poisonRead (6 + port) w)
    | [] => ({ acc with bytes := acc.bytes ++ s.mpRead a 4 }, s)

/-- The words of a read transaction, in rising address order. -/
def readWords (port a : Nat) (win : Option Nat) (late : List Nat) : Nat → Nat → ReadAcc → State → ReadAcc × State
  | 0, _, acc, s => (acc, s)
  | n + 1, i, acc, s =>
    let x := s.readWord port (a + 4 * i) win (late.contains i) acc
    readWords port a win late n (i + 1) x.1 x.2

/-- A transaction is counted, with the clock it ran at in 10 kHz (HPD.Pn_CLK). -/
def State.countTxn (s : State) (port sck : Nat) : State := (s.inc (HPD_P_CLK_TXN port)).putSat (HPD_P_CLK_SCK port) sck

/-- The command byte and the address bytes as sent (R335, R336). -/
def headBytes (cmd a : Nat) : List Byte := le 1 cmd ++ (le 4 a).reverse

/-- A CRC-16 as sent, most significant byte first (R336). -/
def crcBytes (v : Nat) : List Byte := (le 2 v).reverse

/-- A transaction that R335 refuses. -/
def State.protocolError (s : State) (port a : Nat) : State := (s.setOut port []).hostFail port 0xA009 a

/-- Whether the address and the number of words of a transaction are as R335 asks. -/
def shapeOk (a n : Nat) : Bool := decide (a % 4 = 0) && decide (1 ≤ n) && decide (n ≤ 1024)

/-- A READ or READ_CRC of n words (R335, R336, R339); nothing answers without supply. -/
def State.hostRead (s : State) (port a n sck : Nat) (late : List Nat) (crc : Bool) : State :=
  if s.pwr.off then s else
  let s := s.countTxn port sck
  if !shapeOk a n then s.protocolError port a
  else
    let x := readWords port a (window338 a) late n 0 {} s
    let t := when x.1.unmapped (fun u => u.hostFail port 0xA002 a) x.2
    let t := when x.1.under (fun u => u.raiseHost 0xA004 port a) t
    let v := crc16 (headBytes 0x0C a ++ x.1.bytes)
    let tail := if crc then crcBytes (if x.1.bad then 0xFFFF - v else v) else []
    t.setOut port (x.1.bytes ++ tail)

/-- A read of one register as the opcode table's own rows name it (log entry 56). -/
def State.portRead (s : State) (port a : Nat) : State :=
  let x := s.readWord port a (window338 a) false {}
  (when x.1.unmapped (fun u => u.hostFail port 0xA002 a) x.2).setOut port x.1.bytes

/-! ### Writes -/

/-- The motion-works channel and the word of its descriptor at an address. -/
def dmaAt (a : Nat) : Option (Nat × Nat) :=
  if 0x41100 ≤ a ∧ a < 0x41500 ∧ (a - 0x41100) % 0x40 < 0x40 then some ((a - 0x41100) / 0x40, (a - 0x41100) % 0x40) else none

/-- Why a word of a write is refused at its address, if it is (R337, R338, R29, R360, R361). -/
def State.wordRefused (s : State) (port a v : Nat) (win : Option Nat) : Option Nat :=
  if win.isNone ∨ window338 a ≠ win then some 0xA002
  else if win = some 1 then (if s.glb.lifecycle = 4 then some 0xA002 else if inHostArea a then none else some 0xA003)
  else match s.regAt a with
  | none => some 0xA002
  | some r =>
    let dma : Bool := match dmaAt a with | some x => decide (x.1 < 12) | none => false
    if (r.rw == 0 && r.w1c == 0 && r.wo == 0) || dma then some 0xA003
    else if a = A_GLB_RESET ∧ !s.resetOk port then some 0xA003
    else if a = A_ARB_CTRL ∧ v.testBit 0 ∧ !s.hackOk port then some 0xA003
    else none

/-- The reasons of the words of a write, in address order. -/
def State.refusals (s : State) (port a : Nat) (data : List Nat) : List Nat :=
  ((List.range data.length).map (fun i => s.wordRefused port (a + 4 * i) (nth data 0 i) (window338 a))).filterMap id

/-- The fault code that refuses a write, 0 for none (R337): an unmapped address before a refusal. -/
def State.writeCode (s : State) (port a : Nat) (data : List Nat) (plain : Bool) : Nat :=
  if plain && s.crcReq then 0xA003
  else
    let l := s.refusals port a data
    if l.contains 0xA002 then 0xA002 else l.headD 0

/-- The rule of a register without operations of its own: RW fields take the word, ones clear W1C bits (R6). -/
def State.plainWrite (s : State) (a v : Nat) (r : RegRow) : State :=
  let old := s.rdN a
  s.wrN a (clearMask (clearMask old r.rw + (v &&& r.rw)) (v &&& r.w1c))

/-- A notice waits in a host-to-device mailbox while its word is written (R342): it is discarded. -/
def State.collide (s : State) (port k : Nat) : State :=
  let t := (s.clr (MBX_STAT_FULL k)).set1 (MBX_STAT_COLLISION k)
  (t.putBit HPD_DB_OUT_MBX_IN k false).raiseHost 0xA005 port k

/-- A write of word 0 of MBX_k (R342). -/
def State.writeMbxLo (s : State) (port k v : Nat) : State :=
  (when (s.isSet (MBX_STAT_FULL k)) (fun u => u.collide port k) s).wrN (A_MBX_LO k) v

/-- A write of word 1 of MBX_k (R342): it completes the notice, or collides with a waiting one. -/
def State.writeMbxHi (s : State) (port k v : Nat) : State :=
  let t := (s.wrN (A_MBX_HI k) v).put (MBX_STAT_PORT k) (port + 1)
  if s.isSet (MBX_STAT_FULL k) then t.collide port k
  else (t.set1 (MBX_STAT_FULL k)).putBit HPD_DB_OUT_MBX_IN k true

/-- A write of HPD.DB_OUT_SET (R341). -/
def State.ringBells (s : State) (v : Nat) : State :=
  s.put HPD_DB_OUT_HOST (s.get HPD_DB_OUT_HOST ||| (v / 2 ^ 16 % 2 ^ 8))

/-- A write of GLB.RESET that R29 has accepted. -/
def State.writeReset (s : State) (v : Nat) : State :=
  if v / 2 ^ 16 ≠ 0x0B1C then s
  else if v % 16 = 1 then s.glbReset false
  else if v % 16 = 2 then s.glbReset true
  else s

/-- A write of a motion-works register (R361, R362): a channel in progress takes no descriptor. -/
def State.writeDma (s : State) (a v : Nat) (n w : Nat) (r : RegRow) : State :=
  if w = 0x18 then s.dmaCtrl n v
  else
    let st := s.get (DMA_C_STAT_STATE n)
    if 1 ≤ st ∧ st ≤ 4 then s else s.plainWrite a v r

/-- One register word of a write takes effect. -/
def State.writeReg (s : State) (port a v : Nat) : State :=
  match s.regAt a with
  | none => s
  | some r =>
    if s.dormant a then s
    else match indexIn (A_MBX_LO 0) 16 8 a with
    | some k => s.writeMbxLo port k v
    | none => match indexIn (A_MBX_HI 0) 16 8 a with
    | some k => s.writeMbxHi port k v
    | none => match dmaAt a with
    | some x => s.writeDma a v x.1 x.2 r
    | none =>
      if a = A_GLB_RESET then s.writeReset v
      else if a = A_HPD_DB_OUT_SET then s.ringBells v
      else if a = A_LCH_ISNS then (s.plainWrite a v r).isnsSelect
      else if a = A_NFC_TAG_CTRL then s.setHostLock (v.testBit 0)
      else if a = A_ARB_CTRL then s.writeHack (v / 2 ^ 16 % 2 ^ 8) (v.testBit 0)
      else if a = A_ARB_CUTOFF then s.clearCutoff v
      else if a = A_UPD_REC_CMD then s.recWrite (v / 2 ^ 16) (v % 4)
      else if a = A_FLT_ACK then s.ackFaults v
      else if a = A_FLT_SEL then s.selFault v
      else s.plainWrite a v r

/-- A write takes effect as a whole (R337). -/
def State.applyWords (s : State) (port a : Nat) (data : List Nat) : State :=
  let t := s.notePoll
  let t := if inMainplate a then t.mpWrite a (data.flatMap (le 4))
    else forUpTo data.length (fun i u => u.writeReg port (a + 4 * i) (nth data 0 i)) t
  t.notePoll

/-- The outcome of a write transaction in HPD.Pn_LAST. -/
def State.showLast (s : State) (port code : Nat) (pending : Bool) : State :=
  let t := s.put (HPD_P_LAST_COUNT port) (s.get (HPD_P_LAST_COUNT port) + 1)
  (t.put (HPD_P_LAST_RESULT port) code).putB (HPD_P_LAST_PENDING port) pending

/-- A WRITE or WRITE_CRC transaction ends (R337): it waits for pallet 0, or has no effect. -/
def State.hostWrite (s : State) (port a : Nat) (data : List Nat) (sck : Nat) (plain crcBad : Bool) : State :=
  if s.pwr.off then s else
  let s := s.countTxn port sck
  if !shapeOk a data.length then s.protocolError port a
  else
    let code := if crcBad then 0xA001 else s.writeCode port a data plain
    if code ≠ 0 then (s.showLast port code false).hostFail port code a
    else
      let w : PendWrite := { port := port, addr := a, data := data.map (fun v => BitVec.ofNat 32 v) }
      let t := s.showLast port 0 true
      { t with host := { t.host with writes := t.host.writes ++ [w] } }

/-- The oldest write that waits takes effect, at pallet 0 (R337, R334). -/
def State.applyWrite (s : State) : State :=
  match s.host.writes with
  | [] => s
  | w :: rest =>
    let t := { s with host := { s.host with writes := rest } }
    let t := when (!rest.any (fun x => x.port == w.port)) (fun u => u.clr (HPD_P_LAST_PENDING w.port)) t
    t.applyWords w.port w.addr (w.data.map (fun v => v.toNat))

/-! ### Mailboxes -/

/-- Place a notice in an empty device-to-host mailbox k (8 to 15) and ring its bell (R346, R341). -/
def State.placeNotice (s : State) (n : Notice) : State :=
  let t := ((s.wrN (A_MBX_LO n.mbox) n.lo).wrN (A_MBX_HI n.mbox) n.hi).set1 (MBX_STAT_FULL n.mbox)
  t.putBit HPD_DB_IN_MBX_OUT (n.mbox - 8) true

/-- The notices that wait for a mailbox. -/
def State.waiting (s : State) (k : Nat) : List Notice := s.host.queue.filter (fun n => n.mbox == k)

/-- MBX.Mk_STAT.QUEUE. -/
def State.showQueue (s : State) (k : Nat) : State := s.put (MBX_STAT_QUEUE k) (s.waiting k).length

/-- Take the oldest notice that waits for a mailbox out of its queue. -/
def dropFirst (k : Nat) : List Notice → List Notice
  | [] => []
  | n :: t => if n.mbox = k then t else n :: dropFirst k t

/-- A notice joins its mailbox's queue; a seventeenth writes the oldest queued one over the mailbox (R346). -/
def State.queueNotice (s : State) (n : Notice) : State :=
  let add (u : State) : State := ({ u with host := { u.host with queue := u.host.queue ++ [n] } }).showQueue n.mbox
  match s.waiting n.mbox with
  | old :: _ =>
    if 16 ≤ (s.waiting n.mbox).length then
      let t := { s with host := { s.host with queue := dropFirst n.mbox s.host.queue } }
      let hit := s.isSet (MBX_STAT_FULL n.mbox)
      let t := t.placeNotice old
      add (when hit (fun u => (u.set1 (MBX_STAT_COLLISION n.mbox)).raiseHost 0xA005
        (u.get (MBX_STAT_PORT (n.mbox - 8)) - 1) n.mbox) t)
    else add s
  | [] => add s

/-- Each empty device-to-host mailbox takes its next notice (R346). -/
def State.placeQueued (s : State) : State :=
  forUpTo 8 (fun i u =>
    match u.waiting (8 + i) with
    | n :: _ =>
      if u.isSet (MBX_STAT_FULL (8 + i)) then u
      else (({ u with host := { u.host with queue := dropFirst (8 + i) u.host.queue } }).placeNotice n).showQueue (8 + i)
    | [] => u) s

/-- Release a held reply (R229, R345): the message is written and its notice queued; the command leaves execution with its final
reply. -/
def State.releaseReply (s : State) (h : Held) : State :=
  let interim := match h.bytes[6]? with | some b => b.toNat % 2 == 1 | none => false
  let code := h.notice.hi / 2 ^ 16
  let t := s.bothWrite h.addr h.bytes
  let t := when (!interim) (fun u => { u with host := { u.host with
    exec := u.host.exec.filter (fun d => !(d.answered && d.port == h.port && d.seq == h.seq && d.code == code)) } }) t
  t.queueNotice h.notice

/-- The replies that R229 lets go in the beat that begins: those of earlier beats, acknowledged while a standby is synchronised. -/
def State.releaseReplies (s : State) : State :=
  let free (h : Held) : Bool := (decide (h.beat < s.now) || s.esc.gen != 2) && (!s.standbyOk || s.recorded h.iseq)
  let go := s.host.held.filter free
  let t := { s with host := { s.host with held := s.host.held.filter (fun h => !free h) } }
  forEach go (fun h u => u.releaseReply h) t

/-- Hold a message for a command's reply address without marking the command as answered. -/
def State.holdReply (s : State) (c : Cmd) (status flags param : Nat) : State :=
  let bs := replyBytes c.code c.seq status flags param []
  let n : Notice := { mbox := 8 + c.mbox, lo := c.replyAddr, hi := c.code * 2 ^ 16 + 1 }
  let h : Held := { beat := s.now, port := c.port, seq := c.seq, addr := c.replyAddr, bytes := bs, notice := n }
  { s with host := { s.host with held := s.host.held ++ [h] } }

/-- A notice that cannot be answered (R348). -/
def State.badNotice (s : State) (port k : Nat) : State :=
  let h : Held :=
    { beat := s.now, port := port, seq := 0, addr := mainplateBase, bytes := [],
      notice := { mbox := 8 + k, lo := 0, hi := 0xFFFF0000 } }
  ({ s with host := { s.host with held := s.host.held ++ [h] } }).raiseHost 0xA006 port k

/-- The command codes of the manual. -/
def knownCodes : List Nat := [
  0x0101, 0x0102, 0x0103, 0x0104, 0x0105, 0x0106, 0x0107, 0x0201, 0x0202, 0x0203, 0x0301, 0x0302, 0x0303,
  0x0304, 0x0305, 0x0306, 0x0401, 0x0402, 0x0403, 0x0404, 0x0405, 0x0406, 0x0407, 0x0408, 0x0501, 0x0502,
  0x0503, 0x0504, 0x0505, 0x0506, 0x0507, 0x0508, 0x0509, 0x050A, 0x0510, 0x0511, 0x0601, 0x0602, 0x0603,
  0x0604, 0x0701, 0x0702, 0x0703, 0x0704, 0x0705, 0x0801, 0x0802, 0x0803, 0x0804, 0x0805, 0x0806, 0x0901,
  0x0902, 0x0903, 0x0904, 0x0910, 0x0911, 0x0912, 0x0A01, 0x0A02, 0x0A03, 0x0A04, 0x0A05, 0x0A06, 0x0A07,
  0x0A08, 0x0A09, 0x0A10, 0x0A11, 0x0A12, 0x0A13, 0x0B01, 0x0B02, 0x0B03, 0x0B04, 0x0B05, 0x0B06, 0x0B07,
  0x0B08, 0x0B09, 0x0B10, 0x0B11, 0x0B12, 0x0B13, 0x0B14, 0x0C01, 0x0C02, 0x0C03]

/-- A command message becomes a command in execution, or is answered at once (R347, R348). -/
def State.startMessage (s : State) (c : Cmd) : State :=
  if s.host.exec.any (fun d => d.port == c.port && d.seq == c.seq) then
    (s.holdReply c stBAD_ARG 0 0xA007).raiseHost 0xA007 c.port c.seq
  else if 64 ≤ s.execCount then s.holdReply c stBUSY 0 0
  else if !knownCodes.contains c.code then s.holdReply c stBAD_ARG 0 0
  else { s with host := { s.host with exec := s.host.exec ++ [c] } }

/-- The two words of a mailbox's notice. -/
def State.mboxBytes (s : State) (k : Nat) : List Byte := le 4 (s.rdN (A_MBX_LO k)) ++ le 4 (s.rdN (A_MBX_HI k))

/-- The owner takes the notice of MBX_k, and the journal records it (R343, R344, R348, R25, R231). -/
def State.takeNotice (s : State) (k : Nat) : State :=
  let port := s.get (MBX_STAT_PORT k) - 1
  let a := s.rdN (A_MBX_LO k)
  let len := s.get (MBX_HI_LEN k)
  let code := s.get (MBX_HI_CODE k)
  let t := ((s.clr (MBX_STAT_FULL k)).putBit HPD_DB_OUT_MBX_IN k false).putBit HPD_DB_IN_MBX_FREE k true
  let t := { t with glb := { t.glb with
    svcMono0 := if port = 0 then s.mono else t.glb.svcMono0
    svcMono1 := if port = 1 then s.mono else t.glb.svcMono1 } }
  let taken (u : State) (seq : Nat) : State := u.journal 0x01 k (s.mboxBytes k ++ le 2 code ++ le 2 seq)
  if !argAddrOk a ∨ len = 0 ∨ 256 < len then (taken t 0).badNotice port k
  else
    let t := t.laneReads a (16 * len)
    let msg := t.mpRead a (16 * len)
    let num (o n : Nat) : Nat := ofLe ((msg.drop o).take n)
    if num 0 2 ≠ code ∨ !argAddrOk (num 8 4) ∨ num 12 4 < 16 then (taken t (num 2 2)).badNotice port k
    else
      (taken t (num 2 2)).startMessage
        { mbox := k, port := port, code := code, seq := num 2 2, replyAddr := num 8 4, replyMax := num 12 4,
          args := (msg.drop 16).take (num 4 2), beat := s.now, started := false, answered := false, interim := false }

/-- Whether notices are taken in the present state (R343, R44, R24). -/
def State.takesNotices (s : State) : Bool :=
  s.glb.lifecycle != 4 && (s.running || s.tableState == 2 || (s.gstate == 5 && s.lanesReach))

/-- Pallets 10 and 11 of a beat at the host interface: the echo of the host bells (R341), notices taken in rising order (R343), queued
notices placed (R346). -/
def State.hostBeat (s : State) : State :=
  let b := s.get HPD_DB_OUT_HOST
  let t := when (b != 0) (fun u => (u.put HPD_DB_IN_HOST (u.get HPD_DB_IN_HOST ||| b)).put HPD_DB_OUT_HOST 0) s
  let t := when t.takesNotices (fun u =>
    forUpTo 8 (fun k v => when (v.isSet (MBX_STAT_FULL k)) (fun w => w.takeNotice k) v) u) t
  t.placeQueued

/-- A reply message with REISSUE set (R345). -/
def reissued (bs : List Byte) : List Byte := bs.mapIdx (fun i b => if i = 6 then b ||| 4#8 else b)

/-- After a takeover (R243, R349): replies not yet released, and replies written but not taken by the host, go again with REISSUE; a
bad-notice answer in its mailbox is known to be placed. -/
def State.replayHost (s : State) : State :=
  let mark (u : State) (a : Nat) : State :=
    if argAddrOk a then u.bothWrite a (reissued (u.mpRead a 16)) else u
  let t := forEach s.host.queue (fun n u => mark u n.lo) s
  let t := forUpTo 8 (fun i u =>
    let k := 8 + i
    if u.isSet (MBX_STAT_FULL k) && u.get (MBX_HI_CODE k) != 0xFFFF then
      (mark u (u.rdN (A_MBX_LO k))).queueNotice { mbox := k, lo := u.rdN (A_MBX_LO k), hi := u.rdN (A_MBX_HI k) }
    else u) t
  { t with host := { t.host with
    held := t.host.held.map (fun h => if h.beat ≤ t.red.ackedBeat then { h with bytes := reissued h.bytes } else h) } }

/-! ### Meanings: transactions -/

/-- HOST_READ (R335, R338, R339): words not ready at their clock, the clock in 10 kHz. -/
def execHostRead (port : Fin 2) (addr : BitVec 32) (words : Nat) (sck : Nat) (late : List Nat) (s : State) : Out :=
  .next (s.hostRead port addr.toNat words sck late false)

/-- HOST_READ_CRC (R336). -/
def execHostReadCrc (port : Fin 2) (addr : BitVec 32) (words : Nat) (sck : Nat) (late : List Nat) (s : State) : Out :=
  .next (s.hostRead port addr.toNat words sck late true)

/-- HOST_WRITE (R337): a plain WRITE. -/
def execHostWrite (port : Fin 2) (addr : BitVec 32) (data : List Word) (sck : Nat) (s : State) : Out :=
  .next (s.hostWrite port addr.toNat (data.map (fun v => v.toNat)) sck true false)

/-- HOST_WRITE_CRC (R336, R337): a WRITE_CRC with the CRC-16 that the host sent. -/
def execHostWriteCrc (port : Fin 2) (addr : BitVec 32) (data : List Word) (crc : BitVec 16) (sck : Nat) (s : State) : Out :=
  let good := crc16 (headBytes 0x12 addr.toNat ++ data.flatMap (fun v => le 4 v.toNat))
  .next (s.hostWrite port addr.toNat (data.map (fun v => v.toNat)) sck false (decide (good ≠ crc.toNat)))

/-- HOST_PROTOCOL_ERROR (R335): a bad command byte, a misaligned address or a cut word. -/
def execHostProtocolError (port : Fin 2) (addr : BitVec 32) (sck : Nat) (s : State) : Out :=
  .next ((s.countTxn port sck).protocolError port addr.toNat)

/-- HOST_WRITE_APPLY (R337): pallet 0 of the beat of the oldest write. -/
def execHostWriteApply (s : State) : Out := .next s.applyWrite

/-- REGISTER_WRITE (R6): a write of one register, under the rules of R337 that name the register. -/
def execRegisterWrite (port : Fin 2) (addr : BitVec 32) (v : Word) (s : State) : Out :=
  let code := s.writeCode port addr.toNat [v.toNat] false
  .next (if code ≠ 0 then s.hostFail port code addr.toNat else s.applyWords port addr.toNat [v.toNat])

/-- HOST_WATCHDOG (R340): HOST_WD seconds since the later of the last poll and the last entry into a running state. -/
def execHostWatchdog (s : State) : Out :=
  let wd := s.get HPD_CFG_HOST_WD
  if s.running && wd != 0 && !s.isSet HPD_STATUS_HOST_SILENT &&
      decide (max s.host.pollBeat s.glb.runBeat + wd * secBeats ≤ s.now) then
    .next ((s.set1 HPD_STATUS_HOST_SILENT).raise 0xA008 NOTE srcBarrel 0 0)
  else .next s

/-- MBX_NOTICE_COMPLETE (R342). -/
def execMbxNoticeComplete (port : Fin 2) (k : Fin 8) (hi : Word) (s : State) : Out :=
  .next (s.hostSets port (A_MBX_HI k) (fun u => u.applyWords port (A_MBX_HI k) [hi.toNat]))

/-- DB_OUT_SET_WRITE (R341). -/
def execDbOutSetWrite (w : PortWrite 32) (s : State) : Out :=
  .next (s.hostSets w.port A_HPD_DB_OUT_SET (fun u => u.ringBells w.val.toNat))

/-- INTERIM_REPLY (R347): 400 beats after its dequeue a command has no final reply released. -/
def execInterimReply (port : Fin 2) (seq : BitVec 16) (s : State) : Out :=
  match s.host.exec.find? (fun c => c.port == port.val && c.seq == seq.toNat) with
  | some c =>
    if !c.interim && decide (c.beat + 400 ≤ s.now) then
      let t := s.holdReply c stACCEPTED 1 0
      .next { t with host := { t.host with
        exec := t.host.exec.map (fun d => if d.port == c.port && d.seq == c.seq then { d with interim := true } else d) } }
    else .next s
  | none => .next s

/-! ### Meanings: reads that do more than return a value -/

/-- BEATNO_LO_READ (R55, R6): latches ESC.BEATNO_HI. -/
def execBeatnoLoRead (port : Fin 2) (s : State) : Out := .next (s.portRead port A_ESC_BEATNO_LO)

/-- BUDGET_ROUND_READ (R72): latches the budget registers. -/
def execBudgetRoundRead (port : Fin 2) (s : State) : Out := .next (s.portRead port A_GOV_BUDGET_ROUND)

/-- PL_ROUND_READ (R207): latches GOV offsets 0x134 to 0x13C. -/
def execPlRoundRead (port : Fin 2) (s : State) : Out := .next (s.portRead port A_GOV_PL_ROUND)

/-- GLB_POLL_READ (R340): a poll. -/
def execGlbPollRead (port : Fin 2) (s : State) : Out := .next (s.portRead port A_GLB_POLL)

/-- MBX_REPLY_READ (R346): empties MBX_(8 + k). -/
def execMbxReplyRead (port : Fin 2) (k : Fin 8) (s : State) : Out := .next (s.portRead port (A_MBX_HI (8 + k)))

/-- FAULT_ENTRY_READ (R427): latches FLT.E_1 to FLT.E_7. -/
def execFaultEntryRead (port : Fin 2) (s : State) : Out := .next (s.portRead port (A_FLT_E 0))

/-- ESS_MAX_READ (R6). -/
def execEssMaxRead (port : Fin 2) (s : State) : Out := .next (s.portRead port A_ESC_ESS_MAX)

/-- QUEUE_FULL_CNT_READ (R6). -/
def execQueueFullCntRead (port : Fin 2) (s : State) : Out := .next (s.portRead port A_ESC_QUEUE)

/-- COMP_RUN_READ (R6). -/
def execCompRunRead (port : Fin 2) (k : Fin 8) (s : State) : Out := .next (s.portRead port (A_ESC_COMP_RUN k))

/-- COMP_DROP_READ (R6). -/
def execCompDropRead (port : Fin 2) (k : Fin 8) (s : State) : Out := .next (s.portRead port (A_ESC_COMP_DROP k))

/-- SWING_CNT_READ (R6). -/
def execSwingCntRead (port : Fin 2) (s : State) : Out := .next (s.portRead port A_SNS_SWING_CNT)

/-- CH_STAT_READ (R6). -/
def execChStatRead (port : Fin 2) (n : Fin 128) (s : State) : Out := .next (s.portRead port (A_SNS_CH_STAT n))

/-- METER_STATE_READ (R6). -/
def execMeterStateRead (port : Fin 2) (m : Fin 32) (s : State) : Out := .next (s.portRead port (A_MTR_M_STATE m))

/-- PLS_STAT_READ (R6). -/
def execPlsStatRead (port : Fin 2) (k : Fin 4) (s : State) : Out := .next (s.portRead port (A_MTR_PLS_STAT k))

/-- TOK_COUNT_READ (R6). -/
def execTokCountRead (port : Fin 2) (s : State) : Out := .next (s.portRead port A_TOK_COUNT)

/-- SES_PROTO_READ (R6). -/
def execSesProtoRead (port : Fin 2) (k : Fin 128) (s : State) : Out := .next (s.portRead port (A_SES_PROTO k))

/-- OUT_SLAC_READ (R6). -/
def execOutSlacRead (port : Fin 2) (n : Fin 12) (s : State) : Out := .next (s.portRead port (A_OUT_SLAC n))

/-- PL_BREACH_READ (R6). -/
def execPlBreachRead (port : Fin 2) (s : State) : Out := .next (s.portRead port A_GOV_PL_BREACH)

/-- JOURNAL_MAX_READ (R6). -/
def execJournalMaxRead (port : Fin 2) (s : State) : Out := .next (s.portRead port A_RED_JOURNAL)

/-- GAP_MAX_READ (R6). -/
def execGapMaxRead (port : Fin 2) (s : State) : Out := .next (s.portRead port A_RED_GAP_MAX)

/-- RED_CHECKS_READ (R6). -/
def execRedChecksRead (port : Fin 2) (s : State) : Out := .next (s.portRead port A_RED_CHECKS)

/-- SAF_COUNT_READ (R6). -/
def execSafCountRead (port : Fin 2) (s : State) : Out := .next (s.portRead port A_SAF_COUNT)

/-- SAF_REACT_READ (R6). -/
def execSafReactRead (port : Fin 2) (s : State) : Out := .next (s.portRead port A_SAF_REACT)

/-- LCH_COUNT_READ (R6). -/
def execLchCountRead (port : Fin 2) (k : Fin 16) (s : State) : Out := .next (s.portRead port (A_LCH_COUNT k))

/-- BZL_COUNT_READ (R6). -/
def execBzlCountRead (port : Fin 2) (s : State) : Out := .next (s.portRead port A_BZL_COUNT)

/-- RD_COUNT_READ (R6). -/
def execRdCountRead (port : Fin 2) (s : State) : Out := .next (s.portRead port A_NFC_RD_COUNT)

/-- TAG_STAT_READ (R6). -/
def execTagStatRead (port : Fin 2) (s : State) : Out := .next (s.portRead port A_NFC_TAG_STAT)

/-- SIT_COUNT_READ (R6). -/
def execSitCountRead (port : Fin 2) (s : State) : Out := .next (s.portRead port A_SIT_COUNT)

/-- SIT_ERR_READ (R6). -/
def execSitErrRead (port : Fin 2) (s : State) : Out := .next (s.portRead port A_SIT_ERR)

/-- SIT_DROP_READ (R6). -/
def execSitDropRead (port : Fin 2) (s : State) : Out := .next (s.portRead port A_SIT_DROP)

/-- HPD_ERR_READ (R6). -/
def execHpdErrRead (port : Fin 2) (n : Fin 2) (s : State) : Out := .next (s.portRead port (A_HPD_P_ERR n))

/-- HPD_CLK_READ (R6). -/
def execHpdClkRead (port : Fin 2) (n : Fin 2) (s : State) : Out := .next (s.portRead port (A_HPD_P_CLK n))

/-- ARB_MISS_READ (R6). -/
def execArbMissRead (port : Fin 2) (m : Fin 14) (s : State) : Out := .next (s.portRead port (A_ARB_MISS m))

/-- ARB_WAIT_READ (R6). -/
def execArbWaitRead (port : Fin 2) (m : Fin 14) (s : State) : Out := .next (s.portRead port (A_ARB_WAIT m))

/-- ARB_LOAD_READ (R6). -/
def execArbLoadRead (port : Fin 2) (b : Fin 9) (s : State) : Out := .next (s.portRead port (A_ARB_LOAD b))

/-- JW_USE_READ (R6). -/
def execJwUseRead (port : Fin 2) (s : State) : Out := .next (s.portRead port A_KEY_JW_USE)

/-- DRBG_READ (R6). -/
def execDrbgRead (port : Fin 2) (s : State) : Out := .next (s.portRead port A_KEY_DRBG)

/-- PWR_VAUX_READ (R6). -/
def execPwrVauxRead (port : Fin 2) (s : State) : Out := .next (s.portRead port A_PWR_VAUX)

/-- PWR_DIPS_READ (R6). -/
def execPwrDipsRead (port : Fin 2) (s : State) : Out := .next (s.portRead port A_PWR_DIPS)

/-- FLT_STATUS_READ (R6). -/
def execFltStatusRead (port : Fin 2) (s : State) : Out := .next (s.portRead port A_FLT_STATUS)

/-- FLT_COUNT_READ (R6). -/
def execFltCountRead (port : Fin 2) (s : State) : Out := .next (s.portRead port A_FLT_COUNT)

/-- WIDE_WORD0_READ (R18): a read of word 0 of a 128-bit register. -/
def execWideWord0Read (port : Fin 2) (addr : BitVec 32) (s : State) : Out :=
  match findRow addr.toNat regRows with
  | some r =>
    if r.words = 4 ∧ (addr.toNat - r.base) % r.s1 % r.s2 = 0 then .next (s.portRead port addr.toNat) else .next s
  | none => .next s

end Sys2Proof.Machine
end

