-- ==== Sys2Proof/Machine/SafetyFn.lean ====
section
/-! DEFINITION. The machine safety functions of 11_safety.md: two paths, inputs, function states, guard locking,
outputs and their tests, the password and the change log, and the commands 0x08xx. -/
namespace Sys2Proof.Machine

/-! ### Inputs and functions -/

/-- TYPE of a function (R254). -/
def State.fnType (s : State) (k : Nat) : Nat := s.get (SAF_FN_CFG_TYPE k)

/-- Whether TYPE is a function of its own: 1 to 5 (R254). -/
def State.fnReal (s : State) (k : Nat) : Bool := decide (1 ≤ s.fnType k) && decide (s.fnType k ≤ 5)

/-- Demand of channel 1 and channel 2 of a function for accepted input levels (R254). -/
def State.ch1Demand (s : State) (si k : Nat) : Bool := s.fnReal k && !si.testBit (2 * k)
def State.ch2Demand (s : State) (si k : Nat) : Bool :=
  if s.fnType k = 2 then si.testBit (2 * k + 1) else s.fnReal k && !si.testBit (2 * k + 1)

/-- Whether the lock of a GUARD_LOCK reads locked: both LOCKMON contacts closed (R254, R259). -/
def State.locked (s : State) (si k : Nat) : Bool :=
  let f := s.get (SAF_FN_CFG_LOCK_FN k)
  if f < 8 then si.testBit (2 * f) && si.testBit (2 * f + 1) else true

/-- Whether the load channel that unlocks the guard is commanded off. -/
def State.lockOff (s : State) (k : Nat) : Bool := !s.isSet (LCH_STATE_CMD (s.get (SAF_FN_TIME_LOCK_LC k)))

/-- Demand of a function (R254, R259): a lock that reads unlocked is a demand while LOCK_LC is off. -/
def State.demand (s : State) (si k : Nat) : Bool :=
  s.ch1Demand si k || s.ch2Demand si k || (s.fnType k == 4 && s.lockOff k && !s.locked si k)

/-- Both channels without demand and consistent; a GUARD_LOCK also reads locked (R258). -/
def State.clearOf (s : State) (si k : Nat) : Bool :=
  !s.ch1Demand si k && !s.ch2Demand si k && (s.fnType k != 4 || s.locked si k)

/-- An unlock is asked for, or the solenoid is powered: the function stays STOPPED until SAF_GUARD LOCK (R259). -/
def State.unlocking (s : State) (k : Nat) : Bool :=
  s.fnType k == 4 && (!s.lockOff k || (match s.saf.guard with | some g => g.1 == k | none => false))

/-- The two channels disagree (R256); a LOCKMON's channels disagree when its contacts differ. -/
def State.inconsistent (s : State) (si k : Nat) : Bool :=
  if s.fnType k = 6 then si.testBit (2 * k) != si.testBit (2 * k + 1)
  else s.fnReal k && (s.ch1Demand si k != s.ch2Demand si k)

/-- A path's state of a function: 1 the hardwired path, 0 the lane path. -/
def State.pathState (s : State) (path k : Nat) : Nat :=
  if path = 1 then s.get (SAF_FN_STATE_STATE k) else s.get (SAF_FN_STATE_LANE k)
def State.setPath (s : State) (path k v : Nat) : State :=
  if path = 1 then s.put (SAF_FN_STATE_STATE k) v else s.put (SAF_FN_STATE_LANE k) v

/-- The accepted inputs of a path. -/
def State.pathSi (s : State) (path : Nat) : Nat := if path = 1 then s.get SAF_INPUTS_SI else s.saf.laneSi

/-- A path opens its element on every pair of OUT_MASK (R258, R260). -/
def State.openMask (s : State) (path k : Nat) : State :=
  let m := s.get (SAF_FN_CFG_OUT_MASK k)
  forUpTo 12 (fun p u => when (m.testBit p) (fun v => v.openElem path p) u) s

/-- The hardwired path closes element H of a pair while every function that removes it is in RUN; a latched pair and a
pair of USE NONE stay open (R253, R260, R262). -/
def State.hwClose (s : State) : State :=
  if s.running then
    forUpTo 12 (fun p u =>
      let held := (List.range 8).any (fun k => (u.get (SAF_FN_CFG_OUT_MASK k)).testBit p && u.fnReal k &&
        u.get (SAF_FN_STATE_STATE k) != 2)
      let latched := (u.get SAF_SO_FAULT_LATCH &&& pairMask p) != 0
      when (!held && !latched && u.get (SAF_PAIR_CFG_USE p) != 0) (fun v => v.setElem 1 p true) u) s
  else s

/-- Whether the last evaluation of a function on a path saw no demand, and keeping that of this one. -/
def State.wasClear (s : State) (path k : Nat) : Bool := (if path = 1 then s.saf.clearH else s.saf.clearL).testBit k
def State.setClear (s : State) (path k : Nat) (clear : Bool) : State :=
  if path = 1 then { s with saf := { s.saf with clearH := natBit s.saf.clearH k clear } }
  else { s with saf := { s.saf with clearL := natBit s.saf.clearL k clear } }

/-- Evaluate one function on one path (R258). The lane path raises 0x7001; the hardwired path counts the demand. In STOPPED only a demand
that comes anew does so. A function stays STOPPED while the SAFETY unit restarts (R47) and in SAFE_HOLD (R269). -/
def State.evalFn (s : State) (path k : Nat) : State :=
  if !s.fnReal k then s
  else
    let si := s.pathSi path
    let st := s.pathState path k
    let was := s.wasClear path k
    let s := s.setClear path k (!s.demand si k)
    if st = 3 then s
    else if s.demand si k then
      if st = 0 ∧ !was then s
      else
        let t := (s.setPath path k 0).openMask path k
        if path = 1 then ((t.set1 SAF_EVENTS_DEMAND).inc SAF_COUNT_DEMANDS)
        else t.raise 0x7001 NOTE t.srcOwner k 0
    else if st = 0 ∧ s.running ∧ s.clearOf si k ∧ !s.unlocking k ∧ !s.cal.units.testBit 4 then s.setPath path k (if s.isSet (SAF_FN_CFG_RESET_MAN k) then 1 else 2)
    else s

/-- A function enters FAULT on both paths: as for demand, latched, with its cause (R258). -/
def State.fnFault (s : State) (k code : Nat) : State :=
  if s.fnReal k ∧ (s.pathState 1 k ≠ 3 ∨ s.pathState 0 k ≠ 3) then
    let t := ((s.fnBoth k 3).openMask 1 k).openMask 0 k
    (t.put (SAF_FN_STATE_CAUSE k) code).fnStatus
  else s

/-- A fault of a LOCKMON's inputs is one of the GUARD_LOCK functions that name it (R254, R259). -/
def State.inputFault (s : State) (k code : Nat) : State :=
  if s.fnType k = 6 then
    forUpTo 8 (fun f u => when (u.fnType f == 4 && decide (u.get (SAF_FN_CFG_LOCK_FN f) = k)) (fun v => v.fnFault f code) u) s
  else s.fnFault k code

/-- Whether a fault condition of a GUARD_LOCK's lock remains: its contacts disagree, fail their test, or read locked while the door
reads open (R259). -/
def State.lockBad (s : State) (k : Nat) : Bool :=
  let f := s.get (SAF_FN_CFG_LOCK_FN k)
  s.fnType k == 4 && ((s.fn k).lockOpen.isSome ||
    (s.fnType f == 6 && (s.inconsistent (s.get SAF_INPUTS_SI) f || (s.fn f).cond != 0)))

/-- FAULT ends when both channels have shown demand consistently for FILTER and no fault condition remains (R258). -/
def State.fnHeal (s : State) (k : Nat) : State :=
  match (s.fn k).bothSince with
  | some b =>
    if s.pathState 1 k = 3 ∧ (s.fn k).cond = 0 ∧ !s.lockBad k ∧ b + 4 * s.get (SAF_FN_TIME_FILTER k) ≤ s.now then
      ((s.fnBoth k 0).put (SAF_FN_STATE_CAUSE k) 0).fnStatus
    else s
  | none => s

/-- What follows of the accepted inputs of the hardwired path for a function: demand bit, LOCKED, consistency. -/
def State.trackFn (s : State) (k : Nat) : State :=
  let si := s.get SAF_INPUTS_SI
  let both := s.fnReal k && s.ch1Demand si k && s.ch2Demand si k
  let open_ := s.fnType k == 4 && s.locked si k && (s.ch1Demand si k && s.ch2Demand si k)
  let keep (b : Bool) (o : Option Nat) : Option Nat := if b then (if o.isSome then o else some s.now) else none
  let t := s.updFn k (fun f => { f with
    incons := keep (s.inconsistent si k) f.incons
    bothSince := keep both f.bothSince
    lockOpen := keep open_ f.lockOpen })
  let t := t.putBit SAF_STATUS_DEMAND k (s.demand si k)
  when (s.fnType k == 4) (fun u => u.putB (SAF_FN_STATE_LOCKED k) (s.locked si k)) t

/-- A reset names a set of functions; it acts at the next safety cycle (R258). -/
def State.nameResets (s : State) (mask : Nat) : State := { s with saf := { s.saf with resets := s.saf.resets ||| mask } }

/-- Release of a RESET input after a press of 0.1 to 5 s resets every function that names it (R258). -/
def State.resetButton (s : State) (f : Nat) (level : Bool) : State :=
  if level then s.updFn f (fun x => { x with press := some s.now })
  else
    match (s.fn f).press with
    | some b =>
      let t := s.updFn f (fun x => { x with press := none })
      if 4000 ≤ s.now - b ∧ s.now - b ≤ 200000 then
        t.nameResets ((List.range 8).foldl (fun acc k =>
          if s.get (SAF_FN_CFG_RESET_FN k) = f ∧ s.fnReal k then acc + 2 ^ k else acc) 0)
      else t
    | none => s

/-- Whether the solenoid of a GUARD_LOCK may be powered (R259): every pair of OUT_MASK de-energised, no STOP1 delay runs,
every AUX of a pair with EDM reads 0. -/
def State.unlockReady (s : State) (k : Nat) : Bool :=
  (List.range 12).all (fun p => !(s.get (SAF_FN_CFG_OUT_MASK k)).testBit p ||
    (!s.pairOn p && !s.saf.stopL.testBit p && !s.saf.openL.testBit p && !s.saf.stopH.testBit p &&
      (!s.isSet (SAF_PAIR_CFG_EDM p) || (s.get SAF_AUX_AUX &&& pairMask p) == 0)))

/-- A waiting SAF_GUARD UNLOCK powers its solenoid, a channel of USE LOCK (R271), once that is allowed, and is answered OK when it is powered
(R259). In SAFE_HOLD and the setting position no lock is powered (R283). -/
def State.tryUnlock (s : State) : State :=
  match s.saf.guard with
  | some (k, c) =>
    let lc := s.get (SAF_FN_TIME_LOCK_LC k)
    if !s.running ∨ s.get (LCH_CFG_USE lc) ≠ 2 then s
    else if s.isSet (LCH_STATE_CMD lc) && s.lcOn lc then
      State.replyTo { s with saf := { s.saf with guard := none } } c.port c.seq stOK 0
    else if s.unlockReady k && !s.isSet (LCH_STATE_CMD lc) && !s.isSet (LCH_STATE_STOPWORK lc) && s.lcst lc != lcFAULT then
      s.lcCommand lc true
    else s
  | none => s

/-- Latch a pair de-energised after a failed test of one of its outputs (R262). While it is latched no test decides. -/
def State.latchPair (s : State) (so code : Nat) : State :=
  let p := so / 2
  if (s.get SAF_SO_FAULT_LATCH &&& pairMask p) = pairMask p then s else
  let t := s.put SAF_SO_FAULT_LATCH (s.get SAF_SO_FAULT_LATCH ||| pairMask p)
  let t := (t.dropL p).setElem 1 p false
  let t := (t.set1 SAF_EVENTS_TEST_FAIL).inc SAF_COUNT_TEST_FAILS
  t.raise code DEGRADE srcCase so 0

/-! ### Meanings -/

/-- The test-pulse source of an input channel: ST_0 to ST_3, any other value none. -/
def State.sourceOf (s : State) (i : Nat) : Nat :=
  if i % 2 = 0 then s.get (SAF_FN_CFG_ST1 (i / 2)) else s.get (SAF_FN_CFG_ST2 (i / 2))

/-- Whether a sample of an input counts (R255): not while its source is dark and in the 150 µs after, which is the first 400 µs, or 8 samples,
from the source's place in the 20 ms period (R257). -/
def State.sampleCounts (s : State) (i at_ : Nat) : Bool :=
  let st := s.sourceOf i
  decide (4 ≤ st) || decide (8 ≤ (at_ + 400 - 100 * st) % 400)

/-- The level that the counted samples over FILTER all show, if they do (R255): as many of them, counted back from the newest, as FILTER holds
at 50 µs (two for each 0.1 ms; 40 for 2.0 ms, as the rule's example has it). -/
def State.runLevel (s : State) (i : Nat) (r : SiRun) : Option Bool :=
  let counted := ((r.levels.zipIdx).filter (fun x => s.sampleCounts i (r.at_ + (400 - x.2 % 400)))).map (fun x => x.1)
  let need := max 1 (2 * s.get (SAF_FN_TIME_FILTER (i / 2)))
  match counted with
  | [] => none
  | v :: _ => if need ≤ counted.length ∧ (counted.take need).all (fun x => x == v) then some v else none

/-- SAFETY_INPUT_ACCEPT (R255): a path has taken the samples `run` of a channel and accepts the level that they all show; `hw` is the hardwired
path, `us` the time it took to open its elements (SAF.REACT). Inputs are not evaluated in the setting position (R44). -/
def execSafetyInputAccept (hw : Bool) (n : Fin 16) (run : SiRun) (us : Nat) (s : State) : Out :=
  match s.runLevel n run with
  | none => .next s
  | some level =>
  if s.running || s.gstate == 5 then
    let k := n.val / 2
    if hw then
      let was := s.demand (s.get SAF_INPUTS_SI) k
      let t := s.putBit SAF_INPUTS_SI n level
      let t := t.trackFn k
      let t := when (s.fnType k == 7 && decide (n.val % 2 = 0)) (fun u => u.resetButton k level) t
      let t := forUpTo 8 (fun f u => when (decide (f = k) || decide (u.get (SAF_FN_CFG_LOCK_FN f) = k))
        (fun v => (v.trackFn f).evalFn 1 f) u) t
      let now_ := t.demand (t.get SAF_INPUTS_SI) k && !was
      let t := when now_ (fun u => { u with saf := { u.saf with fresh := natBit u.saf.fresh k true } }) t
      let t := when now_ (fun u => u.raiseTo SAF_REACT_HW_MAX us) t
      .next ((t.hwClose.fnHeal k).fnStatus.tryUnlock)
    else
      let t := { s with saf := { s.saf with laneSi := natBit s.saf.laneSi n level } }
      let now_ := t.demand t.saf.laneSi k && !s.demand s.saf.laneSi k
      .next (when now_ (fun u => { u with saf := { u.saf with
        fresh := natBit u.saf.fresh k true, demandBeat := s.now } }) t)
  else .next s

/-- Whether a fault of an input pair puts a function into FAULT that is not there on both paths: the function itself, or a GUARD_LOCK that
names the LOCKMON (R256, R259). -/
def State.canFault (s : State) (k : Nat) : Bool :=
  let good (f : Nat) : Bool := s.pathState 1 f != 3 || s.pathState 0 f != 3
  if s.fnType k = 6 then (List.range 8).any (fun f => s.fnType f == 4 && s.get (SAF_FN_CFG_LOCK_FN f) == k && good f)
  else s.fnReal k && good k

/-- DISCREPANCY_TIMEOUT (R256, R259): inconsistent for longer than DISCREP; a LOCKMON's inconsistency faults the
GUARD_LOCK functions that name it. -/
def execDiscrepancyTimeout (k : Fin 8) (s : State) : Out :=
  match (s.fn k).incons with
  | some b =>
    if b + 40 * s.get (SAF_FN_TIME_DISCREP k) < s.now ∧ s.canFault k ∧ !s.settingPos then
      let t := (s.set1 SAF_EVENTS_DISCREP).raise 0x7002 DEGRADE srcCase k 0
      .next (t.inputFault k 0x7002)
    else .next s
  | none => .next s

/-- TEST_PULSE (R257): a source's dark pulse, whether its readback was right, and the inputs (a mask) that did not read 0
in its last sample. The safety inputs are not evaluated in the setting position (R44). -/
def execTestPulse (st : Fin 4) (readback : Bool) (bad : Nat) (s : State) : Out :=
  if s.settingPos then .next s else
  let fed (k : Nat) : Bool := s.get (SAF_FN_CFG_ST1 k) == st.val || s.get (SAF_FN_CFG_ST2 k) == st.val
  let t := s.putBit SAF_INPUTS_ST_OK st readback
  let t := if readback then t
    else
      let t := ((t.set1 SAF_EVENTS_TEST_FAIL).inc SAF_COUNT_TEST_FAILS).raise 0x7004 DEGRADE srcCase st 0
      forUpTo 8 (fun k u => when (fed k) (fun v => v.inputFault k 0x7004) u) t
  .next (forUpTo 16 (fun i u =>
    if s.sourceOf i = st.val then
      let f := bad.testBit i
      let b := 3 * (i % 2)
      let u := u.updFn (i / 2) (fun x => { x with cond := natBit (natBit x.cond (b + 1) (!readback)) b f })
      if f then
        (((u.set1 SAF_EVENTS_TEST_FAIL).inc SAF_COUNT_TEST_FAILS).raise 0x7003 DEGRADE srcCase i 0).inputFault (i / 2) 0x7003
      else u
    else u) t)

/-- SAFETY_CYCLE (R252, R258, R263): the lane path evaluates every function every 40 beats, and what
the hardwired path waits for besides its inputs is seen too; resets act on both paths, a
demand accepted in the cycle wins (R269); the paths are compared. -/
def execSafetyCycle (s : State) : Out :=
  if s.running ∧ s.now % 40 = 0 then
    let t := forUpTo 8 (fun k u => ((u.trackFn k).evalFn 1 k).evalFn 0 k) s
    let t := when (decide (s.saf.demandBeat ≠ 0)) (fun u =>
      let v := u.raiseTo SAF_REACT_LANE_MAX ((s.now - s.saf.demandBeat) * 25)
      { v with saf := { v.saf with demandBeat := 0 } }) t
    let t := forUpTo 8 (fun k u =>
      when (s.saf.resets.testBit k && !s.saf.fresh.testBit k) (fun v =>
        let v := when (v.pathState 1 k == 1) (fun w => w.setPath 1 k 2) v
        when (v.pathState 0 k == 1) (fun w => w.setPath 0 k 2) v) u) t
    let t := { t with saf := { t.saf with resets := 0, fresh := 0 } }
    let t := forUpTo 8 (fun k u => u.fnHeal k) t
    let t := forUpTo 8 (fun k u =>
      let dif := u.fnReal k && u.pathState 0 k != u.pathState 1 k
      u.updFn k (fun f => { f with
        disagree := if dif then (if f.disagree.isSome then f.disagree else some s.now) else none
        cond := natBit f.cond 2 dif })) t
    .next (t.hwClose.fnStatus.tryUnlock)
  else .next s

/-- HW_PATH_COMPARE (R263): the two copies of the hardwired logic are compared every 50 µs. -/
def execHwPathCompare (agree : Bool) (s : State) : Out :=
  if agree then .next { (s.set1 SAF_STATUS_HW_OK) with saf := { s.saf with hwDiff := 0 } }
  else
    let t := { (s.clr SAF_STATUS_HW_OK) with saf := { s.saf with hwDiff := s.saf.hwDiff + 1 } }
    if s.saf.hwDiff + 1 = 2 then .next ((t.set1 SAF_EVENTS_PATH).raiseHold 0x700E srcCase 0 0) else .next t

/-- PATH_DISAGREE (R263): a function's two states differ for longer than FILTER + 2 ms. -/
def execPathDisagree (k : Fin 8) (s : State) : Out :=
  match (s.fn k).disagree with
  | some b =>
    if b + 4 * s.get (SAF_FN_TIME_FILTER k) + 80 < s.now ∧ s.pathState 0 k ≠ s.pathState 1 k then
      .next (((s.set1 SAF_EVENTS_PATH).raise 0x7009 DEGRADE srcCase k 0).fnFault k 0x7009)
    else .next s
  | none => .next s

/-- Whether the STOP1 delay of a pair has run out on a path (R260); in SAFE_HOLD the Case die's own clock times it. -/
def State.stop1Over (s : State) (hw : Bool) (p : Nat) : Bool :=
  (if hw then s.saf.stopH else s.saf.stopL).testBit p &&
    (!s.running || decide (nth (if hw then s.saf.stopHAt else s.saf.stopLAt) 0 p + 40 * s.get (SAF_PAIR_CFG_STOP1_MS p) ≤ s.now))

/-- STOP1_EXPIRY (R260): the delay of a MACHINE pair runs out on a path and its element opens. -/
def execStop1Expiry (p : Fin 12) (hw : Bool) (s : State) : Out :=
  if s.stop1Over hw p then
    let t := { s with saf := { s.saf with
      stopL := if hw then s.saf.stopL else natBit s.saf.stopL p false
      stopH := if hw then natBit s.saf.stopH p false else s.saf.stopH } }
    .next ((if hw then t.setElem 1 p false else t.dropL p).tryUnlock)
  else .next s

/-- LOCK_FAULT (R259): the lock reads locked while the door reads open for longer than DISCREP. -/
def execLockFault (k : Fin 8) (s : State) : Out :=
  match (s.fn k).lockOpen with
  | some b =>
    if s.fnType k = 4 ∧ b + 40 * s.get (SAF_FN_TIME_DISCREP k) < s.now ∧ s.canFault k ∧ !s.settingPos then
      .next ((s.raise 0x7008 DEGRADE srcCase k 0).fnFault k 0x7008)
    else .next s
  | none => .next s

/-- SO_OFF_PULSE (R261, R262): the 300 µs off-pulse of an energised output, or the watch over a de-energised one: whether
it read below 5 V, whether it was restored, and VAUX in mV. Nothing is judged below 18 V. -/
def execSoOffPulse (k : Fin 24) (low restored : Bool) (vauxMv : Nat) (s : State) : Out :=
  if s.settingPos then .next s
  else
    let on := (s.get SAF_OUTPUTS_SO).testBit k
    let t := when on (fun u => { u with saf := { u.saf with pulseH := natBit u.saf.pulseH k (!u.saf.pulseH.testBit k) } }) s
    if vauxMv < 18000 then .next t
    else if !low then .next (t.latchPair k 0x7005)
    else if on && !restored then .next (t.latchPair k 0x7006)
    else .next t

/-- SO_OVERLOAD (R262): more than 1.0 A (current in mA) for 200 µs. -/
def execSoOverload (k : Fin 24) (mA : Nat) (s : State) : Out :=
  if (s.get SAF_OUTPUTS_SO).testBit k ∧ 1000 < mA then .next (s.latchPair k 0x7006) else .next s

/-- A MACHINE pair that the lanes command energised while its element L is open. -/
def State.machineWaits (s : State) (p : Nat) : Bool :=
  s.running && s.get (SAF_PAIR_CFG_USE p) == 2 && s.laneMayClose p && !s.saf.stopL.testBit p && !s.saf.openL.testBit p && (s.saf.elemL &&& pairMask p) == 0

/-- Both AUX contacts of a pair. -/
def State.auxPair (s : State) (p : Nat) : Nat := s.get SAF_AUX_AUX &&& pairMask p

/-- A MACHINE pair at pallet 10 (R253, R262): no command or ball of the spec lets a machine ask for its pair, so it is asked for always (log
entry 155); with EDM it is energised only while its AUX inputs read 0; since when they disagree with its outputs. -/
def State.machineBeat (s : State) (p : Nat) : State :=
  if s.get (SAF_PAIR_CFG_USE p) ≠ 2 then s
  else
    let edm := s.isSet (SAF_PAIR_CFG_EDM p)
    let t := if s.machineWaits p && (!edm || s.auxPair p == 0) then s.setElem 0 p true else s
    let bad := edm && t.vauxJudges && t.auxPair p != (if t.pairOn p then pairMask p else 0)
    { t with saf := { t.saf with edm := upd t.saf.edm p (fun o =>
        if bad then (if o.isSome then o else some s.now) else none) } }

/-- EDM_TIMEOUT (R262): a MACHINE pair's AUX does not follow its output within 200 ms, or reads 1 before energising. Nothing is judged
while VAUX is below 18 V. -/
def execEdmTimeout (p : Fin 12) (s : State) : Out :=
  match nth s.saf.edm none p with
  | some b =>
    if s.vauxJudges ∧ s.get (SAF_PAIR_CFG_USE p) = 2 ∧ s.isSet (SAF_PAIR_CFG_EDM p) ∧
        (b + 8000 ≤ s.now ∨ (s.machineWaits p && s.auxPair p != 0)) then
      .next (s.latchPair (2 * p) 0x7007)
    else .next s
  | none => .next s

/-! ### The command set (R14) -/

/-- What the Case die applies at pallet 10 beside the outlets (R14, R253, R272): openings of element L since the last set, MACHINE pairs,
pilots, load channels. A pilot's command that is the owner's decision waits until the standby has it (R229). -/
def State.applySet (s : State) : State :=
  let t := forUpTo 12 (fun p u => when (s.saf.openL.testBit p) (fun v => v.setElem 0 p false) u) s
  let t := { t with saf := { t.saf with openL := 0 } }
  let t := forUpTo 12 (fun n u => u.applyPilot n) t
  let t := forUpTo 16 (fun k u => u.lcApply k) (forUpTo 12 (fun p u => u.machineBeat p) t)
  forUpTo 4 (fun j u => u.motorApply j) t

/-! ### Password, unlock and change log -/

/-- Append an entry to the safety change log (R267). -/
def State.safLog (s : State) (type actor world old new : Nat) (digest : Nat) : State :=
  let seq := (s.rdN A_SAF_LOG_HEAD + 1) % 2 ^ 32
  let e : SafLog :=
    { seq := seq, type := type, actor := actor, world := world, mono := s.mono,
      wall := if s.isSet LGL_CHRONO_WALL_VALID then s.wall else 0, oldVer := old, newVer := new, digest := digest }
  ({ s with saf := { s.saf with log := e :: s.saf.log.take 63 } }.wrN A_SAF_LOG_HEAD seq).set1 SAF_EVENTS_CHANGE

/-- The 64 bytes of a change-log entry (R267). -/
def SafLog.bytes (e : SafLog) : List Byte :=
  let h := le 4 e.seq ++ le 2 e.type ++ le 1 e.actor ++ le 1 e.world ++ le 8 e.mono ++ le 8 e.wall ++ le 4 e.oldVer ++
    le 4 e.newVer ++ le 16 e.digest ++ List.replicate 12 0#8
  h ++ le 4 (crc32 h)

/-- World number of a port in the change log (R267). -/
def State.worldNo (s : State) (port : Nat) : Nat := if s.inService port then 2 else 1

/-- Whether the safety unlock is open on a port (R266). -/
def State.unlockOn (s : State) (port : Nat) : Bool :=
  s.isSet CAL_STATUS_SAFETY_UNLOCK && s.get SAF_PWD_PORT == port + 1

/-- Close the safety unlock (R266). -/
def State.closeUnlock (s : State) (actor world : Nat) : State :=
  if s.isSet CAL_STATUS_SAFETY_UNLOCK then
    let t := ((s.clr CAL_STATUS_SAFETY_UNLOCK).put SAF_PWD_PORT 0).put SAF_PWD_UNLOCK_S 0
    (t.set1 SAF_EVENTS_UNLOCK).safLog 0x07 actor world (s.rdN A_CAL_VER_SAFETY) (s.rdN A_CAL_VER_SAFETY) 0
  else s

/-- A wrong password (R266): class A tamper, 0x700A; the third within 10 min locks SAF_UNLOCK for 15 min. -/
def State.wrongPassword (s : State) (port : Nat) : State :=
  let recent := (s.saf.fails.filter (fun m => decide (s.mono < m + 600))) ++ [s.mono]
  let t := ((s.tamperA 6).set1 SAF_EVENTS_PWD_FAIL).raise 0x700A NOTE s.srcOwner port 0
  let t := { t with saf := { t.saf with fails := recent } }
  let t := t.putSat SAF_PWD_FAILS recent.length
  if 3 ≤ recent.length then
    let t := { t with saf := { t.saf with lockEnd := s.mono + 900 } }
    ((t.set1 SAF_PWD_LOCKOUT).raise 0x700B NOTE t.srcOwner port 0).safLog 0x08 (port + 1) (s.worldNo port) (s.rdN A_CAL_VER_SAFETY)
      (s.rdN A_CAL_VER_SAFETY) 0
  else t

/-- Whether a password is well formed: 8 to 32 printable ASCII characters (R265). -/
def pwdOk (p : List Byte) : Bool :=
  decide (8 ≤ p.length) && decide (p.length ≤ 32) && p.all (fun b => decide (0x20 ≤ b.toNat) && decide (b.toNat ≤ 0x7E))

/-- HMAC-SHA-256 of a safety password under J_29 (R265, R379). -/
def State.pwdValue (s : State) (p : List Byte) : Nat := hmac (s.jewelVal 29) p

/-- SAFETY_UNLOCK_EXPIRY (R266): 30 min after it opened. -/
def execSafetyUnlockExpiry (s : State) : Out :=
  if s.isSet CAL_STATUS_SAFETY_UNLOCK ∧ s.saf.unlockEnd ≤ s.mono then .next (s.closeUnlock 0 0) else .next s

/-- PWD_LOCKOUT_EXPIRY (R266): 15 min after the lockout began. -/
def execPwdLockoutExpiry (s : State) : Out :=
  if s.isSet SAF_PWD_LOCKOUT ∧ s.saf.lockEnd ≤ s.mono then
    .next (({ s with saf := { s.saf with fails := [] } }.clr SAF_PWD_LOCKOUT).put SAF_PWD_FAILS 0)
  else .next s

/-- SAF_UNLOCK, 0x0801 (R266): J_29 forms the password's value, J_30 compares it (R379). -/
def execSafUnlock (mb : Fin 8) (s : State) : Out :=
  .next (s.command mb 0x0801 .runSetting false (fun c s =>
    if s.isSet SAF_PWD_LOCKOUT then s.reply c stREFUSED_AUTH 0
    else if !s.jewelOk 29 opHMAC s.appMaster (s.portWorld c.port) then (s.jewelRefused 29).reply c stREFUSED_AUTH 0xB001
    else if !s.pwdSet then s.reply c stREFUSED_AUTH 0
    else if !s.jewelOk 30 opCOMPARE s.appMaster (s.portWorld c.port) then (s.jewelRefused 30).reply c stREFUSED_AUTH 0xB001
    else if s.pwdValue (c.str 0) = s.jewelVal 30 then
          let t := (s.jewelUsed 29).jewelUsed 30
          let t := { t with saf := { t.saf with unlockEnd := s.mono + 1800 } }
          let t := ((t.set1 CAL_STATUS_SAFETY_UNLOCK).put SAF_PWD_PORT (c.port + 1)).put SAF_PWD_UNLOCK_S 1800
          let t := (t.set1 SAF_EVENTS_UNLOCK).safLog 0x06 (c.port + 1) (s.worldNo c.port)
            (s.rdN A_CAL_VER_SAFETY) (s.rdN A_CAL_VER_SAFETY) 0
          t.reply c stOK 0
    else (((s.jewelUsed 29).jewelUsed 30).wrongPassword c.port).reply c stREFUSED_AUTH 0x700A))

/-- SAF_LOCK, 0x0802 (R266). -/
def execSafLock (mb : Fin 8) (s : State) : Out :=
  .next (s.command mb 0x0802 .any false (fun c s => (s.closeUnlock (c.port + 1) (s.worldNo c.port)).reply c stOK 0))

/-- SAF_SET_PASSWORD, 0x0803 (R265): the value is kept in J_30 alone. The first from a port in SERVICE while none is set and with no old password; later
ones with the unlock open on the port and the present password. -/
def execSafSetPassword (mb : Fin 8) (s : State) : Out :=
  .next (s.command mb 0x0803 .any false (fun c s =>
    let old := c.str 0
    let new := c.str (c.strEnd 0)
    let set (type : Nat) (s : State) : State :=
      let v := s.pwdValue new
      let t := ((s.jewelUsed 29).jewelUsed 1).updKey (fun k => { k with mram := upd k.mram 30 (fun _ => some v) })
      let t := t.setJewel 30 (some v)
      let t := ((t.set1 SAF_PWD_SET).raise 0x700C NOTE t.srcOwner c.port 0).safLog type (c.port + 1) (s.worldNo c.port)
        (s.rdN A_CAL_VER_SAFETY) (s.rdN A_CAL_VER_SAFETY) 0
      t.reply c stOK 0
    if !s.pwdSet then
      if !s.inService c.port then s.reply c stREFUSED_AUTH 0
      else if !s.jewelOk 29 opHMAC s.appMaster (s.portWorld c.port) then (s.jewelRefused 29).reply c stREFUSED_AUTH 0xB001
      else if !pwdOk new || !old.isEmpty then s.reply c stBAD_ARG 0
      else set 0x04 s
    else
      if !s.unlockOn c.port then s.reply c stREFUSED_AUTH 0
      else if !s.jewelOk 29 opHMAC s.appMaster (s.portWorld c.port) then (s.jewelRefused 29).reply c stREFUSED_AUTH 0xB001
      else if !s.jewelOk 30 opCOMPARE s.appMaster (s.portWorld c.port) then (s.jewelRefused 30).reply c stREFUSED_AUTH 0xB001
      else if s.pwdValue old ≠ s.jewelVal 30 then (((s.jewelUsed 29).jewelUsed 30).wrongPassword c.port).reply c stREFUSED_AUTH 0x700A
      else if !pwdOk new then ((s.jewelUsed 29).jewelUsed 30).reply c stBAD_ARG 0
      else set 0x05 ((s.jewelUsed 29).jewelUsed 30)))

/-- SAF_RESET, 0x0804 (R258, R262, R269): functions [7:0], pair latches [23:12]. A named function that shows demand has
the command answered REFUSED_STATE. -/
def execSafReset (mb : Fin 8) (s : State) : Out :=
  .next (s.command mb 0x0804 .running false (fun c s =>
    let fmask := c.u32 0 % 256
    let pmask := (c.u32 0 / 2 ^ 12) % 2 ^ 12
    if (List.range 8).any (fun k => fmask.testBit k &&
        (s.demand (s.get SAF_INPUTS_SI) k || s.demand s.saf.laneSi k || s.saf.fresh.testBit k)) then
      s.reply c stREFUSED_STATE 0
    else
      let t := s.nameResets fmask
      let t := forUpTo 12 (fun p u => when (pmask.testBit p) (fun v =>
        { (v.put SAF_SO_FAULT_LATCH (clearMask (v.get SAF_SO_FAULT_LATCH) (pairMask p))) with
            saf := { v.saf with edm := upd v.saf.edm p (fun _ => none) } }) u) t
      t.hwClose.reply c stOK 0))

/-- SAF_GUARD, 0x0805 (R259): function, 0 LOCK or 1 UNLOCK. A LOCK ends an UNLOCK that still waits. -/
def execSafGuard (mb : Fin 8) (s : State) : Out :=
  .next (s.command mb 0x0805 .running false (fun c s =>
    let k := c.u32 0
    let op := c.u32 1
    if k ≥ 8 ∨ op > 1 then s.reply c stBAD_ARG 0
    else if s.fnType k ≠ 4 then s.reply c stBAD_ARG 0
    else if op = 1 ∧ s.saf.guard.isSome then s.reply c stBUSY 0
    else if op = 1 then
      let stop (path : Nat) (u : State) : State :=
        State.openMask (if u.pathState path k = 3 ∨ u.pathState path k = 0 then u else u.setPath path k 0) path k
      let t := (stop 0 (stop 1 s)).fnStatus
      let t := { t with saf := { t.saf with guard := some (k, { port := c.port, seq := c.seq }) } }
      t.tryUnlock
    else
      let lc := s.get (SAF_FN_TIME_LOCK_LC k)
      let t := when (decide (s.get (LCH_CFG_USE lc) = 2)) (fun u => u.lcCommand lc false) s
      let t := match t.saf.guard with
        | some g => if g.1 = k then t.dropUnlock else t
        | none => t
      t.reply c stOK 0))

/-- SAF_READ_LOG, 0x0806 (R267): first SEQ, count 1 to 64, Mainplate address. -/
def execSafReadLog (mb : Fin 8) (s : State) : Out :=
  .next (s.command mb 0x0806 .any false (fun c s =>
    let first := c.u32 0
    let cnt := c.u32 1
    let a := c.u32 2
    if cnt = 0 ∨ 64 < cnt ∨ !argRangeOk a (64 * cnt) then s.reply c stBAD_ARG 0
    else
      let bytes := (List.range cnt).flatMap (fun i =>
        match s.saf.log.find? (fun e => e.seq == first + i) with
        | some e => e.bytes
        | none => List.replicate 64 0#8)
      (s.laneWrite a bytes).reply c stOK 0))

end Sys2Proof.Machine
end

