-- ==== Sys2Proof/Machine/Takeover.lean ====
section
/-! DEFINITION. The completion of a takeover and what the new owner issues again (R239, R243). -/
namespace Sys2Proof.Machine

/-- What the new owner issues again (R243): the last SETPOINT of each target whose SEQ_ECHO it has not seen carries REISSUE (R182);
V2G segments not yet acknowledged go again with their places in the TCP stream (R171);
a swing before its commit compares again (R93); an ISO-DEP exchange goes on with R(NAK) (R300); replies and site-line messages go again (R349, R328). Commands of beats after A are
dequeued again with what they do done once, and their replies keep their sequence numbers (log entry 10). -/
def State.replay (s : State) : State :=
  let t := forUpTo 12 (fun n u => u.updO n (fun o =>
    { o with
      reissue := o.reissue || (!o.frame.isEmpty && (o.statusBeat.isNone || decide (o.seqEcho ≠ u.get (OUT_CAN_SEQ n))))
      link := { o.link with resent := o.link.segs } })) s
  let t := forUpTo 2 (fun j u => u.updConv j (fun c =>
    { c with reissue := c.reissue || (!c.frame.isEmpty && (c.statusBeat.isNone || decide (c.seqEcho ≠ c.seq))) })) t
  ((t.swingsRestart).siteReplay).isoReplay.replayHost

/-- A pulse that the late set of beat m places before its application at `ns` starts at that application (R242); residue and later edges
stay. The end of a pulse is held by the timer since an earlier beat. -/
def State.latePulses (s : State) (m ns : Nat) : State :=
  let at_ := (ns + 99) / 100
  forUpTo 4 (fun k u => u.updPulse k (fun p => { p with
    due := p.due.map (fun d => if (m + 1) * 250 ≤ d then max d at_ else d) })) s

/-- A command set of beat m that came too late for pallet 10 is applied at the completion, `ns` (R62, R240, R242). -/
def State.applyHeld (s : State) (m ns : Nat) : State :=
  match s.saf.heldL with
  | some v => ((State.showOutputs { s with saf := { s.saf with elemL := v, heldL := none } }).applySet).latePulses m ns
  | none => s

/-- TAKEOVER_COMPLETE (R239, R240, R243, R22): the Case die applies a command set of the new owner, `ns` after the
decision; later than 10 µs, or more than 40 µs after the last output update (R241), it counts no more. -/
def execTakeoverComplete (ns : Nat) (s : State) : Out :=
  match s.red.takeover with
  | some t =>
    if s.inRunning ∧ (10000 < ns ∨ s.red.lastUpdate + 40000 < s.nextUpdate t.beat (t.beat * 25000 + t.at_ + ns)) then
      .next (s.takeoverLate t)
    else if s.inRunning then
      let u := s.recordTakeover t ns
      let u := (u.set1 RED_EVENTS_TAKEOVER).setGstate 4 t.code
      let u := (u.updRed (fun r => { r with attempt := some s.now })).applyHeld t.beat (t.beat * 25000 + t.at_ + ns)
      .next (when u.laneAct State.actFail u.replay)
    else .next s
  | none => .next s

end Sys2Proof.Machine
end

