-- ==== Sys2Proof/Machine/Mirror.lean ====
section
/-! DEFINITION. The journal entry of a beat (10_lanes.md, R228 to R233): what it records, its CRCs, and what it releases. -/
namespace Sys2Proof.Machine

/-! ### Items that wait for their record (R229, R231) -/

/-- Give each item that has no record one, in order from ISEQ q: the items and their records. -/
def stampItems {α : Type} (fresh : α → Bool) (stamp : Nat → α → α × JRecord) : Nat → List α → List α × List JRecord
  | _, [] => ([], [])
  | q, x :: xs =>
    if fresh x then
      let y := stamp (q % 2 ^ 32) x
      let r := stampItems fresh stamp (q + 1) xs
      (y.1 :: r.1, y.2 :: r.2)
    else
      let r := stampItems fresh stamp q xs
      (x :: r.1, r.2)

/-- Records join those that wait for an entry. -/
def State.addRecords (s : State) (rs : List JRecord) : State :=
  s.updJnl (fun j => { j with recs := j.recs ++ rs, iseq := (j.iseq + rs.length) % 2 ^ 32 })

/-- REPLY of a held reply: the notice and the command's sequence number. -/
def Held.stamp (q : Nat) (h : Held) : Held × JRecord :=
  ({ h with iseq := some q },
   { type := jREPLY, key := h.notice.mbox, iseq := q, head := le 4 h.notice.lo ++ le 4 h.notice.hi ++ le 2 h.seq })

/-- What a segment carries, as a number. -/
def V2gKind.no : V2gKind → Nat
  | .response => 0
  | .refusal => 1
  | .sessionStop => 2
  | .noProtocol => 3

/-- V2G_TX of a segment of an outlet: its TCP sequence number, length and CRC-32, its bytes in bulk. -/
def V2gSeg.stamp (n : Nat) (q : Nat) (x : V2gSeg) : V2gSeg × JRecord :=
  let bs := Config.v2gSegment x.kind.no n x.seq x.ongoing x.notify
  ({ x with iseq := some q },
   { type := jV2G, key := n, iseq := q, head := le 4 x.seq ++ le 2 bs.length ++ le 4 (crc32 bs), data := bs, bulk := true })

/-- SITE_TX of a site-line message: its sequence number and the CRC of its payload. -/
def SitMsg.stamp (q : Nat) (m : SitMsg) : SitMsg × JRecord :=
  ({ m with iseq := some q },
   { type := jSITE, key := m.dst, iseq := q, head := le 2 m.mseq ++ le 4 (crc32 m.payload) })

/-- The replies, V2G segments and site-line messages decided since the last entry get their records. -/
def State.stampAll (s : State) : State :=
  let h := stampItems (fun x => x.iseq.isNone) Held.stamp s.red.jnl.iseq s.host.held
  let s := State.addRecords { s with host := { s.host with held := h.1 } } h.2
  let s := forUpTo 12 (fun n u =>
    let x := stampItems (fun y => y.iseq.isNone) (V2gSeg.stamp n) u.red.jnl.iseq (u.o n).link.segs
    (u.updLink n (fun l => { l with segs := x.1 })).addRecords x.2) s
  let m := stampItems (fun x => x.iseq.isNone) SitMsg.stamp s.red.jnl.iseq s.sit.outq
  (s.updSit (fun x => { x with outq := m.1 })).addRecords m.2

/-! ### What is journalled when it changes (R231) -/

/-- The payload of an MRAM_WR: record sequence number, address in its area, length, CRC-32. -/
def mramHead (seq at_ : Nat) (bs : List Byte) : List Byte := le 4 seq ++ le 4 at_ ++ le 4 bs.length ++ le 4 (crc32 bs)

/-- The bytes that stand for a full and a delta record under their CRC-32 (log entry 140). -/
def SaveRec.bytes (r : SaveRec) : List Byte := le 4 r.seq ++ r.values.flatMap (fun v => le 16 (twos 128 v)) ++ r.snaps.flatMap (le 16)
def DeltaRec.bytes (d : DeltaRec) : List Byte :=
  le 4 d.seq ++ le 8 d.beat ++ d.changes.flatMap (fun v => le 8 (twos 64 v)) ++ d.snaps.flatMap (le 16)

/-- CAN_TX: SEQ and CRC of the last SETPOINT of each target (R181). -/
def State.canWatch (s : State) : List (Nat × Nat × List Byte) :=
  let tx (f : List Byte) : List Byte := f.take 2 ++ f.drop 14
  (List.range 12).map (fun n => (jCAN, 2 * s.get (OUT_CFG_CAN n) + s.get (OUT_CFG_TGT n), tx (s.o n).frame)) ++
    (List.range 2).map (fun j => let t := (s.conv j).target.getD (0, 0); (jCAN, 2 * t.1 + t.2, tx (s.conv j).frame))

/-- MRAM_WR of a jewel's value in the MRAM key area (R373, R382). -/
def State.jewelWatch (s : State) (j : Nat) : Nat × Nat × List Byte :=
  (jMRAM, 0x40 + j, (nth s.key.mram none j).elim [] (fun v => mramHead 0 (64 * j) (le 32 v)))

/-- MRAM_WR: the newest record of each area: full saves, deltas, accounts, and the imported and generated jewels. -/
def State.mramWatch (s : State) : List (Nat × Nat × List Byte) :=
  let f := s.newestFull
  let d := s.mtr.deltas.getLast?.map (fun d => mramHead d.seq ((s.mtr.deltas.map DeltaRec.size).sum - d.size) d.bytes)
  [(jMRAM, 0, if f.seq = 0 then [] else mramHead f.seq (f.seq % 2 * f.bytes.length) f.bytes),
   (jMRAM, 1, d.getD [])] ++
    (List.range 16).map (fun a =>
      (jMRAM, 0x10 + a, (s.acct a).newest.elim [] (fun x => mramHead x.seq (x.seq % 2 * x.bytes.length) x.bytes))) ++
    ([8, 9, 12, 30, 31, 32] ++ (List.range 16).map (45 + ·)).map s.jewelWatch

/-- The entries of a log, newest first, that are newer than the last one noted, oldest first. -/
def newEntries {α : Type} (seq : α → Nat) (last : Option Nat) (l : List α) : List α :=
  match last with
  | some q => (l.takeWhile (fun e => seq e != q)).reverse
  | none => []

/-- MRAM_WR of every entry of the legal and of the fault log since the last entry of the journal (R231). -/
def State.logRecords (s : State) : List (Nat × Nat × List Byte) :=
  (newEntries LegalEntry.seq s.red.jnl.legalSeq s.lgl.log).map (fun e => (jMRAM, 2, mramHead e.seq (e.seq % 1024 * 32) e.bytes)) ++
    (newEntries FaultEntry.seq s.red.jnl.faultSeq s.flt.ring).map (fun e => (jMRAM, 3, mramHead e.seq (e.seq % 4096 * e.bytes.length) e.bytes))

/-- ALLOC: the allocations of the round computed last (R207). -/
def State.allocWatch (s : State) : Nat × Nat × List Byte :=
  let p := s.gov.pending.getD s.gov.last
  (jALLOC, p.round % 65536, p.items.flatMap (fun i => le 2 i.key ++ le 4 (twos 32 i.a)))

/-- EVENT: state of each session; pilot and contactor state, protocol, running timer, TCP number and TLS state of each outlet (R171). -/
def State.eventWatch (s : State) : List (Nat × Nat × List Byte) :=
  (List.range 128).map (fun k => (jEVENT, k, le 4 (s.sst k))) ++
    (List.range 12).map (fun n => (jEVENT, 0x100 + n, le 1 (s.get (OUT_STATE_PILOT_ST n)) ++ le 1 (s.get (OUT_CONTACT_CSTATE n)) ++
      le 1 (s.get (OUT_STATE_PROTO n)) ++ le 1 (s.o n).link.timer ++ le 4 (s.o n).link.tcpSeq ++
      le 1 (match s.sesOn n with | some k => s.get (SES_PROTO_TLS k) | none => 0) ++
      le 1 (((s.o n).link.tls.elim 0 (fun c => 1 + 8 * (if c.group = .x448 then 1 else 0) + 16 * (if c.sig = .ed448 then 1 else 0))) +
        (if (s.o n).link.tlsBeat.isSome then 2 else 0) + (if (s.o n).link.tlsAdmitted then 4 else 0))))

/-- OP_STEP: the step of each long operation: slot write, update, tag write, swing-ins (with the verdict of R87 step 4), session stops. -/
def State.stepWatch (s : State) : List (Nat × Nat × List Byte) :=
  [(jSTEP, 0, match s.cal.write with | some w => le 4 w.slot ++ le 4 w.seq | none => []),
   (jSTEP, 1, match s.fwu.act with | some a => le 4 a.comp ++ le 4 a.stage | none => []),
   (jSTEP, 2, match s.nfc.write with | some w => le 4 w.key ++ le 4 w.seq | none => []),
   (jSTEP, 3, s.sns.swings.flatMap (fun w => le 2 w.chan ++ le 1 w.spare ++ le 1 w.stage ++
      le 1 (if w.stage = 1 ∧ w.start + 4065 ≤ s.now then 1 else 0)))] ++
    (List.range 128).map (fun k =>
      (jSTEP, 0x10 + k, if s.sst k = STOPPING then le 4 (s.sx k).path ++ le 4 (if (s.sx k).committed then 1 else 0) else []))

/-- Everything that is journalled when it changes. -/
def State.journalled (s : State) : List (Nat × Nat × List Byte) :=
  s.canWatch ++ s.mramWatch ++ [s.allocWatch] ++ s.eventWatch ++ s.stepWatch

/-- The items of a list that differ from those at their places in an older one; the first look finds none. -/
def changedItems : List (Nat × Nat × List Byte) → List (Nat × Nat × List Byte) → List (Nat × Nat × List Byte)
  | x :: xs, y :: ys => if x = y then changedItems xs ys else y :: changedItems xs ys
  | _, _ => []

/-- The records of what has changed since the last entry. -/
def State.recordChanges (s : State) : State :=
  let w := s.journalled
  let c := changedItems s.red.jnl.seen w ++ s.logRecords
  let rs := c.mapIdx (fun i x =>
    ({ type := x.1, key := x.2.1, iseq := (s.red.jnl.iseq + i) % 2 ^ 32, head := [], data := x.2.2 } : JRecord))
  (s.addRecords rs).updJnl (fun j => { j with
    seen := w
    legalSeq := some ((s.lgl.log.head?.map LegalEntry.seq).getD 0)
    faultSeq := some ((s.flt.ring.head?.map FaultEntry.seq).getD 0) })

/-- All that the owner has decided since the last entry stands in records. -/
def State.collect (s : State) : State := s.stampAll.recordChanges

/-! ### The four CRCs (R230, R233) -/

/-- The bytes of a command set: element L by output, drive and duty of each pilot, a bit per load channel (log entry 140). -/
def CmdSet.bytes (x : CmdSet) : List Byte := le 3 x.elemL ++ x.pilots.flatMap (fun p => le 1 p.1 ++ le 2 p.2) ++ le 2 x.lc

/-- The increments of the 32 meters in the beat. -/
def State.incBytes (s : State) : List Byte := s.mtr.m.flatMap (fun x => x.last.flatMap (fun v => le 16 (twos 128 v)))

/-- The legal totals and the tariff registers. -/
def State.totBytes (s : State) : List Byte :=
  (List.range 352).flatMap (fun i => le 16 (s.rd128 (A_MTR_M_TOTAL (i / 11) (i % 11)))) ++
    s.lgl.treg.flatMap (fun r => le 2 r.1 ++ le 16 r.2)

/-- The state of sessions, outlets and placement. -/
def State.sesBytes (s : State) : List Byte :=
  (s.allocWatch :: s.eventWatch).flatMap (fun x => le 2 x.2.1 ++ x.2.2)

/-- The CRCs of the beat (R230). -/
def State.beatCrcs (s : State) : BeatCrcs :=
  { cmd := BitVec.ofNat 32 (crc32 s.setOf.bytes), inc := BitVec.ofNat 32 (crc32 s.incBytes)
    tot := BitVec.ofNat 32 (crc32 s.totBytes), ses := BitVec.ofNat 32 (crc32 s.sesBytes) }

/-! ### The entry (R230, R232) -/

/-- Whether entries are kept for the other lane: from the copy of the owner's state on (R246). -/
def State.otherListens (s : State) : Bool := let st := s.laneState (other s.owner); decide (2 ≤ st) && decide (st ≤ 6)

/-- The entry of a beat, as far as it holds the records that wait; the first one to a lane in state 2 carries SNAPSHOT (R246). -/
def State.formEntry (s : State) (hand : Bool) : JEntry :=
  { jseq := (s.red.jseq + 1) % 2 ^ 32
    beat := s.now
    handover := hand
    snapshot := s.laneState (other s.owner) == 2 && s.red.jnl.stbSeq.isNone
    crcs := s.beatCrcs
    got := !s.isSet RED_STATUS_PATH_M
    records := (fitRecords entryRoom beatBulk s.red.jnl.recs).1 }

/-- The standby receives an entry: a SNAPSHOT brings the owner's state as of its beat, others their records (R232, R246). -/
def JnlSt.receive (j : JnlSt) (e : JEntry) (ram : List Host.Cell) (set : CmdSet) : JnlSt :=
  let j := if e.snapshot then { j.copy ram set with inbox := [] } else { j with inbox := j.inbox ++ e.records }
  { j with stbSeq := some e.jseq, crcs := some (e.beat, e.crcs) }

/-- The entry of the beat (R230): JSEQ counts on in every beat, HANDOVER at a quiet beat while a swap is wanted (R249); the owner keeps the
entry until it is acknowledged (R232), and sends what a path-M fault kept from the standby once that path is back (R235). The other lane's command
set, formed from the same beat, becomes the shadow set (R228). With no other lane to take it nothing is kept. -/
def State.journalEntry (s : State) (hand : Bool) : State :=
  let s := s.collect.ageDay
  if !s.otherListens then (s.updRed (fun r => { r with jseq := (r.jseq + 1) % 2 ^ 32 })).updJnl (fun j => { j with recs := [] })
  else
    let h := hand && s.swapWanted
    let e := s.formEntry h
    let t := s.updRed (fun r => { r with
      jseq := e.jseq
      unacked := (if e.got then r.unacked.map (fun x => { x with got := true }) else r.unacked) ++ [e]
      handover := if h then 1 else 0
      stall := r.stall + 1 })
    let t := t.updJnl (fun j => { j with recs := (fitRecords entryRoom beatBulk j.recs).2, shadow := some s.setOf })
    let t := when e.got (fun u => u.updJnl (fun j =>
      (s.red.unacked.filter (fun x => !x.got) ++ [e]).foldl (fun i x => i.receive x s.ram s.setOf) j)) t
    let n := t.red.unacked.length
    (t.putSat RED_JOURNAL_NOW n).raiseTo RED_JOURNAL_MAX n

/-- Add the records that wait to an entry, as far as it holds them. -/
def JEntry.extend (e : JEntry) (rs : List JRecord) : JEntry :=
  { e with records := e.records ++ (fitRecords (entryRoom - recRoom e.records) (beatBulk - bulkRoom e.records) rs).1 }

/-- Decisions that commands took in the last beat after its entry was formed stand in that entry while it is not acknowledged (log entry
140); what the standby has received is applied before its work of the new beat (R232). -/
def State.closeEntry (s : State) : State :=
  let s := s.collect
  match s.red.unacked.getLast? with
  | some e =>
    if e.beat + 1 = s.now then
      let x := e.extend s.red.jnl.recs
      let late := x.records.drop e.records.length
      let t := s.updRed (fun r => { r with unacked := r.unacked.dropLast ++ [x] })
      (t.updJnl (fun j => { j with recs := j.recs.drop late.length, inbox := if e.got then j.inbox ++ late else j.inbox })).applyEntries
    else s.applyEntries
  | none => s.applyEntries

/-- The V2G segments and SLAC answers whose records the standby has leave for their vehicles (R229). -/
def State.sendSegs (s : State) : State :=
  forUpTo 12 (fun n u => u.updLink n (fun l => { l with
    slacOut := match l.slacWait with | some w => if u.mayLeave (some w.2) then some w.1 else l.slacOut | none => l.slacOut
    slacWait := l.slacWait.filter (fun w => !u.mayLeave (some w.2))
    segs := l.segs.map (fun x => { x with out := x.out || (x.iseq.isSome && u.mayLeave x.iseq) }) })) s

end Sys2Proof.Machine
end

