-- ==== Sys2Proof/Machine/CalMap.lean ====
section
/-! DEFINITION. The registers that a calibre image sets (reset column "cal" of the chapters), by the field groups of R47
(02_calibre.md). IMPORT_EFF, the local offset, LOWEST_CLOCK and SNS.IB_CLK.EN are not listed: the Obrik computes them. The last three rows
are stored values that begin at the image's (R94, TOK.ACCT_LOW_a, TOK.ACCT_MAX_a). -/
namespace Sys2Proof.Machine

def calRows : List CalRow := [
  ⟨0x4010, 4, 1, 4, 1, 0xff0000, 31, false⟩,
  ⟨0x3800c, 4, 1, 4, 1, 0xffffffff, 1, false⟩,
  ⟨0x38010, 4, 1, 4, 1, 0xffffffff, 31, false⟩,
  ⟨0x38018, 4, 1, 4, 1, 0xffff, 31, false⟩,
  ⟨0x8010, 4, 1, 4, 1, 0xffffff07, 31, false⟩,
  ⟨0x8020, 4, 1, 4, 1, 0xffffffff, 31, false⟩,
  ⟨0x8400, 16, 128, 4, 1, 0xf800003f, 31, false⟩,
  ⟨0x10200, 1024, 32, 4, 1, 0xffffffff, 32, true⟩,
  ⟨0x1020c, 1024, 32, 4, 1, 0xffffffff, 32, true⟩,
  ⟨0x18000, 4, 1, 4, 1, 0x30000, 31, false⟩,
  ⟨0x18008, 4, 1, 4, 1, 0xffffff00, 31, false⟩,
  ⟨0x18020, 8, 4, 4, 1, 0xffc1ffff, 2, false⟩,
  ⟨0x18024, 8, 4, 4, 1, 0xffc00000, 2, false⟩,
  ⟨0x20050, 4, 1, 4, 1, 0xffff, 0, false⟩,
  ⟨0x20054, 4, 1, 4, 1, 0xffff00ff, 0, false⟩,
  ⟨0x24000, 4, 1, 4, 1, 0xffffffff, 31, false⟩,
  ⟨0x24100, 64, 16, 4, 1, 0xf8000fff, 31, false⟩,
  ⟨0x28000, 1024, 12, 4, 1, 0xffe00000, 31, false⟩,
  ⟨0x28000, 1024, 12, 4, 1, 0xffff, 1, false⟩,
  ⟨0x28014, 1024, 12, 4, 1, 0xffff, 1, false⟩,
  ⟨0x28024, 1024, 12, 4, 1, 0x3f, 31, false⟩,
  ⟨0x28100, 1024, 12, 4, 1, 0xffffff0f, 8, true⟩,
  ⟨0x28128, 1024, 12, 4, 1, 0xffffffff, 8, true⟩,
  ⟨0x2812c, 1024, 12, 4, 1, 0xffffffff, 8, true⟩,
  ⟨0x28130, 1024, 12, 4, 1, 0xffffffff, 8, true⟩,
  ⟨0x28138, 1024, 12, 4, 1, 0xf0000000, 8, true⟩,
  ⟨0x28140, 1024, 12, 4, 8, 0xffffffff, 8, true⟩,
  ⟨0x28160, 1024, 12, 4, 8, 0xffffffff, 8, true⟩,
  ⟨0x38100, 4, 1, 4, 1, 0xfc00ffff, 1, false⟩,
  ⟨0x38104, 4, 1, 4, 1, 0xffffffff, 1, false⟩,
  ⟨0x3810c, 4, 1, 4, 1, 0xffffffff, 1, false⟩,
  ⟨0x38110, 4, 1, 4, 1, 0xffffffff, 1, false⟩,
  ⟨0x38114, 4, 1, 4, 1, 0xffffffff, 1, false⟩,
  ⟨0x38118, 4, 1, 4, 1, 0xffffffff, 1, false⟩,
  ⟨0x3811c, 4, 1, 4, 1, 0xffffffff, 1, false⟩,
  ⟨0x38128, 4, 1, 4, 1, 0xffff, 1, false⟩,
  ⟨0x38200, 4, 1, 4, 1, 0xff00, 1, false⟩,
  ⟨0x3a040, 4, 1, 4, 1, 0xffff, 31, false⟩,
  ⟨0x3b100, 8, 8, 4, 1, 0xffffcfff, 4, false⟩,
  ⟨0x3b104, 8, 8, 4, 1, 0xfffff0ff, 4, false⟩,
  ⟨0x3b200, 4, 12, 4, 1, 0xe000ffff, 4, false⟩,
  ⟨0x3c100, 32, 16, 4, 1, 0xffffffff, 5, false⟩,
  ⟨0x3c104, 32, 16, 4, 1, 0xffffffff, 5, false⟩,
  ⟨0x3c108, 32, 16, 4, 1, 0xffffffff, 5, false⟩,
  ⟨0x3c10c, 32, 16, 4, 1, 0xffffffff, 5, false⟩,
  ⟨0x3c400, 16, 4, 4, 1, 0xffffffff, 5, false⟩,
  ⟨0x3d000, 4, 1, 4, 1, 0xfffffff8, 6, false⟩,
  ⟨0x3d008, 4, 1, 4, 1, 0xffff00ff, 6, false⟩,
  ⟨0x3e000, 4, 1, 4, 1, 0xffff0300, 31, false⟩,
  ⟨0x3f000, 4, 1, 4, 1, 0xfbffffff, 7, false⟩,
  ⟨0x3f004, 4, 1, 4, 1, 0xffffffff, 7, false⟩,
  ⟨0x1020, 4, 1, 4, 1, 0x8000ffff, 31, false⟩,
  ⟨0x4000c, 4, 1, 4, 1, 0xffff, 31, false⟩,
  ⟨0x44014, 4, 1, 4, 1, 0xffffffff, 31, false⟩,
  ⟨0x5020, 4, 1, 4, 1, 0xffff00ff, 31, false⟩,
  ⟨0x840c, 16, 128, 4, 1, 0xffffffff, 31, false⟩,
  ⟨0x24120, 64, 16, 4, 1, 0xffffffff, 31, false⟩,
  ⟨0x24124, 64, 16, 4, 1, 0xffffffff, 31, false⟩
]

end Sys2Proof.Machine
end

