-- ==== Sys2Proof/Machine/Calibre.lean ====
section
/-! DEFINITION. The calibre image of 02_calibre.md: judging it, writing and committing slots, live and staged changes, restarts of
units. -/
namespace Sys2Proof.Machine

def State.updCal (s : State) (f : CalSt → CalSt) : State := { s with cal := f s.cal }

/-! ### Field groups (R47) -/

/-- The addresses, bits and groups of a row. -/
def CalRow.words (r : CalRow) : List (Nat × Nat × Nat) :=
  (List.range r.n1).flatMap (fun i => (List.range r.n2).map (fun j =>
    (r.base + i * r.s1 + j * r.s2, r.mask, if r.per then r.group + i else r.group)))

/-- The words of a group: address and bits. -/
def groupWords (g : Nat) : List (Nat × Nat) :=
  (calRows.filter (fun r => if r.per then decide (r.group ≤ g) && decide (g < r.group + r.n1) else r.group == g)).flatMap
    (fun r => (r.words.filter (fun w => w.2.2 == g)).map (fun w => (w.1, w.2.1)))

/-- Groups of a change: 0 live, 1 live at the next placement round, 2 PULSE, 4 SAFETY, 5 LOADCH, 6 BEZEL, 7 SITE, 8 to 19 OUTLET_n, 31 MODULE, 32 to 63 METER. -/
def calGroups : List Nat := [0, 1, 2, 4, 5, 6, 7] ++ (List.range 12).map (fun n => 8 + n) ++ [31] ++ (List.range 32).map (fun m => 32 + m)

/-- The channel map that an image gives: SRC, GAIN and INPUT of each channel. -/
def ImgCfg.chanMap (c : ImgCfg) : List Nat := (List.range 128).map (fun n => c.val (A_SNS_CH_MAP n) &&& 0xF800003F)

/-- A configuration with the registers of a group taken from another, each with its word, so that no default stands in for it. -/
def ImgCfg.takeRegs (c d : ImgCfg) (g : Nat) : ImgCfg :=
  { c with regs := (groupWords g).foldl (fun l w =>
      let v := (c.val w.1 &&& (0xFFFFFFFF ^^^ w.2)) ||| (d.val w.1 &&& w.2)
      kvInsert (v + 1) w.1 v l) c.regs }

/-- Whether a group is the definition of a meter that the LEGAL section marks legal (R100): that section never changes (R32), and no
change of the OPERATOR section redefines the meter. -/
def ImgCfg.sealed (c : ImgCfg) (g : Nat) : Bool := decide (32 ≤ g) && c.fld (MTR_M_CFG_LEGAL (g - 32)) == 1

/-- A configuration whose legal part is another's (R100, R104, R137): every meter that the LEGAL section marks legal with the scales, the
directions and the correction tables of its channels and its number of tariff registers, the band thresholds where it marks any. No other
meter is legal. -/
def ImgCfg.withLegal (c d : ImgCfg) : ImgCfg :=
  let ms := (List.range 32).filter (fun m => d.fld (MTR_M_CFG_LEGAL m) == 1)
  let chs := ms.flatMap (fun m => let k := nth d.meters {} m; k.vCh ++ k.iCh ++ k.nCh.toList)
  let unmark (e : ImgCfg) (m : Nat) : ImgCfg :=
    if e.fld (MTR_M_CFG_LEGAL m) = 0 then e
    else
      let v := e.val (A_MTR_M_CFG m) - 2 ^ (MTR_M_CFG_LEGAL m).lo
      { e with regs := kvInsert (v + 1) (A_MTR_M_CFG m) v e.regs }
  let e := (List.range 32).foldl (fun e m => if ms.contains m then e.takeRegs d (32 + m) else unmark e m) c
  { e with
    regs := if ms.isEmpty then e.regs else kvInsert (d.val A_MTR_BAND + 1) A_MTR_BAND (d.val A_MTR_BAND) e.regs
    meters := e.meters.mapIdx (fun m k => if ms.contains m then nth d.meters {} m else k)
    nRegs := e.nRegs.mapIdx (fun m k => if ms.contains m then nth d.nRegs 1 m else k)
    chans := e.chans.mapIdx (fun n k => if chs.contains n then nth d.chans {} n else k) }

/-- A configuration with a whole group taken from another. -/
def ImgCfg.take (c d : ImgCfg) (g : Nat) : ImgCfg :=
  let e := c.takeRegs d g
  if c.sealed g then c
  else if g = 0 then { e with progs := d.progs, meterProg := d.meterProg, nRegs := d.nRegs }
  else if g = 1 then { e with failsafe := d.failsafe }
  else if g = 6 then
    { e with bzlMeter := d.bzlMeter, bzlQty := d.bzlQty, bzlUnit := d.bzlUnit, legalMin := d.legalMin, freshSeg := d.freshSeg }
  else if g = 31 then
    { e with chans := d.chans, ksOutlet := d.ksOutlet, offsetStep := d.offsetStep, invert := d.invert, un := d.un, instKeys := d.instKeys,
             conv := d.conv, can := d.can, plan := d.plan, user := d.user, tagEn := d.tagEn, magLim := d.magLim, pins := d.pins,
             domains := d.domains, clocks := d.clocks, comps := d.comps }
  else if 8 ≤ g ∧ g < 20 then { e with outlets := upd e.outlets (g - 8) (fun _ => nth d.outlets {} (g - 8)) }
  else if 32 ≤ g then { e with meters := upd e.meters (g - 32) (fun _ => nth d.meters {} (g - 32)) }
  else e

/-- Whether two configurations agree in a group. -/
def ImgCfg.same (c d : ImgCfg) (g : Nat) : Bool := c.take d g == c

/-- The registers of a group take the values of the configuration in force. -/
def State.showGroup (s : State) (g : Nat) : State :=
  forEach (groupWords g) (fun w u =>
    u.wrN w.1 ((u.rdN w.1 &&& (0xFFFFFFFF ^^^ w.2)) ||| (s.cal.force.val w.1 &&& w.2))) s

/-- The OFDM level that R441 allows at the line side, in dBµV. -/
def bandA : Nat := 120

/-- What the group of a meter sets beside registers; also START_OK (R114). -/
def State.typedMeter (s : State) (m : Nat) : State :=
  let c := s.cal.force
  let k := nth c.meters {} m
  let t := s.updMet m (fun y => { y with vCh := k.vCh, iCh := k.iCh, nCh := k.nCh, rCab := k.rCab, vPeak := k.vPeak })
  let cur := k.iCh ++ k.nCh.toList
  let dual (n : Nat) : Bool := t.chSrc n == 2
  let start := if cur.all dual then 50 else 100
  let t := t.putB (MTR_M_CFG_START_OK m) (t.mKind m != 0 && decide (t.get (MTR_M_LIMITS_CREEP m) < start))
  when (t.mKind m != 0 && !t.isSet (MTR_M_CFG_START_OK m)) (fun u => u.raise 0x4009 NOTE u.srcOwner m 0) t

/-- What a group sets beside registers; of the site line the cap on OFDM_LEVEL (R321). -/
def State.typedGroup (s : State) (g : Nat) : State :=
  let c := s.cal.force
  if g = 0 then
    ((s.updLgl (fun x => { x with progs := c.progs, meterProg := c.meterProg, nRegs := c.nRegs })).startProgs s.lgl.progs).newGrid
      (s.localProg.offset s.wall)
  else if g = 1 then s.updGov (fun x => { x with failsafe := c.failsafe })
  else if g = 6 then
    s.updBzl (fun b => { b with meter := c.bzlMeter, qty := c.bzlQty, unit := c.bzlUnit, legalMin := c.legalMin, freshSeg := c.freshSeg })
  else if g = 31 then
    let t := forUpTo 128 (fun n u => u.updChn n (fun h =>
      let k := nth c.chans {} n
      { h with scale := k.scale, neg := k.neg, bands := k.bands })) s
    let t := forUpTo 128 (fun n u => when (u.chSrc n != 0) (fun v => v.renewSegment n) u) t
    let t := t.updSns (fun x => { x with ksOutlet := c.ksOutlet, offsetStep := c.offsetStep, invert := c.invert })
    let t := t.updGov (fun x => { x with un := c.un, conv := x.conv.mapIdx (fun j v => { v with target := nth c.conv none j }) })
    let t := { t with outs := { t.outs with can := c.can } }
    let t := (t.updEsc (fun e => { e with plan := c.plan })).updKey (fun k => { k with user := c.user })
    t.updLgl (fun x => { x with magLim := c.magLim })
  else if g = 7 then s.put SIT_TX_CFG_OFDM_LEVEL (min bandA (s.get SIT_TX_CFG_OFDM_LEVEL))
  else if 8 ≤ g ∧ g < 20 then s.updO (g - 8) (fun o => { o with cfg := nth c.outlets {} (g - 8) })
  else if 32 ≤ g then s.typedMeter (g - 32)
  else s

/-- AGE_K in force: the image's value raised by what R406 added. -/
def State.showAgeK (s : State) : State := s.put BZL_AGE_AGE_K (min 255 (s.cal.force.fld BZL_AGE_AGE_K + s.bzl.ageAdd))

/-- Stored values that stand before the image's: LOW and MAX set by a token (TOK.ACCT_LOW_a, TOK.ACCT_MAX_a), and while the channel map
is unchanged the tracked offset of a bitstream channel with an outlet (R94, R95). Only bitstream channels have an offset. -/
def State.keepStored (old s : State) : State :=
  let t := forUpTo 16 (fun a u =>
    let u := when (s.acct a).lowTok (fun v => v.wr (A_TOK_ACCT_LOW a) (old.rd (A_TOK_ACCT_LOW a))) u
    when (s.acct a).maxTok (fun v => v.wr (A_TOK_ACCT_MAX a) (old.rd (A_TOK_ACCT_MAX a))) u) s
  forUpTo 128 (fun n u =>
    if u.chSrc n ≠ 3 then u.put (SNS_CH_TRIM_OFFSET n) 0
    else when (decide (u.cal.force.chanMap = u.cal.map) && (nth u.cal.force.ksOutlet none n).isSome)
      (fun v => v.put (SNS_CH_TRIM_OFFSET n) (old.get (SNS_CH_TRIM_OFFSET n))) u) t

/-- A group of the running image comes into force. -/
def State.applyGroup (s : State) (g : Nat) : State :=
  let t := s.updCal (fun c => { c with force := c.force.take c.run.cfg g })
  let t := (t.showGroup g).typedGroup g
  if g = 1 then t.put GOV_PL_LIMIT_EFF_IMPORT_EFF t.importEff
  else if g = 6 then t.showAgeK
  else if g = 31 then (State.keepStored s t).showIntervals
  else t

/-- The SAFETY section of the running image is the one last run (R33). -/
def State.safetyRan (s : State) : State :=
  { s with saf := { s.saf with lastVer := s.rdN A_CAL_VER_SAFETY, lastDigest := some (nth s.cal.run.secs 0 1) } }

/-! ### Judging an image (R37) -/

/-- VERSION of a section (0 LEGAL to 3 INSTALLER), LOWEST_CLOCK, LEGAL_FW_ID, LENGTH in an image's header (R34). A LOWEST_CLOCK above 2,
to which R34 gives no meaning, is read as 2 (DESIGN CHOICE, log entry 133). -/
def Image.ver (i : Image) (k : Nat) : Nat := fieldAt i.header (0x5C + 16 * k) 4
def Image.lowest (i : Image) : Nat := min 2 (fieldAt i.header 0x10 4)
def Image.fwId (i : Image) : Nat := fieldAt i.header 0x4C 4
def Image.length (i : Image) : Nat := fieldAt i.header 0x0C 4

/-- OFFSET, LENGTH, KEY_INDEX of a section's directory entry (R34). LENGTH counts the section as stored (log entry 154). -/
def Image.offset (i : Image) (k : Nat) : Nat := fieldAt i.header (0x50 + 16 * k) 4
def Image.secLength (i : Image) (k : Nat) : Nat := fieldAt i.header (0x54 + 16 * k) 4
def Image.keyIndex (i : Image) (k : Nat) : Nat := fieldAt i.header (0x59 + 16 * k) 1

/-- The directory entry names bytes of the image, behind the header. -/
def Image.sectionIn (i : Image) (k : Nat) : Bool := decide (0x100 ≤ i.offset k) && decide (i.offset k + i.secLength k ≤ i.length)

/-- What a stored section opens to under J_4 (R34): 12-byte nonce, 4 reserved bytes, ciphertext of body and signature, 16-byte tag. -/
def State.openStored (s : State) (m : List Byte) : Option (List Byte) :=
  (gcmOpen (s.jewelVal 4) (m.take 12) (m.drop 16)).map toBytes

/-- The SHA-384 digest of a section's body, before its 96-byte signature (R32). -/
def bodyDigest (p : Option (List Byte)) : Nat :=
  match p with
  | some m => beNum (sha384 (fromBytes (m.take (m.length - 96))))
  | none => 0

/-- What a section's signature covers (R34): PART, TYPE, VERSION and LENGTH, then the plaintext body. -/
def Image.covered (i : Image) (k : Nat) (body : List Byte) : List Byte :=
  let d := i.header.drop (0x50 + 16 * k)
  (i.header.drop 6).take 2 ++ (d.drop 8).take 1 ++ (d.drop 12).take 4 ++ (d.drop 4).take 4 ++ body

/-- The keys under which a section's signature may be valid (R32): the Novbel legal key; the operator key, J_9, where the store performs
VERIFY (R379); the installer key that KEY_INDEX names among those of an OPERATOR section. -/
def State.sectionKeys (s : State) (i : Image) (inst : List (List Nat)) (k : Nat) : List (List Nat) :=
  if k = 0 then [s.key.romLegal]
  else if k = 3 then ((inst.drop (i.keyIndex 3)).take 1)
  else if s.jewelOk 9 opVERIFY s.appMaster 1 then [leBytes 96 (s.jewelVal 9)] else []

/-- Whether an opened section's signature is valid under one of the keys (R34). -/
def Image.signedBy (i : Image) (k : Nat) (keys : List (List Nat)) : Bool :=
  match nth i.plain none k with
  | none => false
  | some m =>
    let n := m.length - 96
    decide (96 ≤ m.length) && keys.any (fun q => signed384 q (i.covered k (m.take n)) (m.drop n))

/-- Whether a section decrypts under the calibre jewel J_4 and its signature is valid (R37 step 3, R379): the key store performs the
decryption, the directory names a section of the image, and tag and signature are good. `inst` holds the installer keys. -/
def State.sectionOpens (s : State) (i : Image) (inst : List (List Nat)) (k : Nat) : Bool :=
  s.jewelOk 4 opAES_DEC s.appMaster 1 && i.sectionIn k && i.signedBy k (s.sectionKeys i inst k)

/-- What the examination of an image asks of the key store (R37 step 3, R377): J_4 for each section, J_9 for the two that the operator signs. -/
def State.imageOps (s : State) (i : Image) : State :=
  let t := forUpTo 4 (fun k u => when (i.sectionIn k) (fun v => v.storeOp 4 opAES_DEC v.appMaster 1) u) s
  forUpTo 2 (fun _ u => u.storeOp 9 opVERIFY u.appMaster 1) t

/-- Step 2 of R37: MAGIC, FORMAT, PART, HEADER_CRC and LENGTH. -/
def Image.headerOk (i : Image) : Bool :=
  fieldAt i.header 0 4 == 0x424C4143 && fieldAt i.header 4 2 == 3 && fieldAt i.header 6 2 == 0x8200 &&
    fieldAt i.header 0xFC 4 == crc32 (padTo 0xFC i.header) && i.length % 16 == 0 && decide (0x100 ≤ i.length) &&
    decide (i.length ≤ 0x200000)

/-- Whether no number stands twice in a list. -/
def allDifferent : List Nat → Bool
  | [] => true
  | x :: t => !t.contains x && allDifferent t

/-- Modulators that the image names for the channels, or none where one lacks its own (R78). -/
def ImgCfg.mods (c : ImgCfg) : List Nat :=
  (List.range 128).flatMap (fun n =>
    let src := c.fld (SNS_CH_MAP_SRC n)
    if src = 1 then [c.fld (SNS_CH_MAP_MOD_A n)]
    else if src = 2 then [c.fld (SNS_CH_MAP_MOD_A n), c.fld (SNS_CH_MAP_MOD_B n)] else [])

/-- Bitstream inputs that the channels use. -/
def ImgCfg.inputs (c : ImgCfg) : List Nat :=
  ((List.range 128).filter (fun n => c.fld (SNS_CH_MAP_SRC n) == 3)).map (fun n => c.fld (SNS_CH_MAP_INPUT n))

/-- Channels that a used meter names. -/
def ImgCfg.meterChans (c : ImgCfg) : List Nat :=
  (List.range 32).flatMap (fun m =>
    let k := nth c.meters {} m
    if c.fld (MTR_M_CFG_KIND m) = 0 then [] else c.fld (MTR_M_CFG_REF_CH m) :: k.vCh ++ k.iCh ++ k.nCh.toList)

/-- The limits of 11_safety.md on a function (R255 to R258). -/
def ImgCfg.fnOk (c : ImgCfg) (k : Nat) : Bool :=
  let ty := c.fld (SAF_FN_CFG_TYPE k)
  let fl := c.fld (SAF_FN_TIME_FILTER k)
  let dc := c.fld (SAF_FN_TIME_DISCREP k)
  let a := c.fld (SAF_FN_CFG_ST1 k)
  let b := c.fld (SAF_FN_CFG_ST2 k)
  ty == 0 || (!(ty == 1 || ty == 2) || c.fld (SAF_FN_CFG_RESET_MAN k) == 1) && (decide (5 ≤ fl) && decide (fl ≤ 200) && (ty == 7 || (decide (10 ≤ dc) && decide (dc ≤ 500))) &&
    (!(ty == 1 || ty == 2 || ty == 3 || ty == 4 || ty == 6) || (decide (a < 4) && decide (b < 4))) &&
    (!(ty == 1 || ty == 2 || ty == 3 || ty == 4) || a != b))

/-- The pairs: one of USE OUTLET for each present outlet and no other (R185, R260). -/
def ImgCfg.pairsOk (c : ImgCfg) : Bool :=
  let ps := ((List.range 12).filter (fun n => c.fld (OUT_CFG_KIND n) != 0)).map (fun n => c.fld (OUT_PROT_CFG_PAIR n))
  allDifferent ps && ps.all (fun p => decide (p < 12)) &&
    (List.range 12).all (fun p => (c.fld (SAF_PAIR_CFG_USE p) == 1) == ps.contains p &&
      decide (c.fld (SAF_PAIR_CFG_STOP1_MS p) ≤ (if c.fld (SAF_PAIR_CFG_USE p) = 1 then 0 else 500)))

/-- The site line's role (R223, R312). -/
def ImgCfg.roleOk (c : ImgCfg) : Bool :=
  let reg := c.fld GOV_PL_CFG_REGULATOR == 1
  let role := c.fld SIT_CFG_ROLE
  let a := c.fld SIT_CFG_ADDR
  !(reg && c.fld GOV_PL_CFG_PARTNER == 1) && (role == 2) == reg &&
    (role == 0 || (decide (1 ≤ a) && decide (a ≤ 16))) && (role != 2 || a == 1)

/-- The thresholds of R74. -/
def ImgCfg.thermOk (c : ImgCfg) : Bool :=
  let w := c.fld GOV_RES_THERM_CFG_WARM
  let h := c.fld GOV_RES_THERM_CFG_HOT
  let a := c.fld GOV_RES_THERM_CFG_CASE_START
  let b := c.fld GOV_RES_THERM_CFG_CASE_END
  decide (85 ≤ w) && decide (w ≤ 110) && decide (w + 5 ≤ h) && decide (h ≤ 120) && decide (90 ≤ a) && decide (a ≤ 115) &&
    decide (a + 5 ≤ b) && decide (b ≤ 125)

/-- The phase assignment of an AC outlet (R460). -/
def ImgCfg.phaseOk (c : ImgCfg) (n : Nat) : Bool :=
  let k := c.fld (OUT_CFG_KIND n)
  let l := [c.fld (OUT_PHASE_L1 n), c.fld (OUT_PHASE_L2 n), c.fld (OUT_PHASE_L3 n)]
  !(k == 1 || k == 2) ||
    (if c.fld (OUT_CFG_THREE n) = 1 then allDifferent l && l.all (fun p => p != 0)
     else nth l 0 0 != 0 && nth l 0 1 == 0 && nth l 0 2 == 0)

/-- Every function has a ball, and no ball two functions. -/
def ImgCfg.pinsOk (c : ImgCfg) : Bool :=
  c.pins.all (fun p => p.2.isSome) && allDifferent (c.pins.filterMap (fun p => p.2))

/-- Every meter's programme lies inside the tariff structure (R137, R138): 1 to 16 registers, one of the 8 programmes, whose profiles
and fallback name registers of the meter; at most 4 seasons, 8 profiles of 12 switch points, 32 special days. -/
def ImgCfg.tariffOk (c : ImgCfg) : Bool :=
  (List.range 32).all (fun m =>
    let n := nth c.nRegs 1 m
    let p := nth c.progs {} (nth c.meterProg 0 m)
    c.fld (MTR_M_CFG_KIND m) == 0 || c.fld (MTR_M_CFG_LEGAL m) == 0 ||
      (decide (1 ≤ n) && decide (n ≤ 16) && decide (nth c.meterProg 0 m < 8) && decide (p.fallback < n) &&
        p.profiles.all (fun d => d.all (fun x => decide (x.2 < n)) && decide (d.length ≤ 12)) &&
        decide (p.seasons.length ≤ 4) && decide (p.profiles.length ≤ 8) && decide (p.special.length ≤ 32)))

/-- The plans leave no configured unit unpowered or unclocked (R415, R417): what every module needs, the Green PHY where an outlet has
HLC, the site line where it has a role. -/
def ImgCfg.plansOk (c : ImgCfg) : Bool :=
  let hlc := (List.range 12).any (fun n => c.fld (OUT_CFG_KIND n) != 0 && c.fld (OUT_CFG_HLC n) == 1)
  let site := c.fld SIT_CFG_ROLE != 0
  let dom := 0x3FF + (if hlc then 0x400 else 0) + (if site then 0x800 else 0)
  let clk := 0x69F + (if hlc then 0x40 else 0) + (if site then 0x20 else 0)
  c.domains &&& dom == dom && c.clocks &&& clk == clk

/-- Step 6 of R37: the lowest DETAIL whose check fails, 0 for none (R52). What of 0x06, 0x07 and 0x0A the configuration does not hold
comes with the image. -/
def Image.inconsistency (i : Image) : Nat :=
  let c := i.cfg
  let kind (n : Nat) : Nat := c.fld (OUT_CFG_KIND n)
  let ms := c.mods
  let checks : List (Nat × Bool) :=
    [(0x01, (List.range 12).any (fun n => if n < 8 then kind n == 3 else kind n == 1 || kind n == 2)),
     (0x02, !allDifferent ms || ms.any (fun k => decide (72 ≤ k)) || !allDifferent c.inputs),
     (0x03, decide (64 < ms.length)),
     (0x04, (List.range 128).any (fun n => c.fld (SNS_CH_MAP_SRC n) == 2 && decide (2 ≤ c.fld (SNS_CH_MAP_GAIN n)))),
     (0x05, c.meterChans.any (fun n => decide (128 ≤ n) || c.fld (SNS_CH_MAP_SRC n) == 0)),
     (0x06, i.detail == 0x06 || !c.pinsOk),
     (0x07, i.detail == 0x07 || !c.tariffOk),
     (0x08, !(List.range 8).all c.fnOk || !c.pairsOk),
     (0x09, decide (160 < sumN ((List.range 16).map (fun k => if c.fld (LCH_CFG_USE k) = 0 then 0 else c.fld (LCH_CFG_NOM k)))) ||
        (List.range 8).any (fun k => c.fld (LCH_CFG_HB (8 + k)) == 1)),
     (0x0A, i.detail == 0x0A || !c.plansOk),
     (0x0B, !c.roleOk),
     (0x0C, !c.thermOk),
     (0x0D, !(List.range 8).all c.phaseOk)]
  match checks.find? (fun p => p.2) with
  | some p => p.1
  | none => 0

/-- SECTION of a failed consistency check. -/
def detailSection (d : Nat) : Nat := if d = 0x08 then 2 else if d = 0x0D then 4 else 3

/-- The sections that fail a check, as CAL.REFUSE numbers them. -/
def firstSection (p : Nat → Bool) : Option Nat := ((List.range 4).find? p).map (fun k => k + 1)

/-- A submission changes a section of the running image without raising its VERSION (R36). -/
def unraised (base : Option Image) (i : Image) (k : Nat) : Bool :=
  match base with
  | some b => nth i.secs 0 k != nth b.secs 0 k && decide (i.ver k ≤ b.ver k)
  | none => false

/-- Whether the SAFETY section of an image differs from the one last run (R33). -/
def State.safetyDiffers (s : State) (i : Image) : Bool :=
  match s.saf.lastDigest with
  | some d => nth i.secs 0 1 != d
  | none => false

/-- Steps 4 to 7 of R37: the refusal's code, section and DETAIL, or none. `base` is the running image of a submission; `unlocked`
says whether a changed SAFETY section may pass. -/
def State.judgeRest (s : State) (i : Image) (base : Option Image) (unlocked : Bool) : Option (Nat × Nat × Nat) :=
  if nth i.secs 0 0 ≠ s.cal.legalDigest then some (0x1005, 1, 0)
  else match firstSection (fun k => decide (i.ver k < nth s.cal.floors 0 k) || unraised base i k) with
  | some sec => some (0x1004, sec, 0)
  | none =>
    if s.cal.legalBad = 3 ∨ i.fwId ≠ s.rdN A_GLB_LEGAL_FW_ID then some (0x1005, 0, 0)
    else if s.safetyDiffers i ∧ !unlocked then some (0x1009, 2, 0)
    else if !i.admitsSet s.fwu.run then some (0x1006, 0, 0)
    else if i.inconsistency ≠ 0 then some (0x1007, detailSection i.inconsistency, i.inconsistency)
    else if !planFits i.cfg.plan i.lowest ∨ i.lowest < s.laneStep 0 ∨ i.lowest < s.laneStep 1 then some (0x1008, 3, 0)
    else none

/-- Steps 2 to 7 of R37. The installer keys are those of the running OPERATOR section (R32), where no image runs of the image's own. -/
def State.judgeImage (s : State) (i : Image) (base : Option Image) (unlocked : Bool) : Option (Nat × Nat × Nat) :=
  if !i.headerOk then some (0x1002, 0, 0)
  else match firstSection (fun k => !s.sectionOpens i (base.getD i).cfg.instKeys k) with
  | some sec => some (0x1003, sec, 0)
  | none => s.judgeRest i base unlocked

/-- A refusal (R52): the fault, CAL.REFUSE, EVENTS.REFUSED; for the host and the tag some codes are class A occurrences. -/
def State.calRefuse (s : State) (source : Nat) (r : Nat × Nat × Nat) : State :=
  let t := s.raise r.1 NOTE s.srcOwner source (r.2.1 * 256 + r.2.2)
  let t := ((t.put CAL_REFUSE_CODE r.1).put CAL_REFUSE_SOURCE source).put CAL_REFUSE_SECTION r.2.1
  let t := (t.put CAL_REFUSE_DETAIL r.2.2).set1 CAL_EVENTS_REFUSED
  when (decide (2 ≤ source) && (r.1 == 0x1003 || r.1 == 0x1004 || r.1 == 0x1005 || r.1 == 0x1009)) (fun u => u.tamperA 4) t

/-- Status of a refused submission (R52; log entry 52). -/
def calStatus (code : Nat) : Nat :=
  if code = 0x1003 ∨ code = 0x1005 ∨ code = 0x1009 then stREFUSED_AUTH
  else if code = 0x1006 then stINCOMPATIBLE else stBAD_ARG

/-! ### Slot writes (R35) -/

def slotField (k : Nat) : Fld := if k = 0 then CAL_STATUS_SLOT0 else CAL_STATUS_SLOT1
def slotSeq (k : Nat) : Fld := if k = 0 then CAL_SLOT0_SEQ_SEQ else CAL_SLOT1_SEQ_SEQ
def State.slotState (s : State) (k : Nat) : Nat := s.get (slotField k)
def State.slot (s : State) (k : Nat) : Slot := nth s.cal.slots {} k
def State.updSlot (s : State) (k : Nat) (f : Slot → Slot) : State := s.updCal (fun c => { c with slots := upd c.slots k f })

/-- SLOT_SEQ of a slot, 0 without a valid commit record. -/
def State.seqOf (s : State) (k : Nat) : Nat := if (s.slot k).commit then (s.slot k).seq else 0

/-- An image runs: the running states and SAFE_HOLD, and LOADING from the slot choice on. -/
def State.imageRuns (s : State) : Bool := s.gstate == 3 || s.gstate == 4 || s.gstate == 5 || s.gstate == 1
def State.runSlot (s : State) : Nat := s.get CAL_STATUS_RUN_SLOT
def State.base (s : State) : Option Image := if s.imageRuns then some s.cal.run else none

/-- The slot that a write goes to and its SLOT_SEQ (R35). -/
def State.writeTarget (s : State) : Nat × Nat :=
  if s.imageRuns then (1 - s.runSlot, s.seqOf s.runSlot + 1)
  else
    let v0 := s.slotState 0 == 2
    let v1 := s.slotState 1 == 2
    let k := if v0 && !v1 then 1 else if v1 && !v0 then 0 else if s.seqOf 1 < s.seqOf 0 then 1 else 0
    (k, max (s.seqOf 0) (s.seqOf 1) + 1)

/-- A slot write begins (R35, R52): the slot is WRITING and marked. The floors its commit will raise are those of the running
image, or of a VALID image that it overwrites (R36). -/
def State.startSlotWrite (s : State) (i : Image) (source : Nat) (cmd : Option CmdRef) : State :=
  let k := s.writeTarget.1
  let q := s.writeTarget.2
  let old := if s.imageRuns then some s.cal.run else if s.slotState k = 2 then (s.slot k).img else none
  let fl := match old with | some o => (List.range 4).map o.ver | none => [0, 0, 0, 0]
  let w : SlotWrite := { slot := k, img := i, seq := q, source := source, floors := fl, cmd := cmd }
  let t := s.updSlot k (fun _ => { img := some i, seq := q, commit := false, mark := true })
  let t := ((t.put (slotField k) 4).put (slotSeq k) 0).set1 CAL_STATUS_WRITE_BUSY
  t.updCal (fun c => { c with write := some w })

/-- A write command is answered BUSY (R51): a write, or a change not yet in effect. -/
def State.calBusy (s : State) : Bool := s.cal.write.isSome || s.cal.effect.isSome

/-- Judge a host's submission and start its write, or refuse it. -/
def State.submit (s : State) (c : Cmd) (i : Image) (source : Nat) : State :=
  let t := when i.headerOk (fun u => u.imageOps i) s
  match s.judgeImage i s.base (s.unlockOn c.port) with
  | some r => (t.calRefuse source r).reply c (calStatus r.1) r.1
  | none => t.startSlotWrite i source (some { port := c.port, seq := c.seq })

/-- The image that n bytes of the Mainplate from a on hold (R34): header, sections as they open, digests; its configuration comes with
the operand, since the spec gives a section's body no layout, but for what the LEGAL section defines. -/
def State.imageAt (s : State) (a n : Nat) (img : Image) : Image :=
  let i := { img with header := s.mpRead a 0x100, digest := leNum (sha256 (fromBytes (s.mpRead a n))) }
  let p := (List.range 4).map (fun k =>
    if i.sectionIn k && decide (i.length ≤ n) then s.openStored (s.mpRead (a + i.offset k) (i.secLength k)) else none)
  { i with plain := p, secs := p.map bodyDigest, cfg := i.cfg.withLegal s.cal.legalDef }

/-- CAL_LOAD, 0x0101 (R35, R37, R50): address and length; the image is what the Mainplate holds there. -/
def execCalLoad (mb : Fin 8) (img : Image) (s : State) : Out :=
  .next (s.command mb 0x0101 .runSetting false (fun c s =>
    let a := c.u32 0
    let n := c.u32 1
    if s.glb.lifecycle ≠ 1 ∧ s.glb.lifecycle ≠ 2 then s.reply c stREFUSED_STATE 0
    else if s.calBusy then s.reply c stBUSY 0
    else if !argRangeOk a n ∨ n < 0x100 then s.reply c stBAD_ARG 0
    else
      let t := s.laneReads a n
      let i := t.imageAt a n img
      if i.headerOk ∧ i.length ≠ n then (t.calRefuse 2 (0x1002, 0, 0)).reply c stBAD_ARG 0x1002
      else t.submit c i 2))

/-- The running image with one section replaced by what opens to p; header and configuration are the resulting image's. -/
def State.patched (s : State) (i : Image) (k : Nat) (p : Option (List Byte)) : Image :=
  { i with
    plain := upd s.cal.run.plain k (fun _ => p)
    secs := upd s.cal.run.secs k (fun _ => bodyDigest p)
    cfg := i.cfg.withLegal s.cal.legalDef }

/-- CAL_PATCH, 0x0102 (R35, R37): section type 1 to 4; `img` is what the change records make of the running image, with the signature
that the patch carries behind the changed section's body. -/
def execCalPatch (mb : Fin 8) (img : Image) (s : State) : Out :=
  .next (s.command mb 0x0102 .running false (fun c s =>
    let k := c.u32 0
    if s.calBusy then s.reply c stBUSY 0
    else if k = 0 ∨ k > 4 then s.reply c stBAD_ARG 0
    else s.submit c (s.patched img (k - 1) (nth img.plain none (k - 1))) 3))

/-! ### The crown tag's installer record (R49) -/

/-- The refusal of the tag's record: TAG_INSTALLER_EN, VERSION, signature under a listed installer key, steps 4 to 7 of R37. A changed
SAFETY section passes only while the safety unlock is open (R33). -/
def State.judgeTag (s : State) (i : Image) (ver : Nat) : Option (Nat × Nat × Nat) :=
  if !s.cal.run.cfg.tagEn then some (0x100E, 4, 0)
  else if !(s.jewelOk 4 opAES_DEC s.appMaster 1 && i.signedBy 3 s.cal.run.cfg.instKeys) then some (0x1003, 4, 0)
  else if ver ≤ s.cal.run.ver 3 then some (0x1004, 4, 0)
  else s.judgeRest i (some s.cal.run) (s.isSet CAL_STATUS_SAFETY_UNLOCK)

/-- The record is not taken: 0x100E, the refusing code, the commissioning record (R309). -/
def State.tagRefused (s : State) (ver : Nat) (r : Nat × Nat × Nat) : State :=
  let t := if r.1 = 0x100E then s else s.calRefuse 4 r
  let t := when (decide (r.1 = 0x100E)) (fun u => ((((u.put CAL_REFUSE_CODE 0x100E).put CAL_REFUSE_SOURCE 4).put
    CAL_REFUSE_SECTION 4).put CAL_REFUSE_DETAIL 0).set1 CAL_EVENTS_REFUSED) t
  (t.raise 0x100E NOTE t.srcOwner 4 ver).commission ver (t.cal.run.ver 3) r.1 r.2.2

/-- Judge the tag's record against the running image: none where there is no record, else the state with the write begun or the
record refused, and whether it is taken. `img` is the running image with the record as its INSTALLER section. -/
def State.takeTag (s : State) (img : Image) (cmd : Option CmdRef) : Option (State × Bool) :=
  match s.tagRecord with
  | none => none
  | some r =>
    let i := s.patched img 3 (s.openStored r.2)
    let t := when s.cal.run.cfg.tagEn (fun u => u.storeOp 4 opAES_DEC u.appMaster 1) s
    match s.judgeTag i r.1 with
    | some e => some (t.tagRefused r.1 e, false)
    | none => some (t.startSlotWrite i 4 cmd, true)

/-- CAL_TAG_INSTALLER, 0x0107 (R49). -/
def execCalTagInstaller (mb : Fin 8) (img : Image) (s : State) : Out :=
  .next (s.command mb 0x0107 .running false (fun c s =>
    if s.calBusy then s.reply c stBUSY 0
    else
      let u := s.readInstaller
      match u.takeTag img (some { port := c.port, seq := c.seq }) with
      | some (t, true) => t
      | some (t, false) => t.reply c stBAD_ARG 0x100E
      | none => u.reply c stBAD_ARG 0x100E))

/-! ### Commit and effect (R35, R36, R46) -/

/-- CAL.VER_* and CAL.DIGEST show the running image. -/
def State.showImage (s : State) : State :=
  let i := s.cal.run
  let t := ((s.wrN A_CAL_VER_LEGAL (i.ver 0)).wrN A_CAL_VER_SAFETY (i.ver 1)).wrN A_CAL_VER_OPERATOR (i.ver 2)
  (t.wrN A_CAL_VER_INSTALLER (i.ver 3)).wr128 A_CAL_DIGEST (i.digest % 2 ^ 128)

/-- CAL.STAGED as a word of unit bits. -/
def State.stagedWord (s : State) : Nat := s.rdN A_CAL_STAGED

/-- Stage a group, or take it out. -/
def State.stage (s : State) (g : Nat) (on : Bool) : State :=
  if 32 ≤ g then
    let t := s.putBit CAL_STAGED_METERS_METERS (g - 32) on
    t.putB CAL_STAGED_METER (t.isSet CAL_STAGED_METERS_METERS)
  else s.wrN A_CAL_STAGED (natBit s.stagedWord g on)

/-- A change takes effect (R46, R47): tariff programmes come into force, limits and placement parameters wait for the next placement
round, the others are staged; a full image is staged as MODULE. The
waiting command is answered with the staged units. -/
def State.takeEffect (s : State) (w : SlotWrite) (before : Image) : State :=
  let t := s.updCal (fun c => { c with effect := none })
  let t :=
    if w.source = 2 then t.stage 31 true
    else
      let ch := calGroups.filter (fun g => !before.cfg.same w.img.cfg g)
      let t := when (ch.contains 1) (fun v => v.updCal (fun c => { c with roundDue := true })) t
      let u := forEach (ch.filter (fun g => 2 ≤ g)) (fun g v => v.stage g (!v.cal.force.same w.img.cfg g)) t
      if ch.contains 0 then
        let tar := before.cfg.progs != w.img.cfg.progs || before.cfg.meterProg != w.img.cfg.meterProg ||
          before.cfg.nRegs != w.img.cfg.nRegs
        when tar (fun v => v.legalLog 0x04 0 (w.img.ver 2)) (u.applyGroup 0)
      else u
  let t := when (t.stagedWord != s.stagedWord && t.stagedWord != 0) (fun u => u.set1 CAL_EVENTS_STAGED) t
  let t := t.set1 (if w.source = 4 then CAL_EVENTS_TAG_TAKEN else CAL_EVENTS_PATCH_DONE)
  match w.cmd with
  | some c => t.replyTo c.port c.seq stOK t.stagedWord
  | none => t

/-- At the start of a beat: a change whose commit point lies in an earlier beat takes effect (R46); limits and placement parameters
come into force in the beat of a placement round (R47). -/
def State.effectBeat (s : State) : State :=
  let t := match s.cal.effect with
    | some e => if e.1 < s.now then s.takeEffect e.2.1 e.2.2 else s
    | none => s
  when (t.cal.roundDue && decide (t.now % 400 = 0)) (fun u =>
    (u.updCal (fun c => { c with roundDue := false })).applyGroup 1) t

/-- Enter LOADING from SETTING (R22, R43): the legal log records the exit. Steps 1 to 4 are not repeated, and a lane that they left out
stays out (R39, R130). -/
def State.enterLoading (s : State) : State :=
  let t := (s.setGstate 1 0).legalLog 0x03 0 0
  t.updCal (fun c => { c with step := 4, repeats := 0, out := c.early })

/-- An accepted change of the SAFETY section (R33, R267). -/
def State.safetyAccepted (s : State) (w : SlotWrite) : State :=
  if s.saf.lastDigest = some (nth w.img.secs 0 1) then s
  else
    let actor := match w.cmd with | some c => c.port + 1 | none => 0
    let world := match w.cmd with | some c => s.worldNo c.port | none => 0
    let ty := if s.saf.lastDigest.isNone then 0x01 else 0x02
    (s.raise 0x700C NOTE s.srcOwner 0 (w.img.ver 1)).safLog ty actor world s.saf.lastVer (w.img.ver 1) (nth w.img.secs 0 1)

/-- The commit point of a slot write (R35, R36). -/
def State.slotCommit (s : State) (w : SlotWrite) : State :=
  let t := s.updSlot w.slot (fun _ => { img := some w.img, seq := w.seq, commit := true, mark := false })
  let t := ((t.put (slotField w.slot) 2).put (slotSeq w.slot) w.seq).clr CAL_STATUS_WRITE_BUSY
  let t := t.updCal (fun c => { c with
    write := none
    floors := (List.range 4).map (fun k => max (nth c.floors 0 k) (nth w.floors 0 k)) })
  t.safetyAccepted w

/-- What follows of a commit: in SETTING the image is loaded; else the slot runs and its change takes effect in the next beat.
CAL.STATUS.FALLBACK stays as the last slot choice set it: no rule says that a commit ends it (DESIGN CHOICE, log entry 155). -/
def State.afterCommit (s : State) (w : SlotWrite) : State :=
  if s.gstate = 2 then
    let t := s.set1 CAL_EVENTS_PATCH_DONE
    let t := match w.cmd with | some c => t.replyTo c.port c.seq stOK 0 | none => t
    if t.cal.totalsLost then t else t.enterLoading
  else
    let before := s.cal.run
    let t := ((s.updCal (fun c => { c with run := w.img })).put CAL_STATUS_RUN_SLOT w.slot).showImage
    let t := when (w.source == 4) (fun u => u.commission (w.img.ver 3) (w.img.ver 3) 0 0) t
    if s.gstate = 1 then (t.set1 CAL_STATUS_TAG_TAKEN).set1 CAL_EVENTS_TAG_TAKEN
    else t.updCal (fun c => { c with effect := some (s.now, w, before) })

/-- The aborts that wait are answered ABORT_LATE with a copy of the result of the write that has reached its commit point, or has ended (R30). -/
def State.abortsLate (s : State) (w : SlotWrite) : State :=
  match w.cmd with
  | some op => forEach s.cal.aborts (fun r u => u.abortLateTo r op) (s.updCal (fun x => { x with aborts := [] }))
  | none => s

/-- The commissioning record of a tag's record whose write has not committed (R309): the running INSTALLER stays accepted. -/
def State.tagNotTaken (s : State) (w : SlotWrite) (code : Nat) : State :=
  when (w.source == 4) (fun u => u.commission (w.img.ver 3) (u.cal.run.ver 3) code 0) s

/-- A slot write whose verification fails twice: 0x100D, the slot stays PARTIAL. -/
def State.slotWriteFail (s : State) (w : SlotWrite) : State :=
  let t := ((s.put (slotField w.slot) 1).clr CAL_STATUS_WRITE_BUSY).updCal (fun c => { c with write := none })
  let t := (t.raise 0x100D DEGRADE t.srcOwner w.slot 0).tagNotTaken w 0x100D
  let t := match w.cmd with
  | some c => t.replyTo c.port c.seq stBAD_ARG 0x100D
  | none => t
  t.abortsLate w

/-- The end of an abort beat without the commit point (R30, R51): the write is undone, its slot left PARTIAL, and the aborts are
answered OK. The commissioning record of an aborted tag record carries 0x100E, not taken (DESIGN CHOICE, log entry 157). -/
def State.calAborts (s : State) : State :=
  match s.cal.write with
  | some w =>
    if s.cal.aborts = [] then s
    else
      let l := s.cal.aborts
      let t := ((s.put (slotField w.slot) 1).clr CAL_STATUS_WRITE_BUSY).updCal (fun x => { x with write := none, aborts := [] })
      let t := (match w.cmd with | some c => t.dropCmd c.port c.seq | none => t).tagNotTaken w 0x100E
      forEach l (fun r u => u.replyTo r.port r.seq stOK 0) t
  | none => s

/-- CAL_ABORT, 0x0104 (R30, R51): it takes effect in its beat; a commit point of that beat still wins. -/
def execCalAbort (mb : Fin 8) (s : State) : Out :=
  .next (s.command mb 0x0104 .any false (fun c s =>
    let r : CmdRef := { port := c.port, seq := c.u32 0 }
    match s.cal.write with
    | some w =>
      if w.cmd = some r then
        s.updCal (fun x => { x with aborts := x.aborts ++ [{ port := c.port, seq := c.seq }] })
      else s.abortLate c r
    | none => s.abortLate c r))

/-- The header bytes of a slot: those of a slot cut in its writing are not known. -/
def State.slotHeader (s : State) (k : Nat) : List Byte × State :=
  match (s.slot k).img with
  | none => (List.replicate 256 0#8, s)
  | some i => if (s.slot k).commit then (padTo 256 i.header, s) else (le 256 s.draw.1, s.draw.2)

/-- CAL_SLOT_INFO, 0x0105: 300 bytes. -/
def execCalSlotInfo (mb : Fin 8) (s : State) : Out :=
  .next (s.command mb 0x0105 .any false (fun c s =>
    let k := c.u32 0
    if k > 1 then s.reply c stBAD_ARG 0
    else
      let h := s.slotHeader k
      let rec_ := match (s.slot k).img with
        | some i => if (s.slot k).commit then
            let r := le 4 (s.slot k).seq ++ le 32 i.digest
            r ++ le 4 (crc32 r)
          else List.replicate 40 0#8
        | none => List.replicate 40 0#8
      h.2.reply c stOK 0 (h.1 ++ rec_ ++ le 4 (s.slotState k))))

/-- CAL_ERASE_SLOT, 0x0106 (R35). -/
def execCalEraseSlot (mb : Fin 8) (s : State) : Out :=
  .next (s.command mb 0x0106 .runSetting true (fun c s =>
    let k := c.u32 0
    if k > 1 then s.reply c stBAD_ARG 0
    else if s.calBusy then s.reply c stBUSY 0
    else if s.imageRuns ∧ k = s.runSlot then s.reply c stBAD_ARG 0
    else (((s.updSlot k (fun _ => {})).put (slotField k) 0).put (slotSeq k) 0).reply c stOK 0))

/-! ### Unit restarts (R47, R48) -/

/-- A session of an outlet that holds back its restart (R48). -/
def State.restartHeld (s : State) (n : Nat) : Bool :=
  match s.sesOn n with
  | some k => decide (AUTHORISING ≤ s.sst k) && decide (s.sst k ≤ STOPPING)
  | none => false

/-- What a unit does while it restarts. -/
def State.beginRestart (s : State) (u : Nat) : State :=
  if u = 2 then s.updMtr (fun x => { x with pls := x.pls.map (fun _ => {}) })
  else if u = 3 then
    (forUpTo 32 (fun m t => when (t.meterDown m) (fun v => v.updMet m (fun y => { y with reg := false, armed := false })) t) s).updCal
      (fun c => { c with meterBeat := s.now })
  else if u = 4 then
    let t := (forUpTo 8 (fun k v => v.fnBoth k 0) s).fnStatus
    forUpTo 12 (fun p v => (v.openElem 0 p).openElem 1 p) t
  else if u = 7 then s.siteRestart
  else if 8 ≤ u ∧ u < 20 then
    match s.sesOn (u - 8) with
    | some k => if s.restartHeld (u - 8) then s.stopSession k rUNIT_RESTART 0 false else s
    | none => s
  else s

/-- The unit runs again with the values of the running image. -/
def State.endRestart (s : State) (u : Nat) : State :=
  if u = 2 then s.applyGroup 2
  else if u = 3 then
    let ms := (List.range 32).filter (fun m => s.bitOf CAL_STAGED_METERS_METERS m)
    forEach ms (fun m t =>
      let x := t.met m
      let t := (t.updMet m (fun _ => { pend := x.pend, rem := x.rem, crossBeat := t.now })).applyGroup (32 + m)
      let t := when (t.isSet (MTR_M_STATE_HALTED m)) (fun u => u.legalLog 0x0C m 0) t
      let t := (((t.clr (MTR_M_STATE_HALTED m)).clr (MTR_M_STATE_NOREF m)).clr (MTR_M_STATE_CREEP m)).put (MTR_M_STATE_QUAD m) 0
      let t := ((t.put (MTR_M_STATE_DIR m) 2).put (MTR_M_CYCLE_FREQ m) 0).put (MTR_M_CYCLE_LEN m) 0
      (t.legalLog 0x10 m (s.now - s.cal.meterBeat)).stage (32 + m) false) s
  else if u = 4 then
    let t := (s.applyGroup 4).safetyRan
    (forUpTo 8 (fun k v => (v.fnBoth k 0).put (SAF_FN_STATE_CAUSE k) 0) t).fnStatus
  else if u = 5 then
    let ch := (List.range 16).filter (fun k =>
      ([A_LCH_CFG k, A_LCH_LIMITS k, A_LCH_OL k, A_LCH_CLAMP_CFG k] ++
        (if k < 8 then [A_LCH_P_CFG (k / 2)] else [])).any (fun a => s.cal.force.val a != s.cal.run.cfg.val a))
    forEach ch (fun k t => t.lcInit k) (s.applyGroup 5)
  else if u = 6 then (s.applyGroup 6).bezelRestart
  else if u = 7 then
    let t := s.applyGroup 7
    t.put SIT_STATUS_STATE (if t.get SIT_CFG_ROLE = 0 then 0 else 2)
  else s.applyGroup u

/-- CAL_RESTART_UNITS, 0x0103 (R48): unit mask, FORCE in bit 0. -/
def execCalRestartUnits (mb : Fin 8) (s : State) : Out :=
  .next (s.command mb 0x0103 .running false (fun c s =>
    let m := c.u32 0
    let us := (List.range 18).map (fun i => i + 2) |>.filter (fun u => m.testBit u)
    if m.testBit 1 ∨ 2 ^ 20 ≤ m then s.reply c stBAD_ARG 0
    else if s.cal.units ≠ 0 then s.reply c stBUSY 0
    else if m.testBit 4 ∧ !s.unlockOn c.port then s.reply c stREFUSED_AUTH 0
    else if !m.testBit 0 ∧ us.any (fun u => decide (8 ≤ u) && s.restartHeld (u - 8)) then s.reply c stREFUSED_STATE 0
    else if us.isEmpty then s.reply c stOK 0
    else
      let t := when (m.testBit 4) (fun v => v.safLog 0x03 (c.port + 1) (v.worldNo c.port) v.saf.lastVer
        (v.rdN A_CAL_VER_SAFETY) (nth v.cal.run.secs 0 1)) s
      let t := t.updCal (fun x => { x with units := m - m % 4, unitCmd := some { port := c.port, seq := c.seq } })
      forEach us (fun u v => if 8 ≤ u then State.ownerActs (u - 8) (fun w => w.beginRestart u) v else v.beginRestart u) t))

/-- A unit of CAL_RESTART_UNITS runs again; the last one answers the command. A unit stopped by FORCE waits for its session. -/
def State.unitDone (s : State) (u : Nat) : State :=
  if !s.cal.units.testBit u ∨ (8 ≤ u ∧ s.restartHeld (u - 8)) then s
  else
    let t := (s.endRestart u).stage u false
    let t := t.updCal (fun c => { c with units := natBit c.units u false })
    if t.cal.units ≠ 0 then t
    else match t.cal.unitCmd with
    | some c => (t.updCal (fun x => { x with unitCmd := none })).replyTo c.port c.seq stOK 0
    | none => t

/-- UNIT_RESTART_DONE (R47, R396): units 2 to 19 as the bits of CAL.STAGED, 20 the Case controller, 21 the Dial's sequencer, 22 the
Green PHY MACs; a SITE restart of an activation too. -/
def execUnitRestartDone (unit : Fin 23) (s : State) : Out :=
  let u := unit.val
  if u < 2 then .next s
  else if u < 20 then
    let act := match s.fwu.act with | some a => a.comp == 5 && a.stage == 1 | none => false
    .next (when (act && u == 7) (fun t =>
      (t.put SIT_STATUS_STATE (if t.get SIT_CFG_ROLE = 0 then 0 else 2)).actUnit 5) (s.unitDone u))
  else if u = 20 then .next (s.actUnit 3)
  else if u = 21 then .next (s.actUnit 4)
  else .next (s.actUnit 6)

end Sys2Proof.Machine
end

