-- ==== Sys2Proof/Machine/Startup.lean ====
section
/-! DEFINITION. Start-up, from reset release to the start order (R41 to R43, 02_calibre.md), and the commit of a slot write. -/
namespace Sys2Proof.Machine

/-! ### Steps 1 to 4 -/

/-- A spare that a reset cut off in its comparison is a spare; a modulator cut off in its calibration needs one (R93). -/
def State.mendModulators (s : State) : State :=
  forUpTo 72 (fun k u => if u.role k = 2 then u.setRole k 1 else if u.role k = 3 then u.setRole k 5 else u) s

/-- RESET_RELEASE (R41 step 1, R27, R415): every supply has been in range for 2 ms; `lost` says that the chronometer's feed fell
below 1.8 V (R136). -/
def execResetRelease (lost : Bool) (s : State) : Out :=
  if s.gstate ≠ 0 ∨ s.bitOf PWR_STATUS_IN_RANGE 6 then .next s
  else
    let t := s.updPwr (fun p => { p with off := false })
    let t := t.put PWR_STATUS_IN_RANGE (t.get PWR_STATUS_IN_RANGE ||| 0xF0)
    let t := (t.put PWR_DOMAINS_ON 0x0FF).put CLK_STATUS_LOCK 0x7F
    let t := (t.put GLB_LIFECYCLE_LC t.glb.lifecycle).put GLB_REV_LEGAL_BUILD t.glb.legalBuild
    let t := (t.wrN A_GLB_SERIAL_LO (t.glb.serial % 2 ^ 32)).wrN A_GLB_SERIAL_HI (t.glb.serial / 2 ^ 32)
    let t := ((t.put RED_STATUS_LA_STATE 1).put RED_STATUS_LB_STATE 1).mendModulators
    .next (when lost State.loseChrono t.settingOutputs)

/-- A component's directory entry reads WRITING or BAD (R395). -/
def State.badEntry (s : State) : Option Nat := (List.range 7).find? (fun c => s.get (UPD_C_STATE_ENTRY c) != 0)

/-- RESIDENT_LOADER_VERIFIED (R22, R395): `bad` names the lanes whose resident loader is corrupt. -/
def execResidentLoaderVerified (bad : Fin 4) (s : State) : Out :=
  if s.gstate ≠ 0 ∨ !s.bitOf PWR_STATUS_IN_RANGE 6 then .next s
  else match s.badEntry with
  | some c =>
    let t := (s.raise 0xB108 SETTINGCLASS srcCase c 0).setGstate 6 0xB108
    .next { t with glb := { t.glb with recoveryReq := false } }
  | none =>
    if bad.val = 3 ∨ s.glb.recoveryReq then
      let t := s.setGstate 6 0
      .next { t with glb := { t.glb with recoveryReq := false } }
    else .next ((s.setGstate 1 0).updCal (fun c => { c with step := 3, out := bad }))

/-- The running copies are those of the flash set (R396); a version that differs from the one that ran has been activated. -/
def State.loadFirmware (s : State) : State :=
  forUpTo 7 (fun c u =>
    let r := nth u.fwu.flash {} c
    let new := r.version != (nth u.fwu.run {} c).version
    let t := u.updUpd (fun x => { x with run := upd x.run c (fun _ => r) })
    let t := ((t.put (UPD_C_RUN_VERSION c) r.version).put (UPD_C_FLASH_VERSION c) r.version).clr (UPD_C_STATE_PENDING c)
    let t := when (c == 1) (fun v => (v.put UPD_MIRROR_ALT r.alt).put UPD_MIRROR_SPOKEN r.mirror) t
    when new (fun v => v.set1 UPD_EVENTS_ACTIVATED) t) s

/-- The outage is processed with the demand, billing and meter registers under which the legal records were made (R146). -/
def State.outageWith (s : State) : State :=
  let l := s.lgl.kept
  let t := State.outage (forEach l (fun p u => u.wrN p.1 p.2) s)
  forEach l (fun p u => u.wr p.1 (regReset p.1)) t

/-- The entry of a supply fault that stopped the module before: 0xC102 or 0xC103, written at the next start. -/
def State.powerEntry (s : State) : State :=
  match s.pwr.fault with
  | some f => (s.raiseDeferred f.1 NOTE srcCase f.2 0).updPwr (fun p => { p with fault := none })
  | none => s

/-- FIRMWARE_SET_LOADED (R41 step 4): jewels whose tag fails, a component whose stored image fails its digest, lanes whose legal
flash check fails. -/
def execFirmwareSetLoaded (corrupt : List (Fin 64)) (digestBad : Option (Fin 7)) (legalBad : Fin 4) (s : State) : Out :=
  if s.gstate ≠ 1 ∨ s.cal.step ≠ 3 then .next s
  else match digestBad with
  | some c =>
    let t := s.put (UPD_C_STATE_ENTRY c) 2
    .next (State.moduleReset { t with glb := { t.glb with recoveryReq := true } } 3)
  | none =>
    let t := (s.loadFirmware.loadJewels (corrupt.map Fin.val)).set1 KEY_STATUS_DRBG_OK
    let t := t.updCal (fun c => { c with step := 4, legalBad := legalBad, early := c.out ||| legalBad.val, out := c.out ||| legalBad.val })
    let t := when (legalBad.val != 3) (fun u =>
      (u.wrN A_GLB_LEGAL_FW_ID u.glb.legalId).wrN A_GLB_LEGAL_FW_SUM u.glb.legalSum) t
    let t := t.powerEntry.sampleChrono 0
    let t := t.updKey (fun k => { k with seedMono := t.mono })
    let r := t.restoreTotals
    let t := r.1.restoreAccts.outageWith.countAon
    let t := forUpTo 2 (fun l u => when (legalBad.val.testBit l) (fun v =>
      v.raise 0x4010 (if legalBad.val = 3 then SETTINGCLASS else DEGRADE) (v.srcLane l) l 0) u) t
    let t := when (legalBad.val == 3) (fun u => u.enterSetting 0x4010) t
    .next (if r.2 then t
      else (t.updCal (fun c => { c with totalsLost := true })).raiseSetting 0x4001 t.srcOwner 0 0)

/-! ### Step 5: the slots (R37 to R39) -/

/-- One slot is examined: its state, and the refusal of an image. `bad` says that its digest does not match. -/
def State.examine (s : State) (k : Nat) (bad : Bool) : State :=
  let x := s.slot k
  match x.img with
  | none => (s.put (slotField k) 0).put (slotSeq k) 0
  | some i =>
    let t := s.put (slotSeq k) (s.seqOf k)
    if !x.commit ∨ bad then
      let t := t.put (slotField k) 1
      if x.mark then t else t.calRefuse k (0x1001, 15, 0)
    else
      let u := when i.headerOk (fun v => v.imageOps i) t
      match t.judgeImage i none true with
      | some r => (u.put (slotField k) 3).calRefuse k r
      | none => u.put (slotField k) 2

/-- The choice of R38: slot and fallback, or the fault of no image. -/
def State.chooseSlot (s : State) : Option (Nat × Bool) :=
  let hi := if s.seqOf 0 < s.seqOf 1 then 1 else 0
  let lo := 1 - hi
  if s.slotState hi = 2 then some (hi, false)
  else if s.slotState lo = 2 ∧ !(match (s.slot lo).img with | some i => s.safetyDiffers i | none => true) then some (lo, true)
  else none

/-- The image of a slot becomes the running image, before it is applied. -/
def State.choose (s : State) (k : Nat) (fallback : Bool) : State :=
  let i := (s.slot k).img.getD {}
  let t := ((s.updCal (fun c => { c with run := i, agreed := i.digest, step := 5 })).put CAL_STATUS_RUN_SLOT k).showImage
  let t := t.putB CAL_STATUS_FALLBACK fallback
  when fallback (fun u => (u.set1 CAL_EVENTS_FALLBACK).raise 0x100A DEGRADE u.srcOwner k 0) t

/-- SLOT_CHOICE_AGREED (R37 to R39, R373): both slots are examined; slots whose digest fails, whether the lanes' choices and their key digests are equal. A
difference is examined once more. -/
def execSlotChoiceAgreed (digestBad : Fin 4) (choiceEqual keysEqual : Bool) (s : State) : Out :=
  if s.gstate ≠ 1 ∨ s.cal.step ≠ 4 then .next s
  else
    let both := s.cal.out == 0
    let t := s.putB KEY_STATUS_AGREED (both && keysEqual && s.glb.lifecycle != 0)
    let keyDiff := both && !keysEqual && s.glb.lifecycle != 0
    let blank := s.glb.lifecycle != 1 && s.glb.lifecycle != 2
    let diff := both && !choiceEqual && !blank
    let t := if blank then t else (t.examine 0 (digestBad.val.testBit 0)).examine 1 (digestBad.val.testBit 1)
    if (keyDiff || diff) && s.cal.repeats == 0 then .next (t.updCal (fun c => { c with repeats := 1 }))
    else if keyDiff || diff then
      let t := when keyDiff (fun u => u.raiseSetting 0xB007 srcCase 0 0) t
      .next (when diff (fun u => u.raiseSetting 0x1010 srcCase 0 0) t)
    else if blank then .next (t.enterSetting 0)
    else
      match t.chooseSlot with
      | some (k, fb) => .next (t.choose k fb)
      | none => .next (t.raiseSetting 0x100B t.srcOwner 0 0)

/-! ### Steps 6 and 7 -/

/-- A modulator carries a channel. -/
def State.carry (s : State) (k n : Nat) (high : Bool) : State :=
  let g := s.get (SNS_CH_MAP_GAIN n)
  let t := (s.setRole k 0).put (SNS_MOD_STATE_CHAN k) n
  (t.put (SNS_MOD_STATE_GAIN k) (if high then highGain g else g)).putB (SNS_MOD_STATE_HIGH k) high

/-- A channel's member is carried by the image's modulator, or, where that one is retired (R90), by the lowest spare; without a spare
the member is invalid as under R91 (DESIGN CHOICE, log entry 132). -/
def State.assignMember (s : State) (k n : Nat) (high : Bool) : State :=
  let put (j : Nat) (u : State) : State :=
    (if high then u.put (SNS_CH_MAP_MOD_B n) j else u.put (SNS_CH_MAP_MOD_A n) j).carry j n high
  if s.role k ≠ 4 then put k s
  else match (List.range 72).find? (fun j => s.role j == 1) with
    | some j => put j s
    | none => (if high then s.put (SNS_CH_MAP_MOD_B n) k else s.put (SNS_CH_MAP_MOD_A n) k).updSns (fun x =>
        { x with invalid91 := natBit x.invalid91 (memberBit n high) true })

/-- The modulators of a map by channel and member, as the image names them (R78). -/
def State.mapMembers (s : State) : List (Nat × Nat × Bool) :=
  (List.range 128).flatMap (fun n =>
    let a := (s.cal.force.fld (SNS_CH_MAP_MOD_A n), n, false)
    let b := (s.cal.force.fld (SNS_CH_MAP_MOD_B n), n, true)
    if s.chSrc n = 1 then [a] else if s.chSrc n = 2 then [a, b] else [])

/-- The assignment of modulators (R78): as stored while the map is unchanged, else the image's. A retired one stays retired, and one
that needs calibration keeps that role until it is calibrated or carries a channel. -/
def State.assignModulators (s : State) : State :=
  let m := s.cal.force.chanMap
  if m = s.cal.map then s
  else
    let t := (s.updCal (fun c => { c with map := m, newMap := true })).updSns (fun x => { x with
      invalid91 := 0
      ksMono := x.ksMono.map (fun _ => s.mono) })
    let t := forUpTo 72 (fun k u => when (u.role k == 0) (fun v => v.setRole k 1) u) t
    let t := forUpTo 128 (fun n u => (u.put (SNS_CH_MAP_MOD_A n) 0x7F).put (SNS_CH_MAP_MOD_B n) 0x7F) t
    let ms := t.mapMembers
    let t := forEach (ms.filter (fun m => t.role m.1 != 4)) (fun m u => u.assignMember m.1 m.2.1 m.2.2) t
    forEach (ms.filter (fun m => t.role m.1 == 4)) (fun m u => u.assignMember m.1 m.2.1 m.2.2) t

/-- SNS.IB_CLK.EN (R76): IBCLK_k runs only if the image assigns an input of its group. -/
def State.ibClocks (s : State) : State :=
  s.put SNS_IB_CLK_EN ((List.range 128).foldl (fun m n =>
    if s.chSrc n = 3 then natBit m (s.get (SNS_CH_MAP_INPUT n) / 8) true else m) 0)

/-- Every group of the image comes into force; nothing is staged any more (R40, R46). -/
def State.takeAll (s : State) : State :=
  let t := State.startProgs (forEach calGroups (fun g u => u.applyGroup g) s) s.lgl.progs
  let t := ((t.wrN A_CAL_STAGED 0).wrN A_CAL_STAGED_METERS 0).updCal (fun c => { c with roundDue := false })
  t.put ESC_BEAT_CFG_LOWEST_CLOCK t.cal.run.lowest

/-- The clock steps and power domains of the image (R41 step 7). -/
def State.clockAndPower (s : State) : State :=
  let t := (s.setStep 0 (s.get (WEAR_LANE_STEP 0))).setStep 1 (s.get (WEAR_LANE_STEP 1))
  let hlc := (List.range 12).any (fun n => t.isSet (OUT_CFG_HLC n))
  t.put PWR_DOMAINS_ON (0x3FF + (if hlc then 0x400 else 0) + (if t.get SIT_CFG_ROLE = 0 then 0 else 0x800))

/-- IMAGE_APPLY (R40, R41 step 7): every group comes into force, or the slot's read fails. -/
def State.applyImage (s : State) (readOk : Bool) : State :=
  if !readOk then s.raiseSetting 0x100C s.srcOwner s.runSlot 0
  else
    let t := s.takeAll.liftFloors.assignModulators.ibClocks.clockAndPower
    let t := when (t.esc.gen == 0) (fun u => u.updEsc (fun e => { e with gen := 1 })) t
    t.updCal (fun c => { c with step := 7 })

/-- The label of the tag key (R304), the ASCII name CROWNTAG/CELL padded with zeros to 32 bytes. -/
def tagLabel : List Byte :=
  padTo 32 ([0x43, 0x52, 0x4F, 0x57, 0x4E, 0x54, 0x41, 0x47, 0x2F, 0x43, 0x45, 0x4C, 0x4C].map (BitVec.ofNat 8))

/-- The crown tag's identity and key cell at start-up (R304, R306): the store forms the tag key for the master TAG; without a J_11 that may be
used there is none. -/
def State.tagBoot (s : State) : State :=
  if s.jewelOk 11 opHMAC 11 1 then (s.jewelUsed 11).tagStart (some (hmac (s.jewelVal 11) tagLabel)) else s.tagStart none

/-- TAG_INSTALLER_CHECK (R49, R50, R304, R306, R41 steps 6 and 7): `readOk` says whether the slot's reads during application are
good, `img` is the chosen image with the tag's record as its INSTALLER section. -/
def execTagInstallerCheck (readOk : Bool) (img : Image) (s : State) : Out :=
  if s.gstate ≠ 1 ∨ s.cal.step ≠ 5 then .next s
  else
    let t := s.tagBoot.clr CAL_STATUS_TAG_TAKEN
    let t := when t.cal.run.cfg.tagEn State.readInstaller t
    match (if t.cal.run.cfg.tagEn then t.takeTag img none else none) with
    | some (u, true) => .next (u.updCal (fun c => { c with step := 6 }))
    | some (u, false) => .next (u.applyImage readOk)
    | none => .next (t.applyImage readOk)

/-- SLOT_WRITE_COMMIT (R35, R36, R46): the commit record is read back; `back.ok` is false where verification fails twice (0x100D). A
record of the tag taken at start-up is then applied; `back.readOk` says whether the slot's reads during application are good (R40). -/
def execSlotWriteCommit (back : CommitObs) (s : State) : Out :=
  match s.cal.write with
  | none => .next s
  | some w =>
    let t := if back.ok then (s.slotCommit w).afterCommit w else s.slotWriteFail w
    .next (when (t.gstate == 1 && t.cal.step == 6) (fun u => u.applyImage back.readOk) (t.abortsLate w))

/-! ### Steps 8 to 11 -/

/-- START_SELFTEST_DONE (R22): the failing self-test group, or the lane-level fault code, of each lane. -/
def execStartSelftestDone (a b : Option (Fin 65536)) (s : State) : Out :=
  if s.gstate ≠ 1 ∨ s.cal.step ≠ 7 then .next s
  else
    let code (l : Nat) : Option Nat :=
      match (if l = 0 then a else b) with
      | some v => some v.val
      | none => if s.cal.legalBad.testBit l then some 0x4010 else if s.cal.out.testBit l then some 0 else none
    let t := forUpTo 2 (fun l u =>
      match code l with
      | some v => (u.raise 0x600E DEGRADE (u.srcLane l) l v).updCal (fun c => { c with out := natBit c.out l true })
      | none => u) s
    let t := t.updCal (fun c => { c with step := 8 })
    .next (if t.cal.out = 3 then t.raiseSetting 0x1011 srcCase 0 0 else t)

/-- Sessions cut by a reset end at the next start (R176). -/
def State.endCut (s : State) : State :=
  forUpTo 128 (fun k u =>
    if 1 ≤ u.sst k ∧ u.sst k ≤ 5 then (u.put (SES_STATE_REASON k) s.outs.endReason).endSession k else u) s

/-- The members of the channels whose modulator is retired and whom R91 has not marked: modulator, channel, member. -/
def State.orphans (s : State) : List (Nat × Nat × Bool) :=
  ((List.range 128).flatMap (fun n =>
    let a := (s.get (SNS_CH_MAP_MOD_A n), n, false)
    let b := (s.get (SNS_CH_MAP_MOD_B n), n, true)
    if s.chSrc n = 1 then [a] else if s.chSrc n = 2 then [a, b] else [])).filter (fun m =>
      s.role m.1 == 4 && !s.sns.invalid91.testBit (memberBit m.2.1 m.2.2))

/-- Modulators that need it are calibrated: those that carry channels of a new map, and those whose calibration a reset cut off (R78,
R93). A channel whose modulator is retired there is carried by a spare, or is invalid as under R91 (log entry 132). -/
def State.startCals (s : State) (cals : List ModCal) : State :=
  let t := forUpTo 72 (fun k u =>
    if u.role k = 5 then
      let v := u.applyCal (u.calFor cals k)
      if v.role k = 4 then v else v.setRole k 1
    else if s.cal.newMap && u.role k != 4 then u.applyCal (u.calFor cals k) else u) s
  let t := forEach t.orphans (fun m u => u.assignMember m.1 m.2.1 m.2.2) t
  (t.updCal (fun c => { c with newMap := false })).showSpares

/-- The lanes at step 11 (R22, R227): the owner, and the standby or a lane that is rebooted. -/
def State.startLanes (s : State) : State :=
  let out := s.cal.out
  let owner := if out.testBit 0 then 1 else 0
  let t := (s.setLaneState owner 8).setOwner owner
  if out = 0 then ((t.setGstate 3 0).setLaneState (other owner) 6).setStandbyOk true
  else
    let t := (t.setGstate 4 0x600E).setStandbyOk false
    let t := (t.setLaneState (other owner) 0).set1 RED_STATUS_REC_WIN
    let t := t.put (RED_LANE_WINDOW (other owner)) 0
    t.updRed (fun r => { r with attempt := some s.now })

/-- Whether the start orders of a beat release the outputs (R42): every lane that takes part sends one, with the digest agreed under
R39 at step 5, also where a tag record of step 6 has since replaced the running image. -/
def State.ordersAgree (s : State) (orderA orderB : Option Nat) : Bool :=
  s.cal.out != 3 && (s.cal.out.testBit 0 || orderA == some s.cal.agreed) &&
    (s.cal.out.testBit 1 || orderB == some s.cal.agreed)

/-- START_ORDER (R41 steps 9 to 11, R42, R43): the start orders that reach the Case die in one beat, with the digest each lane sends. It
is held while a power-fail warning stands, and until HOLD is charged. `t100` is the time from reset release in 100 µs. -/
def execStartOrder (t100 : Nat) (x : StartObs) (s : State) : Out :=
  if s.gstate ≠ 1 ∨ s.cal.step ≠ 8 ∨ s.warned ∨ !s.bitOf PWR_STATUS_IN_RANGE rHOLD ∨ !s.ordersAgree x.orderA x.orderB then .next s
  else
    let t := (((s.startCals x.cals).compareRefs x.refs.1 x.refs.2).startLanes).putSat CAL_START_TIME_TIME t100
    let t := (t.safetyRan).updCal (fun c => { c with step := 11 })
    let t := (t.updLgl (fun x => { x with metered := true })).updBzl (fun b => { b with recover := b.startRec.isSome })
    let t := (t.updRed (fun r => { r with swapMono := t.mono, legalMono := t.mono, appliedBeat := t.now })).updMtr (fun x =>
      { x with m := x.m.map (fun y => { y with reg := false, armed := false, crossBeat := t.now }) })
    let t := (forUpTo 8 (fun k u => (u.fnBoth k 0).put (SAF_FN_STATE_CAUSE k) 0) t).fnStatus
    let t := forUpTo 16 (fun k u => u.lcInit k) t.endCut
    let t := forUpTo 12 (fun n u => u.refreshPilot n) t
    let t := t.put SIT_STATUS_STATE (if t.get SIT_CFG_ROLE = 0 then 0 else 2)
    .next (deferredLog t.showPending)

/-- LOADING_TIMEOUT (R43). -/
def execLoadingTimeout (s : State) : Out :=
  if s.gstate = 1 then .next (s.raiseSetting 0x100F srcCase 0 0) else .next s

end Sys2Proof.Machine
end

