-- ==== Sys2Proof/Machine/Beat.lean ====
section
/-! DEFINITION. The 25 µs beat (01_architecture.md, R14, R15; 03_escapement.md, R55 to R57): its work in the order of the pallets,
over what each chapter does in a beat. -/
namespace Sys2Proof.Machine

/-- The next beat number (R55): 0 in the first beat, then one more. -/
def State.countBeat (s : State) : State :=
  let n := if s.esc.gen = 2 then s.beat + 1 else 0
  let t := (s.wrN A_ESC_BEATNO_LO n).put ESC_BEATNO_HI_BEATNO_HI (n / 2 ^ 32)
  { t with esc := { t.esc with gen := 2 } }

/-! ### Quiet beats (R249) -/

/-- No path fault in the last 40 000 beats. -/
def State.pathsQuiet (s : State) : Bool := match s.red.pathBeat with | some b => decide (b + 40000 < s.now) | none => true

/-- No slot write, crown-tag write or update activation is in progress, but for the activation that waits for this beat (R396). -/
def State.writesQuiet (s : State) : Bool :=
  let act : Bool := match s.fwu.act with
    | none => true
    | some a => (a.comp ≤ 2 && a.stage == 2) || (a.comp == 3 && a.stage == 0)
  s.cal.write.isNone && s.nfc.write.isNone && act

/-- Everything a quiet beat asks for but the state changes within the beat. -/
def State.quietBeat (s : State) : Bool :=
  let q := s.now % 400
  s.gstate == 3 && s.standbyOk && s.red.unacked.isEmpty && s.pathsQuiet && s.get GOV_RES_STATE_SUPPLY == 0 &&
    q != 0 && q != 399 && (s.now + 1) % 20 != 0 && s.writesQuiet &&
    (List.range 12).all (fun n => (s.o n).close.step == 0 && s.get (OUT_CONTACT_CSTATE n) != 4) &&
    s.sns.swings.all (fun w => !(w.stage == 1 && (s.now == w.start + 4065 || s.now == w.start + 4066)))

/-- Where the weld window, the residual sensor self-test and the insulation dwell of each outlet stand (R249). -/
def State.outletMarks (s : State) : List (Bool × Nat × Nat) :=
  (List.range 12).map (fun n => ((s.o n).weld.active, (s.o n).close.test, (s.o n).prot.dwell))

/-! ### The essential groups -/

/-- A set of WALL that steps it takes effect in this beat (R135). -/
def State.wallSteps (s : State) : Bool := match s.lgl.wallSet with | some (_, k) => k ≥ 3 | none => false

/-- The flags of the billing records of live sessions (R178): SUBST and HALTED of their meter, CLOCK_SET, DISCHARGE. -/
def State.billingFlags (s : State) (stepped : Bool) : State :=
  forUpTo 12 (fun n u =>
    match u.sesOn n with
    | some k =>
      let m := u.meterOf n
      let f := (if (u.met m).substRun = 0 then 0 else 4) + (if u.isSet (MTR_M_STATE_HALTED m) then 8 else 0) +
        (if stepped then 16 else 0) + (if (u.o n).setMode = 3 ∨ u.discharging n then 32 else 0)
      when (u.sesLive k && f != 0) (fun v => v.updS k (fun x => { x with flags := x.flags ||| f })) u
    | none => u) s

/-- Pallets 0 to 6: the chronometer's sample, intake, calibration, metering and what the legal core adds (R134, R82, R109, R137,
R155). -/
def State.meteringGroup (s : State) (o : BeatObs) : State :=
  let stepped := s.wallSteps
  let t := (s.chronoBeat o.frac).swingsCommit.intake
  let t := ((t.captureBeat).ksBeat).swingsBeat o.cals o.refs
  let t := ((t.metering.tariffBeat).creditBeat).costBeat
  let t := (t.boundaryBeat).billingFlags stepped
  t.roundBeat.islandBeat

/-- The output update of a beat whose set arrived in time (R240): its beat and time, the interval since the last one. -/
def State.noteUpdate (s : State) : State :=
  let t := s.now * 25000 + 15625
  let u := when (decide (s.red.appliedBeat + 1 = s.now) && decide (s.red.lastUpdate ≠ 0)) (fun v =>
    v.raiseTo RED_GAP_MAX_GAP ((t - s.red.lastUpdate) / 10)) s
  u.updRed (fun r => { r with appliedBeat := s.now, lastUpdate := t })

/-- The AUX inputs of the beat. A command set still held is the one that the beat's own set renews (R61). -/
def State.takeAux (s : State) (aux : Nat) : State :=
  let t := s.put SAF_AUX_AUX aux
  { t with outs := { t.outs with aux := aux % 2 ^ 24 },
           saf := { t.saf with elemL := t.saf.heldL.getD t.saf.elemL, heldL := none } }

/-- A command set is applied, or held with element L as it was (R61, R396). -/
def State.commandSet (s : State) (inTime : Bool) (before : Nat) : State :=
  if inTime then s.applySet.noteUpdate
  else
    let drop := sumN ((List.range 12).map (fun p => if s.saf.openL.testBit p then pairMask p else 0))
    State.showOutputs { s with saf := { s.saf with elemL := before, heldL := some (clearMask s.saf.elemL drop) } }

/-- Pallets 7 to 10: protection and outlets, a lock request, the command set and what leaves with it to a card (R14, R61, R62, R300). A set that comes after the start of
pallet 10 is held, and none is applied while the Case controller restarts (R396). -/
def State.outputGroup (s : State) (o : BeatObs) : State :=
  let own := if s.owner = 0 then o.a else o.b
  let inTime := decide (own.cmdAt ≤ 15625) && !s.caseDown
  let t := s.takeAux o.aux
  let t := forUpTo 12 (fun n u => u.outletBeat n) t
  (when inTime State.isoSend (t.commandSet inTime s.saf.elemL)).tryUnlock.lcBeat o.lc

/-! ### The groups of the beat -/

/-- The legal flash check of the standby, repeated every 24 h, where no test runs (R130): the group of the background self-test that holds
it. -/
def State.legalCheckBeat (s : State) : State :=
  if s.gstate = 3 ∧ s.standbyOk ∧ !s.isSet RED_SELFTEST_RUNNING ∧ s.red.legalMono + 86400 ≤ s.mono then
    s.startTest (other s.owner) 0x08 false
  else s

/-- What comes to a beat's start (R249, R381, R355, R46, R396): the swap of an acknowledged HANDOVER, or its end; ports that enter
SERVICE, a bank switch, a slot write's change, an activation that goes on. -/
def State.startGroup (s : State) : State :=
  let t := if s.red.handover = 2 then s.doSwap else s.updRed (fun r => { r with handover := 0 })
  let t := (t.legalCheckBeat.svcBeat.spareBeat).effectBeat
  t.actBeat (t.quietBeat)

/-- The late beats and failures of a lane that the beat shows (R61, R63, R237): the times of its work, a master cut off by the arbiter
(R359), a pallet checker that disagrees. -/
def State.judgeLanes (s : State) (o : BeatObs) : State :=
  let t := s.beatTimes o.a o.b
  let cut (l : Nat) : Bool := (s.get ARB_CUTOFF_MASTER / 8 ^ l) % 8 != 0
  let t := forUpTo 2 (fun l u => when (cut l) (fun v => v.lateBeat l true) u) t
  let t := when o.a.checkerBad (fun u => u.laneFails 0 0) t
  when o.b.checkerBad (fun u => u.laneFails 1 0) t

/-- The end of pallet 11 and the window (R66, R69, R72, R292, R289): admission, the legal field, the crown tag's own writes, what the
registers show. -/
def State.windowGroup (s : State) (o : BeatObs) : State :=
  let t := (s.takeMask.updCeil o.estMw).admitSlices 0
  let t := t.admitSlices 1
  let t := ((t.watchRails o.rails).bezelAdmitted o.rails).legalField
  let t := ((t.tagOwn).showReserve).showLate
  let t := t.resyncStep o.resync o.laneDigest
  when (decide (t.now % secBeats = 0)) State.siteSecond t

/-- The work of a beat while a lane runs. -/
def State.workBeat (s : State) (o : BeatObs) : State :=
  let t := (s.startGroup.meteringGroup o).outputGroup o
  let hand := t.quietBeat && t.outletMarks == s.red.marks
  let t := t.updRed (fun r => { r with marks := t.outletMarks })
  let t := (t.hostBeat.journalEntry hand).judgeLanes o
  let t := t.windowGroup o
  let t := (t.showLoads).supplyBeat o.supply
  when t.pwr.saveDue (fun u => (u.fullSave o.saveOk).updPwr (fun p => { p with saveDue := false })) t

/-- The entries of the beat (R424, R425): written by a lane that runs, kept by the Case die where none does; entries kept from before
a reset are written with DEFERRED set. -/
def State.logBeat (s : State) : State :=
  if s.running then writeLog s
  else if s.tableState = 5 then (if s.lanesReach then writeLog s else keepLog s)
  else if s.tableState = 2 then writeLog (if s.flt.aon.isEmpty then s else deferredLog s)
  else s

/-- A beat outside RUNNING and of a SAFE_HOLD that a lane serves: the chronometer's sample, the supplies, the host interface (R44), the load
channels that the Case die watches (R283). -/
def State.restBeat (s : State) (o : BeatObs) : State :=
  let t := (s.svcBeat.chronoBeat o.frac).hostBeat
  let t := ((t.tagOwn).updJnl (fun j => { j with recs := [] })).lcBeat o.lc
  t.supplyBeat o.supply

/-- The aborts of the last beat whose operation has not reached its commit point take effect (R30, R51, R308, R369, R394). -/
def State.abortBeat (s : State) : State := s.calAborts.updAborts.tagAborts.dmaAborts

/-- The registers that a host read returns as the last finished beat left them (R15), while a lane does the beat's work. -/
def State.finishBeat (s : State) : State :=
  { s with host := { s.host with view := if s.lanesWork then some s.beatView else none } }

/-- BEAT (R55 to R57, R14, R15): the beat begins, released replies go out, its work runs, its faults are logged and GLB.POLL counts.
Before start-up step 7 there is no beat number, and the row serves the host interface alone (log entry 57). -/
def execBeat (obs : BeatObs) (s : State) : Out :=
  if s.pwr.off then .next s
  else
    let t := if s.esc.gen = 0 then s else s.countBeat
    .next (State.within (fun u =>
      let u := if u.lanesWork then u.closeEntry else u
      let u := u.abortBeat.releaseReplies.sendSegs
      let u := if u.lanesWork then u.workBeat obs else u.restBeat obs
      u.logBeat.countPoll.finishBeat) t)

end Sys2Proof.Machine
end

