-- ==== Sys2Proof/Machine/Rounds.lean ====
section
/-! DEFINITION. The placement round of 09_placement.md (R207): what it takes in, in which order, and what waits for the apply beat. -/
namespace Sys2Proof.Machine

/-- Limits and placement parameters accepted since the last round come into force (R47, R208). -/
def State.takeLimits (s : State) : State :=
  when s.cal.roundDue (fun u => (u.updCal (fun c => { c with roundDue := false })).applyGroup 1) s

/-- PLACEMENT_ROUND (R207): round r, in beat 400r, from the means over round r - 1. The registers that show it stand as before until the
apply beat. -/
def execPlacementRound (s : State) : Out :=
  if s.running ∧ s.esc.gen = 2 ∧ s.now % 400 = 0 then
    let old := roundFlds.map s.get
    let t := s.closeRound.takeLimits
    let t := (t.put GOV_PL_LIMIT_EFF_IMPORT_EFF t.importEff).judgeSite
    let t := (t.islandEntry.judgePrice.putB GOV_PL_STATE_SOC_VALID t.batValid).creditStops
    let r := t.breachRound
    let t := r.2.showDc
    let p := t.allocate9 t.pSite t.lBase t.gov.periodDue
    let t := when (p.exportBad && !t.gov.exportBad) (fun u =>
      (u.set1 GOV_PL_EVENTS_EXPORT).raise 0x5304 NOTE u.srcOwner 0 0) t
    let shown := roundFlds.map t.get
    .next ((t.updGov (fun g => { g with
      pending := some { p with shown := shown, lastResort := r.1, period := g.periodDue }
      exportBad := p.exportBad
      periodDue := false })).putRound old)
  else .next s

end Sys2Proof.Machine
end

