-- ==== Sys2Proof/Machine/Dispatch.lean ====
section
/-! DEFINITION. exec: one arm per command, each a direct call of its meaning. -/
namespace Sys2Proof.Machine

/-- The effect of a command on everything but the queue. -/
def exec (i : Instr) (s : State) : Host.Outcome State Fault Refusal :=
  match i with
  | .resetRelease lost => Sys2Proof.Machine.execResetRelease lost s
  | .residentLoaderVerified bad => Sys2Proof.Machine.execResidentLoaderVerified bad s
  | .firmwareSetLoaded corrupt digestBad legalBad => Sys2Proof.Machine.execFirmwareSetLoaded corrupt digestBad legalBad s
  | .slotChoiceAgreed digestBad choiceEqual keysEqual => Sys2Proof.Machine.execSlotChoiceAgreed digestBad choiceEqual keysEqual s
  | .tagInstallerCheck readOk img => Sys2Proof.Machine.execTagInstallerCheck readOk img s
  | .startSelftestDone a b => Sys2Proof.Machine.execStartSelftestDone a b s
  | .startOrder t100 x => Sys2Proof.Machine.execStartOrder t100 x s
  | .loadingTimeout => Sys2Proof.Machine.execLoadingTimeout s
  | .glbResetModule port => Sys2Proof.Machine.execGlbResetModule port s
  | .glbResetRecovery port => Sys2Proof.Machine.execGlbResetRecovery port s
  | .beat obs => Sys2Proof.Machine.execBeat obs s
  | .frameArrival lane f => Sys2Proof.Machine.execFrameArrival lane f s
  | .essentialOverrun lane => Sys2Proof.Machine.execEssentialOverrun lane s
  | .cmdLate => Sys2Proof.Machine.execCmdLate s
  | .coreWatchdogExpiry lane => Sys2Proof.Machine.execCoreWatchdogExpiry lane s
  | .sramEccUncorrectable lane => Sys2Proof.Machine.execSramEccUncorrectable lane s
  | .complicationPost lane kind cost latest subject => Sys2Proof.Machine.execComplicationPost lane kind cost latest subject s
  | .complicationDone lane kind subject result => Sys2Proof.Machine.execComplicationDone lane kind subject result s
  | .complicationOverrun lane kind subject => Sys2Proof.Machine.execComplicationOverrun lane kind subject s
  | .laneTempSample a b caseT aux => Sys2Proof.Machine.execLaneTempSample a b caseT aux s
  | .budgetPublish => Sys2Proof.Machine.execBudgetPublish s
  | .beatnoLoRead port => Sys2Proof.Machine.execBeatnoLoRead port s
  | .budgetRoundRead port => Sys2Proof.Machine.execBudgetRoundRead port s
  | .plRoundRead port => Sys2Proof.Machine.execPlRoundRead port s
  | .ibStuck n => Sys2Proof.Machine.execIbStuck n s
  | .ibclkFault k differs => Sys2Proof.Machine.execIbclkFault k differs s
  | .swingInStart n high spare => Sys2Proof.Machine.execSwingInStart n high spare s
  | .swingRetry n high spare => Sys2Proof.Machine.execSwingRetry n high spare s
  | .modulatorFailed k spare => Sys2Proof.Machine.execModulatorFailed k spare s
  | .knownStateWindow n => Sys2Proof.Machine.execKnownStateWindow n s
  | .ksStale n => Sys2Proof.Machine.execKsStale n s
  | .referenceCompare d10 d0s => Sys2Proof.Machine.execReferenceCompare d10 d0s s
  | .frameLoss => Sys2Proof.Machine.execFrameLoss s
  | .linkDegraded lane => Sys2Proof.Machine.execLinkDegraded lane s
  | .meterNoref m => Sys2Proof.Machine.execMeterNoref m s
  | .meterHalt m => Sys2Proof.Machine.execMeterHalt m s
  | .pulseStart k => Sys2Proof.Machine.execPulseStart k s
  | .pulseEnd k => Sys2Proof.Machine.execPulseEnd k s
  | .deltaSave => Sys2Proof.Machine.execDeltaSave s
  | .fullSave ok => Sys2Proof.Machine.execFullSave ok s
  | .intervalRead port m q => Sys2Proof.Machine.execIntervalRead port m q s
  | .keypadKey key => Sys2Proof.Machine.execKeypadKey key s
  | .keypadEntryTimeout => Sys2Proof.Machine.execKeypadEntryTimeout s
  | .legalShowStep => Sys2Proof.Machine.execLegalShowStep s
  | .chronoSecond comp => Sys2Proof.Machine.execChronoSecond comp s
  | .demandIntervalEnd => Sys2Proof.Machine.execDemandIntervalEnd s
  | .demandSubintervalEnd => Sys2Proof.Machine.execDemandSubintervalEnd s
  | .billingPeriodEnd => Sys2Proof.Machine.execBillingPeriodEnd s
  | .tariffSwitch k => Sys2Proof.Machine.execTariffSwitch k s
  | .tamperCoverOpen => Sys2Proof.Machine.execTamperCoverOpen s
  | .tamperDoorOpen => Sys2Proof.Machine.execTamperDoorOpen s
  | .tamperMagnetic mT ms => Sys2Proof.Machine.execTamperMagnetic mT ms s
  | .legalWriteRefused => Sys2Proof.Machine.execLegalWriteRefused s
  | .tamperBStart m kind phase => Sys2Proof.Machine.execTamperBStart m kind phase s
  | .tamperBEnd m kind phase => Sys2Proof.Machine.execTamperBEnd m kind phase s
  | .accountRecordCommit a ok => Sys2Proof.Machine.execAccountRecordCommit a ok s
  | .pilotPeriodStart n vHigh vLow duty => Sys2Proof.Machine.execPilotPeriodStart n vHigh vLow duty s
  | .pilotStateRecognised n => Sys2Proof.Machine.execPilotStateRecognised n s
  | .deferredAllocation n => Sys2Proof.Machine.execDeferredAllocation n s
  | .pilotInvalid n => Sys2Proof.Machine.execPilotInvalid n s
  | .pilotFHoldEnd n => Sys2Proof.Machine.execPilotFHoldEnd n s
  | .proximityMeasure n r => Sys2Proof.Machine.execProximityMeasure n r s
  | .ppInvalid n => Sys2Proof.Machine.execPpInvalid n s
  | .slacParamReq runId heard => Sys2Proof.Machine.execSlacParamReq runId heard s
  | .mnbcSound n runId atten => Sys2Proof.Machine.execMnbcSound n runId atten s
  | .slacMatch n runId => Sys2Proof.Machine.execSlacMatch n runId s
  | .slacTimeout n => Sys2Proof.Machine.execSlacTimeout n s
  | .sdpRequest n late => Sys2Proof.Machine.execSdpRequest n late s
  | .supportedAppProtocol n ranked late => Sys2Proof.Machine.execSupportedAppProtocol n ranked late s
  | .v2gRequest n m late => Sys2Proof.Machine.execV2gRequest n m late s
  | .tlsClientHello n offer cost => Sys2Proof.Machine.execTlsClientHello n offer cost s
  | .tlsPkTimeout n => Sys2Proof.Machine.execTlsPkTimeout n s
  | .commSetupTimeout n => Sys2Proof.Machine.execCommSetupTimeout n s
  | .sequenceTimeout n => Sys2Proof.Machine.execSequenceTimeout n s
  | .cpStateDetectionTimeout n => Sys2Proof.Machine.execCpStateDetectionTimeout n s
  | .authTimeout k => Sys2Proof.Machine.execAuthTimeout k s
  | .preauthExpiry n => Sys2Proof.Machine.execPreauthExpiry n s
  | .suspendOpenExpiry n => Sys2Proof.Machine.execSuspendOpenExpiry n s
  | .stopLate n => Sys2Proof.Machine.execStopLate n s
  | .v2gStopTimeout n => Sys2Proof.Machine.execV2gStopTimeout n s
  | .dcStopOpen n => Sys2Proof.Machine.execDcStopOpen n s
  | .setpointFrame c k => Sys2Proof.Machine.execSetpointFrame c k s
  | .statusFrame c k bs => Sys2Proof.Machine.execStatusFrame c k bs s
  | .canTargetLost c k => Sys2Proof.Machine.execCanTargetLost c k s
  | .canBusOff c => Sys2Proof.Machine.execCanBusOff c s
  | .busOffRecovery c => Sys2Proof.Machine.execBusOffRecovery c s
  | .rdcSelfTestEnd n => Sys2Proof.Machine.execRdcSelfTestEnd n s
  | .closeTimeout n => Sys2Proof.Machine.execCloseTimeout n s
  | .vmatchTimeout n => Sys2Proof.Machine.execVmatchTimeout n s
  | .auxMismatch n => Sys2Proof.Machine.execAuxMismatch n s
  | .weldProofAc n z => Sys2Proof.Machine.execWeldProofAc n z s
  | .weldProofDc n => Sys2Proof.Machine.execWeldProofDc n s
  | .rdcTrip n ac k => Sys2Proof.Machine.execRdcTrip n ac k s
  | .rdcLockRelease n => Sys2Proof.Machine.execRdcLockRelease n s
  | .insulationDwellEnd n vp vn => Sys2Proof.Machine.execInsulationDwellEnd n vp vn s
  | .ocInst n => Sys2Proof.Machine.execOcInst n s
  | .overvolt n => Sys2Proof.Machine.execOvervolt n s
  | .ocSlow n => Sys2Proof.Machine.execOcSlow n s
  | .connectorThermalLatch n => Sys2Proof.Machine.execConnectorThermalLatch n s
  | .connectorLatchClear n => Sys2Proof.Machine.execConnectorLatchClear n s
  | .holdRetry n => Sys2Proof.Machine.execHoldRetry n s
  | .latchTimeout n => Sys2Proof.Machine.execLatchTimeout n s
  | .protBlind n => Sys2Proof.Machine.execProtBlind n s
  | .placementRound => Sys2Proof.Machine.execPlacementRound s
  | .allocationApply => Sys2Proof.Machine.execAllocationApply s
  | .islandExit => Sys2Proof.Machine.execIslandExit s
  | .batteryDataStale => Sys2Proof.Machine.execBatteryDataStale s
  | .priceStale => Sys2Proof.Machine.execPriceStale s
  | .siteLimitExpiry => Sys2Proof.Machine.execSiteLimitExpiry s
  | .minOffExpiry k => Sys2Proof.Machine.execMinOffExpiry k s
  | .sharePeriodStart => Sys2Proof.Machine.execSharePeriodStart s
  | .shareLowerTimeout k => Sys2Proof.Machine.execShareLowerTimeout k s
  | .partnerLost k => Sys2Proof.Machine.execPartnerLost k s
  | .partnerFailsafe => Sys2Proof.Machine.execPartnerFailsafe s
  | .journalEntryApply own ownerFlag standbyFlag => Sys2Proof.Machine.execJournalEntryApply own ownerFlag standbyFlag s
  | .journalAck jseq => Sys2Proof.Machine.execJournalAck jseq s
  | .journalStall => Sys2Proof.Machine.execJournalStall s
  | .heartbeatVote own stb differs => Sys2Proof.Machine.execHeartbeatVote own stb differs s
  | .resignation lane off => Sys2Proof.Machine.execResignation lane off s
  | .takeoverComplete ns => Sys2Proof.Machine.execTakeoverComplete ns s
  | .takeoverLate => Sys2Proof.Machine.execTakeoverLate s
  | .laneResetRelease lane => Sys2Proof.Machine.execLaneResetRelease lane s
  | .laneResyncDone lane => Sys2Proof.Machine.execLaneResyncDone lane s
  | .resyncAttemptFail lane failed => Sys2Proof.Machine.execResyncAttemptFail lane failed s
  | .resyncRetry lane => Sys2Proof.Machine.execResyncRetry lane s
  | .tourbillonDue => Sys2Proof.Machine.execTourbillonDue s
  | .swapWaitTimeout => Sys2Proof.Machine.execSwapWaitTimeout s
  | .safetyInputAccept hw n run us => Sys2Proof.Machine.execSafetyInputAccept hw n run us s
  | .discrepancyTimeout k => Sys2Proof.Machine.execDiscrepancyTimeout k s
  | .testPulse st readback bad => Sys2Proof.Machine.execTestPulse st readback bad s
  | .safetyCycle => Sys2Proof.Machine.execSafetyCycle s
  | .hwPathCompare agree => Sys2Proof.Machine.execHwPathCompare agree s
  | .pathDisagree k => Sys2Proof.Machine.execPathDisagree k s
  | .stop1Expiry p hw => Sys2Proof.Machine.execStop1Expiry p hw s
  | .lockFault k => Sys2Proof.Machine.execLockFault k s
  | .soOffPulse k low restored vauxMv => Sys2Proof.Machine.execSoOffPulse k low restored vauxMv s
  | .soOverload k mA => Sys2Proof.Machine.execSoOverload k mA s
  | .edmTimeout p => Sys2Proof.Machine.execEdmTimeout p s
  | .safetyUnlockExpiry => Sys2Proof.Machine.execSafetyUnlockExpiry s
  | .pwdLockoutExpiry => Sys2Proof.Machine.execPwdLockoutExpiry s
  | .lcInrushEnd k vOut vaux => Sys2Proof.Machine.execLcInrushEnd k vOut vaux s
  | .lcCurrentLimitCutoff k held => Sys2Proof.Machine.execLcCurrentLimitCutoff k held s
  | .lcThermalLatch k temp => Sys2Proof.Machine.execLcThermalLatch k temp s
  | .lcThermalRelease k temp => Sys2Proof.Machine.execLcThermalRelease k temp s
  | .lcRetry k => Sys2Proof.Machine.execLcRetry k s
  | .lcRetryRefill k => Sys2Proof.Machine.execLcRetryRefill k s
  | .lcClampEvent k e => Sys2Proof.Machine.execLcClampEvent k e s
  | .lcOpenLoad k iUa vauxMv => Sys2Proof.Machine.execLcOpenLoad k iUa vauxMv s
  | .lcOpenLoadClear k o => Sys2Proof.Machine.execLcOpenLoadClear k o s
  | .lcStuck k vOut vaux => Sys2Proof.Machine.execLcStuck k vOut vaux s
  | .motorStall j cur held => Sys2Proof.Machine.execMotorStall j cur held s
  | .motorRunTimeout j => Sys2Proof.Machine.execMotorRunTimeout j s
  | .motorBrakeEnd j => Sys2Proof.Machine.execMotorBrakeEnd j s
  | .lcShed x y z => Sys2Proof.Machine.execLcShed x y z s
  | .bezelPulseEnd charge => Sys2Proof.Machine.execBezelPulseEnd charge s
  | .bezelRestEnd => Sys2Proof.Machine.execBezelRestEnd s
  | .bezelRailResume rails => Sys2Proof.Machine.execBezelRailResume rails s
  | .bezelDropRepost => Sys2Proof.Machine.execBezelDropRepost s
  | .bezelRecovery => Sys2Proof.Machine.execBezelRecovery s
  | .readerPoll card driveOk => Sys2Proof.Machine.execReaderPoll card driveOk s
  | .cardPresenceCheck answered => Sys2Proof.Machine.execCardPresenceCheck answered s
  | .isoDepTimeout => Sys2Proof.Machine.execIsoDepTimeout s
  | .tagFieldOn => Sys2Proof.Machine.execTagFieldOn s
  | .tagFieldLoss => Sys2Proof.Machine.execTagFieldLoss s
  | .tagReqa => Sys2Proof.Machine.execTagReqa s
  | .tagWupa => Sys2Proof.Machine.execTagWupa s
  | .tagAnticollision => Sys2Proof.Machine.execTagAnticollision s
  | .tagSelect => Sys2Proof.Machine.execTagSelect s
  | .tagHlta => Sys2Proof.Machine.execTagHlta s
  | .tagDeselect => Sys2Proof.Machine.execTagDeselect s
  | .getInfo f => Sys2Proof.Machine.execGetInfo f s
  | .readBlock f block => Sys2Proof.Machine.execReadBlock f block s
  | .writeBlock f block data reserve => Sys2Proof.Machine.execWriteBlock f block data reserve s
  | .readCounter f k => Sys2Proof.Machine.execReadCounter f k s
  | .incrCounter f k inc reserve => Sys2Proof.Machine.execIncrCounter f k inc reserve s
  | .pwdAuth f pwd => Sys2Proof.Machine.execPwdAuth f pwd s
  | .authBegin f chal => Sys2Proof.Machine.execAuthBegin f chal s
  | .authEnd f resp => Sys2Proof.Machine.execAuthEnd f resp s
  | .tagWriteCommit failed => Sys2Proof.Machine.execTagWriteCommit failed s
  | .tagSilenceEnd => Sys2Proof.Machine.execTagSilenceEnd s
  | .tagTxnIdleTimeout => Sys2Proof.Machine.execTagTxnIdleTimeout s
  | .tagScrub => Sys2Proof.Machine.execTagScrub s
  | .faultMirrorWrite => Sys2Proof.Machine.execFaultMirrorWrite s
  | .tagHostLockWrite v => Sys2Proof.Machine.execTagHostLockWrite v s
  | .mainsZeroCrossing p positive o => Sys2Proof.Machine.execMainsZeroCrossing p positive o s
  | .zcLost p => Sys2Proof.Machine.execZcLost p s
  | .beatFrameStart p => Sys2Proof.Machine.execBeatFrameStart p s
  | .beatFrameReceived p => Sys2Proof.Machine.execBeatFrameReceived p s
  | .ofdmFrameStart => Sys2Proof.Machine.execOfdmFrameStart s
  | .ofdmDataFrame fch segs => Sys2Proof.Machine.execOfdmDataFrame fch segs s
  | .ofdmAckFrame fch => Sys2Proof.Machine.execOfdmAckFrame fch s
  | .ofdmAckTimeout => Sys2Proof.Machine.execOfdmAckTimeout s
  | .probeFrame k => Sys2Proof.Machine.execProbeFrame k s
  | .linkReportSend => Sys2Proof.Machine.execLinkReportSend s
  | .linkExpiry k => Sys2Proof.Machine.execLinkExpiry k s
  | .partnerReportSend => Sys2Proof.Machine.execPartnerReportSend s
  | .announceSend => Sys2Proof.Machine.execAnnounceSend s
  | .siteMessageRetry => Sys2Proof.Machine.execSiteMessageRetry s
  | .noPrivileged => Sys2Proof.Machine.execNoPrivileged s
  | .report => Sys2Proof.Machine.execReport s
  | .share => Sys2Proof.Machine.execShare s
  | .shareAck => Sys2Proof.Machine.execShareAck s
  | .meterInfo => Sys2Proof.Machine.execMeterInfo s
  | .linkReport => Sys2Proof.Machine.execLinkReport s
  | .toneMap => Sys2Proof.Machine.execToneMap s
  | .announce => Sys2Proof.Machine.execAnnounce s
  | .hostData => Sys2Proof.Machine.execHostData s
  | .e2eAck => Sys2Proof.Machine.execE2eAck s
  | .hostRead port addr words sck late => Sys2Proof.Machine.execHostRead port addr words sck late s
  | .hostReadCrc port addr words sck late => Sys2Proof.Machine.execHostReadCrc port addr words sck late s
  | .hostWrite port addr data sck => Sys2Proof.Machine.execHostWrite port addr data sck s
  | .hostWriteCrc port addr data crc sck => Sys2Proof.Machine.execHostWriteCrc port addr data crc sck s
  | .hostProtocolError port addr sck => Sys2Proof.Machine.execHostProtocolError port addr sck s
  | .hostWriteApply => Sys2Proof.Machine.execHostWriteApply s
  | .registerWrite port addr v => Sys2Proof.Machine.execRegisterWrite port addr v s
  | .wideWord0Read port addr => Sys2Proof.Machine.execWideWord0Read port addr s
  | .glbPollRead port => Sys2Proof.Machine.execGlbPollRead port s
  | .hostWatchdog => Sys2Proof.Machine.execHostWatchdog s
  | .mbxNoticeComplete port k hi => Sys2Proof.Machine.execMbxNoticeComplete port k hi s
  | .mbxReplyRead port k => Sys2Proof.Machine.execMbxReplyRead port k s
  | .interimReply port seq => Sys2Proof.Machine.execInterimReply port seq s
  | .dbOutSetWrite w => Sys2Proof.Machine.execDbOutSetWrite w s
  | .mainplateRequest m acc due t => Sys2Proof.Machine.execMainplateRequest m acc due t s
  | .bankGrant b t ecc => Sys2Proof.Machine.execBankGrant b t ecc s
  | .backoffEnd m b t => Sys2Proof.Machine.execBackoffEnd m b t s
  | .masterCutoff b t => Sys2Proof.Machine.execMasterCutoff b t s
  | .arbCutoffClear w => Sys2Proof.Machine.execArbCutoffClear w s
  | .scrubPassEnd found => Sys2Proof.Machine.execScrubPassEnd found s
  | .scrubLag => Sys2Proof.Machine.execScrubLag s
  | .spareCopyDone found => Sys2Proof.Machine.execSpareCopyDone found s
  | .hackSet port banks => Sys2Proof.Machine.execHackSet port banks s
  | .hackClear w => Sys2Proof.Machine.execHackClear w s
  | .hackTimeout => Sys2Proof.Machine.execHackTimeout s
  | .dmaStart c desc => Sys2Proof.Machine.execDmaStart c desc s
  | .dmaPause c => Sys2Proof.Machine.execDmaPause c s
  | .dmaResume c => Sys2Proof.Machine.execDmaResume c s
  | .dmaAbort c => Sys2Proof.Machine.execDmaAbort c s
  | .dmaVerify n flip => Sys2Proof.Machine.execDmaVerify n flip s
  | .dmaDeadline n => Sys2Proof.Machine.execDmaDeadline n s
  | .svcChallengeExpiry port => Sys2Proof.Machine.execSvcChallengeExpiry port s
  | .svcLockoutEnd => Sys2Proof.Machine.execSvcLockoutEnd s
  | .serviceWorldTimeout port => Sys2Proof.Machine.execServiceWorldTimeout port s
  | .ephemeralJewelClear n => Sys2Proof.Machine.execEphemeralJewelClear n s
  | .entropyTestFail => Sys2Proof.Machine.execEntropyTestFail s
  | .entropyRecovery => Sys2Proof.Machine.execEntropyRecovery s
  | .drbgReseed => Sys2Proof.Machine.execDrbgReseed s
  | .lcFuseReadback equal => Sys2Proof.Machine.execLcFuseReadback equal s
  | .updateLoadCommit => Sys2Proof.Machine.execUpdateLoadCommit s
  | .updateRestoreDone => Sys2Proof.Machine.execUpdateRestoreDone s
  | .caseFwReadyTimeout => Sys2Proof.Machine.execCaseFwReadyTimeout s
  | .gpFwDeferredStart => Sys2Proof.Machine.execGpFwDeferredStart s
  | .recFirstPart bad => Sys2Proof.Machine.execRecFirstPart bad s
  | .recFurtherPart bad => Sys2Proof.Machine.execRecFurtherPart bad s
  | .recCheckDirectory => Sys2Proof.Machine.execRecCheckDirectory s
  | .slackSample a b leakA leakB => Sys2Proof.Machine.execSlackSample a b leakA leakB s
  | .hourlyRecord noise mram flash bad => Sys2Proof.Machine.execHourlyRecord noise mram flash bad s
  | .clockStepApply lane => Sys2Proof.Machine.execClockStepApply lane s
  | .clockStepCheckDone lane => Sys2Proof.Machine.execClockStepCheckDone lane s
  | .powerFailWarning z => Sys2Proof.Machine.execPowerFailWarning z s
  | .warningWithdrawn => Sys2Proof.Machine.execWarningWithdrawn s
  | .vsysToHold => Sys2Proof.Machine.execVsysToHold s
  | .supplyReset => Sys2Proof.Machine.execSupplyReset s
  | .railOut rail => Sys2Proof.Machine.execRailOut rail s
  | .cpSupplyOut neg => Sys2Proof.Machine.execCpSupplyOut neg s
  | .holdLow => Sys2Proof.Machine.execHoldLow s
  | .vbatLow => Sys2Proof.Machine.execVbatLow s
  | .lanePllLost lane => Sys2Proof.Machine.execLanePllLost lane s
  | .periphClockLost d => Sys2Proof.Machine.execPeriphClockLost d s
  | .coreClockLost which => Sys2Proof.Machine.execCoreClockLost which s
  | .thermalLimit die => Sys2Proof.Machine.execThermalLimit die s
  | .refClockMeasure ppm => Sys2Proof.Machine.execRefClockMeasure ppm s
  | .chronoXtalStop => Sys2Proof.Machine.execChronoXtalStop s
  | .chronoXtalRestore => Sys2Proof.Machine.execChronoXtalRestore s
  | .caseWatchdogReset => Sys2Proof.Machine.execCaseWatchdogReset s
  | .faultEntryRead port => Sys2Proof.Machine.execFaultEntryRead port s
  | .essMaxRead port => Sys2Proof.Machine.execEssMaxRead port s
  | .queueFullCntRead port => Sys2Proof.Machine.execQueueFullCntRead port s
  | .compRunRead port k => Sys2Proof.Machine.execCompRunRead port k s
  | .compDropRead port k => Sys2Proof.Machine.execCompDropRead port k s
  | .swingCntRead port => Sys2Proof.Machine.execSwingCntRead port s
  | .chStatRead port n => Sys2Proof.Machine.execChStatRead port n s
  | .meterStateRead port m => Sys2Proof.Machine.execMeterStateRead port m s
  | .plsStatRead port k => Sys2Proof.Machine.execPlsStatRead port k s
  | .tokCountRead port => Sys2Proof.Machine.execTokCountRead port s
  | .sesProtoRead port k => Sys2Proof.Machine.execSesProtoRead port k s
  | .outSlacRead port n => Sys2Proof.Machine.execOutSlacRead port n s
  | .plBreachRead port => Sys2Proof.Machine.execPlBreachRead port s
  | .journalMaxRead port => Sys2Proof.Machine.execJournalMaxRead port s
  | .gapMaxRead port => Sys2Proof.Machine.execGapMaxRead port s
  | .redChecksRead port => Sys2Proof.Machine.execRedChecksRead port s
  | .safCountRead port => Sys2Proof.Machine.execSafCountRead port s
  | .safReactRead port => Sys2Proof.Machine.execSafReactRead port s
  | .lchCountRead port k => Sys2Proof.Machine.execLchCountRead port k s
  | .bzlCountRead port => Sys2Proof.Machine.execBzlCountRead port s
  | .rdCountRead port => Sys2Proof.Machine.execRdCountRead port s
  | .tagStatRead port => Sys2Proof.Machine.execTagStatRead port s
  | .sitCountRead port => Sys2Proof.Machine.execSitCountRead port s
  | .sitErrRead port => Sys2Proof.Machine.execSitErrRead port s
  | .sitDropRead port => Sys2Proof.Machine.execSitDropRead port s
  | .hpdErrRead port n => Sys2Proof.Machine.execHpdErrRead port n s
  | .hpdClkRead port n => Sys2Proof.Machine.execHpdClkRead port n s
  | .arbMissRead port m => Sys2Proof.Machine.execArbMissRead port m s
  | .arbWaitRead port m => Sys2Proof.Machine.execArbWaitRead port m s
  | .arbLoadRead port b => Sys2Proof.Machine.execArbLoadRead port b s
  | .jwUseRead port => Sys2Proof.Machine.execJwUseRead port s
  | .drbgRead port => Sys2Proof.Machine.execDrbgRead port s
  | .pwrVauxRead port => Sys2Proof.Machine.execPwrVauxRead port s
  | .pwrDipsRead port => Sys2Proof.Machine.execPwrDipsRead port s
  | .fltStatusRead port => Sys2Proof.Machine.execFltStatusRead port s
  | .fltCountRead port => Sys2Proof.Machine.execFltCountRead port s
  | .calLoad mb img => Sys2Proof.Machine.execCalLoad mb img s
  | .calPatch mb img => Sys2Proof.Machine.execCalPatch mb img s
  | .calRestartUnits mb => Sys2Proof.Machine.execCalRestartUnits mb s
  | .calAbort mb => Sys2Proof.Machine.execCalAbort mb s
  | .calSlotInfo mb => Sys2Proof.Machine.execCalSlotInfo mb s
  | .calEraseSlot mb => Sys2Proof.Machine.execCalEraseSlot mb s
  | .calTagInstaller mb img => Sys2Proof.Machine.execCalTagInstaller mb img s
  | .slotWriteCommit back => Sys2Proof.Machine.execSlotWriteCommit back s
  | .compMask mb => Sys2Proof.Machine.execCompMask mb s
  | .reserveTighten mb => Sys2Proof.Machine.execReserveTighten mb s
  | .escPlanInfo mb => Sys2Proof.Machine.execEscPlanInfo mb s
  | .snsSwingNow mb => Sys2Proof.Machine.execSnsSwingNow mb s
  | .snsCalAbort mb => Sys2Proof.Machine.execSnsCalAbort mb s
  | .snsKsCal mb => Sys2Proof.Machine.execSnsKsCal mb s
  | .snsRefCheck mb d10 d0s => Sys2Proof.Machine.execSnsRefCheck mb d10 d0s s
  | .snsSpareRetest mb cal => Sys2Proof.Machine.execSnsSpareRetest mb cal s
  | .snsCapture mb => Sys2Proof.Machine.execSnsCapture mb s
  | .lglWallSet mb => Sys2Proof.Machine.execLglWallSet mb s
  | .lglShowId mb => Sys2Proof.Machine.execLglShowId mb s
  | .lglReadLog mb => Sys2Proof.Machine.execLglReadLog mb s
  | .lglReadBilling mb => Sys2Proof.Machine.execLglReadBilling mb s
  | .lglReadTamperB mb => Sys2Proof.Machine.execLglReadTamperB mb s
  | .lglBillClose mb => Sys2Proof.Machine.execLglBillClose mb s
  | .tokSubmit mb => Sys2Proof.Machine.execTokSubmit mb s
  | .tokReadIds mb => Sys2Proof.Machine.execTokReadIds mb s
  | .sesAuthorise mb => Sys2Proof.Machine.execSesAuthorise mb s
  | .sesPreauth mb => Sys2Proof.Machine.execSesPreauth mb s
  | .sesLimits mb => Sys2Proof.Machine.execSesLimits mb s
  | .sesStop mb => Sys2Proof.Machine.execSesStop mb s
  | .sesStopAbort mb => Sys2Proof.Machine.execSesStopAbort mb s
  | .sesCollect mb => Sys2Proof.Machine.execSesCollect mb s
  | .sesAck mb => Sys2Proof.Machine.execSesAck mb s
  | .outEnable mb => Sys2Proof.Machine.execOutEnable mb s
  | .v2gTrust mb ok => Sys2Proof.Machine.execV2gTrust mb ok s
  | .v2gCertReply mb => Sys2Proof.Machine.execV2gCertReply mb s
  | .protClear mb => Sys2Proof.Machine.execProtClear mb s
  | .rdcTest mb => Sys2Proof.Machine.execRdcTest mb s
  | .placePrice mb => Sys2Proof.Machine.execPlacePrice mb s
  | .placeBattery mb => Sys2Proof.Machine.execPlaceBattery mb s
  | .placeSiteLimit mb => Sys2Proof.Machine.execPlaceSiteLimit mb s
  | .placeInfo mb => Sys2Proof.Machine.execPlaceInfo mb s
  | .redSwap mb => Sys2Proof.Machine.execRedSwap mb s
  | .redSelftest mb => Sys2Proof.Machine.execRedSelftest mb s
  | .redLaneRestart mb => Sys2Proof.Machine.execRedLaneRestart mb s
  | .redLaneEnable mb => Sys2Proof.Machine.execRedLaneEnable mb s
  | .redInfo mb => Sys2Proof.Machine.execRedInfo mb s
  | .safUnlock mb => Sys2Proof.Machine.execSafUnlock mb s
  | .safLock mb => Sys2Proof.Machine.execSafLock mb s
  | .safSetPassword mb => Sys2Proof.Machine.execSafSetPassword mb s
  | .safReset mb => Sys2Proof.Machine.execSafReset mb s
  | .safGuard mb => Sys2Proof.Machine.execSafGuard mb s
  | .safReadLog mb => Sys2Proof.Machine.execSafReadLog mb s
  | .lchDrive mb => Sys2Proof.Machine.execLchDrive mb s
  | .lchMotor mb => Sys2Proof.Machine.execLchMotor mb s
  | .lchClear mb => Sys2Proof.Machine.execLchClear mb s
  | .lchOlTest mb vOut vaux => Sys2Proof.Machine.execLchOlTest mb vOut vaux s
  | .bzlShow mb => Sys2Proof.Machine.execBzlShow mb s
  | .bzlRefresh mb => Sys2Proof.Machine.execBzlRefresh mb s
  | .bzlStressRead mb => Sys2Proof.Machine.execBzlStressRead mb s
  | .nfcRdEnable mb => Sys2Proof.Machine.execNfcRdEnable mb s
  | .nfcRdApdu mb => Sys2Proof.Machine.execNfcRdApdu mb s
  | .nfcRdRelease mb => Sys2Proof.Machine.execNfcRdRelease mb s
  | .nfcCardRespond mb => Sys2Proof.Machine.execNfcCardRespond mb s
  | .nfcTagRead mb => Sys2Proof.Machine.execNfcTagRead mb s
  | .nfcTagWrite mb => Sys2Proof.Machine.execNfcTagWrite mb s
  | .nfcTagAbort mb => Sys2Proof.Machine.execNfcTagAbort mb s
  | .nfcTagCounter mb => Sys2Proof.Machine.execNfcTagCounter mb s
  | .nfcTagPwd mb => Sys2Proof.Machine.execNfcTagPwd mb s
  | .sitSend mb => Sys2Proof.Machine.execSitSend mb s
  | .sitRecv mb => Sys2Proof.Machine.execSitRecv mb s
  | .sitLinkInfo mb => Sys2Proof.Machine.execSitLinkInfo mb s
  | .sitProbe mb => Sys2Proof.Machine.execSitProbe mb s
  | .keySvcChallenge mb => Sys2Proof.Machine.execKeySvcChallenge mb s
  | .keySvcResponse mb => Sys2Proof.Machine.execKeySvcResponse mb s
  | .keyPublic mb => Sys2Proof.Machine.execKeyPublic mb s
  | .keyImport mb => Sys2Proof.Machine.execKeyImport mb s
  | .keyGenerate mb => Sys2Proof.Machine.execKeyGenerate mb s
  | .keyRespond mb => Sys2Proof.Machine.execKeyRespond mb s
  | .keyErase mb => Sys2Proof.Machine.execKeyErase mb s
  | .keyExport mb => Sys2Proof.Machine.execKeyExport mb s
  | .keyLcAdvance mb => Sys2Proof.Machine.execKeyLcAdvance mb s
  | .updBegin mb => Sys2Proof.Machine.execUpdBegin mb s
  | .updChunk mb bad => Sys2Proof.Machine.execUpdChunk mb bad s
  | .updAbort mb => Sys2Proof.Machine.execUpdAbort mb s
  | .updActivate mb => Sys2Proof.Machine.execUpdActivate mb s
  | .updInfo mb => Sys2Proof.Machine.execUpdInfo mb s
  | .wearReadHourly mb => Sys2Proof.Machine.execWearReadHourly mb s
  | .wearReadYearly mb => Sys2Proof.Machine.execWearReadYearly mb s
  | .wearEstimate mb => Sys2Proof.Machine.execWearEstimate mb s
  | .remontoireOn => Sys2Proof.Machine.execRemontoireOn s
  | .remontoireOff => Sys2Proof.Machine.execRemontoireOff s
  | .railBackInRange rail => Sys2Proof.Machine.execRailBackInRange rail s
  | .periphClockReturn d => Sys2Proof.Machine.execPeriphClockReturn d s
  | .preambleLost => Sys2Proof.Machine.execPreambleLost s
  | .isoDepBlockReceived b => Sys2Proof.Machine.execIsoDepBlockReceived b s
  | .isnsSelectionChange sel => Sys2Proof.Machine.execIsnsSelectionChange sel s
  | .unitRestartDone unit => Sys2Proof.Machine.execUnitRestartDone unit s
  | .redSwapTimeout => Sys2Proof.Machine.execRedSwapTimeout s
  | .tamperClosedReading door => Sys2Proof.Machine.execTamperClosedReading door s
  | .sextantStart j energy => Sys2Proof.Machine.execSextantStart j energy s

end Sys2Proof.Machine
end

