-- ==== Sys2Proof/Safety.lean ====
section
/-! DEFINITION. What a good state of the block is, in the terms the statements use. -/
namespace Sys2Proof.Machine

/-- Every listed register differs from its reset value, the addresses rise, and the Mainplate's listed bytes are in
canonical form: equal machines are equal data. -/
def State.canonical (s : State) : Prop := kvWf regReset s.regs = true ∧ Memory.wf s.ram = true

/-- The logs of fixed size hold no more than the spec gives them: 4 096 fault entries (R424), 1 024 legal events (R147), 64 safety
changes (R267). -/
def State.logsFit (s : State) : Prop := s.flt.ring.length ≤ 4096 ∧ s.lgl.log.length ≤ 1024 ∧ s.saf.log.length ≤ 64

/-- A good state: registers and Mainplate in canonical form, every log within its size. -/
def State.Good (s : State) : Prop :=
  kvWf regReset s.regs = true ∧ Memory.wf s.ram = true ∧ s.flt.ring.length ≤ 4096 ∧ s.lgl.log.length ≤ 1024 ∧ s.saf.log.length ≤ 64

/-- One bit of the division of R336: polynomial 0x1021, the bits of a byte most significant first. -/
def crcDivideBit (c : Nat) (b : Bool) : Nat :=
  if (decide (2 ^ 15 ≤ c)) != b then (2 * c % 2 ^ 16) ^^^ 0x1021 else 2 * c % 2 ^ 16

/-- The CRC-16 of R336, bit by bit, from 0xFFFF. -/
def crcDivide (bs : List Byte) : Nat :=
  bs.foldl (fun c b => (List.range 8).foldl (fun d i => crcDivideBit d (b.getMsbD i)) c) 0xFFFF

/-- A host command with a code waits at a mailbox, the global state is one its table names (that of a part whose outputs stay in the setting position
being SETTING, R24), and its port may send it. -/
abbrev State.takes (s : State) (mb code : Nat) (acc : Accept) (service : Bool) (c : Cmd) : Prop :=
  s.waitingCmd mb code = some c ∧ acc.ok s.tableState = true ∧ (service && !s.inService c.port) = false

/-- A read through a port returns the register as it stands, and latches no other: the register is mapped, and no latched word of it
waits for the port (R8, R18). -/
abbrev State.readsNow (s : State) (port a : Nat) (r : RegRow) : Prop :=
  s.regAt a = some r ∧ s.host.latches.find? (fun l => l.port == port && l.addr == a) = none ∧ groupOf a r = []

/-- The same of a register that latches others with it (R6 RS, R18). -/
abbrev State.latchesNow (s : State) (port a : Nat) (r : RegRow) (g : List Nat) : Prop :=
  s.regAt a = some r ∧ s.host.latches.find? (fun l => l.port == port && l.addr == a) = none ∧ groupOf a r = g ∧ r.rc = 0

/-- A read through a port returns a register of a unit that has started and clears its RC fields (R6, R44). -/
abbrev State.clearsNow (s : State) (port a : Nat) (r : RegRow) : Prop :=
  s.readsNow port a r ∧ r.rc ≠ 0 ∧ s.dormant a = false

/-- A state in which the work of a beat is running (log entry 6). -/
abbrev State.inside (s : State) : State := { s with esc := { s.esc with inBeat := true } }

/-- A state after the work of a beat (log entry 6). -/
abbrev State.doneIn (s : State) : State := { s with esc := { s.esc with inBeat := false } }

end Sys2Proof.Machine
end

