-- ==== Sys2Proof/Certificates/Slice0/Obligations.lean ====
section
/-! DEFINITION. The statements about the model, each named Obligations.<Name> and listed in OBLIGATIONS.json. -/
open Sys2Proof Sys2Proof.Machine

/-- A step takes the command at the front of the queue and runs it with the rest; an empty queue idles (the model's choice, log
entry 1). -/
def Obligations.StepRunsFrontCommand : Prop :=
  (∀ (c : Instr) (rest : List Instr) (s : State), s.pending = c :: rest → step s = exec c { s with pending := rest }) ∧
  (∀ s : State, s.pending = [] → step s = .next s)

/-- No row of the opcode table gives bits: no word spells a command, and withFetchWord changes nothing (log entry 8). -/
def Obligations.NoWordSpellsCommand : Prop :=
  ∀ (nbits w : Nat) (s : State), Sys2Proof.decodeTableWord nbits w = none ∧ s.withFetchWord nbits w = s

/-- The machine right after reset: BOOT, every register at its reset value (R22, R6; where no reset value is given, log entry 2),
RAM 0 (log entry 3), empty queue, ports and logs. -/
def Obligations.ResetState : Prop :=
  State.reset.pending = [] ∧ State.reset.gstate = 0 ∧ (∀ a, State.reset.rd a = regReset a) ∧
  (∀ a, Memory.byte State.reset.ram a = 0#8) ∧ State.reset.host.writes = [] ∧ State.reset.host.exec = [] ∧
  State.reset.host.queue = [] ∧ State.reset.flt.ring = [] ∧ State.reset.flt.waiting = [] ∧ State.reset.lgl.log = [] ∧
  State.reset.saf.log = []

/-- The reset state meets the invariant that every step keeps. -/
def Obligations.ResetIsGood : Prop := State.Good State.reset

/-- Every step keeps the canonical form of the registers and of the Mainplate, and the sizes of the fault log (R424), the legal log
(R147) and the safety change log (R267). -/
def Obligations.StepKeepsGood : Prop := ∀ s t : State, State.Good s → step s = .next t → State.Good t

/-- No command of the table stops the block: for each of the 410 constructors of Instr, whatever its operands and the state, exec answers
a next state. The next state of each form's own effect stands in the statements named …Complete. -/
def Obligations.EveryCommandCompletes : Prop :=
  (∀ (c : Instr) (s : State), ∃ t, exec c s = .next t) ∧ (∀ s : State, ∃ t, step s = .next t)

/-- The register operations under every access type (R6): a field put to v reads v modulo its width; fields elsewhere, and all state
but the registers, stay as they were. -/
def Obligations.FieldReadAfterWrite : Prop :=
  (∀ (s : State) (f : Fld) (v : Nat), f.lo + f.len ≤ 32 → (s.put f v).get f = v % 2 ^ f.len) ∧
  (∀ (s : State) (f g : Fld) (v : Nat), kvWf regReset s.regs = true → f.lo + f.len ≤ 32 →
    (g.addr ≠ f.addr ∨ g.lo + g.len ≤ f.lo ∨ f.lo + f.len ≤ g.lo) → (s.put f v).get g = s.get g) ∧
  (∀ (s : State) (f : Fld) (v : Nat), { s.put f v with regs := s.regs } = s)

/-- R16: additions to an accumulator are exact (while the sum fits in the register, R9); no other register word changes. -/
def Obligations.AccumulatorAddExact : Prop :=
  ∀ (s : State) (a : Nat) (d : Int), kvWf regReset s.regs = true →
    -(2 : Int) ^ 127 ≤ s.rd128i a + d → s.rd128i a + d < (2 : Int) ^ 127 →
    (s.acc128 a d).rd128i a = s.rd128i a + d ∧
    ∀ b, b ≠ a → b ≠ a + 4 → b ≠ a + 8 → b ≠ a + 12 → (s.acc128 a d).rd b = s.rd b

/-- Stores of the Mainplate (R350, R338): a read after a write gives the bytes written, every byte outside them reads as before. -/
def Obligations.MainplateStore : Prop :=
  ∀ (s : State) (a : Nat) (bs : List Byte), Memory.wf s.ram = true → s.mp.poison = [] → mainplateBase ≤ a →
    a + bs.length ≤ 0x41000000 →
    (s.mpWrite a bs).mpRead a bs.length = bs ∧
    (∀ off, off < ramOff a ∨ ramOff a + bs.length ≤ off → Memory.byte (s.mpWrite a bs).ram off = Memory.byte s.ram off) ∧
    { s.mpWrite a bs with ram := s.ram } = s

/-- R426: falling class, then rising code, then rising PARAM0; no entry is lost or invented. -/
def Obligations.FaultOrder : Prop :=
  ∀ l : List FaultEntry, (sortEntries l).Perm l ∧
    (sortEntries l).Pairwise (fun x y => y.cls < x.cls ∨ (x.cls = y.cls ∧ (x.code < y.code ∨ (x.code = y.code ∧ x.p0 ≤ y.p0))))

/-- R424: an entry takes the next SEQ and a place in the ring of 4 096, the oldest going when it is full (R424, R427). -/
def Obligations.FaultLogWrite : Prop :=
  ∀ (e : FaultEntry) (s : State), kvWf regReset s.regs = true →
    (writeEntry e s).flt.ring = { e with seq := s.rdN A_FLT_HEAD + 1 } :: s.flt.ring.take 4095 ∧
    (writeEntry e s).flt.ring.length ≤ 4096 ∧
    (writeEntry e s).rdN A_FLT_HEAD = (s.rdN A_FLT_HEAD + 1) % 2 ^ 32 ∧
    (writeEntry e s).get FLT_STATUS_UNREAD = min 4096 (s.rdN A_FLT_HEAD + 1 - s.rdN A_FLT_ACK) ∧
    (writeEntry e s).ram = s.ram ∧ (writeEntry e s).outs = s.outs ∧ (writeEntry e s).red = s.red

/-- The layout of R423, little-endian; each field modulo its width. -/
def Obligations.FaultEntryLayout : Prop :=
  ∀ e : FaultEntry, e.bytes.length = 32 ∧
    ofLe (e.bytes.take 6) = e.beat % 2 ^ 48 ∧
    ofLe ((e.bytes.drop 6).take 2) = e.code % 2 ^ 16 ∧
    ofLe ((e.bytes.drop 8).take 8) = e.mono % 2 ^ 64 ∧
    ofLe ((e.bytes.drop 16).take 4) = e.wall % 2 ^ 32 ∧
    ofLe ((e.bytes.drop 20).take 4) = e.seq % 2 ^ 32 ∧
    ofLe ((e.bytes.drop 24).take 1) = e.source % 2 ^ 8 ∧
    ofLe ((e.bytes.drop 25).take 1) = (e.cls + (if e.deferred then 8 else 0) + (if e.suppressed then 16 else 0)) % 2 ^ 8 ∧
    ofLe ((e.bytes.drop 26).take 2) = e.p0 % 2 ^ 16 ∧
    ofLe ((e.bytes.drop 28).take 4) = e.p1 % 2 ^ 32

/-- Step 3 of R66 on a queue already in its order. -/
def Obligations.AdmissionFits : Prop :=
  ∀ (ok : Nat → Bool) (left : Nat) (q : List Comp),
    ((admitGo ok left q).1.map (fun c => c.cost)).sum ≤ left ∧
    (∀ c ∈ (admitGo ok left q).1, ok c.kind = true) ∧
    (admitGo ok left q).1.Sublist q ∧ (admitGo ok left q).2.Sublist q ∧
    ((admitGo ok left q).1 ++ (admitGo ok left q).2).Perm q ∧
    (∀ c ∈ (admitGo ok left q).2, ok c.kind = true → left < ((admitGo ok left q).1.map (fun d => d.cost)).sum + c.cost)

/-- R66, R68, R69: what runs in pallets 12 to 14 fits the window; SELF_TEST never runs on the owner. -/
def Obligations.AdmissionWindow : Prop :=
  ∀ (s : State) (lane : Nat), lane < 2 →
    (((s.admitSlices lane).slices lane).map (fun c => c.cost)).sum ≤ s.window lane ∧ s.window lane ≤ 5625 ∧
    (s.therm lane = 2 ∨ s.isSet GOV_RES_STATE_CEIL = true ∨ s.warned = true → s.window lane = 0) ∧
    (lane = s.owner → ∀ c ∈ (s.admitSlices lane).slices lane, c.kind ≠ kSELF_TEST)

/-- R65; that the owner's queue is the one ESC.QUEUE shows is the model's reading. -/
def Obligations.QueueOf256 : Prop :=
  ∀ (s : State) (lane : Nat) (c : Comp), kvWf regReset s.regs = true → lane < 2 → (s.queue lane).length ≤ 256 →
    ((s.postComp lane c).queue lane).length ≤ 256 ∧
    ((s.queue lane).length < 256 → (s.postComp lane c).queue lane = s.queue lane ++ [c]) ∧
    ((s.queue lane).length = 256 → (s.postComp lane c).queue lane = s.queue lane ∧
      (lane = s.owner → (s.postComp lane c).get ESC_QUEUE_FULL_CNT =
        min (s.get ESC_QUEUE_FULL_CNT + 1) (2 ^ ESC_QUEUE_FULL_CNT.len - 1))) ∧
    (s.postComp lane c).queue (1 - lane) = s.queue (1 - lane)

/-- R356: the least slack, on equal slack the lower master; R357: the backoff after the j-th consecutive loss. -/
def Obligations.LeastSlackGrant : Prop :=
  (∀ (t : Nat) (l : List MpReq), (leastSlack t l = none ↔ l = []) ∧
    ∀ r, leastSlack t l = some r → r ∈ l ∧
      ∀ q ∈ l, r.slack t < q.slack t ∨ (r.slack t = q.slack t ∧ r.master ≤ q.master)) ∧
  (∀ (r : MpReq) (t j : Nat), r.losses + 1 = j → (r.lose t).losses = j ∧ (r.lose t).backEnd = t + min 1024 (2 ^ (j - 1)))

/-- R73 for a temperature num/den in 0.1 °C. -/
def Obligations.DerateOfTemperature : Prop :=
  ∀ (s : State) (den : Nat), 0 < den → s.get GOV_RES_THERM_CFG_CASE_START < s.get GOV_RES_THERM_CFG_CASE_END →
    let st : Int := 10 * s.get GOV_RES_THERM_CFG_CASE_START * den
    let en : Int := 10 * s.get GOV_RES_THERM_CFG_CASE_END * den
    (∀ num : Int, num ≤ st → s.derateOf num den = 0x10000) ∧ (∀ num : Int, en ≤ num → s.derateOf num den = 0) ∧
    (∀ num : Int, st < num → num < en →
      (s.derateOf num den : Int) * (en - st) ≤ (en - num) * 65536 ∧ (en - num) * 65536 < ((s.derateOf num den : Int) + 1) * (en - st)) ∧
    (∀ x y : Int, x ≤ y → s.derateOf y den ≤ s.derateOf x den) ∧ (∀ num : Int, s.derateOf num den ≤ 0x10000)

/-- R162, with its examples. -/
def Obligations.PilotDuty : Prop :=
  (∀ i : Nat, i < 6000000 → dutyUa i = 0) ∧
  (∀ i : Nat, 6000000 ≤ i → i ≤ 51000000 → 6000 * dutyUa i ≤ i ∧ i < 6000 * (dutyUa i + 1)) ∧
  (∀ i : Nat, 51000000 < i → i ≤ 63000000 → 6400 ≤ dutyUa i ∧ 25000 * (dutyUa i - 6400) ≤ i ∧ i < 25000 * (dutyUa i - 6400 + 1)) ∧
  dutyUa 16000000 = 2666 ∧ dutyUa 63000000 = 8920 ∧ dutyUa 20000000 = 3333 ∧ dutyUa 10000000 = 1666

/-- The high-plateau bands of R160 (0 A to 4 E, 5 INVALID, in mV) and the resistance bands of R164 (0 no plug, 1 to 4 the ratings,
5 invalid). -/
def Obligations.PilotAndProximityBands : Prop :=
  (∀ v : Int, (bandOf v = 0 ↔ 11000 ≤ v ∧ v ≤ 13000) ∧ (bandOf v = 1 ↔ 8000 ≤ v ∧ v ≤ 10000) ∧
    (bandOf v = 2 ↔ 5000 ≤ v ∧ v ≤ 7000) ∧ (bandOf v = 3 ↔ 2000 ≤ v ∧ v ≤ 4000) ∧ (bandOf v = 4 ↔ -1000 ≤ v ∧ v ≤ 1000) ∧
    bandOf v ≤ 5) ∧
  (∀ r : Nat, (ppClass r = 0 ↔ 4500 ≤ r) ∧ (ppClass r = 1 ↔ 1100 ≤ r ∧ r < 2700) ∧ (ppClass r = 2 ↔ 440 ≤ r ∧ r < 1100) ∧
    (ppClass r = 3 ↔ 160 ≤ r ∧ r < 440) ∧ (ppClass r = 4 ↔ 60 ≤ r ∧ r < 160) ∧ ppClass r ≤ 5)

/-- R84, F = 2^23, with its example. -/
def Obligations.DualRangeCrossFade : Prop :=
  (∀ (x : Int) (above : Bool), 0 ≤ dualWeight x above false ∧ dualWeight x above false ≤ 65536) ∧
  (∀ x : Int, 10 * (x.natAbs : Int) ≤ 2 * 2 ^ 23 → dualWeight x false false = 65536) ∧
  (∀ (x : Int) (above : Bool), above = true ∨ 8 * 2 ^ 23 ≤ 10 * (x.natAbs : Int) → dualWeight x above false = 0) ∧
  (∀ x : Int, 2 * 2 ^ 23 < 10 * (x.natAbs : Int) → 10 * (x.natAbs : Int) < 8 * 2 ^ 23 →
    dualWeight x false false * (6 * 2 ^ 23) ≤ (8 * 2 ^ 23 - 10 * (x.natAbs : Int)) * 65536 ∧
    (8 * 2 ^ 23 - 10 * (x.natAbs : Int)) * 65536 < (dualWeight x false false + 1) * (6 * 2 ^ 23)) ∧
  (∀ h x w : Int, 0 ≤ w → w ≤ 65536 → min h x ≤ crossFade h x w ∧ crossFade h x w ≤ max h x) ∧
  (∀ h x : Int, crossFade h x 65536 = h ∧ crossFade h x 0 = x) ∧
  crossFade 4194500 4194304 (dualWeight 4194304 false false) = 4194402

/-- R102 on a table of (breakpoint, G, D), the index in 2^-40 of a breakpoint's unit. -/
def Obligations.CorrectionSegment : Prop :=
  ∀ (tab : List (Nat × Int × Int)) (idx : Nat),
    (∀ j, j < 7 → (nth tab (0, 0, 0) j).1 < (nth tab (0, 0, 0) (j + 1)).1) →
    let b := fun k => (nth tab (0, 0, 0) k).1 * 2 ^ 40
    (idx < b 0 → segmentOf tab idx = (0, 0, (nth tab (0, 0, 0) 0).2.1, (nth tab (0, 0, 0) 0).2.2)) ∧
    (b 7 ≤ idx → segmentOf tab idx = (7, 0, (nth tab (0, 0, 0) 7).2.1, (nth tab (0, 0, 0) 7).2.2)) ∧
    (b 0 ≤ idx → idx < b 7 →
      let k := (segmentOf tab idx).1
      let t := (segmentOf tab idx).2.1
      k < 7 ∧ b k ≤ idx ∧ idx < b (k + 1) ∧ t < 65536 ∧
        t * (b (k + 1) - b k) ≤ (idx - b k) * 65536 ∧ (idx - b k) * 65536 < (t + 1) * (b (k + 1) - b k))

/-- The transfer of R110: totals only rise, and nothing is lost. -/
def Obligations.PendingTransfer : Prop :=
  ∀ (known : Bool) (bar pend : Int),
    ((transfer known bar pend).1 : Int) - (transfer known bar pend).2.1 + (transfer known bar pend).2.2 = pend ∧
    (known = true → 0 < pend → 0 ≤ bar → transfer known bar pend = (pend.toNat, 0, 0)) ∧
    (known = true → pend < 0 → bar < 0 → transfer known bar pend = (0, (-pend).toNat, 0)) ∧
    (known = false ∨ (0 ≤ pend ∧ bar < 0) ∨ (pend ≤ 0 ∧ 0 ≤ bar) → transfer known bar pend = (0, 0, pend))

/-- The conversion of R401 in 0.1 ps; steps 0, 1, 2 are 1.2, 1.1 and 1.0 GHz. -/
def Obligations.SlackConversion : Prop :=
  period 0 = 8333 ∧ period 1 = 9091 ∧ period 2 = 10000 ∧
  (∀ (v : Int) (x y : Nat), convertSlack v x y = 10 * v + (period y - period x)) ∧
  (∀ (v : Int) (x y : Nat), convertSlack v x y + convertSlack v y x = 20 * v)

/-- R414. The entry is raised by powerEntry, which FIRMWARE_SET_LOADED runs at the next start. -/
def Obligations.RailLossResets : Prop :=
  (∀ (rail : Fin 3) (s : State), kvWf regReset s.regs = true → ∃ t, exec (.railOut rail) s = .next t ∧ t.gstate = 0 ∧
    t.get GLB_RESET_CAUSE_CAUSE = 0x01 ∧ t.isSet PWR_STATUS_WARN = false ∧ t.pwr.fault = some (0xC103, rail.val) ∧
    t.mtr.full = s.mtr.full ∧ t.mtr.deltas = s.mtr.deltas) ∧
  (∀ (rail : Fin 3) (s : State), s.pwr.fault = some (0xC103, rail.val) →
    ∃ e : FaultEntry, s.powerEntry.flt.waiting = s.flt.waiting ++ [e] ∧ e.code = 0xC103 ∧ e.p0 = rail.val ∧
      s.powerEntry.pwr.fault = none)

/-- R29, for a write of the register alone and for the judgement of a whole write transaction (SCRAPPED apart, where only the six
registers of R27 exist). -/
def Obligations.ResetAccess : Prop :=
  ∀ (port : Fin 2) (v : Word) (s : State), s.glb.lifecycle ≠ 4 →
    ((s.gstate = 3 ∨ s.gstate = 4) → s.inService port = false →
      s.writeCode port A_GLB_RESET [v.toNat] false = 0xA003 ∧
      exec (.registerWrite port (BitVec.ofNat 32 A_GLB_RESET) v) s = .next (s.hostFail port 0xA003 A_GLB_RESET) ∧
      { s.hostFail port 0xA003 A_GLB_RESET with regs := s.regs, flt := s.flt } = s) ∧
    ((s.gstate ≠ 3 ∧ s.gstate ≠ 4) ∨ s.inService port = true →
      s.writeCode port A_GLB_RESET [v.toNat] false = 0 ∧
      exec (.registerWrite port (BitVec.ofNat 32 A_GLB_RESET) v) s = .next ((s.notePoll.writeReset v.toNat).notePoll))

/-- R336; crcDivide is the division written bit by bit. -/
def Obligations.Crc16OfTransactions : Prop :=
  (∀ bs : List Byte, crc16 bs = crcDivide bs) ∧
  (∀ (port : Fin 2) (addr : BitVec 32) (data : List Word) (crc : BitVec 16) (sck : Nat) (s : State),
    exec (.hostWriteCrc port addr data crc sck) s = .next (s.hostWrite port addr.toNat (data.map (fun v => v.toNat)) sck false
      (decide (crcDivide (headBytes 0x12 addr.toNat ++ data.flatMap (fun v => le 4 v.toNat)) ≠ crc.toNat)))) ∧
  (∀ a : Nat, headBytes 0x12 a = [0x12#8, BitVec.ofNat 8 (a / 2 ^ 24), BitVec.ofNat 8 (a / 2 ^ 16), BitVec.ofNat 8 (a / 2 ^ 8),
    BitVec.ofNat 8 a]) ∧
  (∀ v : Nat, crcBytes v = [BitVec.ofNat 8 (v / 256), BitVec.ofNat 8 v]) ∧
  (∀ (s : State) (port a n sck : Nat) (late : List Nat), s.pwr.off = false → shapeOk a n = true → port < s.host.out.length →
    let x := readWords port a (window338 a) late n 0 {} (s.countTxn port sck)
    x.1.bad = false → port < x.2.host.out.length →
    nth (s.hostRead port a n sck late true).host.out [] port =
      x.1.bytes ++ crcBytes (crcDivide (headBytes 0x0C a ++ x.1.bytes)))

/-- The first row of the table of R276 (and R203 for the outlets' own latch stands apart). -/
def Obligations.ThermalLatchWins : Prop :=
  ∀ (k : Fin 16) (s : State), kvWf regReset s.regs = true → s.lcst k = lcWAIT → (s.lc k).due ≤ s.now →
    (s.lc k).pend ≠ some false → s.isSet (LCH_STATE_LATCH k) = true →
    ∃ t, exec (.lcRetry k) s = .next t ∧ t.get (LCH_STATE_ST k) = 5 ∧ t.get (LCH_STATE_LEFT k) = s.get (LCH_STATE_LEFT k) ∧
      t.lcOn k = false ∧ t.ram = s.ram ∧ t.outs = s.outs ∧ t.lch = s.lch

/-- R343, R44, R24, R25: the judgement every host command begins with (no waiting command: log entry 5). -/
def Obligations.CommandsTurnedAway : Prop :=
  ∀ (s : State) (mb code : Nat) (acc : Accept) (service : Bool) (body : Cmd → State → State),
    (s.waitingCmd mb code = none → s.command mb code acc service body = s) ∧
    (∀ c, s.waitingCmd mb code = some c → acc.ok s.tableState = false →
      s.command mb code acc service body = ((s.startCmd c).inside.reply c stREFUSED_STATE 0).doneIn) ∧
    (∀ c, s.waitingCmd mb code = some c → acc.ok s.tableState = true → service = true → s.inService c.port = false →
      s.command mb code acc service body = ((s.startCmd c).inside.reply c stREFUSED_AUTH 0).doneIn) ∧
    (∀ c, s.takes mb code acc service c → s.command mb code acc service body = (body c (s.startCmd c).inside).doneIn)

/-- Completion and effect of the rows of load channels: inrush, limits, thermal latch, retries, motors, shedding and their
host commands: under the stated conditions on the state and the operands alone, exec answers the next state written out, in
every part of the machine. One clause per command (two where its effect has two courses, or where a read is also said by its
answer and its effect on the register). Constructors of Instr that complete here: lcInrushEnd, lcCurrentLimitCutoff,
lcThermalLatch, lcThermalRelease, lcRetry, lcRetryRefill, lcClampEvent, lcOpenLoad, lcOpenLoadClear, lcStuck, motorStall,
motorRunTimeout, motorBrakeEnd, lcShed, isnsSelectionChange, lchDrive, lchMotor, lchClear, lchOlTest. -/
def Obligations.LoadChannelRowsComplete : Prop :=
  -- lcInrushEnd, LC_INRUSH_END (R273)
  (∀ (k : Fin 16) (vOut vaux : Int) (s : State),
    (s.inrushOver k) →
    let t := s.puti (LCH_MEAS_V_OUT k) (satI 16 vOut)
    (vOut ≥ vaux - 100) →
    exec (.lcInrushEnd k vOut vaux) s = .next ((t.put (LCH_STATE_ST k) lcON).updLc k (fun c => { c with onBeat := s.now }))) ∧
  -- lcInrushEnd, LC_INRUSH_END (R273)
  (∀ (k : Fin 16) (vOut vaux : Int) (s : State),
    (s.inrushOver k) →
    let t := s.puti (LCH_MEAS_V_OUT k) (satI 16 vOut)
    ¬(vOut ≥ vaux - 100) →
    exec (.lcInrushEnd k vOut vaux) s = .next ((t.raise 0x8006 NOTE srcCase k 0).lcEvent k)) ∧
  -- lcCurrentLimitCutoff, LC_CURRENT_LIMIT_CUTOFF (R274)
  (∀ (k : Fin 16) (held : Nat) (s : State),
    let hb := s.isSet (LCH_CFG_HB k) && s.pairOn? (k.val / 2)
    ((s.lcst k = lcON ∨ s.lcst k = lcLIMIT ∨ hb) ∧ s.get (LCH_LIMITS_T_LIM k) ≤ held) →
    exec (.lcCurrentLimitCutoff k held) s = .next ((s.raise 0x8001 NOTE srcCase k 0).lcEvent k)) ∧
  -- lcCurrentLimitCutoff, LC_CURRENT_LIMIT_CUTOFF (R274)
  (∀ (k : Fin 16) (held : Nat) (s : State),
    let hb := s.isSet (LCH_CFG_HB k) && s.pairOn? (k.val / 2)
    ¬((s.lcst k = lcON ∨ s.lcst k = lcLIMIT ∨ hb) ∧ s.get (LCH_LIMITS_T_LIM k) ≤ held) →
    (s.lcst k = lcON ∧ held ≠ 0) →
    exec (.lcCurrentLimitCutoff k held) s = .next (s.put (LCH_STATE_ST k) lcLIMIT)) ∧
  -- lcThermalLatch, LC_THERMAL_LATCH (R274)
  (∀ (k : Fin 16) (temp : Int) (s : State),
    (temp ≥ 1700 ∧ !s.isSet (LCH_STATE_LATCH k)) →
    let t := (s.puti (LCH_STATE_TEMP k) (satI 16 temp)).set1 (LCH_STATE_LATCH k)
    ¬(s.lcst k = lcFAULT ∨ s.lcst k = lcSTOPWORK) →
    let t := t.raise 0x8002 NOTE srcCase k (twos 32 temp)
    (s.lcOn k || (s.isSet (LCH_CFG_HB k) && s.pairOn? (k.val / 2))) →
    exec (.lcThermalLatch k temp) s = .next (t.lcEvent k)) ∧
  -- lcThermalRelease, LC_THERMAL_RELEASE (R274)
  (∀ (k : Fin 16) (temp : Int) (s : State),
    (temp < 1450 ∧ s.isSet (LCH_STATE_LATCH k)) →
    let t := (s.puti (LCH_STATE_TEMP k) (satI 16 temp)).clr (LCH_STATE_LATCH k)
    (s.lcst k = lcDEFER) →
    exec (.lcThermalRelease k temp) s = .next ((t.put (LCH_STATE_ST k) lcWAIT).updLc k (fun c => { c with due := s.now + 40 }))) ∧
  -- lcRetry, LC_RETRY (R275)
  (∀ (k : Fin 16) (s : State),
    (s.lcst k = lcWAIT ∧ (s.lc k).due ≤ s.now ∧ (s.lc k).pend ≠ some false) →
    (s.isSet (LCH_STATE_LATCH k)) →
    exec (.lcRetry k) s = .next (s.put (LCH_STATE_ST k) lcDEFER)) ∧
  -- lcRetry, LC_RETRY (R275)
  (∀ (k : Fin 16) (s : State),
    (s.lcst k = lcWAIT ∧ (s.lc k).due ≤ s.now ∧ (s.lc k).pend ≠ some false) →
    ¬(s.isSet (LCH_STATE_LATCH k)) →
    exec (.lcRetry k) s = .next ((s.put (LCH_STATE_LEFT k) (s.get (LCH_STATE_LEFT k) - 1)).lcTurnOn k)) ∧
  -- lcRetryRefill, LC_RETRY_REFILL (R275)
  (∀ (k : Fin 16) (s : State),
    (s.lcst k = lcON ∧ (s.lc k).onBeat + 40000 ≤ s.now) →
    exec (.lcRetryRefill k) s = .next (s.put (LCH_STATE_LEFT k) (s.get (LCH_CFG_RETRY_MAX k)))) ∧
  -- lcClampEvent, LC_CLAMP_EVENT (R277)
  (∀ (k : Fin 16) (e : Nat) (s : State),
    ¬(s.isSet (LCH_CFG_HB k)) →
    let t := s.putSat (LCH_CLAMP_E_LAST k) e
    let t := (t.updLc k (fun c => { c with clamps := c.clamps ++ [(s.now, e)] })).clampSum k
    let t := { t with lch := { t.lch with clampNow := t.lch.clampNow + e } }
    (s.get (LCH_CLAMP_CFG_E_EVT k) < e ∨ s.get (LCH_CLAMP_CFG_E_SEC k) < t.get (LCH_CLAMP_E_SUM k)) →
    let t := ((t.lcTurnOff k lcSTOPWORK).set1 (LCH_STATE_STOPWORK k)).putBit LCH_LOCKS_STOPWORK k true
    let t := t.unclear k
    exec (.lcClampEvent k e) s = .next ((t.set1 LCH_EVENTS_STOPWORK).raise 0x8005 DEGRADE srcCase k e)) ∧
  -- lcOpenLoad, LC_OPEN_LOAD (R279)
  (∀ (k : Fin 16) (iUa vauxMv : Nat) (s : State),
    (s.lcst k = lcON ∧ !s.isSet (LCH_CFG_HB k) ∧ !s.isSet (LCH_STATE_OL k) ∧ iUa < s.openLoadUa k ∧ 9000 ≤ vauxMv) →
    exec (.lcOpenLoad k iUa vauxMv) s = .next (((s.set1 (LCH_STATE_OL k)).set1 LCH_EVENTS_OPEN_LOAD).raise 0x8004 NOTE srcCase k iUa)) ∧
  -- lcOpenLoadClear, LC_OPEN_LOAD_CLEAR (R279)
  (∀ (k : Fin 16) (o : OpenObs) (s : State),
    (s.isSet (LCH_STATE_OL k) ∧ s.openLoadUa k ≤ o.iUa ∧ 9000 ≤ o.vauxMv) →
    exec (.lcOpenLoadClear k o) s = .next (s.clr (LCH_STATE_OL k))) ∧
  -- lcStuck, LC_STUCK (R280)
  (∀ (k : Fin 16) (vOut vaux : Int) (s : State),
    (!s.isSet (LCH_STATE_CMD k) ∧ vOut > vaux - 200 ∧ !(s.lc k).stuck) →
    let t := ((s.updLc k (fun c => { c with stuck := true })).puti (LCH_MEAS_V_OUT k) (satI 16 vOut)).putBit LCH_STATUS_FAULT k true
    exec (.lcStuck k vOut vaux) s = .next ((t.set1 LCH_EVENTS_STUCK).raise 0x8009 DEGRADE srcCase k 0)) ∧
  -- motorStall, MOTOR_STALL (R281)
  (∀ (j : Fin 4) (i held : Nat) (s : State),
    (s.running? j ∧ s.get (LCH_P_CFG_STALL j) < i ∧ s.get (LCH_P_CFG_T_STALL j) ≤ held) →
    exec (.motorStall j i held) s = .next (s.endRun j 1)) ∧
  -- motorRunTimeout, MOTOR_RUN_TIMEOUT (R281)
  (∀ (j : Fin 4) (s : State),
    (s.running? j ∧ (s.mrun j).start + 40 * (s.mrun j).tRun ≤ s.now) →
    exec (.motorRunTimeout j) s = .next (s.endRun j 2)) ∧
  -- motorBrakeEnd, MOTOR_BRAKE_END (R281)
  (∀ (j : Fin 4) (s : State),
    (s.get (LCH_P_STATE_MODE j) = 3 ∧ (s.mrun j).brake + 40 * s.get (LCH_P_CFG_T_BRAKE j) ≤ s.now) →
    exec (.motorBrakeEnd j) s = .next (s.coast j)) ∧
  -- lcShed, LC_SHED (R282)
  (∀ (_x _y z : Unit) (s : State),
    let sum := s.lcAmps
    let start := (decide (16000 < sum) && decide (40 ≤ s.lch.overBeats)) || decide (3000 < s.get LCH_TOTAL_P_DISS)
    let cont := s.lch.shedding && (decide (16000 < sum) || decide (3000000000 < s.lcLoss s.lcOn))
    (cont || (!s.lch.shedding && start)) →
    ¬(s.lch.shedding && decide (s.now < s.lch.shedBeat + 40)) →
    ∀ k,
    s.shedPick = some k →
    let t := if s.isSet (LCH_CFG_HB k) then s.cutRun (k / 2) else s.lcTurnOff k lcSHED
    let t := t.putBit LCH_LOCKS_SHED k true
    let t := { t with lch := { t.lch with shedding := true, shedBeat := s.now } }
    exec (.lcShed _x _y z) s = .next ((t.set1 LCH_EVENTS_SHED).raise 0x8007 DEGRADE srcCase k sum)) ∧
  -- isnsSelectionChange, ISNS_SELECTION_CHANGE (R284)
  (∀ (sel : Fin 16) (s : State),
    exec (.isnsSelectionChange sel) s = .next (State.isnsSelect { s with lch := { s.lch with sel := sel } })) ∧
  -- lchDrive, LCH_DRIVE (R271)
  (∀ (mb : Fin 8) (s : State),
    ∀ c, s.takes mb 0x0901 .running false c →
    let u0 := (s.startCmd c).inside
    let mask := c.u32 0 % 2 ^ 16
    let levels := c.u32 0 / 2 ^ 16
    ¬((List.range 16).any (fun k => mask.testBit k && u0.isSet (LCH_CFG_HB k))) →
    let bad := u0.driveRefused mask levels
    let t := forUpTo 16 (fun k u =>
      when (mask.testBit k && !bad.testBit k) (fun v => v.lcCommand k (levels.testBit k)) u) u0
    (bad = 0) →
    exec (.lchDrive mb) s = .next (State.doneIn (t.reply c stOK 0))) ∧
  -- lchMotor, LCH_MOTOR (R281)
  (∀ (mb : Fin 8) (s : State),
    ∀ c, s.takes mb 0x0902 .running false c →
    let u0 := (s.startCmd c).inside
    let j := c.u32 0
    let op := c.u32 1
    let tRun := c.u32 2
    let r : CmdRef := { port := c.port, seq := c.seq }
    ¬(j ≥ 4 ∨ op > 2) →
    ¬(!u0.hostPair j) →
    ¬(op = 0) →
    ¬(tRun < 10 ∨ 2000 < tRun) →
    ¬((u0.mrun j).want ≠ 0 ∨ u0.pairOn? j) →
    ¬(u0.isSet (LCH_STATE_LATCH (2 * j)) || u0.isSet (LCH_STATE_LATCH (2 * j + 1))) →
    let t := (u0.putBit LCH_LOCKS_SHED (2 * j) false).putBit LCH_LOCKS_SHED (2 * j + 1) false
    exec (.lchMotor mb) s = .next (State.doneIn (t.updRun j (fun _ => { cmd := some r, want := op, wantBeat := u0.now, tRun := tRun })))) ∧
  -- lchClear, LCH_CLEAR (R278)
  (∀ (mb : Fin 8) (s : State),
    ∀ c, s.takes mb 0x0903 .runHold false c →
    let u0 := (s.startCmd c).inside
    let mask := c.u32 0 % 2 ^ 16
    let hot := u0.hotMask mask
    let t := forUpTo 16 (fun k u => when (mask.testBit k && !hot.testBit k) (fun v =>
      v.clearChannel { port := c.port, seq := c.seq } k) u) u0
    (hot = 0) →
    exec (.lchClear mb) s = .next (State.doneIn (t.reply c stOK 0))) ∧
  -- lchOlTest, LCH_OL_TEST (R280)
  (∀ (mb : Fin 8) (vOut vaux : Int) (s : State),
    ∀ c, s.takes mb 0x0904 .running false c →
    let u0 := (s.startCmd c).inside
    let k := c.u32 0
    ¬(k ≥ 16) →
    ¬(u0.lcOn k || u0.lcst k == lcWAIT || u0.lcst k == lcDEFER || (u0.isSet (LCH_CFG_HB k) && u0.pairOn? (k / 2))) →
    ¬(vOut > vaux - 200) →
    ¬(vOut > 300) →
    (vOut < 50) →
    exec (.lchOlTest mb vOut vaux) s = .next (State.doneIn (u0.reply c stOK 0)))

/-- Completion and effect of the rows of machine safety: inputs, cycle, paths and outputs: under the stated conditions on the
state and the operands alone, exec answers the next state written out, in every part of the machine. One clause per command
(two where its effect has two courses, or where a read is also said by its answer and its effect on the register).
Constructors of Instr that complete here: safetyInputAccept, discrepancyTimeout, testPulse, safetyCycle, hwPathCompare,
pathDisagree, stop1Expiry, lockFault, soOffPulse, soOverload. -/
def Obligations.SafetyEventsComplete : Prop :=
  -- safetyInputAccept, SAFETY_INPUT_ACCEPT (R255)
  (∀ (hw : Bool) (n : Fin 16) (run : SiRun) (us : Nat) (s : State),
    ∀ level,
    s.runLevel n run = some level →
    (s.running || s.gstate == 5) →
    let k := n.val / 2
    (hw) →
    let was := s.demand (s.get SAF_INPUTS_SI) k
    let t := s.putBit SAF_INPUTS_SI n level
    let t := t.trackFn k
    let t := when (s.fnType k == 7 && decide (n.val % 2 = 0)) (fun u => u.resetButton k level) t
    let t := forUpTo 8 (fun f u => when (decide (f = k) || decide (u.get (SAF_FN_CFG_LOCK_FN f) = k))
      (fun v => (v.trackFn f).evalFn 1 f) u) t
    let now_ := t.demand (t.get SAF_INPUTS_SI) k && !was
    let t := when now_ (fun u => { u with saf := { u.saf with fresh := natBit u.saf.fresh k true } }) t
    let t := when now_ (fun u => u.raiseTo SAF_REACT_HW_MAX us) t
    exec (.safetyInputAccept hw n run us) s = .next ((t.hwClose.fnHeal k).fnStatus.tryUnlock)) ∧
  -- discrepancyTimeout, DISCREPANCY_TIMEOUT (R256)
  (∀ (k : Fin 8) (s : State),
    ∀ b,
    (s.fn k).incons = some b →
    (b + 40 * s.get (SAF_FN_TIME_DISCREP k) < s.now ∧ s.canFault k ∧ !s.settingPos) →
    let t := (s.set1 SAF_EVENTS_DISCREP).raise 0x7002 DEGRADE srcCase k 0
    exec (.discrepancyTimeout k) s = .next (t.inputFault k 0x7002)) ∧
  -- testPulse, TEST_PULSE (R257)
  (∀ (st : Fin 4) (readback : Bool) (bad : Nat) (s : State),
    ¬(s.settingPos) →
    let fed (k : Nat) : Bool := s.get (SAF_FN_CFG_ST1 k) == st.val || s.get (SAF_FN_CFG_ST2 k) == st.val
    let t := s.putBit SAF_INPUTS_ST_OK st readback
    let t := if readback then t
      else
        let t := ((t.set1 SAF_EVENTS_TEST_FAIL).inc SAF_COUNT_TEST_FAILS).raise 0x7004 DEGRADE srcCase st 0
        forUpTo 8 (fun k u => when (fed k) (fun v => v.inputFault k 0x7004) u) t
    exec (.testPulse st readback bad) s = .next (forUpTo 16 (fun i u =>
        if s.sourceOf i = st.val then
          let f := bad.testBit i
          let b := 3 * (i % 2)
          let u := u.updFn (i / 2) (fun x => { x with cond := natBit (natBit x.cond (b + 1) (!readback)) b f })
          if f then
            (((u.set1 SAF_EVENTS_TEST_FAIL).inc SAF_COUNT_TEST_FAILS).raise 0x7003 DEGRADE srcCase i 0).inputFault (i / 2) 0x7003
          else u
        else u) t)) ∧
  -- safetyCycle, SAFETY_CYCLE (R252)
  (∀ (s : State),
    (s.running ∧ s.now % 40 = 0) →
    let t := forUpTo 8 (fun k u => ((u.trackFn k).evalFn 1 k).evalFn 0 k) s
    let t := when (decide (s.saf.demandBeat ≠ 0)) (fun u =>
      let v := u.raiseTo SAF_REACT_LANE_MAX ((s.now - s.saf.demandBeat) * 25)
      { v with saf := { v.saf with demandBeat := 0 } }) t
    let t := forUpTo 8 (fun k u =>
      when (s.saf.resets.testBit k && !s.saf.fresh.testBit k) (fun v =>
        let v := when (v.pathState 1 k == 1) (fun w => w.setPath 1 k 2) v
        when (v.pathState 0 k == 1) (fun w => w.setPath 0 k 2) v) u) t
    let t := { t with saf := { t.saf with resets := 0, fresh := 0 } }
    let t := forUpTo 8 (fun k u => u.fnHeal k) t
    let t := forUpTo 8 (fun k u =>
      let dif := u.fnReal k && u.pathState 0 k != u.pathState 1 k
      u.updFn k (fun f => { f with
        disagree := if dif then (if f.disagree.isSome then f.disagree else some s.now) else none
        cond := natBit f.cond 2 dif })) t
    exec .safetyCycle s = .next (t.hwClose.fnStatus.tryUnlock)) ∧
  -- hwPathCompare, HW_PATH_COMPARE (R263)
  (∀ (agree : Bool) (s : State),
    (agree) →
    exec (.hwPathCompare agree) s = .next { (s.set1 SAF_STATUS_HW_OK) with saf := { s.saf with hwDiff := 0 } }) ∧
  -- hwPathCompare, HW_PATH_COMPARE (R263)
  (∀ (agree : Bool) (s : State),
    ¬(agree) →
    let t := { (s.clr SAF_STATUS_HW_OK) with saf := { s.saf with hwDiff := s.saf.hwDiff + 1 } }
    (s.saf.hwDiff + 1 = 2) →
    exec (.hwPathCompare agree) s = .next ((t.set1 SAF_EVENTS_PATH).raiseHold 0x700E srcCase 0 0)) ∧
  -- pathDisagree, PATH_DISAGREE (R263)
  (∀ (k : Fin 8) (s : State),
    ∀ b,
    (s.fn k).disagree = some b →
    (b + 4 * s.get (SAF_FN_TIME_FILTER k) + 80 < s.now ∧ s.pathState 0 k ≠ s.pathState 1 k) →
    exec (.pathDisagree k) s = .next (((s.set1 SAF_EVENTS_PATH).raise 0x7009 DEGRADE srcCase k 0).fnFault k 0x7009)) ∧
  -- stop1Expiry, STOP1_EXPIRY (R260)
  (∀ (p : Fin 12) (hw : Bool) (s : State),
    (s.stop1Over hw p) →
    let t := { s with saf := { s.saf with
      stopL := if hw then s.saf.stopL else natBit s.saf.stopL p false
      stopH := if hw then natBit s.saf.stopH p false else s.saf.stopH } }
    exec (.stop1Expiry p hw) s = .next ((if hw then t.setElem 1 p false else t.dropL p).tryUnlock)) ∧
  -- lockFault, LOCK_FAULT (R259)
  (∀ (k : Fin 8) (s : State),
    ∀ b,
    (s.fn k).lockOpen = some b →
    (s.fnType k = 4 ∧ b + 40 * s.get (SAF_FN_TIME_DISCREP k) < s.now ∧ s.canFault k ∧ !s.settingPos) →
    exec (.lockFault k) s = .next ((s.raise 0x7008 DEGRADE srcCase k 0).fnFault k 0x7008)) ∧
  -- soOffPulse, SO_OFF_PULSE (R261)
  (∀ (k : Fin 24) (low restored : Bool) (vauxMv : Nat) (s : State),
    ¬(s.settingPos) →
    let on := (s.get SAF_OUTPUTS_SO).testBit k
    let t := when on (fun u => { u with saf := { u.saf with pulseH := natBit u.saf.pulseH k (!u.saf.pulseH.testBit k) } }) s
    ¬(vauxMv < 18000) →
    (!low) →
    exec (.soOffPulse k low restored vauxMv) s = .next (t.latchPair k 0x7005)) ∧
  -- soOverload, SO_OVERLOAD (R262)
  (∀ (k : Fin 24) (mA : Nat) (s : State),
    ((s.get SAF_OUTPUTS_SO).testBit k ∧ 1000 < mA) →
    exec (.soOverload k mA) s = .next (s.latchPair k 0x7006))

/-- Completion and effect of the rows of machine safety: EDM, expiries and the SAFETY commands: under the stated conditions on
the state and the operands alone, exec answers the next state written out, in every part of the machine. One clause per
command (two where its effect has two courses, or where a read is also said by its answer and its effect on the register).
Constructors of Instr that complete here: edmTimeout, safetyUnlockExpiry, pwdLockoutExpiry, safUnlock, safLock,
safSetPassword, safReset, safGuard, safReadLog. -/
def Obligations.SafetyCommandsComplete : Prop :=
  -- edmTimeout, EDM_TIMEOUT (R262)
  (∀ (p : Fin 12) (s : State),
    ∀ b,
    nth s.saf.edm none p = some b →
    (s.vauxJudges ∧ s.get (SAF_PAIR_CFG_USE p) = 2 ∧ s.isSet (SAF_PAIR_CFG_EDM p) ∧
      (b + 8000 ≤ s.now ∨ (s.machineWaits p && s.auxPair p != 0))) →
    exec (.edmTimeout p) s = .next (s.latchPair (2 * p) 0x7007)) ∧
  -- safetyUnlockExpiry, SAFETY_UNLOCK_EXPIRY (R266)
  (∀ (s : State),
    (s.isSet CAL_STATUS_SAFETY_UNLOCK ∧ s.saf.unlockEnd ≤ s.mono) →
    exec .safetyUnlockExpiry s = .next (s.closeUnlock 0 0)) ∧
  -- pwdLockoutExpiry, PWD_LOCKOUT_EXPIRY (R266)
  (∀ (s : State),
    (s.isSet SAF_PWD_LOCKOUT ∧ s.saf.lockEnd ≤ s.mono) →
    exec .pwdLockoutExpiry s = .next (({ s with saf := { s.saf with fails := [] } }.clr SAF_PWD_LOCKOUT).put SAF_PWD_FAILS 0)) ∧
  -- safUnlock, SAF_UNLOCK (R266)
  (∀ (mb : Fin 8) (s : State),
    ∀ c, s.takes mb 0x0801 .runSetting false c →
    let u0 := (s.startCmd c).inside
    ¬(u0.isSet SAF_PWD_LOCKOUT) →
    ¬(!u0.jewelOk 29 opHMAC u0.appMaster (u0.portWorld c.port)) →
    ¬(!u0.pwdSet) →
    ¬(!u0.jewelOk 30 opCOMPARE u0.appMaster (u0.portWorld c.port)) →
    (u0.pwdValue (c.str 0) = u0.jewelVal 30) →
    let t := (u0.jewelUsed 29).jewelUsed 30
    let t := { t with saf := { t.saf with unlockEnd := u0.mono + 1800 } }
    let t := ((t.set1 CAL_STATUS_SAFETY_UNLOCK).put SAF_PWD_PORT (c.port + 1)).put SAF_PWD_UNLOCK_S 1800
    let t := (t.set1 SAF_EVENTS_UNLOCK).safLog 0x06 (c.port + 1) (u0.worldNo c.port)
      (u0.rdN A_CAL_VER_SAFETY) (u0.rdN A_CAL_VER_SAFETY) 0
    exec (.safUnlock mb) s = .next (State.doneIn (t.reply c stOK 0))) ∧
  -- safLock, SAF_LOCK (R266)
  (∀ (mb : Fin 8) (s : State),
    ∀ c, s.takes mb 0x0802 .any false c →
    let u0 := (s.startCmd c).inside
    exec (.safLock mb) s = .next (State.doneIn ((u0.closeUnlock (c.port + 1) (u0.worldNo c.port)).reply c stOK 0))) ∧
  -- safSetPassword, SAF_SET_PASSWORD (R265)
  (∀ (mb : Fin 8) (s : State),
    ∀ c, s.takes mb 0x0803 .any false c →
    let u0 := (s.startCmd c).inside
    let old := c.str 0
    let new := c.str (c.strEnd 0)
    let set (type : Nat) (u0 : State) : State :=
      let v := u0.pwdValue new
      let t := ((u0.jewelUsed 29).jewelUsed 1).updKey (fun k => { k with mram := upd k.mram 30 (fun _ => some v) })
      let t := t.setJewel 30 (some v)
      let t := ((t.set1 SAF_PWD_SET).raise 0x700C NOTE t.srcOwner c.port 0).safLog type (c.port + 1) (u0.worldNo c.port)
        (u0.rdN A_CAL_VER_SAFETY) (u0.rdN A_CAL_VER_SAFETY) 0
      t.reply c stOK 0
    (!u0.pwdSet) →
    ¬(!u0.inService c.port) →
    ¬(!u0.jewelOk 29 opHMAC u0.appMaster (u0.portWorld c.port)) →
    ¬(!pwdOk new || !old.isEmpty) →
    exec (.safSetPassword mb) s = .next (State.doneIn (set 0x04 u0))) ∧
  -- safSetPassword, SAF_SET_PASSWORD (R265)
  (∀ (mb : Fin 8) (s : State),
    ∀ c, s.takes mb 0x0803 .any false c →
    let u0 := (s.startCmd c).inside
    let old := c.str 0
    let new := c.str (c.strEnd 0)
    let set (type : Nat) (u0 : State) : State :=
      let v := u0.pwdValue new
      let t := ((u0.jewelUsed 29).jewelUsed 1).updKey (fun k => { k with mram := upd k.mram 30 (fun _ => some v) })
      let t := t.setJewel 30 (some v)
      let t := ((t.set1 SAF_PWD_SET).raise 0x700C NOTE t.srcOwner c.port 0).safLog type (c.port + 1) (u0.worldNo c.port)
        (u0.rdN A_CAL_VER_SAFETY) (u0.rdN A_CAL_VER_SAFETY) 0
      t.reply c stOK 0
    ¬(!u0.pwdSet) →
    ¬(!u0.unlockOn c.port) →
    ¬(!u0.jewelOk 29 opHMAC u0.appMaster (u0.portWorld c.port)) →
    ¬(!u0.jewelOk 30 opCOMPARE u0.appMaster (u0.portWorld c.port)) →
    ¬(u0.pwdValue old ≠ u0.jewelVal 30) →
    ¬(!pwdOk new) →
    exec (.safSetPassword mb) s = .next (State.doneIn (set 0x05 ((u0.jewelUsed 29).jewelUsed 30)))) ∧
  -- safReset, SAF_RESET (R258)
  (∀ (mb : Fin 8) (s : State),
    ∀ c, s.takes mb 0x0804 .running false c →
    let u0 := (s.startCmd c).inside
    let fmask := c.u32 0 % 256
    let pmask := (c.u32 0 / 2 ^ 12) % 2 ^ 12
    ¬((List.range 8).any (fun k => fmask.testBit k &&
      (u0.demand (u0.get SAF_INPUTS_SI) k || u0.demand u0.saf.laneSi k || u0.saf.fresh.testBit k))) →
    let t := u0.nameResets fmask
    let t := forUpTo 12 (fun p u => when (pmask.testBit p) (fun v =>
      { (v.put SAF_SO_FAULT_LATCH (clearMask (v.get SAF_SO_FAULT_LATCH) (pairMask p))) with
          saf := { v.saf with edm := upd v.saf.edm p (fun _ => none) } }) u) t
    exec (.safReset mb) s = .next (State.doneIn (t.hwClose.reply c stOK 0))) ∧
  -- safGuard, SAF_GUARD (R259)
  (∀ (mb : Fin 8) (s : State),
    ∀ c, s.takes mb 0x0805 .running false c →
    let u0 := (s.startCmd c).inside
    let k := c.u32 0
    let op := c.u32 1
    ¬(k ≥ 8 ∨ op > 1) →
    ¬(u0.fnType k ≠ 4) →
    ¬(op = 1 ∧ u0.saf.guard.isSome) →
    (op = 1) →
    let stop (path : Nat) (u : State) : State :=
      State.openMask (if u.pathState path k = 3 ∨ u.pathState path k = 0 then u else u.setPath path k 0) path k
    let t := (stop 0 (stop 1 u0)).fnStatus
    let t := { t with saf := { t.saf with guard := some (k, { port := c.port, seq := c.seq }) } }
    exec (.safGuard mb) s = .next (State.doneIn (t.tryUnlock))) ∧
  -- safReadLog, SAF_READ_LOG (R267)
  (∀ (mb : Fin 8) (s : State),
    ∀ c, s.takes mb 0x0806 .any false c →
    let u0 := (s.startCmd c).inside
    let first := c.u32 0
    let cnt := c.u32 1
    let a := c.u32 2
    ¬(cnt = 0 ∨ 64 < cnt ∨ !argRangeOk a (64 * cnt)) →
    let bytes := (List.range cnt).flatMap (fun i =>
      match u0.saf.log.find? (fun e => e.seq == first + i) with
      | some e => e.bytes
      | none => List.replicate 64 0#8)
    exec (.safReadLog mb) s = .next (State.doneIn ((u0.laneWrite a bytes).reply c stOK 0)))

/-- Completion and effect of the rows of lanes: journal (its records, entries and what it holds back), heartbeat, resignation,
resynchronisation, swaps and the RED commands: under the stated conditions on the state and the operands alone, exec answers
the next state written out, in every part of the machine. One clause per command (two where its effect has two courses, or
where a read is also said by its answer and its effect on the register). Constructors of Instr that complete here:
journalEntryApply, journalAck, journalStall, heartbeatVote, resignation, takeoverLate, laneResetRelease, laneResyncDone,
resyncAttemptFail, resyncRetry, tourbillonDue, swapWaitTimeout, redSwapTimeout, redSwap, redSelftest, redLaneRestart,
redLaneEnable, redInfo. -/
def Obligations.LaneRowsComplete : Prop :=
  -- journalEntryApply, JOURNAL_ENTRY_APPLY (R232)
  (∀ (own : BeatCrcs) (ownerFlag standbyFlag : Bool) (s : State),
    let lane := other s.owner
    ∀ e,
    s.red.jnl.crcs = some e →
    (s.running ∧ 4 ≤ s.laneState lane ∧ s.laneState lane ≤ 6 ∧ e.1 = s.beat) →
    let u0 := State.inside s
    let u0 := (u0.applyEntries).updJnl (fun j => { j with crcs := none })
    let diff := if u0.mixedDiff then e.2.diff own / 2 % 4 * 2 else e.2.diff own
    ¬(diff = 0) →
    ¬(ownerFlag) →
    ¬(standbyFlag) →
    let day := u0.now :: u0.red.diffs.filter (fun b => decide (u0.now < b + dayBeats))
    let t := u0.updRed (fun r => { r with diffs := day, clean := 0 })
    let t := (t.set1 RED_EVENTS_MISMATCH).putSat RED_CHECKS_DAY day.length
    let t := (t.raise 0x6006 NOTE (t.srcLane lane) diff 0).updJnl (fun j => j.copy t.ram t.setOf)
    exec (.journalEntryApply own ownerFlag standbyFlag) s = .next (State.doneIn (when (decide (day.length ≥ 3)) State.wantSwap t))) ∧
  -- journalAck, JOURNAL_ACK (R232)
  (∀ (jseq : Nat) (s : State),
    ∀ e,
    s.red.unacked.find? (fun e => e.jseq == jseq && e.got) = some e →
    let rest := (s.red.unacked.dropWhile (fun d => d.jseq != jseq)).drop 1
    let t := s.updRed (fun r => { r with
      unacked := rest
      ackedBeat := max r.ackedBeat e.beat
      stall := 0
      handover := if e.handover && r.handover == 1 && e.beat == s.beat then 2 else r.handover })
    exec (.journalAck jseq) s = .next ((t.wrN A_RED_JSEQ jseq).putSat RED_JOURNAL_NOW rest.length)) ∧
  -- journalStall, JOURNAL_STALL (R232)
  (∀ (s : State),
    (s.gstate = 3 ∧ 40 ≤ s.red.stall ∧ s.red.stbHeard) →
    let u0 := State.inside s
    exec .journalStall s = .next (State.doneIn ((u0.raise 0x6007 DEGRADE (u0.srcLane u0.owner) (other u0.owner) 0).loseStandby true))) ∧
  -- heartbeatVote, HEARTBEAT_VOTE (R235)
  (∀ (own stb : Heart) (differs : Fin 8) (s : State),
    (s.inRunning) →
    let u0 := State.inside s
    let lane := u0.owner
    let oth := other lane
    let ownM := HeartMsg.good u0.now own.m
    let ownC := HeartMsg.good u0.now own.c
    let stbM := HeartMsg.good u0.now stb.m
    let stbC := HeartMsg.good u0.now stb.c
    let t := (u0.voterChannels differs).takeHearts own stb
    let synced := decide (u0.gstate = 3) && u0.red.takeover.isNone
    let ownLost := !ownM && !ownC
    let ownGone := ownLost || own.resigns u0.now || (u0.resigned lane).isSome
    let stbGone := synced && ((!stbM && !stbC) || stb.resigns u0.now || (u0.resigned oth).isSome)
    ¬(ownGone && stbGone) →
    (ownGone) →
    (ownLost) →
    exec (.heartbeatVote own stb differs) s = .next (State.doneIn (t.loseOwner 0x6003 0 20812))) ∧
  -- heartbeatVote, HEARTBEAT_VOTE (R235)
  (∀ (own stb : Heart) (differs : Fin 8) (s : State),
    (s.inRunning) →
    let u0 := State.inside s
    let lane := u0.owner
    let oth := other lane
    let ownM := HeartMsg.good u0.now own.m
    let ownC := HeartMsg.good u0.now own.c
    let stbM := HeartMsg.good u0.now stb.m
    let stbC := HeartMsg.good u0.now stb.c
    let t := (u0.voterChannels differs).takeHearts own stb
    let synced := decide (u0.gstate = 3) && u0.red.takeover.isNone
    let ownLost := !ownM && !ownC
    let ownGone := ownLost || own.resigns u0.now || (u0.resigned lane).isSome
    let stbGone := synced && ((!stbM && !stbC) || stb.resigns u0.now || (u0.resigned oth).isSome)
    ¬(ownGone && stbGone) →
    ¬(ownGone) →
    let sends := synced || u0.red.beatTaken.isSome
    let mLost := !ownM || (sends && !stbM && stbC)
    let cLost := !ownC || (sends && !stbC && stbM)
    let t := if mLost then t.pathFault true (if ownM then oth else lane) else t.clr RED_STATUS_PATH_M
    let t := if cLost then t.pathFault false (if ownC then oth else lane) else t.clr RED_STATUS_PATH_C
    exec (.heartbeatVote own stb differs) s = .next (State.doneIn (when stbGone (fun u => u.loseStandby true) t))) ∧
  -- resignation, RESIGNATION (R235)
  (∀ (lane : Fin 2) (off : Nat) (s : State),
    ∀ code,
    s.resigned lane = some code →
    (s.inRunning) →
    let u0 := State.inside s
    (lane.val = u0.owner) →
    ¬(u0.gstate = 3 ∧ (u0.resigned (other lane)).isSome) →
    exec (.resignation lane off) s = .next (State.doneIn (u0.loseOwner 0x6004 code (min off 24999)))) ∧
  -- takeoverLate, TAKEOVER_LATE (R239)
  (∀ (s : State),
    ∀ t,
    s.red.takeover = some t →
    (s.inRunning) →
    exec .takeoverLate s = .next (s.takeoverLate t)) ∧
  -- laneResetRelease, LANE_RESET_RELEASE (R246)
  (∀ (lane : Fin 2) (s : State),
    ∀ b,
    s.red.attempt = some b →
    (s.inRunning ∧ lane.val ≠ s.owner ∧ s.laneState lane = 0 ∧ b + 40 ≤ s.now) →
    exec (.laneResetRelease lane) s = .next ((((s.setLaneState lane 1).putBit CLK_STATUS_LOST (1 + lane) false).putBit CLK_STATUS_LOCK lane true).updRed
        (fun r => { r with step := 1, beatTaken := none }))) ∧
  -- laneResyncDone, LANE_RESYNC_DONE (R246)
  (∀ (lane : Fin 2) (s : State),
    (s.gstate = 4 ∧ lane.val ≠ s.owner ∧ s.laneState lane = 5 ∧ !s.attemptOld) →
    let t := ((s.setLaneState lane 6).setStandbyOk true).setGstate 3 0
    let t := ((t.put (RED_LANE_TRIES lane) 0).set1 RED_EVENTS_RESYNC_DONE).clr RED_STATUS_REC_WIN
    let t := t.updRed (fun r => { r with attempt := none, abandoned := false })
    exec (.laneResyncDone lane) s = .next ((t.answerLane stOK 0).actResync)) ∧
  -- resyncAttemptFail, RESYNC_ATTEMPT_FAIL (R247)
  (∀ (lane : Fin 2) (failed : Bool) (s : State),
    ∀ b,
    s.red.attempt = some b →
    (s.gstate = 4 ∧ lane.val ≠ s.owner ∧ (failed ∨ b + 80000 ≤ s.now)) →
    let tries := min (s.get (RED_LANE_TRIES lane) + 1) 3
    let t := (s.put (RED_LANE_TRIES lane) tries).set1 RED_EVENTS_RESYNC_FAIL
    let t := t.raise 0x6008 DEGRADE (t.srcLane t.owner) lane 0
    let t := t.updRed (fun r => { r with
      attempt := none
      clean := 0
      step := 0
      beatTaken := none
      retryWait := if tries ≥ 3 then none else some (s.now + 10 * secBeats)
      resignA := if lane.val = 0 then none else r.resignA
      resignB := if lane.val = 1 then none else r.resignB })
    let t := when (decide (t.laneStage = 1) || decide (t.laneStage = 4)) State.actFail t
    (tries ≥ 3) →
    let t := (t.setLaneState lane 7).raise 0x600C DEGRADE (t.srcLane t.owner) lane 0
    exec (.resyncAttemptFail lane failed) s = .next (t.answerLane stREFUSED_STATE 0x6008)) ∧
  -- resyncRetry, RESYNC_RETRY (R247)
  (∀ (lane : Fin 2) (s : State),
    ∀ b,
    s.red.retryWait = some b →
    (s.gstate = 4 ∧ lane.val ≠ s.owner ∧ b ≤ s.now) →
    exec (.resyncRetry lane) s = .next ((s.inc (RED_LANE_REBOOTS lane)).updRed (fun r => { r with retryWait := none, attempt := some s.now }))) ∧
  -- tourbillonDue, TOURBILLON_DUE (R249)
  (∀ (s : State),
    (s.inRunning ∧ s.get RED_SWAP_CFG_PERIOD ≠ 0 ∧ s.red.swapMono + 3600 * s.get RED_SWAP_CFG_PERIOD ≤ s.mono) →
    exec .tourbillonDue s = .next s.wantSwap) ∧
  -- swapWaitTimeout, SWAP_WAIT_TIMEOUT (R249)
  (∀ (s : State),
    ∀ b,
    s.red.swapWait = some b →
    (b + 60 * secBeats * s.get RED_SWAP_CFG_WAIT ≤ s.now ∧ !s.red.swapDeferred) →
    exec .swapWaitTimeout s = .next ((s.updRed (fun r => { r with swapDeferred := true })).raise 0x600D NOTE (s.srcLane s.owner) 0 0)) ∧
  -- redSwapTimeout, RED_SWAP_TIMEOUT (R249)
  (∀ (s : State),
    ∀ c,
    s.red.swapCmd = some c →
    (s.red.swapCmdBeat + 60 * secBeats ≤ s.now) →
    exec .redSwapTimeout s = .next (((s.replyTo c.port c.seq stTIMEOUT 0).updRed (fun r => { r with swapCmd := none })).showSwap)) ∧
  -- redSwap, RED_SWAP (R249)
  (∀ (mb : Fin 8) (s : State),
    ∀ c, s.takes mb 0x0701 .dual false c →
    let u0 := (s.startCmd c).inside
    ¬(u0.red.swapCmd.isSome) →
    exec (.redSwap mb) s = .next (State.doneIn ((u0.updRed (fun r => { r with swapCmd := some { port := c.port, seq := c.seq }, swapCmdBeat := u0.now })).showSwap))) ∧
  -- redSelftest, RED_SELFTEST (R250)
  (∀ (mb : Fin 8) (s : State),
    ∀ c, s.takes mb 0x0702 .dual false c →
    let u0 := (s.startCmd c).inside
    let lane := c.u32 0
    let mask := c.u32 1
    ¬(lane > 1 ∨ mask = 0 ∨ mask > 0x1F) →
    ¬(u0.red.testCmd.isSome) →
    let t := u0.updRed (fun r => { r with testCmd := some { port := c.port, seq := c.seq } })
    ¬(lane = u0.owner) →
    let full := u0.isSet RED_SELFTEST_RUNNING && u0.red.testLane == lane
    exec (.redSelftest mb) s = .next (State.doneIn (t.startTest lane (if full then mask ||| u0.red.testMask else mask) true))) ∧
  -- redLaneRestart, RED_LANE_RESTART (R245)
  (∀ (mb : Fin 8) (s : State),
    ∀ c, s.takes mb 0x0703 .dual true c →
    let u0 := (s.startCmd c).inside
    let lane := c.u32 0
    ¬(lane > 1 ∨ lane = u0.owner) →
    exec (.redLaneRestart mb) s = .next (State.doneIn ((u0.loseStandby false).updRed (fun r => { r with laneCmd := some { port := c.port, seq := c.seq } })))) ∧
  -- redLaneEnable, RED_LANE_ENABLE (R247)
  (∀ (mb : Fin 8) (s : State),
    ∀ c, s.takes mb 0x0704 .single true c →
    let u0 := (s.startCmd c).inside
    let lane := c.u32 0
    ¬(lane > 1 ∨ u0.laneState lane ≠ 7) →
    let t := ((u0.setLaneState lane 0).put (RED_LANE_TRIES lane) 0).inc (RED_LANE_REBOOTS lane)
    exec (.redLaneEnable mb) s = .next (State.doneIn (t.updRed (fun r => { r with laneCmd := some { port := c.port, seq := c.seq }, attempt := some u0.now })))) ∧
  -- redInfo, RED_INFO (R239)
  (∀ (mb : Fin 8) (s : State),
    ∀ c, s.takes mb 0x0705 .running false c →
    let u0 := (s.startCmd c).inside
    let a := c.u32 0
    ¬(!argRangeOk a 512) →
    exec (.redInfo mb) s = .next (State.doneIn ((u0.laneWrite a (padTo 512 (u0.red.records.flatMap TakeoverRec.bytes))).reply c stOK 0))) ∧
  -- the journal's records and entries (R230, R231): lengths, the header of a record, the limits of an entry and of a beat's bulk
  (∀ r : JRecord, r.bytes.length = r.size ∧ r.size % 4 = 0 ∧
    r.bytes.take 8 = le 1 r.type ++ le 1 (r.size / 4) ++ le 2 r.key ++ le 4 r.iseq) ∧
  (∀ e : JEntry, e.bytes.length = 16 * e.units) ∧
  (∀ (room bulk : Nat) (rs : List JRecord),
    recRoom (fitRecords room bulk rs).1 ≤ room ∧ bulkRoom (fitRecords room bulk rs).1 ≤ bulk ∧
      (fitRecords room bulk rs).1 ++ (fitRecords room bulk rs).2 = rs) ∧
  -- a reply whose record the standby has not acknowledged stays held while STANDBY_OK is 1 (R229)
  (∀ (s : State) (h : Held), s.standbyOk = true → h ∈ s.host.held → s.recorded h.iseq = false →
    h ∈ s.releaseReplies.host.held)

/-- Completion and effect of the rows of the Escapement: overruns, complications, temperatures and the budget: under the
stated conditions on the state and the operands alone, exec answers the next state written out, in every part of the machine.
One clause per command (two where its effect has two courses, or where a read is also said by its answer and its effect on the
register). Constructors of Instr that complete here: essentialOverrun, cmdLate, coreWatchdogExpiry, sramEccUncorrectable,
complicationPost, complicationOverrun, laneTempSample, budgetPublish, compMask, reserveTighten, escPlanInfo. -/
def Obligations.EscapementRowsComplete : Prop :=
  -- essentialOverrun, ESSENTIAL_OVERRUN (R62)
  (∀ (lane : Fin 2) (s : State),
    let u0 := State.inside s
    (u0.ranInBeat lane && (u0.running || u0.gstate == 5)) →
    let t := (u0.lateBeat lane false).raise 0x2004 DEGRADE (u0.srcLane lane) lane 0
    let t := when (decide (lane.val = u0.beatOwner)) (fun u => u.set1 ESC_EVENTS_OVERRUN) t
    exec (.essentialOverrun lane) s = .next (State.doneIn ((t.raise 0x2003 DEGRADE (t.srcLane lane) lane 0).laneFails lane 0x2004))) ∧
  -- cmdLate, CMD_LATE (R62)
  (∀ (s : State),
    (s.lanesWork && s.laneRuns s.owner) →
    let u0 := State.inside s
    let lane := u0.owner
    exec .cmdLate s = .next (State.doneIn (((u0.lateBeat lane true).raise 0x2002 DEGRADE (u0.srcLane lane) lane 0).laneFails lane 0x2002))) ∧
  -- coreWatchdogExpiry, CORE_WATCHDOG_EXPIRY (R237)
  (∀ (lane : Fin 2) (s : State),
    (s.lanesWork) →
    exec (.coreWatchdogExpiry lane) s = .next (s.laneFails lane 0)) ∧
  -- sramEccUncorrectable, SRAM_ECC_UNCORRECTABLE (R237)
  (∀ (lane : Fin 2) (s : State),
    (s.lanesWork) →
    exec (.sramEccUncorrectable lane) s = .next (s.laneFails lane 0)) ∧
  -- complicationPost, COMPLICATION_POST (R65)
  (∀ (lane : Fin 2) (kind : Fin 8) (cost latest subject : Nat) (s : State),
    (s.running && s.laneRuns lane) →
    exec (.complicationPost lane kind cost latest subject) s = .next (s.postComp lane { kind := kind, cost := cost, latest := if kind.val = kDISPLAY then s.now + 400 else latest, subject := subject })) ∧
  -- complicationOverrun, COMPLICATION_OVERRUN (R67)
  (∀ (lane : Fin 2) (kind : Fin 8) (subject : Nat) (s : State),
    ∀ c,
    (s.slices lane).find? (fun c => c.kind == kind.val && c.subject == subject) = some c →
    let u0 := State.inside s
    let t := u0.setSlices lane ((u0.slices lane).erase c)
    let t := when (decide (lane.val = u0.owner)) (fun u =>
      (u.inc (ESC_COMP_DROP_OVR kind)).set1 ESC_EVENTS_COMP_OVERRUN) t
    exec (.complicationOverrun lane kind subject) s = .next (State.doneIn (t.raise 0x2007 NOTE (t.srcLane lane) kind subject))) ∧
  -- laneTempSample, LANE_TEMP_SAMPLE (R69)
  (∀ (a b : List Int) (caseT : Int) (aux : Nat) (s : State),
    (s.running && decide (s.now % 40 = 0)) →
    let t := (s.sampleLane 0 (hottest a)).sampleLane 1 (hottest b)
    let t := (t.puti GOV_RES_TEMP_CASE_T caseT).wearTemp 2 caseT
    exec (.laneTempSample a b caseT aux) s = .next (t.updEsc (fun e => { e with
        caseSum := e.caseSum + caseT
        laneSum := e.laneSum + (if s.owner = 0 then hottest a else hottest b)
        auxSum := e.auxSum + aux + s.loadPower / 10000
        samples := e.samples + 1 }))) ∧
  -- budgetPublish, BUDGET_PUBLISH (R72)
  (∀ (s : State),
    (s.running && decide (s.now % 400 = 399)) →
    let n := max s.esc.samples 1
    let d := s.derateOf s.esc.caseSum n
    let old := s.get GOV_BUDGET_DERATE_DERATE
    let t := s.wrN A_GOV_BUDGET_ROUND ((s.now / 400 + 1) % 2 ^ 32)
    let t := (t.put GOV_BUDGET_DERATE_SUPPLY (s.get GOV_RES_STATE_SUPPLY)).put GOV_BUDGET_DERATE_DERATE d
    let t := t.putSat GOV_BUDGET_AUX_AUX (s.esc.auxSum / n)
    let t := t.puti GOV_BUDGET_HEAD_CASE_HEAD (10 * s.get GOV_RES_THERM_CFG_CASE_END - s.esc.caseSum / n)
    let t := t.puti GOV_BUDGET_HEAD_LANE_HEAD (10 * s.get GOV_RES_THERM_CFG_HOT - s.esc.laneSum / n)
    let t := when (decide (old ≠ d)) (fun u => u.set1 GOV_RES_EVENTS_DERATE) t
    let t := when (decide (old = 0x10000) && decide (d < 0x10000)) (fun u =>
      u.raise 0x200C DEGRADE (u.srcLane u.owner) 0 d) t
    exec .budgetPublish s = .next (t.updEsc (fun e => { e with caseSum := 0, laneSum := 0, auxSum := 0, samples := 0 }))) ∧
  -- compMask, COMP_MASK (R69)
  (∀ (mb : Fin 8) (s : State),
    ∀ c, s.takes mb 0x0201 .running false c →
    let u0 := (s.startCmd c).inside
    ¬(c.u32 0 > 0xFF) →
    exec (.compMask mb) s = .next (State.doneIn ((u0.put GOV_RES_HOST_KIND_MASK (c.u32 0)).reply c stOK 0))) ∧
  -- reserveTighten, RESERVE_TIGHTEN (R70)
  (∀ (mb : Fin 8) (s : State),
    ∀ c, s.takes mb 0x0202 .running false c →
    let u0 := (s.startCmd c).inside
    ¬(c.u32 0 > u0.imageCeil) →
    exec (.reserveTighten mb) s = .next (State.doneIn ((u0.put GOV_RES_HOST_TIGHTEN (c.u32 0)).judgeCeil.reply c stOK 0))) ∧
  -- escPlanInfo, ESC_PLAN_INFO (R59)
  (∀ (mb : Fin 8) (s : State),
    ∀ c, s.takes mb 0x0203 .running false c →
    let u0 := (s.startCmd c).inside
    let steps := List.range (min 2 (u0.get ESC_BEAT_CFG_LOWEST_CLOCK) + 1)
    let nums := u0.esc.plan ++ steps.flatMap (fun k => groupEnds u0.esc.plan (stepMhz k))
    exec (.escPlanInfo mb) s = .next (State.doneIn (u0.reply c stOK 0 (nums.flatMap (le 4)))))

/-- Completion and effect of the rows of sensing: frames, swings, modulators, known states: under the stated conditions on the
state and the operands alone, exec answers the next state written out, in every part of the machine. One clause per command
(two where its effect has two courses, or where a read is also said by its answer and its effect on the register).
Constructors of Instr that complete here: frameArrival, swingInStart, swingRetry, modulatorFailed, knownStateWindow, ksStale,
referenceCompare, ibStuck, ibclkFault, frameLoss, linkDegraded, snsSwingNow, snsCalAbort, snsKsCal, snsRefCheck,
snsSpareRetest, snsCapture. -/
def Obligations.SenseRowsComplete : Prop :=
  -- frameArrival, FRAME_ARRIVAL (R12)
  (∀ (lane : Fin 2) (f : Frame) (s : State),
    (s.lanesWork && s.laneRuns lane) →
    let good := f.crcOk && f.beat == s.now % 65536
    let t := s.updSns (fun x => { x with
      gotA := if lane.val = 0 then some good else x.gotA
      gotB := if lane.val = 1 then some good else x.gotB })
    (good) →
    let g := s.dialFrame f
    let t := t.updSns (fun x => { x with
      frame := g
      ovlMask := (List.range 128).foldl (fun m n => if s.isOver f n then natBit m n true else m) 0 })
    (lane.val = s.servingLane) →
    let t := (t.puti SNS_DIAL_T_TEMP f.dialT).ringFrame g
    exec (.frameArrival lane f) s = .next (forUpTo 128 (fun n u =>
        let u := u.putB (SNS_CH_STAT_INVALID n) (!g.valid.testBit n)
        when (s.isOver f n) (fun v => v.overload n) u) t)) ∧
  -- swingInStart, SWING_IN_START (R86)
  (∀ (n : Fin 128) (high : Bool) (spare : Fin 72) (s : State),
    ¬(!s.canSwing n high spare) →
    ¬(s.sns.invalid91.testBit (memberBit n high)) →
    ¬(!s.mayStart n high spare) →
    ¬(s.isSet SNS_STATUS_SWING_SUSP) →
    s.sns.waits.find? (fun w => w.chan == n.val && w.high == high && w.cmd.isSome && decide (w.at_ ≤ s.mono)) = none →
    ¬(s.sns.waits.any (fun w => w.cmd.isSome && decide (w.at_ ≤ s.mono))) →
    ¬(s.tempTrigger n high) →
    (s.routineDue n high) →
    exec (.swingInStart n high spare) s = .next (s.startSwing n high spare none true)) ∧
  -- swingRetry, SWING_RETRY (R88)
  (∀ (n : Fin 128) (high : Bool) (spare : Fin 72) (s : State),
    ∀ w,
    s.sns.waits.find? (fun w => w.chan == n.val && w.high == high && !w.next && decide (w.at_ ≤ s.mono)) = some w →
    (s.mayStart n high spare && !s.isSet SNS_STATUS_SWING_SUSP) →
    exec (.swingRetry n high spare) s = .next (s.startSwing n high spare (some w) false)) ∧
  -- modulatorFailed, MODULATOR_FAILED (R91)
  (∀ (k spare : Fin 72) (s : State),
    (s.lanesWork && s.role k == 0 && s.chSrc (s.get (SNS_MOD_STATE_CHAN k)) != 0) →
    let n := s.get (SNS_MOD_STATE_CHAN k)
    let high := s.isSet (SNS_MOD_STATE_HIGH k)
    let t := match s.swingOf n high with
      | some w => (s.disconnect w).updSns (fun x => { x with swings := x.swings.filter (fun v => v != w) })
      | none => s
    let cmd := (s.swingOf n high).bind (fun w => w.cmd)
    let pick := if t.role spare = 1 then some spare.val else (List.range 72).find? (fun j => t.role j == 1)
    let t := (t.retire k).updSns (fun x => { x with invalid91 := natBit x.invalid91 (memberBit n high) true })
    let t := t.raise 0x3010 DEGRADE (t.srcLane t.owner) k (n + (if pick.isSome then 0 else 0x100))
    ∀ j,
    pick = some j →
    exec (.modulatorFailed k spare) s = .next (t.emergencySwing n high j k cmd)) ∧
  -- knownStateWindow, KNOWN_STATE_WINDOW (R94)
  (∀ (n : Fin 128) (s : State),
    (s.running && s.ksOpen n && !(s.sns.ks.any (fun w => w.chan == n.val))) →
    exec (.knownStateWindow n) s = .next (s.ksStart n none)) ∧
  -- ksStale, KS_STALE (R95)
  (∀ (n : Fin 128) (s : State),
    (s.running ∧ s.chSrc n = 3 ∧ (nth s.sns.ksOutlet none n).isSome ∧ !s.isSet (SNS_CH_STAT_STALE n) ∧
      nth s.sns.ksMono 0 n + 604800 ≤ s.mono) →
    exec (.ksStale n) s = .next ((s.set1 (SNS_CH_STAT_STALE n)).raise 0x300B NOTE (s.srcLane s.owner) n 0)) ∧
  -- referenceCompare, REFERENCE_COMPARE (R96)
  (∀ (d10 d0s : Int) (s : State),
    (s.running && (s.sns.refMono == 0 || decide (s.sns.refMono + 600 ≤ s.mono))) →
    exec (.referenceCompare d10 d0s) s = .next ((s.compareRefs d10 d0s).updSns (fun x => { x with refMono := s.mono }))) ∧
  -- ibStuck, IB_STUCK (R77)
  (∀ (n : Fin 64) (s : State),
    (s.lanesWork) →
    let x := nth s.sns.ib {} n
    let held := x.held && decide (s.now < x.last + 4000)
    let run := if x.last + 1 = s.now then x.run + 1 else 1
    let t := s.updSns (fun y => { y with ib := upd y.ib n (fun _ =>
      { last := s.now, run := run, held := held || decide (run ≥ 4) }) })
    exec (.ibStuck n) s = .next (when (decide (run ≥ 4) && !held) (fun u => u.raise 0x3004 DEGRADE (u.srcLane u.owner) n 0) t)) ∧
  -- ibclkFault, IBCLK_FAULT (R76)
  (∀ (k : Fin 8) (differs : Bool) (s : State),
    (s.lanesWork) →
    let t := s.putBit SNS_IB_CLK_FAULT k differs
    exec (.ibclkFault k differs) s = .next (when (differs && !s.bitOf SNS_IB_CLK_FAULT k) (fun u => u.raise 0x3005 DEGRADE (u.srcLane u.owner) k 0) t)) ∧
  -- frameLoss, FRAME_LOSS (R98)
  (∀ (s : State),
    (s.lanesWork ∧ 4 ≤ s.sns.lost ∧ !s.sns.lostHeld) →
    exec .frameLoss s = .next ((s.updSns (fun x => { x with lostHeld := true })).raiseEveryOutlet 0x3012 (s.srcLane s.owner) 0xFFF 0)) ∧
  -- linkDegraded, LINK_DEGRADED (R98)
  (∀ (lane : Fin 2) (s : State),
    let l := (if lane.val = 0 then s.sns.badA else s.sns.badB).filter (fun b => decide (s.now < b + 40000))
    (s.lanesWork ∧ s.laneRuns lane ∧ l.length > 16 ∧ (s.resigned lane).isNone) →
    exec (.linkDegraded lane) s = .next ((s.raise 0x3011 DEGRADE (s.srcLane lane) lane 0).laneFails lane 0x3011)) ∧
  -- snsSwingNow, SNS_SWING_NOW (R86)
  (∀ (mb : Fin 8) (s : State),
    ∀ c, s.takes mb 0x0301 .running false c →
    let u0 := (s.startCmd c).inside
    let n := c.u32 0
    let high := c.u32 1 = 1
    let src := u0.chSrc n
    ¬(n ≥ 128 ∨ (src ≠ 1 ∧ src ≠ 2) ∨ (src = 2 ∧ c.u32 1 > 1)) →
    ¬(u0.isSet SNS_STATUS_SWING_SUSP) →
    exec (.snsSwingNow mb) s = .next (State.doneIn (u0.updSns (fun x => { x with waits := x.waits ++
        [{ chan := n, high := high && src == 2, at_ := u0.mono, cmd := some { port := c.port, seq := c.seq } }] })))) ∧
  -- snsCalAbort, SNS_CAL_ABORT (R93)
  (∀ (mb : Fin 8) (s : State),
    ∀ c, s.takes mb 0x0302 .any false c →
    let u0 := (s.startCmd c).inside
    let r : CmdRef := { port := c.port, seq := c.u32 0 }
    ∀ w,
    u0.sns.swings.find? (fun w => w.cmd == some r) = some w →
    let t := if w.stage = 4 then u0.updSns (fun x => { x with
        swings := x.swings.map (fun v => if v == w then { v with cmd := none } else v) })
      else (u0.disconnect w).updSns (fun x => { x with swings := x.swings.filter (fun v => v != w) })
    exec (.snsCalAbort mb) s = .next (State.doneIn (((t.dropCmd r.port r.seq).showSwing).reply c stOK 0))) ∧
  -- snsKsCal, SNS_KS_CAL (R94)
  (∀ (mb : Fin 8) (s : State),
    ∀ c, s.takes mb 0x0303 .running false c →
    let u0 := (s.startCmd c).inside
    let n := c.u32 0
    let r : CmdRef := { port := c.port, seq := c.seq }
    ¬(n ≥ 128 ∨ u0.chSrc n ≠ 3) →
    ¬(!u0.ksOpen n) →
    u0.sns.ks.find? (fun w => w.chan == n) = none →
    exec (.snsKsCal mb) s = .next (State.doneIn (u0.ksStart n (some r)))) ∧
  -- snsRefCheck, SNS_REF_CHECK (R96)
  (∀ (mb : Fin 8) (d10 d0s : Int) (s : State),
    ∀ c, s.takes mb 0x0304 .running false c →
    let u0 := (s.startCmd c).inside
    let t := u0.compareRefs d10 d0s
    exec (.snsRefCheck mb d10 d0s) s = .next (State.doneIn (t.reply c stOK 0 (le 4 (refOutcome d10 d0s) ++ le 4 (twos 32 d10) ++ le 4 (twos 32 d0s) ++ le 4 (twos 32 (d0s + d10)))))) ∧
  -- snsSpareRetest, SNS_SPARE_RETEST (R90)
  (∀ (mb : Fin 8) (cal : ModCal) (s : State),
    ∀ c, s.takes mb 0x0305 .running true c →
    let u0 := (s.startCmd c).inside
    let k := c.u32 0
    ¬(k ≥ 72 ∨ u0.role k ≠ 4) →
    (cal.inLimits) →
    exec (.snsSpareRetest mb cal) s = .next (State.doneIn ((((u0.applyCal { cal with k := k }).setRole k 1).showSpares).reply c stOK 0))) ∧
  -- snsCapture, SNS_CAPTURE (R366)
  (∀ (mb : Fin 8) (s : State),
    ∀ c, s.takes mb 0x0306 .running false c →
    let u0 := (s.startCmd c).inside
    let n := c.args.length / 4 - 2
    let chans := (List.range n).map c.u32
    let cnt := c.u32 n
    let a := c.u32 (n + 1)
    ¬(n = 0 ∨ n > 8 ∨ cnt = 0 ∨ cnt > 40000 ∨ chans.any (fun k => decide (k ≥ 128)) ∨ !argRangeOk a (4 * n * cnt)) →
    ¬(u0.sns.capture.isSome) →
    exec (.snsCapture mb) s = .next (State.doneIn (u0.updSns (fun x => { x with
        capture := some { chans := chans, left := cnt, addr := a, cmd := { port := c.port, seq := c.seq } } }))))

/-- Completion and effect of the rows of metering: pulses, references and saves: under the stated conditions on the state and
the operands alone, exec answers the next state written out, in every part of the machine. One clause per command (two where
its effect has two courses, or where a read is also said by its answer and its effect on the register). Constructors of Instr
that complete here: pulseStart, pulseEnd, meterNoref, meterHalt, intervalRead, deltaSave, fullSave. -/
def Obligations.MeteringRowsComplete : Prop :=
  -- pulseStart, PULSE_START (R120)
  (∀ (k : Fin 4) (s : State),
    let p := s.pulse k
    ∀ d rest,
    p.due = d :: rest →
    let lag := decide (p.lastStart ≠ 0) && decide (d < p.lastStart + 5000)
    let st := if lag then p.lastStart + 5000 else d
    ((s.running || s.gstate == 5) && !s.edgeHeld d && decide (st / 250 ≤ s.now)) →
    let w := st + 1000 * s.get (MTR_PLS_STAT_WIDTH k)
    let en := match rest with
      | [] => w
      | e :: _ => pulseEndAt st w e
    let t := (s.updPulse k (fun x => { x with due := rest, lastStart := st, active := true, endAt := en })).inc
      (MTR_PLS_STAT_COUNT k)
    let t := t.putB (MTR_PLS_STAT_LAG k) lag
    exec (.pulseStart k) s = .next (when lag (fun u => (u.set1 MTR_EVENTS_PULSE_RATE).raiseLimited (0x40080 + k) (60 * secBeats) 0x4008 NOTE
        (u.srcLane u.owner) k 0) t)) ∧
  -- pulseEnd, PULSE_END (R120)
  (∀ (k : Fin 4) (s : State),
    ((s.pulse k).active ∧ (s.pulse k).endAt / 250 ≤ s.now) →
    exec (.pulseEnd k) s = .next (s.updPulse k (fun x => { x with active := false }))) ∧
  -- meterNoref, METER_NOREF (R106)
  (∀ (m : Fin 32) (s : State),
    let x := s.met m
    (s.lanesWork ∧ (s.mKind m = 1 ∨ s.mKind m = 2) ∧ !s.isSet (MTR_M_STATE_NOREF m) ∧ !s.meterDown m ∧ x.crossBeat + 1600 ≤ s.now) →
    let t := ((s.set1 (MTR_M_STATE_NOREF m)).set1 MTR_EVENTS_NOREF).raise 0x4003 NOTE (s.srcLane s.owner) m 0
    exec (.meterNoref m) s = .next (if !x.reg then (t.beginCycles m).legalLog 0x01 0 (2 ^ m.val)
        else if s.isSet (MTR_M_STATE_HALTED m) then t
        else (t.endCycle m (64 * x.n) false).updMet m (fun y => { y with lateCycle := true }))) ∧
  -- meterHalt, METER_HALT (R118)
  (∀ (m : Fin 32) (s : State),
    (s.lanesWork ∧ s.mKind m ≠ 0 ∧ 400 ≤ (s.met m).substRun ∧ !s.isSet (MTR_M_STATE_HALTED m)) →
    let t := ((s.set1 (MTR_M_STATE_HALTED m)).set1 MTR_EVENTS_HALTED).legalLog 0x0B m 0
    let t := t.updMet m (fun y => { y with last := [0, 0, 0, 0, 0, 0, 0] })
    let o := s.get (MTR_M_CFG_OUTLET m)
    exec (.meterHalt m) s = .next (if o < 12 then (t.raise 0x4002 OUTLETSTOP (t.srcLane t.owner) o m).stopOutlet o rPROTECTION 0x4002
        else t.raise 0x4002 DEGRADE (t.srcLane t.owner) m 0)) ∧
  -- intervalRead, INTERVAL_READ (R117)
  (∀ (port : Fin 2) (m : Fin 32) (q : Fin 11) (s : State),
    exec (.intervalRead port m q) s = .next (s.readInterval port m q)) ∧
  -- deltaSave, DELTA_SAVE (R122)
  (∀ (s : State),
    let mode := s.get MTR_SAVE_MODE
    (s.lanesReach && (((mode == 1 || mode == 3) && decide (16 ≤ s.get MTR_SAVE_STAT_DELTA_AGE)) ||
      ((mode == 2 || mode == 3) && s.warned))) →
    exec .deltaSave s = .next (State.within (fun u => u.draw.2.deltaSave (u.draw.1 % 2 == 0)) s)) ∧
  -- fullSave, FULL_SAVE (R123)
  (∀ (ok : Bool) (s : State),
    let mode := s.get MTR_SAVE_MODE
    let age := s.get MTR_SAVE_STAT_FULL_AGE
    (s.lanesReach && (((mode == 1 || mode == 3) && decide (400 ≤ age)) || (mode == 2 && decide (40000 ≤ age)))) →
    exec (.fullSave ok) s = .next (State.within (fun u => u.fullSave ok) s))

/-- Completion and effect of the rows of the legal chain: chronometer, demand, billing, tariffs, tampers: under the stated
conditions on the state and the operands alone, exec answers the next state written out, in every part of the machine. One
clause per command (two where its effect has two courses, or where a read is also said by its answer and its effect on the
register). Constructors of Instr that complete here: chronoSecond, demandIntervalEnd, demandSubintervalEnd, billingPeriodEnd,
tariffSwitch, tamperCoverOpen, tamperDoorOpen, tamperClosedReading, tamperMagnetic, legalWriteRefused, tamperBStart,
tamperBEnd, lglWallSet, lglReadLog, lglReadBilling, lglReadTamperB, lglBillClose. -/
def Obligations.LegalRowsComplete : Prop :=
  -- chronoSecond, CHRONO_SECOND (R133)
  (∀ (comp : Int) (s : State),
    let t := (s.settleSlew oneSec).updLgl (fun y => { y with
      mono := y.mono + 1
      wall := if y.valid then y.wall + oneSec else y.wall
      slewAt := 0 })
    exec (.chronoSecond comp) s = .next (t.puti LGL_CHRONO_COMP (if s.isSet CLK_STATUS_CHRONO_FB then 0 else satI 16 comp))) ∧
  -- demandIntervalEnd, DEMAND_INTERVAL_END (R140)
  (∀ (s : State),
    (s.lanesWork && s.lgl.valid && decide (s.demSub ≤ 1) && decide (s.lgl.demLast < s.demBoundary)) →
    exec .demandIntervalEnd s = .next (State.within (fun u => u.closeDemand u.demBoundary false) s)) ∧
  -- demandSubintervalEnd, DEMAND_SUBINTERVAL_END (R140)
  (∀ (s : State),
    (s.lanesWork && s.lgl.valid && decide (2 ≤ s.demSub) && decide (s.lgl.demLast < s.demBoundary)) →
    exec .demandSubintervalEnd s = .next (State.within (fun u => u.closeDemand u.demBoundary false) s)) ∧
  -- billingPeriodEnd, BILLING_PERIOD_END (R141)
  (∀ (s : State),
    (s.lanesWork && s.lgl.valid && decide (s.lgl.billLast < s.billBoundary)) →
    exec .billingPeriodEnd s = .next (State.within State.billingFirst s)) ∧
  -- tariffSwitch, TARIFF_SWITCH (R461)
  (∀ (k : Fin 8) (s : State),
    (s.lanesWork && s.lgl.valid) →
    exec (.tariffSwitch k) s = .next (State.within (fun u => u.billingFirst.switchTariff k) s)) ∧
  -- tamperCoverOpen, TAMPER_COVER_OPEN (R149)
  (∀ (s : State),
    exec .tamperCoverOpen s = .next (s.tamperOpen 0)) ∧
  -- tamperDoorOpen, TAMPER_DOOR_OPEN (R149)
  (∀ (s : State),
    exec .tamperDoorOpen s = .next (s.tamperOpen 1)) ∧
  -- tamperClosedReading, TAMPER_CLOSED_READING (R149)
  (∀ (door : Bool) (s : State),
    exec (.tamperClosedReading door) s = .next (s.updLgl (fun x => { x with cover := x.cover && door, door := x.door && !door }))) ∧
  -- tamperMagnetic, TAMPER_MAGNETIC (R148)
  (∀ (mT ms : Nat) (s : State),
    (s.lgl.magLim < mT) →
    (2000 ≤ ms ∧ !s.lgl.magnetic) →
    exec (.tamperMagnetic mT ms) s = .next ((s.updLgl (fun x => { x with magnetic := true })).tamperA 2)) ∧
  -- legalWriteRefused, LEGAL_WRITE_REFUSED (R128)
  (∀ (s : State),
    exec .legalWriteRefused s = .next s.legalWrite) ∧
  -- tamperBStart, TAMPER_B_START (R150)
  (∀ (m : Fin 32) (kind phase : Fin 3) (s : State),
    (s.lanesWork && s.watched m && decide (50 ≤ nth (s.met m).tbOn 0 (3 * kind + phase)) &&
      !(s.lgl.tb.any (fun r => r.isOpen && r.meter == m.val && r.kind == kind.val && r.phase == phase.val))) →
    let seq := (s.rdN A_LGL_TB_HEAD + 1) % 2 ^ 32
    let r : TbRec :=
      { seq := seq, meter := m, kind := kind, phase := phase, startMono := s.mono, startWall := if s.isSet LGL_CHRONO_WALL_VALID then s.wall else 0, endMono := 0, endWall := 0, energy := s.sumEnergy m, isOpen := true }
    let t := (s.updLgl (fun x => { x with tb := r :: x.tb.take 127 })).wrN A_LGL_TB_HEAD seq
    let t := (t.putBit LGL_TAMPER_NEW_TB kind true).wrN (A_LGL_TB_CNT kind) (min (t.rdN (A_LGL_TB_CNT kind) + 1) 0xFFFFFFFF)
    exec (.tamperBStart m kind phase) s = .next (((t.raise 0x4016 NOTE t.srcOwner m kind).legalLog 0x12 m seq).showTb)) ∧
  -- tamperBEnd, TAMPER_B_END (R150)
  (∀ (m : Fin 32) (kind phase : Fin 3) (s : State),
    let long := decide (10 ≤ nth (s.met m).tbOff 0 (3 * kind + phase))
    ∀ r,
    s.lgl.tb.find? (fun r => long && r.isOpen && r.meter == m.val && r.kind == kind.val && r.phase == phase.val) = some r →
    let e : TbRec := { r with
      endMono := s.mono
      endWall := if s.isSet LGL_CHRONO_WALL_VALID then s.wall else 0
      energy := s.sumEnergy m - r.energy
      isOpen := false }
    let t := s.updLgl (fun x => { x with tb := x.tb.map (fun y => if y.seq == r.seq then e else y) })
    exec (.tamperBEnd m kind phase) s = .next ((t.legalLog 0x13 m r.seq).showTb)) ∧
  -- lglWallSet, LGL_WALL_SET (R135)
  (∀ (mb : Fin 8) (s : State),
    ∀ c, s.takes mb 0x0401 .running false c →
    let u0 := (s.startCmd c).inside
    let sec := c.u32 0
    let target := sec * oneSec + c.u32 1
    let set (kind : Nat) (u : State) : State := (u.updLgl (fun x => { x with wallSet := some (target, kind) })).reply c stOK 0
    ¬(sec < 631152000) →
    ¬(!u0.isSet LGL_CHRONO_WALL_VALID) →
    let d : Int := (target : Int) - (u0.rd128 A_LGL_WALL : Nat)
    ¬(d.natAbs ≤ 2 * oneSec) →
    (d > 0) →
    exec (.lglWallSet mb) s = .next (State.doneIn (set 3 u0))) ∧
  -- lglReadLog, LGL_READ_LOG (R147)
  (∀ (mb : Fin 8) (s : State),
    ∀ c, s.takes mb 0x0403 .runSetting false c →
    let u0 := (s.startCmd c).inside
    let first := c.u32 0
    let cnt := c.u32 1
    let a := c.u32 2
    ¬(cnt = 0 ∨ cnt > 1024 ∨ !argRangeOk a (32 * cnt)) →
    let es := (u0.lgl.log.filter (fun e => decide (first ≤ e.seq) && decide (e.seq < first + cnt))).reverse
    exec (.lglReadLog mb) s = .next (State.doneIn ((u0.laneWrite a (es.flatMap LegalEntry.bytes)).reply c stOK 0))) ∧
  -- lglReadBilling, LGL_READ_BILLING (R141)
  (∀ (mb : Fin 8) (s : State),
    ∀ c, s.takes mb 0x0404 .running false c →
    let u0 := (s.startCmd c).inside
    ∀ b,
    u0.lgl.bills.find? (fun b => b.index == c.u32 0) = some b →
    ¬(!argRangeOk (c.u32 1) b.bytes.length) →
    exec (.lglReadBilling mb) s = .next (State.doneIn ((u0.laneWrite (c.u32 1) b.bytes).reply c stOK 0))) ∧
  -- lglReadTamperB, LGL_READ_TAMPER_B (R150)
  (∀ (mb : Fin 8) (s : State),
    ∀ c, s.takes mb 0x0405 .runSetting false c →
    let u0 := (s.startCmd c).inside
    let first := c.u32 0
    let cnt := c.u32 1
    let a := c.u32 2
    ¬(cnt = 0 ∨ cnt > 128 ∨ !argRangeOk a (64 * cnt)) →
    let es := (u0.lgl.tb.filter (fun e => decide (first ≤ e.seq) && decide (e.seq < first + cnt))).reverse
    exec (.lglReadTamperB mb) s = .next (State.doneIn ((u0.laneWrite a (es.flatMap TbRec.bytes)).reply c stOK 0))) ∧
  -- lglBillClose, LGL_BILL_CLOSE (R141)
  (∀ (mb : Fin 8) (s : State),
    ∀ c, s.takes mb 0x0406 .running true c →
    let u0 := (s.startCmd c).inside
    ¬(u0.lgl.billCmd.isSome) →
    exec (.lglBillClose mb) s = .next (State.doneIn (u0.updLgl (fun x => { x with billCmd := some { port := c.port, seq := c.seq } }))))

/-- Completion and effect of the rows of the legal display, the keypad and tokens: under the stated conditions on the state
and the operands alone, exec answers the next state written out, in every part of the machine. One clause per command (two
where its effect has two courses, or where a read is also said by its answer and its effect on the register). Constructors of
Instr that complete here: legalShowStep, accountRecordCommit, keypadKey, keypadEntryTimeout, lglShowId, tokSubmit, tokReadIds.
-/
def Obligations.TokenRowsComplete : Prop :=
  -- legalShowStep, LEGAL_SHOW_STEP (R132)
  (∀ (s : State),
    ¬(s.lgl.showing = .reading ∨ s.now < s.lgl.showEnd) →
    ¬(s.lgl.showing = .fwId) →
    ∀ v,
    s.lgl.showNext = some v →
    exec .legalShowStep s = .next (s.showFor v 10)) ∧
  -- legalShowStep, LEGAL_SHOW_STEP (R132)
  (∀ (s : State),
    ¬(s.lgl.showing = .reading ∨ s.now < s.lgl.showEnd) →
    ¬(s.lgl.showing = .fwId) →
    s.lgl.showNext = none →
    exec .legalShowStep s = .next ((s.updLgl (fun x => { x with showing := .reading })).put TOK_KEYPAD_MODE 0)) ∧
  -- accountRecordCommit, ACCOUNT_RECORD_COMMIT (R154)
  (∀ (a : Fin 16) (ok : Bool) (s : State),
    ∀ w,
    s.lgl.tok.find? (fun w => w.acct == a.val) = some w →
    let t := s.updLgl (fun x => { x with tok := x.tok.filter (fun y => y.acct != a.val) })
    let t := if ok then t.applyToken w
      else ((t.writeAcct a none).raise 0x401A DEGRADE t.srcOwner a 0).refuseToken a w.cls w.sub tokBUSY w.keypad
    exec (.accountRecordCommit a ok) s = .next (match w.cmd with
        | some c => t.replyTo c.port c.seq stOK (if ok then tokACCEPTED else tokBUSY)
        | none => t)) ∧
  -- keypadKey, KEYPAD_KEY (R131)
  (∀ (key : Fin 16) (s : State),
    let ks := s.lgl.keys
    ¬(s.settingPos) →
    ¬(key.val = 10 ∨ key.val = 11) →
    ¬(key.val = 12) →
    ¬(key.val = 13) →
    let new := ks ++ [key.val]
    ∀ z1,
    keyMode new = some z1 →
    exec (.keypadKey key) s = .next (s.keyEntry new)) ∧
  -- keypadEntryTimeout, KEYPAD_ENTRY_TIMEOUT (R131)
  (∀ (s : State),
    (s.lgl.keys ≠ [] ∧ s.lgl.keyBeat + 30 * secBeats ≤ s.now) →
    exec .keypadEntryTimeout s = .next (s.setKeys [])) ∧
  -- lglShowId, LGL_SHOW_ID (R132)
  (∀ (mb : Fin 8) (s : State),
    ∀ c, s.takes mb 0x0402 .running false c →
    let u0 := (s.startCmd c).inside
    exec (.lglShowId mb) s = .next (State.doneIn (u0.showId.reply c stOK 0))) ∧
  -- tokSubmit, TOK_SUBMIT (R153)
  (∀ (mb : Fin 8) (s : State),
    ∀ c, s.takes mb 0x0407 .running false c →
    let u0 := (s.startCmd c).inside
    ∀ ds,
    asciiDigits (c.str 4) = some ds →
    (c.u32 0 < 16) →
    exec (.tokSubmit mb) s = .next (State.doneIn (u0.takeToken (c.u32 0) (digitsVal ds) (some { port := c.port, seq := c.seq })))) ∧
  -- tokReadIds, TOK_READ_IDS (R154)
  (∀ (mb : Fin 8) (s : State),
    ∀ c, s.takes mb 0x0408 .running false c →
    let u0 := (s.startCmd c).inside
    ¬(c.u32 0 ≥ 16 ∨ !argRangeOk (c.u32 1) 1024) →
    let k := (u0.acct (c.u32 0)).k
    let ws := k ++ List.replicate (256 - k.length) 0xFFFFFFFF
    exec (.tokReadIds mb) s = .next (State.doneIn ((u0.laneWrite (c.u32 1) (ws.flatMap (le 4))).reply c stOK 0)))

/-- Completion and effect of the rows of outlets: pilot, proximity, authorisation and preauthorisation: under the stated
conditions on the state and the operands alone, exec answers the next state written out, in every part of the machine. One
clause per command (two where its effect has two courses, or where a read is also said by its answer and its effect on the
register). Constructors of Instr that complete here: pilotPeriodStart, pilotStateRecognised, deferredAllocation, pilotInvalid,
pilotFHoldEnd, proximityMeasure, ppInvalid, authTimeout, preauthExpiry, suspendOpenExpiry, stopLate. -/
def Obligations.OutletEventsComplete : Prop :=
  -- pilotPeriodStart, PILOT_PERIOD_START (R159)
  (∀ (n : Fin 12) (vHigh vLow : Int) (duty : Nat) (s : State),
    (s.esc.gen = 2 ∧ (s.now + 40 - 3 * n.val) % 40 = 0 ∧ !s.isAbsent n) →
    let d := s.get (OUT_STATE_DRIVE n)
    let t := (s.puti (OUT_PILOT_V_V_HIGH n) (satI 16 vHigh)).puti (OUT_PILOT_V_V_LOW n) (if d = 1 then satI 16 vLow else 0)
    let t := t.putSat (OUT_PILOT_DUTY_MEAS n) duty
    let p := (s.o n).pilot
    let b := bandOf vHigh
    let t :=
      if d ≥ 2 then t.updPilot n (fun p => { p with cand := 6, cnt := 0, low := 0, anew := true })
      else t.updPilot n (fun q => { q with
        cand := b
        cnt := if b = p.cand then p.cnt + 1 else 1
        low := if d = 1 ∧ !(decide (-13000 ≤ vLow) && decide (vLow ≤ -11000)) then p.low + 1 else 0 })
    let t := when (decide ((t.o n).pilot.low ≥ 3) && t.running) (fun u => u.pilotError n 0x5102) t
    exec (.pilotPeriodStart n vHigh vLow duty) s = .next (t.startPeriod n)) ∧
  -- pilotPeriodStart, PILOT_PERIOD_START (R159)
  (∀ (n : Fin 12) (vHigh vLow : Int) (duty : Nat) (s : State),
    ¬(s.esc.gen = 2 ∧ (s.now + 40 - 3 * n.val) % 40 = 0 ∧ !s.isAbsent n) →
    (s.esc.gen = 2 ∧ (s.now + 40 - 3 * n.val) % 40 = 0) →
    exec (.pilotPeriodStart n vHigh vLow duty) s = .next (s.startPeriod n)) ∧
  -- pilotStateRecognised, PILOT_STATE_RECOGNISED (R160)
  (∀ (n : Fin 12) (s : State),
    let p := (s.o n).pilot
    (s.running ∧ 3 ≤ p.cnt ∧ p.cand ≤ 5 ∧ p.cand ≠ s.get (OUT_STATE_PILOT_ST n)) →
    exec (.pilotStateRecognised n) s = .next (s.recognise n p.cand)) ∧
  -- deferredAllocation, DEFERRED_ALLOCATION (R175)
  (∀ (n : Fin 12) (s : State),
    (s.running ∧ s.isSet (OUT_STATE_NO_CONTEXT n) ∧ (s.o n).pilot.band = 1 ∧ s.freeContext.isSome ∧ s.usable n) →
    exec (.deferredAllocation n) s = .next (s.allocate n)) ∧
  -- pilotInvalid, PILOT_INVALID (R161)
  (∀ (n : Fin 12) (s : State),
    let p := (s.o n).pilot
    (s.running ∧ p.cand = 5 ∧ 100 ≤ p.cnt) →
    exec (.pilotInvalid n) s = .next ((s.pilotError n 0x5101).updPilot n (fun q => { q with cnt := 0 }))) ∧
  -- pilotFHoldEnd, PILOT_F_HOLD_END (R161)
  (∀ (n : Fin 12) (s : State),
    ∀ b,
    (s.o n).pilot.fEnd = some b →
    (b ≤ s.now) →
    let slac := (s.o n).pilot.fSlac
    let t := s.updPilot n (fun p => { p with fEnd := none, fSlac := false })
    let t := when slac (fun u => (u.put (OUT_SLAC_PHASE n) 1).updLink n (fun l => { l with slacBeat := s.now })) t
    exec (.pilotFHoldEnd n) s = .next (t.refreshPilot n)) ∧
  -- proximityMeasure, PROXIMITY_MEASURE (R164)
  (∀ (n : Fin 12) (r : Nat) (s : State),
    ¬(s.settingPos) →
    (s.get (OUT_CFG_KIND n) = 1 ∨ s.isDc n) →
    let c := if s.isDc n ∧ 1 ≤ ppClass r ∧ ppClass r ≤ 4 then 1 else ppClass r
    let p := (s.o n).prox
    let cnt := if c = p.cand then p.cnt + 1 else 1
    let t := s.put (OUT_PP_R_PP n) (if 4500 ≤ r then 0xFFFF else r)
    let t := t.updO n (fun o => { o with prox := { p with
      cand := c
      cnt := cnt
      inv := if c = 5 then p.inv + 1 else 0
      accepted := if 3 ≤ cnt then c else p.accepted } })
    ¬(cnt < 3) →
    let t := (t.putB (OUT_PP_VALID n) (c != 5)).put (OUT_PP_CABLE n) (if s.isDc n then 0 else ppAmps c)
    exec (.proximityMeasure n r) s = .next (if s.isDc n ∨ c = p.accepted then t else (t.setAllowed n).suspendLow n)) ∧
  -- ppInvalid, PP_INVALID (R164)
  (∀ (n : Fin 12) (s : State),
    (s.running ∧ 100 ≤ (s.o n).prox.inv) →
    let t := s.updO n (fun o => { o with prox := { o.prox with inv := 0 } })
    exec (.ppInvalid n) s = .next (((t.raise 0x5104 OUTLETSTOP t.srcOwner n 0).stopOutlet n rPILOT_ERROR 0x5104).refreshPilot n)) ∧
  -- authTimeout, AUTH_TIMEOUT (R170)
  (∀ (k : Fin 128) (s : State),
    (s.running ∧ s.sst k = AUTHORISING ∧ (s.sx k).preBeat.isNone ∧ (s.sx k).authEnd ≤ s.now) →
    exec (.authTimeout k) s = .next (s.refuseSession k rAUTH_TIMEOUT)) ∧
  -- preauthExpiry, PREAUTH_EXPIRY (R174)
  (∀ (n : Fin 12) (s : State),
    ∀ p,
    (s.o n).preauth = some p →
    (p.2.2.2 < s.now) →
    exec (.preauthExpiry n) s = .next (s.updO n (fun o => { o with preauth := none }))) ∧
  -- suspendOpenExpiry, SUSPEND_OPEN_EXPIRY (R176)
  (∀ (n : Fin 12) (s : State),
    ∀ k,
    s.sesOn n = some k →
    (s.running ∧ s.isDc n ∧ s.sst k = SUSPENDED ∧ s.energised n ∧ (s.o n).suspBeat + (s.o n).cfg.suspendOpen * secBeats ≤ s.now) →
    exec (.suspendOpenExpiry n) s = .next ((s.moduleOff n).requestOpen n)) ∧
  -- stopLate, STOP_LATE (R177)
  (∀ (n : Fin 12) (s : State),
    ∀ k,
    s.sesOn n = some k →
    let x := s.sx k
    (s.running ∧ s.sst k = STOPPING ∧ x.path = 1 ∧ !x.committed ∧ !(s.o n).prot.openReq ∧ x.stopBeat + 3 * secBeats ≤ s.now) →
    exec (.stopLate n) s = .next (s.stopLate n))

/-- Completion and effect of the rows of outlets: stop sequences and the session commands: under the stated conditions on the
state and the operands alone, exec answers the next state written out, in every part of the machine. One clause per command
(two where its effect has two courses, or where a read is also said by its answer and its effect on the register).
Constructors of Instr that complete here: v2gStopTimeout, dcStopOpen, sesAuthorise, sesPreauth, sesLimits, sesStop,
sesStopAbort, sesCollect, sesAck, outEnable. -/
def Obligations.SessionCommandsComplete : Prop :=
  -- v2gStopTimeout, V2G_STOP_TIMEOUT (R177)
  (∀ (n : Fin 12) (s : State),
    ∀ k,
    s.sesOn n = some k →
    let x := s.sx k
    (s.running ∧ s.sst k = STOPPING ∧ x.path = 2 ∧ !x.committed ∧ x.stopBeat + 10 * secBeats ≤ s.now) →
    let t := (s.updS k (fun y => { y with plain := true })).drive12 n
    exec (.v2gStopTimeout n) s = .next (if s.isDc n then (t.updS k (fun y => { y with path := 3, stopBeat := s.now })).moduleOff n
        else (t.updS k (fun y => { y with path := 1 })).stopLate n)) ∧
  -- dcStopOpen, DC_STOP_OPEN (R177)
  (∀ (n : Fin 12) (s : State),
    ∀ k,
    s.sesOn n = some k →
    let x := s.sx k
    (s.running ∧ s.sst k = STOPPING ∧ x.path = 3 ∧ !x.committed ∧ s.energised n ∧
      ((s.dcCurrent n).natAbs < 5 * 2 ^ 40 ∨ x.stopBeat + secBeats ≤ s.now)) →
    exec (.dcStopOpen n) s = .next (s.requestOpen n)) ∧
  -- sesAuthorise, SES_AUTHORISE (R173)
  (∀ (mb : Fin 8) (s : State),
    ∀ c, s.takes mb 0x0501 .running false c →
    let u0 := (s.startCmd c).inside
    let k := c.u32 0
    let d := c.u32 1
    let mode := c.u32 2
    let id := c.str 12
    let off := c.strEnd 12
    let a (i : Nat) : Nat := ofLe ((c.args.drop (off + 4 * i)).take 4)
    let n := u0.get (SES_STATE_OUTLET k)
    exec (.sesAuthorise mb) s = .next (State.doneIn (State.ownerActs n (fun u0 =>
        if k ≥ 128 ∨ d > 2 then u0.reply c stBAD_ARG 0
        else if (u0.sst k ≠ PLUGGED ∧ u0.sst k ≠ AUTHORISING) ∨ (u0.sst k = AUTHORISING ∧ (u0.sx k).authEnd ≤ u0.now) then
          u0.reply c stREFUSED_STATE 0
        else if d = 0 then (if u0.sst k = PLUGGED then u0.enterAuth k else u0).reply c stOK 0
        else if d = 2 then (u0.refuseSession k rREFUSED).reply c stOK 0
        else if !u0.modeOk n mode (a 0) || id.length > 32 || a 1 > 7 || a 2 > 3 then u0.reply c stBAD_ARG 0
        else if mode = 4 ∧ !(u0.o n).link.contract then u0.reply c stREFUSED_STATE 0
        else if mode = 5 ∧ u0.balance (a 0) ≤ 0 then u0.reply c stREFUSED_STATE 0
        else
          let t := ((u0.put (SES_STATE_PROG k) (a 1)).put (SES_STATE_PRIO k) (a 2)).setLimits k c (off + 12)
          let t := t.updS k (fun x => { x with ident := if mode = 4 then x.ident else id })
          let t := if mode = 5 then t.acceptToken k (a 0)
            else (if a 0 < 16 then t.useAccount k (a 0) else t).acceptSession k mode
          t.reply c stOK 0) u0))) ∧
  -- sesPreauth, SES_PREAUTH (R174)
  (∀ (mb : Fin 8) (s : State),
    ∀ c, s.takes mb 0x0502 .running false c →
    let u0 := (s.startCmd c).inside
    let n := c.u32 0
    let mode := c.u32 1
    let id := c.str 8
    let off := c.strEnd 8
    let a (i : Nat) : Nat := ofLe ((c.args.drop (off + 4 * i)).take 4)
    ¬(n ≥ 12 ∨ mode = 4 ∨ !u0.modeOk n mode (a 0) ∨ id.length > 32 ∨ a 1 < 10 ∨ a 1 > 600) →
    exec (.sesPreauth mb) s = .next (State.doneIn ((u0.updO n (fun o => { o with preauth := some (mode, id, a 0, u0.now + a 1 * secBeats) })).reply c stOK 0))) ∧
  -- sesLimits, SES_LIMITS (R172)
  (∀ (mb : Fin 8) (s : State),
    ∀ c, s.takes mb 0x0503 .running false c →
    let u0 := (s.startCmd c).inside
    let k := c.u32 0
    ¬(k ≥ 128) →
    ¬(u0.sst k < AUTHORISING ∨ u0.sst k > SUSPENDED) →
    exec (.sesLimits mb) s = .next (State.doneIn ((u0.setLimits k c 4).reply c stOK 0))) ∧
  -- sesStop, SES_STOP (R177)
  (∀ (mb : Fin 8) (s : State),
    ∀ c, s.takes mb 0x0504 .running false c →
    let u0 := (s.startCmd c).inside
    let k := c.u32 0
    let wait (u : State) : State := u.updS k (fun x => { x with stopCmd := some { port := c.port, seq := c.seq } })
    let n := u0.get (SES_STATE_OUTLET k)
    ¬(k ≥ 128) →
    (PLUGGED ≤ u0.sst k ∧ u0.sst k ≤ SUSPENDED) →
    exec (.sesStop mb) s = .next (State.doneIn (State.ownerActs n (fun u0 => ((wait u0).stopSession k rHOST_STOP 0 false).refreshPilot n) u0))) ∧
  -- sesStopAbort, SES_STOP_ABORT (R177)
  (∀ (mb : Fin 8) (s : State),
    ∀ c, s.takes mb 0x0505 .any false c →
    let u0 := (s.startCmd c).inside
    let r : CmdRef := { port := c.port, seq := c.u32 0 }
    ∀ k,
    u0.stoppedBy r = some k →
    ¬((u0.sx k).committed ∨ (u0.sx k).path = 4) →
    exec (.sesStopAbort mb) s = .next (State.doneIn (((State.ownerActs (u0.get (SES_STATE_OUTLET k)) (fun u => u.withdrawStop k) u0).dropCmd r.port r.seq).reply c stOK 0))) ∧
  -- sesCollect, SES_COLLECT (R179)
  (∀ (mb : Fin 8) (s : State),
    ∀ c, s.takes mb 0x0506 .any false c →
    let u0 := (s.startCmd c).inside
    let k := c.u32 0
    ¬(k ≥ 128 ∨ !argRangeOk (c.u32 1) 576) →
    ¬(u0.sst k ≠ ENDED ∧ u0.sst k ≠ BILLED) →
    exec (.sesCollect mb) s = .next (State.doneIn (((u0.laneWrite (c.u32 1) (u0.sx k).record).updS k (fun x => { x with collected := true })).reply c stOK 0))) ∧
  -- sesAck, SES_ACK (R179)
  (∀ (mb : Fin 8) (s : State),
    ∀ c, s.takes mb 0x0507 .any false c →
    let u0 := (s.startCmd c).inside
    let k := c.u32 0
    ¬(k ≥ 128) →
    ¬(u0.sst k ≠ ENDED ∨ !(u0.sx k).collected) →
    ¬(c.u32 1 ≠ u0.rdN (A_SES_SERIAL k)) →
    let n := u0.get (SES_STATE_OUTLET k)
    let t := { u0 with outs := { u0.outs with billCount := u0.outs.billCount + 1 } }
    let t := (t.put (SES_STATE_STATE k) BILLED).updS k (fun x => { x with billed := t.outs.billCount })
    exec (.sesAck mb) s = .next (State.doneIn ((t.wr128 (A_OUT_ENDED n) (natBit (t.rd128 (A_OUT_ENDED n)) k false)).reply c stOK 0))) ∧
  -- outEnable, OUT_ENABLE (R210)
  (∀ (mb : Fin 8) (s : State),
    ∀ c, s.takes mb 0x0508 .running false c →
    let u0 := (s.startCmd c).inside
    let n := c.u32 0
    ¬(n ≥ 12 ∨ c.u32 1 > 1) →
    ¬((match u0.sesOn n with | some k => decide (u0.sst k = CHARGING) | none => false)) →
    exec (.outEnable mb) s = .next (State.doneIn ((State.ownerActs n (fun u => (u.putB (OUT_STATE_DISABLED n) (c.u32 1 == 0)).refreshPilot n) u0).reply c stOK 0)))

/-- Completion and effect of the rows of vehicle communication: under the stated conditions on the state and the operands
alone, exec answers the next state written out, in every part of the machine. One clause per command (two where its effect has
two courses, or where a read is also said by its answer and its effect on the register). Constructors of Instr that complete
here: slacParamReq, mnbcSound, slacMatch, slacTimeout, sdpRequest, supportedAppProtocol, v2gRequest, tlsClientHello,
tlsPkTimeout, commSetupTimeout, sequenceTimeout, cpStateDetectionTimeout, v2gTrust, v2gCertReply. -/
def Obligations.VehicleMessagesComplete : Prop :=
  -- slacParamReq, SLAC_PARAM_REQ (R166)
  (∀ (runId : Nat) (heard : List (Fin 12 × Nat)) (s : State),
    let h := (heard.map (fun p => (p.1.val, p.2))).filter (fun p => s.decodes p.1)
    ¬(!s.running) →
    ∀ n,
    s.slacAnswer h = some n →
    let t := s.put (OUT_SLAC_PHASE n) 2
    exec (.slacParamReq runId heard) s = .next (t.updLink n (fun l => { l with runId := runId, sounds := 0, attenSum := 0, slacOut := some (.paramCnf runId) }))) ∧
  -- mnbcSound, MNBC_SOUND (R165)
  (∀ (n : Fin 12) (runId atten : Nat) (s : State),
    let l := (s.o n).link
    (s.get (OUT_SLAC_PHASE n) = 2 ∧ l.runId = runId) →
    let mean := (l.attenSum + atten) / (l.sounds + 1)
    let t := s.updLink n (fun x => { x with
      sounds := x.sounds + 1, attenSum := x.attenSum + atten, slacOut := some (.attenChar runId mean) })
    exec (.mnbcSound n runId atten) s = .next (t.putSat (OUT_SLAC_ATTEN n) mean)) ∧
  -- slacMatch, SLAC_MATCH (R165)
  (∀ (n : Fin 12) (runId : Nat) (s : State),
    (s.get (OUT_SLAC_PHASE n) = 2 ∧ (s.o n).link.runId = runId ∧ s.slacOpen n ∧ s.drbgOk) →
    let d := s.drbg 5
    let t := (d.2.put (OUT_SLAC_PHASE n) 3).set1 (OUT_EVENTS_SLAC_DONE n)
    exec (.slacMatch n runId) s = .next (t.updLink n (fun l => { l with
        nmk := d.1, timer := 3, deadline := s.now + 20 * secBeats, slacWait := some (.matchCnf runId d.1, s.red.jnl.iseq) }))) ∧
  -- slacTimeout, SLAC_TIMEOUT (R167)
  (∀ (n : Fin 12) (s : State),
    let ph := s.get (OUT_SLAC_PHASE n)
    let l := (s.o n).link
    (s.slacOpen n ∧ (ph = 1 ∨ ph = 2) ∧ (s.o n).pilot.fEnd.isNone ∧ l.slacBeat + s.slacBeats n ≤ s.now) →
    ¬(l.failedOnce) →
    let t := s.updLink n (fun x => { x with failedOnce := true })
    exec (.slacTimeout n) s = .next ((t.updPilot n (fun p => { p with fEnd := some (s.now + 4 * secBeats), fSlac := true })).refreshPilot n)) ∧
  -- sdpRequest, SDP_REQUEST (R170)
  (∀ (n : Fin 12) (late : Bool) (s : State),
    ∀ k,
    s.sesOn n = some k →
    (s.get (OUT_SLAC_PHASE n) = 3) →
    exec (.sdpRequest n late) s = .next ((s.updLink n (fun l => { l with responses := l.responses + 1 })).v2gLate n k late)) ∧
  -- supportedAppProtocol, SUPPORTED_APP_PROTOCOL (R168)
  (∀ (n : Fin 12) (ranked : List Nat) (late : Bool) (s : State),
    ∀ k,
    s.sesOn n = some k →
    (s.get (OUT_SLAC_PHASE n) = 3 ∧ s.get (OUT_STATE_PROTO n) ≠ 1) →
    let t := (s.v2gLate n k late).ackSegs n
    ∀ p,
    s.pickProtocol n (s.get (SES_PROTO_TLS k)) ranked = some p →
    exec (.supportedAppProtocol n ranked late) s = .next (((t.put (OUT_STATE_PROTO n) p).put (SES_PROTO_PROTO k) p).respond n false)) ∧
  -- v2gRequest, V2G_REQUEST (R170)
  (∀ (n : Fin 12) (m : V2gMsg) (late : Bool) (s : State),
    ∀ k,
    s.sesOn n = some k →
    (s.hlc n && s.sesLive k) →
    let r := ((s.v2gLate n k late).ackSegs n).v2gEffect n k m
    exec (.v2gRequest n m late) s = .next (if r.1.sesOn n = some k ∧ m ≠ .sessionStop then r.1.respond n r.2 else r.1.sendSeg n .sessionStop false)) ∧
  -- tlsClientHello, TLS_CLIENT_HELLO (R169)
  (∀ (n : Fin 12) (offer : TlsOffer) (cost : Nat) (s : State),
    ∀ k,
    s.sesOn n = some k →
    ∀ choice,
    tlsChoose offer = some choice →
    ¬(s.get (OUT_SLAC_PHASE n) = 3 ∧ !s.drbgOk) →
    (s.get (OUT_SLAC_PHASE n) = 3 ∧ (s.o n).cfg.protos.contains (if offer.tls13 then 4 else 3)) →
    let d := s.drbg 6
    let t := (d.2.setJewel (33 + n) (some d.1)).updKey (fun x => { x with ephMono := upd x.ephMono n (fun _ => s.mono) })
    let t := t.updLink n (fun l => { l with tls := some choice, tlsBeat := some s.now, tlsAdmitted := false })
    let t := t.put (SES_PROTO_TLS k) (if offer.tls13 then 2 else 1)
    exec (.tlsClientHello n offer cost) s = .next (t.postComp t.owner { kind := kTLS, cost := cost, latest := s.now + 15 * secBeats, subject := n })) ∧
  -- tlsPkTimeout, TLS_PK_TIMEOUT (R169)
  (∀ (n : Fin 12) (s : State),
    ∀ b,
    (s.o n).link.tlsBeat = some b →
    ∀ k,
    s.sesOn n = some k →
    (b + 15 * secBeats ≤ s.now ∧ !s.tlsAdmitted n) →
    exec (.tlsPkTimeout n) s = .next ((s.put (SES_PROTO_TLS k) 0).tlsStop n)) ∧
  -- commSetupTimeout, COMM_SETUP_TIMEOUT (R170)
  (∀ (n : Fin 12) (s : State),
    exec (.commSetupTimeout n) s = .next (s.v2gExpire n 3 rCOMM)) ∧
  -- sequenceTimeout, SEQUENCE_TIMEOUT (R170)
  (∀ (n : Fin 12) (s : State),
    exec (.sequenceTimeout n) s = .next (s.v2gExpire n 4 rCOMM)) ∧
  -- cpStateDetectionTimeout, CP_STATE_DETECTION_TIMEOUT (R170)
  (∀ (n : Fin 12) (s : State),
    exec (.cpStateDetectionTimeout n) s = .next (s.v2gExpire n 5 rPILOT_ERROR)) ∧
  -- v2gTrust, V2G_TRUST (R172)
  (∀ (mb : Fin 8) (ok : Bool) (s : State),
    ∀ c, s.takes mb 0x0509 .running false c →
    let u0 := (s.startCmd c).inside
    let a := c.u32 1
    ¬(c.u32 0 > 2 ∨ !argAddrOk a) →
    ¬(c.u32 0 = 1 ∧ !u0.drbgOk) →
    ¬(c.u32 0 = 1) →
    ¬(!ok ∨ (c.u32 0 = 2 ∧ (u0.jewel 31).isNone)) →
    ∀ bs,
    u0.trustData a (c.u32 0 == 0) = some bs →
    let t := { u0 with outs := { u0.outs with
      roots := if c.u32 0 = 0 then some bs else u0.outs.roots
      seccChain := if c.u32 0 = 2 then some bs else u0.outs.seccChain } }
    exec (.v2gTrust mb ok) s = .next (State.doneIn (t.reply c stOK 0))) ∧
  -- v2gCertReply, V2G_CERT_REPLY (R172)
  (∀ (mb : Fin 8) (s : State),
    ∀ c, s.takes mb 0x050A .any false c →
    let u0 := (s.startCmd c).inside
    let k := c.u32 0
    let n := u0.get (SES_STATE_OUTLET k)
    ¬(k ≥ 128 ∨ !(c.u32 1 = 0xFFFFFFFF ∨ argAddrOk (c.u32 1))) →
    ¬(u0.sesOn n ≠ some k ∨ !(u0.o n).link.waitsCert) →
    exec (.v2gCertReply mb) s = .next (State.doneIn ((u0.updLink n (fun l => { l with waitsCert := false, certReply := some (c.u32 1) })).reply c stOK 0)))

/-- Completion and effect of the rows of protection: RDC, closing, weld proofs, insulation, overcurrent, latches, retries:
under the stated conditions on the state and the operands alone, exec answers the next state written out, in every part of the
machine. One clause per command (two where its effect has two courses, or where a read is also said by its answer and its
effect on the register). Constructors of Instr that complete here: rdcSelfTestEnd, closeTimeout, vmatchTimeout, auxMismatch,
weldProofAc, weldProofDc, rdcTrip, rdcLockRelease, insulationDwellEnd, ocInst, overvolt, ocSlow, connectorThermalLatch,
connectorLatchClear, holdRetry, latchTimeout, protBlind, protClear, rdcTest. -/
def Obligations.ProtectionRowsComplete : Prop :=
  -- rdcSelfTestEnd, RDC_SELF_TEST_END (R196)
  (∀ (n : Fin 12) (s : State),
    let c := (s.o n).close
    let answer (param : Nat) (u : State) : State :=
      match (u.o n).prot.testCmd with
      | some r => (u.replyTo r.port r.seq stOK param).updProt n (fun p => { p with testCmd := none })
      | none => u
    (c.test = 3) →
    let u0 := State.inside s
    let t := answer (u0.get (OUT_RDC_STAT_TEST_I n)) (u0.set1 (OUT_RDC_STAT_TEST_OK n))
    (c.step = 1) →
    exec (.rdcSelfTestEnd n) s = .next (State.doneIn ((t.updClose n (fun d => { d with test := 5 })).precheckAc n))) ∧
  -- closeTimeout, CLOSE_TIMEOUT (R187)
  (∀ (n : Fin 12) (s : State),
    let c := (s.o n).close
    (c.step = 3 ∧ c.beat + 40 * s.get (OUT_PROT_CFG_T_CLOSE n) ≤ s.now) →
    exec (.closeTimeout n) s = .next (s.closeFail n)) ∧
  -- vmatchTimeout, VMATCH_TIMEOUT (R189)
  (∀ (n : Fin 12) (s : State),
    let c := (s.o n).close
    (c.step = 7 ∧ c.beat + 5 * secBeats ≤ s.now) →
    exec (.vmatchTimeout n) s = .next (((s.set1 (OUT_PROT_EVENTS_CLOSE n)).moduleOff n).raiseOutlet 0x5205 n 0)) ∧
  -- auxMismatch, AUX_MISMATCH (R186)
  (∀ (n : Fin 12) (s : State),
    (40 ≤ max (s.o n).prot.aux1 (s.o n).prot.aux2 ∧ !(s.o n).prot.auxSaid ∧ s.droppedOut n) →
    let u0 := State.inside s
    exec (.auxMismatch n) s = .next (State.doneIn ((u0.updProt n (fun p => { p with auxSaid := true })).uncmdOpen n))) ∧
  -- auxMismatch, AUX_MISMATCH (R186)
  (∀ (n : Fin 12) (s : State),
    ¬(40 ≤ max (s.o n).prot.aux1 (s.o n).prot.aux2 ∧ !(s.o n).prot.auxSaid ∧ s.droppedOut n) →
    (40 ≤ max (s.o n).prot.aux1 (s.o n).prot.aux2 ∧ !(s.o n).prot.auxSaid) →
    let u0 := State.inside s
    let t := when (u0.isDc n && !u0.settingPos) (fun u => u.moduleOff n) u0
    let t := ((t.updProt n (fun p => { p with auxSaid := true })).raiseOutlet 0x5202 n 0)
    exec (.auxMismatch n) s = .next (State.doneIn ((if u0.isDc n then t else t.requestOpen n).openNow n))) ∧
  -- weldProofAc, WELD_PROOF_AC (R191)
  (∀ (n : Fin 12) (z : Unit) (s : State),
    let w := (s.o n).weld
    let end_ := w.t0 + 40 * s.get (OUT_PROT_CFG_T_OPEN_MAX n)
    ¬(!w.active ∨ s.isDc n) →
    ¬(w.load) →
    (w.win ≤ end_ + 1 ∧ w.win + 200 ≤ s.now) →
    exec (.weldProofAc n z) s = .next (s.weldPass n 1)) ∧
  -- weldProofDc, WELD_PROOF_DC (R192)
  (∀ (n : Fin 12) (s : State),
    let w := (s.o n).weld
    let a := s.auxOf n
    let open_ := !a.1 && !a.2
    ¬(!w.active ∨ !s.isDc n) →
    ¬(w.both) →
    (w.t0 + 4000 ≤ s.now) →
    exec (.weldProofDc n) s = .next (if w.preLow && !w.outLow && open_ then s.weldPass n 1 else s.weldFail n)) ∧
  -- rdcTrip, RDC_TRIP (R195)
  (∀ (n : Fin 12) (ac : Bool) (k : Fin 8) (s : State),
    ((s.o n).prot.trips.testBit (if ac then 8 + k.val else k.val) ∧ !s.isDc n) →
    let u0 := State.inside s
    let t := (u0.set1 (OUT_CONTACT_RDC_LOCK n)).set1 (OUT_PROT_EVENTS_RDC n)
    let t := (t.putB (OUT_RDC_STAT_TRIP_AC n) ac).put (OUT_RDC_STAT_TRIP_PT n) k
    exec (.rdcTrip n ac k) s = .next (State.doneIn (((t.updProt n (fun p => { p with trips := 0 })).raiseOutlet 0x5206 n k).openNow n))) ∧
  -- rdcLockRelease, RDC_LOCK_RELEASE (R197)
  (∀ (n : Fin 12) (s : State),
    (s.isSet (OUT_CONTACT_RDC_LOCK n) ∧ s.rdcFree n) →
    exec (.rdcLockRelease n) s = .next (s.clr (OUT_CONTACT_RDC_LOCK n))) ∧
  -- insulationDwellEnd, INSULATION_DWELL_END (R198)
  (∀ (n : Fin 12) (_vp _vn : Unit) (s : State),
    let p := (s.o n).prot
    ∀ b,
    p.dwellBeat = some b →
    (s.isDc n ∧ s.energised n ∧ b + 400 * s.get (OUT_ISO_BRIDGE_DWELL n) ≤ s.now) →
    let vp := roundEven p.sumP (max 1 p.cntV)
    let vn := roundEven p.sumN (max 1 p.cntV)
    let vcc : Int := s.vcc n * 2 ^ 40
    let near := decide (((vp + vn) * 200 - vcc * 20).natAbs ≤ vcc.natAbs)
    let next_ := (p.dwell + 1) % 4
    let t := s.updProt n (fun q => { q with
      dwell := next_, dwellBeat := some s.now, sumP := 0, sumN := 0, cntV := 0
      isoIn := if p.dwell = 3 then true else q.isoIn && near
      isoCycles := if p.dwell = 3 ∧ p.isoIn ∧ near then q.isoCycles + 1 else q.isoCycles })
    let t := t.setBias n next_
    exec (.insulationDwellEnd n _vp _vn) s = .next (if p.dwell = 0 ∨ p.dwell = 2 then t.updProt n (fun q => { q with vp0 := vp, vn0 := vn }) else t.isoPole n p.dwell vp vn)) ∧
  -- ocInst, OC_INST (R200)
  (∀ (n : Fin 12) (s : State),
    (2 ≤ (s.o n).prot.oc ∧ s.energised n) →
    exec (.ocInst n) s = .next (s.tripNow n 0x520A)) ∧
  -- overvolt, OVERVOLT (R200)
  (∀ (n : Fin 12) (s : State),
    (s.isDc n ∧ 2 ≤ (s.o n).prot.ov) →
    exec (.overvolt n) s = .next (s.tripNow n 0x520C)) ∧
  -- ocSlow, OC_SLOW (R200)
  (∀ (n : Fin 12) (s : State),
    ((s.o n).prot.slowDue ∧ !(s.isSet (OUT_RETRY_HOLD n) && (s.o n).prot.holdLatch)) →
    let t := (s.set1 (OUT_PROT_EVENTS_OVERCURRENT n)).raise 0x520B DEGRADE s.srcOwner n 0
    exec (.ocSlow n) s = .next (State.within (fun u => (u.updProt n (fun q => { q with slow := 0, slowDue := false })).startHold n false) t)) ∧
  -- connectorThermalLatch, CONNECTOR_THERMAL_LATCH (R201)
  (∀ (n : Fin 12) (s : State),
    let trip : Int := 10 * s.get (OUT_OC_CFG_T_TRIP n)
    (s.isDc n ∧ !s.isSet (OUT_RETRY_LATCH n) ∧ (s.geti (OUT_TEMP_T1 n) ≥ trip ∨ s.geti (OUT_TEMP_T2 n) ≥ trip)) →
    let t := (s.set1 (OUT_RETRY_LATCH n)).raise 0x520D DEGRADE s.srcOwner n 0
    exec (.connectorThermalLatch n) s = .next ((t.updProt n (fun p => { p with latchBeat := s.now, holdLatch := true })).startHold n true)) ∧
  -- connectorLatchClear, CONNECTOR_LATCH_CLEAR (R201)
  (∀ (n : Fin 12) (s : State),
    (s.isSet (OUT_RETRY_LATCH n) ∧ 60 * secBeats ≤ (s.o n).prot.cool) →
    exec (.connectorLatchClear n) s = .next (s.clr (OUT_RETRY_LATCH n))) ∧
  -- holdRetry, HOLD_RETRY (R202)
  (∀ (n : Fin 12) (s : State),
    (s.isSet (OUT_RETRY_HOLD n) ∧ (s.o n).prot.holdBeat + (s.o n).cfg.retryDelay * secBeats ≤ s.now ∧
      !s.isSet (OUT_RETRY_LATCH n)) →
    let t := (s.clr (OUT_RETRY_HOLD n)).put (OUT_RETRY_LEFT n) (s.get (OUT_RETRY_LEFT n) - 1)
    exec (.holdRetry n) s = .next (t.updProt n (fun p => { p with holdLatch := false }))) ∧
  -- latchTimeout, LATCH_TIMEOUT (R203)
  (∀ (n : Fin 12) (s : State),
    (s.isSet (OUT_RETRY_LATCH n) ∧ (s.sesOn n).isSome ∧ (s.o n).prot.latchBeat + 1800 * secBeats ≤ s.now) →
    exec (.latchTimeout n) s = .next (s.raiseOutlet 0x520F n 0)) ∧
  -- protBlind, PROT_BLIND (R204)
  (∀ (n : Fin 12) (s : State),
    (4 ≤ maxN (s.o n).prot.blind ∧ !(s.o n).prot.blindSaid) →
    let u0 := State.inside s
    exec (.protBlind n) s = .next (State.doneIn (((u0.updProt n (fun p => { p with blindSaid := true })).raiseOutlet 0x5210 n 0).openNow n))) ∧
  -- protClear, PROT_CLEAR (R193)
  (∀ (mb : Fin 8) (s : State),
    ∀ c, s.takes mb 0x0510 .running false c →
    let u0 := (s.startCmd c).inside
    let n := c.u32 0
    let m := c.u32 1
    ¬(n ≥ 12 ∨ m > 3) →
    ¬(m.testBit 0 && !u0.inService c.port) →
    ¬(m.testBit 1 && u0.isSet (OUT_CONTACT_RDC_LOCK n) && !u0.rdcFree n) →
    let t := when (m.testBit 0 && u0.isSet (OUT_CONTACT_LOCKOUT n))
      (fun u => ((u.clr (OUT_CONTACT_LOCKOUT n)).put (OUT_CONTACT_CSTATE n) 0).refreshPilot n) u0
    exec (.protClear mb) s = .next (State.doneIn ((when (m.testBit 1) (fun u => u.clr (OUT_CONTACT_RDC_LOCK n)) t).reply c stOK 0))) ∧
  -- rdcTest, RDC_TEST (R196)
  (∀ (mb : Fin 8) (s : State),
    ∀ c, s.takes mb 0x0511 .running false c →
    let u0 := (s.startCmd c).inside
    let n := c.u32 0
    ¬(n ≥ 12 ∨ u0.isAbsent n ∨ u0.isDc n ∨ (u0.o n).cfg.resCh.isNone) →
    ¬((match u0.sesOn n with | some k => decide (u0.sst k = CHARGING) | none => false)) →
    ¬((u0.o n).prot.testCmd.isSome ∨ (u0.o n).close.test ≠ 0) →
    exec (.rdcTest mb) s = .next (State.doneIn ((u0.updProt n (fun p => { p with testCmd := some { port := c.port, seq := c.seq } })).startTestRdc n)))

/-- Completion and effect of the rows of the converters on the CAN bus: under the stated conditions on the state and the
operands alone, exec answers the next state written out, in every part of the machine. One clause per command (two where its
effect has two courses, or where a read is also said by its answer and its effect on the register). Constructors of Instr that
complete here: setpointFrame, statusFrame, canTargetLost, canBusOff, busOffRecovery. -/
def Obligations.ConverterFramesComplete : Prop :=
  -- setpointFrame, SETPOINT_FRAME (R181)
  (∀ (c : Fin 4) (k : Fin 2) (s : State),
    (s.esc.gen = 2 ∧ (s.now + 40 - 20 * k.val) % 40 = 0 ∧ !s.settingPos ∧ (nth s.outs.busOff none c).isNone) →
    ∀ n,
    s.outletTarget c k = some n →
    let p := s.setpointOf n
    let o := s.o n
    let seq := (s.get (OUT_CAN_SEQ n) + 1) % 65536
    ¬(o.reissue && !o.frame.isEmpty) →
    let f := s.sendable o.frame seq (setpointFrame seq p.1 0 p.2.1 p.2.2.1 p.2.2.2 o.cfg.ramp)
    let t := (s.put (OUT_CAN_SEQ n) seq).puti (OUT_LIMIT_I_ALLOWED n) (satI 16 p.2.2.1)
    exec (.setpointFrame c k) s = .next (t.updO n (fun x => { x with frame := f, frameId := s.setpointId c k, reissue := false, setI := p.2.2.1 }))) ∧
  -- setpointFrame, SETPOINT_FRAME (R181)
  (∀ (c : Fin 4) (k : Fin 2) (s : State),
    (s.esc.gen = 2 ∧ (s.now + 40 - 20 * k.val) % 40 = 0 ∧ !s.settingPos ∧ (nth s.outs.busOff none c).isNone) →
    s.outletTarget c k = none →
    ∀ j,
    s.convTarget c k = some j →
    let x := s.conv j
    let mode := if s.running then x.setMode else 0
    let seq := (x.seq + 1) % 65536
    ¬(x.reissue && !x.frame.isEmpty) →
    let f := s.sendable x.frame seq (setpointFrame seq mode 0 x.setV (if mode = 0 then 0 else x.setI) x.setP 0)
    let t := s.put (GOV_PL_BAT_SET_MODE j) mode
    exec (.setpointFrame c k) s = .next (t.updConv j (fun y => { y with frame := f, frameId := s.setpointId c k, seq := seq, reissue := false }))) ∧
  -- statusFrame, STATUS_FRAME (R182)
  (∀ (c : Fin 4) (k : Fin 2) (bs : List Byte) (s : State),
    ¬(!statusOk bs || s.settingPos) →
    ∀ n,
    s.outletTarget c k = some n →
    let fault := decide (field bs 2 1 = 5) && s.get (OUT_CAN_STATE n) != 5
    let t := (s.putSat (OUT_CAN_STATE n) (field bs 2 1)).updO n (fun x => { x with
      seqEcho := field bs 0 2
      statusBeat := some s.now
      lagBeat := lagSince (s.get (OUT_CAN_SEQ n)) (field bs 0 2) s.now x.lagBeat
      lost := x.lost && targetLost s.now (some s.now) (lagSince (s.get (OUT_CAN_SEQ n)) (field bs 0 2) s.now x.lagBeat)
      mFault := field bs 3 1
      vOut := field bs 4 2
      iOut := fieldI bs 6 2
      pAvail := field bs 8 2
      tMax := fieldI bs 10 1 })
    exec (.statusFrame c k bs) s = .next (if fault then t.moduleStop n 0x510C else t)) ∧
  -- statusFrame, STATUS_FRAME (R182)
  (∀ (c : Fin 4) (k : Fin 2) (bs : List Byte) (s : State),
    ¬(!statusOk bs || s.settingPos) →
    s.outletTarget c k = none →
    ∀ j,
    s.convTarget c k = some j →
    let fault := decide (field bs 2 1 = 5) && (s.conv j).state != 5
    let t := s.updConv j (fun x => { x with
      state := field bs 2 1
      seqEcho := field bs 0 2
      statusBeat := some s.now
      lagBeat := lagSince x.seq (field bs 0 2) s.now x.lagBeat
      lost := x.lost && targetLost s.now (some s.now) (lagSince x.seq (field bs 0 2) s.now x.lagBeat)
      mFault := field bs 3 1
      vOut := field bs 4 2
      iOut := fieldI bs 6 2
      pAvail := field bs 8 2
      tMax := fieldI bs 10 1 })
    exec (.statusFrame c k bs) s = .next (if fault then (t.updConv j ConvSt.off).raise 0x510C OUTLETSTOP t.srcOwner (16 + j) 0 else t)) ∧
  -- canTargetLost, CAN_TARGET_LOST (R183)
  (∀ (c : Fin 4) (k : Fin 2) (s : State),
    ¬(!s.running) →
    ∀ n,
    s.outletTarget c k = some n →
    let o := s.o n
    (!o.lost && targetLost s.now o.statusBeat o.lagBeat) →
    let t := (s.updO n (fun x => { x with lost := true })).set1 (OUT_EVENTS_CAN_LOST n)
    exec (.canTargetLost c k) s = .next (t.moduleStop n 0x510A)) ∧
  -- canTargetLost, CAN_TARGET_LOST (R183)
  (∀ (c : Fin 4) (k : Fin 2) (s : State),
    ¬(!s.running) →
    s.outletTarget c k = none →
    ∀ j,
    s.convTarget c k = some j →
    let x := s.conv j
    (!x.lost && targetLost s.now x.statusBeat x.lagBeat) →
    exec (.canTargetLost c k) s = .next ((s.updConv j (fun y => { y.off with lost := true })).raise 0x510A OUTLETSTOP s.srcOwner (16 + j) 0)) ∧
  -- canBusOff, CAN_BUS_OFF (R183)
  (∀ (c : Fin 4) (s : State),
    ¬(s.settingPos ∨ (nth s.outs.busOff none c).isSome) →
    let t := { s with outs := { s.outs with busOff := upd s.outs.busOff c (fun _ => some s.now) } }
    let t := t.raise 0x510B OUTLETSTOP t.srcOwner c 0
    exec (.canBusOff c) s = .next (forUpTo 12 (fun n u =>
        if u.isDc n ∧ u.get (OUT_CFG_CAN n) = c.val then (u.moduleOff n).stopOutlet n rPROTECTION 0x510B else u) t)) ∧
  -- busOffRecovery, BUS_OFF_RECOVERY (R183)
  (∀ (c : Fin 4) (s : State),
    ∀ b,
    nth s.outs.busOff none c = some b →
    (b + 4000 ≤ s.now) →
    exec (.busOffRecovery c) s = .next { s with outs := { s.outs with busOff := upd s.outs.busOff c (fun _ => none) } })

/-- Completion and effect of the rows of energy placement: under the stated conditions on the state and the operands alone,
exec answers the next state written out, in every part of the machine. One clause per command (two where its effect has two
courses, or where a read is also said by its answer and its effect on the register). Constructors of Instr that complete here:
allocationApply, islandExit, batteryDataStale, priceStale, siteLimitExpiry, minOffExpiry, sharePeriodStart, shareLowerTimeout,
partnerLost, partnerFailsafe, placePrice, placeBattery, placeSiteLimit, placeInfo, placementRound. -/
def Obligations.PlacementRowsComplete : Prop :=
  -- allocationApply, ALLOCATION_APPLY (R207)
  (∀ (s : State),
    ∀ p,
    s.gov.pending = some p →
    (s.running ∧ s.now % 400 = 1) →
    let t := s.updGov (fun g => { g with pending := none, last := p })
    let t := (t.putRound p.shown).showRound p
    let t := match p.lastResort with | some n => t.openLast n | none => t
    let t := forEach t.sesOutlets (fun x u =>
      u.applyOne x.1 x.2 (p.items.find? (fun y => y.key == x.2))) t
    let t := t.applyBattery p
    exec .allocationApply s = .next (if p.period then
          (forEach (p.items.filter (fun x => decide (128 ≤ x.key))) (fun x u => u.newShare (x.key - 128) (x.a / 100).toNat)
            t).sendRaises.showPartners
        else t)) ∧
  -- islandExit, ISLAND_EXIT (R222)
  (∀ (s : State),
    ∀ b,
    s.gov.okSince = some b →
    (s.running ∧ s.islanded ∧ b + s.get GOV_PL_SOC_CFG_RECONNECT * secBeats ≤ s.now) →
    exec .islandExit s = .next ((((s.clr GOV_PL_STATE_ISLANDED).set1 GOV_PL_EVENTS_ISLAND_CHG).updGov (fun g => { g with lowCycles := 0 })).updSupply)) ∧
  -- batteryDataStale, BATTERY_DATA_STALE (R215)
  (∀ (s : State),
    (s.running ∧ s.convs ≠ [] ∧ !s.batValid ∧ !s.gov.batStale) →
    let t := forUpTo 2 (fun j u => (u.updConv j ConvSt.off).puti (GOV_PL_BAT_SET_SET j) 0) s
    let t := (t.clr GOV_PL_STATE_SOC_VALID).set1 GOV_PL_EVENTS_BAT_STALE
    exec .batteryDataStale s = .next ((t.updGov (fun g => { g with batStale := true })).raise 0x5307 DEGRADE t.srcOwner 0 0)) ∧
  -- priceStale, PRICE_STALE (R216)
  (∀ (s : State),
    let above : Bool := match s.gov.priceEnd with | some b => decide (b ≤ s.now) | none => true
    (s.running ∧ above ∧ !s.gov.priceStale) →
    let t := s.updGov (fun g => { g with priceStale := true, priceEnd := none })
    let t := t.judgePrice
    exec .priceStale s = .next ((t.set1 GOV_PL_EVENTS_PRICE_STALE).raise 0x5306 NOTE t.srcOwner 0 0)) ∧
  -- siteLimitExpiry, SITE_LIMIT_EXPIRY (R208)
  (∀ (s : State),
    ∀ b,
    s.gov.hostEnd = some b →
    (b ≤ s.now) →
    exec .siteLimitExpiry s = .next ((s.put GOV_PL_LIMIT_EFF_HOST_LIM 0).updGov (fun g => { g with hostEnd := none }))) ∧
  -- minOffExpiry, MIN_OFF_EXPIRY (R213)
  (∀ (k : Fin 128) (s : State),
    ((s.sx k).minOff ∧ (s.sx k).minOffEnd ≤ s.now) →
    exec (.minOffExpiry k) s = .next (s.updS k (fun x => { x with minOff := false }))) ∧
  -- sharePeriodStart, SHARE_PERIOD_START (R223)
  (∀ (s : State),
    (s.running ∧ s.isSet GOV_PL_CFG_REGULATOR ∧ s.gov.periodBeat + s.get GOV_REG_STATE_PERIOD * secBeats ≤ s.now) →
    exec .sharePeriodStart s = .next (s.updGov (fun g => { g with periodDue := true, periodBeat := s.now }))) ∧
  -- shareLowerTimeout, SHARE_LOWER_TIMEOUT (R224)
  (∀ (k : Fin 255) (s : State),
    ∀ b,
    (s.partner k).wait = some b →
    (b + 2 * secBeats ≤ s.now) →
    exec (.shareLowerTimeout k) s = .next ((s.updPartner k (fun p => { p with wait := none })).sendRaises)) ∧
  -- partnerLost, PARTNER_LOST (R225)
  (∀ (k : Fin 255) (s : State),
    let st := s.get (GOV_REG_P_ID_STATE k)
    (s.running ∧ s.isSet GOV_PL_CFG_REGULATOR ∧ st ≠ 0 ∧ st ≠ 2 ∧
      (s.partner k).report + 3 * s.get GOV_REG_STATE_PERIOD * secBeats ≤ s.now) →
    let t := (s.put (GOV_REG_P_ID_STATE k) 2).updPartner k (fun p => { p with wait := none })
    exec (.partnerLost k) s = .next (((t.set1 GOV_PL_EVENTS_PARTNER_LOST).raise 0x5308 NOTE t.srcOwner (s.get (GOV_REG_P_ID_NODE k)) 0).showPartners)) ∧
  -- partnerFailsafe, PARTNER_FAILSAFE (R225)
  (∀ (s : State),
    let period := s.gov.sharePeriod.getD (s.get GOV_REG_STATE_PERIOD)
    (s.running ∧ s.isSet GOV_PL_CFG_PARTNER ∧ s.gov.shareBeat + 3 * period * secBeats ≤ s.now) →
    exec .partnerFailsafe s = .next (s.updGov (fun g => { g with share := some g.failsafe }))) ∧
  -- placePrice, PLACE_PRICE (R216)
  (∀ (mb : Fin 8) (s : State),
    ∀ c, s.takes mb 0x0601 .running false c →
    let u0 := (s.startCmd c).inside
    ¬(c.u32 1 = 0 ∨ c.u32 1 > 86400) →
    exec (.placePrice mb) s = .next (State.doneIn ((u0.updGov (fun g => { g with
        hostPrice := c.u32 0, priceEnd := some (u0.now + c.u32 1 * secBeats), priceStale := false })).reply c stOK 0))) ∧
  -- placeBattery, PLACE_BATTERY (R215)
  (∀ (mb : Fin 8) (s : State),
    ∀ c, s.takes mb 0x0602 .running false c →
    let u0 := (s.startCmd c).inside
    let v := c.u32 6
    ¬(c.u32 0 > 1000 ∨ c.u32 3 > 1000 ∨ v = 0 ∨ v > 600) →
    let t := forUpTo 2 (fun j u => u.updConv j (fun x => { x with
      soc := c.u32 (3 * j), chLim := c.u32 (3 * j + 1), disLim := c.u32 (3 * j + 2) })) u0
    let t := t.updGov (fun g => { g with batEnd := some (u0.now + v * secBeats) })
    exec (.placeBattery mb) s = .next (State.doneIn ((t.updGov (fun g => { g with batStale := g.batStale && !t.batValid })).reply c stOK 0))) ∧
  -- placeSiteLimit, PLACE_SITE_LIMIT (R208)
  (∀ (mb : Fin 8) (s : State),
    ∀ c, s.takes mb 0x0603 .running false c →
    let u0 := (s.startCmd c).inside
    let l := c.u32 0
    let d := c.u32 1
    ¬(l > u0.get GOV_PL_LIMITS_IMPORT ∨ (l ≠ 0 ∧ (d = 0 ∨ d > 86400))) →
    let first := (u0.now / 400 + 1) * 400
    exec (.placeSiteLimit mb) s = .next (State.doneIn (((u0.put GOV_PL_LIMIT_EFF_HOST_LIM l).updGov (fun g => { g with
        hostEnd := if l = 0 then none else some (first + d * secBeats) })).reply c stOK 0))) ∧
  -- placeInfo, PLACE_INFO (R214)
  (∀ (mb : Fin 8) (s : State),
    ∀ c, s.takes mb 0x0604 .running false c →
    let u0 := (s.startCmd c).inside
    ¬(!argRangeOk (c.u32 0) 2048) →
    let w (v : Int) : List Byte := le 4 (twos 32 (satI 32 v))
    let body := (List.range 128).flatMap (fun k =>
      match u0.gov.last.items.find? (fun x => x.key == k) with
      | some x => w x.a ++ w x.c ++ w x.m ++ w x.n
      | none => w 0 ++ w 0 ++ w 0 ++ w 0)
    exec (.placeInfo mb) s = .next (State.doneIn ((u0.laneWrite (c.u32 0) body).reply c stOK 0))) ∧
  -- placementRound, PLACEMENT_ROUND (R207)
  (∀ (s : State),
    (s.running ∧ s.esc.gen = 2 ∧ s.now % 400 = 0) →
    let old := roundFlds.map s.get
    let t := s.closeRound.takeLimits
    let t := (t.put GOV_PL_LIMIT_EFF_IMPORT_EFF t.importEff).judgeSite
    let t := (t.islandEntry.judgePrice.putB GOV_PL_STATE_SOC_VALID t.batValid).creditStops
    let r := t.breachRound
    let t := r.2.showDc
    let p := t.allocate9 t.pSite t.lBase t.gov.periodDue
    let t := when (p.exportBad && !t.gov.exportBad) (fun u =>
      (u.set1 GOV_PL_EVENTS_EXPORT).raise 0x5304 NOTE u.srcOwner 0 0) t
    let shown := roundFlds.map t.get
    exec .placementRound s = .next ((t.updGov (fun g => { g with
        pending := some { p with shown := shown, lastResort := r.1, period := g.periodDue }
        exportBad := p.exportBad
        periodDue := false })).putRound old))

/-- Completion and effect of the rows of the site line: frames of the mains and of OFDM: under the stated conditions on the
state and the operands alone, exec answers the next state written out, in every part of the machine. One clause per command
(two where its effect has two courses, or where a read is also said by its answer and its effect on the register).
Constructors of Instr that complete here: siteMessageRetry, beatFrameStart, mainsZeroCrossing, zcLost, beatFrameReceived,
ofdmFrameStart, ofdmAckTimeout, ofdmAckFrame, ofdmDataFrame, preambleLost, sextantStart, probeFrame, linkReportSend,
linkExpiry, partnerReportSend. -/
def Obligations.SiteLineFramesComplete : Prop :=
  -- siteMessageRetry, SITE_MESSAGE_RETRY (R329)
  (∀ (s : State),
    ∀ m,
    s.sit.await.find? (fun m => decide (m.sentBeat + 3 * m.dur ≤ s.now)) = some m →
    (s.siteUp) →
    let t := s.updSit (fun x => { x with await := x.await.erase m })
    ¬(s.staleShare m) →
    (m.tries ≤ 3) →
    let left := if 17 ≤ m.dst then s.phasesTo m.dst else 0
    exec .siteMessageRetry s = .next (t.updSit (fun x => { x with outq := x.outq ++ [{ m with left := left }] }))) ∧
  -- beatFrameStart, BEAT_FRAME_START (R319)
  (∀ (p : Fin 3) (s : State),
    ∀ m,
    s.sit.outq.find? (fun m => m.isBeat && m.left.testBit p && s.mayLeave m.iseq && s.maySend m) = some m →
    (s.injOk.testBit p ∧ s.bitOf SIT_STATUS_ZC_OK p ∧ (nth s.sit.btx none p).isNone ∧
      4 + nth s.sit.bWait 0 p ≤ nth s.sit.bAbsent 0 p) →
    let seq := m.seq.getD ((s.sit.bseq + 1) % 16)
    let m' := { m with seq := some seq }
    exec (.beatFrameStart p) s = .next (s.updSit (fun x => { x with
        bseq := if m.seq.isSome then x.bseq else seq
        outq := x.outq.map (fun y => if y == m then m' else y)
        btx := upd x.btx p (fun _ => some { bits := s.beatBits m' seq, msg := m' }) }))) ∧
  -- mainsZeroCrossing, MAINS_ZERO_CROSSING (R315)
  (∀ (p : Fin 3) (positive : Bool) (o : HalfObs) (s : State),
    let h := s.readHalf o
    let t := ((s.putBit SIT_STATUS_ZC_OK p true).updSit (fun x => { x with
      zc := upd x.zc p (fun _ => s.now)
      zcBad := natBit x.zcBad p false })).countB p h.b
    let t := t.clr SIT_STATUS_FREE_RUN
    let isRef := (List.range p).all (fun q => !t.bitOf SIT_STATUS_ZC_OK q)
    let t := if isRef ∧ positive then
        (t.put SIT_MAINS_CYCLE (t.get SIT_MAINS_CYCLE + 1)).putSat SIT_MAINS_FREQ o.freq
      else t
    ¬(!s.siteHears) →
    ∀ x,
    nth s.sit.btx none p = some x →
    exec (.mainsZeroCrossing p positive o) s = .next (if s.maySend x.msg then t.beatSend p x h else t.beatAbort p)) ∧
  -- zcLost, ZC_LOST (R315)
  (∀ (p : Fin 3) (s : State),
    (s.siteRole ≠ 0 ∧ !s.settingPos ∧ !s.sit.zcBad.testBit p ∧ nth s.sit.zc 0 p + 4 * s.cycleBeats ≤ s.now) →
    let t := ((s.putBit SIT_STATUS_ZC_OK p false).beatAbort p).updSit (fun x => { x with zcBad := natBit x.zcBad p true })
    let t := t.raise 0x9101 DEGRADE srcCase p 0
    exec (.zcLost p) s = .next (if t.get SIT_STATUS_ZC_OK = 0 then (t.set1 SIT_STATUS_FREE_RUN).put SIT_MAINS_FREQ 5000 else t)) ∧
  -- beatFrameReceived, BEAT_FRAME_RECEIVED (R318)
  (∀ (p : Fin 3) (s : State),
    let l := nth s.sit.rxBits [] p
    ¬(l.length < 118) →
    let t := s.updSit (fun x => { x with rxBits := upd x.rxBits p (fun _ => []) })
    ∀ b,
    s.repairBits l = some b →
    let f (lo n : Nat) : Nat := ofMsb ((b.drop lo).take n)
    let src := f 10 10
    let dst := f 20 10
    let typ := f 30 4
    let seq := f 34 4
    let pay := f 38 64
    ¬(src = s.addr) →
    let t := (t.hearNode src).updSit (fun x => { x with
      nodes := (src, p.val, s.now) :: x.nodes.filter (fun y => y.1 != src) })
    let dup := s.sit.lastFrom.any (fun y => y == (src, seq, pay))
    let t := t.updSit (fun x => { x with lastFrom := (src, seq, pay) :: x.lastFrom.filter (fun y => y.1 != src) })
    ¬(dst ≠ 0 ∧ dst ≠ s.addr) →
    ∀ payload,
    fromBeat s.addr typ pay = some payload →
    ¬(dup) →
    exec (.beatFrameReceived p) s = .next (t.deliver { origin := src, mtype := typ, payload := payload, id := seq })) ∧
  -- ofdmFrameStart, OFDM_FRAME_START (R324)
  (∀ (s : State),
    (s.siteOn ∧ 6 + s.sit.oWait ≤ s.sit.quiet) →
    s.sit.tx = none →
    ∀ m,
    s.sit.outq.find? (fun m => !m.isBeat && s.mayLeave m.iseq && s.maySend m) = some m →
    let t := s.updSit (fun x => { x with outq := x.outq.erase m })
    ¬(m.dst = 0) →
    ∀ p,
    s.routeTo m.dst m.bad = some p →
    exec .ofdmFrameStart s = .next (t.startFrame m (nth p.2 m.dst 0) (s.msgBytes m p.2))) ∧
  -- ofdmAckTimeout, OFDM_ACK_TIMEOUT (R323)
  (∀ (s : State),
    ∀ x,
    s.sit.tx = some x →
    ∀ d,
    x.due = some d →
    (d < s.sit.sextCount) →
    let t := s.updSit (fun y => { y with w := min 63 (2 * y.w) })
    exec .ofdmAckTimeout s = .next (if x.segs.any (fun g => decide (4 ≤ g.sends)) then t.reroute x.msg x.hop
        else t.updSit (fun y => { y with tx := some { x with due := none } }))) ∧
  -- ofdmAckFrame, OFDM_ACK_FRAME (R323)
  (∀ (fch : BitVec 48) (s : State),
    let v := fch.toNat
    ¬(!s.siteHears) →
    ¬(s.fchCrc ((msb 48 v).take 40) ≠ v % 256) →
    ∀ x,
    s.sit.tx = some x →
    (bitsAt v 46 2 = 2 ∧ bitsAt v 36 10 = s.addr ∧ bitsAt v 32 4 = x.lseq ∧ x.due.isSome) →
    let k := x.hop - 1
    let map := bitsAt v 16 16
    let segs : List SegTx := x.segs.mapIdx (fun i g => { g with acked := g.acked || map.testBit i })
    let t := (s.hearNode x.hop).updSit (fun y => { y with w := 7 })
    let t := forEach ((x.segs.zip segs).filter (fun g => !g.1.acked)) (fun g u => u.segResult k g.1.sext g.2.acked) t
    let miss : List SegTx := segs.filter (fun g => !g.acked)
    (miss = []) →
    (x.rest = []) →
    let t := t.updSit (fun y => { y with tx := none })
    exec (.ofdmAckFrame fch) s = .next ((t.probeDone x.msg x.hop x.start).msgSent x.msg (s.now - x.start))) ∧
  -- ofdmDataFrame, OFDM_DATA_FRAME (R322)
  (∀ (fch : BitVec 48) (segs : List SegObs) (s : State),
    let v := fch.toNat
    ¬(!s.siteHears) →
    ¬(s.fchCrc ((msb 48 v).take 40) ≠ v % 256) →
    let typ := bitsAt v 46 2
    let dst := bitsAt v 36 10
    let src := bitsAt v 26 10
    let nseg := bitsAt v 22 4 + 1
    let lseq := bitsAt v 18 4
    ¬(typ ≥ 2) →
    ¬(src = s.addr) →
    let noComp := !(s.allowed s.owner).testBit kOFDM
    let t := s.hearNode src
    ¬((dst ≠ 0 ∧ dst ≠ s.addr) ∨ src = 0 ∨ 16 < src) →
    let k := src - 1
    let data := segs.filter (fun g => !g.probe)
    let dropped := (data.filter (fun g => g.dropped || noComp)).length
    let failed := (data.filter (fun g => !(g.dropped || noComp) && g.data.isNone)).length
    let t := (t.incBy SIT_DROP_DECODE_DROP dropped).incBy SIT_ERR_SEG_FAIL failed
    let t := forEach (segs.filter (fun g => !(g.dropped || noComp))) (fun g u => u.segHeard k g) t
    let t := t.promote k
    let got := data.map (fun g => if g.dropped || noComp then none else g.data)
    let r := t.rxOf src
    ¬(r.last = some lseq) →
    let fresh := decide (r.lseq ≠ lseq) || typ == 0
    let old : List (Option (List Byte)) := if fresh then List.replicate nseg none else r.segs
    let all := if typ = 0 then (List.range old.length).map (fun i =>
        match nth got none i with | some b => some b | none => nth old none i)
      else
        (old.foldl (fun (acc : List (Option (List Byte)) × List (Option (List Byte))) o =>
          match o with
          | some b => (acc.1 ++ [some b], acc.2)
          | none => match acc.2 with
            | [] => (acc.1 ++ [none], [])
            | g :: rest => (acc.1 ++ [g], rest)) ([], got)).1
    let map := (List.range all.length).foldl (fun m i => natBit m i (nth all none i).isSome) 0
    let t := t.sendAck dst src lseq map
    let buf := if r.last = some ((lseq + 15) % 16) then r.buf else []
    (all.all (fun o => o.isSome)) →
    let bytes := buf ++ (all.filterMap id).flatten
    let whole := decide (18 ≤ bytes.length) && decide (20 + field bytes 7 1 ≤ bytes.length)
    let t := t.setRx { src := src, lseq := lseq, segs := all, buf := if whole then [] else bytes, last := some lseq }
    exec (.ofdmDataFrame fch segs) s = .next (if whole then t.takeMessage (bytes.take (20 + field bytes 7 1)) else t)) ∧
  -- preambleLost, PREAMBLE_LOST (R333)
  (∀ (s : State),
    exec .preambleLost s = .next (if s.siteHears then s.frameLost else s)) ∧
  -- sextantStart, SEXTANT_START (R322)
  (∀ (j : Fin 6) (energy : Bool) (s : State),
    let n := if energy then 0 else s.sit.quiet + 1
    let t := s.updSit (fun x => { x with sext := j, sextCount := x.sextCount + 1, quiet := n })
    let t := when (s.isSet SIT_STATUS_FREE_RUN && decide (j.val = 0)) (fun u => u.put SIT_MAINS_CYCLE (u.get SIT_MAINS_CYCLE + 1)) t
    let d := t.draw
    exec (.sextantStart j energy) s = .next (if n = 6 then d.2.updSit (fun x => { x with oWait := d.1 % (x.w + 1) }) else t)) ∧
  -- probeFrame, PROBE_FRAME (R326)
  (∀ (k : Fin 16) (s : State),
    let x := s.link k
    (s.siteUp ∧ s.isSet (SIT_LINK_KNOWN k) ∧ (List.range 6).any (fun j => mapLevel (s.get (SIT_LINK_TXMAP k)) j == 0) ∧
      x.probe + 60 * secBeats ≤ s.now) →
    let t := s.updLinkRec k (fun y => { y with probe := s.now })
    exec (.probeFrame k) s = .next (t.sendMsg { dst := k + 1, mtype := 0x06, payload := le 2 (s.get (SIT_LINK_RXMAP k) + x.tmvRx * 4096), probe := true })) ∧
  -- linkReportSend, LINK_REPORT_SEND (R327)
  (∀ (s : State),
    let due : Bool := match s.sit.lrBeat with | some b => decide (b + 60 * secBeats ≤ s.now) | none => true
    (s.siteUp ∧ due) →
    let rec_ (k : Nat) : Nat :=
      let age := match (s.link k).heard with | some b => min 15 ((s.now - b) / (16 * secBeats)) | none => 15
      s.get (SIT_LINK_RXMAP k) + 4096 * age
    let t := s.updSit (fun x => { x with lrBeat := some s.now })
    exec .linkReportSend s = .next (t.sendSite 0 0x05 ((List.range 16).flatMap (fun k => le 2 (rec_ k))) none)) ∧
  -- linkExpiry, LINK_EXPIRY (R327)
  (∀ (k : Fin 16) (s : State),
    ∀ b,
    (s.link k).heard = some b →
    (b + 180 * secBeats ≤ s.now ∧ (s.link k).usable) →
    exec (.linkExpiry k) s = .next s.showLinks) ∧
  -- partnerReportSend, PARTNER_REPORT_SEND (R329)
  (∀ (s : State),
    let period := s.gov.sharePeriod.getD (s.get GOV_REG_STATE_PERIOD)
    let due : Bool := match s.sit.repBeat with | some b => decide (b + 2 * period * secBeats ≤ s.now) | none => true
    let r := s.reportOf
    (s.siteUp ∧ s.isSet GOV_PL_CFG_PARTNER ∧ (due ∨ reportMoved r s.sit.repLast)) →
    exec .partnerReportSend s = .next ((s.updSit (fun x => { x with repBeat := some s.now, repLast := r })).sendSite 1 0x01 r none))

/-- Completion and effect of the rows of the site line: messages and the SIT commands: under the stated conditions on the
state and the operands alone, exec answers the next state written out, in every part of the machine. One clause per command
(two where its effect has two courses, or where a read is also said by its answer and its effect on the register).
Constructors of Instr that complete here: announceSend, noPrivileged, report, share, shareAck, meterInfo, linkReport, toneMap,
announce, hostData, e2eAck, sitSend, sitRecv, sitLinkInfo, sitProbe. -/
def Obligations.SiteLineMessagesComplete : Prop :=
  -- announceSend, ANNOUNCE_SEND (R329)
  (∀ (s : State),
    let due : Bool := match s.sit.annBeat with | some b => decide (b + 600 * secBeats ≤ s.now) | none => true
    (s.siteUp ∧ due) →
    let p := le 1 s.siteRole ++ le 2 (s.get GLB_ID_PART) ++ le 8 (s.rdN A_GLB_SERIAL_LO + 2 ^ 32 * s.rdN A_GLB_SERIAL_HI) ++
      le 1 (s.get SIT_CFG_INJ)
    let t := (s.updSit (fun x => { x with annBeat := some s.now })).sendSite 0 0x07 p none
    exec .announceSend s = .next (if s.injOk = 0 then t else t.sendMsg { dst := 0, mtype := 0x07, payload := p.take 8, left := s.injOk })) ∧
  -- noPrivileged, NO_PRIVILEGED (R312)
  (∀ (s : State),
    (s.siteHears ∧ (s.siteRole = 2 ∨ s.isSet GOV_PL_CFG_PARTNER) ∧ !s.sit.lonely ∧ s.sit.heard + 60 * secBeats ≤ s.now) →
    exec .noPrivileged s = .next ((s.updSit (fun x => { x with lonely := true })).raise 0x9108 DEGRADE s.srcOwner 0 0)) ∧
  -- report, REPORT (R329)
  (∀ (s : State),
    exec .report s = .next (s.onMsg 0x01 (fun m s =>
        if !s.isSet GOV_PL_CFG_REGULATOR then s
        else
          let known := s.partnerOf m.origin
          match (if known.isSome then known else (List.range 255).find? (fun k => s.get (GOV_REG_P_ID_STATE k) == 0)) with
          | none => s
          | some k =>
            let fs := m.at 8 2
            let dep := m.at 11 2
            let st := s.get (GOV_REG_P_ID_STATE k)
            let t := (s.put (GOV_REG_P_ID_NODE k) m.origin).putSat (GOV_REG_P_ID_CLASS k) (m.at 10 1)
            let t := (t.put (GOV_REG_P_DEMAND_P_MIN k) (m.at 0 2)).put (GOV_REG_P_ACT_P_NEED k) (m.at 2 2)
            let t := (t.put (GOV_REG_P_DEMAND_P_MAX k) (m.at 4 2)).put (GOV_REG_P_ACT_P_ACT k) (m.at 6 2)
            let t := t.put (GOV_REG_P_SHARE_FAILSAFE k) fs
            let t := if st = 0 then t.put (GOV_REG_P_SHARE_SHARE k) fs else t
            let t := t.put (GOV_REG_P_ID_STATE k) (if st = 3 then 3 else 1)
            let t := t.updPartner k (fun p => { (if st = 0 then {} else p) with
              report := s.now
              depart := if dep = 0xFFFF then none else some (s.mono + 60 * dep) })
            t.showPartners.judgeCap))) ∧
  -- share, SHARE (R329)
  (∀ (s : State),
    exec .share s = .next (s.onMsg 0x02 (fun m s =>
        if !s.isSet GOV_PL_CFG_PARTNER ∨ m.origin ≠ 1 then s
        else
          let per := m.at 2 1
          let t := s.updGov (fun g => { g with
            share := some (m.at 0 2), shareBeat := s.now, sharePeriod := if per = 0 then g.sharePeriod else some per })
          if m.at 3 1 % 2 = 1 then t.sendSite m.origin 0x03 (m.payload.take 2 ++ le 2 m.id) none else t))) ∧
  -- shareAck, SHARE_ACK (R329)
  (∀ (s : State),
    exec .shareAck s = .next (s.onMsg 0x03 (fun m s =>
        match s.partnerOf m.origin with
        | none => s
        | some k =>
          let t := s.updSit (fun x => { x with await := x.await.filter (fun y => !(y.mtype == 2 && y.dst == m.origin)) })
          if s.get (GOV_REG_P_ID_STATE k) = 3 ∧ m.at 0 2 = s.get (GOV_REG_P_SHARE_SHARE k) then
            let t := (t.put (GOV_REG_P_ID_STATE k) 1).updPartner k (fun p => { p with oldShare := 0, wait := none })
            t.sendRaises.showPartners
          else t))) ∧
  -- meterInfo, METER_INFO (R331)
  (∀ (s : State),
    exec .meterInfo s = .next (s.onMsg 0x04 (fun m s =>
        if m.origin ≠ 2 then s
        else
          let old := s.get SIT_XM_LIMIT_LIMIT
          let t := (s.put SIT_XM_POWER_P_IMP (m.at 0 2)).put SIT_XM_POWER_P_EXP (m.at 2 2)
          let t := ((t.put SIT_XM_AGE_REG (m.at 4 1)).put SIT_XM_AGE_AGE 0).put SIT_XM_LIMIT_LIMIT (m.at 5 2)
          let t := (t.put SIT_XM_LIMIT_MINUTES (m.at 7 2)).updSit (fun x => { x with xmBeat := some s.now })
          when (decide (old ≠ m.at 5 2)) (fun u => u.set1 SIT_EVENTS_XM_LIMIT) t))) ∧
  -- linkReport, LINK_REPORT (R327)
  (∀ (s : State),
    exec .linkReport s = .next (s.onMsg 0x05 (fun m s =>
        let recs := (List.range 16).map (fun k => (m.origin, k + 1, m.at (2 * k) 2 % 4096, s.now))
        let fresh := recs.filter (fun r => decide (16 * (m.at (2 * (r.2.1 - 1)) 2 / 4096) < 180))
        (s.updSit (fun x => { x with reports := fresh ++ x.reports.filter (fun r => r.1 != m.origin) })).showLinks))) ∧
  -- toneMap, TONE_MAP (R326)
  (∀ (s : State),
    exec .toneMap s = .next (s.onMsg 0x06 (fun m s =>
        if 1 ≤ m.origin ∧ m.origin ≤ 16 ∧ m.origin ≠ s.addr then
          let k := m.origin - 1
          ((s.put (SIT_LINK_TXMAP k) (m.at 0 2 % 4096)).updLinkRec k (fun x => { x with
            tmvTx := m.at 0 2 / 4096, fails := [0, 0, 0, 0, 0, 0] })).showLinks
        else s))) ∧
  -- announce, ANNOUNCE (R329)
  (∀ (s : State),
    exec .announce s = .next (s.onMsg 0x07 (fun m s => (s.hearNode m.origin).showLinks))) ∧
  -- hostData, HOST_DATA (R329)
  (∀ (s : State),
    exec .hostData s = .next (s.onMsg 0x08 (fun m s =>
        let q := (if 8 ≤ s.sit.rxq.length then s.sit.rxq.drop 1 else s.sit.rxq) ++ [(m.origin, m.payload)]
        let t := (s.updSit (fun x => { x with rxq := q })).put SIT_RXQ_DEPTH q.length
        (t.set1 SIT_EVENTS_RX_HOST).sendSite m.origin 0x09 (le 2 m.id) none))) ∧
  -- e2eAck, E2E_ACK (R329)
  (∀ (s : State),
    exec .e2eAck s = .next (s.onMsg 0x09 (fun m s =>
        match s.sit.await.find? (fun y => y.mtype == 8 && y.dst == m.origin &&
            (if m.origin ≤ 16 then y.mseq == m.at 0 2 else y.seq == some (m.at 0 2 % 16))) with
        | none => s
        | some y =>
          let t := s.updSit (fun x => { x with await := x.await.erase y })
          match y.cmd with
          | some c => t.replyTo c.port c.seq stOK 0
          | none => t))) ∧
  -- sitSend, SIT_SEND (R323)
  (∀ (mb : Fin 8) (s : State),
    ∀ c, s.takes mb 0x0A10 .running false c →
    let u0 := (s.startCmd c).inside
    let dst := c.u32 0
    let n := c.u32 2
    ¬(u0.siteRole = 0) →
    ¬(dst = 0 ∨ dst > 1023 ∨ dst = u0.addr ∨ n = 0 ∨ n > (if dst ≤ 16 then 200 else 8) ∨ !argRangeOk (c.u32 1) n) →
    exec (.sitSend mb) s = .next (State.doneIn (u0.sendSite dst 0x08 (u0.mpRead (c.u32 1) n) (some { port := c.port, seq := c.seq })))) ∧
  -- sitRecv, SIT_RECV (R329)
  (∀ (mb : Fin 8) (s : State),
    ∀ c, s.takes mb 0x0A11 .running false c →
    let u0 := (s.startCmd c).inside
    ∀ m rest,
    u0.sit.rxq = m :: rest →
    ¬(!argRangeOk (c.u32 0) m.2.length) →
    let t := ((u0.laneWrite (c.u32 0) m.2).updSit (fun x => { x with rxq := rest })).put SIT_RXQ_DEPTH rest.length
    exec (.sitRecv mb) s = .next (State.doneIn (t.reply c stOK (m.1 + m.2.length * 65536)))) ∧
  -- sitLinkInfo, SIT_LINK_INFO (R327)
  (∀ (mb : Fin 8) (s : State),
    ∀ c, s.takes mb 0x0A12 .running false c →
    let u0 := (s.startCmd c).inside
    ¬(!argRangeOk (c.u32 0) 256) →
    let rec_ (k : Nat) : List Byte :=
      let route := match u0.routeTo (k + 1) [] with | some p => p.2 | none => []
      padTo 16 (le 2 (u0.get (SIT_LINK_TXMAP k)) ++ le 2 (u0.get (SIT_LINK_RXMAP k)) ++ le 2 (u0.get (SIT_LINKQ_COST k)) ++
        (u0.link k).snr.flatMap (fun v => le 1 (twos 8 (satI 8 v))) ++ route.flatMap (fun a => le 1 a))
    exec (.sitLinkInfo mb) s = .next (State.doneIn ((u0.laneWrite (c.u32 0) ((List.range 16).flatMap rec_)).reply c stOK 0))) ∧
  -- sitProbe, SIT_PROBE (R326)
  (∀ (mb : Fin 8) (s : State),
    ∀ c, s.takes mb 0x0A13 .running false c →
    let u0 := (s.startCmd c).inside
    let a := c.u32 0
    ¬(u0.siteRole = 0) →
    ¬(a = 0 ∨ a > 16 ∨ a = u0.addr) →
    let k := a - 1
    exec (.sitProbe mb) s = .next (State.doneIn (u0.sendMsg { dst := a, mtype := 0x06, payload := le 2 (u0.get (SIT_LINK_RXMAP k) + (u0.link k).tmvRx * 4096), probe := true, cmd := some { port := c.port, seq := c.seq } })))

/-- Completion and effect of the rows of the bezel: under the stated conditions on the state and the operands alone, exec
answers the next state written out, in every part of the machine. One clause per command (two where its effect has two
courses, or where a read is also said by its answer and its effect on the register). Constructors of Instr that complete here:
bezelPulseEnd, bezelRestEnd, bezelRailResume, bezelDropRepost, bezelRecovery, bzlShow, bzlRefresh, bzlStressRead. -/
def Obligations.BezelRowsComplete : Prop :=
  -- bezelPulseEnd, BEZEL_PULSE_END (R293)
  (∀ (charge : Nat) (s : State),
    ∀ w,
    s.bzl.write = some w →
    (!w.rest ∧ w.start + 4 * w.t ≤ s.now) →
    let t := (s.addStress w).judgeCharge w.line charge
    exec (.bezelPulseEnd charge) s = .next (t.updBzl (fun b => { b with write := some (if s.get BZL_CFG_INV = 2 ∧ !w.second then
        { w with second := true, start := s.now } else { w with rest := true, start := s.now }) }))) ∧
  -- bezelRestEnd, BEZEL_REST_END (R291)
  (∀ (s : State),
    ∀ w,
    s.bzl.write = some w →
    (w.rest ∧ w.start + 40 ≤ s.now) →
    exec .bezelRestEnd s = .next (s.lineDone w)) ∧
  -- bezelRailResume, BEZEL_RAIL_RESUME (R286)
  (∀ (rails : List Nat) (s : State),
    let t := s.watchRails rails
    ∀ b,
    t.bzl.railsOk = some b →
    (s.isSet BZL_STATE_STOPPED ∧ b + secBeats ≤ s.now) →
    exec (.bezelRailResume rails) s = .next ((t.clr BZL_STATE_STOPPED).updBzl (fun x => { x with refused := 0, railsOk := none }))) ∧
  -- bezelDropRepost, BEZEL_DROP_REPOST (R292)
  (∀ (s : State),
    (s.running ∧ s.now % 400 = 0) →
    exec .bezelDropRepost s = .next (forEach s.bzl.dropped (fun c u => u.postComp u.owner { c with latest := s.now + 400 }) (s.updBzl (fun b => { b with dropped := [] })))) ∧
  -- bezelRecovery, BEZEL_RECOVERY (R295)
  (∀ (s : State),
    ∀ r,
    s.bzl.startRec = some r →
    (s.running ∧ s.bzl.recover) →
    let f := s.get BZL_CFG_FRESH_LINE
    let rest := (List.range 8).filter (fun k => k != f && k != r.1)
    let order := rest.filter s.legalLine ++ rest.filter (fun k => !s.legalLine k)
    let seq := [(r.1, none), (f, some true)] ++ order.map (fun k => (k, none)) ++ [(f, some false)]
    let t := s.updBzl (fun b => { b with seq := seq, recover := false })
    exec .bezelRecovery s = .next (((t.set1 BZL_STATE_FRESH).set1 BZL_EVENTS_CUT).raise 0x8103 NOTE t.srcOwner r.1 0)) ∧
  -- bzlShow, BZL_SHOW (R290)
  (∀ (mb : Fin 8) (s : State),
    ∀ c, s.takes mb 0x0910 .running false c →
    let u0 := (s.startCmd c).inside
    ¬(!argRangeOk (c.u32 0) 64) →
    let l := lineWords (u0.mpRead (c.u32 0) 64)
    let t := u0.want (fun k w => if u0.legalLine k then w else nth l 0 k)
    exec (.bzlShow mb) s = .next (State.doneIn ((t.updBzl (fun b => { b with shows := b.shows ++ [{ port := c.port, seq := c.seq }] })).bezelAnswers))) ∧
  -- bzlRefresh, BZL_REFRESH (R291)
  (∀ (mb : Fin 8) (s : State),
    ∀ c, s.takes mb 0x0911 .running false c →
    let u0 := (s.startCmd c).inside
    exec (.bzlRefresh mb) s = .next (State.doneIn ((u0.updBzl (fun b => { b with
        forced := 0xFF, refresh := b.refresh ++ [{ port := c.port, seq := c.seq }] })).showPending))) ∧
  -- bzlStressRead, BZL_STRESS_READ (R293)
  (∀ (mb : Fin 8) (s : State),
    ∀ c, s.takes mb 0x0912 .running false c →
    let u0 := (s.startCmd c).inside
    ¬(!argRangeOk (c.u32 0) 2048) →
    exec (.bzlStressRead mb) s = .next (State.doneIn ((u0.laneWrite (c.u32 0) (u0.bzl.stress.flatMap (fun v => le 4 v))).reply c stOK 0)))

/-- Completion and effect of the rows of the card reader and the tag's link layer: under the stated conditions on the state
and the operands alone, exec answers the next state written out, in every part of the machine. One clause per command (two
where its effect has two courses, or where a read is also said by its answer and its effect on the register). Constructors of
Instr that complete here: readerPoll, cardPresenceCheck, isoDepBlockReceived, isoDepTimeout, tagWriteCommit, tagFieldOn,
tagFieldLoss, tagReqa, tagWupa, tagAnticollision, tagSelect, tagHlta. -/
def Obligations.CardReaderAndTagLinkComplete : Prop :=
  -- readerPoll, READER_POLL (R296)
  (∀ (card : Option CardObs) (driveOk : Bool) (s : State),
    (s.running ∧ s.isSet NFC_RD_CFG_EN ∧ !s.nfc.stopped ∧ s.rdState ≤ 1 ∧ !s.bitOf CLK_STATUS_LOST 9 ∧
      s.nfc.pollBeat + 40 * s.get NFC_RD_CFG_PERIOD ≤ s.now) →
    let bad := if driveOk then 0 else s.nfc.drive + 1
    let t := (s.put NFC_RD_CARD_STATE 1).updNfc (fun x => { x with pollBeat := s.now, drive := bad })
    ¬(3 ≤ bad) →
    ∀ c,
    card = some c →
    ¬(c.uid = s.nfc.uid) →
    let iso := c.sak.testBit 5
    let t := (t.put NFC_RD_CARD_ATQA c.atqa).put NFC_RD_CARD_SAK c.sak
    let t := (t.put NFC_RD_CARD_STATE (if iso then 3 else 2)).put NFC_RD_CARD_RATE
      (if iso then min c.rate (s.get NFC_RD_CFG_MAX_RATE) else 0)
    let t := if iso then t.updNfc (fun x => { x with rats := 0x10 * fsdi }) else t
    let t := (t.putB NFC_RD_CARD_ISO_DEP iso).set1 NFC_RD_CARD_PRESENT
    let t := t.wr128 A_NFC_RD_UID (ofLe (padTo 10 c.uid) + 2 ^ 80 * min 15 c.uid.length)
    let t := (t.inc NFC_RD_COUNT_CARDS).set1 NFC_EVENTS_CARD
    exec (.readerPoll card driveOk) s = .next (t.updNfc (fun x => { x with
        misses := 0, checkBeat := s.now, fwt := min c.fwt 197960, fsc := c.fsc, blockNo := 0 }))) ∧
  -- cardPresenceCheck, CARD_PRESENCE_CHECK (R297)
  (∀ (answered : Bool) (s : State),
    (s.isSet NFC_RD_CARD_PRESENT ∧ s.rdState ≠ 4 ∧ s.nfc.checkBeat + 4000 ≤ s.now) →
    let n := if answered then 0 else s.nfc.misses + 1
    let t := s.updNfc (fun x => { x with misses := n, checkBeat := s.now })
    exec (.cardPresenceCheck answered) s = .next (if 3 ≤ n then t.cardGone.set1 NFC_EVENTS_CARD_REMOVED else t)) ∧
  -- isoDepBlockReceived, ISO_DEP_BLOCK_RECEIVED (R298)
  (∀ (b : IsoBlock) (s : State),
    ∀ e,
    s.nfc.ex = some e →
    ¬(!e.sent ∨ !b.fits) →
    let no := s.nfc.blockNo
    let flip (u : State) : State := u.updNfc (fun x => { x with blockNo := 1 - x.blockNo })
    ∀ n more data,
    b = .info n more data →
    ¬(n ≠ no) →
    let got := e.got ++ data
    ¬(more) →
    let t := ((flip s).laneWrite e.addr got).replyTo e.cmd.port e.cmd.seq stOK got.length
    exec (.isoDepBlockReceived b) s = .next ((t.put NFC_RD_CARD_STATE 3).updNfc (fun x => { x with ex := none, checkBeat := s.now }))) ∧
  -- isoDepTimeout, ISO_DEP_TIMEOUT (R298)
  (∀ (s : State),
    ∀ e,
    s.nfc.ex = some e →
    (e.deadline ≤ s.now) →
    (e.naks < 2) →
    exec .isoDepTimeout s = .next (s.updNfc (fun x => { x with ex := some { e with naks := e.naks + 1, rnak := true, deadline := s.now + x.fwt } }))) ∧
  -- tagWriteCommit, TAG_WRITE_COMMIT (R308)
  (∀ (failed : Fin 3) (s : State),
    ∀ w,
    s.nfc.write = some w →
    ¬(s.now < w.start + 348 ∧ !s.noBeats) →
    let c0 := s.cell0 w.key
    let c : TagCell := if failed = 1 then c0.after w 4
      else if failed = 2 then { (c0.after w 348) with pOk := false } else c0.after w 348
    let t := ((s.setCell w.key c).updNfc (fun x => { x with write := none })).clr NFC_TAG_STATE_WRITING
    let t := if 512 ≤ w.key then t.showCounter (w.key - 512) else t
    let t := when (decide (failed ≠ 0)) (fun u => u.raise 0x9005 DEGRADE srcCase w.key 0) t
    let t := t.keyWritten w.key (decide (failed = 0))
    let t := when w.byField (fun u =>
      ((if w.key < 512 then u.put NFC_TAG_STATE_LAST_BLOCK w.key else u).set1 NFC_EVENTS_TAG_FIELD_WRITE).updNfc
        (fun x => { x with answer := some (if failed = 0 then 0xA else 0x8), reply := [] })) t
    ∀ r,
    w.cmd = some r →
    w.more = [] →
    exec (.tagWriteCommit failed) s = .next (((t.replyTo r.port r.seq stOK (if 512 ≤ w.key then t.tagVal w.key
        else if failed = 0 then w.done + 1 else w.done)).tagAbortsLate r).tagOwn)) ∧
  -- tagFieldOn, TAG_FIELD_ON (R301)
  (∀ (s : State),
    exec .tagFieldOn s = .next (s.set1 NFC_TAG_STATE_FIELD)) ∧
  -- tagFieldLoss, TAG_FIELD_LOSS (R305)
  (∀ (s : State),
    let t := if s.pwr.off then s.tagCollapse else s
    let t := t.clr NFC_TAG_STATE_FIELD
    let t := if t.tagState = 5 then t else t.put NFC_TAG_STATE_STATE 0
    exec .tagFieldLoss s = .next ((t.updNfc (fun x => { x with mute := false, fails := 0, served := false, chal := none })).endTxn)) ∧
  -- tagReqa, TAG_REQA (R301)
  (∀ (s : State),
    (s.isSet NFC_TAG_STATE_FIELD ∧ s.tagState = 0 ∧ !s.nfc.mute) →
    exec .tagReqa s = .next (((s.put NFC_TAG_STATE_STATE 1).updNfc (fun x => { x with star := false })).tagSays tagAtqaBytes false)) ∧
  -- tagWupa, TAG_WUPA (R301)
  (∀ (s : State),
    (s.isSet NFC_TAG_STATE_FIELD ∧ (s.tagState = 0 ∨ s.tagState = 4) ∧ !s.nfc.mute) →
    exec .tagWupa s = .next (((s.put NFC_TAG_STATE_STATE 1).updNfc (fun x => { x with star := decide (s.tagState = 4) })).tagSays tagAtqaBytes true)) ∧
  -- tagAnticollision, TAG_ANTICOLLISION (R301)
  (∀ (s : State),
    (s.tagState = 1) →
    exec .tagAnticollision s = .next (s.tagSays s.nfc.uid false)) ∧
  -- tagSelect, TAG_SELECT (R303)
  (∀ (s : State),
    (s.tagState = 1) →
    exec .tagSelect s = .next (((s.tagSays tagSakByte (selectLast s.nfc.uid)).put NFC_TAG_STATE_STATE 2).set1 NFC_TAG_STATE_TXN |>.updNfc (fun x => { x with
        served := false, fails := 0, chal := none, cmdBeat := s.now }))) ∧
  -- tagHlta, TAG_HLTA (R305)
  (∀ (s : State),
    (s.tagState = 2 ∨ s.tagState = 3) →
    let t := s.put NFC_TAG_STATE_STATE (if s.nfc.served then 5 else 4)
    exec .tagHlta s = .next ((t.updNfc (fun x => { x with silentBeat := some s.now, chal := none })).endTxn))

/-- Completion and effect of the rows of the crown tag's frames: under the stated conditions on the state and the operands
alone, exec answers the next state written out, in every part of the machine. One clause per command (two where its effect has
two courses, or where a read is also said by its answer and its effect on the register). Constructors of Instr that complete
here: tagDeselect, tagSilenceEnd, tagTxnIdleTimeout, getInfo, readBlock, writeBlock, readCounter, incrCounter, pwdAuth,
authBegin, authEnd, tagScrub. -/
def Obligations.TagCommandsComplete : Prop :=
  -- tagDeselect, TAG_DESELECT (R303)
  (∀ (s : State),
    (s.tagState = 2 ∨ s.tagState = 3) →
    exec .tagDeselect s = .next (((s.put NFC_TAG_STATE_STATE 4).updNfc (fun x => { x with chal := none })).endTxn)) ∧
  -- tagSilenceEnd, TAG_SILENCE_END (R305)
  (∀ (s : State),
    let due : Bool := match s.nfc.silentBeat with | some b => decide (b + 2 * secBeats ≤ s.now) | none => true
    (s.tagState = 5 ∧ (s.noBeats ∨ due)) →
    exec .tagSilenceEnd s = .next (s.put NFC_TAG_STATE_STATE 0)) ∧
  -- tagTxnIdleTimeout, TAG_TXN_IDLE_TIMEOUT (R311)
  (∀ (s : State),
    (s.txn ∧ (s.noBeats ∨ s.nfc.cmdBeat + 2 * secBeats ≤ s.now)) →
    exec .tagTxnIdleTimeout s = .next s.endTxn) ∧
  -- getInfo, GET_INFO (R302)
  (∀ (f : CrownFrame) (s : State),
    s.tagState = 2 ∨ s.tagState = 3 → s.nfc.mute = false → f.crcOk = true → s.nfc.write = none →
    let u0 := ((s.set1 NFC_TAG_STATE_TXN).updNfc (fun x => { x with served := true, cmdBeat := s.now })).tagAnswer none [] 9 f
    exec (.getInfo f) s = .next (u0.answerBytes
        (le 2 1 ++ le 1 u0.tagState ++ le 1 (u0.get NFC_TAG_CTRL_HOST_LOCK) ++ le 2 512 ++ le 2 8))) ∧
  -- readBlock, READ_BLOCK (R307)
  (∀ (f : CrownFrame) (block : BitVec 16) (s : State),
    s.tagState = 2 ∨ s.tagState = 3 → s.nfc.mute = false → f.crcOk = true → s.nfc.write = none →
    let u0 := ((s.set1 NFC_TAG_STATE_TXN).updNfc (fun x => { x with served := true, cmdBeat := s.now })).tagAnswer none [] 9 f
    let b := block.toNat
    ¬(!u0.mayRead b (u0.tagState == 3)) →
    ¬(241 ≤ b ∧ b ≤ 255) →
    ∀ w,
    (u0.cell b).winner = some w →
    exec (.readBlock f block) s = .next (u0.answerBytes (le 16 w.2))) ∧
  -- writeBlock, WRITE_BLOCK (R308)
  (∀ (f : CrownFrame) (block : BitVec 16) (data : BitVec 128) (reserve : Bool) (s : State),
    s.tagState = 2 ∨ s.tagState = 3 → s.nfc.mute = false → f.crcOk = true → s.nfc.write = none →
    let u0 := ((s.set1 NFC_TAG_STATE_TXN).updNfc (fun x => { x with served := true, cmdBeat := s.now })).tagAnswer none [] 1000 f
    let b := block.toNat
    ¬(u0.tagState ≠ 3 ∨ !u0.mayWrite b true) →
    ¬(u0.isSet NFC_TAG_CTRL_HOST_LOCK) →
    ¬(!reserve) →
    exec (.writeBlock f block data reserve) s = .next ((u0.set1 NFC_TAG_STATE_WRITER).startWrite b data.toNat (fun w => { w with byField := true }))) ∧
  -- readCounter, READ_COUNTER (R306)
  (∀ (f : CrownFrame) (k : BitVec 8) (s : State),
    s.tagState = 2 ∨ s.tagState = 3 → s.nfc.mute = false → f.crcOk = true → s.nfc.write = none →
    let u0 := ((s.set1 NFC_TAG_STATE_TXN).updNfc (fun x => { x with served := true, cmdBeat := s.now })).tagAnswer none [] 9 f
    ¬(8 ≤ k.toNat) →
    ∀ w,
    (u0.cell (512 + k.toNat)).winner = some w →
    exec (.readCounter f k) s = .next (u0.answerBytes (le 3 w.2))) ∧
  -- incrCounter, INCR_COUNTER (R308)
  (∀ (f : CrownFrame) (k : BitVec 8) (inc : BitVec 24) (reserve : Bool) (s : State),
    s.tagState = 2 ∨ s.tagState = 3 → s.nfc.mute = false → f.crcOk = true → s.nfc.write = none →
    let u0 := ((s.set1 NFC_TAG_STATE_TXN).updNfc (fun x => { x with served := true, cmdBeat := s.now })).tagAnswer none [] 1000 f
    let c := 512 + k.toNat
    let v := u0.tagVal c + inc.toNat
    ¬(u0.tagState ≠ 3 ∨ k.toNat < 2 ∨ 8 ≤ k.toNat) →
    ¬(u0.isSet NFC_TAG_CTRL_HOST_LOCK) →
    ¬((u0.cell c).winner.isNone) →
    ¬(0xFFFFFF < v) →
    ¬(!reserve) →
    exec (.incrCounter f k inc reserve) s = .next ((u0.set1 NFC_TAG_STATE_WRITER).startWrite c v (fun w => { w with byField := true }))) ∧
  -- pwdAuth, PWD_AUTH (R303)
  (∀ (f : CrownFrame) (pwd : BitVec 32) (s : State),
    s.tagState = 2 ∨ s.tagState = 3 → s.nfc.mute = false → f.crcOk = true → s.nfc.write = none →
    let u0 := ((s.set1 NFC_TAG_STATE_TXN).updNfc (fun x => { x with served := true, cmdBeat := s.now })).tagAnswer none [] 9 f
    ¬(!u0.isSet NFC_TAG_CTRL_PWD_EN) →
    ¬((u0.cell 5).winner.isNone) →
    (pwd.toNat = u0.tagVal 5 % 2 ^ 32) →
    exec (.pwdAuth f pwd) s = .next ((u0.put NFC_TAG_STATE_STATE 3).nak 0xA)) ∧
  -- authBegin, AUTH_BEGIN (R303)
  (∀ (f : CrownFrame) (chal : BitVec 128) (s : State),
    s.tagState = 2 ∨ s.tagState = 3 → s.nfc.mute = false → f.crcOk = true → s.nfc.write = none →
    let u0 := ((s.set1 NFC_TAG_STATE_TXN).updNfc (fun x => { x with served := true, cmdBeat := s.now })).tagAnswer none [] 64 f
    ¬(!u0.keyReads) →
    let d := u0.draw
    let c := d.1 % 2 ^ 128
    exec (.authBegin f chal) s = .next ((d.2.updNfc (fun x => { x with chal := some c })).answerBytes (le 16 c ++ le 16 (u0.tagMac chal.toNat)))) ∧
  -- authEnd, AUTH_END (R303)
  (∀ (f : CrownFrame) (resp : BitVec 128) (s : State),
    s.tagState = 2 ∨ s.tagState = 3 → s.nfc.mute = false → f.crcOk = true → s.nfc.write = none →
    let u0 := ((s.set1 NFC_TAG_STATE_TXN).updNfc (fun x => { x with served := true, cmdBeat := s.now })).tagAnswer none [] 64 f
    ∀ c,
    u0.nfc.chal = some c →
    (resp.toNat = u0.tagMac c ∧ !u0.nfc.keyBad) →
    exec (.authEnd f resp) s = .next (((u0.put NFC_TAG_STATE_STATE 3).updNfc (fun x => { x with chal := none })).nak 0xA)) ∧
  -- tagScrub, TAG_SCRUB (R307)
  (∀ (s : State),
    (s.tagServed ∧ s.nfc.write.isNone ∧ s.nfc.scrubBeat + 86400 * secBeats ≤ s.now) →
    let t := forEach (s.nfc.cells.map (·.1)) (fun k u => u.scrubCell k) s
    let t := forUpTo 8 (fun k u => u.showCounter k) t
    exec .tagScrub s = .next (t.judgeC1.updNfc (fun x => { x with scrubBeat := s.now })))

/-- Completion and effect of the rows of the tag's upkeep and the NFC commands: under the stated conditions on the state and
the operands alone, exec answers the next state written out, in every part of the machine. One clause per command (two where
its effect has two courses, or where a read is also said by its answer and its effect on the register). Constructors of Instr
that complete here: faultMirrorWrite, tagHostLockWrite, nfcRdEnable, nfcRdApdu, nfcRdRelease, nfcTagRead, nfcTagWrite,
nfcTagAbort, nfcTagCounter, nfcTagPwd. -/
def Obligations.TagUpkeepAndHostCommandsComplete : Prop :=
  -- faultMirrorWrite, FAULT_MIRROR_WRITE (R310)
  (∀ (s : State),
    ∀ e,
    s.mirrorNext = some e →
    (s.tagServed ∧ s.mirrorFree) →
    let b := 209 + 2 * (s.nfc.mirNext % 16)
    let t := s.updNfc (fun x => { x with mirSeq := e.seq, mirNext := (x.mirNext + 1) % 16, mirBeat := some s.now, mirMono := some s.mono })
    exec .faultMirrorWrite s = .next (t.ownWrites [(b, ofLe (e.bytes.take 16)), (b + 1, ofLe (e.bytes.drop 16))])) ∧
  -- tagHostLockWrite, TAG_HOST_LOCK_WRITE (R311)
  (∀ (v : Bool) (s : State),
    exec (.tagHostLockWrite v) s = .next (s.setHostLock v)) ∧
  -- nfcRdEnable, NFC_RD_ENABLE (R296)
  (∀ (mb : Fin 8) (s : State),
    ∀ c, s.takes mb 0x0A01 .running false c →
    let u0 := (s.startCmd c).inside
    ¬(c.u32 0 > 1) →
    let t := u0.updNfc (fun x => { x with stopped := false, drive := 0 })
    let t := if c.u32 0 = 1 then (t.set1 NFC_RD_CFG_EN).put NFC_RD_CARD_STATE (max 1 t.rdState)
      else (t.clr NFC_RD_CFG_EN).exchangeError.cardGone
    exec (.nfcRdEnable mb) s = .next (State.doneIn (t.reply c stOK 0))) ∧
  -- nfcRdApdu, NFC_RD_APDU (R298)
  (∀ (mb : Fin 8) (s : State),
    ∀ c, s.takes mb 0x0A02 .running false c →
    let u0 := (s.startCmd c).inside
    let n := c.u32 1
    ¬(u0.rdState ≠ 3) →
    ¬(n = 0 ∨ !argRangeOk (c.u32 0) n ∨ !argAddrOk (c.u32 2)) →
    let e : IsoEx := { cmd := { port := c.port, seq := c.seq }, addr := c.u32 2, rest := u0.mpRead (c.u32 0) n, chunk := [], deadline := 0 }
    exec (.nfcRdApdu mb) s = .next (State.doneIn ((u0.sendChunk e).put NFC_RD_CARD_STATE 4))) ∧
  -- nfcRdRelease, NFC_RD_RELEASE (R297)
  (∀ (mb : Fin 8) (s : State),
    ∀ c, s.takes mb 0x0A03 .running false c →
    let u0 := (s.startCmd c).inside
    exec (.nfcRdRelease mb) s = .next (State.doneIn ((u0.exchangeError.cardGone).reply c stOK 0))) ∧
  -- nfcTagRead, NFC_TAG_READ (R307)
  (∀ (mb : Fin 8) (s : State),
    ∀ c, s.takes mb 0x0A05 .any false c →
    let u0 := (s.startCmd c).inside
    let b := c.u32 0
    let n := c.u32 1
    ¬(n = 0 ∨ n > 512 ∨ b + n > 512 ∨ !argRangeOk (c.u32 2) (16 * n) ∨
      !(List.range n).all (fun i => hostMayRead (b + i))) →
    let bad := (List.range n).filter (fun i => (u0.cell (b + i)).winner.isNone)
    let t := forEach bad (fun i u => u.raise 0x9005 DEGRADE u.srcOwner (b + i) 0) u0
    exec (.nfcTagRead mb) s = .next (State.doneIn ((t.laneWrite (c.u32 2) ((List.range n).flatMap (fun i => le 16 (u0.hostBlock (b + i))))).reply c stOK 0))) ∧
  -- nfcTagWrite, NFC_TAG_WRITE (R308)
  (∀ (mb : Fin 8) (s : State),
    ∀ c, s.takes mb 0x0A06 .runSetting false c →
    let u0 := (s.startCmd c).inside
    let b := c.u32 0
    let n := c.u32 1
    ¬(n = 0 ∨ n > 16 ∨ !argRangeOk (c.u32 2) (16 * n) ∨ !(List.range n).all (fun i => hostMayWrite (b + i))) →
    ¬(u0.txn ∨ u0.nfc.write.isSome) →
    let l := blocksOf b (u0.mpRead (c.u32 2) (16 * n))
    ∀ k v rest,
    l = (k, v) :: rest →
    exec (.nfcTagWrite mb) s = .next (State.doneIn ((u0.put NFC_TAG_STATE_WRITER 0).startWrite k v (fun w => { w with
        cmd := some { port := c.port, seq := c.seq }, more := rest })))) ∧
  -- nfcTagAbort, NFC_TAG_ABORT (R308)
  (∀ (mb : Fin 8) (s : State),
    ∀ c, s.takes mb 0x0A07 .any false c →
    let u0 := (s.startCmd c).inside
    let r : CmdRef := { port := c.port, seq := c.u32 0 }
    ∀ w,
    u0.nfc.write = some w →
    (w.cmd = some r) →
    exec (.nfcTagAbort mb) s = .next (State.doneIn (u0.updNfc (fun x => { x with aborts := x.aborts ++ [{ port := c.port, seq := c.seq }] })))) ∧
  -- nfcTagCounter, NFC_TAG_COUNTER (R311)
  (∀ (mb : Fin 8) (s : State),
    ∀ c, s.takes mb 0x0A08 .running false c →
    let u0 := (s.startCmd c).inside
    let k := c.u32 0
    let v := u0.tagVal (512 + k) + c.u32 1
    ¬(k < 2 ∨ k > 7) →
    ¬(u0.txn ∨ u0.nfc.write.isSome) →
    ¬((u0.cell (512 + k)).winner.isNone) →
    ¬(0xFFFFFF < v) →
    exec (.nfcTagCounter mb) s = .next (State.doneIn ((u0.put NFC_TAG_STATE_WRITER 0).startWrite (512 + k) v (fun w => { w with
        cmd := some { port := c.port, seq := c.seq } })))) ∧
  -- nfcTagPwd, NFC_TAG_PWD (R303)
  (∀ (mb : Fin 8) (s : State),
    ∀ c, s.takes mb 0x0A09 .any true c →
    let u0 := (s.startCmd c).inside
    let pwd := c.str 0
    ¬(pwd.length ≠ 4 ∨ c.u32 2 > 1) →
    ¬(u0.txn ∨ u0.nfc.write.isSome) →
    let t := u0.putB NFC_TAG_CTRL_PWD_EN (c.u32 2 == 1)
    exec (.nfcTagPwd mb) s = .next (State.doneIn ((t.ownWrites [(5, ofLe pwd), (4, t.configBlock)]).reply c stOK 0)))

/-- Completion and effect of the rows of the Mainplate: arbiter, scrubbing, hacks and the motion works: under the stated
conditions on the state and the operands alone, exec answers the next state written out, in every part of the machine. One
clause per command (two where its effect has two courses, or where a read is also said by its answer and its effect on the
register). Constructors of Instr that complete here: mainplateRequest, bankGrant, backoffEnd, masterCutoff, arbCutoffClear,
scrubPassEnd, scrubLag, spareCopyDone, hackSet, hackClear, hackTimeout, dmaStart, dmaPause, dmaResume, dmaAbort, dmaVerify,
dmaDeadline. -/
def Obligations.MainplateRowsComplete : Prop :=
  -- mainplateRequest, MAINPLATE_REQUEST (R356)
  (∀ (m : Fin 14) (acc : MpAccess) (due t : Nat) (s : State),
    let v := s.showBanks t
    let place (r : MpReq) (u : State) : State :=
      if u.mp.reqs.any (fun q => q.master == r.master && bankOf q.acc.off == bankOf r.acc.off) then u
      else u.updMp (fun x => { x with reqs := x.reqs ++ [r] })
    ¬(v.bitOf ARB_CUTOFF_MASTER m) →
    (m.val = mMOTION) →
    ∀ n a,
    v.dmaPick = some (n, a) →
    let p := v.get (DMA_C_MODE_PRIO n)
    let u := v.updMp (fun x => { x with served := upd x.served p (fun _ => n) })
    exec (.mainplateRequest m acc due t) s = .next (place { master := m, acc := a, due := u.get (DMA_C_MODE_DUE_STAMP n), at_ := t, chan := some n } u)) ∧
  -- mainplateRequest, MAINPLATE_REQUEST (R356)
  (∀ (m : Fin 14) (acc : MpAccess) (due t : Nat) (s : State),
    let v := s.showBanks t
    ¬(v.bitOf ARB_CUTOFF_MASTER m) →
    ¬(m.val = mMOTION) →
    (laneRegion acc.off ≠ .mainplate) →
    exec (.mainplateRequest m acc due t) s = .next (v.laneAccess m acc.off acc.words acc.write)) ∧
  -- mainplateRequest, MAINPLATE_REQUEST (R356)
  (∀ (m : Fin 14) (acc : MpAccess) (due t : Nat) (s : State),
    let v := s.showBanks t
    let place (r : MpReq) (u : State) : State :=
      if u.mp.reqs.any (fun q => q.master == r.master && bankOf q.acc.off == bankOf r.acc.off) then u
      else u.updMp (fun x => { x with reqs := x.reqs ++ [r] })
    ¬(v.bitOf ARB_CUTOFF_MASTER m) →
    ¬(m.val = mMOTION) →
    ¬(laneRegion acc.off ≠ .mainplate) →
    let off := acc.off - mainplateBase
    let words := max 1 (min acc.words (min 16 (0x20000 - off / 16 % 0x20000)))
    let data := acc.data.take (words * 16 - off % 16)
    let a : MpAccess := { off := off, write := acc.write, words := words, data := data }
    (v.accessOk m off acc.write) →
    exec (.mainplateRequest m acc due t) s = .next (place { master := m, acc := a, due := dueStamp m acc.write t due, at_ := t } v)) ∧
  -- bankGrant, BANK_GRANT (R356)
  (∀ (b : Fin 8) (t : Nat) (ecc : List (Fin 16 × Bool)) (s : State),
    let v := s.showBanks t
    let here (r : MpReq) : Bool := bankOf r.acc.off == b.val && !v.bitOf ARB_CUTOFF_MASTER r.master &&
      v.accessOk r.master r.acc.off r.acc.write && r.eligible t
    ¬((v.burstAt b t).isSome ∨ v.bitOf ARB_STATUS_HELD b) →
    ∀ r,
    leastSlack t (v.mp.reqs.filter here) = some r →
    let u := v.updMp (fun m => { m with
      reqs := (m.reqs.filter (fun q => q != r)).map (fun q => if here q then q.lose t else q)
      bursts := upd m.bursts b (fun _ => some { master := r.master, start := t, stop := t + r.acc.cycles }) })
    exec (.bankGrant b t ecc) s = .next (((u.countGrant r t).runBurst r ecc).showBanks t)) ∧
  -- backoffEnd, BACKOFF_END (R357)
  (∀ (m : Fin 14) (b : Fin 8) (t : Nat) (s : State),
    exec (.backoffEnd m b t) s = .next ((s.showBanks t).updMp (fun x => { x with reqs := x.reqs.map (fun r =>
        if r.master == m.val && bankOf r.acc.off == b.val && decide (r.backEnd ≤ t) then { r with backEnd := 0 } else r) }))) ∧
  -- masterCutoff, MASTER_CUTOFF (R359)
  (∀ (b : Fin 8) (t : Nat) (s : State),
    ∀ x,
    nth s.mp.bursts none b = some x →
    (x.start + s.get ARB_HOLD_MAX_HOLD_MAX < t ∧ !s.bitOf ARB_CUTOFF_MASTER x.master) →
    let u := s.updMp (fun m => { m with bursts := upd m.bursts b (fun _ => none) })
    let u := ((u.putBit ARB_CUTOFF_MASTER x.master true).set1 ARB_EVENTS_CUTOFF).raiseMp 0xA103 DEGRADE x.master 0
    exec (.masterCutoff b t) s = .next ((when (x.master == mMOTION) State.dmaCut u).showBanks t)) ∧
  -- arbCutoffClear, ARB_CUTOFF_CLEAR (R359)
  (∀ (w : PortWrite 14) (s : State),
    exec (.arbCutoffClear w) s = .next (s.hostSets w.port A_ARB_CUTOFF (fun u => u.clearCutoff w.val.toNat))) ∧
  -- scrubPassEnd, SCRUB_PASS_END (R354)
  (∀ (found : List (Fin 0x1000000 × Bool)) (s : State),
    let t := forEach found (fun e u =>
      if e.2 then (u.poisonWord 15 (mainplateBase + e.1)).raiseMp 0xA105 DEGRADE (bankOf (mainplateBase + e.1)) (mainplateBase + e.1)
      else u.eccSingle 15 (mainplateBase + wordOf e.1)) s
    let t := (t.put ARB_SCRUB_PASSES (t.get ARB_SCRUB_PASSES + 1)).put ARB_SCRUB_AGE 0
    exec (.scrubPassEnd found) s = .next (t.updMp (fun m => { m with scrubMono := s.mono, scrubLag := false }))) ∧
  -- scrubLag, SCRUB_LAG (R354)
  (∀ (s : State),
    (s.mp.scrubMono + 1800 ≤ s.mono ∧ !s.mp.scrubLag) →
    exec .scrubLag s = .next ((s.updMp (fun m => { m with scrubLag := true })).raise 0xA108 NOTE srcBarrel 0 0)) ∧
  -- spareCopyDone, SPARE_COPY_DONE (R355)
  (∀ (found : List (Fin 0x200000)) (s : State),
    ∀ b,
    s.mp.copying = some b →
    let t := forEach found (fun o u =>
      let a := mainplateBase + b * 0x200000 + o.val
      (u.poisonWord 15 a).raiseMp 0xA105 DEGRADE b (wordOf a)) s
    exec (.spareCopyDone found) s = .next ((t.updMp (fun m => { m with copied := true })).put ARB_BANK_MAP_PROGRESS 100)) ∧
  -- hackSet, HACK_SET (R360)
  (∀ (port : Fin 2) (banks : BitVec 8) (s : State),
    exec (.hackSet port banks) s = .next (s.hostSets port A_ARB_CTRL (fun u =>
        if u.hackOk port then u.writeHack banks.toNat true
        else (u.inc (HPD_P_ERR_REFUSED port)).raiseHost 0xA003 port A_ARB_CTRL))) ∧
  -- hackClear, HACK_CLEAR (R360)
  (∀ (w : PortWrite 8) (s : State),
    exec (.hackClear w) s = .next (s.hostSets w.port A_ARB_CTRL (fun u => u.writeHack w.val.toNat false))) ∧
  -- hackTimeout, HACK_TIMEOUT (R360)
  (∀ (s : State),
    ∀ b,
    s.mp.copying = some b →
    (s.mp.ownHack) →
    exec .hackTimeout s = .next ((s.releaseBank b).raiseMp 0xA10B NOTE b 0)) ∧
  -- dmaStart, DMA_START (R362)
  (∀ (c : PortChan) (desc : Option DmaDesc) (s : State),
    exec (.dmaStart c desc) s = .next (s.dmaSets c.port c.n (fun u => u.dmaBegin c.n desc))) ∧
  -- dmaPause, DMA_PAUSE (R368)
  (∀ (c : PortChan) (s : State),
    exec (.dmaPause c) s = .next (s.dmaSets c.port c.n (fun u => u.dmaPause c.n))) ∧
  -- dmaResume, DMA_RESUME (R368)
  (∀ (c : PortChan) (s : State),
    exec (.dmaResume c) s = .next (s.dmaSets c.port c.n (fun u => u.dmaResume c.n))) ∧
  -- dmaAbort, DMA_ABORT (R369)
  (∀ (c : PortChan) (s : State),
    exec (.dmaAbort c) s = .next (s.dmaSets c.port c.n (fun u => u.dmaAbort c.n))) ∧
  -- dmaVerify, DMA_VERIFY (R365)
  (∀ (n : Fin 16) (flip : Bool) (s : State),
    ¬(s.get (DMA_C_STAT_STATE n) ≠ 4) →
    let d := s.dma n
    let bad := flip || d.sent.any (fun p =>
      s.mp.poison.contains (wordOf p.1) || Memory.byte s.ram (ramOff p.1) != p.2)
    let u := s.sentPoison d.sent
    let late := match d.abort with | some b => decide (b < s.now) | none => false
    ¬(late) →
    (!bad) →
    let t := (u.dmaSet n 5).putBit DMA_EVENTS_DONE n true
    exec (.dmaVerify n flip) s = .next (when d.abort.isSome (fun u => u.set1 (DMA_C_STAT_ABORT_LATE n)) t)) ∧
  -- dmaDeadline, DMA_DEADLINE (R370)
  (∀ (n : Fin 16) (s : State),
    let st := s.get (DMA_C_STAT_STATE n)
    let dl := s.get (DMA_C_DEADLINE_DEADLINE n)
    (1 ≤ st ∧ st ≤ 4 ∧ dl ≠ 0 ∧ (s.dma n).start + dl ≤ s.now ∧ !s.isSet (DMA_C_STAT_LATE n)) →
    exec (.dmaDeadline n) s = .next (((s.set1 (DMA_C_STAT_LATE n)).putBit DMA_LATE_LATE n true).raiseMp 0xA10A NOTE n 0))

/-- Completion and effect of the rows of keys, challenges and the life cycle: under the stated conditions on the state and the
operands alone, exec answers the next state written out, in every part of the machine. One clause per command (two where its
effect has two courses, or where a read is also said by its answer and its effect on the register). Constructors of Instr that
complete here: keySvcChallenge, keySvcResponse, svcChallengeExpiry, svcLockoutEnd, serviceWorldTimeout, ephemeralJewelClear,
entropyTestFail, entropyRecovery, drbgReseed, keyPublic, keyImport, keyGenerate, keyRespond, nfcCardRespond, keyErase,
keyExport, keyLcAdvance, lcFuseReadback. -/
def Obligations.KeyRowsComplete : Prop :=
  -- keySvcChallenge, KEY_SVC_CHALLENGE (R381)
  (∀ (mb : Fin 8) (s : State),
    ∀ c, s.takes mb 0x0B01 .any false c →
    let u0 := (s.startCmd c).inside
    ¬(u0.glb.lifecycle = 0) →
    ¬(!u0.jewelOk 10 opCHECK (6 + c.port) (u0.portWorld c.port)) →
    ¬(!u0.drbgOk) →
    let d := u0.drbg 1
    let v := d.1 % 2 ^ 128
    let t := d.2.updKey (fun k => { k with chal := upd k.chal c.port (fun _ => some (v, u0.mono)) })
    exec (.keySvcChallenge mb) s = .next (State.doneIn (t.reply c stOK 0 (le 16 v)))) ∧
  -- keySvcResponse, KEY_SVC_RESPONSE (R381)
  (∀ (mb : Fin 8) (s : State),
    ∀ c, s.takes mb 0x0B02 .any false c →
    let u0 := (s.startCmd c).inside
    ¬(u0.glb.lifecycle = 0) →
    ¬(u0.isSet KEY_STATUS_SVC_LOCK) →
    ¬(!u0.jewelOk 10 opCHECK (6 + c.port) (u0.portWorld c.port)) →
    let t := u0.jewelUsed 10
    let good := match nth u0.key.chal none c.port with
      | some (v, m) => decide (u0.mono < m + 60) && ofLe (c.args.take 16) == u0.respondTo 10 v
      | none => false
    (good) →
    exec (.keySvcResponse mb) s = .next (State.doneIn ((t.updKey (fun k => { k with
        chal := upd k.chal c.port (fun _ => none)
        enter := k.enter ||| 2 ^ c.port })).reply c stOK 0))) ∧
  -- svcChallengeExpiry, SVC_CHALLENGE_EXPIRY (R380)
  (∀ (port : Fin 2) (s : State),
    ∀ z1 m,
    nth s.key.chal none port = some (z1, m) →
    (m + 60 ≤ s.mono) →
    exec (.svcChallengeExpiry port) s = .next (s.updKey (fun k => { k with chal := upd k.chal port (fun _ => none) }))) ∧
  -- svcLockoutEnd, SVC_LOCKOUT_END (R381)
  (∀ (s : State),
    (s.isSet KEY_STATUS_SVC_LOCK ∧ s.key.lockEnd ≤ s.mono) →
    exec .svcLockoutEnd s = .next (((s.clr KEY_STATUS_SVC_LOCK).put KEY_SVC_LOCK_S 0).put KEY_SVC_FAILS s.svcFails.length)) ∧
  -- serviceWorldTimeout, SERVICE_WORLD_TIMEOUT (R25)
  (∀ (port : Fin 2) (s : State),
    (s.inService port ∧ s.svcMono port + 900 ≤ s.mono) →
    exec (.serviceWorldTimeout port) s = .next ((s.put (if port.val = 0 then GLB_WORLD_HP0 else GLB_WORLD_HP1) 0).set1 KEY_EVENTS_SVC)) ∧
  -- ephemeralJewelClear, EPHEMERAL_JEWEL_CLEAR (R379)
  (∀ (n : Fin 12) (s : State),
    ((s.jewel (33 + n)).isSome ∧ nth s.key.ephMono 0 n + 60 ≤ s.mono) →
    exec (.ephemeralJewelClear n) s = .next (s.clearEph n)) ∧
  -- entropyTestFail, ENTROPY_TEST_FAIL (R385)
  (∀ (s : State),
    let t := (((s.clr KEY_STATUS_DRBG_OK).inc KEY_DRBG_HEALTH_FAIL).set1 KEY_EVENTS_ENTROPY).raise 0xB004 DEGRADE s.srcOwner 0 0
    exec .entropyTestFail s = .next (forUpTo 12 (fun n u => when ((u.o n).link.tlsBeat.isSome) (fun v => v.tlsStop n) u) t)) ∧
  -- entropyRecovery, ENTROPY_RECOVERY (R385)
  (∀ (s : State),
    ¬(s.drbgOk) →
    exec .entropyRecovery s = .next ((s.set1 KEY_STATUS_DRBG_OK).reseed)) ∧
  -- drbgReseed, DRBG_RESEED (R384)
  (∀ (s : State),
    (s.drbgOk ∧ s.reseedDue) →
    exec .drbgReseed s = .next s.reseed) ∧
  -- keyPublic, KEY_PUBLIC (R382)
  (∀ (mb : Fin 8) (s : State),
    ∀ c, s.takes mb 0x0B03 .any false c →
    let u0 := (s.startCmd c).inside
    let j := c.u32 0
    let ty := (u0.jattr j).typ
    ¬(j ≥ 64 ∨ ty < 2 ∨ 7 < ty) →
    ∀ v,
    u0.jewel j = some v →
    exec (.keyPublic mb) s = .next (State.doneIn (u0.reply c stOK 0 (publicKey ty v)))) ∧
  -- keyImport, KEY_IMPORT (R382)
  (∀ (mb : Fin 8) (s : State),
    ∀ c, s.takes mb 0x0B04 .any false c →
    let u0 := (s.startCmd c).inside
    let j := c.u32 0
    let root := j == 8 || j == 9 || j == 12
    ¬(!root && !isUser j) →
    ¬(!u0.jewelOk 7 opUNWRAP u0.appMaster (u0.portWorld c.port)) →
    ¬(root ∧ (u0.glb.lifecycle ≠ 1 ∨ ((u0.jewel j).isSome ∨ u0.key.due.any (fun x => x.1 == j)) ∧ !u0.inService c.port)) →
    let t := u0.jewelUsed 7
    exec (.keyImport mb) s = .next (State.doneIn ((match u0.unwrapKey j (c.args.drop 4) with
        | none => (t.raise 0xB005 NOTE t.srcOwner j 0).reply c stBAD_ARG 0xB005
        | some v =>
          ((t.jewelUsed 1).updKey (fun k => { k with mram := upd k.mram j (fun _ => some v), due := k.due ++ [(j, v)] })).reply c stOK 0)))) ∧
  -- keyGenerate, KEY_GENERATE (R373)
  (∀ (mb : Fin 8) (s : State),
    ∀ c, s.takes mb 0x0B05 .running false c →
    let u0 := (s.startCmd c).inside
    let j := c.u32 0
    let a := u0.jattr j
    let fixed := j == 31 || j == 32
    ¬((!fixed && !isUser j) ∨ a.typ < 2 ∨ 6 < a.typ) →
    ¬(fixed ∧ !u0.inService c.port) →
    ¬(!a.lc.testBit u0.glb.lifecycle) →
    ¬(!u0.drbgOk) →
    let d := u0.drbg 2
    exec (.keyGenerate mb) s = .next (State.doneIn ((d.2.storeJewel j (some d.1)).reply c stOK 0 (publicKey a.typ d.1)))) ∧
  -- keyRespond, KEY_RESPOND (R380)
  (∀ (mb : Fin 8) (s : State),
    ∀ c, s.takes mb 0x0B06 .running false c →
    let u0 := (s.startCmd c).inside
    exec (.keyRespond mb) s = .next (State.doneIn (u0.hostRespond c))) ∧
  -- nfcCardRespond, NFC_CARD_RESPOND (R299)
  (∀ (mb : Fin 8) (s : State),
    ∀ c, s.takes mb 0x0A04 .running false c →
    let u0 := (s.startCmd c).inside
    exec (.nfcCardRespond mb) s = .next (State.doneIn (u0.hostRespond c))) ∧
  -- keyErase, KEY_ERASE (R376)
  (∀ (mb : Fin 8) (s : State),
    ∀ c, s.takes mb 0x0B07 .any true c →
    let u0 := (s.startCmd c).inside
    let j := c.u32 0
    ¬(!isUser j) →
    exec (.keyErase mb) s = .next (State.doneIn ((u0.storeJewel j none).reply c stOK 0))) ∧
  -- keyExport, KEY_EXPORT (R383)
  (∀ (mb : Fin 8) (s : State),
    ∀ c, s.takes mb 0x0B08 .any true c →
    let u0 := (s.startCmd c).inside
    let j := c.u32 0
    ¬(j ≥ 64) →
    ¬(!isUser j ∨ (u0.jattr j).exportBan ∨ !u0.jewelOk j opEXPORT (6 + c.port) 2) →
    ¬(!u0.drbgOk) →
    let d := u0.drbg 3
    let e := d.2.drbg 3
    ∀ m,
    e.2.wrapKey j d.1 e.1 (c.args.drop 4) = some m →
    exec (.keyExport mb) s = .next (State.doneIn ((e.2.jewelUsed j).reply c stOK 0 m))) ∧
  -- keyLcAdvance, KEY_LC_ADVANCE (R386)
  (∀ (mb : Fin 8) (s : State),
    ∀ c, s.takes mb 0x0B09 .any false c →
    let u0 := (s.startCmd c).inside
    let g := c.u32 0
    ¬(g > 4 ∨ c.u32 1 ≠ 0x5A17) →
    ¬(u0.key.lc.isSome) →
    ¬(!u0.lcWorld c.port g) →
    ¬(!u0.lcAllowed g) →
    exec (.keyLcAdvance mb) s = .next (State.doneIn (u0.updKey (fun k => { k with lc := some { target := g, cmd := { port := c.port, seq := c.seq }, beat := u0.now } })))) ∧
  -- lcFuseReadback, LC_FUSE_READBACK (R386)
  (∀ (equal : Bool) (s : State),
    ∀ a,
    s.key.lc = some a →
    let t := s.updKey (fun k => { k with lc := none })
    ¬(!equal) →
    let t := ({ t with glb := { t.glb with lifecycle := a.target } }.put GLB_LIFECYCLE_LC a.target).set1 KEY_EVENTS_LC_ADVANCED
    let t := t.replyTo a.cmd.port a.cmd.seq stOK 0
    let t := if a.target = 4 then (t.updKey (fun k => { k with loaded := List.replicate 64 none })).showLoaded else t
    exec (.lcFuseReadback equal) s = .next (when (decide (3 ≤ a.target)) (fun u => (when s.lanesReach (fun v => v.fullSave true) u).settingOutputs) t))

/-- Completion and effect of the rows of firmware update and recovery: under the stated conditions on the state and the
operands alone, exec answers the next state written out, in every part of the machine. One clause per command (two where its
effect has two courses, or where a read is also said by its answer and its effect on the register). Constructors of Instr that
complete here: updBegin, updChunk, updateLoadCommit, updateRestoreDone, updAbort, gpFwDeferredStart, updActivate,
caseFwReadyTimeout, updInfo, recFirstPart, recFurtherPart, recCheckDirectory. -/
def Obligations.UpdateRowsComplete : Prop :=
  -- updBegin, UPD_BEGIN (R391)
  (∀ (mb : Fin 8) (s : State),
    ∀ c, s.takes mb 0x0B10 .running false c →
    let u0 := (s.startCmd c).inside
    let a := c.u32 0
    let n := c.u32 1
    ¬(u0.glb.lifecycle ≠ 1 ∧ u0.glb.lifecycle ≠ 2) →
    ¬(u0.updBusy) →
    ¬(!argRangeOk a n ∨ n < 0x100) →
    let t := u0.laneReads a n
    let bs := t.mpRead a n
    exec (.updBegin mb) s = .next (State.doneIn ((match t.judgeUpdate bs false with
        | some (st, code) => (t.updRefused code (fieldAt bs 8 1)).reply c st code
        | none =>
          if (loadOf bs (some { port := c.port, seq := c.seq })).digests.length < 32 * (loadOf bs (some { port := c.port, seq := c.seq })).nseg then
            t.reply c stBAD_ARG 0
          else (t.updUpd (fun u => { u with load := some (loadOf bs (some { port := c.port, seq := c.seq })) })).loadStart
            (loadOf bs (some { port := c.port, seq := c.seq })))))) ∧
  -- updChunk, UPD_CHUNK (R393)
  (∀ (mb : Fin 8) (bad : Option (Fin 128)) (s : State),
    ∀ c, s.takes mb 0x0B11 .running false c →
    let u0 := (s.startCmd c).inside
    let i := c.u32 0
    let k := c.u32 1
    let a := c.u32 2
    ∀ l,
    u0.fwu.load = some l →
    let n := sumN ((List.range (min k 128)).map (fun j => l.segLen (i + j) + 16))
    ¬(k = 0 ∨ i ≠ l.next ∨ l.nseg < i + k ∨ !argRangeOk a n) →
    ¬(!u0.jewelOk 5 opAES_DEC u0.appMaster 1) →
    let t := u0.laneReads a n
    let r := loadSegs t.transitKey (bad.map Fin.val) k l (t.mpRead a n)
    let t := (t.updUpd (fun u => { u with load := some r.1 })).put UPD_STATUS_SEG_DONE r.1.next
    let t := forUpTo (r.1.next - l.next) (fun _ u => (u.jewelUsed 5).jewelUsed 6) t
    exec (.updChunk mb bad) s = .next (State.doneIn ((if r.2 = 0 then t.reply c stOK 0 else (t.loadFail r.1 r.2).reply c stBAD_ARG r.2)))) ∧
  -- updateLoadCommit, UPDATE_LOAD_COMMIT (R393)
  (∀ (s : State),
    ∀ l,
    s.fwu.load = some l →
    (l.nseg ≤ l.next) →
    exec .updateLoadCommit s = .next (((s.loadCommit l).put UPD_STATUS_PHASE 2).loadEnd l stOK 0)) ∧
  -- updateRestoreDone, UPDATE_RESTORE_DONE (R394)
  (∀ (s : State),
    ∀ c,
    s.fwu.restore = some c →
    let r := nth s.fwu.run {} c
    let t := s.updUpd (fun u => { u with restore := none, flash := upd u.flash c (fun _ => r) })
    let t := (t.put (UPD_C_FLASH_VERSION c) r.version).put (UPD_C_STATE_LENGTH c) r.length
    let t := ((t.put (UPD_C_STATE_ENTRY c) 0).clr (UPD_C_STATE_PENDING c)).put UPD_STATUS_PHASE 0
    exec .updateRestoreDone s = .next ((t.set1 UPD_EVENTS_RESTORED).raise 0xB107 NOTE t.srcOwner c 0)) ∧
  -- updAbort, UPD_ABORT (R394)
  (∀ (mb : Fin 8) (s : State),
    ∀ c, s.takes mb 0x0B12 .any false c →
    let u0 := (s.startCmd c).inside
    let r : CmdRef := { port := c.port, seq := c.u32 0 }
    ∀ l,
    u0.fwu.load = some l →
    (l.cmd = some r) →
    exec (.updAbort mb) s = .next (State.doneIn (u0.updUpd (fun u => { u with aborts := u.aborts ++ [{ port := c.port, seq := c.seq }] })))) ∧
  -- gpFwDeferredStart, GP_FW_DEFERRED_START (R396)
  (∀ (s : State),
    ∀ a,
    s.fwu.act = some a →
    (a.comp = 6 ∧ a.stage = 0 ∧ s.gpIdle) →
    exec .gpFwDeferredStart s = .next s.gpStart) ∧
  -- updActivate, UPD_ACTIVATE (R396)
  (∀ (mb : Fin 8) (s : State),
    ∀ c, s.takes mb 0x0B13 .running false c →
    let u0 := (s.startCmd c).inside
    let k := c.u32 0
    let new := nth u0.fwu.flash {} k
    ¬(k = 0 ∨ k > 6 ∨ new.version = (nth u0.fwu.run {} k).version) →
    ¬(!u0.consistentSet (upd u0.fwu.run k (fun _ => new))) →
    ¬(u0.fwu.act.isSome ∨ u0.fwu.restore.isSome ∨ (k ≤ 2 ∧ u0.gstate ≠ 3)) →
    let a : UpdAct := { comp := k, stage := 0, cmd := { port := c.port, seq := c.seq } }
    let t := u0.updUpd (fun u => { u with act := some a, abandon := false })
    exec (.updActivate mb) s = .next (State.doneIn (((t.put UPD_STATUS_PHASE 4).put UPD_STATUS_COMPONENT k).actStart k (c.u32 1 % 2 == 1)))) ∧
  -- caseFwReadyTimeout, CASE_FW_READY_TIMEOUT (R397)
  (∀ (s : State),
    ∀ a,
    s.fwu.act = some a →
    (a.comp = 3 ∧ a.stage = 1) →
    let t := (s.updUpd (fun u => { u with act := none, abandon := false })).set1 UPD_EVENTS_FAILED
    let t := (t.put UPD_STATUS_PHASE 2).raiseHold 0xB109 srcCase 3 0
    exec .caseFwReadyTimeout s = .next (t.replyTo a.cmd.port a.cmd.seq stREFUSED_STATE 0xB109)) ∧
  -- updInfo, UPD_INFO (R388)
  (∀ (mb : Fin 8) (s : State),
    ∀ c, s.takes mb 0x0B14 .any false c →
    let u0 := (s.startCmd c).inside
    let a := c.u32 0
    ¬(!argRangeOk a 672) →
    let bs := (List.range 7).flatMap (fun k =>
      let r := nth u0.fwu.flash {} k
      padTo 96 (Config.versionRecord k r.version r.length r.mirror r.alt r.compat))
    exec (.updInfo mb) s = .next (State.doneIn ((u0.laneWrite a bs).reply c stOK 0))) ∧
  -- recFirstPart, REC_FIRST_PART (R398)
  (∀ (bad : Option (Fin 128)) (s : State),
    (s.gstate = 6 ∧ s.fwu.recOp = 1) →
    let bs := s.recPart
    ¬(3 ≤ s.glb.lifecycle) →
    exec (.recFirstPart bad) s = .next (match s.judgeUpdate bs true with
        | some (_, code) => (s.updRefused code (fieldAt bs 8 1)).recDone code
        | none =>
          if (loadOf bs none).digests.length < 32 * (loadOf bs none).nseg then (s.updRefused 0xB101 (fieldAt bs 8 1)).recDone 0xB101
          else (s.loadStart (loadOf bs none)).recSegs (loadOf bs none) (bs.drop (0x100 + 32 * (loadOf bs none).nseg)) (bad.map Fin.val))) ∧
  -- recFurtherPart, REC_FURTHER_PART (R398)
  (∀ (bad : Option (Fin 128)) (s : State),
    (s.gstate = 6 ∧ s.fwu.recOp = 2) →
    ∀ l,
    s.fwu.recLoad = some l →
    exec (.recFurtherPart bad) s = .next (s.recSegs l s.recPart (bad.map Fin.val))) ∧
  -- recCheckDirectory, REC_CHECK_DIRECTORY (R398)
  (∀ (s : State),
    (s.gstate = 6 ∧ s.fwu.recOp = 3) →
    let ok := (List.range 7).all (fun c => s.get (UPD_C_STATE_ENTRY c) == 0) && setAdmits s.fwu.flash
    exec .recCheckDirectory s = .next ((s.recDone 0).putB UPD_REC_STAT_READY ok))

/-- Completion and effect of the rows of ageing, complication results, takeover and the beat: under the stated conditions on
the state and the operands alone, exec answers the next state written out, in every part of the machine. One clause per
command (two where its effect has two courses, or where a read is also said by its answer and its effect on the register).
Constructors of Instr that complete here: slackSample, clockStepApply, clockStepCheckDone, hourlyRecord, wearReadHourly,
wearReadYearly, wearEstimate, complicationDone, takeoverComplete, beat. -/
def Obligations.WearAndTakeoverRowsComplete : Prop :=
  -- slackSample, SLACK_SAMPLE (R400)
  (∀ (a b : Int) (leakA leakB : Nat) (s : State),
    (s.lanesWork) →
    let t := s.updWear (fun w => { w with single := w.single || s.gstate == 4 })
    let t := t.wearTemp 3 (t.geti SNS_DIAL_T_TEMP)
    exec (.slackSample a b leakA leakB) s = .next ((t.slackSample 0 a leakA).slackSample 1 b leakB)) ∧
  -- clockStepApply, CLOCK_STEP_APPLY (R402)
  (∀ (lane : Fin 2) (s : State),
    (s.dueLane = some lane.val ∧ s.stepOpen ∧ lane.val ≠ s.owner ∧ s.wear.check.isNone ∧ s.now % 400 = 0 ∧ !s.laneAct) →
    exec (.clockStepApply lane) s = .next (s.applyStep lane)) ∧
  -- clockStepCheckDone, CLOCK_STEP_CHECK_DONE (R402)
  (∀ (lane : Fin 2) (s : State),
    ∀ l b,
    s.wear.check = some (l, b) →
    (l = lane.val ∧ b + 4000 ≤ s.now) →
    let st := s.laneStep l
    let t := s.put (WEAR_LANE_STEP l) st
    let t := ((t.clr (WEAR_LANE_DUE l)).clr (WEAR_LANE_HOURS_LOW l)).set1 WEAR_EVENTS_STEP
    let t := t.showSlack l (convertSlack (t.geti (WEAR_LANE_SLACK l)) (st - 1) st / 10)
    let t := t.updWear (fun w => { w with
      check := none
      stepped := true
      yearDue := true
      times := w.times ++ [(0, s.mono)] })
    exec (.clockStepCheckDone lane) s = .next ((t.raise 0xC001 NOTE (t.srcLane l) l st).stepSwap)) ∧
  -- hourlyRecord, HOURLY_RECORD (R408)
  (∀ (noise mram flash : Nat) (bad : Bool) (s : State),
    let hour := s.mono / 3600
    (s.lanesReach ∧ s.mono % 3600 = 0 ∧ s.wear.lastHour < hour ∧ !s.pwr.saveDue) →
    ¬(bad) →
    let r := s.hourRec noise mram flash
    let t := (s.wrN A_WEAR_REC r.seq).updWear (fun w => { w with
      ring := r :: w.ring.take 18431
      firstMram := if r.seq ≤ 8760 then w.firstMram + mram else w.firstMram
      firstFlash := if r.seq ≤ 8760 then w.firstFlash + flash else w.firstFlash })
    let t := ((t.putSat WEAR_NV_MRAM_CORR mram).putSat WEAR_NV_FLASH_CORR flash)
    let t := (t.putSat WEAR_LEAK_LA r.leakA).putSat WEAR_LEAK_LB r.leakB
    let t := when ((nth t.wear.worst none 0).isSome) (fun u => u.judgeSlack 0 r.slackA) t
    let t := when ((nth t.wear.worst none 1).isSome) (fun u => u.judgeSlack 1 r.slackB) t
    let t := (((t.newHour).judgeCauses r).estimates).stepSwap
    exec (.hourlyRecord noise mram flash bad) s = .next (when (decide (r.seq % 8760 = 0) || t.wear.yearDue) State.summary t)) ∧
  -- wearReadHourly, WEAR_READ_HOURLY (R408)
  (∀ (mb : Fin 8) (s : State),
    ∀ c, s.takes mb 0x0C01 .runSetting false c →
    let u0 := (s.startCmd c).inside
    let first := c.u32 0
    let n := c.u32 1
    let a := c.u32 2
    ¬(n = 0 ∨ 4096 < n ∨ !argRangeOk a (64 * n)) →
    let l := (u0.wear.ring.filter (fun r => decide (first ≤ r.seq) && decide (r.seq < first + n))).reverse
    exec (.wearReadHourly mb) s = .next (State.doneIn ((u0.laneWrite a (l.flatMap WearRec.bytes)).reply c stOK 0))) ∧
  -- wearReadYearly, WEAR_READ_YEARLY (R409)
  (∀ (mb : Fin 8) (s : State),
    ∀ c, s.takes mb 0x0C02 .runSetting false c →
    let u0 := (s.startCmd c).inside
    let i := c.u32 0
    let n := c.u32 1
    let a := c.u32 2
    ¬(31 < i ∨ n = 0 ∨ 32 < i + n ∨ !argRangeOk a (256 * n)) →
    exec (.wearReadYearly mb) s = .next (State.doneIn ((u0.laneWrite a (((u0.wear.years.drop i).take n).flatMap id)).reply c stOK 0))) ∧
  -- wearEstimate, WEAR_ESTIMATE (R407)
  (∀ (mb : Fin 8) (s : State),
    ∀ c, s.takes mb 0x0C03 .running false c →
    let u0 := (s.startCmd c).inside
    exec (.wearEstimate mb) s = .next (State.doneIn ((u0.estimates).reply c stOK 0))) ∧
  -- complicationDone, COMPLICATION_DONE (R64)
  (∀ (lane : Fin 2) (kind : Fin 8) (subject : Nat) (result : CompResult) (s : State),
    ∀ c,
    (s.slices lane).find? (fun c => c.kind == kind.val && c.subject == subject) = some c →
    let u0 := State.inside s
    let t := u0.setSlices lane ((u0.slices lane).erase c)
    let t := when (decide (lane.val = u0.owner)) (fun u => u.inc (ESC_COMP_RUN_RUN kind)) t
    exec (.complicationDone lane kind subject result) s = .next (State.doneIn (t.deliverComp lane c result))) ∧
  -- takeoverComplete, TAKEOVER_COMPLETE (R239)
  (∀ (ns : Nat) (s : State),
    ∀ t,
    s.red.takeover = some t →
    (s.inRunning ∧ (10000 < ns ∨ s.red.lastUpdate + 40000 < s.nextUpdate t.beat (t.beat * 25000 + t.at_ + ns))) →
    exec (.takeoverComplete ns) s = .next (s.takeoverLate t)) ∧
  -- takeoverComplete, TAKEOVER_COMPLETE (R239)
  (∀ (ns : Nat) (s : State),
    ∀ t,
    s.red.takeover = some t →
    ¬(s.inRunning ∧ (10000 < ns ∨ s.red.lastUpdate + 40000 < s.nextUpdate t.beat (t.beat * 25000 + t.at_ + ns))) →
    (s.inRunning) →
    let u := s.recordTakeover t ns
    let u := (u.set1 RED_EVENTS_TAKEOVER).setGstate 4 t.code
    let u := (u.updRed (fun r => { r with attempt := some s.now })).applyHeld t.beat (t.beat * 25000 + t.at_ + ns)
    exec (.takeoverComplete ns) s = .next (when u.laneAct State.actFail u.replay)) ∧
  -- beat, BEAT (R56)
  (∀ (obs : BeatObs) (s : State),
    ¬(s.pwr.off) →
    let t := if s.esc.gen = 0 then s else s.countBeat
    exec (.beat obs) s = .next (State.within (fun u =>
        let u := if u.lanesWork then u.closeEntry else u
        let u := u.abortBeat.releaseReplies.sendSegs
        let u := if u.lanesWork then u.workBeat obs else u.restBeat obs
        u.logBeat.countPoll.finishBeat) t))

/-- Completion and effect of the rows of supplies, clocks and resets: under the stated conditions on the state and the
operands alone, exec answers the next state written out, in every part of the machine. One clause per command (two where its
effect has two courses, or where a read is also said by its answer and its effect on the register). Constructors of Instr that
complete here: powerFailWarning, warningWithdrawn, remontoireOn, remontoireOff, vsysToHold, supplyReset, railOut,
caseWatchdogReset, cpSupplyOut, holdLow, vbatLow, railBackInRange, lanePllLost, periphClockLost, periphClockReturn,
coreClockLost, thermalLimit, refClockMeasure, chronoXtalStop, chronoXtalRestore, glbResetModule, glbResetRecovery. -/
def Obligations.PowerRowsComplete : Prop :=
  -- powerFailWarning, POWER_FAIL_WARNING (R412)
  (∀ (z : Unit) (s : State),
    ¬(s.warned ∨ !s.warnDue) →
    let t := s.set1 PWR_STATUS_WARN
    let t := ((t.set1 PWR_EVENTS_WARN).inc PWR_DIPS_COUNT).inc PWR_WARN_TOTAL_COUNT
    let t := (t.raise 0xC101 NOTE srcCase 0 0).updSupply
    let t := t.updPwr (fun p => { p with warnRun := 0, saveDue := s.lanesReach && s.get MTR_SAVE_MODE != 1 })
    let t := (t.swingsWithdraw).bezelWarn (t.get PWR_HOLD_LEFT)
    let t := t.updUpd (fun u => { u with abandon := u.act.isSome })
    exec (.powerFailWarning z) s = .next (when (t.red.attempt.isSome && t.gstate == 4) (fun u =>
        (u.setLaneState (other u.owner) 0).updRed (fun r => { r with attempt := none, abandoned := true })) t)) ∧
  -- warningWithdrawn, WARNING_WITHDRAWN (R412)
  (∀ (s : State),
    ¬(!s.warned ∨ s.pwr.goodRun < secBeats) →
    let t := (s.clr PWR_STATUS_WARN).raiseTo PWR_DIPS_LONGEST (min (s.pwr.warnRun / 40) 0xFFFF)
    let t := (t.set1 PWR_EVENTS_WARN_END).updSupply
    exec .warningWithdrawn s = .next (when (t.red.abandoned && t.gstate == 4) (fun u =>
        u.updRed (fun r => { r with attempt := some s.now, abandoned := false })) t)) ∧
  -- remontoireOn, REMONTOIRE_ON (R412)
  (∀ (s : State),
    ¬(s.isSet PWR_STATUS_REMONTOIRE) →
    exec .remontoireOn s = .next ((s.set1 PWR_STATUS_REMONTOIRE).updPwr (fun p => { p with dipRun := 0 }))) ∧
  -- remontoireOff, REMONTOIRE_OFF (R412)
  (∀ (s : State),
    exec .remontoireOff s = .next ((s.clr PWR_STATUS_REMONTOIRE).clr PWR_STATUS_VSYS_HOLD)) ∧
  -- vsysToHold, VSYS_TO_HOLD (R411)
  (∀ (s : State),
    ¬(s.isSet PWR_STATUS_VSYS_HOLD) →
    exec .vsysToHold s = .next ((s.set1 PWR_STATUS_VSYS_HOLD).updPwr (fun p => { p with deepRun := 0 }))) ∧
  -- supplyReset, SUPPLY_RESET (R412)
  (∀ (s : State),
    (s.supplyLost) →
    exec .supplyReset s = .next (State.moduleReset (s.tagDark.updPwr (fun p => { p with off := true, fault := some (0xC102, 0) })) 2)) ∧
  -- railOut, RAIL_OUT (R414)
  (∀ (rail : Fin 3) (s : State),
    exec (.railOut rail) s = .next (State.moduleReset (s.tagDark.updPwr (fun p => { p with fault := some (0xC103, rail) })) 1)) ∧
  -- caseWatchdogReset, CASE_WATCHDOG_RESET (R417)
  (∀ (s : State),
    exec .caseWatchdogReset s = .next (s.moduleReset 4)) ∧
  -- cpSupplyOut, CP_SUPPLY_OUT (R410)
  (∀ (neg : Bool) (s : State),
    let t := s.putBit PWR_STATUS_IN_RANGE (if neg then rVCPN else rVCPP) false
    let t := (t.set1 PWR_EVENTS_CP_SUPPLY).raise 0xC104 OUTLETSTOP srcCase 0xFFF
      (twos 32 (s.geti (if neg then PWR_CP_VCPN else PWR_CP_VCPP)))
    (t.running) →
    exec (.cpSupplyOut neg) s = .next (forUpTo 12 (fun n u => ((u.stopOutlet n rPILOT_ERROR 0xC104).updPilot n (fun p =>
        { p with fEnd := some (s.now + 4 * secBeats), fSlac := false, low := 0 })).refreshPilot n) t)) ∧
  -- holdLow, HOLD_LOW (R410)
  (∀ (s : State),
    exec .holdLow s = .next (((s.putBit PWR_STATUS_IN_RANGE rHOLD false).set1 PWR_EVENTS_HOLD_LOW).raise 0xC105 DEGRADE srcCase 0 0)) ∧
  -- vbatLow, VBAT_LOW (R136)
  (∀ (s : State),
    exec .vbatLow s = .next (((s.putBit PWR_STATUS_IN_RANGE rVBAT false).set1 LGL_CHRONO_VBAT_LOW).raise 0x401B NOTE srcCase 0 0)) ∧
  -- railBackInRange, RAIL_BACK_IN_RANGE (R410)
  (∀ (rail : Fin 4) (s : State),
    let t := s.putBit PWR_STATUS_IN_RANGE rail true
    (rail.val = rVBAT) →
    exec (.railBackInRange rail) s = .next (t.clr LGL_CHRONO_VBAT_LOW)) ∧
  -- lanePllLost, LANE_PLL_LOST (R417)
  (∀ (lane : Fin 2) (s : State),
    let t := ((s.clockLost (1 + lane)).putBit CLK_STATUS_LOCK lane false).raise 0xC10C NOTE srcCase lane 0
    (t.running) →
    (lane.val = t.owner) →
    exec (.lanePllLost lane) s = .next (t.loseOwner 0x6003 0 20812)) ∧
  -- periphClockLost, PERIPH_CLOCK_LOST (R417)
  (∀ (d : Fin 5) (s : State),
    let t := ((s.clockLost (periphDomain d)).periphLock d false).raise 0xC10B DEGRADE srcCase (periphDomain d) 0
    (d.val = 0) →
    exec (.periphClockLost d) s = .next (when t.running (fun u => u.siteStop 1) t)) ∧
  -- periphClockReturn, PERIPH_CLOCK_RETURN (R417)
  (∀ (d : Fin 5) (s : State),
    let t := (s.putBit CLK_STATUS_LOST (periphDomain d) false).periphLock d true
    exec (.periphClockReturn d) s = .next (when (d.val == 0 && t.running && t.get SIT_STATUS_STATE == 1) (fun u => u.put SIT_STATUS_STATE 2) t)) ∧
  -- coreClockLost, CORE_CLOCK_LOST (R419)
  (∀ (which : Fin 3) (s : State),
    let t := if which.val = 0 then s.clockLost 0 else s
    let t := if which.val ≠ 2 then (t.clockLost cMAIN).putBit CLK_STATUS_LOCK 2 false else t
    let t := if which.val ≠ 1 then (t.clockLost cSNS).putBit CLK_STATUS_LOCK 3 false else t
    exec (.coreClockLost which) s = .next (t.raiseHold 0xC10A srcCase which 0)) ∧
  -- thermalLimit, THERMAL_LIMIT (R419)
  (∀ (die : Fin 6) (s : State),
    exec (.thermalLimit die) s = .next (s.raiseHold 0xC10D srcCase die 0)) ∧
  -- refClockMeasure, REF_CLOCK_MEASURE (R418)
  (∀ (ppm : Int) (s : State),
    let t := s.puti CLK_REF_PPM_PPM (satI 16 ppm)
    exec (.refClockMeasure ppm) s = .next (when (decide (1000 < ppm.natAbs)) (fun u => (u.set1 CLK_EVENTS_DEVIATION).raise 0xC108 NOTE srcCase 0 (twos 32 ppm)) t)) ∧
  -- chronoXtalStop, CHRONO_XTAL_STOP (R418)
  (∀ (s : State),
    ¬(s.isSet CLK_STATUS_CHRONO_FB) →
    let t := (((s.clockLost cCHRONO).set1 CLK_STATUS_CHRONO_FB).set1 CLK_EVENTS_CHRONO).put LGL_CHRONO_COMP 0
    exec .chronoXtalStop s = .next (t.raise 0xC109 DEGRADE srcCase 0 0)) ∧
  -- chronoXtalRestore, CHRONO_XTAL_RESTORE (R418)
  (∀ (s : State),
    (s.isSet CLK_STATUS_CHRONO_FB) →
    exec .chronoXtalRestore s = .next (((s.putBit CLK_STATUS_LOST cCHRONO false).clr CLK_STATUS_CHRONO_FB).set1 CLK_EVENTS_CHRONO)) ∧
  -- glbResetModule, GLB_RESET_MODULE (R29)
  (∀ (port : Fin 2) (s : State),
    exec (.glbResetModule port) s = .next (s.resetWrite port false)) ∧
  -- glbResetRecovery, GLB_RESET_RECOVERY (R22)
  (∀ (port : Fin 2) (s : State),
    exec (.glbResetRecovery port) s = .next (s.resetWrite port true))

/-- Completion and effect of the rows of the Calibre image and start-up: under the stated conditions on the state and the
operands alone, exec answers the next state written out, in every part of the machine. One clause per command (two where its
effect has two courses, or where a read is also said by its answer and its effect on the register). Constructors of Instr that
complete here: calLoad, calPatch, calTagInstaller, calAbort, calSlotInfo, calEraseSlot, calRestartUnits, unitRestartDone,
resetRelease, residentLoaderVerified, firmwareSetLoaded, slotChoiceAgreed, tagInstallerCheck, slotWriteCommit,
startSelftestDone, startOrder, loadingTimeout. -/
def Obligations.CalibreAndStartRowsComplete : Prop :=
  -- calLoad, CAL_LOAD (R35)
  (∀ (mb : Fin 8) (img : Image) (s : State),
    ∀ c, s.takes mb 0x0101 .runSetting false c →
    let u0 := (s.startCmd c).inside
    let a := c.u32 0
    let n := c.u32 1
    ¬(u0.glb.lifecycle ≠ 1 ∧ u0.glb.lifecycle ≠ 2) →
    ¬(u0.calBusy) →
    ¬(!argRangeOk a n ∨ n < 0x100) →
    let t := u0.laneReads a n
    let i := t.imageAt a n img
    ¬(i.headerOk ∧ i.length ≠ n) →
    exec (.calLoad mb img) s = .next (State.doneIn (t.submit c i 2))) ∧
  -- calPatch, CAL_PATCH (R35)
  (∀ (mb : Fin 8) (img : Image) (s : State),
    ∀ c, s.takes mb 0x0102 .running false c →
    let u0 := (s.startCmd c).inside
    let k := c.u32 0
    ¬(u0.calBusy) →
    ¬(k = 0 ∨ k > 4) →
    exec (.calPatch mb img) s = .next (State.doneIn (u0.submit c (u0.patched img (k - 1) (nth img.plain none (k - 1))) 3))) ∧
  -- calTagInstaller, CAL_TAG_INSTALLER (R49)
  (∀ (mb : Fin 8) (img : Image) (s : State),
    ∀ c, s.takes mb 0x0107 .running false c →
    let u0 := (s.startCmd c).inside
    ¬(u0.calBusy) →
    let u := u0.readInstaller
    ∀ t,
    u.takeTag img (some { port := c.port, seq := c.seq }) = some (t, true) →
    exec (.calTagInstaller mb img) s = .next (State.doneIn (t))) ∧
  -- calAbort, CAL_ABORT (R30)
  (∀ (mb : Fin 8) (s : State),
    ∀ c, s.takes mb 0x0104 .any false c →
    let u0 := (s.startCmd c).inside
    let r : CmdRef := { port := c.port, seq := c.u32 0 }
    ∀ w,
    u0.cal.write = some w →
    (w.cmd = some r) →
    exec (.calAbort mb) s = .next (State.doneIn (u0.updCal (fun x => { x with aborts := x.aborts ++ [{ port := c.port, seq := c.seq }] })))) ∧
  -- calSlotInfo, CAL_SLOT_INFO (R35)
  (∀ (mb : Fin 8) (s : State),
    ∀ c, s.takes mb 0x0105 .any false c →
    let u0 := (s.startCmd c).inside
    let k := c.u32 0
    ¬(k > 1) →
    let h := u0.slotHeader k
    let rec_ := match (u0.slot k).img with
      | some i => if (u0.slot k).commit then
          let r := le 4 (u0.slot k).seq ++ le 32 i.digest
          r ++ le 4 (crc32 r)
        else List.replicate 40 0#8
      | none => List.replicate 40 0#8
    exec (.calSlotInfo mb) s = .next (State.doneIn (h.2.reply c stOK 0 (h.1 ++ rec_ ++ le 4 (u0.slotState k))))) ∧
  -- calEraseSlot, CAL_ERASE_SLOT (R35)
  (∀ (mb : Fin 8) (s : State),
    ∀ c, s.takes mb 0x0106 .runSetting true c →
    let u0 := (s.startCmd c).inside
    let k := c.u32 0
    ¬(k > 1) →
    ¬(u0.calBusy) →
    ¬(u0.imageRuns ∧ k = u0.runSlot) →
    exec (.calEraseSlot mb) s = .next (State.doneIn ((((u0.updSlot k (fun _ => {})).put (slotField k) 0).put (slotSeq k) 0).reply c stOK 0))) ∧
  -- calRestartUnits, CAL_RESTART_UNITS (R48)
  (∀ (mb : Fin 8) (s : State),
    ∀ c, s.takes mb 0x0103 .running false c →
    let u0 := (s.startCmd c).inside
    let m := c.u32 0
    let us := (List.range 18).map (fun i => i + 2) |>.filter (fun u => m.testBit u)
    ¬(m.testBit 1 ∨ 2 ^ 20 ≤ m) →
    ¬(u0.cal.units ≠ 0) →
    ¬(m.testBit 4 ∧ !u0.unlockOn c.port) →
    ¬(!m.testBit 0 ∧ us.any (fun u => decide (8 ≤ u) && u0.restartHeld (u - 8))) →
    ¬(us.isEmpty) →
    let t := when (m.testBit 4) (fun v => v.safLog 0x03 (c.port + 1) (v.worldNo c.port) v.saf.lastVer
      (v.rdN A_CAL_VER_SAFETY) (nth v.cal.run.secs 0 1)) u0
    let t := t.updCal (fun x => { x with units := m - m % 4, unitCmd := some { port := c.port, seq := c.seq } })
    exec (.calRestartUnits mb) s = .next (State.doneIn (forEach us (fun u v => if 8 ≤ u then State.ownerActs (u - 8) (fun w => w.beginRestart u) v else v.beginRestart u) t))) ∧
  -- unitRestartDone, UNIT_RESTART_DONE (R47)
  (∀ (unit : Fin 23) (s : State),
    let u := unit.val
    ¬(u < 2) →
    (u < 20) →
    let act := match s.fwu.act with | some a => a.comp == 5 && a.stage == 1 | none => false
    exec (.unitRestartDone unit) s = .next (when (act && u == 7) (fun t =>
        (t.put SIT_STATUS_STATE (if t.get SIT_CFG_ROLE = 0 then 0 else 2)).actUnit 5) (s.unitDone u))) ∧
  -- resetRelease, RESET_RELEASE (R41)
  (∀ (lost : Bool) (s : State),
    ¬(s.gstate ≠ 0 ∨ s.bitOf PWR_STATUS_IN_RANGE 6) →
    let t := s.updPwr (fun p => { p with off := false })
    let t := t.put PWR_STATUS_IN_RANGE (t.get PWR_STATUS_IN_RANGE ||| 0xF0)
    let t := (t.put PWR_DOMAINS_ON 0x0FF).put CLK_STATUS_LOCK 0x7F
    let t := (t.put GLB_LIFECYCLE_LC t.glb.lifecycle).put GLB_REV_LEGAL_BUILD t.glb.legalBuild
    let t := (t.wrN A_GLB_SERIAL_LO (t.glb.serial % 2 ^ 32)).wrN A_GLB_SERIAL_HI (t.glb.serial / 2 ^ 32)
    let t := ((t.put RED_STATUS_LA_STATE 1).put RED_STATUS_LB_STATE 1).mendModulators
    exec (.resetRelease lost) s = .next (when lost State.loseChrono t.settingOutputs)) ∧
  -- residentLoaderVerified, RESIDENT_LOADER_VERIFIED (R22)
  (∀ (bad : Fin 4) (s : State),
    ¬(s.gstate ≠ 0 ∨ !s.bitOf PWR_STATUS_IN_RANGE 6) →
    s.badEntry = none →
    ¬(bad.val = 3 ∨ s.glb.recoveryReq) →
    exec (.residentLoaderVerified bad) s = .next ((s.setGstate 1 0).updCal (fun c => { c with step := 3, out := bad }))) ∧
  -- firmwareSetLoaded, FIRMWARE_SET_LOADED (R41)
  (∀ (corrupt : List (Fin 64)) (digestBad : Option (Fin 7)) (legalBad : Fin 4) (s : State),
    ¬(s.gstate ≠ 1 ∨ s.cal.step ≠ 3) →
    digestBad = none →
    let t := (s.loadFirmware.loadJewels (corrupt.map Fin.val)).set1 KEY_STATUS_DRBG_OK
    let t := t.updCal (fun c => { c with step := 4, legalBad := legalBad, early := c.out ||| legalBad.val, out := c.out ||| legalBad.val })
    let t := when (legalBad.val != 3) (fun u =>
      (u.wrN A_GLB_LEGAL_FW_ID u.glb.legalId).wrN A_GLB_LEGAL_FW_SUM u.glb.legalSum) t
    let t := t.powerEntry.sampleChrono 0
    let t := t.updKey (fun k => { k with seedMono := t.mono })
    let r := t.restoreTotals
    let t := r.1.restoreAccts.outageWith.countAon
    let t := forUpTo 2 (fun l u => when (legalBad.val.testBit l) (fun v =>
      v.raise 0x4010 (if legalBad.val = 3 then SETTINGCLASS else DEGRADE) (v.srcLane l) l 0) u) t
    let t := when (legalBad.val == 3) (fun u => u.enterSetting 0x4010) t
    exec (.firmwareSetLoaded corrupt digestBad legalBad) s = .next (if r.2 then t
        else (t.updCal (fun c => { c with totalsLost := true })).raiseSetting 0x4001 t.srcOwner 0 0)) ∧
  -- slotChoiceAgreed, SLOT_CHOICE_AGREED (R39)
  (∀ (digestBad : Fin 4) (choiceEqual keysEqual : Bool) (s : State),
    ¬(s.gstate ≠ 1 ∨ s.cal.step ≠ 4) →
    let both := s.cal.out == 0
    let t := s.putB KEY_STATUS_AGREED (both && keysEqual && s.glb.lifecycle != 0)
    let keyDiff := both && !keysEqual && s.glb.lifecycle != 0
    let blank := s.glb.lifecycle != 1 && s.glb.lifecycle != 2
    let diff := both && !choiceEqual && !blank
    let t := if blank then t else (t.examine 0 (digestBad.val.testBit 0)).examine 1 (digestBad.val.testBit 1)
    ¬((keyDiff || diff) && s.cal.repeats == 0) →
    ¬(keyDiff || diff) →
    ¬(blank) →
    ∀ k fb,
    t.chooseSlot = some (k, fb) →
    exec (.slotChoiceAgreed digestBad choiceEqual keysEqual) s = .next (t.choose k fb)) ∧
  -- tagInstallerCheck, TAG_INSTALLER_CHECK (R49)
  (∀ (readOk : Bool) (img : Image) (s : State),
    ¬(s.gstate ≠ 1 ∨ s.cal.step ≠ 5) →
    let t := s.tagBoot.clr CAL_STATUS_TAG_TAKEN
    let t := when t.cal.run.cfg.tagEn State.readInstaller t
    (if t.cal.run.cfg.tagEn then t.takeTag img none else none) = none →
    exec (.tagInstallerCheck readOk img) s = .next (t.applyImage readOk)) ∧
  -- slotWriteCommit, SLOT_WRITE_COMMIT (R35)
  (∀ (back : CommitObs) (s : State),
    ∀ w,
    s.cal.write = some w →
    let t := if back.ok then (s.slotCommit w).afterCommit w else s.slotWriteFail w
    exec (.slotWriteCommit back) s = .next (when (t.gstate == 1 && t.cal.step == 6) (fun u => u.applyImage back.readOk) (t.abortsLate w))) ∧
  -- startSelftestDone, START_SELFTEST_DONE (R22)
  (∀ (a b : Option (Fin 65536)) (s : State),
    ¬(s.gstate ≠ 1 ∨ s.cal.step ≠ 7) →
    let code (l : Nat) : Option Nat :=
      match (if l = 0 then a else b) with
      | some v => some v.val
      | none => if s.cal.legalBad.testBit l then some 0x4010 else if s.cal.out.testBit l then some 0 else none
    let t := forUpTo 2 (fun l u =>
      match code l with
      | some v => (u.raise 0x600E DEGRADE (u.srcLane l) l v).updCal (fun c => { c with out := natBit c.out l true })
      | none => u) s
    let t := t.updCal (fun c => { c with step := 8 })
    exec (.startSelftestDone a b) s = .next (if t.cal.out = 3 then t.raiseSetting 0x1011 srcCase 0 0 else t)) ∧
  -- startOrder, START_ORDER (R42)
  (∀ (t100 : Nat) (x : StartObs) (s : State),
    ¬(s.gstate ≠ 1 ∨ s.cal.step ≠ 8 ∨ s.warned ∨ !s.bitOf PWR_STATUS_IN_RANGE rHOLD ∨ !s.ordersAgree x.orderA x.orderB) →
    let t := (((s.startCals x.cals).compareRefs x.refs.1 x.refs.2).startLanes).putSat CAL_START_TIME_TIME t100
    let t := (t.safetyRan).updCal (fun c => { c with step := 11 })
    let t := (t.updLgl (fun x => { x with metered := true })).updBzl (fun b => { b with recover := b.startRec.isSome })
    let t := (t.updRed (fun r => { r with swapMono := t.mono, legalMono := t.mono, appliedBeat := t.now })).updMtr (fun x =>
      { x with m := x.m.map (fun y => { y with reg := false, armed := false, crossBeat := t.now }) })
    let t := (forUpTo 8 (fun k u => (u.fnBoth k 0).put (SAF_FN_STATE_CAUSE k) 0) t).fnStatus
    let t := forUpTo 16 (fun k u => u.lcInit k) t.endCut
    let t := forUpTo 12 (fun n u => u.refreshPilot n) t
    let t := t.put SIT_STATUS_STATE (if t.get SIT_CFG_ROLE = 0 then 0 else 2)
    exec (.startOrder t100 x) s = .next (deferredLog t.showPending)) ∧
  -- loadingTimeout, LOADING_TIMEOUT (R43)
  (∀ (s : State),
    (s.gstate = 1) →
    exec .loadingTimeout s = .next (s.raiseSetting 0x100F srcCase 0 0))

/-- Completion and effect of the rows of host transactions and mailboxes: under the stated conditions on the state and the
operands alone, exec answers the next state written out, in every part of the machine. One clause per command (two where its
effect has two courses, or where a read is also said by its answer and its effect on the register). Constructors of Instr that
complete here: hostRead, hostReadCrc, hostWrite, hostWriteCrc, hostProtocolError, hostWriteApply, registerWrite, hostWatchdog,
mbxNoticeComplete, dbOutSetWrite, interimReply. -/
def Obligations.HostTransactionsComplete : Prop :=
  -- hostRead, HOST_READ (R335)
  (∀ (port : Fin 2) (addr : BitVec 32) (words : Nat) (sck : Nat) (late : List Nat) (s : State),
    exec (.hostRead port addr words sck late) s = .next (s.hostRead port addr.toNat words sck late false)) ∧
  -- hostReadCrc, HOST_READ_CRC (R336)
  (∀ (port : Fin 2) (addr : BitVec 32) (words : Nat) (sck : Nat) (late : List Nat) (s : State),
    exec (.hostReadCrc port addr words sck late) s = .next (s.hostRead port addr.toNat words sck late true)) ∧
  -- hostWrite, HOST_WRITE (R337)
  (∀ (port : Fin 2) (addr : BitVec 32) (data : List Word) (sck : Nat) (s : State),
    exec (.hostWrite port addr data sck) s = .next (s.hostWrite port addr.toNat (data.map (fun v => v.toNat)) sck true false)) ∧
  -- hostWriteCrc, HOST_WRITE_CRC (R337)
  (∀ (port : Fin 2) (addr : BitVec 32) (data : List Word) (crc : BitVec 16) (sck : Nat) (s : State),
    let good := crc16 (headBytes 0x12 addr.toNat ++ data.flatMap (fun v => le 4 v.toNat))
    exec (.hostWriteCrc port addr data crc sck) s = .next (s.hostWrite port addr.toNat (data.map (fun v => v.toNat)) sck false (decide (good ≠ crc.toNat)))) ∧
  -- hostProtocolError, HOST_PROTOCOL_ERROR (R335)
  (∀ (port : Fin 2) (addr : BitVec 32) (sck : Nat) (s : State),
    exec (.hostProtocolError port addr sck) s = .next ((s.countTxn port sck).protocolError port addr.toNat)) ∧
  -- hostWriteApply, HOST_WRITE_APPLY (R337)
  (∀ (s : State),
    exec .hostWriteApply s = .next s.applyWrite) ∧
  -- registerWrite, REGISTER_WRITE (R6)
  (∀ (port : Fin 2) (addr : BitVec 32) (v : Word) (s : State),
    let code := s.writeCode port addr.toNat [v.toNat] false
    exec (.registerWrite port addr v) s = .next (if code ≠ 0 then s.hostFail port code addr.toNat else s.applyWords port addr.toNat [v.toNat])) ∧
  -- hostWatchdog, HOST_WATCHDOG (R340)
  (∀ (s : State),
    let wd := s.get HPD_CFG_HOST_WD
    (s.running && wd != 0 && !s.isSet HPD_STATUS_HOST_SILENT &&
      decide (max s.host.pollBeat s.glb.runBeat + wd * secBeats ≤ s.now)) →
    exec .hostWatchdog s = .next ((s.set1 HPD_STATUS_HOST_SILENT).raise 0xA008 NOTE srcBarrel 0 0)) ∧
  -- mbxNoticeComplete, MBX_NOTICE_COMPLETE (R342)
  (∀ (port : Fin 2) (k : Fin 8) (hi : Word) (s : State),
    exec (.mbxNoticeComplete port k hi) s = .next (s.hostSets port (A_MBX_HI k) (fun u => u.applyWords port (A_MBX_HI k) [hi.toNat]))) ∧
  -- dbOutSetWrite, DB_OUT_SET_WRITE (R341)
  (∀ (w : PortWrite 32) (s : State),
    exec (.dbOutSetWrite w) s = .next (s.hostSets w.port A_HPD_DB_OUT_SET (fun u => u.ringBells w.val.toNat))) ∧
  -- interimReply, INTERIM_REPLY (R347)
  (∀ (port : Fin 2) (seq : BitVec 16) (s : State),
    ∀ c,
    s.host.exec.find? (fun c => c.port == port.val && c.seq == seq.toNat) = some c →
    (!c.interim && decide (c.beat + 400 ≤ s.now)) →
    let t := s.holdReply c stACCEPTED 1 0
    exec (.interimReply port seq) s = .next ({ t with host := { t.host with
        exec := t.host.exec.map (fun d => if d.port == c.port && d.seq == c.seq then { d with interim := true } else d) } }))

/-- Completion and effect of the rows of registers that a read clears or renews: under the stated conditions on the state and
the operands alone, exec answers the next state written out, in every part of the machine. One clause per command (two where
its effect has two courses, or where a read is also said by its answer and its effect on the register). Constructors of Instr
that complete here: beatnoLoRead, budgetRoundRead, plRoundRead, glbPollRead, mbxReplyRead, faultEntryRead, essMaxRead,
queueFullCntRead, compRunRead, compDropRead, swingCntRead, chStatRead, meterStateRead, plsStatRead, tokCountRead,
sesProtoRead, outSlacRead, plBreachRead, journalMaxRead, gapMaxRead, redChecksRead, safCountRead, safReactRead, lchCountRead,
bzlCountRead, rdCountRead, tagStatRead, sitCountRead, sitErrRead, sitDropRead, hpdErrRead, hpdClkRead, arbMissRead,
arbWaitRead, arbLoadRead, jwUseRead, drbgRead, pwrVauxRead, pwrDipsRead, fltStatusRead, fltCountRead, wideWord0Read. -/
def Obligations.ClearOnReadRegistersComplete : Prop :=
  -- beatnoLoRead, BEATNO_LO_READ (R55)
  (∀ (port : Fin 2) (s : State),
    exec (.beatnoLoRead port) s = .next (s.portRead port A_ESC_BEATNO_LO)) ∧
  -- beatnoLoRead, BEATNO_LO_READ (R55)
  (∀ (port : Fin 2) (s : State),
    ∀ r,
    s.regAt A_ESC_BEATNO_LO = some r →
    (s.latchesNow port A_ESC_BEATNO_LO r [A_ESC_BEATNO_HI]) →
    exec (.beatnoLoRead port) s = .next ((s.latch port [A_ESC_BEATNO_HI]).setOut port (le 4 (s.shown A_ESC_BEATNO_LO)))) ∧
  -- budgetRoundRead, BUDGET_ROUND_READ (R72)
  (∀ (port : Fin 2) (s : State),
    exec (.budgetRoundRead port) s = .next (s.portRead port A_GOV_BUDGET_ROUND)) ∧
  -- budgetRoundRead, BUDGET_ROUND_READ (R72)
  (∀ (port : Fin 2) (s : State),
    ∀ r,
    s.regAt A_GOV_BUDGET_ROUND = some r →
    (s.latchesNow port A_GOV_BUDGET_ROUND r [A_GOV_BUDGET_DERATE, A_GOV_BUDGET_AUX, A_GOV_BUDGET_HEAD]) →
    exec (.budgetRoundRead port) s = .next ((s.latch port [A_GOV_BUDGET_DERATE, A_GOV_BUDGET_AUX, A_GOV_BUDGET_HEAD]).setOut port (le 4 (s.shown A_GOV_BUDGET_ROUND)))) ∧
  -- plRoundRead, PL_ROUND_READ (R207)
  (∀ (port : Fin 2) (s : State),
    exec (.plRoundRead port) s = .next (s.portRead port A_GOV_PL_ROUND)) ∧
  -- plRoundRead, PL_ROUND_READ (R207)
  (∀ (port : Fin 2) (s : State),
    ∀ r,
    s.regAt A_GOV_PL_ROUND = some r →
    (s.latchesNow port A_GOV_PL_ROUND r [0x38134, 0x38138, 0x3813C]) →
    exec (.plRoundRead port) s = .next ((s.latch port [0x38134, 0x38138, 0x3813C]).setOut port (le 4 (s.shown A_GOV_PL_ROUND)))) ∧
  -- glbPollRead, GLB_POLL_READ (R340)
  (∀ (port : Fin 2) (s : State),
    exec (.glbPollRead port) s = .next (s.portRead port A_GLB_POLL)) ∧
  -- glbPollRead, GLB_POLL_READ (R340)
  (∀ (port : Fin 2) (s : State),
    ∀ r,
    s.regAt A_GLB_POLL = some r →
    (s.readsNow port A_GLB_POLL r) →
    exec (.glbPollRead port) s = .next (State.setOut { s.clr HPD_STATUS_HOST_SILENT with host := { (s.clr HPD_STATUS_HOST_SILENT).host with pollBeat := s.now } } port (le 4 (s.shown A_GLB_POLL)))) ∧
  -- mbxReplyRead, MBX_REPLY_READ (R346)
  (∀ (port : Fin 2) (k : Fin 8) (s : State),
    exec (.mbxReplyRead port k) s = .next (s.portRead port (A_MBX_HI (8 + k)))) ∧
  -- mbxReplyRead, MBX_REPLY_READ (R346)
  (∀ (port : Fin 2) (k : Fin 8) (s : State),
    ∀ r,
    s.regAt (A_MBX_HI (8 + k)) = some r →
    (s.clearsNow port (A_MBX_HI (8 + k)) r) →
    exec (.mbxReplyRead port k) s = .next ((((s.clearRead (A_MBX_HI (8 + k)) r).notePoll).clr (MBX_STAT_FULL (8 + k))).setOut port (le 4 (s.shown (A_MBX_HI (8 + k)))))) ∧
  -- faultEntryRead, FAULT_ENTRY_READ (R427)
  (∀ (port : Fin 2) (s : State),
    exec (.faultEntryRead port) s = .next (s.portRead port (A_FLT_E 0))) ∧
  -- faultEntryRead, FAULT_ENTRY_READ (R427)
  (∀ (port : Fin 2) (s : State),
    ∀ r,
    s.regAt (A_FLT_E 0) = some r →
    (s.latchesNow port (A_FLT_E 0) r ((List.range 7).map (fun i => A_FLT_E (i + 1)))) →
    exec (.faultEntryRead port) s = .next ((s.latch port ((List.range 7).map (fun i => A_FLT_E (i + 1)))).setOut port (le 4 (s.shown (A_FLT_E 0))))) ∧
  -- essMaxRead, ESS_MAX_READ (R6)
  (∀ (port : Fin 2) (s : State),
    exec (.essMaxRead port) s = .next (s.portRead port A_ESC_ESS_MAX)) ∧
  -- essMaxRead, ESS_MAX_READ (R6)
  (∀ (port : Fin 2) (s : State),
    ∀ r,
    s.regAt A_ESC_ESS_MAX = some r →
    (s.clearsNow port A_ESC_ESS_MAX r) →
    exec (.essMaxRead port) s = .next ((s.clearRead A_ESC_ESS_MAX r).setOut port (le 4 (s.shown A_ESC_ESS_MAX)))) ∧
  -- queueFullCntRead, QUEUE_FULL_CNT_READ (R6)
  (∀ (port : Fin 2) (s : State),
    exec (.queueFullCntRead port) s = .next (s.portRead port A_ESC_QUEUE)) ∧
  -- queueFullCntRead, QUEUE_FULL_CNT_READ (R6)
  (∀ (port : Fin 2) (s : State),
    ∀ r,
    s.regAt A_ESC_QUEUE = some r →
    (s.clearsNow port A_ESC_QUEUE r) →
    exec (.queueFullCntRead port) s = .next ((s.clearRead A_ESC_QUEUE r).setOut port (le 4 (s.shown A_ESC_QUEUE)))) ∧
  -- compRunRead, COMP_RUN_READ (R6)
  (∀ (port : Fin 2) (k : Fin 8) (s : State),
    exec (.compRunRead port k) s = .next (s.portRead port (A_ESC_COMP_RUN k))) ∧
  -- compRunRead, COMP_RUN_READ (R6)
  (∀ (port : Fin 2) (k : Fin 8) (s : State),
    ∀ r,
    s.regAt (A_ESC_COMP_RUN k) = some r →
    (s.clearsNow port (A_ESC_COMP_RUN k) r) →
    exec (.compRunRead port k) s = .next ((s.clearRead (A_ESC_COMP_RUN k) r).setOut port (le 4 (s.shown (A_ESC_COMP_RUN k))))) ∧
  -- compDropRead, COMP_DROP_READ (R6)
  (∀ (port : Fin 2) (k : Fin 8) (s : State),
    exec (.compDropRead port k) s = .next (s.portRead port (A_ESC_COMP_DROP k))) ∧
  -- compDropRead, COMP_DROP_READ (R6)
  (∀ (port : Fin 2) (k : Fin 8) (s : State),
    ∀ r,
    s.regAt (A_ESC_COMP_DROP k) = some r →
    (s.clearsNow port (A_ESC_COMP_DROP k) r) →
    exec (.compDropRead port k) s = .next ((s.clearRead (A_ESC_COMP_DROP k) r).setOut port (le 4 (s.shown (A_ESC_COMP_DROP k))))) ∧
  -- swingCntRead, SWING_CNT_READ (R6)
  (∀ (port : Fin 2) (s : State),
    exec (.swingCntRead port) s = .next (s.portRead port A_SNS_SWING_CNT)) ∧
  -- swingCntRead, SWING_CNT_READ (R6)
  (∀ (port : Fin 2) (s : State),
    ∀ r,
    s.regAt A_SNS_SWING_CNT = some r →
    (s.clearsNow port A_SNS_SWING_CNT r) →
    exec (.swingCntRead port) s = .next ((s.clearRead A_SNS_SWING_CNT r).setOut port (le 4 (s.shown A_SNS_SWING_CNT)))) ∧
  -- chStatRead, CH_STAT_READ (R6)
  (∀ (port : Fin 2) (n : Fin 128) (s : State),
    exec (.chStatRead port n) s = .next (s.portRead port (A_SNS_CH_STAT n))) ∧
  -- chStatRead, CH_STAT_READ (R6)
  (∀ (port : Fin 2) (n : Fin 128) (s : State),
    ∀ r,
    s.regAt (A_SNS_CH_STAT n) = some r →
    (s.clearsNow port (A_SNS_CH_STAT n) r) →
    exec (.chStatRead port n) s = .next ((s.clearRead (A_SNS_CH_STAT n) r).setOut port (le 4 (s.shown (A_SNS_CH_STAT n))))) ∧
  -- meterStateRead, METER_STATE_READ (R6)
  (∀ (port : Fin 2) (m : Fin 32) (s : State),
    exec (.meterStateRead port m) s = .next (s.portRead port (A_MTR_M_STATE m))) ∧
  -- meterStateRead, METER_STATE_READ (R6)
  (∀ (port : Fin 2) (m : Fin 32) (s : State),
    ∀ r,
    s.regAt (A_MTR_M_STATE m) = some r →
    (s.clearsNow port (A_MTR_M_STATE m) r) →
    exec (.meterStateRead port m) s = .next ((s.clearRead (A_MTR_M_STATE m) r).setOut port (le 4 (s.shown (A_MTR_M_STATE m))))) ∧
  -- plsStatRead, PLS_STAT_READ (R6)
  (∀ (port : Fin 2) (k : Fin 4) (s : State),
    exec (.plsStatRead port k) s = .next (s.portRead port (A_MTR_PLS_STAT k))) ∧
  -- plsStatRead, PLS_STAT_READ (R6)
  (∀ (port : Fin 2) (k : Fin 4) (s : State),
    ∀ r,
    s.regAt (A_MTR_PLS_STAT k) = some r →
    (s.clearsNow port (A_MTR_PLS_STAT k) r) →
    exec (.plsStatRead port k) s = .next ((s.clearRead (A_MTR_PLS_STAT k) r).setOut port (le 4 (s.shown (A_MTR_PLS_STAT k))))) ∧
  -- tokCountRead, TOK_COUNT_READ (R6)
  (∀ (port : Fin 2) (s : State),
    exec (.tokCountRead port) s = .next (s.portRead port A_TOK_COUNT)) ∧
  -- tokCountRead, TOK_COUNT_READ (R6)
  (∀ (port : Fin 2) (s : State),
    ∀ r,
    s.regAt A_TOK_COUNT = some r →
    (s.clearsNow port A_TOK_COUNT r) →
    exec (.tokCountRead port) s = .next ((s.clearRead A_TOK_COUNT r).setOut port (le 4 (s.shown A_TOK_COUNT)))) ∧
  -- sesProtoRead, SES_PROTO_READ (R6)
  (∀ (port : Fin 2) (k : Fin 128) (s : State),
    exec (.sesProtoRead port k) s = .next (s.portRead port (A_SES_PROTO k))) ∧
  -- sesProtoRead, SES_PROTO_READ (R6)
  (∀ (port : Fin 2) (k : Fin 128) (s : State),
    ∀ r,
    s.regAt (A_SES_PROTO k) = some r →
    (s.clearsNow port (A_SES_PROTO k) r) →
    exec (.sesProtoRead port k) s = .next ((s.clearRead (A_SES_PROTO k) r).setOut port (le 4 (s.shown (A_SES_PROTO k))))) ∧
  -- outSlacRead, OUT_SLAC_READ (R6)
  (∀ (port : Fin 2) (n : Fin 12) (s : State),
    exec (.outSlacRead port n) s = .next (s.portRead port (A_OUT_SLAC n))) ∧
  -- outSlacRead, OUT_SLAC_READ (R6)
  (∀ (port : Fin 2) (n : Fin 12) (s : State),
    ∀ r,
    s.regAt (A_OUT_SLAC n) = some r →
    (s.clearsNow port (A_OUT_SLAC n) r) →
    exec (.outSlacRead port n) s = .next ((s.clearRead (A_OUT_SLAC n) r).setOut port (le 4 (s.shown (A_OUT_SLAC n))))) ∧
  -- plBreachRead, PL_BREACH_READ (R6)
  (∀ (port : Fin 2) (s : State),
    exec (.plBreachRead port) s = .next (s.portRead port A_GOV_PL_BREACH)) ∧
  -- plBreachRead, PL_BREACH_READ (R6)
  (∀ (port : Fin 2) (s : State),
    ∀ r,
    s.regAt A_GOV_PL_BREACH = some r →
    (s.clearsNow port A_GOV_PL_BREACH r) →
    exec (.plBreachRead port) s = .next ((s.clearRead A_GOV_PL_BREACH r).setOut port (le 4 (s.shown A_GOV_PL_BREACH)))) ∧
  -- journalMaxRead, JOURNAL_MAX_READ (R6)
  (∀ (port : Fin 2) (s : State),
    exec (.journalMaxRead port) s = .next (s.portRead port A_RED_JOURNAL)) ∧
  -- journalMaxRead, JOURNAL_MAX_READ (R6)
  (∀ (port : Fin 2) (s : State),
    ∀ r,
    s.regAt A_RED_JOURNAL = some r →
    (s.clearsNow port A_RED_JOURNAL r) →
    exec (.journalMaxRead port) s = .next ((s.clearRead A_RED_JOURNAL r).setOut port (le 4 (s.shown A_RED_JOURNAL)))) ∧
  -- gapMaxRead, GAP_MAX_READ (R6)
  (∀ (port : Fin 2) (s : State),
    exec (.gapMaxRead port) s = .next (s.portRead port A_RED_GAP_MAX)) ∧
  -- gapMaxRead, GAP_MAX_READ (R6)
  (∀ (port : Fin 2) (s : State),
    ∀ r,
    s.regAt A_RED_GAP_MAX = some r →
    (s.clearsNow port A_RED_GAP_MAX r) →
    exec (.gapMaxRead port) s = .next ((s.clearRead A_RED_GAP_MAX r).setOut port (le 4 (s.shown A_RED_GAP_MAX)))) ∧
  -- redChecksRead, RED_CHECKS_READ (R6)
  (∀ (port : Fin 2) (s : State),
    exec (.redChecksRead port) s = .next (s.portRead port A_RED_CHECKS)) ∧
  -- redChecksRead, RED_CHECKS_READ (R6)
  (∀ (port : Fin 2) (s : State),
    ∀ r,
    s.regAt A_RED_CHECKS = some r →
    (s.clearsNow port A_RED_CHECKS r) →
    exec (.redChecksRead port) s = .next ((s.clearRead A_RED_CHECKS r).setOut port (le 4 (s.shown A_RED_CHECKS)))) ∧
  -- safCountRead, SAF_COUNT_READ (R6)
  (∀ (port : Fin 2) (s : State),
    exec (.safCountRead port) s = .next (s.portRead port A_SAF_COUNT)) ∧
  -- safCountRead, SAF_COUNT_READ (R6)
  (∀ (port : Fin 2) (s : State),
    ∀ r,
    s.regAt A_SAF_COUNT = some r →
    (s.clearsNow port A_SAF_COUNT r) →
    exec (.safCountRead port) s = .next ((s.clearRead A_SAF_COUNT r).setOut port (le 4 (s.shown A_SAF_COUNT)))) ∧
  -- safReactRead, SAF_REACT_READ (R6)
  (∀ (port : Fin 2) (s : State),
    exec (.safReactRead port) s = .next (s.portRead port A_SAF_REACT)) ∧
  -- safReactRead, SAF_REACT_READ (R6)
  (∀ (port : Fin 2) (s : State),
    ∀ r,
    s.regAt A_SAF_REACT = some r →
    (s.clearsNow port A_SAF_REACT r) →
    exec (.safReactRead port) s = .next ((s.clearRead A_SAF_REACT r).setOut port (le 4 (s.shown A_SAF_REACT)))) ∧
  -- lchCountRead, LCH_COUNT_READ (R6)
  (∀ (port : Fin 2) (k : Fin 16) (s : State),
    exec (.lchCountRead port k) s = .next (s.portRead port (A_LCH_COUNT k))) ∧
  -- lchCountRead, LCH_COUNT_READ (R6)
  (∀ (port : Fin 2) (k : Fin 16) (s : State),
    ∀ r,
    s.regAt (A_LCH_COUNT k) = some r →
    (s.clearsNow port (A_LCH_COUNT k) r) →
    exec (.lchCountRead port k) s = .next ((s.clearRead (A_LCH_COUNT k) r).setOut port (le 4 (s.shown (A_LCH_COUNT k))))) ∧
  -- bzlCountRead, BZL_COUNT_READ (R6)
  (∀ (port : Fin 2) (s : State),
    exec (.bzlCountRead port) s = .next (s.portRead port A_BZL_COUNT)) ∧
  -- bzlCountRead, BZL_COUNT_READ (R6)
  (∀ (port : Fin 2) (s : State),
    ∀ r,
    s.regAt A_BZL_COUNT = some r →
    (s.clearsNow port A_BZL_COUNT r) →
    exec (.bzlCountRead port) s = .next ((s.clearRead A_BZL_COUNT r).setOut port (le 4 (s.shown A_BZL_COUNT)))) ∧
  -- rdCountRead, RD_COUNT_READ (R6)
  (∀ (port : Fin 2) (s : State),
    exec (.rdCountRead port) s = .next (s.portRead port A_NFC_RD_COUNT)) ∧
  -- rdCountRead, RD_COUNT_READ (R6)
  (∀ (port : Fin 2) (s : State),
    ∀ r,
    s.regAt A_NFC_RD_COUNT = some r →
    (s.clearsNow port A_NFC_RD_COUNT r) →
    exec (.rdCountRead port) s = .next ((s.clearRead A_NFC_RD_COUNT r).setOut port (le 4 (s.shown A_NFC_RD_COUNT)))) ∧
  -- tagStatRead, TAG_STAT_READ (R6)
  (∀ (port : Fin 2) (s : State),
    exec (.tagStatRead port) s = .next (s.portRead port A_NFC_TAG_STAT)) ∧
  -- tagStatRead, TAG_STAT_READ (R6)
  (∀ (port : Fin 2) (s : State),
    ∀ r,
    s.regAt A_NFC_TAG_STAT = some r →
    (s.clearsNow port A_NFC_TAG_STAT r) →
    exec (.tagStatRead port) s = .next ((s.clearRead A_NFC_TAG_STAT r).setOut port (le 4 (s.shown A_NFC_TAG_STAT)))) ∧
  -- sitCountRead, SIT_COUNT_READ (R6)
  (∀ (port : Fin 2) (s : State),
    exec (.sitCountRead port) s = .next (s.portRead port A_SIT_COUNT)) ∧
  -- sitCountRead, SIT_COUNT_READ (R6)
  (∀ (port : Fin 2) (s : State),
    ∀ r,
    s.regAt A_SIT_COUNT = some r →
    (s.clearsNow port A_SIT_COUNT r) →
    exec (.sitCountRead port) s = .next ((s.clearRead A_SIT_COUNT r).setOut port (le 4 (s.shown A_SIT_COUNT)))) ∧
  -- sitErrRead, SIT_ERR_READ (R6)
  (∀ (port : Fin 2) (s : State),
    exec (.sitErrRead port) s = .next (s.portRead port A_SIT_ERR)) ∧
  -- sitErrRead, SIT_ERR_READ (R6)
  (∀ (port : Fin 2) (s : State),
    ∀ r,
    s.regAt A_SIT_ERR = some r →
    (s.clearsNow port A_SIT_ERR r) →
    exec (.sitErrRead port) s = .next ((s.clearRead A_SIT_ERR r).setOut port (le 4 (s.shown A_SIT_ERR)))) ∧
  -- sitDropRead, SIT_DROP_READ (R6)
  (∀ (port : Fin 2) (s : State),
    exec (.sitDropRead port) s = .next (s.portRead port A_SIT_DROP)) ∧
  -- sitDropRead, SIT_DROP_READ (R6)
  (∀ (port : Fin 2) (s : State),
    ∀ r,
    s.regAt A_SIT_DROP = some r →
    (s.clearsNow port A_SIT_DROP r) →
    exec (.sitDropRead port) s = .next ((s.clearRead A_SIT_DROP r).setOut port (le 4 (s.shown A_SIT_DROP)))) ∧
  -- hpdErrRead, HPD_ERR_READ (R6)
  (∀ (port : Fin 2) (n : Fin 2) (s : State),
    exec (.hpdErrRead port n) s = .next (s.portRead port (A_HPD_P_ERR n))) ∧
  -- hpdErrRead, HPD_ERR_READ (R6)
  (∀ (port : Fin 2) (n : Fin 2) (s : State),
    ∀ r,
    s.regAt (A_HPD_P_ERR n) = some r →
    (s.clearsNow port (A_HPD_P_ERR n) r) →
    exec (.hpdErrRead port n) s = .next ((s.clearRead (A_HPD_P_ERR n) r).setOut port (le 4 (s.shown (A_HPD_P_ERR n))))) ∧
  -- hpdClkRead, HPD_CLK_READ (R6)
  (∀ (port : Fin 2) (n : Fin 2) (s : State),
    exec (.hpdClkRead port n) s = .next (s.portRead port (A_HPD_P_CLK n))) ∧
  -- hpdClkRead, HPD_CLK_READ (R6)
  (∀ (port : Fin 2) (n : Fin 2) (s : State),
    ∀ r,
    s.regAt (A_HPD_P_CLK n) = some r →
    (s.clearsNow port (A_HPD_P_CLK n) r) →
    exec (.hpdClkRead port n) s = .next ((s.clearRead (A_HPD_P_CLK n) r).setOut port (le 4 (s.shown (A_HPD_P_CLK n))))) ∧
  -- arbMissRead, ARB_MISS_READ (R6)
  (∀ (port : Fin 2) (m : Fin 14) (s : State),
    exec (.arbMissRead port m) s = .next (s.portRead port (A_ARB_MISS m))) ∧
  -- arbMissRead, ARB_MISS_READ (R6)
  (∀ (port : Fin 2) (m : Fin 14) (s : State),
    ∀ r,
    s.regAt (A_ARB_MISS m) = some r →
    (s.clearsNow port (A_ARB_MISS m) r) →
    exec (.arbMissRead port m) s = .next ((s.clearRead (A_ARB_MISS m) r).setOut port (le 4 (s.shown (A_ARB_MISS m))))) ∧
  -- arbWaitRead, ARB_WAIT_READ (R6)
  (∀ (port : Fin 2) (m : Fin 14) (s : State),
    exec (.arbWaitRead port m) s = .next (s.portRead port (A_ARB_WAIT m))) ∧
  -- arbWaitRead, ARB_WAIT_READ (R6)
  (∀ (port : Fin 2) (m : Fin 14) (s : State),
    ∀ r,
    s.regAt (A_ARB_WAIT m) = some r →
    (s.clearsNow port (A_ARB_WAIT m) r) →
    exec (.arbWaitRead port m) s = .next ((s.clearRead (A_ARB_WAIT m) r).setOut port (le 4 (s.shown (A_ARB_WAIT m))))) ∧
  -- arbLoadRead, ARB_LOAD_READ (R6)
  (∀ (port : Fin 2) (b : Fin 9) (s : State),
    exec (.arbLoadRead port b) s = .next (s.portRead port (A_ARB_LOAD b))) ∧
  -- arbLoadRead, ARB_LOAD_READ (R6)
  (∀ (port : Fin 2) (b : Fin 9) (s : State),
    ∀ r,
    s.regAt (A_ARB_LOAD b) = some r →
    (s.clearsNow port (A_ARB_LOAD b) r) →
    exec (.arbLoadRead port b) s = .next ((s.clearRead (A_ARB_LOAD b) r).setOut port (le 4 (s.shown (A_ARB_LOAD b))))) ∧
  -- jwUseRead, JW_USE_READ (R6)
  (∀ (port : Fin 2) (s : State),
    exec (.jwUseRead port) s = .next (s.portRead port A_KEY_JW_USE)) ∧
  -- jwUseRead, JW_USE_READ (R6)
  (∀ (port : Fin 2) (s : State),
    ∀ r,
    s.regAt A_KEY_JW_USE = some r →
    (s.readsNow port A_KEY_JW_USE r) →
    exec (.jwUseRead port) s = .next ((s.updKey (fun k => { k with used := upd k.used (s.get KEY_JW_SEL_JEWEL) (fun _ => 0), refused := upd k.refused (s.get KEY_JW_SEL_JEWEL) (fun _ => 0) })).setOut port (le 4 (s.shown A_KEY_JW_USE)))) ∧
  -- drbgRead, DRBG_READ (R6)
  (∀ (port : Fin 2) (s : State),
    exec (.drbgRead port) s = .next (s.portRead port A_KEY_DRBG)) ∧
  -- drbgRead, DRBG_READ (R6)
  (∀ (port : Fin 2) (s : State),
    ∀ r,
    s.regAt A_KEY_DRBG = some r →
    (s.clearsNow port A_KEY_DRBG r) →
    exec (.drbgRead port) s = .next ((s.clearRead A_KEY_DRBG r).setOut port (le 4 (s.shown A_KEY_DRBG)))) ∧
  -- pwrVauxRead, PWR_VAUX_READ (R6)
  (∀ (port : Fin 2) (s : State),
    exec (.pwrVauxRead port) s = .next (s.portRead port A_PWR_VAUX)) ∧
  -- pwrVauxRead, PWR_VAUX_READ (R6)
  (∀ (port : Fin 2) (s : State),
    ∀ r,
    s.regAt A_PWR_VAUX = some r →
    (s.clearsNow port A_PWR_VAUX r) →
    exec (.pwrVauxRead port) s = .next ((s.clearRead A_PWR_VAUX r).setOut port (le 4 (s.shown A_PWR_VAUX)))) ∧
  -- pwrDipsRead, PWR_DIPS_READ (R6)
  (∀ (port : Fin 2) (s : State),
    exec (.pwrDipsRead port) s = .next (s.portRead port A_PWR_DIPS)) ∧
  -- pwrDipsRead, PWR_DIPS_READ (R6)
  (∀ (port : Fin 2) (s : State),
    ∀ r,
    s.regAt A_PWR_DIPS = some r →
    (s.clearsNow port A_PWR_DIPS r) →
    exec (.pwrDipsRead port) s = .next ((s.clearRead A_PWR_DIPS r).setOut port (le 4 (s.shown A_PWR_DIPS)))) ∧
  -- fltStatusRead, FLT_STATUS_READ (R6)
  (∀ (port : Fin 2) (s : State),
    exec (.fltStatusRead port) s = .next (s.portRead port A_FLT_STATUS)) ∧
  -- fltStatusRead, FLT_STATUS_READ (R6)
  (∀ (port : Fin 2) (s : State),
    ∀ r,
    s.regAt A_FLT_STATUS = some r →
    (s.clearsNow port A_FLT_STATUS r) →
    exec (.fltStatusRead port) s = .next ((s.clearRead A_FLT_STATUS r).setOut port (le 4 (s.shown A_FLT_STATUS)))) ∧
  -- fltCountRead, FLT_COUNT_READ (R6)
  (∀ (port : Fin 2) (s : State),
    exec (.fltCountRead port) s = .next (s.portRead port A_FLT_COUNT)) ∧
  -- fltCountRead, FLT_COUNT_READ (R6)
  (∀ (port : Fin 2) (s : State),
    ∀ r,
    s.regAt A_FLT_COUNT = some r →
    (s.clearsNow port A_FLT_COUNT r) →
    exec (.fltCountRead port) s = .next ((s.clearRead A_FLT_COUNT r).setOut port (le 4 (s.shown A_FLT_COUNT)))) ∧
  -- wideWord0Read, WIDE_WORD0_READ (R18)
  (∀ (port : Fin 2) (addr : BitVec 32) (s : State),
    ∀ r,
    findRow addr.toNat regRows = some r →
    (r.words = 4 ∧ (addr.toNat - r.base) % r.s1 % r.s2 = 0) →
    exec (.wideWord0Read port addr) s = .next (s.portRead port addr.toNat)) ∧
  -- wideWord0Read, WIDE_WORD0_READ (R18)
  (∀ (port : Fin 2) (addr : BitVec 32) (s : State),
    ∀ r,
    findRow addr.toNat regRows = some r →
    (r.words = 4 ∧ (addr.toNat - r.base) % r.s1 % r.s2 = 0 ∧ addr.toNat < 0x100000) →
    (s.latchesNow port addr.toNat r [addr.toNat + 4, addr.toNat + 8, addr.toNat + 12]) →
    (addr.toNat ≠ A_GLB_POLL ∧ addr.toNat ≠ A_KEY_JW_USE ∧ intervalAt addr.toNat = none) →
    exec (.wideWord0Read port addr) s = .next ((s.latch port [addr.toNat + 4, addr.toNat + 8, addr.toNat + 12]).setOut port (le 4 (s.shown addr.toNat)))) ∧
  -- RC fields restart at their reset values, the other bits stay (R6)
  (∀ (s : State) (a : Nat) (r : RegRow), s.host.view = none →
    s.clearRead a r = s.wrN a (clearMask (s.rdN a) r.rc + (r.reset &&& r.rc)))

/-- Frames of load channels, outlets, protection, vehicles and machine safety: where exec answers a next state it differs from
the old one at most in the registers, the fault log and the parts named in the clause (the unit the command belongs to); the
queue, every byte of the Mainplate and every other part of the machine are unchanged. Commands: PILOT_PERIOD_START,
PILOT_STATE_RECOGNISED, DEFERRED_ALLOCATION, PILOT_INVALID, PILOT_F_HOLD_END, PROXIMITY_MEASURE, PP_INVALID, SLAC_PARAM_REQ,
MNBC_SOUND, SLAC_MATCH, SDP_REQUEST, TLS_PK_TIMEOUT, AUTH_TIMEOUT, PREAUTH_EXPIRY, SUSPEND_OPEN_EXPIRY, STOP_LATE,
V2G_STOP_TIMEOUT, DC_STOP_OPEN, SETPOINT_FRAME, CAN_BUS_OFF, BUS_OFF_RECOVERY, CLOSE_TIMEOUT, VMATCH_TIMEOUT, AUX_MISMATCH,
RDC_TRIP, RDC_LOCK_RELEASE, INSULATION_DWELL_END, OC_INST, OVERVOLT, CONNECTOR_LATCH_CLEAR, HOLD_RETRY, LATCH_TIMEOUT,
PROT_BLIND, DISCREPANCY_TIMEOUT, TEST_PULSE, PATH_DISAGREE, LOCK_FAULT, SO_OFF_PULSE, SO_OVERLOAD, EDM_TIMEOUT,
SAFETY_UNLOCK_EXPIRY, PWD_LOCKOUT_EXPIRY, LC_INRUSH_END, LC_CURRENT_LIMIT_CUTOFF, LC_THERMAL_LATCH, LC_THERMAL_RELEASE,
LC_RETRY, LC_RETRY_REFILL, LC_CLAMP_EVENT, LC_OPEN_LOAD, LC_OPEN_LOAD_CLEAR, LC_STUCK, MOTOR_STALL, MOTOR_RUN_TIMEOUT,
MOTOR_BRAKE_END, LC_SHED, ISNS_SELECTION_CHANGE. -/
def Obligations.OutletAndSafetyFrames : Prop :=
  (∀ (n : Fin 12) (vHigh vLow : Int) (duty : Nat) (s s1 : State), exec (.pilotPeriodStart n vHigh vLow duty) s = .next s1 →
      { s1 with regs := s.regs, flt := s.flt, lch := s.lch, outs := s.outs } = s) ∧
  (∀ (n : Fin 12) (s s1 : State), exec (.pilotStateRecognised n) s = .next s1 →
      { s1 with regs := s.regs, flt := s.flt, lch := s.lch, outs := s.outs } = s) ∧
  (∀ (n : Fin 12) (s s1 : State), exec (.deferredAllocation n) s = .next s1 →
      { s1 with regs := s.regs, flt := s.flt, lch := s.lch, outs := s.outs } = s) ∧
  (∀ (n : Fin 12) (s s1 : State), exec (.pilotInvalid n) s = .next s1 →
      { s1 with regs := s.regs, flt := s.flt, lch := s.lch, outs := s.outs } = s) ∧
  (∀ (n : Fin 12) (s s1 : State), exec (.pilotFHoldEnd n) s = .next s1 →
      { s1 with regs := s.regs, flt := s.flt, outs := s.outs } = s) ∧
  (∀ (n : Fin 12) (r : Nat) (s s1 : State), exec (.proximityMeasure n r) s = .next s1 →
      { s1 with regs := s.regs, flt := s.flt, lch := s.lch, outs := s.outs } = s) ∧
  (∀ (n : Fin 12) (s s1 : State), exec (.ppInvalid n) s = .next s1 →
      { s1 with regs := s.regs, flt := s.flt, lch := s.lch, outs := s.outs } = s) ∧
  (∀ (runId : Nat) (heard : List (Fin 12 × Nat)) (s s1 : State), exec (.slacParamReq runId heard) s = .next s1 →
      { s1 with regs := s.regs, flt := s.flt, outs := s.outs } = s) ∧
  (∀ (n : Fin 12) (runId atten : Nat) (s s1 : State), exec (.mnbcSound n runId atten) s = .next s1 →
      { s1 with regs := s.regs, flt := s.flt, outs := s.outs } = s) ∧
  (∀ (n : Fin 12) (runId : Nat) (s s1 : State), exec (.slacMatch n runId) s = .next s1 →
      { s1 with regs := s.regs, flt := s.flt, freeCtr := s.freeCtr, key := s.key, outs := s.outs, red := s.red } = s) ∧
  (∀ (n : Fin 12) (late : Bool) (s s1 : State), exec (.sdpRequest n late) s = .next s1 →
      { s1 with regs := s.regs, flt := s.flt, outs := s.outs } = s) ∧
  (∀ (n : Fin 12) (s s1 : State), exec (.tlsPkTimeout n) s = .next s1 →
      { s1 with regs := s.regs, flt := s.flt, key := s.key, outs := s.outs } = s) ∧
  (∀ (k : Fin 128) (s s1 : State), exec (.authTimeout k) s = .next s1 →
      { s1 with regs := s.regs, flt := s.flt, host := s.host, key := s.key, outs := s.outs } = s) ∧
  (∀ (n : Fin 12) (s s1 : State), exec (.preauthExpiry n) s = .next s1 →
      { s1 with regs := s.regs, flt := s.flt, outs := s.outs } = s) ∧
  (∀ (n : Fin 12) (s s1 : State), exec (.suspendOpenExpiry n) s = .next s1 →
      { s1 with regs := s.regs, flt := s.flt, outs := s.outs } = s) ∧
  (∀ (n : Fin 12) (s s1 : State), exec (.stopLate n) s = .next s1 →
      { s1 with regs := s.regs, flt := s.flt, outs := s.outs } = s) ∧
  (∀ (n : Fin 12) (s s1 : State), exec (.v2gStopTimeout n) s = .next s1 →
      { s1 with regs := s.regs, flt := s.flt, outs := s.outs } = s) ∧
  (∀ (n : Fin 12) (s s1 : State), exec (.dcStopOpen n) s = .next s1 →
      { s1 with regs := s.regs, flt := s.flt, outs := s.outs } = s) ∧
  (∀ (c : Fin 4) (k : Fin 2) (s s1 : State), exec (.setpointFrame c k) s = .next s1 →
      { s1 with regs := s.regs, flt := s.flt, gov := s.gov, outs := s.outs } = s) ∧
  (∀ (c : Fin 4) (s s1 : State), exec (.canBusOff c) s = .next s1 →
      { s1 with regs := s.regs, flt := s.flt, lch := s.lch, outs := s.outs } = s) ∧
  (∀ (c : Fin 4) (s s1 : State), exec (.busOffRecovery c) s = .next s1 →
      { s1 with regs := s.regs, flt := s.flt, outs := s.outs } = s) ∧
  (∀ (n : Fin 12) (s s1 : State), exec (.closeTimeout n) s = .next s1 →
      { s1 with regs := s.regs, flt := s.flt, lch := s.lch, outs := s.outs } = s) ∧
  (∀ (n : Fin 12) (s s1 : State), exec (.vmatchTimeout n) s = .next s1 →
      { s1 with regs := s.regs, flt := s.flt, lch := s.lch, outs := s.outs } = s) ∧
  (∀ (n : Fin 12) (s s1 : State), exec (.auxMismatch n) s = .next s1 →
      { s1 with regs := s.regs, flt := s.flt, esc := s.esc, lch := s.lch, outs := s.outs, saf := s.saf } = s) ∧
  (∀ (n : Fin 12) (ac : Bool) (k : Fin 8) (s s1 : State), exec (.rdcTrip n ac k) s = .next s1 →
      { s1 with regs := s.regs, flt := s.flt, esc := s.esc, lch := s.lch, outs := s.outs, saf := s.saf } = s) ∧
  (∀ (n : Fin 12) (s s1 : State), exec (.rdcLockRelease n) s = .next s1 →
      { s1 with regs := s.regs, flt := s.flt } = s) ∧
  (∀ (n : Fin 12) (_vp _vn : Unit) (s s1 : State), exec (.insulationDwellEnd n _vp _vn) s = .next s1 →
      { s1 with regs := s.regs, flt := s.flt, lch := s.lch, outs := s.outs } = s) ∧
  (∀ (n : Fin 12) (s s1 : State), exec (.ocInst n) s = .next s1 →
      { s1 with regs := s.regs, flt := s.flt, esc := s.esc, lch := s.lch, outs := s.outs, saf := s.saf } = s) ∧
  (∀ (n : Fin 12) (s s1 : State), exec (.overvolt n) s = .next s1 →
      { s1 with regs := s.regs, flt := s.flt, esc := s.esc, lch := s.lch, outs := s.outs, saf := s.saf } = s) ∧
  (∀ (n : Fin 12) (s s1 : State), exec (.connectorLatchClear n) s = .next s1 →
      { s1 with regs := s.regs, flt := s.flt } = s) ∧
  (∀ (n : Fin 12) (s s1 : State), exec (.holdRetry n) s = .next s1 →
      { s1 with regs := s.regs, flt := s.flt, outs := s.outs } = s) ∧
  (∀ (n : Fin 12) (s s1 : State), exec (.latchTimeout n) s = .next s1 →
      { s1 with regs := s.regs, flt := s.flt, lch := s.lch, outs := s.outs } = s) ∧
  (∀ (n : Fin 12) (s s1 : State), exec (.protBlind n) s = .next s1 →
      { s1 with regs := s.regs, flt := s.flt, esc := s.esc, lch := s.lch, outs := s.outs, saf := s.saf } = s) ∧
  (∀ (k : Fin 8) (s s1 : State), exec (.discrepancyTimeout k) s = .next s1 →
      { s1 with regs := s.regs, flt := s.flt, saf := s.saf } = s) ∧
  (∀ (st : Fin 4) (readback : Bool) (bad : Nat) (s s1 : State), exec (.testPulse st readback bad) s = .next s1 →
      { s1 with regs := s.regs, flt := s.flt, saf := s.saf } = s) ∧
  (∀ (k : Fin 8) (s s1 : State), exec (.pathDisagree k) s = .next s1 →
      { s1 with regs := s.regs, flt := s.flt, saf := s.saf } = s) ∧
  (∀ (k : Fin 8) (s s1 : State), exec (.lockFault k) s = .next s1 →
      { s1 with regs := s.regs, flt := s.flt, saf := s.saf } = s) ∧
  (∀ (k : Fin 24) (low restored : Bool) (vauxMv : Nat) (s s1 : State), exec (.soOffPulse k low restored vauxMv) s = .next s1 →
      { s1 with regs := s.regs, flt := s.flt, saf := s.saf } = s) ∧
  (∀ (k : Fin 24) (mA : Nat) (s s1 : State), exec (.soOverload k mA) s = .next s1 →
      { s1 with regs := s.regs, flt := s.flt, saf := s.saf } = s) ∧
  (∀ (p : Fin 12) (s s1 : State), exec (.edmTimeout p) s = .next s1 →
      { s1 with regs := s.regs, flt := s.flt, saf := s.saf } = s) ∧
  (∀ (s s1 : State), exec .safetyUnlockExpiry s = .next s1 →
      { s1 with regs := s.regs, flt := s.flt, saf := s.saf } = s) ∧
  (∀ (s s1 : State), exec .pwdLockoutExpiry s = .next s1 →
      { s1 with regs := s.regs, flt := s.flt, saf := s.saf } = s) ∧
  (∀ (k : Fin 16) (vOut vaux : Int) (s s1 : State), exec (.lcInrushEnd k vOut vaux) s = .next s1 →
      { s1 with regs := s.regs, flt := s.flt, host := s.host, lch := s.lch } = s) ∧
  (∀ (k : Fin 16) (held : Nat) (s s1 : State), exec (.lcCurrentLimitCutoff k held) s = .next s1 →
      { s1 with regs := s.regs, flt := s.flt, host := s.host, lch := s.lch } = s) ∧
  (∀ (k : Fin 16) (temp : Int) (s s1 : State), exec (.lcThermalLatch k temp) s = .next s1 →
      { s1 with regs := s.regs, flt := s.flt, host := s.host, lch := s.lch } = s) ∧
  (∀ (k : Fin 16) (temp : Int) (s s1 : State), exec (.lcThermalRelease k temp) s = .next s1 →
      { s1 with regs := s.regs, flt := s.flt, lch := s.lch } = s) ∧
  (∀ (k : Fin 16) (s s1 : State), exec (.lcRetry k) s = .next s1 →
      { s1 with regs := s.regs, flt := s.flt, lch := s.lch } = s) ∧
  (∀ (k : Fin 16) (s s1 : State), exec (.lcRetryRefill k) s = .next s1 →
      { s1 with regs := s.regs, flt := s.flt } = s) ∧
  (∀ (k : Fin 16) (e : Nat) (s s1 : State), exec (.lcClampEvent k e) s = .next s1 →
      { s1 with regs := s.regs, flt := s.flt, host := s.host, lch := s.lch } = s) ∧
  (∀ (k : Fin 16) (iUa vauxMv : Nat) (s s1 : State), exec (.lcOpenLoad k iUa vauxMv) s = .next s1 →
      { s1 with regs := s.regs, flt := s.flt } = s) ∧
  (∀ (k : Fin 16) (o : OpenObs) (s s1 : State), exec (.lcOpenLoadClear k o) s = .next s1 →
      { s1 with regs := s.regs, flt := s.flt } = s) ∧
  (∀ (k : Fin 16) (vOut vaux : Int) (s s1 : State), exec (.lcStuck k vOut vaux) s = .next s1 →
      { s1 with regs := s.regs, flt := s.flt, lch := s.lch } = s) ∧
  (∀ (j : Fin 4) (i held : Nat) (s s1 : State), exec (.motorStall j i held) s = .next s1 →
      { s1 with regs := s.regs, flt := s.flt, lch := s.lch } = s) ∧
  (∀ (j : Fin 4) (s s1 : State), exec (.motorRunTimeout j) s = .next s1 →
      { s1 with regs := s.regs, flt := s.flt, lch := s.lch } = s) ∧
  (∀ (j : Fin 4) (s s1 : State), exec (.motorBrakeEnd j) s = .next s1 →
      { s1 with regs := s.regs, flt := s.flt, host := s.host, lch := s.lch } = s) ∧
  (∀ (_x _y z : Unit) (s s1 : State), exec (.lcShed _x _y z) s = .next s1 →
      { s1 with regs := s.regs, flt := s.flt, host := s.host, lch := s.lch } = s) ∧
  (∀ (sel : Fin 16) (s s1 : State), exec (.isnsSelectionChange sel) s = .next s1 →
      { s1 with regs := s.regs, flt := s.flt, lch := s.lch } = s)

/-- Frames of metering, the legal chain, sensing, placement, the Escapement, lanes and ageing: where exec answers a next state
it differs from the old one at most in the registers, the fault log and the parts named in the clause (the unit the command
belongs to); the queue, every byte of the Mainplate and every other part of the machine are unchanged. Commands:
ESSENTIAL_OVERRUN, CMD_LATE, CORE_WATCHDOG_EXPIRY, SRAM_ECC_UNCORRECTABLE, COMPLICATION_POST, COMPLICATION_OVERRUN,
LANE_TEMP_SAMPLE, BUDGET_PUBLISH, IB_STUCK, IBCLK_FAULT, SWING_IN_START, SWING_RETRY, MODULATOR_FAILED, KNOWN_STATE_WINDOW,
KS_STALE, LINK_DEGRADED, METER_NOREF, PULSE_START, PULSE_END, DELTA_SAVE, FULL_SAVE, INTERVAL_READ, KEYPAD_ENTRY_TIMEOUT,
LEGAL_SHOW_STEP, CHRONO_SECOND, DEMAND_INTERVAL_END, DEMAND_SUBINTERVAL_END, BILLING_PERIOD_END, TARIFF_SWITCH,
TAMPER_COVER_OPEN, TAMPER_DOOR_OPEN, TAMPER_MAGNETIC, LEGAL_WRITE_REFUSED, TAMPER_B_START, TAMPER_B_END,
ACCOUNT_RECORD_COMMIT, ISLAND_EXIT, BATTERY_DATA_STALE, PRICE_STALE, SITE_LIMIT_EXPIRY, MIN_OFF_EXPIRY, SHARE_PERIOD_START,
SHARE_LOWER_TIMEOUT, PARTNER_LOST, PARTNER_FAILSAFE, JOURNAL_ACK, LANE_RESET_RELEASE, RESYNC_RETRY, TOURBILLON_DUE,
SWAP_WAIT_TIMEOUT, SLACK_SAMPLE, HOURLY_RECORD, CLOCK_STEP_APPLY, CLOCK_STEP_CHECK_DONE, COMP_MASK, RESERVE_TIGHTEN,
ESC_PLAN_INFO, RED_SWAP_TIMEOUT, TAMPER_CLOSED_READING. -/
def Obligations.LegalAndSenseFrames : Prop :=
  (∀ (lane : Fin 2) (s s1 : State), exec (.essentialOverrun lane) s = .next s1 →
      { s1 with regs := s.regs, flt := s.flt, esc := s.esc, red := s.red } = s) ∧
  (∀ (s s1 : State), exec .cmdLate s = .next s1 →
      { s1 with regs := s.regs, flt := s.flt, esc := s.esc, red := s.red } = s) ∧
  (∀ (lane : Fin 2) (s s1 : State), exec (.coreWatchdogExpiry lane) s = .next s1 →
      { s1 with regs := s.regs, flt := s.flt, red := s.red } = s) ∧
  (∀ (lane : Fin 2) (s s1 : State), exec (.sramEccUncorrectable lane) s = .next s1 →
      { s1 with regs := s.regs, flt := s.flt, red := s.red } = s) ∧
  (∀ (lane : Fin 2) (kind : Fin 8) (cost latest subject : Nat) (s s1 : State), exec (.complicationPost lane kind cost latest subject) s = .next s1 →
      { s1 with regs := s.regs, flt := s.flt, esc := s.esc } = s) ∧
  (∀ (lane : Fin 2) (kind : Fin 8) (subject : Nat) (s s1 : State), exec (.complicationOverrun lane kind subject) s = .next s1 →
      { s1 with regs := s.regs, flt := s.flt, esc := s.esc } = s) ∧
  (∀ (a b : List Int) (caseT : Int) (aux : Nat) (s s1 : State), exec (.laneTempSample a b caseT aux) s = .next s1 →
      { s1 with regs := s.regs, flt := s.flt, esc := s.esc, wear := s.wear } = s) ∧
  (∀ (s s1 : State), exec .budgetPublish s = .next s1 →
      { s1 with regs := s.regs, flt := s.flt, esc := s.esc } = s) ∧
  (∀ (n : Fin 64) (s s1 : State), exec (.ibStuck n) s = .next s1 →
      { s1 with regs := s.regs, flt := s.flt, sns := s.sns } = s) ∧
  (∀ (k : Fin 8) (differs : Bool) (s s1 : State), exec (.ibclkFault k differs) s = .next s1 →
      { s1 with regs := s.regs, flt := s.flt } = s) ∧
  (∀ (n : Fin 128) (high : Bool) (spare : Fin 72) (s s1 : State), exec (.swingInStart n high spare) s = .next s1 →
      { s1 with regs := s.regs, flt := s.flt, sns := s.sns } = s) ∧
  (∀ (n : Fin 128) (high : Bool) (spare : Fin 72) (s s1 : State), exec (.swingRetry n high spare) s = .next s1 →
      { s1 with regs := s.regs, flt := s.flt, sns := s.sns } = s) ∧
  (∀ (k spare : Fin 72) (s s1 : State), exec (.modulatorFailed k spare) s = .next s1 →
      { s1 with regs := s.regs, flt := s.flt, sns := s.sns } = s) ∧
  (∀ (n : Fin 128) (s s1 : State), exec (.knownStateWindow n) s = .next s1 →
      { s1 with regs := s.regs, flt := s.flt, sns := s.sns } = s) ∧
  (∀ (n : Fin 128) (s s1 : State), exec (.ksStale n) s = .next s1 →
      { s1 with regs := s.regs, flt := s.flt } = s) ∧
  (∀ (lane : Fin 2) (s s1 : State), exec (.linkDegraded lane) s = .next s1 →
      { s1 with regs := s.regs, flt := s.flt, red := s.red } = s) ∧
  (∀ (m : Fin 32) (s s1 : State), exec (.meterNoref m) s = .next s1 →
      { s1 with regs := s.regs, flt := s.flt, lgl := s.lgl, mtr := s.mtr } = s) ∧
  (∀ (k : Fin 4) (s s1 : State), exec (.pulseStart k) s = .next s1 →
      { s1 with regs := s.regs, flt := s.flt, mtr := s.mtr } = s) ∧
  (∀ (k : Fin 4) (s s1 : State), exec (.pulseEnd k) s = .next s1 →
      { s1 with regs := s.regs, flt := s.flt, mtr := s.mtr } = s) ∧
  (∀ (s s1 : State), exec .deltaSave s = .next s1 →
      { s1 with regs := s.regs, flt := s.flt, esc := s.esc, freeCtr := s.freeCtr, mtr := s.mtr } = s) ∧
  (∀ (ok : Bool) (s s1 : State), exec (.fullSave ok) s = .next s1 →
      { s1 with regs := s.regs, flt := s.flt, esc := s.esc, mtr := s.mtr } = s) ∧
  (∀ (port : Fin 2) (m : Fin 32) (q : Fin 11) (s s1 : State), exec (.intervalRead port m q) s = .next s1 →
      { s1 with regs := s.regs, flt := s.flt, host := s.host, mtr := s.mtr } = s) ∧
  (∀ (s s1 : State), exec .keypadEntryTimeout s = .next s1 →
      { s1 with regs := s.regs, flt := s.flt, lgl := s.lgl } = s) ∧
  (∀ (s s1 : State), exec .legalShowStep s = .next s1 →
      { s1 with regs := s.regs, flt := s.flt, lgl := s.lgl } = s) ∧
  (∀ (comp : Int) (s s1 : State), exec (.chronoSecond comp) s = .next s1 →
      { s1 with regs := s.regs, flt := s.flt, lgl := s.lgl } = s) ∧
  (∀ (s s1 : State), exec .demandIntervalEnd s = .next s1 →
      { s1 with regs := s.regs, flt := s.flt, esc := s.esc, lgl := s.lgl } = s) ∧
  (∀ (s s1 : State), exec .demandSubintervalEnd s = .next s1 →
      { s1 with regs := s.regs, flt := s.flt, esc := s.esc, lgl := s.lgl } = s) ∧
  (∀ (s s1 : State), exec .billingPeriodEnd s = .next s1 →
      { s1 with regs := s.regs, flt := s.flt, esc := s.esc, lgl := s.lgl } = s) ∧
  (∀ (k : Fin 8) (s s1 : State), exec (.tariffSwitch k) s = .next s1 →
      { s1 with regs := s.regs, flt := s.flt, esc := s.esc, lgl := s.lgl } = s) ∧
  (∀ (s s1 : State), exec .tamperCoverOpen s = .next s1 →
      { s1 with regs := s.regs, flt := s.flt, lgl := s.lgl } = s) ∧
  (∀ (s s1 : State), exec .tamperDoorOpen s = .next s1 →
      { s1 with regs := s.regs, flt := s.flt, lgl := s.lgl } = s) ∧
  (∀ (mT ms : Nat) (s s1 : State), exec (.tamperMagnetic mT ms) s = .next s1 →
      { s1 with regs := s.regs, flt := s.flt, lgl := s.lgl } = s) ∧
  (∀ (s s1 : State), exec .legalWriteRefused s = .next s1 →
      { s1 with regs := s.regs, flt := s.flt, lgl := s.lgl } = s) ∧
  (∀ (m : Fin 32) (kind phase : Fin 3) (s s1 : State), exec (.tamperBStart m kind phase) s = .next s1 →
      { s1 with regs := s.regs, flt := s.flt, lgl := s.lgl } = s) ∧
  (∀ (m : Fin 32) (kind phase : Fin 3) (s s1 : State), exec (.tamperBEnd m kind phase) s = .next s1 →
      { s1 with regs := s.regs, flt := s.flt, lgl := s.lgl } = s) ∧
  (∀ (a : Fin 16) (ok : Bool) (s s1 : State), exec (.accountRecordCommit a ok) s = .next s1 →
      { s1 with regs := s.regs, flt := s.flt, host := s.host, lgl := s.lgl } = s) ∧
  (∀ (s s1 : State), exec .islandExit s = .next s1 →
      { s1 with regs := s.regs, flt := s.flt, gov := s.gov } = s) ∧
  (∀ (s s1 : State), exec .batteryDataStale s = .next s1 →
      { s1 with regs := s.regs, flt := s.flt, gov := s.gov } = s) ∧
  (∀ (s s1 : State), exec .priceStale s = .next s1 →
      { s1 with regs := s.regs, flt := s.flt, gov := s.gov } = s) ∧
  (∀ (s s1 : State), exec .siteLimitExpiry s = .next s1 →
      { s1 with regs := s.regs, flt := s.flt, gov := s.gov } = s) ∧
  (∀ (k : Fin 128) (s s1 : State), exec (.minOffExpiry k) s = .next s1 →
      { s1 with regs := s.regs, flt := s.flt, outs := s.outs } = s) ∧
  (∀ (s s1 : State), exec .sharePeriodStart s = .next s1 →
      { s1 with regs := s.regs, flt := s.flt, gov := s.gov } = s) ∧
  (∀ (k : Fin 255) (s s1 : State), exec (.shareLowerTimeout k) s = .next s1 →
      { s1 with regs := s.regs, flt := s.flt, gov := s.gov, sit := s.sit } = s) ∧
  (∀ (k : Fin 255) (s s1 : State), exec (.partnerLost k) s = .next s1 →
      { s1 with regs := s.regs, flt := s.flt, gov := s.gov } = s) ∧
  (∀ (s s1 : State), exec .partnerFailsafe s = .next s1 →
      { s1 with regs := s.regs, flt := s.flt, gov := s.gov } = s) ∧
  (∀ (jseq : Nat) (s s1 : State), exec (.journalAck jseq) s = .next s1 →
      { s1 with regs := s.regs, flt := s.flt, red := s.red } = s) ∧
  (∀ (lane : Fin 2) (s s1 : State), exec (.laneResetRelease lane) s = .next s1 →
      { s1 with regs := s.regs, flt := s.flt, red := s.red } = s) ∧
  (∀ (lane : Fin 2) (s s1 : State), exec (.resyncRetry lane) s = .next s1 →
      { s1 with regs := s.regs, flt := s.flt, red := s.red } = s) ∧
  (∀ (s s1 : State), exec .tourbillonDue s = .next s1 →
      { s1 with regs := s.regs, flt := s.flt, red := s.red } = s) ∧
  (∀ (s s1 : State), exec .swapWaitTimeout s = .next s1 →
      { s1 with regs := s.regs, flt := s.flt, red := s.red } = s) ∧
  (∀ (a b : Int) (leakA leakB : Nat) (s s1 : State), exec (.slackSample a b leakA leakB) s = .next s1 →
      { s1 with regs := s.regs, flt := s.flt, red := s.red, wear := s.wear } = s) ∧
  (∀ (noise mram flash : Nat) (bad : Bool) (s s1 : State), exec (.hourlyRecord noise mram flash bad) s = .next s1 →
      { s1 with regs := s.regs, flt := s.flt, red := s.red, wear := s.wear } = s) ∧
  (∀ (lane : Fin 2) (s s1 : State), exec (.clockStepApply lane) s = .next s1 →
      { s1 with regs := s.regs, flt := s.flt, esc := s.esc, wear := s.wear } = s) ∧
  (∀ (lane : Fin 2) (s s1 : State), exec (.clockStepCheckDone lane) s = .next s1 →
      { s1 with regs := s.regs, flt := s.flt, red := s.red, wear := s.wear } = s) ∧
  (∀ (mb : Fin 8) (s s1 : State), exec (.compMask mb) s = .next s1 →
      { s1 with regs := s.regs, flt := s.flt, esc := s.esc, host := s.host } = s) ∧
  (∀ (mb : Fin 8) (s s1 : State), exec (.reserveTighten mb) s = .next s1 →
      { s1 with regs := s.regs, flt := s.flt, esc := s.esc, host := s.host } = s) ∧
  (∀ (mb : Fin 8) (s s1 : State), exec (.escPlanInfo mb) s = .next s1 →
      { s1 with regs := s.regs, flt := s.flt, esc := s.esc, host := s.host } = s) ∧
  (∀ (s s1 : State), exec .redSwapTimeout s = .next s1 →
      { s1 with regs := s.regs, flt := s.flt, host := s.host, red := s.red } = s) ∧
  (∀ (door : Bool) (s s1 : State), exec (.tamperClosedReading door) s = .next s1 →
      { s1 with regs := s.regs, flt := s.flt, lgl := s.lgl } = s)

/-- Frames of the site line, the bezel, reader and tag, Mainplate, keys, updates, power and host port: where exec answers a
next state it differs from the old one at most in the registers, the fault log and the parts named in the clause (the unit the
command belongs to); the queue, every byte of the Mainplate and every other part of the machine are unchanged. Commands:
BEZEL_PULSE_END, BEZEL_REST_END, BEZEL_RAIL_RESUME, BEZEL_DROP_REPOST, BEZEL_RECOVERY, READER_POLL, CARD_PRESENCE_CHECK,
ISO_DEP_TIMEOUT, TAG_FIELD_ON, TAG_FIELD_LOSS, TAG_REQA, TAG_WUPA, TAG_ANTICOLLISION, TAG_SELECT, TAG_HLTA, TAG_DESELECT,
GET_INFO, READ_BLOCK, WRITE_BLOCK, READ_COUNTER, INCR_COUNTER, PWD_AUTH, AUTH_END, TAG_WRITE_COMMIT, TAG_SILENCE_END,
TAG_TXN_IDLE_TIMEOUT, TAG_SCRUB, FAULT_MIRROR_WRITE, TAG_HOST_LOCK_WRITE, MAINS_ZERO_CROSSING, ZC_LOST, BEAT_FRAME_START,
BEAT_FRAME_RECEIVED, OFDM_FRAME_START, OFDM_DATA_FRAME, OFDM_ACK_FRAME, OFDM_ACK_TIMEOUT, PROBE_FRAME, LINK_REPORT_SEND,
LINK_EXPIRY, PARTNER_REPORT_SEND, ANNOUNCE_SEND, SITE_MESSAGE_RETRY, NO_PRIVILEGED, REPORT, SHARE, SHARE_ACK, METER_INFO,
LINK_REPORT, TONE_MAP, ANNOUNCE, HOST_DATA, E2E_ACK, HOST_WRITE, HOST_WRITE_CRC, HOST_PROTOCOL_ERROR, HOST_WATCHDOG,
INTERIM_REPLY, DB_OUT_SET_WRITE, MAINPLATE_REQUEST, BACKOFF_END, MASTER_CUTOFF, ARB_CUTOFF_CLEAR, SCRUB_PASS_END, SCRUB_LAG,
SPARE_COPY_DONE, HACK_SET, HACK_CLEAR, HACK_TIMEOUT, DMA_START, DMA_PAUSE, DMA_RESUME, DMA_ABORT, DMA_DEADLINE,
SVC_CHALLENGE_EXPIRY, SVC_LOCKOUT_END, SERVICE_WORLD_TIMEOUT, EPHEMERAL_JEWEL_CLEAR, ENTROPY_TEST_FAIL, ENTROPY_RECOVERY,
DRBG_RESEED, UPDATE_LOAD_COMMIT, UPDATE_RESTORE_DONE, GP_FW_DEFERRED_START, REC_FIRST_PART, REC_FURTHER_PART,
REC_CHECK_DIRECTORY, WARNING_WITHDRAWN, VSYS_TO_HOLD, CP_SUPPLY_OUT, HOLD_LOW, VBAT_LOW, REF_CLOCK_MEASURE, CHRONO_XTAL_STOP,
CHRONO_XTAL_RESTORE, KEY_PUBLIC, REMONTOIRE_ON, REMONTOIRE_OFF, RAIL_BACK_IN_RANGE, PERIPH_CLOCK_RETURN, PREAMBLE_LOST,
SEXTANT_START. -/
def Obligations.LineAndStoreFrames : Prop :=
  (∀ (charge : Nat) (s s1 : State), exec (.bezelPulseEnd charge) s = .next s1 →
      { s1 with regs := s.regs, flt := s.flt, bzl := s.bzl, host := s.host, outs := s.outs, red := s.red, sit := s.sit } = s) ∧
  (∀ (s s1 : State), exec .bezelRestEnd s = .next s1 →
      { s1 with regs := s.regs, flt := s.flt, bzl := s.bzl, host := s.host } = s) ∧
  (∀ (rails : List Nat) (s s1 : State), exec (.bezelRailResume rails) s = .next s1 →
      { s1 with regs := s.regs, flt := s.flt, bzl := s.bzl } = s) ∧
  (∀ (s s1 : State), exec .bezelDropRepost s = .next s1 →
      { s1 with regs := s.regs, flt := s.flt, bzl := s.bzl, esc := s.esc } = s) ∧
  (∀ (s s1 : State), exec .bezelRecovery s = .next s1 →
      { s1 with regs := s.regs, flt := s.flt, bzl := s.bzl } = s) ∧
  (∀ (card : Option CardObs) (driveOk : Bool) (s s1 : State), exec (.readerPoll card driveOk) s = .next s1 →
      { s1 with regs := s.regs, flt := s.flt, nfc := s.nfc } = s) ∧
  (∀ (answered : Bool) (s s1 : State), exec (.cardPresenceCheck answered) s = .next s1 →
      { s1 with regs := s.regs, flt := s.flt, nfc := s.nfc } = s) ∧
  (∀ (s s1 : State), exec .isoDepTimeout s = .next s1 →
      { s1 with regs := s.regs, flt := s.flt, host := s.host, nfc := s.nfc } = s) ∧
  (∀ (s s1 : State), exec .tagFieldOn s = .next s1 →
      { s1 with regs := s.regs, flt := s.flt } = s) ∧
  (∀ (s s1 : State), exec .tagFieldLoss s = .next s1 →
      { s1 with regs := s.regs, flt := s.flt, freeCtr := s.freeCtr, nfc := s.nfc } = s) ∧
  (∀ (s s1 : State), exec .tagReqa s = .next s1 →
      { s1 with regs := s.regs, flt := s.flt, host := s.host, nfc := s.nfc } = s) ∧
  (∀ (s s1 : State), exec .tagWupa s = .next s1 →
      { s1 with regs := s.regs, flt := s.flt, host := s.host, nfc := s.nfc } = s) ∧
  (∀ (s s1 : State), exec .tagAnticollision s = .next s1 →
      { s1 with regs := s.regs, flt := s.flt, host := s.host, nfc := s.nfc } = s) ∧
  (∀ (s s1 : State), exec .tagSelect s = .next s1 →
      { s1 with regs := s.regs, flt := s.flt, host := s.host, nfc := s.nfc } = s) ∧
  (∀ (s s1 : State), exec .tagHlta s = .next s1 →
      { s1 with regs := s.regs, flt := s.flt, nfc := s.nfc } = s) ∧
  (∀ (s s1 : State), exec .tagDeselect s = .next s1 →
      { s1 with regs := s.regs, flt := s.flt, nfc := s.nfc } = s) ∧
  (∀ (f : CrownFrame) (s s1 : State), exec (.getInfo f) s = .next s1 →
      { s1 with regs := s.regs, flt := s.flt, host := s.host, nfc := s.nfc } = s) ∧
  (∀ (f : CrownFrame) (block : BitVec 16) (s s1 : State), exec (.readBlock f block) s = .next s1 →
      { s1 with regs := s.regs, flt := s.flt, host := s.host, nfc := s.nfc } = s) ∧
  (∀ (f : CrownFrame) (block : BitVec 16) (data : BitVec 128) (reserve : Bool) (s s1 : State), exec (.writeBlock f block data reserve) s = .next s1 →
      { s1 with regs := s.regs, flt := s.flt, esc := s.esc, host := s.host, nfc := s.nfc } = s) ∧
  (∀ (f : CrownFrame) (k : BitVec 8) (s s1 : State), exec (.readCounter f k) s = .next s1 →
      { s1 with regs := s.regs, flt := s.flt, host := s.host, nfc := s.nfc } = s) ∧
  (∀ (f : CrownFrame) (k : BitVec 8) (inc : BitVec 24) (reserve : Bool) (s s1 : State), exec (.incrCounter f k inc reserve) s = .next s1 →
      { s1 with regs := s.regs, flt := s.flt, esc := s.esc, host := s.host, nfc := s.nfc } = s) ∧
  (∀ (f : CrownFrame) (pwd : BitVec 32) (s s1 : State), exec (.pwdAuth f pwd) s = .next s1 →
      { s1 with regs := s.regs, flt := s.flt, host := s.host, nfc := s.nfc } = s) ∧
  (∀ (f : CrownFrame) (resp : BitVec 128) (s s1 : State), exec (.authEnd f resp) s = .next s1 →
      { s1 with regs := s.regs, flt := s.flt, host := s.host, nfc := s.nfc } = s) ∧
  (∀ (failed : Fin 3) (s s1 : State), exec (.tagWriteCommit failed) s = .next s1 →
      { s1 with regs := s.regs, flt := s.flt, host := s.host, nfc := s.nfc } = s) ∧
  (∀ (s s1 : State), exec .tagSilenceEnd s = .next s1 →
      { s1 with regs := s.regs, flt := s.flt } = s) ∧
  (∀ (s s1 : State), exec .tagTxnIdleTimeout s = .next s1 →
      { s1 with regs := s.regs, flt := s.flt, nfc := s.nfc } = s) ∧
  (∀ (s s1 : State), exec .tagScrub s = .next s1 →
      { s1 with regs := s.regs, flt := s.flt, nfc := s.nfc } = s) ∧
  (∀ (s s1 : State), exec .faultMirrorWrite s = .next s1 →
      { s1 with regs := s.regs, flt := s.flt, nfc := s.nfc } = s) ∧
  (∀ (v : Bool) (s s1 : State), exec (.tagHostLockWrite v) s = .next s1 →
      { s1 with regs := s.regs, flt := s.flt, nfc := s.nfc } = s) ∧
  (∀ (p : Fin 3) (positive : Bool) (o : HalfObs) (s s1 : State), exec (.mainsZeroCrossing p positive o) s = .next s1 →
      { s1 with regs := s.regs, flt := s.flt, freeCtr := s.freeCtr, sit := s.sit } = s) ∧
  (∀ (p : Fin 3) (s s1 : State), exec (.zcLost p) s = .next s1 →
      { s1 with regs := s.regs, flt := s.flt, sit := s.sit } = s) ∧
  (∀ (p : Fin 3) (s s1 : State), exec (.beatFrameStart p) s = .next s1 →
      { s1 with regs := s.regs, flt := s.flt, sit := s.sit } = s) ∧
  (∀ (p : Fin 3) (s s1 : State), exec (.beatFrameReceived p) s = .next s1 →
      { s1 with regs := s.regs, flt := s.flt, sit := s.sit } = s) ∧
  (∀ (s s1 : State), exec .ofdmFrameStart s = .next s1 →
      { s1 with regs := s.regs, flt := s.flt, host := s.host, sit := s.sit } = s) ∧
  (∀ (fch : BitVec 48) (segs : List SegObs) (s s1 : State), exec (.ofdmDataFrame fch segs) s = .next s1 →
      { s1 with regs := s.regs, flt := s.flt, sit := s.sit } = s) ∧
  (∀ (fch : BitVec 48) (s s1 : State), exec (.ofdmAckFrame fch) s = .next s1 →
      { s1 with regs := s.regs, flt := s.flt, host := s.host, sit := s.sit } = s) ∧
  (∀ (s s1 : State), exec .ofdmAckTimeout s = .next s1 →
      { s1 with regs := s.regs, flt := s.flt, host := s.host, sit := s.sit } = s) ∧
  (∀ (k : Fin 16) (s s1 : State), exec (.probeFrame k) s = .next s1 →
      { s1 with regs := s.regs, flt := s.flt, sit := s.sit } = s) ∧
  (∀ (s s1 : State), exec .linkReportSend s = .next s1 →
      { s1 with regs := s.regs, flt := s.flt, sit := s.sit } = s) ∧
  (∀ (k : Fin 16) (s s1 : State), exec (.linkExpiry k) s = .next s1 →
      { s1 with regs := s.regs, flt := s.flt, sit := s.sit } = s) ∧
  (∀ (s s1 : State), exec .partnerReportSend s = .next s1 →
      { s1 with regs := s.regs, flt := s.flt, sit := s.sit } = s) ∧
  (∀ (s s1 : State), exec .announceSend s = .next s1 →
      { s1 with regs := s.regs, flt := s.flt, sit := s.sit } = s) ∧
  (∀ (s s1 : State), exec .siteMessageRetry s = .next s1 →
      { s1 with regs := s.regs, flt := s.flt, host := s.host, sit := s.sit } = s) ∧
  (∀ (s s1 : State), exec .noPrivileged s = .next s1 →
      { s1 with regs := s.regs, flt := s.flt, sit := s.sit } = s) ∧
  (∀ (s s1 : State), exec .report s = .next s1 →
      { s1 with regs := s.regs, flt := s.flt, gov := s.gov, sit := s.sit } = s) ∧
  (∀ (s s1 : State), exec .share s = .next s1 →
      { s1 with regs := s.regs, flt := s.flt, gov := s.gov, sit := s.sit } = s) ∧
  (∀ (s s1 : State), exec .shareAck s = .next s1 →
      { s1 with regs := s.regs, flt := s.flt, gov := s.gov, sit := s.sit } = s) ∧
  (∀ (s s1 : State), exec .meterInfo s = .next s1 →
      { s1 with regs := s.regs, flt := s.flt, sit := s.sit } = s) ∧
  (∀ (s s1 : State), exec .linkReport s = .next s1 →
      { s1 with regs := s.regs, flt := s.flt, sit := s.sit } = s) ∧
  (∀ (s s1 : State), exec .toneMap s = .next s1 →
      { s1 with regs := s.regs, flt := s.flt, sit := s.sit } = s) ∧
  (∀ (s s1 : State), exec .announce s = .next s1 →
      { s1 with regs := s.regs, flt := s.flt, sit := s.sit } = s) ∧
  (∀ (s s1 : State), exec .hostData s = .next s1 →
      { s1 with regs := s.regs, flt := s.flt, sit := s.sit } = s) ∧
  (∀ (s s1 : State), exec .e2eAck s = .next s1 →
      { s1 with regs := s.regs, flt := s.flt, host := s.host, sit := s.sit } = s) ∧
  (∀ (port : Fin 2) (addr : BitVec 32) (data : List Word) (sck : Nat) (s s1 : State), exec (.hostWrite port addr data sck) s = .next s1 →
      { s1 with regs := s.regs, flt := s.flt, host := s.host } = s) ∧
  (∀ (port : Fin 2) (addr : BitVec 32) (data : List Word) (crc : BitVec 16) (sck : Nat) (s s1 : State), exec (.hostWriteCrc port addr data crc sck) s = .next s1 →
      { s1 with regs := s.regs, flt := s.flt, host := s.host } = s) ∧
  (∀ (port : Fin 2) (addr : BitVec 32) (sck : Nat) (s s1 : State), exec (.hostProtocolError port addr sck) s = .next s1 →
      { s1 with regs := s.regs, flt := s.flt, host := s.host } = s) ∧
  (∀ (s s1 : State), exec .hostWatchdog s = .next s1 →
      { s1 with regs := s.regs, flt := s.flt } = s) ∧
  (∀ (port : Fin 2) (seq : BitVec 16) (s s1 : State), exec (.interimReply port seq) s = .next s1 →
      { s1 with regs := s.regs, flt := s.flt, host := s.host } = s) ∧
  (∀ (w : PortWrite 32) (s s1 : State), exec (.dbOutSetWrite w) s = .next s1 →
      { s1 with regs := s.regs, flt := s.flt } = s) ∧
  (∀ (m : Fin 14) (acc : MpAccess) (due t : Nat) (s s1 : State), exec (.mainplateRequest m acc due t) s = .next s1 →
      { s1 with regs := s.regs, flt := s.flt, lgl := s.lgl, mp := s.mp } = s) ∧
  (∀ (m : Fin 14) (b : Fin 8) (t : Nat) (s s1 : State), exec (.backoffEnd m b t) s = .next s1 →
      { s1 with regs := s.regs, flt := s.flt, mp := s.mp } = s) ∧
  (∀ (b : Fin 8) (t : Nat) (s s1 : State), exec (.masterCutoff b t) s = .next s1 →
      { s1 with regs := s.regs, flt := s.flt, mp := s.mp } = s) ∧
  (∀ (w : PortWrite 14) (s s1 : State), exec (.arbCutoffClear w) s = .next s1 →
      { s1 with regs := s.regs, flt := s.flt } = s) ∧
  (∀ (found : List (Fin 0x1000000 × Bool)) (s s1 : State), exec (.scrubPassEnd found) s = .next s1 →
      { s1 with regs := s.regs, flt := s.flt, mp := s.mp } = s) ∧
  (∀ (s s1 : State), exec .scrubLag s = .next s1 →
      { s1 with regs := s.regs, flt := s.flt, mp := s.mp } = s) ∧
  (∀ (found : List (Fin 0x200000)) (s s1 : State), exec (.spareCopyDone found) s = .next s1 →
      { s1 with regs := s.regs, flt := s.flt, mp := s.mp } = s) ∧
  (∀ (port : Fin 2) (banks : BitVec 8) (s s1 : State), exec (.hackSet port banks) s = .next s1 →
      { s1 with regs := s.regs, flt := s.flt } = s) ∧
  (∀ (w : PortWrite 8) (s s1 : State), exec (.hackClear w) s = .next s1 →
      { s1 with regs := s.regs, flt := s.flt } = s) ∧
  (∀ (s s1 : State), exec .hackTimeout s = .next s1 →
      { s1 with regs := s.regs, flt := s.flt, mp := s.mp } = s) ∧
  (∀ (c : PortChan) (desc : Option DmaDesc) (s s1 : State), exec (.dmaStart c desc) s = .next s1 →
      { s1 with regs := s.regs, flt := s.flt, mp := s.mp } = s) ∧
  (∀ (c : PortChan) (s s1 : State), exec (.dmaPause c) s = .next s1 →
      { s1 with regs := s.regs, flt := s.flt, mp := s.mp } = s) ∧
  (∀ (c : PortChan) (s s1 : State), exec (.dmaResume c) s = .next s1 →
      { s1 with regs := s.regs, flt := s.flt, mp := s.mp } = s) ∧
  (∀ (c : PortChan) (s s1 : State), exec (.dmaAbort c) s = .next s1 →
      { s1 with regs := s.regs, flt := s.flt, mp := s.mp } = s) ∧
  (∀ (n : Fin 16) (s s1 : State), exec (.dmaDeadline n) s = .next s1 →
      { s1 with regs := s.regs, flt := s.flt } = s) ∧
  (∀ (port : Fin 2) (s s1 : State), exec (.svcChallengeExpiry port) s = .next s1 →
      { s1 with regs := s.regs, flt := s.flt, key := s.key } = s) ∧
  (∀ (s s1 : State), exec .svcLockoutEnd s = .next s1 →
      { s1 with regs := s.regs, flt := s.flt } = s) ∧
  (∀ (port : Fin 2) (s s1 : State), exec (.serviceWorldTimeout port) s = .next s1 →
      { s1 with regs := s.regs, flt := s.flt } = s) ∧
  (∀ (n : Fin 12) (s s1 : State), exec (.ephemeralJewelClear n) s = .next s1 →
      { s1 with regs := s.regs, flt := s.flt, key := s.key } = s) ∧
  (∀ (s s1 : State), exec .entropyTestFail s = .next s1 →
      { s1 with regs := s.regs, flt := s.flt, key := s.key, outs := s.outs } = s) ∧
  (∀ (s s1 : State), exec .entropyRecovery s = .next s1 →
      { s1 with regs := s.regs, flt := s.flt, key := s.key } = s) ∧
  (∀ (s s1 : State), exec .drbgReseed s = .next s1 →
      { s1 with regs := s.regs, flt := s.flt, key := s.key } = s) ∧
  (∀ (s s1 : State), exec .updateLoadCommit s = .next s1 →
      { s1 with regs := s.regs, flt := s.flt, fwu := s.fwu, host := s.host } = s) ∧
  (∀ (s s1 : State), exec .updateRestoreDone s = .next s1 →
      { s1 with regs := s.regs, flt := s.flt, fwu := s.fwu } = s) ∧
  (∀ (s s1 : State), exec .gpFwDeferredStart s = .next s1 →
      { s1 with regs := s.regs, flt := s.flt, fwu := s.fwu, host := s.host } = s) ∧
  (∀ (bad : Option (Fin 128)) (s s1 : State), exec (.recFirstPart bad) s = .next s1 →
      { s1 with regs := s.regs, flt := s.flt, fwu := s.fwu, lgl := s.lgl } = s) ∧
  (∀ (bad : Option (Fin 128)) (s s1 : State), exec (.recFurtherPart bad) s = .next s1 →
      { s1 with regs := s.regs, flt := s.flt, fwu := s.fwu } = s) ∧
  (∀ (s s1 : State), exec .recCheckDirectory s = .next s1 →
      { s1 with regs := s.regs, flt := s.flt, fwu := s.fwu } = s) ∧
  (∀ (s s1 : State), exec .warningWithdrawn s = .next s1 →
      { s1 with regs := s.regs, flt := s.flt, red := s.red } = s) ∧
  (∀ (s s1 : State), exec .vsysToHold s = .next s1 →
      { s1 with regs := s.regs, flt := s.flt, pwr := s.pwr } = s) ∧
  (∀ (neg : Bool) (s s1 : State), exec (.cpSupplyOut neg) s = .next s1 →
      { s1 with regs := s.regs, flt := s.flt, lch := s.lch, outs := s.outs } = s) ∧
  (∀ (s s1 : State), exec .holdLow s = .next s1 →
      { s1 with regs := s.regs, flt := s.flt } = s) ∧
  (∀ (s s1 : State), exec .vbatLow s = .next s1 →
      { s1 with regs := s.regs, flt := s.flt } = s) ∧
  (∀ (ppm : Int) (s s1 : State), exec (.refClockMeasure ppm) s = .next s1 →
      { s1 with regs := s.regs, flt := s.flt } = s) ∧
  (∀ (s s1 : State), exec .chronoXtalStop s = .next s1 →
      { s1 with regs := s.regs, flt := s.flt } = s) ∧
  (∀ (s s1 : State), exec .chronoXtalRestore s = .next s1 →
      { s1 with regs := s.regs, flt := s.flt } = s) ∧
  (∀ (mb : Fin 8) (s s1 : State), exec (.keyPublic mb) s = .next s1 →
      { s1 with regs := s.regs, flt := s.flt, esc := s.esc, host := s.host } = s) ∧
  (∀ (s s1 : State), exec .remontoireOn s = .next s1 →
      { s1 with regs := s.regs, flt := s.flt, pwr := s.pwr } = s) ∧
  (∀ (s s1 : State), exec .remontoireOff s = .next s1 →
      { s1 with regs := s.regs, flt := s.flt } = s) ∧
  (∀ (rail : Fin 4) (s s1 : State), exec (.railBackInRange rail) s = .next s1 →
      { s1 with regs := s.regs, flt := s.flt, outs := s.outs } = s) ∧
  (∀ (d : Fin 5) (s s1 : State), exec (.periphClockReturn d) s = .next s1 →
      { s1 with regs := s.regs, flt := s.flt } = s) ∧
  (∀ (s s1 : State), exec .preambleLost s = .next s1 →
      { s1 with regs := s.regs, flt := s.flt } = s) ∧
  (∀ (j : Fin 6) (energy : Bool) (s s1 : State), exec (.sextantStart j energy) s = .next s1 →
      { s1 with regs := s.regs, flt := s.flt, freeCtr := s.freeCtr, sit := s.sit } = s)
end

