-- ==== Sys2Proof/Laws/Kv.lean ====
section
/-! SUPPORT. The laws of the sparse maps: what a read finds after a write, and that a write keeps the canonical form; from them the laws
of registers and of the Mainplate's bytes. -/
namespace Sys2Proof.Machine

variable {α : Type} [DecidableEq α] {d : Nat → α}

/-- Above a bound: a list in canonical form is so above every lower bound. -/
theorem kvWfFrom_mono {lo hi : Nat} {l : List (Nat × α)} (h : kvWfFrom d (some hi) l = true) (le : lo ≤ hi) :
    kvWfFrom d (some lo) l = true := by
  cases l with
  | nil => rfl
  | cons p t =>
    obtain ⟨j, v⟩ := p
    simp only [kvWfFrom, Bool.and_eq_true, decide_eq_true_eq] at h ⊢
    exact ⟨⟨by omega, h.1.2⟩, h.2⟩

theorem kvWfFrom_none {lo : Nat} {l : List (Nat × α)} (h : kvWfFrom d (some lo) l = true) : kvWfFrom d none l = true := by
  cases l with
  | nil => rfl
  | cons p t =>
    obtain ⟨j, v⟩ := p
    simp only [kvWfFrom, Bool.and_eq_true, decide_eq_true_eq] at h ⊢
    exact ⟨⟨trivial, h.1.2⟩, h.2⟩

/-- A key at or below the bound is not listed. -/
theorem kvFind_below {lo k : Nat} {l : List (Nat × α)} (h : kvWfFrom d (some lo) l = true) (le : k ≤ lo) : kvFind k l = none := by
  cases l with
  | nil => rfl
  | cons p t =>
    obtain ⟨j, v⟩ := p
    simp only [kvWfFrom, Bool.and_eq_true, decide_eq_true_eq] at h
    have h1 : k ≠ j := by omega
    have h2 : k < j := by omega
    simp [kvFind, h1, h2]

theorem kvErase_below {lo k : Nat} {l : List (Nat × α)} (h : kvWfFrom d (some lo) l = true) (le : k ≤ lo) : kvErase k l = l := by
  induction l generalizing lo with
  | nil => rfl
  | cons p t ih =>
    obtain ⟨j, v⟩ := p
    simp only [kvWfFrom, Bool.and_eq_true, decide_eq_true_eq] at h
    have h1 : k ≠ j := by omega
    simp only [kvErase, if_neg h1]
    rw [ih h.2 (by omega)]

/-- A write keeps the canonical form above a bound. -/
theorem kvInsert_wf_from {lo k : Nat} {v : α} {l : List (Nat × α)} (h : kvWfFrom d (some lo) l = true) (lt : lo < k) :
    kvWfFrom d (some lo) (kvInsert (d k) k v l) = true := by
  induction l generalizing lo with
  | nil =>
    by_cases hv : v = d k
    · simp [kvInsert, hv, kvWfFrom]
    · simp [kvInsert, hv, kvWfFrom, lt]
  | cons p t ih =>
    obtain ⟨j, w⟩ := p
    simp only [kvWfFrom, Bool.and_eq_true, decide_eq_true_eq] at h
    obtain ⟨⟨hj, hw⟩, ht⟩ := h
    by_cases h1 : k < j
    · by_cases hv : v = d k
      · simp [kvInsert, h1, hv, kvWfFrom, hj, hw, ht]
      · simp [kvInsert, h1, hv, kvWfFrom, hw, ht, lt]
    · by_cases h2 : k = j
      · subst h2
        by_cases hv : v = d k
        · rw [kvInsert, if_neg h1, if_pos rfl, if_pos hv, kvErase_below ht (Nat.le_refl _)]
          exact kvWfFrom_mono ht (by omega)
        · simp [kvInsert, hv, kvWfFrom, lt, ht]
      · have h3 : j < k := by omega
        simp only [kvInsert, if_neg h1, if_neg h2, kvWfFrom, Bool.and_eq_true, decide_eq_true_eq]
        exact ⟨⟨hj, hw⟩, ih ht h3⟩

/-- A write keeps the canonical form. -/
theorem kvInsert_wf {k : Nat} {v : α} {l : List (Nat × α)} (h : kvWf d l = true) : kvWf d (kvInsert (d k) k v l) = true := by
  unfold kvWf at h ⊢
  cases l with
  | nil => by_cases hv : v = d k <;> simp [kvInsert, hv, kvWfFrom]
  | cons p t =>
    obtain ⟨j, w⟩ := p
    simp only [kvWfFrom, Bool.and_eq_true, decide_eq_true_eq] at h
    obtain ⟨⟨_, hw⟩, ht⟩ := h
    by_cases h1 : k < j
    · by_cases hv : v = d k <;> simp [kvInsert, h1, hv, kvWfFrom, hw, ht]
    · by_cases h2 : k = j
      · subst h2
        by_cases hv : v = d k
        · rw [kvInsert, if_neg h1, if_pos rfl, if_pos hv, kvErase_below ht (Nat.le_refl _)]
          exact kvWfFrom_none ht
        · simp [kvInsert, hv, kvWfFrom, ht]
      · have h3 : j < k := by omega
        simp only [kvInsert, if_neg h1, if_neg h2, kvWfFrom, Bool.and_eq_true, decide_eq_true_eq]
        exact ⟨⟨trivial, hw⟩, kvInsert_wf_from ht h3⟩

omit [DecidableEq α] in
theorem kvFind_erase_same {k : Nat} {l : List (Nat × α)} : kvFind k (kvErase k l) = none := by
  induction l with
  | nil => rfl
  | cons p t ih =>
    obtain ⟨j, w⟩ := p
    by_cases h : k = j
    · simp [kvErase, h]; exact h ▸ ih
    · simp [kvErase, h, kvFind, ih]

/-- A read after a write to the same key gives the value written. -/
theorem kvFind_insert_same {k : Nat} {v e : α} {l : List (Nat × α)} : (kvFind k (kvInsert e k v l)).getD e = v := by
  induction l with
  | nil => by_cases hv : v = e <;> simp [kvInsert, hv, kvFind]
  | cons p t ih =>
    obtain ⟨j, w⟩ := p
    by_cases h1 : k < j
    · have h2 : k ≠ j := by omega
      by_cases hv : v = e <;> simp [kvInsert, h1, hv, kvFind, h2]
    · by_cases h2 : k = j
      · subst h2
        by_cases hv : v = e
        · simp [kvInsert, hv, kvFind_erase_same]
        · simp [kvInsert, hv, kvFind]
      · simp only [kvInsert, if_neg h1, if_neg h2, kvFind]
        exact ih

/-- A write leaves every other key alone, above a bound. -/
theorem kvFind_insert_other_from {lo a b : Nat} {v : α} {l : List (Nat × α)} (h : kvWfFrom d (some lo) l = true) (ne : b ≠ a) :
    kvFind b (kvInsert (d a) a v l) = kvFind b l := by
  induction l generalizing lo with
  | nil =>
    by_cases hv : v = d a
    · simp [kvInsert, hv]
    · simp [kvInsert, hv, kvFind, ne]
  | cons p t ih =>
    obtain ⟨j, w⟩ := p
    simp only [kvWfFrom, Bool.and_eq_true, decide_eq_true_eq] at h
    obtain ⟨_, ht⟩ := h
    by_cases h1 : a < j
    · by_cases hv : v = d a
      · simp [kvInsert, h1, hv]
      · by_cases hb : b < a
        · have e1 : b ≠ j := by omega
          have e2 : b < j := by omega
          simp [kvInsert, h1, hv, kvFind, ne, hb, e1, e2]
        · simp [kvInsert, h1, hv, kvFind, ne, hb]
    · by_cases h2 : a = j
      · subst h2
        by_cases hv : v = d a
        · rw [kvInsert, if_neg h1, if_pos rfl, if_pos hv, kvErase_below ht (Nat.le_refl _)]
          by_cases hb : b < a
          · rw [kvFind_below ht (by omega)]; simp [kvFind, ne, hb]
          · simp [kvFind, ne, hb]
        · simp [kvInsert, hv, kvFind, ne]
      · simp only [kvInsert, if_neg h1, if_neg h2, kvFind]
        rw [ih ht]

/-- A write leaves every other key alone. -/
theorem kvFind_insert_other {a b : Nat} {v : α} {l : List (Nat × α)} (h : kvWf d l = true) (ne : b ≠ a) :
    kvFind b (kvInsert (d a) a v l) = kvFind b l := by
  cases l with
  | nil => by_cases hv : v = d a <;> simp [kvInsert, hv, kvFind, ne]
  | cons p t =>
    obtain ⟨j, w⟩ := p
    by_cases hj : j = 0
    · subst hj
      unfold kvWf at h
      simp only [kvWfFrom, Bool.and_eq_true, decide_eq_true_eq] at h
      have h1 : ¬ a < 0 := by omega
      by_cases h2 : a = 0
      · subst h2
        by_cases hv : v = d 0
        · rw [kvInsert, if_neg h1, if_pos rfl, if_pos hv, kvErase_below h.2 (Nat.le_refl _)]
          have : ¬ b < 0 := by omega
          simp [kvFind, ne]
        · simp [kvInsert, hv, kvFind, ne]
      · simp only [kvInsert, if_neg h1, if_neg h2, kvFind]
        rw [kvFind_insert_other_from h.2 ne]
    · unfold kvWf at h
      simp only [kvWfFrom, Bool.and_eq_true, decide_eq_true_eq] at h
      refine kvFind_insert_other_from (lo := 0) ?_ ne
      simp only [kvWfFrom, Bool.and_eq_true, decide_eq_true_eq]
      exact ⟨⟨by omega, h.1.2⟩, h.2⟩

/-! ### Registers -/

/-- A register reads what was written to it. -/
@[simp] theorem rd_wr_same (s : State) (a : Nat) (v : Word) : (s.wr a v).rd a = v := kvFind_insert_same

/-- A write leaves every other register alone. -/
theorem rd_wr_other {s : State} {a b : Nat} {v : Word} (h : s.canonical) (ne : b ≠ a) : (s.wr a v).rd b = s.rd b := by
  unfold State.rd State.wr
  rw [kvFind_insert_other h.1 ne]

/-! ### The Mainplate's bytes -/

/-- A byte reads what was stored at its offset. -/
@[simp] theorem byte_store_same (m : List Host.Cell) (a : Nat) (b : Byte) : Memory.byte (Memory.store m a b) a = b := kvFind_insert_same

/-- A store leaves every other byte alone. -/
theorem byte_store_other {m : List Host.Cell} {a c : Nat} {b : Byte} (h : Memory.wf m = true) (ne : c ≠ a) :
    Memory.byte (Memory.store m a b) c = Memory.byte m c := by
  unfold Memory.byte Memory.store
  rw [kvFind_insert_other (d := fun _ => 0#8) h ne]

/-- A store keeps the canonical form. -/
theorem store_wf {m : List Host.Cell} {a : Nat} {b : Byte} (h : Memory.wf m = true) : Memory.wf (Memory.store m a b) = true :=
  kvInsert_wf (d := fun _ => 0#8) h

theorem storeAll_wf {m : List Host.Cell} {a : Nat} {l : List Byte} (h : Memory.wf m = true) : Memory.wf (Memory.storeAll m a l) = true := by
  induction l generalizing m a with
  | nil => exact h
  | cons b t ih => exact ih (store_wf h)

/-- Bytes below a run of stores, or at and above its end, are left alone. -/
theorem byte_storeAll_other {m : List Host.Cell} {a c : Nat} {l : List Byte} (h : Memory.wf m = true) (out : c < a ∨ a + l.length ≤ c) :
    Memory.byte (Memory.storeAll m a l) c = Memory.byte m c := by
  induction l generalizing m a with
  | nil => rfl
  | cons b t ih =>
    simp only [List.length_cons] at out
    rw [Memory.storeAll, ih (store_wf h) (by omega), byte_store_other h (by omega)]

/-- A stored run reads back byte for byte. -/
theorem byte_storeAll_in {m : List Host.Cell} {a i : Nat} {l : List Byte} (h : Memory.wf m = true) (lt : i < l.length) :
    Memory.byte (Memory.storeAll m a l) (a + i) = l[i] := by
  induction l generalizing m a i with
  | nil => simp at lt
  | cons b t ih =>
    cases i with
    | zero =>
      rw [Memory.storeAll, byte_storeAll_other (store_wf h) (by omega)]
      simp
    | succ k =>
      simp only [List.length_cons] at lt
      rw [Memory.storeAll, show a + (k + 1) = (a + 1) + k by omega, ih (store_wf h) (by omega)]
      simp

end Sys2Proof.Machine
end

