-- ==== Sys2Proof/Laws/Good0.lean ====
section
/-! SUPPORT. What every shared operation keeps: the canonical form of the registers and of the Mainplate, and the capacities of the logs. The lemma of an
operation op is good_op; this file holds those of the basic ones. -/
namespace Sys2Proof.Machine



/-- The next state of an outcome, where it is one, has a property. -/
def AllNext (p : State → Prop) (o : Out) : Prop := ∀ t, o = .next t → p t

theorem AllNext.next {p : State → Prop} {s : State} (h : p s) : AllNext p (.next s) := by
  intro t e
  cases e
  exact h

theorem allNext_iff {p : State → Prop} {s : State} : AllNext p (.next s) ↔ p s := ⟨fun h => h s rfl, AllNext.next⟩

/-- A state that agrees on registers, Mainplate and logs. -/
theorem good_of {s t : State} (h : State.Good s) (a : t.regs = s.regs) (b : t.ram = s.ram) (c : t.flt.ring = s.flt.ring)
    (d : t.lgl.log = s.lgl.log) (e : t.saf.log = s.saf.log) : State.Good t := by
  unfold State.Good at *
  rw [a, b, c, d, e]
  exact h

theorem good_wr (s : State) (a : Nat) (v : Word) (h_s : State.Good s) : State.Good (s.wr a v) :=
  ⟨kvInsert_wf h_s.1, h_s.2⟩

theorem good_put (s : State) (f : Fld) (v : Nat) (h_s : State.Good s) : State.Good (s.put f v) :=
  good_wr _ _ _ h_s

theorem foldl_store_wf {α : Type} (f : α → Nat) (g : α → Byte) (l : List α) {m : List Host.Cell} (h : Memory.wf m = true) :
    Memory.wf (l.foldl (fun m k => Memory.store m (f k) (g k)) m) = true := by
  induction l generalizing m with
  | nil => exact h
  | cons x t ih => exact ih (store_wf h)

theorem good_mpWrite (s : State) (a : Nat) (bs : List Byte) (h_s : State.Good s) :
    State.Good (s.mpWrite a bs) := by
  unfold State.mpWrite
  simp only []
  split
  · exact ⟨h_s.1, storeAll_wf h_s.2.1, h_s.2.2⟩
  · exact ⟨h_s.1, foldl_store_wf (fun k => ramOff (a + k)) _ _ h_s.2.1, h_s.2.2⟩

theorem good_foldl {α : Type} (f : State → α → State) (l : List α) (s : State)
    (h_f : ∀ u x, State.Good u → State.Good (f u x)) (h_s : State.Good s) : State.Good (l.foldl f s) := by
  induction l generalizing s with
  | nil => exact h_s
  | cons x t ih => exact ih _ (h_f s x h_s)

theorem good_forUpTo (n : Nat) (f : Nat → State → State) (s : State)
    (h_f : ∀ k u, State.Good u → State.Good (f k u)) (h_s : State.Good s) : State.Good (forUpTo n f s) :=
  good_foldl _ _ _ (fun u k h => h_f k u h) h_s

theorem good_forEach {α : Type} (l : List α) (f : α → State → State) (s : State)
    (h_f : ∀ x u, State.Good u → State.Good (f x u)) (h_s : State.Good s) : State.Good (forEach l f s) :=
  good_foldl _ _ _ (fun u x h => h_f x u h) h_s

theorem good_when (b : Bool) (f : State → State) (s : State)
    (h_f : ∀ u, State.Good u → State.Good (f u)) (h_s : State.Good s) : State.Good (when b f s) := by
  unfold when
  split
  · exact h_f s h_s
  · exact h_s

theorem good_within (f : State → State) (s : State)
    (h_f : ∀ u, State.Good u → State.Good (f u)) (h_s : State.Good s) : State.Good (State.within f s) := by
  unfold State.within
  exact good_of (h_f _ (good_of (t := { s with esc := { s.esc with inBeat := true } }) h_s rfl rfl rfl rfl rfl)) rfl rfl rfl rfl rfl

end Sys2Proof.Machine
end

