-- ==== Sys2Proof/Laws/Good1.lean ====
section
/-! SUPPORT. What each operation keeps (State.Good), one lemma good_op per operation op: the shared operations, the safety functions. -/
namespace Sys2Proof.Machine

/-! ### Ops -/

theorem good_wrN (s : State) (a v : Nat) (h_s : State.Good s) :
    State.Good (State.wrN s a v) := by
  grind -lia -linarith -ring -order -ac [State.wrN, good_wr]

theorem good_puti (s : State) (f : Fld) (v : Int) (h_s : State.Good s) :
    State.Good (State.puti s f v) := by
  grind -lia -linarith -ring -order -ac [State.puti, good_put]

theorem good_putSat (s : State) (f : Fld) (v : Nat) (h_s : State.Good s) :
    State.Good (State.putSat s f v) := by
  grind -lia -linarith -ring -order -ac [State.putSat, good_put]

theorem good_incBy (s : State) (f : Fld) (n : Nat) (h_s : State.Good s) :
    State.Good (State.incBy s f n) := by
  grind -lia -linarith -ring -order -ac [State.incBy, good_putSat]

theorem good_inc (s : State) (f : Fld) (h_s : State.Good s) :
    State.Good (State.inc s f) := by
  grind -lia -linarith -ring -order -ac [State.inc, good_incBy]

theorem good_raiseTo (s : State) (f : Fld) (v : Nat) (h_s : State.Good s) :
    State.Good (State.raiseTo s f v) := by
  grind -lia -linarith -ring -order -ac [State.raiseTo, good_putSat]

theorem good_set1 (s : State) (f : Fld) (h_s : State.Good s) :
    State.Good (State.set1 s f) := by
  grind -lia -linarith -ring -order -ac [State.set1, good_put]

theorem good_clr (s : State) (f : Fld) (h_s : State.Good s) :
    State.Good (State.clr s f) := by
  grind -lia -linarith -ring -order -ac [State.clr, good_put]

theorem good_putB (s : State) (f : Fld) (b : Bool) (h_s : State.Good s) :
    State.Good (State.putB s f b) := by
  grind -lia -linarith -ring -order -ac [State.putB, good_put]

theorem good_putBit (s : State) (f : Fld) (k : Nat) (b : Bool) (h_s : State.Good s) :
    State.Good (State.putBit s f k b) := by
  grind -lia -linarith -ring -order -ac [State.putBit, good_put]

theorem good_wr128 (s : State) (a v : Nat) (h_s : State.Good s) :
    State.Good (State.wr128 s a v) := by
  grind -lia -linarith -ring -order -ac [State.wr128, good_wrN]

theorem good_acc128 (s : State) (a : Nat) (d : Int) (h_s : State.Good s) :
    State.Good (State.acc128 s a d) := by
  grind -lia -linarith -ring -order -ac [State.acc128, good_wr128]

theorem good_journal (s : State) (type key : Nat) (head : List Byte) (data : List Byte) (bulk : Bool) (h_s : State.Good s) :
    State.Good (State.journal s type key head data bulk) := by
  grind -lia -linarith -ring -order -ac [State.journal, = State.Good]

theorem good_draw (s : State) (h_s : State.Good s) :
    State.Good (State.draw s).2 := by
  grind -lia -linarith -ring -order -ac [State.draw, = State.Good]

theorem good_drbg (s : State) (purpose : Nat) (h_s : State.Good s) :
    State.Good (State.drbg s purpose).2 := by
  grind -lia -linarith -ring -order -ac [State.drbg, = State.Good, good_draw, good_journal]

theorem good_laneWrite (s : State) (a : Nat) (bs : List Byte) (h_s : State.Good s) :
    State.Good (State.laneWrite s a bs) := by
  grind -lia -linarith -ring -order -ac [State.laneWrite, good_forUpTo, good_journal, good_mpWrite]

theorem good_bothWrite (s : State) (a : Nat) (bs : List Byte) (h_s : State.Good s) :
    State.Good (State.bothWrite s a bs) := by
  grind -lia -linarith -ring -order -ac [State.bothWrite, = State.Good, good_mpWrite]

theorem good_setGstate (s : State) (g cause : Nat) (h_s : State.Good s) :
    State.Good (State.setGstate s g cause) := by
  grind -lia -linarith -ring -order -ac [State.setGstate, = State.Good, good_put, good_set1]

theorem good_raise (s : State) (code cls src p0 p1 : Nat) (h_s : State.Good s) :
    State.Good (State.raise s code cls src p0 p1) := by
  grind -lia -linarith -ring -order -ac [State.raise, = State.Good]

theorem good_raiseLimited (s : State) (key window code cls src p0 p1 : Nat) (h_s : State.Good s) :
    State.Good (State.raiseLimited s key window code cls src p0 p1) := by
  grind -lia -linarith -ring -order -ac [State.raiseLimited, = State.Good, good_raise]

theorem good_raiseHost (s : State) (code port p1 : Nat) (h_s : State.Good s) :
    State.Good (State.raiseHost s code port p1) := by
  grind -lia -linarith -ring -order -ac [State.raiseHost, good_raiseLimited]

theorem good_answer (s : State) (c : Cmd) (status param : Nat) (data : List Byte) (h_s : State.Good s) :
    State.Good (State.answer s c status param data) := by
  grind -lia -linarith -ring -order -ac [State.answer, = State.Good]

theorem good_reply (s : State) (c : Cmd) (status param : Nat) (data : List Byte) (h_s : State.Good s) :
    State.Good (State.reply s c status param data) := by
  grind -lia -linarith -ring -order -ac [State.reply, = State.Good, good_answer, good_forEach]

theorem good_amendReply (s : State) (port seq status param : Nat) (h_s : State.Good s) :
    State.Good (State.amendReply s port seq status param) := by
  grind -lia -linarith -ring -order -ac [State.amendReply, = State.Good]

theorem good_dropCmd (s : State) (port seq : Nat) (h_s : State.Good s) :
    State.Good (State.dropCmd s port seq) := by
  grind -lia -linarith -ring -order -ac [State.dropCmd, = State.Good]

theorem good_startCmd (s : State) (c : Cmd) (h_s : State.Good s) :
    State.Good (State.startCmd s c) := by
  grind -lia -linarith -ring -order -ac [State.startCmd, = State.Good]

theorem good_replyTo (s : State) (port seq status param : Nat) (data : List Byte) (h_s : State.Good s) :
    State.Good (State.replyTo s port seq status param data) := by
  grind -lia -linarith -ring -order -ac [State.replyTo, = State.Good, good_reply]

theorem good_abortLate (s : State) (c : Cmd) (op : CmdRef) (h_s : State.Good s) :
    State.Good (State.abortLate s c op) := by
  grind -lia -linarith -ring -order -ac [State.abortLate, = State.Good, good_reply]

theorem good_abortLateTo (s : State) (r op : CmdRef) (h_s : State.Good s) :
    State.Good (State.abortLateTo s r op) := by
  grind -lia -linarith -ring -order -ac [State.abortLateTo, = State.Good, good_abortLate]

theorem good_hostSets (s : State) (port a : Nat) (f : State → State) (h_s : State.Good s) (h_f : ∀ u, State.Good u → State.Good (f u)) :
    State.Good (State.hostSets s port a f) := by
  grind -lia -linarith -ring -order -ac [State.hostSets, good_inc, good_raiseHost]

theorem good_command (s : State) (mb code : Nat) (acc : Accept) (service : Bool) (body : Cmd → State → State) (h_s : State.Good s) (h_body : ∀ c u, State.Good u → State.Good (body c u)) :
    State.Good (State.command s mb code acc service body) := by
  grind -lia -linarith -ring -order -ac [State.command, = State.Good, good_startCmd, good_within, good_reply]

/-! ### Faults -/

theorem good_writeEntry (e : FaultEntry) (s : State) (h_s : State.Good s) : State.Good (writeEntry e s) := by
  have h : State.Good { s with flt := { s.flt with ring := { e with seq := s.rdN A_FLT_HEAD + 1 } :: s.flt.ring.take 4095 } } :=
    ⟨h_s.1, h_s.2.1, by simp <;> omega, h_s.2.2.2⟩
  unfold writeEntry
  exact good_putSat _ _ _ (good_when _ _ _ (fun u hu => good_inc u _ hu) (good_when _ _ _ (fun u hu => good_inc u _ hu) (good_wrN _ _ _ h)))

theorem good_writeLog (s : State) (h_s : State.Good s) :
    State.Good (writeLog s) := by
  grind -lia -linarith -ring -order -ac [writeLog, = State.Good, good_forEach, good_writeEntry]

theorem good_keepLog (s : State) (h_s : State.Good s) :
    State.Good (keepLog s) := by
  grind -lia -linarith -ring -order -ac [keepLog, = State.Good]

theorem good_deferredLog (s : State) (h_s : State.Good s) :
    State.Good (deferredLog s) := by
  grind -lia -linarith -ring -order -ac [deferredLog, = State.Good, good_forEach, good_writeEntry]

theorem good_raiseDeferred (s : State) (code cls src p0 p1 : Nat) (h_s : State.Good s) :
    State.Good (State.raiseDeferred s code cls src p0 p1) := by
  grind -lia -linarith -ring -order -ac [State.raiseDeferred, = State.Good]

theorem good_selValid (s : State) (h_s : State.Good s) :
    State.Good (State.selValid s) := by
  grind -lia -linarith -ring -order -ac [State.selValid, good_putB]

theorem good_ackFaults (s : State) (v : Nat) (h_s : State.Good s) :
    State.Good (State.ackFaults s v) := by
  grind -lia -linarith -ring -order -ac [State.ackFaults, good_wrN, good_putSat]

theorem good_selFault (s : State) (v : Nat) (h_s : State.Good s) :
    State.Good (State.selFault s v) := by
  grind -lia -linarith -ring -order -ac [State.selFault, good_wrN, good_selValid]

/-! ### Ageing -/

theorem good_updWear (s : State) (f : WearSt → WearSt) (h_s : State.Good s) :
    State.Good (State.updWear s f) := by
  grind -lia -linarith -ring -order -ac [State.updWear, = State.Good]

theorem good_wearTemp (s : State) (k : Nat) (t : Int) (h_s : State.Good s) :
    State.Good (State.wearTemp s k t) := by
  grind -lia -linarith -ring -order -ac [State.wearTemp, = State.Good, good_updWear]

theorem good_wearOpen (s : State) (n ms : Nat) (h_s : State.Good s) :
    State.Good (State.wearOpen s n ms) := by
  grind -lia -linarith -ring -order -ac [State.wearOpen, = State.Good, good_updWear, good_set1, good_raise]

theorem good_wearCycle (s : State) (k : Nat) (h_s : State.Good s) :
    State.Good (State.wearCycle s k) := by
  grind -lia -linarith -ring -order -ac [State.wearCycle, = State.Good, good_updWear, good_set1, good_raise]

theorem good_showStep (s : State) (h_s : State.Good s) :
    State.Good (State.showStep s) := by
  grind -lia -linarith -ring -order -ac [State.showStep, good_put]

theorem good_setStep (s : State) (lane step : Nat) (h_s : State.Good s) :
    State.Good (State.setStep s lane step) := by
  grind -lia -linarith -ring -order -ac [State.setStep, = State.Good, good_updWear, good_showStep]

theorem good_applyStep (s : State) (lane : Nat) (h_s : State.Good s) :
    State.Good (State.applyStep s lane) := by
  grind -lia -linarith -ring -order -ac [State.applyStep, = State.Good, good_setStep, good_updWear]

theorem good_storedStep (s : State) (lane : Nat) (h_s : State.Good s) :
    State.Good (State.storedStep s lane) := by
  grind -lia -linarith -ring -order -ac [State.storedStep, = State.Good, good_updWear, good_setStep]

/-! ### LegalLog -/

theorem good_legalLog (s : State) (type subject param : Nat) (h_s : State.Good s) :
    State.Good (State.legalLog s type subject param) := by
  grind -linarith -ring -order -ac [State.legalLog, = State.Good, good_wrN, good_when, good_raise]

theorem good_tamperAt (s : State) (kind mono wall : Nat) (h_s : State.Good s) :
    State.Good (State.tamperAt s kind mono wall) := by
  grind -lia -linarith -ring -order -ac [State.tamperAt, good_wrN, good_when, good_wr128, good_raise, good_putBit,
    good_legalLog]

theorem good_tamperA (s : State) (kind : Nat) (h_s : State.Good s) :
    State.Good (State.tamperA s kind) := by
  grind -lia -linarith -ring -order -ac [State.tamperA, good_tamperAt]

/-! ### Jewels -/

theorem good_updKey (s : State) (f : KeySt → KeySt) (h_s : State.Good s) :
    State.Good (State.updKey s f) := by
  grind -lia -linarith -ring -order -ac [State.updKey, = State.Good]

theorem good_showLoaded (s : State) (h_s : State.Good s) :
    State.Good (State.showLoaded s) := by
  grind -lia -linarith -ring -order -ac [State.showLoaded, good_putSat]

theorem good_setJewel (s : State) (j : Nat) (v : Option Nat) (h_s : State.Good s) :
    State.Good (State.setJewel s j v) := by
  grind -lia -linarith -ring -order -ac [State.setJewel, = State.Good, good_updKey, good_showLoaded]

theorem good_jewelUsed (s : State) (j : Nat) (h_s : State.Good s) :
    State.Good (State.jewelUsed s j) := by
  grind -lia -linarith -ring -order -ac [State.jewelUsed, = State.Good, good_updKey]

theorem good_deriveBelow (s : State) (root : Nat) (h_s : State.Good s) :
    State.Good (State.deriveBelow s root) := by
  grind -lia -linarith -ring -order -ac [State.deriveBelow, = State.Good, good_forUpTo, good_jewelUsed, good_setJewel]

theorem good_loadJewels (s : State) (corrupt : List Nat) (h_s : State.Good s) :
    State.Good (State.loadJewels s corrupt) := by
  grind -lia -linarith -ring -order -ac [State.loadJewels, = State.Good, good_updKey, good_showLoaded, good_forEach,
    good_raise, good_deriveBelow, good_forUpTo, good_when, good_jewelUsed]

theorem good_jewelDenied (s : State) (j : Nat) (h_s : State.Good s) :
    State.Good (State.jewelDenied s j) := by
  grind -lia -linarith -ring -order -ac [State.jewelDenied, = State.Good, good_updKey]

theorem good_jewelRefused (s : State) (j : Nat) (h_s : State.Good s) :
    State.Good (State.jewelRefused s j) := by
  grind -lia -linarith -ring -order -ac [State.jewelRefused, good_jewelDenied, good_set1, good_raiseLimited]

theorem good_storeOp (s : State) (j op master world : Nat) (h_s : State.Good s) :
    State.Good (State.storeOp s j op master world) := by
  grind -lia -linarith -ring -order -ac [State.storeOp, good_jewelUsed, good_jewelRefused]

/-! ### Sessions -/

theorem good_updO (s : State) (n : Nat) (f : OutSt → OutSt) (h_s : State.Good s) :
    State.Good (State.updO s n f) := by
  grind -lia -linarith -ring -order -ac [State.updO, = State.Good]

theorem good_updS (s : State) (k : Nat) (f : SesSt → SesSt) (h_s : State.Good s) :
    State.Good (State.updS s k f) := by
  grind -lia -linarith -ring -order -ac [State.updS, = State.Good]

theorem good_updPilot (s : State) (n : Nat) (f : PilotSt → PilotSt) (h_s : State.Good s) :
    State.Good (State.updPilot s n f) := by
  grind -lia -linarith -ring -order -ac [State.updPilot, = State.Good, good_updO]

theorem good_updLink (s : State) (n : Nat) (f : LinkSt → LinkSt) (h_s : State.Good s) :
    State.Good (State.updLink s n f) := by
  grind -lia -linarith -ring -order -ac [State.updLink, = State.Good, good_updO]

theorem good_updClose (s : State) (n : Nat) (f : CloseSt → CloseSt) (h_s : State.Good s) :
    State.Good (State.updClose s n f) := by
  grind -lia -linarith -ring -order -ac [State.updClose, = State.Good, good_updO]

theorem good_updWeld (s : State) (n : Nat) (f : WeldSt → WeldSt) (h_s : State.Good s) :
    State.Good (State.updWeld s n f) := by
  grind -lia -linarith -ring -order -ac [State.updWeld, = State.Good, good_updO]

theorem good_updProt (s : State) (n : Nat) (f : ProtSt → ProtSt) (h_s : State.Good s) :
    State.Good (State.updProt s n f) := by
  grind -lia -linarith -ring -order -ac [State.updProt, = State.Good, good_updO]

theorem good_cmdPilot (s : State) (n drive duty : Nat) (h_s : State.Good s) :
    State.Good (State.cmdPilot s n drive duty) := by
  grind -lia -linarith -ring -order -ac [State.cmdPilot, = State.Good, good_updPilot, good_put]

theorem good_applyPilot (s : State) (n : Nat) (h_s : State.Good s) :
    State.Good (State.applyPilot s n) := by
  grind -lia -linarith -ring -order -ac [State.applyPilot, = State.Good, good_updPilot]

theorem good_ownerActs (n : Nat) (f : State → State) (s : State) (h_f : ∀ u, State.Good u → State.Good (f u)) (h_s : State.Good s) :
    State.Good (State.ownerActs n f s) := by
  grind -lia -linarith -ring -order -ac [State.ownerActs, = State.Good, good_updPilot, good_updProt]

theorem good_drive12 (s : State) (n : Nat) (h_s : State.Good s) :
    State.Good (State.drive12 s n) := by
  grind -lia -linarith -ring -order -ac [State.drive12, good_cmdPilot]

theorem good_driveF (s : State) (n : Nat) (h_s : State.Good s) :
    State.Good (State.driveF s n) := by
  grind -lia -linarith -ring -order -ac [State.driveF, good_cmdPilot]

theorem good_drive5 (s : State) (n : Nat) (h_s : State.Good s) :
    State.Good (State.drive5 s n) := by
  grind -lia -linarith -ring -order -ac [State.drive5, good_cmdPilot]

theorem good_refreshPilot (s : State) (n : Nat) (h_s : State.Good s) :
    State.Good (State.refreshPilot s n) := by
  grind -lia -linarith -ring -order -ac [State.refreshPilot, good_cmdPilot]

theorem good_putAllowed (s : State) (n ua : Nat) (h_s : State.Good s) :
    State.Good (State.putAllowed s n ua) := by
  grind -lia -linarith -ring -order -ac [State.putAllowed, = State.Good, good_when, good_updO, good_put]

theorem good_setModule (s : State) (n mode v : Nat) (i : Int) (p : Nat) (h_s : State.Good s) :
    State.Good (State.setModule s n mode v i p) := by
  grind -lia -linarith -ring -order -ac [State.setModule, = State.Good, good_updO]

theorem good_moduleOff (s : State) (n : Nat) (h_s : State.Good s) :
    State.Good (State.moduleOff s n) := by
  grind -lia -linarith -ring -order -ac [State.moduleOff, good_setModule]

theorem good_allocAt (s : State) (n k : Nat) (h_s : State.Good s) :
    State.Good (State.allocAt s n k) := by
  grind -lia -linarith -ring -order -ac [State.allocAt, = State.Good, good_wrN, good_put, good_wr128, good_updS, good_clr,
    good_updO, good_putAllowed, good_updProt]

theorem good_noContext (s : State) (n : Nat) (h_s : State.Good s) :
    State.Good (State.noContext s n) := by
  grind -lia -linarith -ring -order -ac [State.noContext, good_drive12, good_set1, good_raise]

theorem good_sesGrowth (s : State) (k : Nat) (h_s : State.Good s) :
    State.Good (State.sesGrowth s k) := by
  grind -lia -linarith -ring -order -ac [State.sesGrowth, good_wr128]

theorem good_endSession (s : State) (k : Nat) (h_s : State.Good s) :
    State.Good (State.endSession s k) := by
  grind -lia -linarith -ring -order -ac [State.endSession, = State.Good, good_sesGrowth, good_updS, good_when, good_put,
    good_jewelUsed, good_wr128, good_set1, good_updO, good_updProt, good_clr, good_refreshPilot, good_replyTo, good_raise]

theorem good_requestOpen (s : State) (n : Nat) (h_s : State.Good s) :
    State.Good (State.requestOpen s n) := by
  grind -lia -linarith -ring -order -ac [State.requestOpen, = State.Good, good_when, good_updProt]

theorem good_sendSeg (s : State) (n : Nat) (kind : V2gKind) (ongoing : Bool) (h_s : State.Good s) :
    State.Good (State.sendSeg s n kind ongoing) := by
  grind -lia -linarith -ring -order -ac [State.sendSeg, = State.Good, good_updLink]

theorem good_dropClose (s : State) (n : Nat) (h_s : State.Good s) :
    State.Good (State.dropClose s n) := by
  grind -lia -linarith -ring -order -ac [State.dropClose, = State.Good, good_updClose, good_when, good_put]

theorem good_stopSession (s : State) (k reason code : Nat) (now_ : Bool) (h_s : State.Good s) :
    State.Good (State.stopSession s k reason code now_) := by
  grind -lia -linarith -ring -order -ac [State.stopSession, = State.Good, good_put, good_updS, good_dropClose, good_when,
    good_drive12, good_updLink, good_moduleOff, good_requestOpen]

theorem good_stopOutlet (s : State) (n reason code : Nat) (h_s : State.Good s) :
    State.Good (State.stopOutlet s n reason code) := by
  grind -lia -linarith -ring -order -ac [State.stopOutlet, = State.Good, good_stopSession, good_dropClose, good_requestOpen]

theorem good_raiseOutlet (s : State) (code n p1 : Nat) (h_s : State.Good s) :
    State.Good (State.raiseOutlet s code n p1) := by
  grind -lia -linarith -ring -order -ac [State.raiseOutlet, good_raise, good_stopOutlet]

theorem good_raiseEveryOutlet (s : State) (code src p0 p1 : Nat) (h_s : State.Good s) :
    State.Good (State.raiseEveryOutlet s code src p0 p1) := by
  grind -lia -linarith -ring -order -ac [State.raiseEveryOutlet, good_forUpTo, good_stopOutlet, good_raise]

theorem good_refuseSession (s : State) (k reason : Nat) (h_s : State.Good s) :
    State.Good (State.refuseSession s k reason) := by
  grind -lia -linarith -ring -order -ac [State.refuseSession, good_when, good_sendSeg, good_put, good_drive12,
    good_endSession]

theorem good_settleStop (s : State) (n : Nat) (h_s : State.Good s) :
    State.Good (State.settleStop s n) := by
  grind -lia -linarith -ring -order -ac [State.settleStop, = State.Good, good_when, good_endSession]

/-! ### LoadCh -/

theorem good_updLc (s : State) (k : Nat) (f : LcSt → LcSt) (h_s : State.Good s) :
    State.Good (State.updLc s k f) := by
  grind -lia -linarith -ring -order -ac [State.updLc, = State.Good]

theorem good_updRun (s : State) (j : Nat) (f : RunSt → RunSt) (h_s : State.Good s) :
    State.Good (State.updRun s j f) := by
  grind -lia -linarith -ring -order -ac [State.updRun, = State.Good]

theorem good_lcTurnOn (s : State) (k : Nat) (h_s : State.Good s) :
    State.Good (State.lcTurnOn s k) := by
  grind -lia -linarith -ring -order -ac [State.lcTurnOn, = State.Good, good_put, good_putBit, good_updLc]

theorem good_lcTurnOff (s : State) (k st : Nat) (h_s : State.Good s) :
    State.Good (State.lcTurnOff s k st) := by
  grind -lia -linarith -ring -order -ac [State.lcTurnOff, good_put, good_putBit, good_clr]

theorem good_lcCommand (s : State) (k : Nat) (b : Bool) (h_s : State.Good s) :
    State.Good (State.lcCommand s k b) := by
  grind -lia -linarith -ring -order -ac [State.lcCommand, = State.Good, good_updLc]

theorem good_lcTake (s : State) (k : Nat) (b : Bool) (h_s : State.Good s) :
    State.Good (State.lcTake s k b) := by
  grind -lia -linarith -ring -order -ac [State.lcTake, = State.Good, good_updLc, good_putB, good_lcTurnOn, good_put,
    good_putBit, good_lcTurnOff]

theorem good_lcApply (s : State) (k : Nat) (h_s : State.Good s) :
    State.Good (State.lcApply s k) := by
  grind -lia -linarith -ring -order -ac [State.lcApply, = State.Good, good_lcTake]

theorem good_driveHalf (s : State) (k : Nat) (high : Bool) (h_s : State.Good s) :
    State.Good (State.driveHalf s k high) := by
  grind -lia -linarith -ring -order -ac [State.driveHalf, good_put, good_putB, good_putBit]

theorem good_pairMode (s : State) (j mode : Nat) (h_s : State.Good s) :
    State.Good (State.pairMode s j mode) := by
  grind -lia -linarith -ring -order -ac [State.pairMode, good_put, good_driveHalf]

theorem good_endRun (s : State) (j result : Nat) (h_s : State.Good s) :
    State.Good (State.endRun s j result) := by
  grind -lia -linarith -ring -order -ac [State.endRun, = State.Good, good_pairMode, good_put, good_putSat, good_updRun]

theorem good_coast (s : State) (j : Nat) (h_s : State.Good s) :
    State.Good (State.coast s j) := by
  grind -lia -linarith -ring -order -ac [State.coast, = State.Good, good_pairMode, good_set1, good_updRun, good_forEach,
    good_replyTo]

theorem good_noRun (s : State) (j : Nat) (h_s : State.Good s) :
    State.Good (State.noRun s j) := by
  grind -lia -linarith -ring -order -ac [State.noRun, good_put]

theorem good_cutRun (s : State) (j : Nat) (h_s : State.Good s) :
    State.Good (State.cutRun s j) := by
  grind -lia -linarith -ring -order -ac [State.cutRun, good_endRun, good_put, good_coast]

theorem good_lcEvent (s : State) (k : Nat) (h_s : State.Good s) :
    State.Good (State.lcEvent s k) := by
  grind -lia -linarith -ring -order -ac [State.lcEvent, = State.Good, good_inc, good_set1, good_cutRun, good_raise,
    good_lcTurnOff, good_putBit, good_updLc]

theorem good_clampSum (s : State) (k : Nat) (h_s : State.Good s) :
    State.Good (State.clampSum s k) := by
  grind -lia -linarith -ring -order -ac [State.clampSum, = State.Good, good_updLc, good_putSat]

theorem good_lcCycle (s : State) (k : Nat) (t : Int) (h_s : State.Good s) :
    State.Good (State.lcCycle s k t) := by
  grind -lia -linarith -ring -order -ac [State.lcCycle, = State.Good, good_updLc, good_inc, good_wearCycle]

theorem good_showIsns (s : State) (h_s : State.Good s) :
    State.Good (State.showIsns s) := by
  grind -lia -linarith -ring -order -ac [State.showIsns, = State.Good]

theorem good_lcSum (s : State) (h_s : State.Good s) :
    State.Good (State.lcSum s) := by
  grind -lia -linarith -ring -order -ac [State.lcSum, = State.Good, good_putSat, good_showIsns]

theorem good_lcMeasure (s : State) (k : Nat) (m : Int × Int × Int) (h_s : State.Good s) :
    State.Good (State.lcMeasure s k m) := by
  grind -lia -linarith -ring -order -ac [State.lcMeasure, = State.Good, good_updLc, good_puti, good_lcCycle]

theorem good_lcBeat (s : State) (l : List (Int × Int × Int)) (h_s : State.Good s) :
    State.Good (State.lcBeat s l) := by
  grind -lia -linarith -ring -order -ac [State.lcBeat, good_forEach, good_when, good_lcMeasure, good_lcSum]

theorem good_isnsSelect (s : State) (h_s : State.Good s) :
    State.Good (State.isnsSelect s) := by
  grind -lia -linarith -ring -order -ac [State.isnsSelect, = State.Good, good_showIsns]

theorem good_lcSafe (s : State) (h_s : State.Good s) :
    State.Good (State.lcSafe s) := by
  grind -lia -linarith -ring -order -ac [State.lcSafe, = State.Good, good_forUpTo, good_lcTake, good_updLc]

theorem good_motorOff (s : State) (j : Nat) (h_s : State.Good s) :
    State.Good (State.motorOff s j) := by
  grind -lia -linarith -ring -order -ac [State.motorOff, = State.Good, good_endRun, good_noRun, good_updRun, good_coast]

theorem good_lcSetting (s : State) (h_s : State.Good s) :
    State.Good (State.lcSetting s) := by
  grind -lia -linarith -ring -order -ac [State.lcSetting, = State.Good, good_forUpTo, good_motorOff, good_lcTurnOff,
    good_clr, good_updLc]

theorem good_lcInit (s : State) (k : Nat) (h_s : State.Good s) :
    State.Good (State.lcInit s k) := by
  grind -lia -linarith -ring -order -ac [State.lcInit, good_put, good_lcTurnOff, good_set1, good_lcTurnOn, good_clr]

theorem good_execLcInrushEnd (k : Fin 16) (vOut vaux : Int) (s : State) (h_s : State.Good s) :
    AllNext State.Good (execLcInrushEnd k vOut vaux s) := by
  grind -lia -linarith -ring -order -ac [execLcInrushEnd, = allNext_iff, = State.Good, good_puti, good_put, good_updLc,
    good_raise, good_lcEvent]

theorem good_execLcCurrentLimitCutoff (k : Fin 16) (held : Nat) (s : State) (h_s : State.Good s) :
    AllNext State.Good (execLcCurrentLimitCutoff k held s) := by
  grind -lia -linarith -ring -order -ac [execLcCurrentLimitCutoff, = allNext_iff, good_raise, good_lcEvent, good_put]

theorem good_execLcThermalLatch (k : Fin 16) (temp : Int) (s : State) (h_s : State.Good s) :
    AllNext State.Good (execLcThermalLatch k temp s) := by
  grind -lia -linarith -ring -order -ac [execLcThermalLatch, = allNext_iff, good_puti, good_set1, good_raise, good_lcEvent]

theorem good_execLcThermalRelease (k : Fin 16) (temp : Int) (s : State) (h_s : State.Good s) :
    AllNext State.Good (execLcThermalRelease k temp s) := by
  grind -lia -linarith -ring -order -ac [execLcThermalRelease, = allNext_iff, = State.Good, good_puti, good_clr, good_put,
    good_updLc]

theorem good_execLcRetry (k : Fin 16) (s : State) (h_s : State.Good s) :
    AllNext State.Good (execLcRetry k s) := by
  grind -lia -linarith -ring -order -ac [execLcRetry, = allNext_iff, good_put, good_lcTurnOn]

theorem good_execLcRetryRefill (k : Fin 16) (s : State) (h_s : State.Good s) :
    AllNext State.Good (execLcRetryRefill k s) := by
  grind -lia -linarith -ring -order -ac [execLcRetryRefill, = allNext_iff, good_put]

theorem good_unclear (s : State) (k : Nat) (h_s : State.Good s) :
    State.Good (State.unclear s k) := by
  grind -lia -linarith -ring -order -ac [State.unclear, = State.Good, good_amendReply]

theorem good_execLcClampEvent (k : Fin 16) (e : Nat) (s : State) (h_s : State.Good s) :
    AllNext State.Good (execLcClampEvent k e s) := by
  grind -lia -linarith -ring -order -ac [execLcClampEvent, = allNext_iff, = State.Good, good_putSat, good_updLc,
    good_clampSum, good_lcTurnOff, good_set1, good_putBit, good_unclear, good_raise]

theorem good_execLcOpenLoad (k : Fin 16) (iUa vauxMv : Nat) (s : State) (h_s : State.Good s) :
    AllNext State.Good (execLcOpenLoad k iUa vauxMv s) := by
  grind -lia -linarith -ring -order -ac [execLcOpenLoad, = allNext_iff, good_set1, good_raise]

theorem good_execLcOpenLoadClear (k : Fin 16) (o : OpenObs) (s : State) (h_s : State.Good s) :
    AllNext State.Good (execLcOpenLoadClear k o s) := by
  grind -lia -linarith -ring -order -ac [execLcOpenLoadClear, = allNext_iff, good_clr]

theorem good_execLcStuck (k : Fin 16) (vOut vaux : Int) (s : State) (h_s : State.Good s) :
    AllNext State.Good (execLcStuck k vOut vaux s) := by
  grind -lia -linarith -ring -order -ac [execLcStuck, = allNext_iff, = State.Good, good_updLc, good_puti, good_putBit,
    good_set1, good_raise]

theorem good_execMotorStall (j : Fin 4) (i held : Nat) (s : State) (h_s : State.Good s) :
    AllNext State.Good (execMotorStall j i held s) := by
  grind -lia -linarith -ring -order -ac [execMotorStall, = allNext_iff, good_endRun]

theorem good_execMotorRunTimeout (j : Fin 4) (s : State) (h_s : State.Good s) :
    AllNext State.Good (execMotorRunTimeout j s) := by
  grind -lia -linarith -ring -order -ac [execMotorRunTimeout, = allNext_iff, good_endRun]

theorem good_execMotorBrakeEnd (j : Fin 4) (s : State) (h_s : State.Good s) :
    AllNext State.Good (execMotorBrakeEnd j s) := by
  grind -lia -linarith -ring -order -ac [execMotorBrakeEnd, = allNext_iff, good_coast]

theorem good_motorApply (s : State) (j : Nat) (h_s : State.Good s) :
    State.Good (State.motorApply s j) := by
  grind -lia -linarith -ring -order -ac [State.motorApply, = State.Good, good_updRun, good_endRun, good_noRun, good_coast,
    good_pairMode, good_put]

theorem good_execLcShed (_x _y _z : Unit) (s : State) (h_s : State.Good s) :
    AllNext State.Good (execLcShed _x _y _z s) := by
  grind -lia -linarith -ring -order -ac [execLcShed, = allNext_iff, = State.Good, good_cutRun, good_lcTurnOff, good_putBit,
    good_set1, good_raise]

theorem good_execIsnsSelectionChange (sel : Fin 16) (s : State) (h_s : State.Good s) :
    AllNext State.Good (execIsnsSelectionChange sel s) := by
  grind -lia -linarith -ring -order -ac [execIsnsSelectionChange, = allNext_iff, = State.Good, good_isnsSelect]

theorem good_execLchDrive (mb : Fin 8) (s : State) (h_s : State.Good s) :
    AllNext State.Good (execLchDrive mb s) := by
  grind -lia -linarith -ring -order -ac [execLchDrive, = allNext_iff, good_command, good_reply, good_forUpTo, good_when,
    good_lcCommand]

theorem good_execLchMotor (mb : Fin 8) (s : State) (h_s : State.Good s) :
    AllNext State.Good (execLchMotor mb s) := by
  grind -lia -linarith -ring -order -ac [execLchMotor, = allNext_iff, = State.Good, good_command, good_reply, good_updRun,
    good_putBit]

theorem good_clearChannel (s : State) (r : CmdRef) (k : Nat) (h_s : State.Good s) :
    State.Good (State.clearChannel s r k) := by
  grind -lia -linarith -ring -order -ac [State.clearChannel, = State.Good, good_clr, good_putBit, good_clampSum, good_updLc,
    good_lcTurnOn, good_lcTurnOff, good_put]

theorem good_execLchClear (mb : Fin 8) (s : State) (h_s : State.Good s) :
    AllNext State.Good (execLchClear mb s) := by
  grind -lia -linarith -ring -order -ac [execLchClear, = allNext_iff, good_command, good_forUpTo, good_when,
    good_clearChannel, good_reply]

theorem good_execLchOlTest (mb : Fin 8) (vOut vaux : Int) (s : State) (h_s : State.Good s) :
    AllNext State.Good (execLchOlTest mb vOut vaux s) := by
  grind -lia -linarith -ring -order -ac [execLchOlTest, = allNext_iff, good_command, good_reply, good_draw]

/-! ### Outputs -/

theorem good_updFn (s : State) (k : Nat) (f : FnSt → FnSt) (h_s : State.Good s) :
    State.Good (State.updFn s k f) := by
  grind -lia -linarith -ring -order -ac [State.updFn, = State.Good]

theorem good_showOutputs (s : State) (h_s : State.Good s) :
    State.Good (State.showOutputs s) := by
  grind -lia -linarith -ring -order -ac [State.showOutputs, good_put]

theorem good_setElem (s : State) (path p : Nat) (on : Bool) (h_s : State.Good s) :
    State.Good (State.setElem s path p on) := by
  grind -lia -linarith -ring -order -ac [State.setElem, = State.Good, good_showOutputs]

theorem good_dropL (s : State) (p : Nat) (h_s : State.Good s) :
    State.Good (State.dropL s p) := by
  grind -lia -linarith -ring -order -ac [State.dropL, = State.Good, good_setElem]

theorem good_openElem (s : State) (path p : Nat) (h_s : State.Good s) :
    State.Good (State.openElem s path p) := by
  grind -lia -linarith -ring -order -ac [State.openElem, = State.Good, good_dropL, good_setElem]

theorem good_outputsOff (s : State) (h_s : State.Good s) :
    State.Good (State.outputsOff s) := by
  grind -lia -linarith -ring -order -ac [State.outputsOff, = State.Good, good_showOutputs]

theorem good_fnBoth (s : State) (k st : Nat) (h_s : State.Good s) :
    State.Good (State.fnBoth s k st) := by
  grind -lia -linarith -ring -order -ac [State.fnBoth, good_put]

theorem good_fnStatus (s : State) (h_s : State.Good s) :
    State.Good (State.fnStatus s) := by
  grind -lia -linarith -ring -order -ac [State.fnStatus, good_forUpTo, good_putBit]

theorem good_forceDrive (s : State) (n drive : Nat) (h_s : State.Good s) :
    State.Good (State.forceDrive s n drive) := by
  grind -lia -linarith -ring -order -ac [State.forceDrive, = State.Good, good_cmdPilot, good_updPilot, good_put]

theorem good_siteStop (s : State) (st : Nat) (h_s : State.Good s) :
    State.Good (State.siteStop s st) := by
  grind -lia -linarith -ring -order -ac [State.siteStop, = State.Good, good_put]

theorem good_readerOff (s : State) (h_s : State.Good s) :
    State.Good (State.readerOff s) := by
  grind -lia -linarith -ring -order -ac [State.readerOff, = State.Good, good_replyTo, good_wrN, good_wr128]

theorem good_dropUnlock (s : State) (h_s : State.Good s) :
    State.Good (State.dropUnlock s) := by
  grind -lia -linarith -ring -order -ac [State.dropUnlock, = State.Good, good_replyTo]

theorem good_holdOutputs (s : State) (h_s : State.Good s) :
    State.Good (State.holdOutputs s) := by
  grind -lia -linarith -ring -order -ac [State.holdOutputs, = State.Good, good_forUpTo, good_fnBoth, good_fnStatus,
    good_openElem, good_requestOpen, good_moduleOff, good_forceDrive, good_siteStop, good_readerOff, good_dropUnlock,
    good_lcSafe]

theorem good_settingOutputs (s : State) (h_s : State.Good s) :
    State.Good (State.settingOutputs s) := by
  grind -lia -linarith -ring -order -ac [State.settingOutputs, = State.Good, good_outputsOff, good_forUpTo, good_forceDrive,
    good_put, good_moduleOff, good_clr, good_siteStop, good_readerOff, good_dropUnlock, good_lcSetting]

/-! ### Modes -/

theorem good_enterSafeHold (s : State) (code : Nat) (h_s : State.Good s) :
    State.Good (State.enterSafeHold s code) := by
  grind -lia -linarith -ring -order -ac [State.enterSafeHold, = State.Good, good_setGstate, good_holdOutputs, good_put]

theorem good_raiseHold (s : State) (code src p0 p1 : Nat) (h_s : State.Good s) :
    State.Good (State.raiseHold s code src p0 p1) := by
  grind -lia -linarith -ring -order -ac [State.raiseHold, good_raise, good_enterSafeHold]

theorem good_enterSetting (s : State) (code : Nat) (h_s : State.Good s) :
    State.Good (State.enterSetting s code) := by
  grind -lia -linarith -ring -order -ac [State.enterSetting, good_setGstate, good_settingOutputs, good_set1, good_legalLog,
    good_put]

theorem good_raiseSetting (s : State) (code src p0 p1 : Nat) (h_s : State.Good s) :
    State.Good (State.raiseSetting s code src p0 p1) := by
  grind -lia -linarith -ring -order -ac [State.raiseSetting, good_raise, good_enterSetting]

theorem good_setStandbyOk (s : State) (b : Bool) (h_s : State.Good s) :
    State.Good (State.setStandbyOk s b) := by
  grind -lia -linarith -ring -order -ac [State.setStandbyOk, good_putB]

theorem good_keepReqs (s : State) (p : Nat → Bool → Bool) (h_s : State.Good s) :
    State.Good (State.keepReqs s p) := by
  grind -lia -linarith -ring -order -ac [State.keepReqs, = State.Good]

theorem good_setOwner (s : State) (lane : Nat) (h_s : State.Good s) :
    State.Good (State.setOwner s lane) := by
  grind -lia -linarith -ring -order -ac [State.setOwner, good_put, good_showStep, good_keepReqs]

theorem good_laneDomains (s : State) (lane st : Nat) (h_s : State.Good s) :
    State.Good (State.laneDomains s lane st) := by
  grind -lia -linarith -ring -order -ac [State.laneDomains, good_putBit]

theorem good_setLaneState (s : State) (lane v : Nat) (h_s : State.Good s) :
    State.Good (State.setLaneState s lane v) := by
  grind -lia -linarith -ring -order -ac [State.setLaneState, good_put, good_laneDomains]

theorem good_updRed (s : State) (f : RedSt → RedSt) (h_s : State.Good s) :
    State.Good (State.updRed s f) := by
  grind -lia -linarith -ring -order -ac [State.updRed, = State.Good]

theorem good_showSwap (s : State) (h_s : State.Good s) :
    State.Good (State.showSwap s) := by
  grind -lia -linarith -ring -order -ac [State.showSwap, good_putB]

theorem good_dropTest (s : State) (lane : Nat) (h_s : State.Good s) :
    State.Good (State.dropTest s lane) := by
  grind -lia -linarith -ring -order -ac [State.dropTest, = State.Good, good_when, good_clr, good_replyTo, good_updRed,
    good_showSwap]

theorem good_resetLane (s : State) (lane : Nat) (h_s : State.Good s) :
    State.Good (State.resetLane s lane) := by
  grind -lia -linarith -ring -order -ac [State.resetLane, = State.Good, good_dropTest, good_setLaneState, good_inc,
    good_setStandbyOk, good_put, good_clr, good_storedStep, good_keepReqs, good_updRed]

theorem good_loseStandby (s : State) (fault : Bool) (h_s : State.Good s) :
    State.Good (State.loseStandby s fault) := by
  grind -lia -linarith -ring -order -ac [State.loseStandby, = State.Good, good_setGstate, good_resetLane, good_updRed,
    good_when, good_set1, good_raise]

theorem good_resign (s : State) (lane code : Nat) (h_s : State.Good s) :
    State.Good (State.resign s lane code) := by
  grind -lia -linarith -ring -order -ac [State.resign, = State.Good, good_setLaneState, good_updRed]

theorem good_moveOwner (s : State) (code : Nat) (h_s : State.Good s) :
    State.Good (State.moveOwner s code) := by
  grind -lia -linarith -ring -order -ac [State.moveOwner, good_setOwner, good_set1, good_wrN, good_put, good_inc]

theorem good_loseOwner (s : State) (code p1 off : Nat) (h_s : State.Good s) :
    State.Good (State.loseOwner s code p1 off) := by
  grind -lia -linarith -ring -order -ac [State.loseOwner, = State.Good, good_raise, good_resetLane, good_set1,
    good_moveOwner, good_setLaneState, good_updRed, good_raiseHold]

theorem good_updUpd (s : State) (f : UpdSt → UpdSt) (h_s : State.Good s) :
    State.Good (State.updUpd s f) := by
  grind -lia -linarith -ring -order -ac [State.updUpd, = State.Good]

theorem good_startRestore (s : State) (comp : Nat) (h_s : State.Good s) :
    State.Good (State.startRestore s comp) := by
  grind -lia -linarith -ring -order -ac [State.startRestore, = State.Good, good_updUpd, good_put]

theorem good_actFail (s : State) (h_s : State.Good s) :
    State.Good (State.actFail s) := by
  grind -lia -linarith -ring -order -ac [State.actFail, = State.Good, good_raise, good_set1, good_updUpd, good_startRestore,
    good_replyTo]

theorem good_actDone (s : State) (h_s : State.Good s) :
    State.Good (State.actDone s) := by
  grind -lia -linarith -ring -order -ac [State.actDone, = State.Good, good_updUpd, good_put, good_clr, good_set1, good_when,
    good_replyTo]

theorem good_actAbandon (s : State) (h_s : State.Good s) :
    State.Good (State.actAbandon s) := by
  grind -lia -linarith -ring -order -ac [State.actAbandon, = State.Good, good_updUpd, good_put, good_replyTo]

theorem good_actStage (s : State) (n : Nat) (f : State → State) (h_s : State.Good s) (h_f : ∀ u, State.Good u → State.Good (f u)) :
    State.Good (State.actStage s n f) := by
  grind -lia -linarith -ring -order -ac [State.actStage, = State.Good, good_actAbandon, good_updUpd]

/-! ### SafetyFn -/

theorem good_setPath (s : State) (path k v : Nat) (h_s : State.Good s) :
    State.Good (State.setPath s path k v) := by
  grind -lia -linarith -ring -order -ac [State.setPath, good_put]

theorem good_openMask (s : State) (path k : Nat) (h_s : State.Good s) :
    State.Good (State.openMask s path k) := by
  grind -lia -linarith -ring -order -ac [State.openMask, good_forUpTo, good_when, good_openElem]

theorem good_hwClose (s : State) (h_s : State.Good s) :
    State.Good (State.hwClose s) := by
  grind -lia -linarith -ring -order -ac [State.hwClose, good_forUpTo, good_when, good_setElem]

theorem good_setClear (s : State) (path k : Nat) (clear : Bool) (h_s : State.Good s) :
    State.Good (State.setClear s path k clear) := by
  grind -lia -linarith -ring -order -ac [State.setClear, = State.Good]

theorem good_evalFn (s : State) (path k : Nat) (h_s : State.Good s) :
    State.Good (State.evalFn s path k) := by
  grind -lia -linarith -ring -order -ac [State.evalFn, good_setClear, good_setPath, good_openMask, good_set1, good_inc,
    good_raise]

theorem good_fnFault (s : State) (k code : Nat) (h_s : State.Good s) :
    State.Good (State.fnFault s k code) := by
  grind -lia -linarith -ring -order -ac [State.fnFault, good_fnBoth, good_openMask, good_put, good_fnStatus]

theorem good_inputFault (s : State) (k code : Nat) (h_s : State.Good s) :
    State.Good (State.inputFault s k code) := by
  grind -lia -linarith -ring -order -ac [State.inputFault, good_forUpTo, good_when, good_fnFault]

theorem good_fnHeal (s : State) (k : Nat) (h_s : State.Good s) :
    State.Good (State.fnHeal s k) := by
  grind -lia -linarith -ring -order -ac [State.fnHeal, = State.Good, good_fnBoth, good_put, good_fnStatus]

theorem good_trackFn (s : State) (k : Nat) (h_s : State.Good s) :
    State.Good (State.trackFn s k) := by
  grind -lia -linarith -ring -order -ac [State.trackFn, = State.Good, good_updFn, good_putBit, good_when, good_putB]

theorem good_nameResets (s : State) (mask : Nat) (h_s : State.Good s) :
    State.Good (State.nameResets s mask) := by
  grind -lia -linarith -ring -order -ac [State.nameResets, = State.Good]

theorem good_resetButton (s : State) (f : Nat) (level : Bool) (h_s : State.Good s) :
    State.Good (State.resetButton s f level) := by
  grind -lia -linarith -ring -order -ac [State.resetButton, = State.Good, good_updFn, good_nameResets]

theorem good_tryUnlock (s : State) (h_s : State.Good s) :
    State.Good (State.tryUnlock s) := by
  grind -lia -linarith -ring -order -ac [State.tryUnlock, = State.Good, good_replyTo, good_lcCommand]

theorem good_latchPair (s : State) (so code : Nat) (h_s : State.Good s) :
    State.Good (State.latchPair s so code) := by
  grind -lia -linarith -ring -order -ac [State.latchPair, good_put, good_dropL, good_setElem, good_set1, good_inc,
    good_raise]

theorem good_execSafetyInputAccept (hw : Bool) (n : Fin 16) (run : SiRun) (us : Nat) (s : State) (h_s : State.Good s) :
    AllNext State.Good (execSafetyInputAccept hw n run us s) := by
  grind -lia -linarith -ring -order -ac [execSafetyInputAccept, = allNext_iff, = State.Good, good_putBit, good_trackFn,
    good_when, good_resetButton, good_forUpTo, good_evalFn, good_raiseTo, good_hwClose, good_fnHeal, good_fnStatus,
    good_tryUnlock]

theorem good_execDiscrepancyTimeout (k : Fin 8) (s : State) (h_s : State.Good s) :
    AllNext State.Good (execDiscrepancyTimeout k s) := by
  grind -lia -linarith -ring -order -ac [execDiscrepancyTimeout, = allNext_iff, = State.Good, good_set1, good_raise,
    good_inputFault]

theorem good_execTestPulse (st : Fin 4) (readback : Bool) (bad : Nat) (s : State) (h_s : State.Good s) :
    AllNext State.Good (execTestPulse st readback bad s) := by
  grind -lia -linarith -ring -order -ac [execTestPulse, = allNext_iff, = State.Good, good_putBit, good_set1, good_inc,
    good_raise, good_forUpTo, good_when, good_inputFault, good_updFn]

theorem good_execSafetyCycle (s : State) (h_s : State.Good s) : AllNext State.Good (execSafetyCycle s) := by
  have h1 : ∀ u : State, State.Good u → State.Good { u with saf := { u.saf with demandBeat := 0 } } := fun _ h => good_of h rfl rfl rfl rfl rfl
  have h2 : ∀ u : State, State.Good u → State.Good { u with saf := { u.saf with resets := 0, fresh := 0 } } :=
    fun _ h => good_of h rfl rfl rfl rfl rfl
  unfold execSafetyCycle
  split
  · apply AllNext.next
    apply good_tryUnlock
    apply good_fnStatus
    apply good_hwClose
    apply good_forUpTo
    · exact fun k u hu => good_updFn _ _ _ hu
    apply good_forUpTo
    · exact fun k u hu => good_fnHeal _ _ hu
    apply h2
    apply good_forUpTo
    · exact fun k u hu => good_when _ _ _ (fun v hv => good_when _ _ _ (fun w hw => good_setPath _ _ _ _ hw)
        (good_when _ _ _ (fun w hw => good_setPath _ _ _ _ hw) hv)) hu
    apply good_when
    · exact fun u hu => h1 _ (good_raiseTo _ _ _ hu)
    exact good_forUpTo _ _ _ (fun k u hu => good_evalFn _ _ _ (good_evalFn _ _ _ (good_trackFn _ _ hu))) h_s
  · exact AllNext.next h_s

theorem good_execHwPathCompare (agree : Bool) (s : State) (h_s : State.Good s) :
    AllNext State.Good (execHwPathCompare agree s) := by
  grind -lia -linarith -ring -order -ac [execHwPathCompare, = allNext_iff, = State.Good, good_set1, good_clr, good_raiseHold]

theorem good_execPathDisagree (k : Fin 8) (s : State) (h_s : State.Good s) :
    AllNext State.Good (execPathDisagree k s) := by
  grind -lia -linarith -ring -order -ac [execPathDisagree, = allNext_iff, = State.Good, good_set1, good_raise, good_fnFault]

theorem good_execStop1Expiry (p : Fin 12) (hw : Bool) (s : State) (h_s : State.Good s) :
    AllNext State.Good (execStop1Expiry p hw s) := by
  grind -lia -linarith -ring -order -ac [execStop1Expiry, = allNext_iff, = State.Good, good_setElem, good_dropL,
    good_tryUnlock]

theorem good_execLockFault (k : Fin 8) (s : State) (h_s : State.Good s) :
    AllNext State.Good (execLockFault k s) := by
  grind -lia -linarith -ring -order -ac [execLockFault, = allNext_iff, = State.Good, good_raise, good_fnFault]

theorem good_execSoOffPulse (k : Fin 24) (low restored : Bool) (vauxMv : Nat) (s : State) (h_s : State.Good s) :
    AllNext State.Good (execSoOffPulse k low restored vauxMv s) := by
  grind -lia -linarith -ring -order -ac [execSoOffPulse, = allNext_iff, = State.Good, good_when, good_latchPair]

theorem good_execSoOverload (k : Fin 24) (mA : Nat) (s : State) (h_s : State.Good s) :
    AllNext State.Good (execSoOverload k mA s) := by
  grind -lia -linarith -ring -order -ac [execSoOverload, = allNext_iff, good_latchPair]

theorem good_machineBeat (s : State) (p : Nat) (h_s : State.Good s) :
    State.Good (State.machineBeat s p) := by
  grind -lia -linarith -ring -order -ac [State.machineBeat, = State.Good, good_setElem]

theorem good_execEdmTimeout (p : Fin 12) (s : State) (h_s : State.Good s) :
    AllNext State.Good (execEdmTimeout p s) := by
  grind -lia -linarith -ring -order -ac [execEdmTimeout, = allNext_iff, = State.Good, good_latchPair]

theorem good_applySet (s : State) (h_s : State.Good s) :
    State.Good (State.applySet s) := by
  grind -lia -linarith -ring -order -ac [State.applySet, = State.Good, good_forUpTo, good_when, good_setElem,
    good_applyPilot, good_lcApply, good_machineBeat, good_motorApply]

theorem good_safLog (s : State) (type actor world old new : Nat) (digest : Nat) (h_s : State.Good s) :
    State.Good (State.safLog s type actor world old new digest) := by
  grind -linarith -ring -order -ac [State.safLog, = State.Good, good_wrN, good_set1]

theorem good_closeUnlock (s : State) (actor world : Nat) (h_s : State.Good s) :
    State.Good (State.closeUnlock s actor world) := by
  grind -lia -linarith -ring -order -ac [State.closeUnlock, good_clr, good_put, good_set1, good_safLog]

theorem good_wrongPassword (s : State) (port : Nat) (h_s : State.Good s) :
    State.Good (State.wrongPassword s port) := by
  grind -lia -linarith -ring -order -ac [State.wrongPassword, = State.Good, good_tamperA, good_set1, good_raise,
    good_putSat, good_safLog]

theorem good_execSafetyUnlockExpiry (s : State) (h_s : State.Good s) :
    AllNext State.Good (execSafetyUnlockExpiry s) := by
  grind -lia -linarith -ring -order -ac [execSafetyUnlockExpiry, = allNext_iff, good_closeUnlock]

theorem good_execPwdLockoutExpiry (s : State) (h_s : State.Good s) :
    AllNext State.Good (execPwdLockoutExpiry s) := by
  grind -lia -linarith -ring -order -ac [execPwdLockoutExpiry, = allNext_iff, = State.Good, good_clr, good_put]

theorem good_execSafUnlock (mb : Fin 8) (s : State) (h_s : State.Good s) :
    AllNext State.Good (execSafUnlock mb s) := by
  grind -lia -linarith -ring -order -ac [execSafUnlock, = allNext_iff, = State.Good, good_command, good_reply,
    good_jewelRefused, good_jewelUsed, good_set1, good_put, good_safLog, good_wrongPassword]

theorem good_execSafLock (mb : Fin 8) (s : State) (h_s : State.Good s) :
    AllNext State.Good (execSafLock mb s) := by
  grind -lia -linarith -ring -order -ac [execSafLock, = allNext_iff, good_command, good_closeUnlock, good_reply]

theorem good_execSafSetPassword (mb : Fin 8) (s : State) (h_s : State.Good s) :
    AllNext State.Good (execSafSetPassword mb s) := by
  grind -lia -linarith -ring -order -ac [execSafSetPassword, = allNext_iff, = State.Good, good_command, good_jewelUsed,
    good_updKey, good_setJewel, good_set1, good_raise, good_safLog, good_reply, good_jewelRefused, good_wrongPassword]

theorem good_execSafReset (mb : Fin 8) (s : State) (h_s : State.Good s) :
    AllNext State.Good (execSafReset mb s) := by
  grind -lia -linarith -ring -order -ac [execSafReset, = allNext_iff, = State.Good, good_command, good_reply,
    good_nameResets, good_forUpTo, good_when, good_put, good_hwClose]

theorem good_execSafGuard (mb : Fin 8) (s : State) (h_s : State.Good s) :
    AllNext State.Good (execSafGuard mb s) := by
  grind -lia -linarith -ring -order -ac [execSafGuard, = allNext_iff, = State.Good, good_command, good_reply, good_openMask,
    good_setPath, good_fnStatus, good_tryUnlock, good_when, good_lcCommand, good_dropUnlock]

theorem good_execSafReadLog (mb : Fin 8) (s : State) (h_s : State.Good s) :
    AllNext State.Good (execSafReadLog mb s) := by
  grind -lia -linarith -ring -order -ac [execSafReadLog, = allNext_iff, = State.Good, good_command, good_reply,
    good_laneWrite]

end Sys2Proof.Machine
end

