-- ==== Sys2Proof/Laws/Good2.lean ====
section
/-! SUPPORT. What each operation keeps (State.Good), one lemma good_op per operation op: lanes, Escapement, sensing, metering, the legal chain. -/
namespace Sys2Proof.Machine

/-! ### Journal -/

theorem good_updJnl (s : State) (f : JnlSt → JnlSt) (h_s : State.Good s) :
    State.Good (State.updJnl s f) := by
  grind -lia -linarith -ring -order -ac [State.updJnl, = State.Good, good_updRed]

theorem good_applyEntries (s : State) (h_s : State.Good s) :
    State.Good (State.applyEntries s) := by
  grind -lia -linarith -ring -order -ac [State.applyEntries, = State.Good, good_updJnl]

/-! ### Lanes -/

theorem good_wantSwap (s : State) (h_s : State.Good s) :
    State.Good (State.wantSwap s) := by
  grind -lia -linarith -ring -order -ac [State.wantSwap, = State.Good, good_updRed, good_showSwap]

theorem good_startTest (s : State) (lane mask : Nat) (command : Bool) (h_s : State.Good s) :
    State.Good (State.startTest s lane mask command) := by
  grind -lia -linarith -ring -order -ac [State.startTest, = State.Good, good_updRed, good_command, good_set1, good_put,
    good_showSwap]

theorem good_selfTestSlice (s : State) (percent failed : Nat) (h_s : State.Good s) :
    State.Good (State.selfTestSlice s percent failed) := by
  grind -lia -linarith -ring -order -ac [State.selfTestSlice, = State.Good, good_putSat, good_put, good_clr, good_set1,
    good_when, good_replyTo, good_updRed, good_raise, good_loseStandby]

theorem good_doSwap (s : State) (h_s : State.Good s) :
    State.Good (State.doSwap s) := by
  grind -lia -linarith -ring -order -ac [State.doSwap, = State.Good, good_setOwner, good_setLaneState, good_inc, good_set1,
    good_forUpTo, good_when, good_putBit, good_replyTo, good_updUpd, good_updRed, good_startTest]

theorem good_ageDay (s : State) (h_s : State.Good s) :
    State.Good (State.ageDay s) := by
  grind -lia -linarith -ring -order -ac [State.ageDay, = State.Good, good_updRed, good_putSat]

theorem good_execJournalEntryApply (own : BeatCrcs) (ownerFlag standbyFlag : Bool) (s : State) (h_s : State.Good s) :
    AllNext State.Good (execJournalEntryApply own ownerFlag standbyFlag s) := by
  grind -lia -linarith -ring -order -ac [execJournalEntryApply, = allNext_iff, = State.Good, good_within, good_applyEntries,
    good_updJnl, good_updRed, good_resign, good_loseStandby, good_set1, good_putSat, good_raise, good_when, good_wantSwap]

theorem good_execJournalAck (jseq : Nat) (s : State) (h_s : State.Good s) :
    AllNext State.Good (execJournalAck jseq s) := by
  grind -lia -linarith -ring -order -ac [execJournalAck, = allNext_iff, = State.Good, good_updRed, good_wrN, good_putSat]

theorem good_execJournalStall (s : State) (h_s : State.Good s) :
    AllNext State.Good (execJournalStall s) := by
  grind -lia -linarith -ring -order -ac [execJournalStall, = allNext_iff, = State.Good, good_within, good_raise,
    good_loseStandby]

theorem good_noLane (s : State) (code p1 : Nat) (h_s : State.Good s) :
    State.Good (State.noLane s code p1) := by
  grind -lia -linarith -ring -order -ac [State.noLane, = State.Good, good_setGstate, good_moveOwner, good_setLaneState,
    good_updRed, good_set1, good_setStandbyOk, good_raiseHold]

theorem good_pathFault (s : State) (m : Bool) (lane : Nat) (h_s : State.Good s) :
    State.Good (State.pathFault s m lane) := by
  grind -lia -linarith -ring -order -ac [State.pathFault, = State.Good, good_inc, good_updRed, good_set1, good_raise]

theorem good_voterChannels (s : State) (differs : Nat) (h_s : State.Good s) :
    State.Good (State.voterChannels s differs) := by
  grind -lia -linarith -ring -order -ac [State.voterChannels, = State.Good, good_when, good_inc, good_updRed, good_forUpTo,
    good_putBit, good_set1, good_raise, good_raiseHold]

theorem good_takeHearts (s : State) (own stb : Heart) (h_s : State.Good s) :
    State.Good (State.takeHearts s own stb) := by
  grind -lia -linarith -ring -order -ac [State.takeHearts, = State.Good, good_updRed]

theorem good_execHeartbeatVote (own stb : Heart) (differs : Fin 8) (s : State) (h_s : State.Good s) :
    AllNext State.Good (execHeartbeatVote own stb differs s) := by
  grind -lia -linarith -ring -order -ac [execHeartbeatVote, = allNext_iff, = State.Good, good_within, good_voterChannels,
    good_takeHearts, good_noLane, good_loseOwner, good_pathFault, good_clr, good_when, good_loseStandby, good_setLaneState]

theorem good_execResignation (lane : Fin 2) (off : Nat) (s : State) (h_s : State.Good s) :
    AllNext State.Good (execResignation lane off s) := by
  grind -lia -linarith -ring -order -ac [execResignation, = allNext_iff, = State.Good, good_within, good_noLane,
    good_loseOwner, good_loseStandby]

theorem good_recordTakeover (s : State) (t : Takeover) (ns : Nat) (h_s : State.Good s) :
    State.Good (State.recordTakeover s t ns) := by
  grind -lia -linarith -ring -order -ac [State.recordTakeover, = State.Good, good_put, good_raiseTo, good_updRed]

theorem good_takeoverLate (s : State) (t : Takeover) (h_s : State.Good s) :
    State.Good (State.takeoverLate s t) := by
  grind -lia -linarith -ring -order -ac [State.takeoverLate, = State.Good, good_updRed, good_raiseHold]

theorem good_execTakeoverLate (s : State) (h_s : State.Good s) :
    AllNext State.Good (execTakeoverLate s) := by
  grind -lia -linarith -ring -order -ac [execTakeoverLate, = allNext_iff, = State.Good, good_takeoverLate]

theorem good_execLaneResetRelease (lane : Fin 2) (s : State) (h_s : State.Good s) :
    AllNext State.Good (execLaneResetRelease lane s) := by
  grind -lia -linarith -ring -order -ac [execLaneResetRelease, = allNext_iff, = State.Good, good_setLaneState, good_putBit,
    good_updRed]

theorem good_resyncStep (s : State) (step digest : Nat) (h_s : State.Good s) :
    State.Good (State.resyncStep s step digest) := by
  grind -lia -linarith -ring -order -ac [State.resyncStep, = State.Good, good_updRed, good_set1, good_setLaneState,
    good_applyEntries]

theorem good_answerLane (s : State) (status param : Nat) (h_s : State.Good s) :
    State.Good (State.answerLane s status param) := by
  grind -lia -linarith -ring -order -ac [State.answerLane, = State.Good, good_replyTo, good_updRed]

theorem good_actResync (s : State) (h_s : State.Good s) :
    State.Good (State.actResync s) := by
  grind -lia -linarith -ring -order -ac [State.actResync, good_when, good_applyStep, good_actStage, good_put, good_wantSwap,
    good_actAbandon, good_actDone]

theorem good_actSecond (s : State) (h_s : State.Good s) :
    State.Good (State.actSecond s) := by
  grind -lia -linarith -ring -order -ac [State.actSecond, good_actStage, good_loseStandby]

theorem good_execLaneResyncDone (lane : Fin 2) (s : State) (h_s : State.Good s) :
    AllNext State.Good (execLaneResyncDone lane s) := by
  grind -lia -linarith -ring -order -ac [execLaneResyncDone, = allNext_iff, = State.Good, good_setLaneState,
    good_setStandbyOk, good_setGstate, good_put, good_set1, good_clr, good_updRed, good_answerLane, good_actResync]

theorem good_execResyncAttemptFail (lane : Fin 2) (failed : Bool) (s : State) (h_s : State.Good s) :
    AllNext State.Good (execResyncAttemptFail lane failed s) := by
  grind -lia -linarith -ring -order -ac [execResyncAttemptFail, = allNext_iff, = State.Good, good_put, good_set1,
    good_raise, good_updRed, good_when, good_actFail, good_setLaneState, good_answerLane]

theorem good_execResyncRetry (lane : Fin 2) (s : State) (h_s : State.Good s) :
    AllNext State.Good (execResyncRetry lane s) := by
  grind -lia -linarith -ring -order -ac [execResyncRetry, = allNext_iff, = State.Good, good_inc, good_updRed]

theorem good_execTourbillonDue (s : State) (h_s : State.Good s) :
    AllNext State.Good (execTourbillonDue s) := by
  grind -lia -linarith -ring -order -ac [execTourbillonDue, = allNext_iff, good_wantSwap]

theorem good_execSwapWaitTimeout (s : State) (h_s : State.Good s) :
    AllNext State.Good (execSwapWaitTimeout s) := by
  grind -lia -linarith -ring -order -ac [execSwapWaitTimeout, = allNext_iff, = State.Good, good_updRed, good_raise]

theorem good_execRedSwapTimeout (s : State) (h_s : State.Good s) :
    AllNext State.Good (execRedSwapTimeout s) := by
  grind -lia -linarith -ring -order -ac [execRedSwapTimeout, = allNext_iff, = State.Good, good_replyTo, good_updRed,
    good_showSwap]

theorem good_execRedSwap (mb : Fin 8) (s : State) (h_s : State.Good s) :
    AllNext State.Good (execRedSwap mb s) := by
  grind -lia -linarith -ring -order -ac [execRedSwap, = allNext_iff, = State.Good, good_command, good_reply, good_updRed,
    good_showSwap]

theorem good_execRedSelftest (mb : Fin 8) (s : State) (h_s : State.Good s) :
    AllNext State.Good (execRedSelftest mb s) := by
  grind -lia -linarith -ring -order -ac [execRedSelftest, = allNext_iff, = State.Good, good_command, good_reply,
    good_updRed, good_showSwap, good_startTest]

theorem good_execRedLaneRestart (mb : Fin 8) (s : State) (h_s : State.Good s) :
    AllNext State.Good (execRedLaneRestart mb s) := by
  grind -lia -linarith -ring -order -ac [execRedLaneRestart, = allNext_iff, = State.Good, good_command, good_reply,
    good_loseStandby, good_updRed]

theorem good_execRedLaneEnable (mb : Fin 8) (s : State) (h_s : State.Good s) :
    AllNext State.Good (execRedLaneEnable mb s) := by
  grind -lia -linarith -ring -order -ac [execRedLaneEnable, = allNext_iff, = State.Good, good_command, good_reply,
    good_setLaneState, good_put, good_inc, good_updRed]

theorem good_execRedInfo (mb : Fin 8) (s : State) (h_s : State.Good s) :
    AllNext State.Good (execRedInfo mb s) := by
  grind -lia -linarith -ring -order -ac [execRedInfo, = allNext_iff, good_command, good_reply, good_laneWrite]

/-! ### Escapement -/

theorem good_updEsc (s : State) (f : EscSt → EscSt) (h_s : State.Good s) :
    State.Good (State.updEsc s f) := by
  grind -lia -linarith -ring -order -ac [State.updEsc, = State.Good]

theorem good_setLates (s : State) (lane : Nat) (l : List Nat) (h_s : State.Good s) :
    State.Good (State.setLates s lane l) := by
  grind -lia -linarith -ring -order -ac [State.setLates, = State.Good, good_updEsc]

theorem good_showLate (s : State) (h_s : State.Good s) :
    State.Good (State.showLate s) := by
  grind -lia -linarith -ring -order -ac [State.showLate, good_put]

theorem good_laneFails (s : State) (lane code : Nat) (h_s : State.Good s) :
    State.Good (State.laneFails s lane code) := by
  grind -lia -linarith -ring -order -ac [State.laneFails, good_resign]

theorem good_lateBeat (s : State) (lane : Nat) (counted : Bool) (h_s : State.Good s) :
    State.Good (State.lateBeat s lane counted) := by
  grind -lia -linarith -ring -order -ac [State.lateBeat, = State.Good, good_set1, good_inc, good_wrN, good_raise,
    good_updEsc, good_setLates, good_laneFails]

theorem good_beatTimes (s : State) (a b : LaneObs) (h_s : State.Good s) :
    State.Good (State.beatTimes s a b) := by
  grind -lia -linarith -ring -order -ac [State.beatTimes, good_putSat, good_raiseTo, good_when, good_lateBeat]

theorem good_setQueue (s : State) (lane : Nat) (q : List Comp) (h_s : State.Good s) :
    State.Good (State.setQueue s lane q) := by
  grind -lia -linarith -ring -order -ac [State.setQueue, = State.Good, good_updEsc, good_when, good_putSat]

theorem good_setSlices (s : State) (lane : Nat) (q : List Comp) (h_s : State.Good s) :
    State.Good (State.setSlices s lane q) := by
  grind -lia -linarith -ring -order -ac [State.setSlices, = State.Good, good_updEsc]

theorem good_postComp (s : State) (lane : Nat) (c : Comp) (h_s : State.Good s) :
    State.Good (State.postComp s lane c) := by
  grind -lia -linarith -ring -order -ac [State.postComp, good_when, good_inc, good_set1, good_raiseLimited, good_setQueue]

theorem good_reserve (s : State) (lane : Nat) (l : List Comp) (h_s : State.Good s) :
    State.Good (State.reserve s lane l) := by
  grind -lia -linarith -ring -order -ac [State.reserve, = State.Good, good_updEsc]

theorem good_dropComp (s : State) (lane : Nat) (c : Comp) (h_s : State.Good s) :
    State.Good (State.dropComp s lane c) := by
  grind -lia -linarith -ring -order -ac [State.dropComp, = State.Good, good_when, good_inc, good_set1, good_raiseLimited]

theorem good_admitSlices (s : State) (lane : Nat) (h_s : State.Good s) :
    State.Good (State.admitSlices s lane) := by
  grind -lia -linarith -ring -order -ac [State.admitSlices, good_forEach, good_dropComp, good_setQueue, good_setSlices,
    good_reserve]

theorem good_showReserve (s : State) (h_s : State.Good s) :
    State.Good (State.showReserve s) := by
  grind -lia -linarith -ring -order -ac [State.showReserve, good_put]

theorem good_updSupply (s : State) (h_s : State.Good s) :
    State.Good (State.updSupply s) := by
  grind -lia -linarith -ring -order -ac [State.updSupply, good_put, good_set1]

theorem good_judgeCeil (s : State) (h_s : State.Good s) :
    State.Good (State.judgeCeil s) := by
  grind -lia -linarith -ring -order -ac [State.judgeCeil, good_putSat, good_put, good_when, good_clr, good_set1, good_raise]

theorem good_updCeil (s : State) (mw : Nat) (h_s : State.Good s) :
    State.Good (State.updCeil s mw) := by
  grind -lia -linarith -ring -order -ac [State.updCeil, = State.Good, good_updEsc, good_judgeCeil]

theorem good_sampleLane (s : State) (lane : Nat) (temp : Int) (h_s : State.Good s) :
    State.Good (State.sampleLane s lane temp) := by
  grind -lia -linarith -ring -order -ac [State.sampleLane, = State.Good, good_wearTemp, good_updEsc, good_when, good_raise,
    good_put, good_set1, good_puti]

theorem good_execEssentialOverrun (lane : Fin 2) (s : State) (h_s : State.Good s) :
    AllNext State.Good (execEssentialOverrun lane s) := by
  grind -lia -linarith -ring -order -ac [execEssentialOverrun, = allNext_iff, = State.Good, good_within, good_lateBeat,
    good_raise, good_when, good_set1, good_laneFails]

theorem good_execCmdLate (s : State) (h_s : State.Good s) :
    AllNext State.Good (execCmdLate s) := by
  grind -lia -linarith -ring -order -ac [execCmdLate, = allNext_iff, = State.Good, good_within, good_lateBeat, good_raise,
    good_laneFails]

theorem good_execCoreWatchdogExpiry (lane : Fin 2) (s : State) (h_s : State.Good s) :
    AllNext State.Good (execCoreWatchdogExpiry lane s) := by
  grind -lia -linarith -ring -order -ac [execCoreWatchdogExpiry, = allNext_iff, good_laneFails]

theorem good_execSramEccUncorrectable (lane : Fin 2) (s : State) (h_s : State.Good s) :
    AllNext State.Good (execSramEccUncorrectable lane s) := by
  grind -lia -linarith -ring -order -ac [execSramEccUncorrectable, = allNext_iff, good_laneFails]

theorem good_execComplicationPost (lane : Fin 2) (kind : Fin 8) (cost latest subject : Nat) (s : State) (h_s : State.Good s) :
    AllNext State.Good (execComplicationPost lane kind cost latest subject s) := by
  grind -lia -linarith -ring -order -ac [execComplicationPost, = allNext_iff, good_postComp]

theorem good_execComplicationOverrun (lane : Fin 2) (kind : Fin 8) (subject : Nat) (s : State) (h_s : State.Good s) :
    AllNext State.Good (execComplicationOverrun lane kind subject s) := by
  grind -lia -linarith -ring -order -ac [execComplicationOverrun, = allNext_iff, = State.Good, good_within, good_setSlices,
    good_when, good_inc, good_set1, good_raise]

theorem good_execLaneTempSample (a b : List Int) (caseT : Int) (aux : Nat) (s : State) (h_s : State.Good s) :
    AllNext State.Good (execLaneTempSample a b caseT aux s) := by
  grind -lia -linarith -ring -order -ac [execLaneTempSample, = allNext_iff, = State.Good, good_sampleLane, good_puti,
    good_wearTemp, good_updEsc]

theorem good_execBudgetPublish (s : State) (h_s : State.Good s) :
    AllNext State.Good (execBudgetPublish s) := by
  grind -lia -linarith -ring -order -ac [execBudgetPublish, = allNext_iff, = State.Good, good_wrN, good_put, good_putSat,
    good_puti, good_when, good_set1, good_raise, good_updEsc]

theorem good_execCompMask (mb : Fin 8) (s : State) (h_s : State.Good s) :
    AllNext State.Good (execCompMask mb s) := by
  grind -lia -linarith -ring -order -ac [execCompMask, = allNext_iff, good_command, good_reply, good_put]

theorem good_takeMask (s : State) (h_s : State.Good s) :
    State.Good (State.takeMask s) := by
  grind -lia -linarith -ring -order -ac [State.takeMask, good_forEach, good_when, good_put]

theorem good_execReserveTighten (mb : Fin 8) (s : State) (h_s : State.Good s) :
    AllNext State.Good (execReserveTighten mb s) := by
  grind -lia -linarith -ring -order -ac [execReserveTighten, = allNext_iff, good_command, good_reply, good_put,
    good_judgeCeil]

theorem good_execEscPlanInfo (mb : Fin 8) (s : State) (h_s : State.Good s) :
    AllNext State.Good (execEscPlanInfo mb s) := by
  grind -lia -linarith -ring -order -ac [execEscPlanInfo, = allNext_iff, good_command, good_reply]

/-! ### Sense -/

theorem good_updSns (s : State) (f : SnsSt → SnsSt) (h_s : State.Good s) :
    State.Good (State.updSns s f) := by
  grind -lia -linarith -ring -order -ac [State.updSns, = State.Good]

theorem good_overload (s : State) (n : Nat) (h_s : State.Good s) :
    State.Good (State.overload s n) := by
  grind -lia -linarith -ring -order -ac [State.overload, good_inc, good_raiseLimited]

theorem good_ringFrame (s : State) (f : Frame) (h_s : State.Good s) :
    State.Good (State.ringFrame s f) := by
  grind -lia -linarith -ring -order -ac [State.ringFrame, good_bothWrite]

theorem good_execFrameArrival (lane : Fin 2) (f : Frame) (s : State) (h_s : State.Good s) :
    AllNext State.Good (execFrameArrival lane f s) := by
  grind -lia -linarith -ring -order -ac [execFrameArrival, = allNext_iff, = State.Good, good_updSns, good_puti,
    good_ringFrame, good_forUpTo, good_putB, good_when, good_overload, good_raise]

theorem good_judgeFrames (s : State) (h_s : State.Good s) :
    State.Good (State.judgeFrames s) := by
  grind -lia -linarith -ring -order -ac [State.judgeFrames, = State.Good, good_updSns, good_lateBeat, good_raise, good_inc,
    good_when, good_legalLog]

theorem good_dualChannel (s : State) (n : Nat) (h_s : State.Good s) :
    State.Good (State.dualChannel s n) := by
  grind -lia -linarith -ring -order -ac [State.dualChannel, = State.Good, good_updSns, good_puti, good_set1, good_raise,
    good_clr]

theorem good_intakeChannel (s : State) (n : Nat) (h_s : State.Good s) :
    State.Good (State.intakeChannel s n) := by
  grind -lia -linarith -ring -order -ac [State.intakeChannel, = State.Good, good_dualChannel, good_updSns]

theorem good_intake (s : State) (h_s : State.Good s) :
    State.Good (State.intake s) := by
  grind -lia -linarith -ring -order -ac [State.intake, = State.Good, good_judgeFrames, good_forUpTo, good_intakeChannel,
    good_updSns]

theorem good_setRole (s : State) (k r : Nat) (h_s : State.Good s) :
    State.Good (State.setRole s k r) := by
  grind -lia -linarith -ring -order -ac [State.setRole, good_put]

theorem good_showSpares (s : State) (h_s : State.Good s) :
    State.Good (State.showSpares s) := by
  grind -lia -linarith -ring -order -ac [State.showSpares, good_put, good_set1, good_raise, good_clr]

theorem good_retire (s : State) (k : Nat) (h_s : State.Good s) :
    State.Good (State.retire s k) := by
  grind -lia -linarith -ring -order -ac [State.retire, good_setRole, good_showSpares]

theorem good_applyCal (s : State) (c : ModCal) (h_s : State.Good s) :
    State.Good (State.applyCal s c) := by
  grind -lia -linarith -ring -order -ac [State.applyCal, = State.Good, good_updSns, good_putSat, good_puti, good_inc,
    good_raise, good_retire]

theorem good_rescale (s : State) (num den : Int) (h_s : State.Good s) :
    State.Good (State.rescale s num den) := by
  grind -lia -linarith -ring -order -ac [State.rescale, = State.Good, good_updSns]

theorem good_useBandgap (s : State) (b : Nat) (d10 : Int) (h_s : State.Good s) :
    State.Good (State.useBandgap s b d10) := by
  grind -lia -linarith -ring -order -ac [State.useBandgap, good_put, good_rescale]

theorem good_compareRefs (s : State) (d10 d0s : Int) (h_s : State.Good s) :
    State.Good (State.compareRefs s d10 d0s) := by
  grind -lia -linarith -ring -order -ac [State.compareRefs, = State.Good, good_puti, good_updSns, good_raise,
    good_useBandgap, good_set1, good_raiseEveryOutlet, good_legalLog, good_when, good_clr]

theorem good_connect (s : State) (w : Swing) (h_s : State.Good s) :
    State.Good (State.connect s w) := by
  grind -lia -linarith -ring -order -ac [State.connect, good_setRole, good_put, good_putB, good_set1, good_showSpares]

theorem good_disconnect (s : State) (w : Swing) (h_s : State.Good s) :
    State.Good (State.disconnect s w) := by
  grind -lia -linarith -ring -order -ac [State.disconnect, good_setRole, good_clr, good_showSpares]

theorem good_commitSwing (s : State) (w : Swing) (h_s : State.Good s) :
    State.Good (State.commitSwing s w) := by
  grind -lia -linarith -ring -order -ac [State.commitSwing, = State.Good, good_put, good_setRole, good_clr, good_when,
    good_updSns, good_inc, good_showSpares, good_replyTo]

theorem good_swingsCommit (s : State) (h_s : State.Good s) :
    State.Good (State.swingsCommit s) := by
  grind -lia -linarith -ring -order -ac [State.swingsCommit, = State.Good, good_forEach, good_commitSwing, good_updSns]

theorem good_stepSeven (s : State) (refs : Int × Int) (h_s : State.Good s) :
    State.Good (State.stepSeven s refs) := by
  grind -lia -linarith -ring -order -ac [State.stepSeven, good_compareRefs]

theorem good_swingBeat (s : State) (cals : List ModCal) (refs : Int × Int) (w : Swing) (h_s : State.Good s) :
    State.Good (State.swingBeat s cals refs w).1 := by
  grind -lia -linarith -ring -order -ac [State.swingBeat, = State.Good, good_disconnect, good_updSns, good_inc, good_set1,
    good_raise, good_setRole, good_stepSeven, good_applyCal, good_clr, good_connect, good_showSpares]

theorem good_showSwing (s : State) (h_s : State.Good s) :
    State.Good (State.showSwing s) := by
  grind -lia -linarith -ring -order -ac [State.showSwing, = State.Good, good_wrN, good_set1, good_put]

theorem good_swingsBeat (s : State) (cals : List ModCal) (refs : Int × Int) (h_s : State.Good s) :
    State.Good (State.swingsBeat s cals refs) := by
  grind -lia -linarith -ring -order -ac [State.swingsBeat, = State.Good, good_updSns, good_forEach, good_swingBeat,
    good_showSwing]

theorem good_swingsRestart (s : State) (h_s : State.Good s) :
    State.Good (State.swingsRestart s) := by
  grind -lia -linarith -ring -order -ac [State.swingsRestart, = State.Good, good_forEach, good_connect, good_updSns,
    good_showSwing]

theorem good_swingsWithdraw (s : State) (h_s : State.Good s) :
    State.Good (State.swingsWithdraw s) := by
  grind -lia -linarith -ring -order -ac [State.swingsWithdraw, = State.Good, good_forEach, good_disconnect, good_updSns,
    good_showSwing]

theorem good_startSwing (s : State) (n : Nat) (high : Bool) (spare : Nat) (wait : Option SwingWait) (routine : Bool) (h_s : State.Good s) :
    State.Good (State.startSwing s n high spare wait routine) := by
  grind -lia -linarith -ring -order -ac [State.startSwing, = State.Good, good_updSns, good_connect, good_showSwing]

theorem good_emergencySwing (s : State) (n : Nat) (high : Bool) (spare old : Nat) (cmd : Option CmdRef) (h_s : State.Good s) :
    State.Good (State.emergencySwing s n high spare old cmd) := by
  grind -lia -linarith -ring -order -ac [State.emergencySwing, = State.Good, good_updSns, good_connect, good_showSwing]

theorem good_execSwingInStart (n : Fin 128) (high : Bool) (spare : Fin 72) (s : State) (h_s : State.Good s) :
    AllNext State.Good (execSwingInStart n high spare s) := by
  grind -lia -linarith -ring -order -ac [execSwingInStart, = allNext_iff, = State.Good, good_emergencySwing, good_startSwing]

theorem good_execSwingRetry (n : Fin 128) (high : Bool) (spare : Fin 72) (s : State) (h_s : State.Good s) :
    AllNext State.Good (execSwingRetry n high spare s) := by
  grind -lia -linarith -ring -order -ac [execSwingRetry, = allNext_iff, = State.Good, good_startSwing]

theorem good_execModulatorFailed (k spare : Fin 72) (s : State) (h_s : State.Good s) :
    AllNext State.Good (execModulatorFailed k spare s) := by
  grind -lia -linarith -ring -order -ac [execModulatorFailed, = allNext_iff, = State.Good, good_disconnect, good_updSns,
    good_retire, good_raise, good_emergencySwing]

theorem good_ksStart (s : State) (n : Nat) (cmd : Option CmdRef) (h_s : State.Good s) :
    State.Good (State.ksStart s n cmd) := by
  grind -lia -linarith -ring -order -ac [State.ksStart, = State.Good, good_updSns]

theorem good_ksTake (s : State) (w : KsWin) (h_s : State.Good s) :
    State.Good (State.ksTake s w) := by
  grind -lia -linarith -ring -order -ac [State.ksTake, = State.Good, good_answer, good_replyTo, good_puti, good_clr,
    good_updSns, good_when, good_raise, good_set1]

theorem good_ksBeat (s : State) (h_s : State.Good s) :
    State.Good (State.ksBeat s) := by
  grind -lia -linarith -ring -order -ac [State.ksBeat, = State.Good, good_forEach, good_replyTo, good_ksTake, good_updSns]

theorem good_execKnownStateWindow (n : Fin 128) (s : State) (h_s : State.Good s) :
    AllNext State.Good (execKnownStateWindow n s) := by
  grind -lia -linarith -ring -order -ac [execKnownStateWindow, = allNext_iff, good_ksStart]

theorem good_execKsStale (n : Fin 128) (s : State) (h_s : State.Good s) :
    AllNext State.Good (execKsStale n s) := by
  grind -lia -linarith -ring -order -ac [execKsStale, = allNext_iff, good_set1, good_raise]

theorem good_execReferenceCompare (d10 d0s : Int) (s : State) (h_s : State.Good s) :
    AllNext State.Good (execReferenceCompare d10 d0s s) := by
  grind -lia -linarith -ring -order -ac [execReferenceCompare, = allNext_iff, = State.Good, good_compareRefs, good_updSns]

theorem good_execIbStuck (n : Fin 64) (s : State) (h_s : State.Good s) :
    AllNext State.Good (execIbStuck n s) := by
  grind -lia -linarith -ring -order -ac [execIbStuck, = allNext_iff, = State.Good, good_updSns, good_when, good_raise]

theorem good_execIbclkFault (k : Fin 8) (differs : Bool) (s : State) (h_s : State.Good s) :
    AllNext State.Good (execIbclkFault k differs s) := by
  grind -lia -linarith -ring -order -ac [execIbclkFault, = allNext_iff, good_putBit, good_when, good_raise]

theorem good_execFrameLoss (s : State) (h_s : State.Good s) :
    AllNext State.Good (execFrameLoss s) := by
  grind -lia -linarith -ring -order -ac [execFrameLoss, = allNext_iff, = State.Good, good_updSns, good_raiseEveryOutlet]

theorem good_execLinkDegraded (lane : Fin 2) (s : State) (h_s : State.Good s) :
    AllNext State.Good (execLinkDegraded lane s) := by
  grind -lia -linarith -ring -order -ac [execLinkDegraded, = allNext_iff, good_raise, good_laneFails]

theorem good_execSnsSwingNow (mb : Fin 8) (s : State) (h_s : State.Good s) :
    AllNext State.Good (execSnsSwingNow mb s) := by
  grind -lia -linarith -ring -order -ac [execSnsSwingNow, = allNext_iff, = State.Good, good_command, good_reply, good_updSns]

theorem good_execSnsCalAbort (mb : Fin 8) (s : State) (h_s : State.Good s) :
    AllNext State.Good (execSnsCalAbort mb s) := by
  grind -lia -linarith -ring -order -ac [execSnsCalAbort, = allNext_iff, = State.Good, good_command, good_updSns,
    good_disconnect, good_dropCmd, good_showSwing, good_reply, good_abortLate]

theorem good_execSnsKsCal (mb : Fin 8) (s : State) (h_s : State.Good s) :
    AllNext State.Good (execSnsKsCal mb s) := by
  grind -lia -linarith -ring -order -ac [execSnsKsCal, = allNext_iff, = State.Good, good_command, good_reply, good_updSns,
    good_ksStart]

theorem good_execSnsRefCheck (mb : Fin 8) (d10 d0s : Int) (s : State) (h_s : State.Good s) :
    AllNext State.Good (execSnsRefCheck mb d10 d0s s) := by
  grind -lia -linarith -ring -order -ac [execSnsRefCheck, = allNext_iff, good_command, good_compareRefs, good_reply]

theorem good_execSnsSpareRetest (mb : Fin 8) (cal : ModCal) (s : State) (h_s : State.Good s) :
    AllNext State.Good (execSnsSpareRetest mb cal s) := by
  grind -lia -linarith -ring -order -ac [execSnsSpareRetest, = allNext_iff, = State.Good, good_command, good_reply,
    good_applyCal, good_setRole, good_showSpares, good_inc]

theorem good_execSnsCapture (mb : Fin 8) (s : State) (h_s : State.Good s) :
    AllNext State.Good (execSnsCapture mb s) := by
  grind -lia -linarith -ring -order -ac [execSnsCapture, = allNext_iff, = State.Good, good_command, good_reply, good_updSns]

theorem good_captureBeat (s : State) (h_s : State.Good s) :
    State.Good (State.captureBeat s) := by
  grind -lia -linarith -ring -order -ac [State.captureBeat, = State.Good, good_laneWrite, good_updSns, good_replyTo]

/-! ### Metering -/

theorem good_updMtr (s : State) (f : MtrSt → MtrSt) (h_s : State.Good s) :
    State.Good (State.updMtr s f) := by
  grind -lia -linarith -ring -order -ac [State.updMtr, = State.Good]

theorem good_updChn (s : State) (n : Nat) (f : ChanSt → ChanSt) (h_s : State.Good s) :
    State.Good (State.updChn s n f) := by
  grind -lia -linarith -ring -order -ac [State.updChn, = State.Good, good_updMtr]

theorem good_updMet (s : State) (m : Nat) (f : MeterSt → MeterSt) (h_s : State.Good s) :
    State.Good (State.updMet s m f) := by
  grind -lia -linarith -ring -order -ac [State.updMet, = State.Good, good_updMtr]

theorem good_updPulse (s : State) (k : Nat) (f : PulseSt → PulseSt) (h_s : State.Good s) :
    State.Good (State.updPulse s k f) := by
  grind -lia -linarith -ring -order -ac [State.updPulse, = State.Good, good_updMtr]

theorem good_renewSegment (s : State) (n : Nat) (h_s : State.Good s) :
    State.Good (State.renewSegment s n) := by
  grind -lia -linarith -ring -order -ac [State.renewSegment, = State.Good, good_put, good_updChn]

theorem good_applyBand (s : State) (n : Nat) (h_s : State.Good s) :
    State.Good (State.applyBand s n) := by
  grind -lia -linarith -ring -order -ac [State.applyBand, good_put, good_clr, good_set1]

theorem good_bandBeat (s : State) (h_s : State.Good s) :
    State.Good (State.bandBeat s) := by
  grind -lia -linarith -ring -order -ac [State.bandBeat, = State.Good, good_put, good_forUpTo, good_applyBand,
    good_renewSegment, good_putB]

theorem good_repeatChannel (s : State) (n : Nat) (h_s : State.Good s) :
    State.Good (State.repeatChannel s n) := by
  grind -lia -linarith -ring -order -ac [State.repeatChannel, = State.Good, good_updChn]

theorem good_corrChannel (s : State) (n : Nat) (h_s : State.Good s) :
    State.Good (State.corrChannel s n) := by
  grind -lia -linarith -ring -order -ac [State.corrChannel, = State.Good, good_updChn]

theorem good_register (s : State) (m : Nat) (incs : List Int) (h_s : State.Good s) :
    State.Good (State.register s m incs) := by
  grind -lia -linarith -ring -order -ac [State.register, = State.Good, good_updMet, good_forUpTo, good_when, good_acc128]

theorem good_addIncs (s : State) (m : Nat) (raws : List Int) (h_s : State.Good s) :
    State.Good (State.addIncs s m raws) := by
  grind -lia -linarith -ring -order -ac [State.addIncs, = State.Good, good_updMet, good_register]

theorem good_sumCycle (s : State) (m : Nat) (h_s : State.Good s) :
    State.Good (State.sumCycle s m) := by
  grind -lia -linarith -ring -order -ac [State.sumCycle, = State.Good, good_updMet]

theorem good_sumClassB (s : State) (m : Nat) (h_s : State.Good s) :
    State.Good (State.sumClassB s m) := by
  grind -lia -linarith -ring -order -ac [State.sumClassB, = State.Good, good_updMet]

theorem good_judgeClassB (s : State) (m : Nat) (h_s : State.Good s) :
    State.Good (State.judgeClassB s m) := by
  grind -lia -linarith -ring -order -ac [State.judgeClassB, = State.Good, good_updMet]

theorem good_endCycle (s : State) (m len : Nat) (freq : Bool) (h_s : State.Good s) :
    State.Good (State.endCycle s m len freq) := by
  unfold State.endCycle
  dsimp only
  apply good_forEach
  · exact fun c u hu => good_when _ _ _ (fun v hv => good_renewSegment _ _ (good_applyBand _ _ (good_updChn _ _ _ hv))) hu
  apply good_updMet
  apply good_putB
  apply good_put
  apply good_put
  apply good_puti
  apply good_puti
  apply good_puti
  apply good_puti
  apply good_forUpTo
  · exact fun c u hu => good_puti _ _ _ hu
  apply good_forUpTo
  · exact fun c u hu => good_puti _ _ _ hu
  exact good_putSat _ _ _ (good_putSat _ _ _ h_s)

theorem good_beginCycles (s : State) (m : Nat) (h_s : State.Good s) :
    State.Good (State.beginCycles s m) := by
  grind -lia -linarith -ring -order -ac [State.beginCycles, = State.Good, good_updMet, good_forEach, good_when, good_updChn,
    good_applyBand, good_renewSegment, good_clr, good_legalLog]

theorem good_crossing (s : State) (m at_ : Nat) (h_s : State.Good s) :
    State.Good (State.crossing s m at_) := by
  grind -lia -linarith -ring -order -ac [State.crossing, = State.Good, good_updMet, good_beginCycles, good_clr,
    good_endCycle]

theorem good_reference (s : State) (m : Nat) (h_s : State.Good s) :
    State.Good (State.reference s m) := by
  grind -lia -linarith -ring -order -ac [State.reference, = State.Good, good_updMet, good_crossing]

theorem good_watchChannels (s : State) (m : Nat) (chans : List Nat) (h_s : State.Good s) :
    State.Good (State.watchChannels s m chans) := by
  grind -lia -linarith -ring -order -ac [State.watchChannels, = State.Good, good_inc, good_set1, good_updMet, good_when,
    good_raise, good_putB]

theorem good_meterWork (s : State) (m : Nat) (reg halted : Bool) (h_s : State.Good s) :
    State.Good (State.meterWork s m reg halted) := by
  grind -lia -linarith -ring -order -ac [State.meterWork, good_when, good_beginCycles, good_addIncs, good_sumCycle,
    good_sumClassB, good_reference]

theorem good_fixedEnd (s : State) (m : Nat) (h_s : State.Good s) :
    State.Good (State.fixedEnd s m) := by
  grind -lia -linarith -ring -order -ac [State.fixedEnd, good_beginCycles, good_endCycle]

theorem good_meterBeat (s : State) (m : Nat) (h_s : State.Good s) :
    State.Good (State.meterBeat s m) := by
  grind -lia -linarith -ring -order -ac [State.meterBeat, = State.Good, good_updMet, good_when, good_addIncs, good_sumCycle,
    good_sumClassB, good_fixedEnd, good_watchChannels, good_meterWork]

theorem good_pulseBeat (s : State) (k : Nat) (h_s : State.Good s) :
    State.Good (State.pulseBeat s k) := by
  grind -lia -linarith -ring -order -ac [State.pulseBeat, = State.Good, good_updPulse]

theorem good_execPulseStart (k : Fin 4) (s : State) (h_s : State.Good s) :
    AllNext State.Good (execPulseStart k s) := by
  grind -lia -linarith -ring -order -ac [execPulseStart, = allNext_iff, = State.Good, good_updPulse, good_inc, good_putB,
    good_when, good_set1, good_raiseLimited]

theorem good_execPulseEnd (k : Fin 4) (s : State) (h_s : State.Good s) :
    AllNext State.Good (execPulseEnd k s) := by
  grind -lia -linarith -ring -order -ac [execPulseEnd, = allNext_iff, = State.Good, good_updPulse]

theorem good_execMeterNoref (m : Fin 32) (s : State) (h_s : State.Good s) :
    AllNext State.Good (execMeterNoref m s) := by
  grind -lia -linarith -ring -order -ac [execMeterNoref, = allNext_iff, = State.Good, good_set1, good_raise,
    good_beginCycles, good_legalLog, good_endCycle, good_updMet]

theorem good_execMeterHalt (m : Fin 32) (s : State) (h_s : State.Good s) :
    AllNext State.Good (execMeterHalt m s) := by
  grind -lia -linarith -ring -order -ac [execMeterHalt, = allNext_iff, = State.Good, good_set1, good_legalLog, good_updMet,
    good_raise, good_stopOutlet]

theorem good_readInterval (s : State) (port m q : Nat) (h_s : State.Good s) :
    State.Good (State.readInterval s port m q) := by
  grind -lia -linarith -ring -order -ac [State.readInterval, = State.Good, good_updMtr]

theorem good_execIntervalRead (port : Fin 2) (m : Fin 32) (q : Fin 11) (s : State) (h_s : State.Good s) :
    AllNext State.Good (execIntervalRead port m q s) := by
  grind -lia -linarith -ring -order -ac [execIntervalRead, = allNext_iff, good_readInterval]

theorem good_fullSave (s : State) (ok : Bool) (h_s : State.Good s) :
    State.Good (State.fullSave s ok) := by
  grind -lia -linarith -ring -order -ac [State.fullSave, = State.Good, good_updMtr, good_put, good_when, good_set1,
    good_raise]

theorem good_deltaSave (s : State) (good : Bool) (h_s : State.Good s) :
    State.Good (State.deltaSave s good) := by
  grind -lia -linarith -ring -order -ac [State.deltaSave, = State.Good, good_updMtr, good_put]

theorem good_execDeltaSave (s : State) (h_s : State.Good s) :
    AllNext State.Good (execDeltaSave s) := by
  grind -lia -linarith -ring -order -ac [execDeltaSave, = allNext_iff, = State.Good, good_within, good_draw, good_deltaSave]

theorem good_execFullSave (ok : Bool) (s : State) (h_s : State.Good s) :
    AllNext State.Good (execFullSave ok s) := by
  grind -lia -linarith -ring -order -ac [execFullSave, = allNext_iff, = State.Good, good_within, good_fullSave]

theorem good_restoreFrom (s : State) (r : SaveRec) (h_s : State.Good s) :
    State.Good (State.restoreFrom s r) := by
  grind -lia -linarith -ring -order -ac [State.restoreFrom, = State.Good, good_forUpTo, good_wr128, good_updMtr]

theorem good_restoreTotals (s : State) (h_s : State.Good s) :
    State.Good (State.restoreTotals s).1 := by
  grind -lia -linarith -ring -order -ac [State.restoreTotals, good_restoreFrom, good_put, good_putSat, good_set1,
    good_raise, good_legalLog]

theorem good_metering (s : State) (h_s : State.Good s) :
    State.Good (State.metering s) := by
  grind -lia -linarith -ring -order -ac [State.metering, = State.Good, good_forUpTo, good_repeatChannel, good_corrChannel,
    good_bandBeat, good_meterBeat, good_when, good_legalLog, good_pulseBeat, good_inc, good_updMtr]

/-! ### Legal -/

theorem good_updLgl (s : State) (f : LglSt → LglSt) (h_s : State.Good s) (h : ∀ x, (f x).log = x.log) :
    State.Good (State.updLgl s f) :=
  good_of h_s rfl rfl rfl (h _) rfl

theorem good_showLocal (s : State) (h_s : State.Good s) :
    State.Good (State.showLocal s) := by
  grind -lia -linarith -ring -order -ac [State.showLocal, good_puti, good_putB]

theorem good_showActive (s : State) (h_s : State.Good s) :
    State.Good (State.showActive s) := by
  grind -lia -linarith -ring -order -ac [State.showActive, good_showLocal, good_forUpTo, good_wrN]

theorem good_fallbackAll (s : State) (h_s : State.Good s) :
    State.Good (State.fallbackAll s) := by
  grind -lia -linarith -ring -order -ac [State.fallbackAll, = State.Good, good_updLgl, good_showActive]

theorem good_initBounds (s : State) (h_s : State.Good s) :
    State.Good (State.initBounds s) := by
  grind -lia -linarith -ring -order -ac [State.initBounds, = State.Good, good_updLgl, good_showActive]

theorem good_demandValue (s : State) (i energy nominal mono boundary : Nat) (bad : Bool) (h_s : State.Good s) :
    State.Good (State.demandValue s i energy nominal mono boundary bad) := by
  grind -lia -linarith -ring -order -ac [State.demandValue, = State.Good, good_updLgl]

theorem good_closeDemand (s : State) (boundary : Nat) (bad : Bool) (h_s : State.Good s) :
    State.Good (State.closeDemand s boundary bad) := by
  grind -lia -linarith -ring -order -ac [State.closeDemand, = State.Good, good_forEach, good_demandValue, good_updLgl]

theorem good_closeBilling (s : State) (boundary flags : Nat) (h_s : State.Good s) :
    State.Good (State.closeBilling s boundary flags) := by
  grind -lia -linarith -ring -order -ac [State.closeBilling, = State.Good, good_updLgl, good_put, good_legalLog]

theorem good_switchTariff (s : State) (k : Nat) (h_s : State.Good s) :
    State.Good (State.switchTariff s k) := by
  grind -lia -linarith -ring -order -ac [State.switchTariff, = State.Good, good_updLgl, good_showActive]

theorem good_newGrid (s : State) (off : Int) (h_s : State.Good s) :
    State.Good (State.newGrid s off) := by
  grind -lia -linarith -ring -order -ac [State.newGrid, = State.Good, good_updLgl]

theorem good_startProgs (s : State) (old : List Prog) (h_s : State.Good s) :
    State.Good (State.startProgs s old) := by
  grind -lia -linarith -ring -order -ac [State.startProgs, = State.Good, good_fallbackAll, good_initBounds, good_showActive,
    good_forUpTo, good_when, good_updLgl]

theorem good_closeForward (s : State) (bad : Bool) (flags : Nat) (h_s : State.Good s) :
    State.Good (State.closeForward s bad flags).1 := by
  grind -lia -linarith -ring -order -ac [State.closeForward, good_when, good_closeDemand, good_closeBilling, good_forUpTo,
    good_switchTariff]

theorem good_settleSlew (s : State) (frac : Nat) (h_s : State.Good s) :
    State.Good (State.settleSlew s frac) := by
  grind -lia -linarith -ring -order -ac [State.settleSlew, = State.Good, good_updLgl]

theorem good_stepWall (s : State) (target frac : Nat) (h_s : State.Good s) :
    State.Good (State.stepWall s target frac) := by
  grind -lia -linarith -ring -order -ac [State.stepWall, = State.Good, good_updLgl]

theorem good_sampleChrono (s : State) (frac : Nat) (h_s : State.Good s) :
    State.Good (State.sampleChrono s frac) := by
  grind -lia -linarith -ring -order -ac [State.sampleChrono, = State.Good, good_wr128, good_putB, good_updLgl]

theorem good_takeWallSet (s : State) (old target kind frac : Nat) (h_s : State.Good s) :
    State.Good (State.takeWallSet s old target kind frac) := by
  grind -lia -linarith -ring -order -ac [State.takeWallSet, = State.Good, good_settleSlew, good_sampleChrono, good_updLgl,
    good_putB, good_legalLog, good_stepWall, good_clr, good_initBounds, good_raise, good_tamperA]

theorem good_chronoBeat (s : State) (frac : Nat) (h_s : State.Good s) :
    State.Good (State.chronoBeat s frac) := by
  grind -lia -linarith -ring -order -ac [State.chronoBeat, = State.Good, good_updLgl, good_when, good_settleSlew, good_clr,
    good_sampleChrono, good_takeWallSet]

theorem good_execChronoSecond (comp : Int) (s : State) (h_s : State.Good s) :
    AllNext State.Good (execChronoSecond comp s) := by
  grind -lia -linarith -ring -order -ac [execChronoSecond, = allNext_iff, = State.Good, good_settleSlew, good_updLgl,
    good_puti]

theorem good_loseChrono (s : State) (h_s : State.Good s) :
    State.Good (State.loseChrono s) := by
  grind -lia -linarith -ring -order -ac [State.loseChrono, = State.Good, good_updLgl, good_sampleChrono, good_set1,
    good_raise, good_legalLog, good_fallbackAll]

theorem good_tariffBeat (s : State) (h_s : State.Good s) :
    State.Good (State.tariffBeat s) := by
  grind -lia -linarith -ring -order -ac [State.tariffBeat, = State.Good, good_forEach, good_updLgl]

theorem good_boundaryBeat (s : State) (h_s : State.Good s) :
    State.Good (State.boundaryBeat s) := by
  grind -lia -linarith -ring -order -ac [State.boundaryBeat, = State.Good, good_closeForward, good_when, good_closeDemand,
    good_closeBilling, good_updLgl, good_replyTo]

theorem good_execDemandIntervalEnd (s : State) (h_s : State.Good s) :
    AllNext State.Good (execDemandIntervalEnd s) := by
  grind -lia -linarith -ring -order -ac [execDemandIntervalEnd, = allNext_iff, = State.Good, good_within, good_closeDemand]

theorem good_execDemandSubintervalEnd (s : State) (h_s : State.Good s) :
    AllNext State.Good (execDemandSubintervalEnd s) := by
  grind -lia -linarith -ring -order -ac [execDemandSubintervalEnd, = allNext_iff, = State.Good, good_within,
    good_closeDemand]

theorem good_demandFirst (s : State) (h_s : State.Good s) :
    State.Good (State.demandFirst s) := by
  grind -lia -linarith -ring -order -ac [State.demandFirst, good_when, good_closeDemand]

theorem good_billingFirst (s : State) (h_s : State.Good s) :
    State.Good (State.billingFirst s) := by
  grind -lia -linarith -ring -order -ac [State.billingFirst, good_demandFirst, good_when, good_closeBilling]

theorem good_execBillingPeriodEnd (s : State) (h_s : State.Good s) :
    AllNext State.Good (execBillingPeriodEnd s) := by
  grind -lia -linarith -ring -order -ac [execBillingPeriodEnd, = allNext_iff, = State.Good, good_within, good_billingFirst]

theorem good_execTariffSwitch (k : Fin 8) (s : State) (h_s : State.Good s) :
    AllNext State.Good (execTariffSwitch k s) := by
  grind -lia -linarith -ring -order -ac [execTariffSwitch, = allNext_iff, = State.Good, good_within, good_billingFirst,
    good_switchTariff]

theorem good_outage (s : State) (h_s : State.Good s) :
    State.Good (State.outage s) := by
  grind -lia -linarith -ring -order -ac [State.outage, = State.Good, good_updLgl, good_closeForward, good_when, good_raise,
    good_legalLog]

theorem good_tamperOpen (s : State) (kind : Nat) (h_s : State.Good s) :
    State.Good (State.tamperOpen s kind) := by
  grind -lia -linarith -ring -order -ac [State.tamperOpen, = State.Good, good_updLgl, good_tamperA]

theorem good_countAon (s : State) (h_s : State.Good s) :
    State.Good (State.countAon s) := by
  grind -lia -linarith -ring -order -ac [State.countAon, = State.Good, good_forEach, good_tamperAt, good_updLgl]

theorem good_execTamperCoverOpen (s : State) (h_s : State.Good s) :
    AllNext State.Good (execTamperCoverOpen s) := by
  grind -lia -linarith -ring -order -ac [execTamperCoverOpen, = allNext_iff, good_tamperOpen]

theorem good_execTamperDoorOpen (s : State) (h_s : State.Good s) :
    AllNext State.Good (execTamperDoorOpen s) := by
  grind -lia -linarith -ring -order -ac [execTamperDoorOpen, = allNext_iff, good_tamperOpen]

theorem good_execTamperClosedReading (door : Bool) (s : State) (h_s : State.Good s) :
    AllNext State.Good (execTamperClosedReading door s) := by
  grind -lia -linarith -ring -order -ac [execTamperClosedReading, = allNext_iff, = State.Good, good_updLgl]

theorem good_execTamperMagnetic (mT ms : Nat) (s : State) (h_s : State.Good s) :
    AllNext State.Good (execTamperMagnetic mT ms s) := by
  grind -lia -linarith -ring -order -ac [execTamperMagnetic, = allNext_iff, = State.Good, good_updLgl, good_tamperA]

theorem good_legalWrite (s : State) (h_s : State.Good s) :
    State.Good (State.legalWrite s) := by
  grind -lia -linarith -ring -order -ac [State.legalWrite, = State.Good, good_updLgl, good_tamperA]

theorem good_execLegalWriteRefused (s : State) (h_s : State.Good s) :
    AllNext State.Good (execLegalWriteRefused s) := by
  grind -lia -linarith -ring -order -ac [execLegalWriteRefused, = allNext_iff, good_legalWrite]

theorem good_showTb (s : State) (h_s : State.Good s) :
    State.Good (State.showTb s) := by
  grind -lia -linarith -ring -order -ac [State.showTb, good_wrN]

theorem good_execTamperBStart (m : Fin 32) (kind phase : Fin 3) (s : State) (h_s : State.Good s) :
    AllNext State.Good (execTamperBStart m kind phase s) := by
  grind -lia -linarith -ring -order -ac [execTamperBStart, = allNext_iff, = State.Good, good_updLgl, good_wrN, good_putBit,
    good_raise, good_legalLog, good_showTb]

theorem good_execTamperBEnd (m : Fin 32) (kind phase : Fin 3) (s : State) (h_s : State.Good s) :
    AllNext State.Good (execTamperBEnd m kind phase s) := by
  grind -lia -linarith -ring -order -ac [execTamperBEnd, = allNext_iff, = State.Good, good_updLgl, good_legalLog,
    good_showTb]

theorem good_execLglWallSet (mb : Fin 8) (s : State) (h_s : State.Good s) : AllNext State.Good (execLglWallSet mb s) := by
  refine AllNext.next (good_command _ _ _ _ _ _ h_s (fun c u hu => ?_))
  have h : ∀ (t k : Nat) (v : State), State.Good v → State.Good ((v.updLgl (fun x => { x with wallSet := some (t, k) })).reply c stOK 0) :=
    fun t k v hv => good_reply _ _ _ _ _ (good_updLgl v (fun x => { x with wallSet := some (t, k) }) hv (fun _ => rfl))
  dsimp only
  split
  · exact good_reply _ _ _ _ _ hu
  · split
    · exact h _ _ _ hu
    · split
      · exact h _ _ _ hu
      · split
        · exact h _ _ _ hu
        · split
          · exact good_reply _ _ _ _ _ (good_raise _ _ _ _ _ _ hu)
          · exact h _ _ _ hu

theorem good_execLglReadLog (mb : Fin 8) (s : State) (h_s : State.Good s) :
    AllNext State.Good (execLglReadLog mb s) := by
  grind -lia -linarith -ring -order -ac [execLglReadLog, = allNext_iff, good_command, good_reply, good_laneWrite]

theorem good_execLglReadBilling (mb : Fin 8) (s : State) (h_s : State.Good s) :
    AllNext State.Good (execLglReadBilling mb s) := by
  grind -lia -linarith -ring -order -ac [execLglReadBilling, = allNext_iff, = State.Good, good_command, good_reply,
    good_laneWrite]

theorem good_execLglReadTamperB (mb : Fin 8) (s : State) (h_s : State.Good s) :
    AllNext State.Good (execLglReadTamperB mb s) := by
  grind -lia -linarith -ring -order -ac [execLglReadTamperB, = allNext_iff, good_command, good_reply, good_laneWrite]

theorem good_execLglBillClose (mb : Fin 8) (s : State) (h_s : State.Good s) :
    AllNext State.Good (execLglBillClose mb s) := by
  grind -lia -linarith -ring -order -ac [execLglBillClose, = allNext_iff, = State.Good, good_command, good_reply,
    good_updLgl]

/-! ### Tokens -/

theorem good_updAcct (s : State) (a : Nat) (f : AcctSt → AcctSt) (h_s : State.Good s) :
    State.Good (State.updAcct s a f) := by
  grind -lia -linarith -ring -order -ac [State.updAcct, = State.Good, good_updLgl]

theorem good_showAcct (s : State) (a : Nat) (h_s : State.Good s) :
    State.Good (State.showAcct s a) := by
  grind -lia -linarith -ring -order -ac [State.showAcct, good_wr128, good_put, good_when, good_legalLog, good_raise]

theorem good_showFor (s : State) (v : LegalShow) (sec : Nat) (h_s : State.Good s) :
    State.Good (State.showFor s v sec) := by
  grind -lia -linarith -ring -order -ac [State.showFor, = State.Good, good_updLgl, good_put]

theorem good_showId (s : State) (h_s : State.Good s) :
    State.Good (State.showId s) := by
  grind -lia -linarith -ring -order -ac [State.showId, good_showFor]

theorem good_execLegalShowStep (s : State) (h_s : State.Good s) :
    AllNext State.Good (execLegalShowStep s) := by
  grind -lia -linarith -ring -order -ac [execLegalShowStep, = allNext_iff, = State.Good, good_showFor, good_updLgl, good_put]

theorem good_tokOutcome (s : State) (a cls sub r : Nat) (keypad : Bool) (h_s : State.Good s) :
    State.Good (State.tokOutcome s a cls sub r keypad) := by
  grind -lia -linarith -ring -order -ac [State.tokOutcome, good_put, good_when, good_inc, good_showFor]

theorem good_refuseToken (s : State) (a cls sub r : Nat) (keypad : Bool) (h_s : State.Good s) :
    State.Good (State.refuseToken s a cls sub r keypad) := by
  grind -lia -linarith -ring -order -ac [State.refuseToken, good_tokOutcome, good_legalLog, good_raiseLimited]

theorem good_takeToken (s : State) (a n : Nat) (cmd : Option CmdRef) (h_s : State.Good s) :
    State.Good (State.takeToken s a n cmd) := by
  grind -lia -linarith -ring -order -ac [State.takeToken, = State.Good, good_when, good_storeOp, good_put, good_updLgl,
    good_refuseToken, good_replyTo]

theorem good_writeAcct (s : State) (a : Nat) (r : Option AcctRec) (h_s : State.Good s) :
    State.Good (State.writeAcct s a r) := by
  grind -lia -linarith -ring -order -ac [State.writeAcct, = State.Good, good_updAcct]

theorem good_restoreAccts (s : State) (h_s : State.Good s) :
    State.Good (State.restoreAccts s) := by
  grind -lia -linarith -ring -order -ac [State.restoreAccts, = State.Good, good_forUpTo, good_updAcct]

theorem good_applyToken (s : State) (w : TokPend) (h_s : State.Good s) :
    State.Good (State.applyToken s w) := by
  grind -lia -linarith -ring -order -ac [State.applyToken, = State.Good, good_updAcct, good_when, good_wrN, good_writeAcct,
    good_showAcct, good_legalLog, good_tokOutcome, good_updLgl]

theorem good_execAccountRecordCommit (a : Fin 16) (ok : Bool) (s : State) (h_s : State.Good s) :
    AllNext State.Good (execAccountRecordCommit a ok s) := by
  grind -lia -linarith -ring -order -ac [execAccountRecordCommit, = allNext_iff, = State.Good, good_updLgl, good_applyToken,
    good_writeAcct, good_raise, good_refuseToken, good_replyTo]

theorem good_setKeys (s : State) (ks : List Nat) (h_s : State.Good s) :
    State.Good (State.setKeys s ks) := by
  grind -lia -linarith -ring -order -ac [State.setKeys, = State.Good, good_updLgl, good_put]

theorem good_keyEntry (s : State) (ks : List Nat) (h_s : State.Good s) : State.Good (State.keyEntry s ks) := by
  have h : ∀ l, State.Good (s.setKeys l) := fun l => good_setKeys _ _ h_s
  unfold State.keyEntry
  split
  · split
    · exact good_showId _ (h _)
    · exact h _
  · exact good_showFor _ _ _ (h _)
  · exact good_showFor _ _ _ (h _)
  · split
    · exact good_takeToken _ _ _ _ (h _)
    · exact h _
  · exact h _

theorem good_execKeypadKey (key : Fin 16) (s : State) (h_s : State.Good s) :
    AllNext State.Good (execKeypadKey key s) := by
  grind -lia -linarith -ring -order -ac [execKeypadKey, = allNext_iff, = State.Good, good_setKeys, good_keyEntry]

theorem good_execKeypadEntryTimeout (s : State) (h_s : State.Good s) :
    AllNext State.Good (execKeypadEntryTimeout s) := by
  grind -lia -linarith -ring -order -ac [execKeypadEntryTimeout, = allNext_iff, good_setKeys]

theorem good_creditBeat (s : State) (h_s : State.Good s) :
    State.Good (State.creditBeat s) := by
  grind -lia -linarith -ring -order -ac [State.creditBeat, = State.Good, good_forUpTo, good_updAcct, good_updLgl,
    good_showAcct]

theorem good_costBeat (s : State) (h_s : State.Good s) :
    State.Good (State.costBeat s) := by
  grind -lia -linarith -ring -order -ac [State.costBeat, = State.Good, good_forUpTo, good_acc128, good_updS]

theorem good_execLglShowId (mb : Fin 8) (s : State) (h_s : State.Good s) :
    AllNext State.Good (execLglShowId mb s) := by
  grind -lia -linarith -ring -order -ac [execLglShowId, = allNext_iff, good_command, good_showId, good_reply]

theorem good_execTokSubmit (mb : Fin 8) (s : State) (h_s : State.Good s) :
    AllNext State.Good (execTokSubmit mb s) := by
  grind -lia -linarith -ring -order -ac [execTokSubmit, = allNext_iff, = State.Good, good_command, good_takeToken,
    good_reply]

theorem good_execTokReadIds (mb : Fin 8) (s : State) (h_s : State.Good s) :
    AllNext State.Good (execTokReadIds mb s) := by
  grind -lia -linarith -ring -order -ac [execTokReadIds, = allNext_iff, good_command, good_reply, good_laneWrite]

end Sys2Proof.Machine
end

