-- ==== Sys2Proof/Laws/Good3.lean ====
section
/-! SUPPORT. What each operation keeps (State.Good), one lemma good_op per operation op: outlets, vehicles, protection, the battery bus, placement. -/
namespace Sys2Proof.Machine

/-! ### Outlets -/

theorem good_setAllowed (s : State) (n : Nat) (h_s : State.Good s) :
    State.Good (State.setAllowed s n) := by
  grind -lia -linarith -ring -order -ac [State.setAllowed, = State.Good, good_when, good_updS, good_putAllowed,
    good_refreshPilot]

theorem good_enterAuth (s : State) (k : Nat) (h_s : State.Good s) :
    State.Good (State.enterAuth s k) := by
  grind -lia -linarith -ring -order -ac [State.enterAuth, = State.Good, good_put, good_set1, good_updS]

theorem good_acceptSession (s : State) (k mode : Nat) (h_s : State.Good s) :
    State.Good (State.acceptSession s k mode) := by
  grind -lia -linarith -ring -order -ac [State.acceptSession, = State.Good, good_put, good_updS, good_refreshPilot]

theorem good_useAccount (s : State) (k a : Nat) (h_s : State.Good s) :
    State.Good (State.useAccount s k a) := by
  grind -lia -linarith -ring -order -ac [State.useAccount, good_put, good_set1]

theorem good_acceptToken (s : State) (k a : Nat) (h_s : State.Good s) :
    State.Good (State.acceptToken s k a) := by
  grind -lia -linarith -ring -order -ac [State.acceptToken, = State.Good, good_useAccount, good_updS, good_wrN,
    good_acceptSession]

theorem good_selfAccept (s : State) (k : Nat) (h_s : State.Good s) :
    State.Good (State.selfAccept s k) := by
  grind -lia -linarith -ring -order -ac [State.selfAccept, = State.Good, good_acceptSession, good_acceptToken]

theorem good_allocate (s : State) (n : Nat) (h_s : State.Good s) :
    State.Good (State.allocate s n) := by
  grind -lia -linarith -ring -order -ac [State.allocate, = State.Good, good_noContext, good_allocAt, good_put, good_when,
    good_updLink, good_updO, good_enterAuth, good_updS, good_useAccount, good_selfAccept, good_refreshPilot]

theorem good_plugIn (s : State) (n : Nat) (h_s : State.Good s) :
    State.Good (State.plugIn s n) := by
  grind -lia -linarith -ring -order -ac [State.plugIn, = State.Good, good_set1, good_allocate, good_updO]

theorem good_plugLate (s : State) (n : Nat) (h_s : State.Good s) :
    State.Good (State.plugLate s n) := by
  grind -lia -linarith -ring -order -ac [State.plugLate, = State.Good, good_updO, good_allocate]

theorem good_suspend (s : State) (k : Nat) (h_s : State.Good s) :
    State.Good (State.suspend s k) := by
  grind -lia -linarith -ring -order -ac [State.suspend, = State.Good, good_put, good_updO, good_requestOpen, good_setModule,
    good_refreshPilot]

theorem good_pilotError (s : State) (n code : Nat) (h_s : State.Good s) :
    State.Good (State.pilotError s n code) := by
  grind -lia -linarith -ring -order -ac [State.pilotError, = State.Good, good_raise, good_stopOutlet, good_updPilot,
    good_refreshPilot]

theorem good_startPeriod (s : State) (n : Nat) (h_s : State.Good s) :
    State.Good (State.startPeriod s n) := by
  grind -lia -linarith -ring -order -ac [State.startPeriod, = State.Good, good_updPilot, good_put]

theorem good_execPilotPeriodStart (n : Fin 12) (vHigh vLow : Int) (duty : Nat) (s : State) (h_s : State.Good s) :
    AllNext State.Good (execPilotPeriodStart n vHigh vLow duty s) := by
  grind -lia -linarith -ring -order -ac [execPilotPeriodStart, = allNext_iff, = State.Good, good_puti, good_putSat,
    good_updPilot, good_when, good_pilotError, good_startPeriod]

theorem good_leaveC (s : State) (n : Nat) (h_s : State.Good s) :
    State.Good (State.leaveC s n) := by
  grind -lia -linarith -ring -order -ac [State.leaveC, = State.Good, good_suspend, good_requestOpen, good_dropClose,
    good_updS, good_moduleOff]

theorem good_recognise (s : State) (n st : Nat) (h_s : State.Good s) :
    State.Good (State.recognise s n st) := by
  grind -lia -linarith -ring -order -ac [State.recognise, = State.Good, good_put, good_set1, good_updPilot, good_pilotError,
    good_when, good_stopSession, good_clr, good_updO, good_refreshPilot, good_plugIn, good_leaveC, good_updLink]

theorem good_execPilotStateRecognised (n : Fin 12) (s : State) (h_s : State.Good s) :
    AllNext State.Good (execPilotStateRecognised n s) := by
  grind -lia -linarith -ring -order -ac [execPilotStateRecognised, = allNext_iff, = State.Good, good_recognise,
    good_updPilot]

theorem good_execDeferredAllocation (n : Fin 12) (s : State) (h_s : State.Good s) :
    AllNext State.Good (execDeferredAllocation n s) := by
  grind -lia -linarith -ring -order -ac [execDeferredAllocation, = allNext_iff, good_allocate]

theorem good_execPilotInvalid (n : Fin 12) (s : State) (h_s : State.Good s) :
    AllNext State.Good (execPilotInvalid n s) := by
  grind -lia -linarith -ring -order -ac [execPilotInvalid, = allNext_iff, = State.Good, good_pilotError, good_updPilot]

theorem good_execPilotFHoldEnd (n : Fin 12) (s : State) (h_s : State.Good s) :
    AllNext State.Good (execPilotFHoldEnd n s) := by
  grind -lia -linarith -ring -order -ac [execPilotFHoldEnd, = allNext_iff, = State.Good, good_updPilot, good_when, good_put,
    good_updLink, good_refreshPilot]

theorem good_suspendLow (s : State) (n : Nat) (h_s : State.Good s) :
    State.Good (State.suspendLow s n) := by
  grind -lia -linarith -ring -order -ac [State.suspendLow, = State.Good, good_suspend]

theorem good_execProximityMeasure (n : Fin 12) (r : Nat) (s : State) (h_s : State.Good s) :
    AllNext State.Good (execProximityMeasure n r s) := by
  grind -lia -linarith -ring -order -ac [execProximityMeasure, = allNext_iff, = State.Good, good_put, good_updO, good_putB,
    good_setAllowed, good_suspendLow]

theorem good_execPpInvalid (n : Fin 12) (s : State) (h_s : State.Good s) :
    AllNext State.Good (execPpInvalid n s) := by
  grind -lia -linarith -ring -order -ac [execPpInvalid, = allNext_iff, = State.Good, good_updO, good_raise, good_stopOutlet,
    good_refreshPilot]

theorem good_execAuthTimeout (k : Fin 128) (s : State) (h_s : State.Good s) :
    AllNext State.Good (execAuthTimeout k s) := by
  grind -lia -linarith -ring -order -ac [execAuthTimeout, = allNext_iff, good_refuseSession]

theorem good_execPreauthExpiry (n : Fin 12) (s : State) (h_s : State.Good s) :
    AllNext State.Good (execPreauthExpiry n s) := by
  grind -lia -linarith -ring -order -ac [execPreauthExpiry, = allNext_iff, = State.Good, good_updO]

theorem good_execSuspendOpenExpiry (n : Fin 12) (s : State) (h_s : State.Good s) :
    AllNext State.Good (execSuspendOpenExpiry n s) := by
  grind -lia -linarith -ring -order -ac [execSuspendOpenExpiry, = allNext_iff, = State.Good, good_moduleOff,
    good_requestOpen]

theorem good_stopLate (s : State) (n : Nat) (h_s : State.Good s) :
    State.Good (State.stopLate s n) := by
  grind -lia -linarith -ring -order -ac [State.stopLate, good_set1, good_raise, good_requestOpen]

theorem good_execStopLate (n : Fin 12) (s : State) (h_s : State.Good s) :
    AllNext State.Good (execStopLate n s) := by
  grind -lia -linarith -ring -order -ac [execStopLate, = allNext_iff, = State.Good, good_stopLate]

theorem good_execV2gStopTimeout (n : Fin 12) (s : State) (h_s : State.Good s) :
    AllNext State.Good (execV2gStopTimeout n s) := by
  grind -lia -linarith -ring -order -ac [execV2gStopTimeout, = allNext_iff, = State.Good, good_updS, good_drive12,
    good_moduleOff, good_stopLate]

theorem good_execDcStopOpen (n : Fin 12) (s : State) (h_s : State.Good s) :
    AllNext State.Good (execDcStopOpen n s) := by
  grind -lia -linarith -ring -order -ac [execDcStopOpen, = allNext_iff, = State.Good, good_requestOpen]

theorem good_setLimits (s : State) (k : Nat) (c : Cmd) (off : Nat) (h_s : State.Good s) :
    State.Good (State.setLimits s k c off) := by
  grind -lia -linarith -ring -order -ac [State.setLimits, = State.Good, good_putSat, good_put, good_updS, good_putB,
    good_wrN]

theorem good_execSesAuthorise (mb : Fin 8) (s : State) (h_s : State.Good s) :
    AllNext State.Good (execSesAuthorise mb s) := by
  grind -lia -linarith -ring -order -ac [execSesAuthorise, = allNext_iff, = State.Good, good_command, good_ownerActs,
    good_reply, good_enterAuth, good_refuseSession, good_put, good_setLimits, good_updS, good_acceptToken, good_useAccount,
    good_acceptSession]

theorem good_execSesPreauth (mb : Fin 8) (s : State) (h_s : State.Good s) :
    AllNext State.Good (execSesPreauth mb s) := by
  grind -lia -linarith -ring -order -ac [execSesPreauth, = allNext_iff, = State.Good, good_command, good_reply, good_updO]

theorem good_execSesLimits (mb : Fin 8) (s : State) (h_s : State.Good s) :
    AllNext State.Good (execSesLimits mb s) := by
  grind -lia -linarith -ring -order -ac [execSesLimits, = allNext_iff, good_command, good_reply, good_setLimits]

theorem good_execSesStop (mb : Fin 8) (s : State) (h_s : State.Good s) :
    AllNext State.Good (execSesStop mb s) := by
  grind -lia -linarith -ring -order -ac [execSesStop, = allNext_iff, = State.Good, good_command, good_updS, good_reply,
    good_ownerActs, good_stopSession, good_refreshPilot]

theorem good_withdrawStop (s : State) (k : Nat) (h_s : State.Good s) :
    State.Good (State.withdrawStop s k) := by
  grind -lia -linarith -ring -order -ac [State.withdrawStop, = State.Good, good_put, good_updS, good_updLink, good_updProt,
    good_suspend, good_requestOpen, good_refreshPilot]

theorem good_execSesStopAbort (mb : Fin 8) (s : State) (h_s : State.Good s) :
    AllNext State.Good (execSesStopAbort mb s) := by
  grind -lia -linarith -ring -order -ac [execSesStopAbort, = allNext_iff, = State.Good, good_command, good_abortLate,
    good_ownerActs, good_withdrawStop, good_dropCmd, good_reply]

theorem good_execSesCollect (mb : Fin 8) (s : State) (h_s : State.Good s) :
    AllNext State.Good (execSesCollect mb s) := by
  grind -lia -linarith -ring -order -ac [execSesCollect, = allNext_iff, = State.Good, good_command, good_reply,
    good_laneWrite, good_updS]

theorem good_execSesAck (mb : Fin 8) (s : State) (h_s : State.Good s) :
    AllNext State.Good (execSesAck mb s) := by
  grind -lia -linarith -ring -order -ac [execSesAck, = allNext_iff, = State.Good, good_command, good_reply, good_put,
    good_updS, good_wr128]

theorem good_execOutEnable (mb : Fin 8) (s : State) (h_s : State.Good s) :
    AllNext State.Good (execOutEnable mb s) := by
  grind -lia -linarith -ring -order -ac [execOutEnable, = allNext_iff, = State.Good, good_command, good_reply,
    good_ownerActs, good_putB, good_refreshPilot]

/-! ### V2g -/

theorem good_execSlacParamReq (runId : Nat) (heard : List (Fin 12 × Nat)) (s : State) (h_s : State.Good s) :
    AllNext State.Good (execSlacParamReq runId heard s) := by
  grind -lia -linarith -ring -order -ac [execSlacParamReq, = allNext_iff, = State.Good, good_put, good_updLink,
    good_forEach, good_inc]

theorem good_execMnbcSound (n : Fin 12) (runId atten : Nat) (s : State) (h_s : State.Good s) :
    AllNext State.Good (execMnbcSound n runId atten s) := by
  grind -lia -linarith -ring -order -ac [execMnbcSound, = allNext_iff, = State.Good, good_updLink, good_putSat]

theorem good_execSlacMatch (n : Fin 12) (runId : Nat) (s : State) (h_s : State.Good s) :
    AllNext State.Good (execSlacMatch n runId s) := by
  grind -lia -linarith -ring -order -ac [execSlacMatch, = allNext_iff, = State.Good, good_drbg, good_put, good_set1,
    good_updLink]

theorem good_hlcFailed (s : State) (n : Nat) (h_s : State.Good s) :
    State.Good (State.hlcFailed s n) := by
  grind -lia -linarith -ring -order -ac [State.hlcFailed, = State.Good, good_updLink, good_put, good_refreshPilot,
    good_updS, good_stopSession, good_settleStop]

theorem good_execSlacTimeout (n : Fin 12) (s : State) (h_s : State.Good s) :
    AllNext State.Good (execSlacTimeout n s) := by
  grind -lia -linarith -ring -order -ac [execSlacTimeout, = allNext_iff, = State.Good, good_put, good_set1, good_raise,
    good_hlcFailed, good_updLink, good_updPilot, good_refreshPilot]

theorem good_v2gLate (s : State) (n k : Nat) (late : Bool) (h_s : State.Good s) :
    State.Good (State.v2gLate s n k late) := by
  grind -lia -linarith -ring -order -ac [State.v2gLate, good_when, good_inc, good_raise]

theorem good_ackSegs (s : State) (n : Nat) (h_s : State.Good s) :
    State.Good (State.ackSegs s n) := by
  grind -lia -linarith -ring -order -ac [State.ackSegs, = State.Good, good_updLink]

theorem good_respond (s : State) (n : Nat) (ongoing : Bool) (h_s : State.Good s) :
    State.Good (State.respond s n ongoing) := by
  grind -lia -linarith -ring -order -ac [State.respond, = State.Good, good_sendSeg, good_updLink]

theorem good_execSdpRequest (n : Fin 12) (late : Bool) (s : State) (h_s : State.Good s) :
    AllNext State.Good (execSdpRequest n late s) := by
  grind -lia -linarith -ring -order -ac [execSdpRequest, = allNext_iff, = State.Good, good_updLink, good_v2gLate]

theorem good_execSupportedAppProtocol (n : Fin 12) (ranked : List Nat) (late : Bool) (s : State) (h_s : State.Good s) :
    AllNext State.Good (execSupportedAppProtocol n ranked late s) := by
  grind -lia -linarith -ring -order -ac [execSupportedAppProtocol, = allNext_iff, = State.Good, good_v2gLate, good_ackSegs,
    good_put, good_respond, good_sendSeg, good_hlcFailed]

theorem good_precharge (s : State) (n v : Nat) (h_s : State.Good s) :
    State.Good (State.precharge s n v) := by
  grind -lia -linarith -ring -order -ac [State.precharge, good_setModule]

theorem good_startCharging (s : State) (n k : Nat) (h_s : State.Good s) :
    State.Good (State.startCharging s n k) := by
  grind -lia -linarith -ring -order -ac [State.startCharging, good_put, good_updClose, good_refreshPilot]

theorem good_v2gEffect (s : State) (n k : Nat) (m : V2gMsg) (h_s : State.Good s) :
    State.Good (State.v2gEffect s n k m).1 := by
  cases m <;> unfold State.v2gEffect <;> dsimp only
  case certificate =>
    split
    · exact h_s
    · split
      · exact good_updLink _ _ _ h_s
      · exact good_set1 _ _ (good_updLink _ _ _ h_s)
  all_goals grind -lia -linarith -ring -order -ac [good_wr128, good_updS, good_updLink, good_enterAuth,
    good_raise, good_set1, good_put, good_putSat, good_precharge, good_updClose, good_startCharging, good_suspend,
    good_leaveC, good_stopSession, good_settleStop]

theorem good_execV2gRequest (n : Fin 12) (m : V2gMsg) (late : Bool) (s : State) (h_s : State.Good s) :
    AllNext State.Good (execV2gRequest n m late s) := by
  grind -lia -linarith -ring -order -ac [execV2gRequest, = allNext_iff, = State.Good, good_v2gLate, good_ackSegs,
    good_v2gEffect, good_respond, good_sendSeg]

theorem good_clearEph (s : State) (n : Nat) (h_s : State.Good s) :
    State.Good (State.clearEph s n) := by
  grind -lia -linarith -ring -order -ac [State.clearEph, good_setJewel]

theorem good_tlsStop (s : State) (n : Nat) (h_s : State.Good s) :
    State.Good (State.tlsStop s n) := by
  grind -lia -linarith -ring -order -ac [State.tlsStop, = State.Good, good_updLink, good_clearEph, good_put, good_raise]

theorem good_execTlsClientHello (n : Fin 12) (offer : TlsOffer) (cost : Nat) (s : State) (h_s : State.Good s) :
    AllNext State.Good (execTlsClientHello n offer cost s) := by
  grind -lia -linarith -ring -order -ac [execTlsClientHello, = allNext_iff, = State.Good, good_tlsStop, good_drbg,
    good_setJewel, good_updKey, good_updLink, good_put, good_postComp]

theorem good_execTlsPkTimeout (n : Fin 12) (s : State) (h_s : State.Good s) :
    AllNext State.Good (execTlsPkTimeout n s) := by
  grind -lia -linarith -ring -order -ac [execTlsPkTimeout, = allNext_iff, = State.Good, good_put, good_tlsStop]

theorem good_v2gExpire (s : State) (n timer reason : Nat) (h_s : State.Good s) :
    State.Good (State.v2gExpire s n timer reason) := by
  grind -lia -linarith -ring -order -ac [State.v2gExpire, = State.Good, good_updLink, good_stopSession, good_settleStop]

theorem good_execCommSetupTimeout (n : Fin 12) (s : State) (h_s : State.Good s) :
    AllNext State.Good (execCommSetupTimeout n s) := by
  grind -lia -linarith -ring -order -ac [execCommSetupTimeout, = allNext_iff, good_v2gExpire]

theorem good_execSequenceTimeout (n : Fin 12) (s : State) (h_s : State.Good s) :
    AllNext State.Good (execSequenceTimeout n s) := by
  grind -lia -linarith -ring -order -ac [execSequenceTimeout, = allNext_iff, good_v2gExpire]

theorem good_execCpStateDetectionTimeout (n : Fin 12) (s : State) (h_s : State.Good s) :
    AllNext State.Good (execCpStateDetectionTimeout n s) := by
  grind -lia -linarith -ring -order -ac [execCpStateDetectionTimeout, = allNext_iff, good_v2gExpire]

theorem good_execV2gTrust (mb : Fin 8) (ok : Bool) (s : State) (h_s : State.Good s) :
    AllNext State.Good (execV2gTrust mb ok s) := by
  grind -lia -linarith -ring -order -ac [execV2gTrust, = allNext_iff, = State.Good, good_command, good_reply, good_drbg,
    good_updKey, good_setJewel, good_set1, good_laneWrite, good_raise]

theorem good_execV2gCertReply (mb : Fin 8) (s : State) (h_s : State.Good s) :
    AllNext State.Good (execV2gCertReply mb s) := by
  grind -lia -linarith -ring -order -ac [execV2gCertReply, = allNext_iff, = State.Good, good_command, good_reply,
    good_updLink]

/-! ### Protection -/

theorem good_setBias (s : State) (n d : Nat) (h_s : State.Good s) :
    State.Good (State.setBias s n d) := by
  grind -lia -linarith -ring -order -ac [State.setBias, = State.Good]

theorem good_openPair (s : State) (n : Nat) (load : Bool) (h_s : State.Good s) :
    State.Good (State.openPair s n load) := by
  grind -lia -linarith -ring -order -ac [State.openPair, = State.Good, good_setElem, good_when, good_setBias, good_put,
    good_incBy, good_updWeld, good_updClose, good_updProt, good_setModule, good_updS]

theorem good_openDue (s : State) (n : Nat) (h_s : State.Good s) :
    State.Good (State.openDue s n) := by
  grind -lia -linarith -ring -order -ac [State.openDue, good_openPair]

theorem good_openNow (s : State) (n : Nat) (h_s : State.Good s) :
    State.Good (State.openNow s n) := by
  grind -lia -linarith -ring -order -ac [State.openNow, good_openDue]

theorem good_uncmdOpen (s : State) (n : Nat) (h_s : State.Good s) :
    State.Good (State.uncmdOpen s n) := by
  grind -lia -linarith -ring -order -ac [State.uncmdOpen, = State.Good, good_raise, good_set1, good_openPair,
    good_stopSession, good_updS]

theorem good_uncommanded (s : State) (n : Nat) (h_s : State.Good s) :
    State.Good (State.uncommanded s n) := by
  grind -lia -linarith -ring -order -ac [State.uncommanded, good_uncmdOpen]

theorem good_driveTest (s : State) (n : Nat) (on : Bool) (h_s : State.Good s) :
    State.Good (State.driveTest s n on) := by
  grind -lia -linarith -ring -order -ac [State.driveTest, good_when, good_lcCommand]

theorem good_startTestRdc (s : State) (n : Nat) (h_s : State.Good s) :
    State.Good (State.startTestRdc s n) := by
  grind -lia -linarith -ring -order -ac [State.startTestRdc, = State.Good, good_updClose, good_driveTest]

theorem good_precheckAc (s : State) (n : Nat) (h_s : State.Good s) :
    State.Good (State.precheckAc s n) := by
  grind -lia -linarith -ring -order -ac [State.precheckAc, = State.Good, good_updClose, good_raise, good_updProt]

theorem good_testRdcBeat (s : State) (n idc : Nat) (h_s : State.Good s) :
    State.Good (State.testRdcBeat s n idc) := by
  grind -lia -linarith -ring -order -ac [State.testRdcBeat, = State.Good, good_updClose, good_driveTest, good_putSat]

theorem good_closeFail (s : State) (n : Nat) (h_s : State.Good s) :
    State.Good (State.closeFail s n) := by
  grind -lia -linarith -ring -order -ac [State.closeFail, good_set1, good_raiseOutlet]

theorem good_energise (s : State) (n : Nat) (h_s : State.Good s) :
    State.Good (State.energise s n) := by
  grind -lia -linarith -ring -order -ac [State.energise, = State.Good, good_setElem, good_put, good_updClose]

theorem good_weldFail (s : State) (n : Nat) (h_s : State.Good s) :
    State.Good (State.weldFail s n) := by
  grind -lia -linarith -ring -order -ac [State.weldFail, = State.Good, good_put, good_putSat, good_set1, good_updWeld,
    good_raise, good_when, good_moduleOff, good_setElem, good_updClose, good_stopSession, good_updS, good_endSession,
    good_refreshPilot]

theorem good_dcPre (s : State) (n : Nat) (h_s : State.Good s) :
    State.Good (State.dcPre s n) := by
  grind -lia -linarith -ring -order -ac [State.dcPre, = State.Good, good_precharge, good_updClose, good_clr, good_weldFail,
    good_put, good_moduleOff]

theorem good_requestClose (s : State) (n k : Nat) (h_s : State.Good s) :
    State.Good (State.requestClose s n k) := by
  grind -lia -linarith -ring -order -ac [State.requestClose, good_startCharging, good_updClose, good_put, good_dcPre,
    good_startTestRdc]

theorem good_startIso (s : State) (n : Nat) (h_s : State.Good s) :
    State.Good (State.startIso s n) := by
  grind -lia -linarith -ring -order -ac [State.startIso, = State.Good, good_put, good_updProt]

theorem good_closeBeat (s : State) (n k : Nat) (h_s : State.Good s) :
    State.Good (State.closeBeat s n k) := by
  grind -lia -linarith -ring -order -ac [State.closeBeat, = State.Good, good_requestClose, good_energise, good_startIso,
    good_startCharging, good_updClose, good_closeFail, good_dcPre, good_precheckAc]

theorem good_rdcBeat (s : State) (n : Nat) (h_s : State.Good s) :
    State.Good (State.rdcBeat s n) := by
  grind -lia -linarith -ring -order -ac [State.rdcBeat, = State.Good, good_putSat, good_updProt, good_testRdcBeat]

theorem good_fastBeat (s : State) (n : Nat) (h_s : State.Good s) :
    State.Good (State.fastBeat s n) := by
  grind -lia -linarith -ring -order -ac [State.fastBeat, = State.Good, good_updProt]

theorem good_slowJudge (s : State) (n : Nat) (h_s : State.Good s) :
    State.Good (State.slowJudge s n) := by
  grind -lia -linarith -ring -order -ac [State.slowJudge, = State.Good, good_updProt]

theorem good_slowBeat (s : State) (n : Nat) (h_s : State.Good s) :
    State.Good (State.slowBeat s n) := by
  grind -lia -linarith -ring -order -ac [State.slowBeat, = State.Good, good_updProt]

theorem good_auxBeat (s : State) (n : Nat) (h_s : State.Good s) :
    State.Good (State.auxBeat s n) := by
  grind -lia -linarith -ring -order -ac [State.auxBeat, = State.Good, good_putB, good_updProt]

theorem good_dwellBeat (s : State) (n : Nat) (h_s : State.Good s) :
    State.Good (State.dwellBeat s n) := by
  grind -lia -linarith -ring -order -ac [State.dwellBeat, = State.Good, good_updProt]

theorem good_weldBeat (s : State) (n : Nat) (h_s : State.Good s) :
    State.Good (State.weldBeat s n) := by
  grind -lia -linarith -ring -order -ac [State.weldBeat, = State.Good, good_putSat, good_when, good_wearOpen, good_updWeld]

theorem good_showNext (s : State) (n : Nat) (h_s : State.Good s) :
    State.Good (State.showNext s n) := by
  grind -lia -linarith -ring -order -ac [State.showNext, good_put]

theorem good_holdOpen (s : State) (n : Nat) (h_s : State.Good s) :
    State.Good (State.holdOpen s n) := by
  grind -lia -linarith -ring -order -ac [State.holdOpen, good_requestOpen]

theorem good_sessionBeat (s : State) (n k : Nat) (h_s : State.Good s) :
    State.Good (State.sessionBeat s n k) := by
  grind -lia -linarith -ring -order -ac [State.sessionBeat, = State.Good, good_when, good_refuseSession, good_acceptToken,
    good_acceptSession, good_selfAccept, good_closeBeat, good_sesGrowth]

theorem good_outletBeat (s : State) (n : Nat) (h_s : State.Good s) :
    State.Good (State.outletBeat s n) := by
  grind -lia -linarith -ring -order -ac [State.outletBeat, = State.Good, good_auxBeat, good_dwellBeat, good_puti,
    good_updProt, good_rdcBeat, good_fastBeat, good_slowBeat, good_slowJudge, good_updClose, good_weldBeat,
    good_uncommanded, good_holdOpen, good_openDue, good_plugLate, good_sessionBeat, good_dropClose, good_settleStop,
    good_showNext]

theorem good_execRdcSelfTestEnd (n : Fin 12) (s : State) (h_s : State.Good s) :
    AllNext State.Good (execRdcSelfTestEnd n s) := by
  grind -lia -linarith -ring -order -ac [execRdcSelfTestEnd, = allNext_iff, = State.Good, good_answer, good_replyTo,
    good_updProt, good_within, good_set1, good_updClose, good_precheckAc, good_clr, good_raiseOutlet]

theorem good_execCloseTimeout (n : Fin 12) (s : State) (h_s : State.Good s) :
    AllNext State.Good (execCloseTimeout n s) := by
  grind -lia -linarith -ring -order -ac [execCloseTimeout, = allNext_iff, good_closeFail]

theorem good_execVmatchTimeout (n : Fin 12) (s : State) (h_s : State.Good s) :
    AllNext State.Good (execVmatchTimeout n s) := by
  grind -lia -linarith -ring -order -ac [execVmatchTimeout, = allNext_iff, good_set1, good_moduleOff, good_raiseOutlet]

theorem good_execAuxMismatch (n : Fin 12) (s : State) (h_s : State.Good s) :
    AllNext State.Good (execAuxMismatch n s) := by
  grind -lia -linarith -ring -order -ac [execAuxMismatch, = allNext_iff, = State.Good, good_within, good_updProt,
    good_uncmdOpen, good_when, good_moduleOff, good_raiseOutlet, good_requestOpen, good_openNow]

theorem good_weldPass (s : State) (n result : Nat) (h_s : State.Good s) :
    State.Good (State.weldPass s n result) := by
  grind -lia -linarith -ring -order -ac [State.weldPass, = State.Good, good_put, good_putSat, good_updWeld, good_when,
    good_moduleOff, good_settleStop]

theorem good_execWeldProofAc (n : Fin 12) (_z : Unit) (s : State) (h_s : State.Good s) :
    AllNext State.Good (execWeldProofAc n _z s) := by
  grind -lia -linarith -ring -order -ac [execWeldProofAc, = allNext_iff, good_weldFail, good_weldPass]

theorem good_execWeldProofDc (n : Fin 12) (s : State) (h_s : State.Good s) :
    AllNext State.Good (execWeldProofDc n s) := by
  grind -lia -linarith -ring -order -ac [execWeldProofDc, = allNext_iff, good_set1, good_raise, good_weldPass, good_weldFail]

theorem good_execRdcTrip (n : Fin 12) (ac : Bool) (k : Fin 8) (s : State) (h_s : State.Good s) :
    AllNext State.Good (execRdcTrip n ac k s) := by
  grind -lia -linarith -ring -order -ac [execRdcTrip, = allNext_iff, = State.Good, good_within, good_set1, good_putB,
    good_put, good_updProt, good_raiseOutlet, good_openNow]

theorem good_execRdcLockRelease (n : Fin 12) (s : State) (h_s : State.Good s) :
    AllNext State.Good (execRdcLockRelease n s) := by
  grind -lia -linarith -ring -order -ac [execRdcLockRelease, = allNext_iff, good_clr]

theorem good_isoJudge (s : State) (n : Nat) (r : Option Nat) (h_s : State.Good s) :
    State.Good (State.isoJudge s n r) := by
  have key : ∀ (t : State) (w : Bool) (bad good old v : Nat), State.Good t → State.Good (
      let t := when w (fun u => (u.set1 (OUT_PROT_EVENTS_ISO n)).raise 0x5208 NOTE u.srcOwner n v) t
      if 2 ≤ bad then
        if old = 2 then t else (t.put (OUT_ISO_STATUS n) 2).raiseOutlet 0x5209 n v
      else if w then
        if old = 2 then t else t.put (OUT_ISO_STATUS n) 1
      else if old = 3 ∨ 2 ≤ good then t.put (OUT_ISO_STATUS n) 0
      else t) := by
    intro t w bad good old v ht
    have hw := good_when w (fun u => (u.set1 (OUT_PROT_EVENTS_ISO n)).raise 0x5208 NOTE u.srcOwner n v) t
      (fun u hu => good_raise _ _ _ _ _ _ (good_set1 _ _ hu)) ht
    grind -lia -linarith -ring -order -ac [good_put, good_raiseOutlet]
  unfold State.isoJudge
  exact key _ _ _ _ _ _ (good_put _ _ _ (good_put _ _ _ (good_putSat _ _ _ (good_updProt _ _ _ h_s))))

theorem good_isoPole (s : State) (n d : Nat) (vp vn : Int) (h_s : State.Good s) :
    State.Good (State.isoPole s n d vp vn) := by
  have key : ∀ t : State, State.Good t →
      State.Good (if (t.o n).prot.poles = 3 then t.isoJudge n (isoOhm (t.o n).prot.rp (t.o n).prot.rn) else t) := by
    intro t ht
    split
    · exact good_isoJudge _ _ _ ht
    · exact ht
  unfold State.isoPole
  dsimp only
  split
  · exact good_clr _ _ h_s
  · apply key
    by_cases h : d = 1
    · rw [if_pos h]; exact good_updProt _ _ _ (good_put _ _ _ h_s)
    · rw [if_neg h]; exact good_updProt _ _ _ (good_put _ _ _ h_s)

theorem good_execInsulationDwellEnd (n : Fin 12) (_vp _vn : Unit) (s : State) (h_s : State.Good s) :
    AllNext State.Good (execInsulationDwellEnd n _vp _vn s) := by
  grind -lia -linarith -ring -order -ac [execInsulationDwellEnd, = allNext_iff, = State.Good, good_dwellBeat, good_updProt,
    good_setBias, good_isoPole]

theorem good_tripNow (s : State) (n code : Nat) (h_s : State.Good s) :
    State.Good (State.tripNow s n code) := by
  grind -lia -linarith -ring -order -ac [State.tripNow, = State.Good, good_within, good_when, good_moduleOff, good_set1,
    good_raiseOutlet, good_requestOpen, good_openNow]

theorem good_execOcInst (n : Fin 12) (s : State) (h_s : State.Good s) :
    AllNext State.Good (execOcInst n s) := by
  grind -lia -linarith -ring -order -ac [execOcInst, = allNext_iff, good_tripNow]

theorem good_execOvervolt (n : Fin 12) (s : State) (h_s : State.Good s) :
    AllNext State.Good (execOvervolt n s) := by
  grind -lia -linarith -ring -order -ac [execOvervolt, = allNext_iff, good_tripNow]

theorem good_startHold (s : State) (n : Nat) (latch : Bool) (h_s : State.Good s) :
    State.Good (State.startHold s n latch) := by
  grind -lia -linarith -ring -order -ac [State.startHold, = State.Good, good_raiseOutlet, good_set1, good_updProt,
    good_dropClose, good_moduleOff, good_suspend, good_openNow]

theorem good_execOcSlow (n : Fin 12) (s : State) (h_s : State.Good s) :
    AllNext State.Good (execOcSlow n s) := by
  grind -lia -linarith -ring -order -ac [execOcSlow, = allNext_iff, = State.Good, good_set1, good_raise, good_within,
    good_updProt, good_startHold]

theorem good_execConnectorThermalLatch (n : Fin 12) (s : State) (h_s : State.Good s) :
    AllNext State.Good (execConnectorThermalLatch n s) := by
  grind -lia -linarith -ring -order -ac [execConnectorThermalLatch, = allNext_iff, = State.Good, good_set1, good_raise,
    good_updProt, good_startHold]

theorem good_execConnectorLatchClear (n : Fin 12) (s : State) (h_s : State.Good s) :
    AllNext State.Good (execConnectorLatchClear n s) := by
  grind -lia -linarith -ring -order -ac [execConnectorLatchClear, = allNext_iff, good_clr]

theorem good_execHoldRetry (n : Fin 12) (s : State) (h_s : State.Good s) :
    AllNext State.Good (execHoldRetry n s) := by
  grind -lia -linarith -ring -order -ac [execHoldRetry, = allNext_iff, = State.Good, good_clr, good_put, good_updProt]

theorem good_execLatchTimeout (n : Fin 12) (s : State) (h_s : State.Good s) :
    AllNext State.Good (execLatchTimeout n s) := by
  grind -lia -linarith -ring -order -ac [execLatchTimeout, = allNext_iff, good_raiseOutlet]

theorem good_execProtBlind (n : Fin 12) (s : State) (h_s : State.Good s) :
    AllNext State.Good (execProtBlind n s) := by
  grind -lia -linarith -ring -order -ac [execProtBlind, = allNext_iff, = State.Good, good_within, good_updProt,
    good_raiseOutlet, good_openNow]

theorem good_execProtClear (mb : Fin 8) (s : State) (h_s : State.Good s) :
    AllNext State.Good (execProtClear mb s) := by
  grind -lia -linarith -ring -order -ac [execProtClear, = allNext_iff, good_command, good_reply, good_when, good_clr,
    good_put, good_refreshPilot]

theorem good_execRdcTest (mb : Fin 8) (s : State) (h_s : State.Good s) :
    AllNext State.Good (execRdcTest mb s) := by
  grind -lia -linarith -ring -order -ac [execRdcTest, = allNext_iff, = State.Good, good_command, good_reply, good_updProt,
    good_startTestRdc]

/-! ### Can -/

theorem good_updGov (s : State) (f : GovSt → GovSt) (h_s : State.Good s) :
    State.Good (State.updGov s f) := by
  grind -lia -linarith -ring -order -ac [State.updGov, = State.Good]

theorem good_updConv (s : State) (j : Nat) (f : ConvSt → ConvSt) (h_s : State.Good s) :
    State.Good (State.updConv s j f) := by
  grind -lia -linarith -ring -order -ac [State.updConv, = State.Good, good_updGov]

theorem good_execSetpointFrame (c : Fin 4) (k : Fin 2) (s : State) (h_s : State.Good s) :
    AllNext State.Good (execSetpointFrame c k s) := by
  grind -lia -linarith -ring -order -ac [execSetpointFrame, = allNext_iff, = State.Good, good_updO, good_put, good_puti,
    good_updConv]

theorem good_moduleStop (s : State) (n code : Nat) (h_s : State.Good s) :
    State.Good (State.moduleStop s n code) := by
  grind -lia -linarith -ring -order -ac [State.moduleStop, good_moduleOff, good_raiseOutlet]

theorem good_execStatusFrame (c : Fin 4) (k : Fin 2) (bs : List Byte) (s : State) (h_s : State.Good s) :
    AllNext State.Good (execStatusFrame c k bs s) := by
  grind -lia -linarith -ring -order -ac [execStatusFrame, = allNext_iff, = State.Good, good_putSat, good_updO,
    good_moduleStop, good_updConv, good_raise]

theorem good_execCanTargetLost (c : Fin 4) (k : Fin 2) (s : State) (h_s : State.Good s) :
    AllNext State.Good (execCanTargetLost c k s) := by
  grind -lia -linarith -ring -order -ac [execCanTargetLost, = allNext_iff, = State.Good, good_updO, good_set1,
    good_moduleStop, good_updConv, good_raise]

theorem good_execCanBusOff (c : Fin 4) (s : State) (h_s : State.Good s) :
    AllNext State.Good (execCanBusOff c s) := by
  grind -lia -linarith -ring -order -ac [execCanBusOff, = allNext_iff, = State.Good, good_raise, good_forUpTo,
    good_moduleOff, good_stopOutlet]

theorem good_execBusOffRecovery (c : Fin 4) (s : State) (h_s : State.Good s) :
    AllNext State.Good (execBusOffRecovery c s) := by
  grind -lia -linarith -ring -order -ac [execBusOffRecovery, = allNext_iff, = State.Good]

/-! ### Placement -/

theorem good_sendMsg (s : State) (m : SitMsg) (h_s : State.Good s) :
    State.Good (State.sendMsg s m) := by
  grind -lia -linarith -ring -order -ac [State.sendMsg, = State.Good]

theorem good_sendSite (s : State) (dst mtype : Nat) (payload : List Byte) (cmd : Option CmdRef) (h_s : State.Good s) :
    State.Good (State.sendSite s dst mtype payload cmd) := by
  grind -lia -linarith -ring -order -ac [State.sendSite, good_sendMsg]

theorem good_updPartner (s : State) (k : Nat) (f : PartnerSt → PartnerSt) (h_s : State.Good s) :
    State.Good (State.updPartner s k f) := by
  grind -lia -linarith -ring -order -ac [State.updPartner, = State.Good, good_updGov]

theorem good_islandEntry (s : State) (h_s : State.Good s) :
    State.Good (State.islandEntry s) := by
  grind -lia -linarith -ring -order -ac [State.islandEntry, = State.Good, good_set1, good_raise, good_put, good_updGov,
    good_updSupply]

theorem good_judgeSite (s : State) (h_s : State.Good s) :
    State.Good (State.judgeSite s) := by
  grind -lia -linarith -ring -order -ac [State.judgeSite, = State.Good, good_putB, good_updGov, good_when, good_raise]

theorem good_judgePrice (s : State) (h_s : State.Good s) :
    State.Good (State.judgePrice s) := by
  grind -lia -linarith -ring -order -ac [State.judgePrice, = State.Good, good_putSat, good_putB, good_put]

theorem good_breachRound (s : State) (h_s : State.Good s) :
    State.Good (State.breachRound s).2 := by
  grind -lia -linarith -ring -order -ac [State.breachRound, = State.Good, good_putSat, good_updGov, good_put, good_set1,
    good_raise]

theorem good_creditStops (s : State) (h_s : State.Good s) :
    State.Good (State.creditStops s) := by
  grind -lia -linarith -ring -order -ac [State.creditStops, good_forEach, good_when, good_wrN, good_stopSession]

theorem good_showDc (s : State) (h_s : State.Good s) :
    State.Good (State.showDc s) := by
  grind -lia -linarith -ring -order -ac [State.showDc, good_forUpTo, good_putSat, good_put]

theorem good_applyOne (s : State) (n k : Nat) (x : Option PlItem) (h_s : State.Good s) :
    State.Good (State.applyOne s n k x) := by
  cases x <;> unfold State.applyOne <;> dsimp only <;>
  grind -lia -linarith -ring -order -ac [good_puti, good_updO, good_setAllowed, good_when,
    good_updS, good_suspend, good_dropClose, good_requestOpen]

theorem good_applyConv (s : State) (j : Nat) (set : Int) (dis : Int) (on : Bool) (h_s : State.Good s) :
    State.Good (State.applyConv s j set dis on) := by
  grind -lia -linarith -ring -order -ac [State.applyConv, = State.Good, good_draw, good_updConv, good_puti, good_put]

theorem good_applyBattery (s : State) (p : PlRound) (h_s : State.Good s) :
    State.Good (State.applyBattery s p) := by
  grind -lia -linarith -ring -order -ac [State.applyBattery, good_applyConv]

theorem good_sendShare (s : State) (k : Nat) (lowered : Bool) (h_s : State.Good s) :
    State.Good (State.sendShare s k lowered) := by
  grind -lia -linarith -ring -order -ac [State.sendShare, = State.Good, good_sendSite, good_updPartner]

theorem good_showPartners (s : State) (h_s : State.Good s) :
    State.Good (State.showPartners s) := by
  grind -lia -linarith -ring -order -ac [State.showPartners, good_putSat]

theorem good_sendRaises (s : State) (h_s : State.Good s) :
    State.Good (State.sendRaises s) := by
  grind -lia -linarith -ring -order -ac [State.sendRaises, = State.Good, good_forUpTo, good_raise, good_put,
    good_updPartner, good_sendShare]

theorem good_newShare (s : State) (k v : Nat) (h_s : State.Good s) :
    State.Good (State.newShare s k v) := by
  grind -lia -linarith -ring -order -ac [State.newShare, = State.Good, good_put, good_updPartner, good_raise, good_sendShare]

theorem good_openLast (s : State) (n : Nat) (h_s : State.Good s) :
    State.Good (State.openLast s n) := by
  grind -lia -linarith -ring -order -ac [State.openLast, good_inc, good_set1, good_put, good_raiseOutlet]

theorem good_putRound (s : State) (vs : List Nat) (h_s : State.Good s) :
    State.Good (State.putRound s vs) := by
  grind -lia -linarith -ring -order -ac [State.putRound, good_forEach, good_put]

theorem good_showRound (s : State) (p : PlRound) (h_s : State.Good s) :
    State.Good (State.showRound s p) := by
  grind -lia -linarith -ring -order -ac [State.showRound, good_wrN, good_puti, good_putSat, good_wr128, good_when, good_set1]

theorem good_execAllocationApply (s : State) (h_s : State.Good s) :
    AllNext State.Good (execAllocationApply s) := by
  grind -lia -linarith -ring -order -ac [execAllocationApply, = allNext_iff, = State.Good, good_updGov, good_putRound,
    good_showRound, good_openLast, good_forEach, good_applyOne, good_applyBattery, good_newShare, good_sendRaises,
    good_showPartners]

theorem good_islandBeat (s : State) (h_s : State.Good s) :
    State.Good (State.islandBeat s) := by
  grind -lia -linarith -ring -order -ac [State.islandBeat, = State.Good, good_updGov]

theorem good_closeRound (s : State) (h_s : State.Good s) :
    State.Good (State.closeRound s) := by
  grind -lia -linarith -ring -order -ac [State.closeRound, = State.Good, good_updGov]

theorem good_roundBeat (s : State) (h_s : State.Good s) :
    State.Good (State.roundBeat s) := by
  grind -lia -linarith -ring -order -ac [State.roundBeat, = State.Good, good_when, good_closeRound, good_updGov]

theorem good_execIslandExit (s : State) (h_s : State.Good s) :
    AllNext State.Good (execIslandExit s) := by
  grind -lia -linarith -ring -order -ac [execIslandExit, = allNext_iff, = State.Good, good_clr, good_set1, good_updGov,
    good_updSupply]

theorem good_execBatteryDataStale (s : State) (h_s : State.Good s) :
    AllNext State.Good (execBatteryDataStale s) := by
  grind -lia -linarith -ring -order -ac [execBatteryDataStale, = allNext_iff, = State.Good, good_forUpTo, good_updConv,
    good_puti, good_clr, good_set1, good_updGov, good_raise]

theorem good_execPriceStale (s : State) (h_s : State.Good s) :
    AllNext State.Good (execPriceStale s) := by
  grind -lia -linarith -ring -order -ac [execPriceStale, = allNext_iff, = State.Good, good_updGov, good_judgePrice,
    good_set1, good_raise]

theorem good_execSiteLimitExpiry (s : State) (h_s : State.Good s) :
    AllNext State.Good (execSiteLimitExpiry s) := by
  grind -lia -linarith -ring -order -ac [execSiteLimitExpiry, = allNext_iff, = State.Good, good_put, good_updGov]

theorem good_execMinOffExpiry (k : Fin 128) (s : State) (h_s : State.Good s) :
    AllNext State.Good (execMinOffExpiry k s) := by
  grind -lia -linarith -ring -order -ac [execMinOffExpiry, = allNext_iff, = State.Good, good_updS]

theorem good_execSharePeriodStart (s : State) (h_s : State.Good s) :
    AllNext State.Good (execSharePeriodStart s) := by
  grind -lia -linarith -ring -order -ac [execSharePeriodStart, = allNext_iff, = State.Good, good_updGov]

theorem good_execShareLowerTimeout (k : Fin 255) (s : State) (h_s : State.Good s) :
    AllNext State.Good (execShareLowerTimeout k s) := by
  grind -lia -linarith -ring -order -ac [execShareLowerTimeout, = allNext_iff, = State.Good, good_updPartner,
    good_sendRaises]

theorem good_execPartnerLost (k : Fin 255) (s : State) (h_s : State.Good s) :
    AllNext State.Good (execPartnerLost k s) := by
  grind -lia -linarith -ring -order -ac [execPartnerLost, = allNext_iff, = State.Good, good_put, good_updPartner, good_set1,
    good_raise, good_showPartners]

theorem good_execPartnerFailsafe (s : State) (h_s : State.Good s) :
    AllNext State.Good (execPartnerFailsafe s) := by
  grind -lia -linarith -ring -order -ac [execPartnerFailsafe, = allNext_iff, = State.Good, good_updGov]

theorem good_execPlacePrice (mb : Fin 8) (s : State) (h_s : State.Good s) :
    AllNext State.Good (execPlacePrice mb s) := by
  grind -lia -linarith -ring -order -ac [execPlacePrice, = allNext_iff, = State.Good, good_command, good_reply, good_updGov]

theorem good_execPlaceBattery (mb : Fin 8) (s : State) (h_s : State.Good s) :
    AllNext State.Good (execPlaceBattery mb s) := by
  grind -lia -linarith -ring -order -ac [execPlaceBattery, = allNext_iff, = State.Good, good_command, good_reply,
    good_forUpTo, good_updConv, good_updGov]

theorem good_execPlaceSiteLimit (mb : Fin 8) (s : State) (h_s : State.Good s) :
    AllNext State.Good (execPlaceSiteLimit mb s) := by
  grind -lia -linarith -ring -order -ac [execPlaceSiteLimit, = allNext_iff, = State.Good, good_command, good_reply,
    good_put, good_updGov]

theorem good_execPlaceInfo (mb : Fin 8) (s : State) (h_s : State.Good s) :
    AllNext State.Good (execPlaceInfo mb s) := by
  grind -lia -linarith -ring -order -ac [execPlaceInfo, = allNext_iff, = State.Good, good_command, good_reply,
    good_laneWrite]

end Sys2Proof.Machine
end

