-- ==== Sys2Proof/Laws/Good4.lean ====
section
/-! SUPPORT. What each operation keeps (State.Good), one lemma good_op per operation op: the site line, the bezel, the reader, the Mainplate, keys, updates. -/
namespace Sys2Proof.Machine

/-! ### SiteLine -/

theorem good_updSit (s : State) (f : SitSt → SitSt) (h_s : State.Good s) :
    State.Good (State.updSit s f) := by
  grind -lia -linarith -ring -order -ac [State.updSit, = State.Good]

theorem good_updLinkRec (s : State) (k : Nat) (f : LinkRec → LinkRec) (h_s : State.Good s) :
    State.Good (State.updLinkRec s k f) := by
  grind -lia -linarith -ring -order -ac [State.updLinkRec, = State.Good, good_updSit]

theorem good_showLinks (s : State) (h_s : State.Good s) :
    State.Good (State.showLinks s) := by
  grind -lia -linarith -ring -order -ac [State.showLinks, = State.Good, good_forUpTo, good_put, good_puti, good_putB,
    good_putSat, good_set1, good_updLinkRec]

theorem good_judgeCap (s : State) (h_s : State.Good s) :
    State.Good (State.judgeCap s) := by
  grind -lia -linarith -ring -order -ac [State.judgeCap, = State.Good, good_putSat, good_forUpTo, good_updSit, good_set1,
    good_raise]

theorem good_siteSecond (s : State) (h_s : State.Good s) :
    State.Good (State.siteSecond s) := by
  grind -lia -linarith -ring -order -ac [State.siteSecond, = State.Good, good_showLinks, good_put, good_putSat,
    good_judgeCap]

theorem good_hearNode (s : State) (a : Nat) (h_s : State.Good s) :
    State.Good (State.hearNode s a) := by
  grind -lia -linarith -ring -order -ac [State.hearNode, = State.Good, good_updSit, good_set1, good_put, good_updLinkRec]

theorem good_foreign (s : State) (h_s : State.Good s) :
    State.Good (State.foreign s) := by
  grind -lia -linarith -ring -order -ac [State.foreign, = State.Good, good_inc, good_updSit, good_raise]

theorem good_frameLost (s : State) (h_s : State.Good s) :
    State.Good (State.frameLost s) := by
  grind -lia -linarith -ring -order -ac [State.frameLost, good_inc, good_raiseLimited]

theorem good_addrClash (s : State) (h_s : State.Good s) :
    State.Good (State.addrClash s) := by
  grind -lia -linarith -ring -order -ac [State.addrClash, = State.Good, good_updSit, good_set1, good_raise]

theorem good_msgFail (s : State) (m : SitMsg) (h_s : State.Good s) :
    State.Good (State.msgFail s m) := by
  grind -lia -linarith -ring -order -ac [State.msgFail, = State.Good, good_inc, good_set1, good_raise, good_replyTo]

theorem good_msgSent (s : State) (m : SitMsg) (dur : Nat) (h_s : State.Good s) :
    State.Good (State.msgSent s m dur) := by
  grind -lia -linarith -ring -order -ac [State.msgSent, = State.Good, good_inc, good_updSit]

theorem good_execSiteMessageRetry (s : State) (h_s : State.Good s) :
    AllNext State.Good (execSiteMessageRetry s) := by
  grind -lia -linarith -ring -order -ac [execSiteMessageRetry, = allNext_iff, = State.Good, good_updSit, good_msgFail]

theorem good_deliver (s : State) (m : RxMsg) (h_s : State.Good s) :
    State.Good (State.deliver s m) := by
  grind -lia -linarith -ring -order -ac [State.deliver, = State.Good, good_inc, good_updSit]

theorem good_takeMsg (s : State) (mtype : Nat) (h_s : State.Good s) :
    ∀ r, (State.takeMsg s mtype) = some r → State.Good r.2 := by
  intro r h
  unfold State.takeMsg at h
  obtain ⟨m, -, rfl⟩ := Option.map_eq_some_iff.mp h
  exact good_updSit _ _ h_s

theorem good_execBeatFrameStart (p : Fin 3) (s : State) (h_s : State.Good s) :
    AllNext State.Good (execBeatFrameStart p s) := by
  grind -lia -linarith -ring -order -ac [execBeatFrameStart, = allNext_iff, = State.Good, good_updSit]

theorem good_beatAbort (s : State) (p : Nat) (h_s : State.Good s) :
    State.Good (State.beatAbort s p) := by
  grind -lia -linarith -ring -order -ac [State.beatAbort, = State.Good, good_updSit]

theorem good_beatDone (s : State) (p : Nat) (m : SitMsg) (h_s : State.Good s) :
    State.Good (State.beatDone s p m) := by
  grind -lia -linarith -ring -order -ac [State.beatDone, = State.Good, good_beatAbort, good_updSit, good_msgSent]

theorem good_beatSend (s : State) (p : Nat) (x : BeatTx) (o : HalfRead) (h_s : State.Good s) :
    State.Good (State.beatSend s p x o) := by
  grind -lia -linarith -ring -order -ac [State.beatSend, = State.Good, good_updSit, good_beatAbort, good_inc, good_set1,
    good_raise, good_beatDone]

theorem good_beatListen (s : State) (p : Nat) (o : HalfRead) (h_s : State.Good s) :
    State.Good (State.beatListen s p o) := by
  grind -lia -linarith -ring -order -ac [State.beatListen, = State.Good, good_put, good_updSit, good_inc]

theorem good_countB (s : State) (p : Nat) (b : Bool) (h_s : State.Good s) :
    State.Good (State.countB s p b) := by
  grind -lia -linarith -ring -order -ac [State.countB, = State.Good, good_updSit, good_draw]

theorem good_execMainsZeroCrossing (p : Fin 3) (positive : Bool) (o : HalfObs) (s : State) (h_s : State.Good s) :
    AllNext State.Good (execMainsZeroCrossing p positive o s) := by
  grind -lia -linarith -ring -order -ac [execMainsZeroCrossing, = allNext_iff, = State.Good, good_putBit, good_updSit,
    good_countB, good_clr, good_put, good_putSat, good_beatSend, good_beatAbort, good_beatListen]

theorem good_execZcLost (p : Fin 3) (s : State) (h_s : State.Good s) :
    AllNext State.Good (execZcLost p s) := by
  grind -lia -linarith -ring -order -ac [execZcLost, = allNext_iff, = State.Good, good_putBit, good_beatAbort, good_updSit,
    good_raise, good_set1, good_put]

theorem good_execBeatFrameReceived (p : Fin 3) (s : State) (h_s : State.Good s) :
    AllNext State.Good (execBeatFrameReceived p s) := by
  grind -lia -linarith -ring -order -ac [execBeatFrameReceived, = allNext_iff, = State.Good, good_updSit, good_foreign,
    good_addrClash, good_hearNode, good_sendSite, good_deliver]

theorem good_sendFch (s : State) (fch : Nat) (h_s : State.Good s) :
    State.Good (State.sendFch s fch) := by
  grind -lia -linarith -ring -order -ac [State.sendFch, = State.Good, good_updSit]

theorem good_sendAck (s : State) (dst src lseq map : Nat) (h_s : State.Good s) :
    State.Good (State.sendAck s dst src lseq map) := by
  grind -lia -linarith -ring -order -ac [State.sendAck, = State.Good, good_updSit, good_sendFch]

theorem good_launch (s : State) (x : OfdmTx) (h_s : State.Good s) :
    State.Good (State.launch s x) := by
  grind -lia -linarith -ring -order -ac [State.launch, = State.Good, good_sendFch, good_updSit]

theorem good_queueFrame (s : State) (m : SitMsg) (hop : Nat) (segs : List SegTx) (rest : List Byte) (h_s : State.Good s) :
    State.Good (State.queueFrame s m hop segs rest) := by
  grind -lia -linarith -ring -order -ac [State.queueFrame, = State.Good, good_updSit]

theorem good_startFrame (s : State) (m : SitMsg) (hop : Nat) (bytes : List Byte) (h_s : State.Good s) :
    State.Good (State.startFrame s m hop bytes) := by
  grind -lia -linarith -ring -order -ac [State.startFrame, = State.Good, good_queueFrame, good_launch]

theorem good_reroute (s : State) (m : SitMsg) (hop : Nat) (h_s : State.Good s) :
    State.Good (State.reroute s m hop) := by
  grind -lia -linarith -ring -order -ac [State.reroute, = State.Good, good_updSit, good_msgFail]

theorem good_execOfdmFrameStart (s : State) (h_s : State.Good s) :
    AllNext State.Good (execOfdmFrameStart s) := by
  grind -lia -linarith -ring -order -ac [execOfdmFrameStart, = allNext_iff, = State.Good, good_reroute, good_launch,
    good_updSit, good_sendFch, good_msgSent, good_startFrame]

theorem good_execOfdmAckTimeout (s : State) (h_s : State.Good s) :
    AllNext State.Good (execOfdmAckTimeout s) := by
  grind -lia -linarith -ring -order -ac [execOfdmAckTimeout, = allNext_iff, = State.Good, good_updSit, good_reroute]

theorem good_segResult (s : State) (k sx : Nat) (ok : Bool) (h_s : State.Good s) :
    State.Good (State.segResult s k sx ok) := by
  grind -lia -linarith -ring -order -ac [State.segResult, = State.Good, good_updLinkRec, good_inc, good_put, good_set1,
    good_raise]

theorem good_probeDone (s : State) (m : SitMsg) (hop start : Nat) (h_s : State.Good s) :
    State.Good (State.probeDone s m hop start) := by
  grind -lia -linarith -ring -order -ac [State.probeDone, = State.Good, good_replyTo]

theorem good_execOfdmAckFrame (fch : BitVec 48) (s : State) (h_s : State.Good s) :
    AllNext State.Good (execOfdmAckFrame fch s) := by
  grind -lia -linarith -ring -order -ac [execOfdmAckFrame, = allNext_iff, = State.Good, good_foreign, good_frameLost,
    good_hearNode, good_updSit, good_forEach, good_segResult, good_probeDone, good_msgSent, good_queueFrame, good_reroute,
    good_sendFch]

theorem good_takeMessage (s : State) (bs : List Byte) (h_s : State.Good s) :
    State.Good (State.takeMessage s bs) := by
  grind -lia -linarith -ring -order -ac [State.takeMessage, = State.Good, good_foreign, good_addrClash, good_sendSite,
    good_updSit, good_deliver]

theorem good_setRx (s : State) (r : OfdmRx) (h_s : State.Good s) :
    State.Good (State.setRx s r) := by
  grind -lia -linarith -ring -order -ac [State.setRx, = State.Good, good_updSit]

theorem good_segHeard (s : State) (k : Nat) (g : SegObs) (h_s : State.Good s) :
    State.Good (State.segHeard s k g) := by
  grind -lia -linarith -ring -order -ac [State.segHeard, = State.Good, good_updLinkRec]

theorem good_promote (s : State) (k : Nat) (h_s : State.Good s) :
    State.Good (State.promote s k) := by
  grind -lia -linarith -ring -order -ac [State.promote, = State.Good, good_updLinkRec, good_put, good_sendSite]

theorem good_execOfdmDataFrame (fch : BitVec 48) (segs : List SegObs) (s : State) (h_s : State.Good s) :
    AllNext State.Good (execOfdmDataFrame fch segs s) := by
  grind -lia -linarith -ring -order -ac [execOfdmDataFrame, = allNext_iff, = State.Good, good_foreign, good_frameLost,
    good_addrClash, good_hearNode, good_incBy, good_forEach, good_segHeard, good_promote, good_sendAck, good_setRx,
    good_takeMessage]

theorem good_execPreambleLost (s : State) (h_s : State.Good s) :
    AllNext State.Good (execPreambleLost s) := by
  grind -lia -linarith -ring -order -ac [execPreambleLost, = allNext_iff, good_frameLost]

theorem good_execSextantStart (j : Fin 6) (energy : Bool) (s : State) (h_s : State.Good s) :
    AllNext State.Good (execSextantStart j energy s) := by
  grind -lia -linarith -ring -order -ac [execSextantStart, = allNext_iff, = State.Good, good_updSit, good_when, good_put,
    good_draw]

theorem good_execProbeFrame (k : Fin 16) (s : State) (h_s : State.Good s) :
    AllNext State.Good (execProbeFrame k s) := by
  grind -lia -linarith -ring -order -ac [execProbeFrame, = allNext_iff, = State.Good, good_updLinkRec, good_sendMsg]

theorem good_execLinkReportSend (s : State) (h_s : State.Good s) :
    AllNext State.Good (execLinkReportSend s) := by
  grind -lia -linarith -ring -order -ac [execLinkReportSend, = allNext_iff, = State.Good, good_updSit, good_sendSite]

theorem good_execLinkExpiry (k : Fin 16) (s : State) (h_s : State.Good s) : AllNext State.Good (execLinkExpiry k s) := by
  unfold execLinkExpiry
  split
  · split
    · exact AllNext.next (good_showLinks _ h_s)
    · exact AllNext.next h_s
  · exact AllNext.next h_s

theorem good_execPartnerReportSend (s : State) (h_s : State.Good s) :
    AllNext State.Good (execPartnerReportSend s) := by
  grind -lia -linarith -ring -order -ac [execPartnerReportSend, = allNext_iff, = State.Good, good_updSit, good_sendSite]

theorem good_execAnnounceSend (s : State) (h_s : State.Good s) :
    AllNext State.Good (execAnnounceSend s) := by
  grind -lia -linarith -ring -order -ac [execAnnounceSend, = allNext_iff, = State.Good, good_updSit, good_sendSite,
    good_sendMsg]

theorem good_execNoPrivileged (s : State) (h_s : State.Good s) :
    AllNext State.Good (execNoPrivileged s) := by
  grind -lia -linarith -ring -order -ac [execNoPrivileged, = allNext_iff, = State.Good, good_updSit, good_raise]

theorem good_onMsg (s : State) (mtype : Nat) (f : RxMsg → State → State) (h_s : State.Good s)
    (h : ∀ m u, State.Good u → State.Good (f m u)) : State.Good (State.onMsg s mtype f) := by
  unfold State.onMsg
  split
  · next m t e => exact h m t (good_takeMsg _ _ h_s _ e)
  · exact h_s

theorem good_execReport (s : State) (h_s : State.Good s) :
    AllNext State.Good (execReport s) := by
  grind -lia -linarith -ring -order -ac [execReport, = allNext_iff, = State.Good, good_onMsg, good_put, good_putSat,
    good_updPartner, good_showPartners, good_judgeCap]

theorem good_execShare (s : State) (h_s : State.Good s) :
    AllNext State.Good (execShare s) := by
  grind -lia -linarith -ring -order -ac [execShare, = allNext_iff, = State.Good, good_onMsg, good_updGov, good_sendSite]

theorem good_execShareAck (s : State) (h_s : State.Good s) :
    AllNext State.Good (execShareAck s) := by
  grind -lia -linarith -ring -order -ac [execShareAck, = allNext_iff, = State.Good, good_onMsg, good_updSit, good_put,
    good_updPartner, good_sendRaises, good_showPartners]

theorem good_execMeterInfo (s : State) (h_s : State.Good s) :
    AllNext State.Good (execMeterInfo s) := by
  grind -lia -linarith -ring -order -ac [execMeterInfo, = allNext_iff, = State.Good, good_onMsg, good_put, good_updSit,
    good_when, good_set1]

theorem good_execLinkReport (s : State) (h_s : State.Good s) :
    AllNext State.Good (execLinkReport s) := by
  grind -lia -linarith -ring -order -ac [execLinkReport, = allNext_iff, = State.Good, good_onMsg, good_updSit,
    good_showLinks]

theorem good_execToneMap (s : State) (h_s : State.Good s) :
    AllNext State.Good (execToneMap s) := by
  grind -lia -linarith -ring -order -ac [execToneMap, = allNext_iff, = State.Good, good_onMsg, good_put, good_updLinkRec,
    good_showLinks]

theorem good_execAnnounce (s : State) (h_s : State.Good s) :
    AllNext State.Good (execAnnounce s) := by
  grind -lia -linarith -ring -order -ac [execAnnounce, = allNext_iff, good_onMsg, good_hearNode, good_showLinks]

theorem good_execHostData (s : State) (h_s : State.Good s) :
    AllNext State.Good (execHostData s) := by
  grind -lia -linarith -ring -order -ac [execHostData, = allNext_iff, = State.Good, good_onMsg, good_updSit, good_put,
    good_set1, good_sendSite]

theorem good_execE2eAck (s : State) (h_s : State.Good s) :
    AllNext State.Good (execE2eAck s) := by
  grind -lia -linarith -ring -order -ac [execE2eAck, = allNext_iff, = State.Good, good_onMsg, good_updSit, good_replyTo]

theorem good_siteReplay (s : State) (h_s : State.Good s) :
    State.Good (State.siteReplay s) := by
  grind -lia -linarith -ring -order -ac [State.siteReplay, = State.Good, good_updSit]

theorem good_siteRestart (s : State) (h_s : State.Good s) :
    State.Good (State.siteRestart s) := by
  grind -lia -linarith -ring -order -ac [State.siteRestart, = State.Good, good_siteStop, good_updSit]

theorem good_execSitSend (mb : Fin 8) (s : State) (h_s : State.Good s) :
    AllNext State.Good (execSitSend mb s) := by
  grind -lia -linarith -ring -order -ac [execSitSend, = allNext_iff, good_command, good_reply, good_sendSite]

theorem good_execSitRecv (mb : Fin 8) (s : State) (h_s : State.Good s) :
    AllNext State.Good (execSitRecv mb s) := by
  grind -lia -linarith -ring -order -ac [execSitRecv, = allNext_iff, = State.Good, good_command, good_reply, good_laneWrite,
    good_updSit, good_put]

theorem good_execSitLinkInfo (mb : Fin 8) (s : State) (h_s : State.Good s) :
    AllNext State.Good (execSitLinkInfo mb s) := by
  grind -lia -linarith -ring -order -ac [execSitLinkInfo, = allNext_iff, = State.Good, good_command, good_reply,
    good_laneWrite]

theorem good_execSitProbe (mb : Fin 8) (s : State) (h_s : State.Good s) :
    AllNext State.Good (execSitProbe mb s) := by
  grind -lia -linarith -ring -order -ac [execSitProbe, = allNext_iff, good_command, good_reply, good_sendMsg]

/-! ### Bezel -/

theorem good_updBzl (s : State) (f : BzlSt → BzlSt) (h_s : State.Good s) :
    State.Good (State.updBzl s f) := by
  grind -lia -linarith -ring -order -ac [State.updBzl, = State.Good]

theorem good_showPending (s : State) (h_s : State.Good s) :
    State.Good (State.showPending s) := by
  grind -lia -linarith -ring -order -ac [State.showPending, good_put]

theorem good_want (s : State) (f : Nat → Nat → Nat) (h_s : State.Good s) :
    State.Good (State.want s f) := by
  grind -lia -linarith -ring -order -ac [State.want, = State.Good, good_updBzl, good_showPending]

theorem good_legalReading (s : State) (h_s : State.Good s) : State.Good (State.legalReading s) := by
  unfold State.legalReading
  dsimp only
  split
  · split
    · exact good_updBzl _ _ h_s
    · exact h_s
  · split
    · exact good_updBzl _ _ h_s
    · exact h_s

theorem good_legalField (s : State) (h_s : State.Good s) : State.Good (State.legalField s) := by
  unfold State.legalField
  dsimp only
  split
  · exact good_legalReading _ h_s
  · exact good_want _ _ (good_updBzl _ _ (good_legalReading _ h_s))

theorem good_startLine (s : State) (k : Nat) (fresh : Option Bool) (rails : List Nat) (h_s : State.Good s) :
    State.Good (State.startLine s k fresh rails) := by
  unfold State.startLine
  dsimp only
  split
  · exact good_raise _ _ _ _ _ _ (good_set1 _ _ (good_updBzl _ _ (good_putSat _ _ _ (good_put _ _ _ (good_set1 _ _ (good_updBzl _ _ h_s))))))
  · exact good_putSat _ _ _ (good_put _ _ _ (good_set1 _ _ (good_updBzl _ _ h_s)))

theorem good_refuseLine (s : State) (h_s : State.Good s) :
    State.Good (State.refuseLine s) := by
  grind -lia -linarith -ring -order -ac [State.refuseLine, = State.Good, good_updBzl, good_when, good_set1, good_raise]

theorem good_watchRails (s : State) (rails : List Nat) (h_s : State.Good s) :
    State.Good (State.watchRails s rails) := by
  grind -lia -linarith -ring -order -ac [State.watchRails, = State.Good, good_updBzl]

theorem good_bezelAdmitted (s : State) (rails : List Nat) (h_s : State.Good s) :
    State.Good (State.bezelAdmitted s rails) := by
  grind -lia -linarith -ring -order -ac [State.bezelAdmitted, = State.Good, good_forUpTo, good_putSat, good_startLine,
    good_refuseLine]

theorem good_addStress (s : State) (w : LineWrite) (h_s : State.Good s) :
    State.Good (State.addStress s w) := by
  grind -lia -linarith -ring -order -ac [State.addStress, = State.Good, good_updBzl]

theorem good_judgeCharge (s : State) (k q : Nat) (h_s : State.Good s) : State.Good (State.judgeCharge s k q) := by
  have h : ∀ (b : Bool) (p : Prop) [Decidable p] (f g : BzlSt → BzlSt) (v : Nat), State.Good (if b then s.updBzl f
      else if p then ((s.putSat BZL_AGE_AGE_K v).set1 WEAR_EVENTS_BEZEL).updBzl g else s) := by
    intro b p _ f g v
    split
    · exact good_updBzl _ _ h_s
    · split
      · exact good_updBzl _ _ (good_set1 _ _ (good_putSat _ _ _ h_s))
      · exact h_s
  unfold State.judgeCharge
  dsimp only
  generalize (if nth s.bzl.raised false k = true then decide ((nth s.bzl.charge (0, 0) k).2 < 1000)
    else decide (s.mono < 8760 * 3600)) = b
  exact h b _ _ _ _

theorem good_execBezelPulseEnd (charge : Nat) (s : State) (h_s : State.Good s) :
    AllNext State.Good (execBezelPulseEnd charge s) := by
  grind -lia -linarith -ring -order -ac [execBezelPulseEnd, = allNext_iff, = State.Good, good_addStress, good_judgeCharge,
    good_updBzl]

theorem good_bezelAnswers (s : State) (h_s : State.Good s) :
    State.Good (State.bezelAnswers s) := by
  grind -lia -linarith -ring -order -ac [State.bezelAnswers, = State.Good, good_forEach, good_replyTo, good_updBzl]

theorem good_lineDone (s : State) (w : LineWrite) (h_s : State.Good s) :
    State.Good (State.lineDone s w) := by
  grind -lia -linarith -ring -order -ac [State.lineDone, = State.Good, good_updBzl, good_clr, good_inc, good_putBit,
    good_when, good_showPending, good_set1, good_bezelAnswers]

theorem good_execBezelRestEnd (s : State) (h_s : State.Good s) :
    AllNext State.Good (execBezelRestEnd s) := by
  grind -lia -linarith -ring -order -ac [execBezelRestEnd, = allNext_iff, = State.Good, good_lineDone]

theorem good_execBezelRailResume (rails : List Nat) (s : State) (h_s : State.Good s) :
    AllNext State.Good (execBezelRailResume rails s) := by
  grind -lia -linarith -ring -order -ac [execBezelRailResume, = allNext_iff, = State.Good, good_watchRails, good_clr,
    good_updBzl]

theorem good_execBezelDropRepost (s : State) (h_s : State.Good s) :
    AllNext State.Good (execBezelDropRepost s) := by
  grind -lia -linarith -ring -order -ac [execBezelDropRepost, = allNext_iff, = State.Good, good_forEach, good_postComp,
    good_updBzl]

theorem good_bezelWarn (s : State) (left : Nat) (h_s : State.Good s) :
    State.Good (State.bezelWarn s left) := by
  grind -lia -linarith -ring -order -ac [State.bezelWarn, = State.Good, good_updBzl, good_clr]

theorem good_execBezelRecovery (s : State) (h_s : State.Good s) :
    AllNext State.Good (execBezelRecovery s) := by
  grind -lia -linarith -ring -order -ac [execBezelRecovery, = allNext_iff, = State.Good, good_updBzl, good_set1, good_raise]

theorem good_bezelRestart (s : State) (h_s : State.Good s) :
    State.Good (State.bezelRestart s) := by
  grind -lia -linarith -ring -order -ac [State.bezelRestart, = State.Good, good_updBzl, good_showPending]

theorem good_execBzlShow (mb : Fin 8) (s : State) (h_s : State.Good s) :
    AllNext State.Good (execBzlShow mb s) := by
  grind -lia -linarith -ring -order -ac [execBzlShow, = allNext_iff, = State.Good, good_command, good_reply, good_want,
    good_updBzl, good_bezelAnswers]

theorem good_execBzlRefresh (mb : Fin 8) (s : State) (h_s : State.Good s) :
    AllNext State.Good (execBzlRefresh mb s) := by
  grind -lia -linarith -ring -order -ac [execBzlRefresh, = allNext_iff, = State.Good, good_command, good_updBzl,
    good_showPending]

theorem good_execBzlStressRead (mb : Fin 8) (s : State) (h_s : State.Good s) :
    AllNext State.Good (execBzlStressRead mb s) := by
  grind -lia -linarith -ring -order -ac [execBzlStressRead, = allNext_iff, good_command, good_reply, good_laneWrite]

/-! ### Reader -/

theorem good_updNfc (s : State) (f : NfcSt → NfcSt) (h_s : State.Good s) :
    State.Good (State.updNfc s f) := by
  grind -lia -linarith -ring -order -ac [State.updNfc, = State.Good]

theorem good_cardGone (s : State) (h_s : State.Good s) :
    State.Good (State.cardGone s) := by
  grind -lia -linarith -ring -order -ac [State.cardGone, = State.Good, good_wrN, good_wr128, good_put, good_updNfc]

theorem good_exchangeError (s : State) (h_s : State.Good s) :
    State.Good (State.exchangeError s) := by
  grind -lia -linarith -ring -order -ac [State.exchangeError, = State.Good, good_replyTo, good_updNfc, good_inc, good_set1,
    good_put, good_raiseLimited]

theorem good_execReaderPoll (card : Option CardObs) (driveOk : Bool) (s : State) (h_s : State.Good s) :
    AllNext State.Good (execReaderPoll card driveOk s) := by
  grind -lia -linarith -ring -order -ac [execReaderPoll, = allNext_iff, = State.Good, good_put, good_updNfc, good_raise,
    good_putB, good_set1, good_wr128, good_inc]

theorem good_execCardPresenceCheck (answered : Bool) (s : State) (h_s : State.Good s) :
    AllNext State.Good (execCardPresenceCheck answered s) := by
  grind -lia -linarith -ring -order -ac [execCardPresenceCheck, = allNext_iff, = State.Good, good_updNfc, good_cardGone,
    good_set1]

theorem good_sendChunk (s : State) (e : IsoEx) (h_s : State.Good s) :
    State.Good (State.sendChunk s e) := by
  grind -lia -linarith -ring -order -ac [State.sendChunk, = State.Good, good_updNfc]

theorem good_isoSend (s : State) (h_s : State.Good s) :
    State.Good (State.isoSend s) := by
  grind -lia -linarith -ring -order -ac [State.isoSend, = State.Good, good_updNfc]

theorem good_execIsoDepBlockReceived (b : IsoBlock) (s : State) (h_s : State.Good s) :
    AllNext State.Good (execIsoDepBlockReceived b s) := by
  grind -lia -linarith -ring -order -ac [execIsoDepBlockReceived, = allNext_iff, = State.Good, good_updNfc, good_sendChunk,
    good_laneWrite, good_replyTo, good_put]

theorem good_execIsoDepTimeout (s : State) (h_s : State.Good s) :
    AllNext State.Good (execIsoDepTimeout s) := by
  grind -lia -linarith -ring -order -ac [execIsoDepTimeout, = allNext_iff, = State.Good, good_updNfc, good_exchangeError]

theorem good_isoReplay (s : State) (h_s : State.Good s) :
    State.Good (State.isoReplay s) := by
  grind -lia -linarith -ring -order -ac [State.isoReplay, = State.Good, good_updNfc, good_isoSend]

theorem good_setCell (s : State) (k : Nat) (c : TagCell) (h_s : State.Good s) :
    State.Good (State.setCell s k c) := by
  grind -lia -linarith -ring -order -ac [State.setCell, = State.Good, good_updNfc]

theorem good_tagReads (s : State) (ks : List Nat) (h_s : State.Good s) :
    State.Good (State.tagReads s ks) := by
  grind -lia -linarith -ring -order -ac [State.tagReads, good_forEach, good_raise]

theorem good_setTagVal (s : State) (k v : Nat) (h_s : State.Good s) :
    State.Good (State.setTagVal s k v) := by
  grind -lia -linarith -ring -order -ac [State.setTagVal, = State.Good, good_setCell]

theorem good_showCounter (s : State) (k : Nat) (h_s : State.Good s) :
    State.Good (State.showCounter s k) := by
  grind -lia -linarith -ring -order -ac [State.showCounter, good_put]

theorem good_countTag (s : State) (k : Nat) (h_s : State.Good s) :
    State.Good (State.countTag s k) := by
  grind -lia -linarith -ring -order -ac [State.countTag, = State.Good, good_raise, good_setTagVal, good_showCounter]

theorem good_startWrite (s : State) (k v : Nat) (f : TagWrite → TagWrite) (h_s : State.Good s) :
    State.Good (State.startWrite s k v f) := by
  grind -lia -linarith -ring -order -ac [State.startWrite, = State.Good, good_updNfc, good_set1]

theorem good_tagOwn (s : State) (h_s : State.Good s) :
    State.Good (State.tagOwn s) := by
  grind -lia -linarith -ring -order -ac [State.tagOwn, = State.Good, good_updNfc, good_put, good_startWrite]

theorem good_ownWrites (s : State) (l : List (Nat × Nat)) (h_s : State.Good s) :
    State.Good (State.ownWrites s l) := by
  grind -lia -linarith -ring -order -ac [State.ownWrites, = State.Good, good_updNfc, good_tagOwn]

theorem good_tagCollapse (s : State) (h_s : State.Good s) :
    State.Good (State.tagCollapse s) := by
  grind -lia -linarith -ring -order -ac [State.tagCollapse, = State.Good, good_draw, good_setCell, good_updNfc, good_clr,
    good_when, good_inc]

theorem good_tagAnswer (s : State) (a : Option Nat) (bytes : List Byte) (n : Nat) (f : CrownFrame) (h_s : State.Good s) :
    State.Good (State.tagAnswer s a bytes n f) := by
  grind -lia -linarith -ring -order -ac [State.tagAnswer, = State.Good, good_updNfc, good_answer, good_reply]

theorem good_keyWritten (s : State) (key : Nat) (ok : Bool) (h_s : State.Good s) :
    State.Good (State.keyWritten s key ok) := by
  grind -lia -linarith -ring -order -ac [State.keyWritten, = State.Good, good_updNfc, good_raise]

theorem good_tagAbortsLate (s : State) (op : CmdRef) (h_s : State.Good s) :
    State.Good (State.tagAbortsLate s op) := by
  grind -lia -linarith -ring -order -ac [State.tagAbortsLate, = State.Good, good_forEach, good_abortLateTo, good_updNfc]

theorem good_execTagWriteCommit (failed : Fin 3) (s : State) (h_s : State.Good s) :
    AllNext State.Good (execTagWriteCommit failed s) := by
  grind -lia -linarith -ring -order -ac [execTagWriteCommit, = allNext_iff, = State.Good, good_setCell, good_updNfc,
    good_clr, good_showCounter, good_when, good_raise, good_keyWritten, good_put, good_set1, good_answer, good_reply,
    good_replyTo, good_tagAbortsLate, good_tagOwn, good_startWrite]

theorem good_endTxn (s : State) (h_s : State.Good s) :
    State.Good (State.endTxn s) := by
  grind -lia -linarith -ring -order -ac [State.endTxn, good_clr, good_set1, good_tagOwn]

theorem good_execTagFieldOn (s : State) (h_s : State.Good s) :
    AllNext State.Good (execTagFieldOn s) := by
  grind -lia -linarith -ring -order -ac [execTagFieldOn, = allNext_iff, good_set1]

theorem good_execTagFieldLoss (s : State) (h_s : State.Good s) :
    AllNext State.Good (execTagFieldLoss s) := by
  grind -lia -linarith -ring -order -ac [execTagFieldLoss, = allNext_iff, = State.Good, good_tagCollapse, good_clr,
    good_put, good_updNfc, good_endTxn]

theorem good_tagSays (s : State) (bytes : List Byte) (last : Bool) (h_s : State.Good s) :
    State.Good (State.tagSays s bytes last) := by
  grind -lia -linarith -ring -order -ac [State.tagSays, = State.Good, good_updNfc, good_reply, good_answer]

theorem good_tagBack (s : State) (h_s : State.Good s) :
    State.Good (State.tagBack s) := by
  grind -lia -linarith -ring -order -ac [State.tagBack, = State.Good, good_put, good_updNfc]

theorem good_execTagReqa (s : State) (h_s : State.Good s) :
    AllNext State.Good (execTagReqa s) := by
  grind -lia -linarith -ring -order -ac [execTagReqa, = allNext_iff, = State.Good, good_put, good_updNfc, good_tagSays,
    good_tagBack]

theorem good_execTagWupa (s : State) (h_s : State.Good s) :
    AllNext State.Good (execTagWupa s) := by
  grind -lia -linarith -ring -order -ac [execTagWupa, = allNext_iff, = State.Good, good_put, good_updNfc, good_tagSays,
    good_tagBack]

theorem good_execTagAnticollision (s : State) (h_s : State.Good s) :
    AllNext State.Good (execTagAnticollision s) := by
  grind -lia -linarith -ring -order -ac [execTagAnticollision, = allNext_iff, good_tagSays, good_tagBack]

theorem good_execTagSelect (s : State) (h_s : State.Good s) :
    AllNext State.Good (execTagSelect s) := by
  grind -lia -linarith -ring -order -ac [execTagSelect, = allNext_iff, = State.Good, good_tagSays, good_put, good_set1,
    good_updNfc, good_tagBack]

theorem good_execTagHlta (s : State) (h_s : State.Good s) :
    AllNext State.Good (execTagHlta s) := by
  grind -lia -linarith -ring -order -ac [execTagHlta, = allNext_iff, = State.Good, good_put, good_updNfc, good_endTxn,
    good_tagBack]

theorem good_execTagDeselect (s : State) (h_s : State.Good s) :
    AllNext State.Good (execTagDeselect s) := by
  grind -lia -linarith -ring -order -ac [execTagDeselect, = allNext_iff, = State.Good, good_put, good_updNfc, good_endTxn,
    good_tagBack]

theorem good_execTagSilenceEnd (s : State) (h_s : State.Good s) :
    AllNext State.Good (execTagSilenceEnd s) := by
  grind -lia -linarith -ring -order -ac [execTagSilenceEnd, = allNext_iff, = State.Good, good_put]

theorem good_execTagTxnIdleTimeout (s : State) (h_s : State.Good s) :
    AllNext State.Good (execTagTxnIdleTimeout s) := by
  grind -lia -linarith -ring -order -ac [execTagTxnIdleTimeout, = allNext_iff, good_endTxn]

theorem good_crown (s : State) (f : CrownFrame) (n : Nat) (body : State → State) (h_s : State.Good s) (h_body : ∀ u, State.Good u → State.Good (body u)) :
    AllNext State.Good (State.crown s f n body) := by
  grind -lia -linarith -ring -order -ac [State.crown, = allNext_iff, = State.Good, good_tagBack, good_updNfc, good_answer,
    good_reply, good_set1, good_tagAnswer]

theorem good_nak (s : State) (a : Nat) (h_s : State.Good s) :
    State.Good (State.nak s a) := by
  grind -lia -linarith -ring -order -ac [State.nak, = State.Good, good_updNfc, good_answer, good_reply]

theorem good_answerBytes (s : State) (l : List Byte) (h_s : State.Good s) :
    State.Good (State.answerBytes s l) := by
  grind -lia -linarith -ring -order -ac [State.answerBytes, = State.Good, good_updNfc, good_answer, good_reply]

theorem good_execGetInfo (f : CrownFrame) (s : State) (h_s : State.Good s) :
    AllNext State.Good (execGetInfo f s) := by
  grind -lia -linarith -ring -order -ac [execGetInfo, = allNext_iff, good_crown, good_answerBytes]

theorem good_execReadBlock (f : CrownFrame) (block : BitVec 16) (s : State) (h_s : State.Good s) :
    AllNext State.Good (execReadBlock f block s) := by
  grind -lia -linarith -ring -order -ac [execReadBlock, = allNext_iff, = State.Good, good_crown, good_nak, good_answerBytes]

theorem good_execWriteBlock (f : CrownFrame) (block : BitVec 16) (data : BitVec 128) (reserve : Bool) (s : State) (h_s : State.Good s) :
    AllNext State.Good (execWriteBlock f block data reserve s) := by
  grind -lia -linarith -ring -order -ac [execWriteBlock, = allNext_iff, = State.Good, good_crown, good_nak, good_reserve,
    good_set1, good_startWrite]

theorem good_execReadCounter (f : CrownFrame) (k : BitVec 8) (s : State) (h_s : State.Good s) :
    AllNext State.Good (execReadCounter f k s) := by
  grind -lia -linarith -ring -order -ac [execReadCounter, = allNext_iff, = State.Good, good_crown, good_nak,
    good_answerBytes]

theorem good_execIncrCounter (f : CrownFrame) (k : BitVec 8) (inc : BitVec 24) (reserve : Bool) (s : State) (h_s : State.Good s) :
    AllNext State.Good (execIncrCounter f k inc reserve s) := by
  grind -lia -linarith -ring -order -ac [execIncrCounter, = allNext_iff, = State.Good, good_crown, good_inc, good_nak,
    good_raise, good_reserve, good_set1, good_startWrite]

theorem good_tagFail (s : State) (h_s : State.Good s) :
    State.Good (State.tagFail s) := by
  grind -lia -linarith -ring -order -ac [State.tagFail, = State.Good, good_countTag, good_updNfc, good_nak]

theorem good_execPwdAuth (f : CrownFrame) (pwd : BitVec 32) (s : State) (h_s : State.Good s) :
    AllNext State.Good (execPwdAuth f pwd s) := by
  grind -lia -linarith -ring -order -ac [execPwdAuth, = allNext_iff, good_crown, good_nak, good_put, good_tagFail]

theorem good_execAuthBegin (f : CrownFrame) (chal : BitVec 128) (s : State) (h_s : State.Good s) :
    AllNext State.Good (execAuthBegin f chal s) := by
  grind -lia -linarith -ring -order -ac [execAuthBegin, = allNext_iff, = State.Good, good_crown, good_nak, good_draw,
    good_updNfc, good_answerBytes]

theorem good_execAuthEnd (f : CrownFrame) (resp : BitVec 128) (s : State) (h_s : State.Good s) :
    AllNext State.Good (execAuthEnd f resp s) := by
  grind -lia -linarith -ring -order -ac [execAuthEnd, = allNext_iff, = State.Good, good_crown, good_nak, good_put,
    good_updNfc, good_tagFail]

theorem good_judgeC1 (s : State) (h_s : State.Good s) :
    State.Good (State.judgeC1 s) := by
  grind -lia -linarith -ring -order -ac [State.judgeC1, = State.Good, good_showCounter, good_updNfc, good_incBy, good_set1,
    good_raise]

theorem good_scrubCell (s : State) (k : Nat) (h_s : State.Good s) :
    State.Good (State.scrubCell s k) := by
  grind -lia -linarith -ring -order -ac [State.scrubCell, = State.Good, good_raise, good_setCell, good_inc, good_set1]

theorem good_execTagScrub (s : State) (h_s : State.Good s) :
    AllNext State.Good (execTagScrub s) := by
  grind -lia -linarith -ring -order -ac [execTagScrub, = allNext_iff, = State.Good, good_forEach, good_scrubCell,
    good_forUpTo, good_showCounter, good_judgeC1, good_updNfc]

theorem good_execFaultMirrorWrite (s : State) (h_s : State.Good s) :
    AllNext State.Good (execFaultMirrorWrite s) := by
  grind -lia -linarith -ring -order -ac [execFaultMirrorWrite, = allNext_iff, = State.Good, good_updNfc, good_ownWrites]

theorem good_setHostLock (s : State) (v : Bool) (h_s : State.Good s) :
    State.Good (State.setHostLock s v) := by
  grind -lia -linarith -ring -order -ac [State.setHostLock, good_putB, good_ownWrites]

theorem good_execTagHostLockWrite (v : Bool) (s : State) (h_s : State.Good s) :
    AllNext State.Good (execTagHostLockWrite v s) := by
  grind -lia -linarith -ring -order -ac [execTagHostLockWrite, = allNext_iff, good_setHostLock]

theorem good_readInstaller (s : State) (h_s : State.Good s) :
    State.Good (State.readInstaller s) := by
  grind -lia -linarith -ring -order -ac [State.readInstaller, good_tagReads]

theorem good_commission (s : State) (offered accepted result detail : Nat) (h_s : State.Good s) :
    State.Good (State.commission s offered accepted result detail) := by
  grind -lia -linarith -ring -order -ac [State.commission, good_ownWrites, good_tagReads, good_raise, good_wrN]

theorem good_tagStart (s : State) (key : Option Nat) (h_s : State.Good s) : State.Good (State.tagStart s key) := by
  cases key <;> grind -lia -linarith -ring -order -ac [State.tagStart, = State.Good, good_tagReads, good_ownWrites, good_judgeC1,
    good_updNfc]

theorem good_execNfcRdEnable (mb : Fin 8) (s : State) (h_s : State.Good s) :
    AllNext State.Good (execNfcRdEnable mb s) := by
  grind -lia -linarith -ring -order -ac [execNfcRdEnable, = allNext_iff, = State.Good, good_command, good_reply,
    good_updNfc, good_set1, good_put, good_clr, good_exchangeError, good_cardGone]

theorem good_execNfcRdApdu (mb : Fin 8) (s : State) (h_s : State.Good s) :
    AllNext State.Good (execNfcRdApdu mb s) := by
  grind -lia -linarith -ring -order -ac [execNfcRdApdu, = allNext_iff, good_command, good_reply, good_sendChunk, good_put]

theorem good_execNfcRdRelease (mb : Fin 8) (s : State) (h_s : State.Good s) :
    AllNext State.Good (execNfcRdRelease mb s) := by
  grind -lia -linarith -ring -order -ac [execNfcRdRelease, = allNext_iff, good_command, good_exchangeError, good_cardGone,
    good_reply]

theorem good_execNfcTagRead (mb : Fin 8) (s : State) (h_s : State.Good s) :
    AllNext State.Good (execNfcTagRead mb s) := by
  grind -lia -linarith -ring -order -ac [execNfcTagRead, = allNext_iff, good_command, good_reply, good_forEach, good_raise,
    good_laneWrite]

theorem good_execNfcTagWrite (mb : Fin 8) (s : State) (h_s : State.Good s) :
    AllNext State.Good (execNfcTagWrite mb s) := by
  grind -lia -linarith -ring -order -ac [execNfcTagWrite, = allNext_iff, = State.Good, good_command, good_reply, good_put,
    good_startWrite]

theorem good_abortWrite (s : State) (w : TagWrite) (h_s : State.Good s) :
    State.Good (State.abortWrite s w) := by
  grind -lia -linarith -ring -order -ac [State.abortWrite, = State.Good, good_setCell, good_updNfc, good_clr, good_tagOwn]

theorem good_execNfcTagAbort (mb : Fin 8) (s : State) (h_s : State.Good s) :
    AllNext State.Good (execNfcTagAbort mb s) := by
  grind -lia -linarith -ring -order -ac [execNfcTagAbort, = allNext_iff, = State.Good, good_command, good_updNfc,
    good_abortLate]

theorem good_tagAborts (s : State) (h_s : State.Good s) :
    State.Good (State.tagAborts s) := by
  grind -lia -linarith -ring -order -ac [State.tagAborts, = State.Good, good_abortWrite, good_updNfc, good_dropCmd,
    good_forEach, good_replyTo]

theorem good_execNfcTagCounter (mb : Fin 8) (s : State) (h_s : State.Good s) :
    AllNext State.Good (execNfcTagCounter mb s) := by
  grind -lia -linarith -ring -order -ac [execNfcTagCounter, = allNext_iff, = State.Good, good_command, good_reply,
    good_tagReads, good_raise, good_put, good_startWrite]

theorem good_execNfcTagPwd (mb : Fin 8) (s : State) (h_s : State.Good s) :
    AllNext State.Good (execNfcTagPwd mb s) := by
  grind -lia -linarith -ring -order -ac [execNfcTagPwd, = allNext_iff, good_command, good_reply, good_putB, good_ownWrites]

/-! ### Mainplate -/

theorem good_updMp (s : State) (f : MpSt → MpSt) (h_s : State.Good s) :
    State.Good (State.updMp s f) := by
  grind -lia -linarith -ring -order -ac [State.updMp, = State.Good]

theorem good_raiseMp (s : State) (code cls p0 p1 : Nat) (h_s : State.Good s) :
    State.Good (State.raiseMp s code cls p0 p1) := by
  grind -lia -linarith -ring -order -ac [State.raiseMp, good_raiseLimited]

theorem good_accessFault (s : State) (m a : Nat) (h_s : State.Good s) :
    State.Good (State.accessFault s m a) := by
  grind -lia -linarith -ring -order -ac [State.accessFault, good_set1, good_raiseMp]

theorem good_laneAccess (s : State) (m a n : Nat) (write : Bool) (h_s : State.Good s) :
    State.Good (State.laneAccess s m a n write) := by
  grind -lia -linarith -ring -order -ac [State.laneAccess, good_when, good_legalWrite, good_accessFault, good_raiseHost]

theorem good_showPoison (s : State) (h_s : State.Good s) :
    State.Good (State.showPoison s) := by
  grind -lia -linarith -ring -order -ac [State.showPoison, good_forUpTo, good_putSat]

theorem good_spareTrigger (s : State) (b : Nat) (h_s : State.Good s) :
    State.Good (State.spareTrigger s b) := by
  grind -lia -linarith -ring -order -ac [State.spareTrigger, = State.Good, good_updMp, good_put, good_set1, good_raiseMp]

theorem good_eccLast (s : State) (finder a : Nat) (double : Bool) (h_s : State.Good s) :
    State.Good (State.eccLast s finder a double) := by
  grind -lia -linarith -ring -order -ac [State.eccLast, good_wrN, good_putB, good_put]

theorem good_eccSingle (s : State) (finder a : Nat) (h_s : State.Good s) :
    State.Good (State.eccSingle s finder a) := by
  grind -lia -linarith -ring -order -ac [State.eccSingle, = State.Good, good_eccLast, good_set1, good_updMp, good_putSat,
    good_raiseLimited, good_when, good_spareTrigger]

theorem good_poisonWord (s : State) (finder a : Nat) (h_s : State.Good s) :
    State.Good (State.poisonWord s finder a) := by
  grind -lia -linarith -ring -order -ac [State.poisonWord, = State.Good, good_eccLast, good_set1, good_updMp,
    good_showPoison, good_spareTrigger]

theorem good_clearPoison (s : State) (w : Nat) (h_s : State.Good s) :
    State.Good (State.clearPoison s w) := by
  grind -lia -linarith -ring -order -ac [State.clearPoison, = State.Good, good_updMp, good_showPoison]

theorem good_poisonRead (s : State) (m w : Nat) (h_s : State.Good s) :
    State.Good (State.poisonRead s m w) := by
  grind -lia -linarith -ring -order -ac [State.poisonRead, good_raiseMp, good_clearPoison, good_resign]

theorem good_laneReads (s : State) (a n : Nat) (h_s : State.Good s) :
    State.Good (State.laneReads s a n) := by
  grind -lia -linarith -ring -order -ac [State.laneReads, good_forEach, good_poisonRead]

theorem good_releaseBank (s : State) (b : Nat) (h_s : State.Good s) :
    State.Good (State.releaseBank s b) := by
  grind -lia -linarith -ring -order -ac [State.releaseBank, = State.Good, good_updMp, good_putBit]

theorem good_spareSwitch (s : State) (h_s : State.Good s) :
    State.Good (State.spareSwitch s) := by
  grind -lia -linarith -ring -order -ac [State.spareSwitch, = State.Good, good_releaseBank, good_updMp, good_put,
    good_putBit, good_set1, good_showPoison, good_raiseMp]

theorem good_showBanks (s : State) (t : Nat) (h_s : State.Good s) :
    State.Good (State.showBanks s t) := by
  grind -lia -linarith -ring -order -ac [State.showBanks, = State.Good, good_put, good_spareSwitch]

theorem good_spareBeat (s : State) (h_s : State.Good s) :
    State.Good (State.spareBeat s) := by
  grind -lia -linarith -ring -order -ac [State.spareBeat, = State.Good, good_updMp, good_putBit, good_spareSwitch]

theorem good_countGrant (s : State) (r : MpReq) (t : Nat) (h_s : State.Good s) :
    State.Good (State.countGrant s r t) := by
  grind -lia -linarith -ring -order -ac [State.countGrant, = State.Good, good_inc, good_raiseTo, good_set1, good_raiseMp,
    good_updMp]

theorem good_showLoads (s : State) (h_s : State.Good s) :
    State.Good (State.showLoads s) := by
  grind -lia -linarith -ring -order -ac [State.showLoads, = State.Good, good_forUpTo, good_updMp, good_put, good_raiseTo]

theorem good_updDma (s : State) (n : Nat) (f : DmaSt → DmaSt) (h_s : State.Good s) :
    State.Good (State.updDma s n f) := by
  grind -lia -linarith -ring -order -ac [State.updDma, = State.Good, good_updMp]

theorem good_dmaSet (s : State) (n st : Nat) (h_s : State.Good s) :
    State.Good (State.dmaSet s n st) := by
  grind -lia -linarith -ring -order -ac [State.dmaSet, good_put, good_putBit]

theorem good_dropReqs (s : State) (n : Nat) (h_s : State.Good s) :
    State.Good (State.dropReqs s n) := by
  grind -lia -linarith -ring -order -ac [State.dropReqs, = State.Good, good_updMp]

theorem good_dmaError (s : State) (n err : Nat) (h_s : State.Good s) :
    State.Good (State.dmaError s n err) := by
  grind -lia -linarith -ring -order -ac [State.dmaError, good_dropReqs, good_dmaSet, good_put, good_putBit, good_raiseMp]

theorem good_stopIfCut (s : State) (n : Nat) (h_s : State.Good s) :
    State.Good (State.stopIfCut s n) := by
  grind -lia -linarith -ring -order -ac [State.stopIfCut, good_dmaError]

theorem good_dmaStart (s : State) (n : Nat) (h_s : State.Good s) :
    State.Good (State.dmaStart s n) := by
  grind -lia -linarith -ring -order -ac [State.dmaStart, good_wrN, good_put, good_updDma, good_dmaSet, good_stopIfCut,
    good_dmaError]

theorem good_stopReads (s : State) (n : Nat) (h_s : State.Good s) :
    State.Good (State.stopReads s n) := by
  grind -lia -linarith -ring -order -ac [State.stopReads, = State.Good, good_updMp, good_wrN, good_updDma, good_wr]

theorem good_dmaDrained (s : State) (n : Nat) (h_s : State.Good s) :
    State.Good (State.dmaDrained s n) := by
  grind -lia -linarith -ring -order -ac [State.dmaDrained, good_dmaSet, good_putBit]

theorem good_dmaPause (s : State) (n : Nat) (h_s : State.Good s) :
    State.Good (State.dmaPause s n) := by
  grind -lia -linarith -ring -order -ac [State.dmaPause, good_put, good_dmaSet, good_stopReads, good_dmaDrained]

theorem good_dmaAbort (s : State) (n : Nat) (h_s : State.Good s) :
    State.Good (State.dmaAbort s n) := by
  grind -lia -linarith -ring -order -ac [State.dmaAbort, = State.Good, good_set1, good_updDma]

theorem good_dmaAborts (s : State) (h_s : State.Good s) :
    State.Good (State.dmaAborts s) := by
  grind -lia -linarith -ring -order -ac [State.dmaAborts, = State.Good, good_forUpTo, good_stopReads, good_dmaSet,
    good_dmaDrained]

theorem good_dmaResume (s : State) (n : Nat) (h_s : State.Good s) :
    State.Good (State.dmaResume s n) := by
  grind -lia -linarith -ring -order -ac [State.dmaResume, = State.Good, good_put, good_dmaSet, good_updDma, good_wr,
    good_stopIfCut]

theorem good_dmaCtrl (s : State) (n w : Nat) (h_s : State.Good s) :
    State.Good (State.dmaCtrl s n w) := by
  grind -lia -linarith -ring -order -ac [State.dmaCtrl, good_put, good_dmaStart, good_dmaAbort, good_dmaPause,
    good_dmaResume]

theorem good_dmaRead (s : State) (n : Nat) (a : MpAccess) (h_s : State.Good s) :
    State.Good (State.dmaRead s n a) := by
  grind -lia -linarith -ring -order -ac [State.dmaRead, = State.Good, good_raiseMp, good_dmaError, good_updDma, good_wrN,
    good_wr]

theorem good_storeEach (s : State) (ps : List (Nat × Byte)) (h_s : State.Good s) :
    State.Good (State.storeEach s ps) := by
  grind -lia -linarith -ring -order -ac [State.storeEach, good_forEach, good_mpWrite]

theorem good_storeRun (s : State) (ps : List (Nat × Byte)) (h_s : State.Good s) : State.Good (State.storeRun s ps) := by
  unfold State.storeRun
  split
  · exact h_s
  · exact good_mpWrite _ _ _ h_s

theorem good_dmaWrite (s : State) (n : Nat) (h_s : State.Good s) :
    State.Good (State.dmaWrite s n) := by
  grind -lia -linarith -ring -order -ac [State.dmaWrite, = State.Good, good_storeEach, good_storeRun, good_updDma, good_put,
    good_wrN, good_wr, good_dmaSet, good_dmaDrained]

theorem good_dmaCut (s : State) (h_s : State.Good s) :
    State.Good (State.dmaCut s) := by
  grind -lia -linarith -ring -order -ac [State.dmaCut, good_forUpTo, good_when, good_dmaError]

theorem good_execMainplateRequest (m : Fin 14) (acc : MpAccess) (due t : Nat) (s : State) (h_s : State.Good s) :
    AllNext State.Good (execMainplateRequest m acc due t s) := by
  grind -lia -linarith -ring -order -ac [execMainplateRequest, = allNext_iff, = State.Good, good_showBanks, good_updMp,
    good_laneAccess, good_accessFault]

theorem good_runBurst (s : State) (r : MpReq) (ecc : List (Fin 16 × Bool)) (h_s : State.Good s) :
    State.Good (State.runBurst s r ecc) := by
  grind -lia -linarith -ring -order -ac [State.runBurst, = State.Good, good_forEach, good_poisonWord, good_eccSingle,
    good_dmaWrite, good_dmaRead, good_mpWrite, good_when, good_journal, good_showPoison, good_poisonRead]

theorem good_execBankGrant (b : Fin 8) (t : Nat) (ecc : List (Fin 16 × Bool)) (s : State) (h_s : State.Good s) :
    AllNext State.Good (execBankGrant b t ecc s) := by
  grind -lia -linarith -ring -order -ac [execBankGrant, = allNext_iff, = State.Good, good_showBanks, good_updMp,
    good_countGrant, good_runBurst]

theorem good_execBackoffEnd (m : Fin 14) (b : Fin 8) (t : Nat) (s : State) (h_s : State.Good s) :
    AllNext State.Good (execBackoffEnd m b t s) := by
  grind -lia -linarith -ring -order -ac [execBackoffEnd, = allNext_iff, = State.Good, good_showBanks, good_updMp]

theorem good_execMasterCutoff (b : Fin 8) (t : Nat) (s : State) (h_s : State.Good s) :
    AllNext State.Good (execMasterCutoff b t s) := by
  grind -lia -linarith -ring -order -ac [execMasterCutoff, = allNext_iff, = State.Good, good_updMp, good_putBit, good_set1,
    good_raiseMp, good_when, good_dmaCut, good_showBanks]

theorem good_clearCutoff (s : State) (w : Nat) (h_s : State.Good s) :
    State.Good (State.clearCutoff s w) := by
  grind -lia -linarith -ring -order -ac [State.clearCutoff, good_put]

theorem good_execArbCutoffClear (w : PortWrite 14) (s : State) (h_s : State.Good s) :
    AllNext State.Good (execArbCutoffClear w s) := by
  grind -lia -linarith -ring -order -ac [execArbCutoffClear, = allNext_iff, good_hostSets, good_clearCutoff]

theorem good_execScrubPassEnd (found : List (Fin 0x1000000 × Bool)) (s : State) (h_s : State.Good s) :
    AllNext State.Good (execScrubPassEnd found s) := by
  grind -lia -linarith -ring -order -ac [execScrubPassEnd, = allNext_iff, = State.Good, good_forEach, good_poisonWord,
    good_raiseMp, good_eccSingle, good_put, good_updMp]

theorem good_execScrubLag (s : State) (h_s : State.Good s) : AllNext State.Good (execScrubLag s) := by
  unfold execScrubLag
  split
  · exact AllNext.next (good_raise _ _ _ _ _ _ (good_updMp _ _ h_s))
  · exact AllNext.next h_s

theorem good_execSpareCopyDone (found : List (Fin 0x200000)) (s : State) (h_s : State.Good s) :
    AllNext State.Good (execSpareCopyDone found s) := by
  grind -lia -linarith -ring -order -ac [execSpareCopyDone, = allNext_iff, = State.Good, good_forEach, good_poisonWord,
    good_raiseMp, good_updMp, good_put]

theorem good_writeHack (s : State) (banks : Nat) (on : Bool) (h_s : State.Good s) :
    State.Good (State.writeHack s banks on) := by
  grind -lia -linarith -ring -order -ac [State.writeHack, = State.Good, good_put, good_putB]

theorem good_execHackSet (port : Fin 2) (banks : BitVec 8) (s : State) (h_s : State.Good s) :
    AllNext State.Good (execHackSet port banks s) := by
  grind -lia -linarith -ring -order -ac [execHackSet, = allNext_iff, good_hostSets, good_writeHack, good_inc, good_raiseHost]

theorem good_execHackClear (w : PortWrite 8) (s : State) (h_s : State.Good s) :
    AllNext State.Good (execHackClear w s) := by
  grind -lia -linarith -ring -order -ac [execHackClear, = allNext_iff, good_hostSets, good_writeHack]

theorem good_execHackTimeout (s : State) (h_s : State.Good s) :
    AllNext State.Good (execHackTimeout s) := by
  grind -lia -linarith -ring -order -ac [execHackTimeout, = allNext_iff, = State.Good, good_releaseBank, good_raiseMp]

theorem good_dmaSets (s : State) (port n : Nat) (f : State → State) (h_s : State.Good s) (h_f : ∀ u, State.Good u → State.Good (f u)) :
    State.Good (State.dmaSets s port n f) := by
  grind -lia -linarith -ring -order -ac [State.dmaSets, good_hostSets]

theorem good_dmaBegin (s : State) (n : Nat) (desc : Option DmaDesc) (h_s : State.Good s) :
    State.Good (State.dmaBegin s n desc) := by
  cases desc <;> grind -lia -linarith -ring -order -ac [State.dmaBegin, good_dmaStart, good_wrN, good_put]

theorem good_execDmaStart (c : PortChan) (desc : Option DmaDesc) (s : State) (h_s : State.Good s) :
    AllNext State.Good (execDmaStart c desc s) := by
  grind -lia -linarith -ring -order -ac [execDmaStart, = allNext_iff, good_dmaSets, good_dmaBegin]

theorem good_execDmaPause (c : PortChan) (s : State) (h_s : State.Good s) :
    AllNext State.Good (execDmaPause c s) := by
  grind -lia -linarith -ring -order -ac [execDmaPause, = allNext_iff, good_dmaSets, good_dmaPause]

theorem good_execDmaResume (c : PortChan) (s : State) (h_s : State.Good s) :
    AllNext State.Good (execDmaResume c s) := by
  grind -lia -linarith -ring -order -ac [execDmaResume, = allNext_iff, good_dmaSets, good_dmaResume]

theorem good_execDmaAbort (c : PortChan) (s : State) (h_s : State.Good s) :
    AllNext State.Good (execDmaAbort c s) := by
  grind -lia -linarith -ring -order -ac [execDmaAbort, = allNext_iff, good_dmaSets, good_dmaAbort]

theorem good_sentPoison (s : State) (sent : List (Nat × Byte)) (h_s : State.Good s) :
    State.Good (State.sentPoison s sent) := by
  grind -lia -linarith -ring -order -ac [State.sentPoison, = State.Good, good_raiseMp]

theorem good_execDmaVerify (n : Fin 16) (flip : Bool) (s : State) (h_s : State.Good s) :
    AllNext State.Good (execDmaVerify n flip s) := by
  unfold execDmaVerify
  dsimp only
  have h : State.Good (s.sentPoison (s.dma n).sent) := good_sentPoison _ _ h_s
  generalize s.sentPoison (s.dma n).sent = v at h ⊢
  have g : State.Good ((v.dmaSet n 7).putBit DMA_EVENTS_DONE n true) := good_putBit _ _ _ _ (good_dmaSet _ _ _ h)
  have e : AllNext State.Good (.next (v.dmaError n 6)) := AllNext.next (good_dmaError _ _ _ h)
  have w : ∀ b : Bool, AllNext State.Good (.next (when b (fun u => u.set1 (DMA_C_STAT_ABORT_LATE n))
      ((v.dmaSet n 5).putBit DMA_EVENTS_DONE n true))) := fun b =>
    AllNext.next (good_when _ _ _ (fun u hu => good_set1 _ _ hu) (good_putBit _ _ _ _ (good_dmaSet _ _ _ h)))
  repeat' split
  all_goals first | exact AllNext.next h_s | exact AllNext.next g | exact e | exact w _ | skip
  all_goals apply AllNext.next
  all_goals first | apply good_storeEach | apply good_storeRun
  all_goals exact good_updDma _ _ _ h

theorem good_execDmaDeadline (n : Fin 16) (s : State) (h_s : State.Good s) :
    AllNext State.Good (execDmaDeadline n s) := by
  grind -lia -linarith -ring -order -ac [execDmaDeadline, = allNext_iff, good_set1, good_putBit, good_raiseMp]

/-! ### Keys -/

theorem good_keyRefuse (s : State) (c : Cmd) (j : Nat) (h_s : State.Good s) :
    State.Good (State.keyRefuse s c j) := by
  grind -lia -linarith -ring -order -ac [State.keyRefuse, good_jewelRefused, good_reply]

theorem good_svcWrong (s : State) (port : Nat) (h_s : State.Good s) :
    State.Good (State.svcWrong s port) := by
  grind -lia -linarith -ring -order -ac [State.svcWrong, = State.Good, good_updKey, good_set1, good_putSat, good_raise,
    good_put]

theorem good_execKeySvcChallenge (mb : Fin 8) (s : State) (h_s : State.Good s) :
    AllNext State.Good (execKeySvcChallenge mb s) := by
  grind -lia -linarith -ring -order -ac [execKeySvcChallenge, = allNext_iff, = State.Good, good_command, good_reply,
    good_keyRefuse, good_drbg, good_updKey]

theorem good_execKeySvcResponse (mb : Fin 8) (s : State) (h_s : State.Good s) :
    AllNext State.Good (execKeySvcResponse mb s) := by
  grind -lia -linarith -ring -order -ac [execKeySvcResponse, = allNext_iff, = State.Good, good_command, good_reply,
    good_jewelDenied, good_keyRefuse, good_jewelUsed, good_updKey, good_svcWrong]

theorem good_svcBeat (s : State) (h_s : State.Good s) :
    State.Good (State.svcBeat s) := by
  grind -lia -linarith -ring -order -ac [State.svcBeat, = State.Good, good_forEach, good_setJewel, good_deriveBelow,
    good_set1, good_updKey, good_when, good_put]

theorem good_execSvcChallengeExpiry (port : Fin 2) (s : State) (h_s : State.Good s) :
    AllNext State.Good (execSvcChallengeExpiry port s) := by
  unfold execSvcChallengeExpiry
  split
  · split
    · exact AllNext.next (good_updKey _ _ h_s)
    · exact AllNext.next h_s
  · exact AllNext.next h_s

theorem good_execSvcLockoutEnd (s : State) (h_s : State.Good s) :
    AllNext State.Good (execSvcLockoutEnd s) := by
  grind -lia -linarith -ring -order -ac [execSvcLockoutEnd, = allNext_iff, good_clr, good_put]

theorem good_execServiceWorldTimeout (port : Fin 2) (s : State) (h_s : State.Good s) :
    AllNext State.Good (execServiceWorldTimeout port s) := by
  grind -lia -linarith -ring -order -ac [execServiceWorldTimeout, = allNext_iff, good_put, good_set1]

theorem good_execEphemeralJewelClear (n : Fin 12) (s : State) (h_s : State.Good s) :
    AllNext State.Good (execEphemeralJewelClear n s) := by
  grind -lia -linarith -ring -order -ac [execEphemeralJewelClear, = allNext_iff, good_clearEph]

theorem good_execEntropyTestFail (s : State) (h_s : State.Good s) :
    AllNext State.Good (execEntropyTestFail s) := by
  grind -lia -linarith -ring -order -ac [execEntropyTestFail, = allNext_iff, good_clr, good_inc, good_set1, good_raise,
    good_forUpTo, good_when, good_tlsStop]

theorem good_reseed (s : State) (h_s : State.Good s) :
    State.Good (State.reseed s) := by
  grind -lia -linarith -ring -order -ac [State.reseed, = State.Good, good_put, good_updKey]

theorem good_execEntropyRecovery (s : State) (h_s : State.Good s) :
    AllNext State.Good (execEntropyRecovery s) := by
  grind -lia -linarith -ring -order -ac [execEntropyRecovery, = allNext_iff, good_set1, good_reseed]

theorem good_execDrbgReseed (s : State) (h_s : State.Good s) :
    AllNext State.Good (execDrbgReseed s) := by
  grind -lia -linarith -ring -order -ac [execDrbgReseed, = allNext_iff, good_reseed]

theorem good_execKeyPublic (mb : Fin 8) (s : State) (h_s : State.Good s) :
    AllNext State.Good (execKeyPublic mb s) := by
  grind -lia -linarith -ring -order -ac [execKeyPublic, = allNext_iff, = State.Good, good_command, good_reply]

theorem good_storeJewel (s : State) (j : Nat) (v : Option Nat) (h_s : State.Good s) :
    State.Good (State.storeJewel s j v) := by
  grind -lia -linarith -ring -order -ac [State.storeJewel, = State.Good, good_when, good_jewelUsed, good_updKey,
    good_setJewel, good_set1]

theorem good_execKeyImport (mb : Fin 8) (s : State) (h_s : State.Good s) :
    AllNext State.Good (execKeyImport mb s) := by
  grind -lia -linarith -ring -order -ac [execKeyImport, = allNext_iff, = State.Good, good_command, good_reply,
    good_keyRefuse, good_jewelUsed, good_raise, good_updKey]

theorem good_execKeyGenerate (mb : Fin 8) (s : State) (h_s : State.Good s) :
    AllNext State.Good (execKeyGenerate mb s) := by
  grind -lia -linarith -ring -order -ac [execKeyGenerate, = allNext_iff, good_command, good_reply, good_keyRefuse,
    good_drbg, good_storeJewel]

theorem good_hostRespond (s : State) (c : Cmd) (h_s : State.Good s) :
    State.Good (State.hostRespond s c) := by
  grind -lia -linarith -ring -order -ac [State.hostRespond, good_reply, good_keyRefuse, good_jewelUsed]

theorem good_execKeyRespond (mb : Fin 8) (s : State) (h_s : State.Good s) :
    AllNext State.Good (execKeyRespond mb s) := by
  grind -lia -linarith -ring -order -ac [execKeyRespond, = allNext_iff, good_command, good_hostRespond]

theorem good_execNfcCardRespond (mb : Fin 8) (s : State) (h_s : State.Good s) :
    AllNext State.Good (execNfcCardRespond mb s) := by
  grind -lia -linarith -ring -order -ac [execNfcCardRespond, = allNext_iff, good_command, good_hostRespond]

theorem good_execKeyErase (mb : Fin 8) (s : State) (h_s : State.Good s) :
    AllNext State.Good (execKeyErase mb s) := by
  grind -lia -linarith -ring -order -ac [execKeyErase, = allNext_iff, good_command, good_reply, good_storeJewel]

theorem good_execKeyExport (mb : Fin 8) (s : State) (h_s : State.Good s) :
    AllNext State.Good (execKeyExport mb s) := by
  grind -lia -linarith -ring -order -ac [execKeyExport, = allNext_iff, = State.Good, good_command, good_reply,
    good_keyRefuse, good_drbg, good_jewelUsed]

theorem good_execKeyLcAdvance (mb : Fin 8) (s : State) (h_s : State.Good s) :
    AllNext State.Good (execKeyLcAdvance mb s) := by
  grind -lia -linarith -ring -order -ac [execKeyLcAdvance, = allNext_iff, = State.Good, good_command, good_reply,
    good_updKey]

theorem good_execLcFuseReadback (equal : Bool) (s : State) (h_s : State.Good s) :
    AllNext State.Good (execLcFuseReadback equal s) := by
  grind -lia -linarith -ring -order -ac [execLcFuseReadback, = allNext_iff, = State.Good, good_updKey, good_raise,
    good_enterSafeHold, good_put, good_set1, good_replyTo, good_showLoaded, good_when, good_fullSave, good_settingOutputs]

/-! ### Update -/

theorem good_updRefused (s : State) (code c : Nat) (h_s : State.Good s) :
    State.Good (State.updRefused s code c) := by
  grind -lia -linarith -ring -order -ac [State.updRefused, good_raise, good_when, good_tamperA]

theorem good_loadStart (s : State) (l : UpdLoad) (h_s : State.Good s) :
    State.Good (State.loadStart s l) := by
  grind -lia -linarith -ring -order -ac [State.loadStart, good_put]

theorem good_loadCommit (s : State) (l : UpdLoad) (h_s : State.Good s) :
    State.Good (State.loadCommit s l) := by
  grind -lia -linarith -ring -order -ac [State.loadCommit, = State.Good, good_updUpd, good_put, good_raiseTo, good_putB,
    good_set1]

theorem good_loadEnd (s : State) (l : UpdLoad) (status code : Nat) (h_s : State.Good s) :
    State.Good (State.loadEnd s l status code) := by
  grind -lia -linarith -ring -order -ac [State.loadEnd, = State.Good, good_updUpd, good_replyTo, good_forEach,
    good_abortLateTo]

theorem good_loadFail (s : State) (l : UpdLoad) (code : Nat) (h_s : State.Good s) :
    State.Good (State.loadFail s l code) := by
  grind -lia -linarith -ring -order -ac [State.loadFail, good_raise, good_set1, good_loadEnd, good_startRestore]

theorem good_execUpdBegin (mb : Fin 8) (s : State) (h_s : State.Good s) :
    AllNext State.Good (execUpdBegin mb s) := by
  grind -lia -linarith -ring -order -ac [execUpdBegin, = allNext_iff, = State.Good, good_command, good_reply,
    good_laneReads, good_updRefused, good_updUpd, good_loadStart]

theorem good_execUpdChunk (mb : Fin 8) (bad : Option (Fin 128)) (s : State) (h_s : State.Good s) :
    AllNext State.Good (execUpdChunk mb bad s) := by
  grind -lia -linarith -ring -order -ac [execUpdChunk, = allNext_iff, = State.Good, good_command, good_reply,
    good_keyRefuse, good_laneReads, good_updUpd, good_put, good_forUpTo, good_jewelUsed, good_loadFail]

theorem good_execUpdateLoadCommit (s : State) (h_s : State.Good s) :
    AllNext State.Good (execUpdateLoadCommit s) := by
  grind -lia -linarith -ring -order -ac [execUpdateLoadCommit, = allNext_iff, = State.Good, good_loadCommit, good_put,
    good_loadEnd]

theorem good_execUpdateRestoreDone (s : State) (h_s : State.Good s) :
    AllNext State.Good (execUpdateRestoreDone s) := by
  grind -lia -linarith -ring -order -ac [execUpdateRestoreDone, = allNext_iff, = State.Good, good_updUpd, good_put,
    good_clr, good_set1, good_raise]

theorem good_updAborts (s : State) (h_s : State.Good s) :
    State.Good (State.updAborts s) := by
  grind -lia -linarith -ring -order -ac [State.updAborts, = State.Good, good_updUpd, good_dropCmd, good_forEach,
    good_replyTo, good_startRestore]

theorem good_execUpdAbort (mb : Fin 8) (s : State) (h_s : State.Good s) :
    AllNext State.Good (execUpdAbort mb s) := by
  grind -lia -linarith -ring -order -ac [execUpdAbort, = allNext_iff, = State.Good, good_command, good_updUpd,
    good_abortLate]

theorem good_gpStart (s : State) (h_s : State.Good s) :
    State.Good (State.gpStart s) := by
  grind -lia -linarith -ring -order -ac [State.gpStart, good_actStage, good_put]

theorem good_execGpFwDeferredStart (s : State) (h_s : State.Good s) :
    AllNext State.Good (execGpFwDeferredStart s) := by
  grind -lia -linarith -ring -order -ac [execGpFwDeferredStart, = allNext_iff, = State.Good, good_gpStart]

theorem good_actStart (s : State) (comp : Nat) (force : Bool) (h_s : State.Good s) :
    State.Good (State.actStart s comp force) := by
  grind -lia -linarith -ring -order -ac [State.actStart, = State.Good, good_actStage, good_loseStandby, good_siteRestart,
    good_when, good_forUpTo, good_stopSession, good_gpStart, good_put, good_set1]

theorem good_execUpdActivate (mb : Fin 8) (s : State) (h_s : State.Good s) :
    AllNext State.Good (execUpdActivate mb s) := by
  grind -lia -linarith -ring -order -ac [execUpdActivate, = allNext_iff, = State.Good, good_command, good_reply, good_raise,
    good_updUpd, good_put, good_actStart]

theorem good_actBeat (s : State) (quiet : Bool) (h_s : State.Good s) :
    State.Good (State.actBeat s quiet) := by
  grind -lia -linarith -ring -order -ac [State.actBeat, = State.Good, good_actSecond, good_actStage]

theorem good_actUnit (s : State) (comp : Nat) (h_s : State.Good s) :
    State.Good (State.actUnit s comp) := by
  grind -lia -linarith -ring -order -ac [State.actUnit, = State.Good, good_actDone, good_put]

theorem good_execCaseFwReadyTimeout (s : State) (h_s : State.Good s) :
    AllNext State.Good (execCaseFwReadyTimeout s) := by
  grind -lia -linarith -ring -order -ac [execCaseFwReadyTimeout, = allNext_iff, = State.Good, good_updUpd, good_set1,
    good_put, good_raiseHold, good_replyTo]

theorem good_execUpdInfo (mb : Fin 8) (s : State) (h_s : State.Good s) :
    AllNext State.Good (execUpdInfo mb s) := by
  grind -lia -linarith -ring -order -ac [execUpdInfo, = allNext_iff, good_command, good_reply, good_laneWrite]

theorem good_recWrite (s : State) (key op : Nat) (h_s : State.Good s) :
    State.Good (State.recWrite s key op) := by
  grind -lia -linarith -ring -order -ac [State.recWrite, = State.Good, good_updUpd, good_set1]

theorem good_recDone (s : State) (code : Nat) (h_s : State.Good s) :
    State.Good (State.recDone s code) := by
  grind -lia -linarith -ring -order -ac [State.recDone, = State.Good, good_updUpd, good_clr, good_put, good_putB]

theorem good_recSegs (s : State) (l : UpdLoad) (data : List Byte) (bad : Option Nat) (h_s : State.Good s) :
    State.Good (State.recSegs s l data bad) := by
  grind -lia -linarith -ring -order -ac [State.recSegs, = State.Good, good_put, good_updUpd, good_raise, good_recDone,
    good_loadCommit]

theorem good_execRecFirstPart (bad : Option (Fin 128)) (s : State) (h_s : State.Good s) :
    AllNext State.Good (execRecFirstPart bad s) := by
  grind -lia -linarith -ring -order -ac [execRecFirstPart, = allNext_iff, = State.Good, good_updRefused, good_recDone,
    good_loadStart, good_recSegs]

theorem good_execRecFurtherPart (bad : Option (Fin 128)) (s : State) (h_s : State.Good s) :
    AllNext State.Good (execRecFurtherPart bad s) := by
  grind -lia -linarith -ring -order -ac [execRecFurtherPart, = allNext_iff, = State.Good, good_recSegs, good_recDone]

theorem good_execRecCheckDirectory (s : State) (h_s : State.Good s) :
    AllNext State.Good (execRecCheckDirectory s) := by
  grind -lia -linarith -ring -order -ac [execRecCheckDirectory, = allNext_iff, good_recDone, good_putB]

end Sys2Proof.Machine
end

