-- ==== Sys2Proof/Laws/Good5.lean ====
section
/-! SUPPORT. What each operation keeps (State.Good), one lemma good_op per operation op: wear, power, the Calibre, the placement round, start-up, the host port, takeover, the beat. -/
namespace Sys2Proof.Machine

/-! ### Wear -/

theorem good_showSlack (s : State) (lane : Nat) (v : Int) (h_s : State.Good s) :
    State.Good (State.showSlack s lane v) := by
  grind -lia -linarith -ring -order -ac [State.showSlack, good_puti, good_put]

theorem good_slackSample (s : State) (lane : Nat) (slack : Int) (leak : Nat) (h_s : State.Good s) :
    State.Good (State.slackSample s lane slack leak) := by
  grind -lia -linarith -ring -order -ac [State.slackSample, = State.Good, good_updWear, good_when, good_raise,
    good_laneFails]

theorem good_execSlackSample (a b : Int) (leakA leakB : Nat) (s : State) (h_s : State.Good s) :
    AllNext State.Good (execSlackSample a b leakA leakB s) := by
  grind -lia -linarith -ring -order -ac [execSlackSample, = allNext_iff, = State.Good, good_updWear, good_wearTemp,
    good_slackSample]

theorem good_stepSwap (s : State) (h_s : State.Good s) :
    State.Good (State.stepSwap s) := by
  grind -lia -linarith -ring -order -ac [State.stepSwap, = State.Good, good_when, good_wantSwap]

theorem good_execClockStepApply (lane : Fin 2) (s : State) (h_s : State.Good s) :
    AllNext State.Good (execClockStepApply lane s) := by
  grind -lia -linarith -ring -order -ac [execClockStepApply, = allNext_iff, good_applyStep]

theorem good_execClockStepCheckDone (lane : Fin 2) (s : State) (h_s : State.Good s) :
    AllNext State.Good (execClockStepCheckDone lane s) := by
  grind -lia -linarith -ring -order -ac [execClockStepCheckDone, = allNext_iff, = State.Good, good_put, good_clr, good_set1,
    good_showSlack, good_updWear, good_raise, good_stepSwap]

theorem good_showIntervals (s : State) (h_s : State.Good s) :
    State.Good (State.showIntervals s) := by
  grind -lia -linarith -ring -order -ac [State.showIntervals, good_put]

theorem good_shortCause (s : State) (k : Nat) (now_ : Bool) (h_s : State.Good s) :
    State.Good (State.shortCause s k now_) := by
  grind -lia -linarith -ring -order -ac [State.shortCause, = State.Good, good_when, good_updWear, good_putBit, good_set1,
    good_raise]

theorem good_atFloor (s : State) (lane : Nat) (h_s : State.Good s) :
    State.Good (State.atFloor s lane) := by
  grind -lia -linarith -ring -order -ac [State.atFloor, good_set1, good_raise, good_putBit]

theorem good_liftFloors (s : State) (h_s : State.Good s) :
    State.Good (State.liftFloors s) := by
  grind -lia -linarith -ring -order -ac [State.liftFloors, good_forUpTo, good_when, good_clr, good_putBit]

theorem good_estimates (s : State) (h_s : State.Good s) :
    State.Good (State.estimates s) := by
  grind -lia -linarith -ring -order -ac [State.estimates, = State.Good, good_forUpTo, good_put, good_updWear, good_set1,
    good_raise]

theorem good_newHour (s : State) (h_s : State.Good s) :
    State.Good (State.newHour s) := by
  grind -lia -linarith -ring -order -ac [State.newHour, = State.Good, good_updWear]

theorem good_judgeSlack (s : State) (lane : Nat) (v : Int) (h_s : State.Good s) :
    State.Good (State.judgeSlack s lane v) := by
  grind -lia -linarith -ring -order -ac [State.judgeSlack, good_put, good_showSlack, good_when, good_set1, good_atFloor]

theorem good_judgeCauses (s : State) (r : WearRec) (h_s : State.Good s) :
    State.Good (State.judgeCauses s r) := by
  grind -lia -linarith -ring -order -ac [State.judgeCauses, good_shortCause, good_showIntervals]

theorem good_summary (s : State) (h_s : State.Good s) :
    State.Good (State.summary s) := by
  grind -lia -linarith -ring -order -ac [State.summary, = State.Good, good_updWear, good_put, good_set1]

theorem good_execHourlyRecord (noise mram flash : Nat) (bad : Bool) (s : State) (h_s : State.Good s) :
    AllNext State.Good (execHourlyRecord noise mram flash bad s) := by
  grind -lia -linarith -ring -order -ac [execHourlyRecord, = allNext_iff, = State.Good, good_newHour, good_raise, good_wrN,
    good_updWear, good_putSat, good_when, good_judgeSlack, good_judgeCauses, good_estimates, good_stepSwap, good_summary]

theorem good_execWearReadHourly (mb : Fin 8) (s : State) (h_s : State.Good s) :
    AllNext State.Good (execWearReadHourly mb s) := by
  grind -lia -linarith -ring -order -ac [execWearReadHourly, = allNext_iff, good_command, good_reply, good_laneWrite]

theorem good_execWearReadYearly (mb : Fin 8) (s : State) (h_s : State.Good s) :
    AllNext State.Good (execWearReadYearly mb s) := by
  grind -lia -linarith -ring -order -ac [execWearReadYearly, = allNext_iff, good_command, good_reply, good_laneWrite]

theorem good_execWearEstimate (mb : Fin 8) (s : State) (h_s : State.Good s) :
    AllNext State.Good (execWearEstimate mb s) := by
  grind -lia -linarith -ring -order -ac [execWearEstimate, = allNext_iff, good_command, good_estimates, good_reply]

/-! ### Reset -/

theorem kvWfFrom_filterMap {α : Type} [DecidableEq α] (d : Nat → α) (g : Nat × α → α) (l : List (Nat × α)) (lo : Option Nat)
    (h : kvWfFrom d lo l = true) :
    ∀ b, (∀ c, lo = some c → ∀ x, b = some x → x ≤ c) → (lo = none → b = none) →
    kvWfFrom d b (l.filterMap (fun p => if g p = d p.1 then none else some (p.1, g p))) = true := by
  induction l generalizing lo with
  | nil => intros; rfl
  | cons x t ih =>
    intro b hb hn
    obtain ⟨k, v⟩ := x
    simp only [kvWfFrom, Bool.and_eq_true, decide_eq_true_eq] at h
    rw [List.filterMap_cons]
    by_cases hg : g (k, v) = d k
    · simp only [hg, if_true]
      refine ih (some k) h.2 b ?_ (by simp)
      intro c hc y hy
      cases hc
      cases lo with
      | none => rw [hn rfl] at hy; cases hy
      | some c => have := hb c rfl y hy; have := h.1.1; simp at this; omega
    · simp only [hg, if_false, kvWfFrom, Bool.and_eq_true, decide_eq_true_eq]
      refine ⟨⟨?_, hg⟩, ih (some k) h.2 _ (fun c hc y hy => by cases hc; cases hy; exact Nat.le_refl _) (by simp)⟩
      cases b with
      | none => rfl
      | some y =>
        cases lo with
        | none => have := hn rfl; cases this
        | some c => have := hb c rfl y rfl; have := h.1.1; simp at this ⊢; omega

theorem keepRegs_wf {l : List (Nat × Word)} (h : kvWf regReset l = true) : kvWf regReset (keepRegs l) = true :=
  kvWfFrom_filterMap regReset _ l none h none (by simp) (by simp)

theorem good_keptState (s : State) (reason : Nat) (lost : Bool) (h_s : State.Good s) : State.Good (State.keptState s reason lost) :=
  ⟨keepRegs_wf h_s.1, rfl, h_s.2.2⟩

theorem good_moduleReset (s : State) (cause : Nat) (h_s : State.Good s) : State.Good (State.moduleReset s cause) := by
  have h := good_when (s.gstate == 2) (fun u => u.legalLog 0x03 0 0) s (fun u hu => good_legalLog _ _ _ _ hu) h_s
  unfold State.moduleReset
  dsimp only
  split
  · exact good_put _ _ _ (good_put _ _ _ (good_put _ _ _ (good_clr _ _ (good_keptState _ _ _ h))))
  · exact good_put _ _ _ (good_put _ _ _ (good_clr _ _ (good_keptState _ _ _ h)))

theorem good_glbReset (s : State) (recovery : Bool) (h_s : State.Good s) :
    State.Good (State.glbReset s recovery) := by
  grind -lia -linarith -ring -order -ac [State.glbReset, = State.Good, good_when, good_within, good_fullSave,
    good_moduleReset]

theorem good_resetWrite (s : State) (port : Nat) (recovery : Bool) (h_s : State.Good s) :
    State.Good (State.resetWrite s port recovery) := by
  grind -lia -linarith -ring -order -ac [State.resetWrite, good_hostSets, good_glbReset, good_inc, good_raiseHost]

theorem good_execGlbResetModule (port : Fin 2) (s : State) (h_s : State.Good s) :
    AllNext State.Good (execGlbResetModule port s) := by
  grind -lia -linarith -ring -order -ac [execGlbResetModule, = allNext_iff, good_resetWrite]

theorem good_execGlbResetRecovery (port : Fin 2) (s : State) (h_s : State.Good s) :
    AllNext State.Good (execGlbResetRecovery port s) := by
  grind -lia -linarith -ring -order -ac [execGlbResetRecovery, = allNext_iff, good_resetWrite]

/-! ### Power -/

theorem good_updPwr (s : State) (f : PwrSt → PwrSt) (h_s : State.Good s) :
    State.Good (State.updPwr s f) := by
  grind -lia -linarith -ring -order -ac [State.updPwr, = State.Good]

theorem good_judgeVaux (s : State) (vaux : Nat) (h_s : State.Good s) :
    State.Good (State.judgeVaux s vaux) := by
  grind -lia -linarith -ring -order -ac [State.judgeVaux, = State.Good, good_updPwr, good_putBit]

theorem good_countSupply (s : State) (vaux : Nat) (pfail : Bool) (h_s : State.Good s) :
    State.Good (State.countSupply s vaux pfail) := by
  grind -lia -linarith -ring -order -ac [State.countSupply, = State.Good, good_putB, good_updPwr]

theorem good_supplyBeat (s : State) (o : SupplyObs) (h_s : State.Good s) :
    State.Good (State.supplyBeat s o) := by
  grind -lia -linarith -ring -order -ac [State.supplyBeat, good_judgeVaux, good_countSupply, good_putSat, good_put,
    good_puti]

theorem good_execPowerFailWarning (_z : Unit) (s : State) (h_s : State.Good s) :
    AllNext State.Good (execPowerFailWarning _z s) := by
  grind -lia -linarith -ring -order -ac [execPowerFailWarning, = allNext_iff, = State.Good, good_set1, good_inc, good_raise,
    good_updSupply, good_updPwr, good_swingsWithdraw, good_bezelWarn, good_updUpd, good_when, good_setLaneState, good_updRed]

theorem good_execWarningWithdrawn (s : State) (h_s : State.Good s) :
    AllNext State.Good (execWarningWithdrawn s) := by
  grind -lia -linarith -ring -order -ac [execWarningWithdrawn, = allNext_iff, = State.Good, good_clr, good_raiseTo,
    good_set1, good_updSupply, good_when, good_updRed]

theorem good_execRemontoireOn (s : State) (h_s : State.Good s) :
    AllNext State.Good (execRemontoireOn s) := by
  grind -lia -linarith -ring -order -ac [execRemontoireOn, = allNext_iff, = State.Good, good_set1, good_updPwr]

theorem good_execRemontoireOff (s : State) (h_s : State.Good s) :
    AllNext State.Good (execRemontoireOff s) := by
  grind -lia -linarith -ring -order -ac [execRemontoireOff, = allNext_iff, good_clr]

theorem good_execVsysToHold (s : State) (h_s : State.Good s) :
    AllNext State.Good (execVsysToHold s) := by
  grind -lia -linarith -ring -order -ac [execVsysToHold, = allNext_iff, = State.Good, good_set1, good_updPwr]

theorem good_tagDark (s : State) (h_s : State.Good s) :
    State.Good (State.tagDark s) := by
  grind -lia -linarith -ring -order -ac [State.tagDark, good_tagCollapse]

theorem good_execSupplyReset (s : State) (h_s : State.Good s) :
    AllNext State.Good (execSupplyReset s) := by
  grind -lia -linarith -ring -order -ac [execSupplyReset, = allNext_iff, = State.Good, good_moduleReset, good_tagDark,
    good_updPwr]

theorem good_execRailOut (rail : Fin 3) (s : State) (h_s : State.Good s) :
    AllNext State.Good (execRailOut rail s) := by
  grind -lia -linarith -ring -order -ac [execRailOut, = allNext_iff, = State.Good, good_moduleReset, good_tagDark,
    good_updPwr]

theorem good_execCaseWatchdogReset (s : State) (h_s : State.Good s) :
    AllNext State.Good (execCaseWatchdogReset s) := by
  grind -lia -linarith -ring -order -ac [execCaseWatchdogReset, = allNext_iff, good_moduleReset]

theorem good_execCpSupplyOut (neg : Bool) (s : State) (h_s : State.Good s) :
    AllNext State.Good (execCpSupplyOut neg s) := by
  grind -lia -linarith -ring -order -ac [execCpSupplyOut, = allNext_iff, = State.Good, good_putBit, good_set1, good_raise,
    good_forUpTo, good_stopOutlet, good_updPilot, good_refreshPilot, good_forceDrive]

theorem good_execHoldLow (s : State) (h_s : State.Good s) :
    AllNext State.Good (execHoldLow s) := by
  grind -lia -linarith -ring -order -ac [execHoldLow, = allNext_iff, good_putBit, good_set1, good_raise]

theorem good_execVbatLow (s : State) (h_s : State.Good s) :
    AllNext State.Good (execVbatLow s) := by
  grind -lia -linarith -ring -order -ac [execVbatLow, = allNext_iff, good_putBit, good_set1, good_raise]

theorem good_execRailBackInRange (rail : Fin 4) (s : State) (h_s : State.Good s) :
    AllNext State.Good (execRailBackInRange rail s) := by
  grind -lia -linarith -ring -order -ac [execRailBackInRange, = allNext_iff, = State.Good, good_putBit, good_clr,
    good_forUpTo, good_updPilot, good_refreshPilot, good_forceDrive]

theorem good_clockLost (s : State) (d : Nat) (h_s : State.Good s) :
    State.Good (State.clockLost s d) := by
  grind -lia -linarith -ring -order -ac [State.clockLost, good_putBit, good_set1]

theorem good_execLanePllLost (lane : Fin 2) (s : State) (h_s : State.Good s) :
    AllNext State.Good (execLanePllLost lane s) := by
  grind -lia -linarith -ring -order -ac [execLanePllLost, = allNext_iff, good_clockLost, good_putBit, good_raise,
    good_loseOwner, good_loseStandby, good_when, good_setLaneState]

theorem good_periphLock (s : State) (d : Fin 5) (on : Bool) (h_s : State.Good s) :
    State.Good (State.periphLock s d on) := by
  grind -lia -linarith -ring -order -ac [State.periphLock, good_putBit]

theorem good_execPeriphClockLost (d : Fin 5) (s : State) (h_s : State.Good s) :
    AllNext State.Good (execPeriphClockLost d s) := by
  grind -lia -linarith -ring -order -ac [execPeriphClockLost, = allNext_iff, = State.Good, good_clockLost, good_periphLock,
    good_raise, good_when, good_siteStop, good_forUpTo, good_stopSession, good_settleStop, good_put, good_readerOff]

theorem good_execPeriphClockReturn (d : Fin 5) (s : State) (h_s : State.Good s) :
    AllNext State.Good (execPeriphClockReturn d s) := by
  grind -lia -linarith -ring -order -ac [execPeriphClockReturn, = allNext_iff, good_putBit, good_periphLock, good_when,
    good_put]

theorem good_execCoreClockLost (which : Fin 3) (s : State) (h_s : State.Good s) :
    AllNext State.Good (execCoreClockLost which s) := by
  grind -lia -linarith -ring -order -ac [execCoreClockLost, = allNext_iff, good_clockLost, good_putBit, good_raiseHold]

theorem good_execThermalLimit (die : Fin 6) (s : State) (h_s : State.Good s) :
    AllNext State.Good (execThermalLimit die s) := by
  grind -lia -linarith -ring -order -ac [execThermalLimit, = allNext_iff, good_raiseHold]

theorem good_execRefClockMeasure (ppm : Int) (s : State) (h_s : State.Good s) :
    AllNext State.Good (execRefClockMeasure ppm s) := by
  grind -lia -linarith -ring -order -ac [execRefClockMeasure, = allNext_iff, good_puti, good_when, good_set1, good_raise]

theorem good_execChronoXtalStop (s : State) (h_s : State.Good s) :
    AllNext State.Good (execChronoXtalStop s) := by
  grind -lia -linarith -ring -order -ac [execChronoXtalStop, = allNext_iff, good_clockLost, good_set1, good_put, good_raise]

theorem good_execChronoXtalRestore (s : State) (h_s : State.Good s) :
    AllNext State.Good (execChronoXtalRestore s) := by
  grind -lia -linarith -ring -order -ac [execChronoXtalRestore, = allNext_iff, good_putBit, good_clr, good_set1]

/-! ### Calibre -/

theorem good_updCal (s : State) (f : CalSt → CalSt) (h_s : State.Good s) :
    State.Good (State.updCal s f) := by
  grind -lia -linarith -ring -order -ac [State.updCal, = State.Good]

theorem good_showGroup (s : State) (g : Nat) (h_s : State.Good s) :
    State.Good (State.showGroup s g) := by
  grind -lia -linarith -ring -order -ac [State.showGroup, good_forEach, good_wrN]

theorem good_typedMeter (s : State) (m : Nat) (h_s : State.Good s) :
    State.Good (State.typedMeter s m) := by
  grind -lia -linarith -ring -order -ac [State.typedMeter, = State.Good, good_updMet, good_putB, good_when, good_raise]

theorem good_typedGroup (s : State) (g : Nat) (h_s : State.Good s) :
    State.Good (State.typedGroup s g) := by
  grind -lia -linarith -ring -order -ac [State.typedGroup, = State.Good, good_updLgl, good_startProgs, good_newGrid,
    good_updGov, good_updBzl, good_forUpTo, good_updChn, good_when, good_renewSegment, good_updSns, good_updEsc,
    good_updKey, good_put, good_updO, good_typedMeter]

theorem good_showAgeK (s : State) (h_s : State.Good s) :
    State.Good (State.showAgeK s) := by
  grind -lia -linarith -ring -order -ac [State.showAgeK, good_put]

theorem good_keepStored (old s : State) (h_old : State.Good old) (h_s : State.Good s) :
    State.Good (State.keepStored old s) := by
  grind -lia -linarith -ring -order -ac [State.keepStored, good_forUpTo, good_when, good_wr, good_put]

theorem good_applyGroup (s : State) (g : Nat) (h_s : State.Good s) :
    State.Good (State.applyGroup s g) := by
  grind -lia -linarith -ring -order -ac [State.applyGroup, = State.Good, good_updCal, good_showGroup, good_typedGroup,
    good_put, good_showAgeK, good_keepStored, good_showIntervals]

theorem good_safetyRan (s : State) (h_s : State.Good s) :
    State.Good (State.safetyRan s) := by
  grind -lia -linarith -ring -order -ac [State.safetyRan, = State.Good]

theorem good_imageOps (s : State) (i : Image) (h_s : State.Good s) :
    State.Good (State.imageOps s i) := by
  grind -lia -linarith -ring -order -ac [State.imageOps, good_forUpTo, good_when, good_storeOp]

theorem good_calRefuse (s : State) (source : Nat) (r : Nat × Nat × Nat) (h_s : State.Good s) :
    State.Good (State.calRefuse s source r) := by
  grind -lia -linarith -ring -order -ac [State.calRefuse, good_raise, good_put, good_set1, good_when, good_tamperA]

theorem good_updSlot (s : State) (k : Nat) (f : Slot → Slot) (h_s : State.Good s) :
    State.Good (State.updSlot s k f) := by
  grind -lia -linarith -ring -order -ac [State.updSlot, = State.Good, good_updCal]

theorem good_startSlotWrite (s : State) (i : Image) (source : Nat) (cmd : Option CmdRef) (h_s : State.Good s) :
    State.Good (State.startSlotWrite s i source cmd) := by
  grind -lia -linarith -ring -order -ac [State.startSlotWrite, = State.Good, good_updSlot, good_put, good_set1, good_updCal]

theorem good_submit (s : State) (c : Cmd) (i : Image) (source : Nat) (h_s : State.Good s) :
    State.Good (State.submit s c i source) := by
  grind -lia -linarith -ring -order -ac [State.submit, = State.Good, good_when, good_imageOps, good_calRefuse, good_reply,
    good_startSlotWrite]

theorem good_execCalLoad (mb : Fin 8) (img : Image) (s : State) (h_s : State.Good s) :
    AllNext State.Good (execCalLoad mb img s) := by
  grind -lia -linarith -ring -order -ac [execCalLoad, = allNext_iff, good_command, good_reply, good_laneReads,
    good_calRefuse, good_submit]

theorem good_execCalPatch (mb : Fin 8) (img : Image) (s : State) (h_s : State.Good s) :
    AllNext State.Good (execCalPatch mb img s) := by
  grind -lia -linarith -ring -order -ac [execCalPatch, = allNext_iff, good_command, good_reply, good_submit]

theorem good_tagRefused (s : State) (ver : Nat) (r : Nat × Nat × Nat) (h_s : State.Good s) :
    State.Good (State.tagRefused s ver r) := by
  grind -lia -linarith -ring -order -ac [State.tagRefused, good_calRefuse, good_when, good_put, good_set1, good_raise,
    good_commission]

theorem good_takeTag (s : State) (img : Image) (cmd : Option CmdRef) (h_s : State.Good s) :
    ∀ r, (State.takeTag s img cmd) = some r → State.Good r.1 := by
  grind -lia -linarith -ring -order -ac [State.takeTag, = State.Good, good_when, good_storeOp, good_tagRefused,
    good_startSlotWrite]

theorem good_execCalTagInstaller (mb : Fin 8) (img : Image) (s : State) (h_s : State.Good s) :
    AllNext State.Good (execCalTagInstaller mb img s) := by
  refine AllNext.next (good_command _ _ _ _ _ _ h_s (fun c u hu => ?_))
  split
  · exact good_reply _ _ _ _ _ hu
  · dsimp only
    split
    · next t e => exact good_takeTag _ _ _ (good_readInstaller _ hu) _ e
    · next t e => exact good_reply _ _ _ _ _ (good_takeTag _ _ _ (good_readInstaller _ hu) _ e)
    · exact good_reply _ _ _ _ _ (good_readInstaller _ hu)

theorem good_showImage (s : State) (h_s : State.Good s) :
    State.Good (State.showImage s) := by
  grind -lia -linarith -ring -order -ac [State.showImage, good_wrN, good_wr128]

theorem good_stage (s : State) (g : Nat) (on : Bool) (h_s : State.Good s) :
    State.Good (State.stage s g on) := by
  grind -lia -linarith -ring -order -ac [State.stage, good_putBit, good_putB, good_wrN]

theorem good_takeEffect (s : State) (w : SlotWrite) (before : Image) (h_s : State.Good s) :
    State.Good (State.takeEffect s w before) := by
  grind -lia -linarith -ring -order -ac [State.takeEffect, = State.Good, good_updCal, good_stage, good_when, good_forEach,
    good_legalLog, good_applyGroup, good_set1, good_replyTo]

theorem good_effectBeat (s : State) (h_s : State.Good s) :
    State.Good (State.effectBeat s) := by
  grind -lia -linarith -ring -order -ac [State.effectBeat, = State.Good, good_takeEffect, good_when, good_updCal,
    good_applyGroup]

theorem good_enterLoading (s : State) (h_s : State.Good s) :
    State.Good (State.enterLoading s) := by
  grind -lia -linarith -ring -order -ac [State.enterLoading, = State.Good, good_setGstate, good_legalLog, good_updCal]

theorem good_safetyAccepted (s : State) (w : SlotWrite) (h_s : State.Good s) :
    State.Good (State.safetyAccepted s w) := by
  grind -lia -linarith -ring -order -ac [State.safetyAccepted, = State.Good, good_raise, good_safLog]

theorem good_slotCommit (s : State) (w : SlotWrite) (h_s : State.Good s) :
    State.Good (State.slotCommit s w) := by
  grind -lia -linarith -ring -order -ac [State.slotCommit, = State.Good, good_updSlot, good_put, good_clr, good_updCal,
    good_safetyAccepted]

theorem good_afterCommit (s : State) (w : SlotWrite) (h_s : State.Good s) :
    State.Good (State.afterCommit s w) := by
  grind -lia -linarith -ring -order -ac [State.afterCommit, = State.Good, good_set1, good_replyTo, good_enterLoading,
    good_updCal, good_put, good_showImage, good_when, good_commission]

theorem good_abortsLate (s : State) (w : SlotWrite) (h_s : State.Good s) :
    State.Good (State.abortsLate s w) := by
  grind -lia -linarith -ring -order -ac [State.abortsLate, = State.Good, good_forEach, good_abortLateTo, good_updCal]

theorem good_tagNotTaken (s : State) (w : SlotWrite) (code : Nat) (h_s : State.Good s) :
    State.Good (State.tagNotTaken s w code) := by
  grind -lia -linarith -ring -order -ac [State.tagNotTaken, good_when, good_commission]

theorem good_slotWriteFail (s : State) (w : SlotWrite) (h_s : State.Good s) :
    State.Good (State.slotWriteFail s w) := by
  grind -lia -linarith -ring -order -ac [State.slotWriteFail, = State.Good, good_put, good_clr, good_updCal, good_raise,
    good_tagNotTaken, good_replyTo, good_abortsLate]

theorem good_calAborts (s : State) (h_s : State.Good s) :
    State.Good (State.calAborts s) := by
  grind -lia -linarith -ring -order -ac [State.calAborts, = State.Good, good_put, good_clr, good_updCal, good_dropCmd,
    good_tagNotTaken, good_forEach, good_replyTo]

theorem good_execCalAbort (mb : Fin 8) (s : State) (h_s : State.Good s) :
    AllNext State.Good (execCalAbort mb s) := by
  grind -lia -linarith -ring -order -ac [execCalAbort, = allNext_iff, = State.Good, good_command, good_updCal,
    good_abortLate]

theorem good_slotHeader (s : State) (k : Nat) (h_s : State.Good s) :
    State.Good (State.slotHeader s k).2 := by
  grind -lia -linarith -ring -order -ac [State.slotHeader, = State.Good, good_draw]

theorem good_execCalSlotInfo (mb : Fin 8) (s : State) (h_s : State.Good s) :
    AllNext State.Good (execCalSlotInfo mb s) := by
  grind -lia -linarith -ring -order -ac [execCalSlotInfo, = allNext_iff, = State.Good, good_command, good_reply,
    good_slotHeader]

theorem good_execCalEraseSlot (mb : Fin 8) (s : State) (h_s : State.Good s) :
    AllNext State.Good (execCalEraseSlot mb s) := by
  grind -lia -linarith -ring -order -ac [execCalEraseSlot, = allNext_iff, good_command, good_reply, good_updSlot, good_put]

theorem good_beginRestart (s : State) (u : Nat) (h_s : State.Good s) :
    State.Good (State.beginRestart s u) := by
  grind -lia -linarith -ring -order -ac [State.beginRestart, = State.Good, good_updMtr, good_forUpTo, good_when,
    good_updMet, good_updCal, good_meterBeat, good_fnBoth, good_fnStatus, good_openElem, good_siteRestart, good_stopSession]

theorem good_endRestart (s : State) (u : Nat) (h_s : State.Good s) :
    State.Good (State.endRestart s u) := by
  grind -lia -linarith -ring -order -ac [State.endRestart, good_applyGroup, good_forEach, good_updMet, good_when,
    good_legalLog, good_clr, good_put, good_meterBeat, good_stage, good_safetyRan, good_forUpTo, good_fnBoth, good_fnStatus,
    good_lcInit, good_bezelRestart]

theorem good_execCalRestartUnits (mb : Fin 8) (s : State) (h_s : State.Good s) :
    AllNext State.Good (execCalRestartUnits mb s) := by
  refine AllNext.next (good_command _ _ _ _ _ _ h_s (fun c u hu => ?_))
  dsimp only
  split
  · exact good_reply _ _ _ _ _ hu
  split
  · exact good_reply _ _ _ _ _ hu
  split
  · exact good_reply _ _ _ _ _ hu
  split
  · exact good_reply _ _ _ _ _ hu
  split
  · exact good_reply _ _ _ _ _ hu
  refine good_forEach _ _ _ (fun x v hv => ?_) (good_updCal _ _ (good_when _ _ _ (fun v hv => good_safLog _ _ _ _ _ _ _ hv) hu))
  split
  · exact good_ownerActs _ _ _ (fun w hw => good_beginRestart _ _ hw) hv
  · exact good_beginRestart _ _ hv

theorem good_unitDone (s : State) (u : Nat) (h_s : State.Good s) :
    State.Good (State.unitDone s u) := by
  grind -lia -linarith -ring -order -ac [State.unitDone, = State.Good, good_endRestart, good_stage, good_updCal,
    good_replyTo]

theorem good_execUnitRestartDone (unit : Fin 23) (s : State) (h_s : State.Good s) :
    AllNext State.Good (execUnitRestartDone unit s) := by
  grind -lia -linarith -ring -order -ac [execUnitRestartDone, = allNext_iff, = State.Good, good_stage, good_when, good_put,
    good_actUnit, good_unitDone]

/-! ### Rounds -/

theorem good_takeLimits (s : State) (h_s : State.Good s) :
    State.Good (State.takeLimits s) := by
  grind -lia -linarith -ring -order -ac [State.takeLimits, = State.Good, good_when, good_updCal, good_applyGroup]

theorem good_execPlacementRound (s : State) (h_s : State.Good s) :
    AllNext State.Good (execPlacementRound s) := by
  grind -lia -linarith -ring -order -ac [execPlacementRound, = allNext_iff, = State.Good, good_closeRound, good_takeLimits,
    good_put, good_judgeSite, good_islandEntry, good_judgePrice, good_putB, good_creditStops, good_breachRound, good_showDc,
    good_when, good_set1, good_raise, good_updGov, good_putRound]

/-! ### Startup -/

theorem good_mendModulators (s : State) (h_s : State.Good s) :
    State.Good (State.mendModulators s) := by
  grind -lia -linarith -ring -order -ac [State.mendModulators, good_forUpTo, good_setRole]

theorem good_execResetRelease (lost : Bool) (s : State) (h_s : State.Good s) :
    AllNext State.Good (execResetRelease lost s) := by
  grind -lia -linarith -ring -order -ac [execResetRelease, = allNext_iff, = State.Good, good_updPwr, good_put, good_wrN,
    good_mendModulators, good_when, good_loseChrono, good_settingOutputs]

theorem good_execResidentLoaderVerified (bad : Fin 4) (s : State) (h_s : State.Good s) :
    AllNext State.Good (execResidentLoaderVerified bad s) := by
  grind -lia -linarith -ring -order -ac [execResidentLoaderVerified, = allNext_iff, = State.Good, good_raise,
    good_setGstate, good_updCal]

theorem good_loadFirmware (s : State) (h_s : State.Good s) :
    State.Good (State.loadFirmware s) := by
  grind -lia -linarith -ring -order -ac [State.loadFirmware, = State.Good, good_forUpTo, good_updUpd, good_put, good_clr,
    good_when, good_set1]

theorem good_outageWith (s : State) (h_s : State.Good s) :
    State.Good (State.outageWith s) := by
  grind -lia -linarith -ring -order -ac [State.outageWith, good_outage, good_forEach, good_wrN, good_wr]

theorem good_powerEntry (s : State) (h_s : State.Good s) : State.Good (State.powerEntry s) := by
  unfold State.powerEntry
  split
  · exact good_updPwr _ _ (good_raiseDeferred _ _ _ _ _ _ h_s)
  · exact h_s

theorem good_execFirmwareSetLoaded (corrupt : List (Fin 64)) (digestBad : Option (Fin 7)) (legalBad : Fin 4) (s : State)
    (h_s : State.Good s) : AllNext State.Good (execFirmwareSetLoaded corrupt digestBad legalBad s) := by
  have hg : ∀ u : State, State.Good u → ∀ b, State.Good { u with glb := { u.glb with recoveryReq := b } } :=
    fun _ h _ => good_of h rfl rfl rfl rfl rfl
  unfold execFirmwareSetLoaded
  split
  · exact AllNext.next h_s
  cases digestBad with
  | some c => exact AllNext.next (good_moduleReset _ _ (hg _ (good_put _ _ _ h_s) _))
  | none =>
    dsimp only
    have k : ∀ u : State, State.Good u → State.Good (when (legalBad.val == 3) (fun u => u.enterSetting 0x4010)
        (forUpTo 2 (fun l u => when (legalBad.val.testBit l) (fun v =>
      v.raise 0x4010 (if legalBad.val = 3 then SETTINGCLASS else DEGRADE) (v.srcLane l) l 0) u) u.restoreAccts.outageWith.countAon)) :=
      fun u hu => good_when _ _ _ (fun v hv => good_enterSetting _ _ hv) (good_forUpTo _ _ _ (fun l v hv =>
        good_when _ _ _ (fun w hw => good_raise _ _ _ _ _ _ hw) hv) (good_countAon _ (good_outageWith _ (good_restoreAccts _ hu))))
    apply AllNext.next
    split
    · apply k
      apply good_restoreTotals
      apply good_updKey
      apply good_sampleChrono
      apply good_powerEntry
      apply good_when
      · exact fun v hv => good_wrN _ _ _ (good_wrN _ _ _ hv)
      exact good_updCal _ _ (good_set1 _ _ (good_loadJewels _ _ (good_loadFirmware _ h_s)))
    · apply good_raiseSetting
      apply good_updCal
      apply k
      apply good_restoreTotals
      apply good_updKey
      apply good_sampleChrono
      apply good_powerEntry
      apply good_when
      · exact fun v hv => good_wrN _ _ _ (good_wrN _ _ _ hv)
      exact good_updCal _ _ (good_set1 _ _ (good_loadJewels _ _ (good_loadFirmware _ h_s)))

theorem good_examine (s : State) (k : Nat) (bad : Bool) (h_s : State.Good s) :
    State.Good (State.examine s k bad) := by
  grind -lia -linarith -ring -order -ac [State.examine, = State.Good, good_put, good_calRefuse, good_when, good_imageOps]

theorem good_choose (s : State) (k : Nat) (fallback : Bool) (h_s : State.Good s) :
    State.Good (State.choose s k fallback) := by
  grind -lia -linarith -ring -order -ac [State.choose, = State.Good, good_updCal, good_put, good_showImage, good_putB,
    good_when, good_set1, good_raise]

theorem good_execSlotChoiceAgreed (digestBad : Fin 4) (choiceEqual keysEqual : Bool) (s : State) (h_s : State.Good s) :
    AllNext State.Good (execSlotChoiceAgreed digestBad choiceEqual keysEqual s) := by
  grind -lia -linarith -ring -order -ac [execSlotChoiceAgreed, = allNext_iff, = State.Good, good_putB, good_examine,
    good_updCal, good_when, good_raiseSetting, good_enterSetting, good_choose]

theorem good_carry (s : State) (k n : Nat) (high : Bool) (h_s : State.Good s) :
    State.Good (State.carry s k n high) := by
  grind -lia -linarith -ring -order -ac [State.carry, good_setRole, good_put, good_putB]

theorem good_assignMember (s : State) (k n : Nat) (high : Bool) (h_s : State.Good s) :
    State.Good (State.assignMember s k n high) := by
  grind -lia -linarith -ring -order -ac [State.assignMember, = State.Good, good_put, good_carry, good_updSns]

theorem good_assignModulators (s : State) (h_s : State.Good s) :
    State.Good (State.assignModulators s) := by
  grind -lia -linarith -ring -order -ac [State.assignModulators, = State.Good, good_updCal, good_updSns, good_forUpTo,
    good_when, good_setRole, good_put, good_forEach, good_assignMember]

theorem good_ibClocks (s : State) (h_s : State.Good s) :
    State.Good (State.ibClocks s) := by
  grind -lia -linarith -ring -order -ac [State.ibClocks, good_put]

theorem good_takeAll (s : State) (h_s : State.Good s) :
    State.Good (State.takeAll s) := by
  grind -lia -linarith -ring -order -ac [State.takeAll, = State.Good, good_startProgs, good_forEach, good_applyGroup,
    good_wrN, good_updCal, good_put]

theorem good_clockAndPower (s : State) (h_s : State.Good s) :
    State.Good (State.clockAndPower s) := by
  grind -lia -linarith -ring -order -ac [State.clockAndPower, good_setStep, good_put]

theorem good_applyImage (s : State) (readOk : Bool) (h_s : State.Good s) : State.Good (State.applyImage s readOk) := by
  have h := good_clockAndPower _ (good_ibClocks _ (good_assignModulators _ (good_liftFloors _ (good_takeAll s h_s))))
  unfold State.applyImage
  split
  · exact good_raiseSetting _ _ _ _ _ h_s
  · exact good_updCal _ _ (good_when _ _ _ (fun u hu => good_updEsc _ _ hu) h)

theorem good_tagBoot (s : State) (h_s : State.Good s) :
    State.Good (State.tagBoot s) := by
  grind -lia -linarith -ring -order -ac [State.tagBoot, good_jewelUsed, good_tagStart]

theorem good_execTagInstallerCheck (readOk : Bool) (img : Image) (s : State) (h_s : State.Good s) :
    AllNext State.Good (execTagInstallerCheck readOk img s) := by
  have h : ∀ o, (∀ r : State × Bool, o = some r → State.Good r.1) → ∀ t, State.Good t → AllNext State.Good (match o with
      | some (u, true) => .next (u.updCal (fun c => { c with step := 6 }))
      | some (u, false) => .next (u.applyImage readOk)
      | none => .next (State.applyImage t readOk)) := by
    intro o ho t ht
    split
    · exact AllNext.next (good_updCal _ _ (ho _ rfl))
    · exact AllNext.next (good_applyImage _ _ (ho _ rfl))
    · exact AllNext.next (good_applyImage _ _ ht)
  unfold execTagInstallerCheck
  dsimp only
  split
  · exact AllNext.next h_s
  · have g := good_when ((s.tagBoot.clr CAL_STATUS_TAG_TAKEN).cal.run.cfg.tagEn) State.readInstaller _
      (fun u hu => good_readInstaller u hu) (good_clr _ CAL_STATUS_TAG_TAKEN (good_tagBoot _ h_s))
    refine h _ (fun r e => ?_) _ g
    split at e
    · exact good_takeTag _ _ _ g _ e
    · cases e

theorem good_execSlotWriteCommit (back : CommitObs) (s : State) (h_s : State.Good s) :
    AllNext State.Good (execSlotWriteCommit back s) := by
  grind -lia -linarith -ring -order -ac [execSlotWriteCommit, = allNext_iff, = State.Good, good_slotCommit,
    good_afterCommit, good_slotWriteFail, good_when, good_applyImage, good_abortsLate]

theorem good_execStartSelftestDone (a b : Option (Fin 65536)) (s : State) (h_s : State.Good s) :
    AllNext State.Good (execStartSelftestDone a b s) := by
  grind -lia -linarith -ring -order -ac [execStartSelftestDone, = allNext_iff, = State.Good, good_forUpTo, good_raise,
    good_updCal, good_raiseSetting]

theorem good_endCut (s : State) (h_s : State.Good s) :
    State.Good (State.endCut s) := by
  grind -lia -linarith -ring -order -ac [State.endCut, good_forUpTo, good_put, good_endSession]

theorem good_startCals (s : State) (cals : List ModCal) (h_s : State.Good s) :
    State.Good (State.startCals s cals) := by
  grind -lia -linarith -ring -order -ac [State.startCals, = State.Good, good_forUpTo, good_applyCal, good_setRole,
    good_forEach, good_assignMember, good_updCal, good_showSpares]

theorem good_startLanes (s : State) (h_s : State.Good s) :
    State.Good (State.startLanes s) := by
  grind -lia -linarith -ring -order -ac [State.startLanes, = State.Good, good_setLaneState, good_setOwner, good_setGstate,
    good_setStandbyOk, good_set1, good_put, good_updRed]

theorem good_execStartOrder (t100 : Nat) (x : StartObs) (s : State) (h_s : State.Good s) :
    AllNext State.Good (execStartOrder t100 x s) := by
  grind -lia -linarith -ring -order -ac [execStartOrder, = allNext_iff, = State.Good, good_startCals, good_compareRefs,
    good_startLanes, good_putSat, good_safetyRan, good_updCal, good_updLgl, good_updBzl, good_updRed, good_updMtr,
    good_forUpTo, good_fnBoth, good_put, good_fnStatus, good_lcInit, good_endCut, good_refreshPilot, good_deferredLog,
    good_showPending]

theorem good_execLoadingTimeout (s : State) (h_s : State.Good s) :
    AllNext State.Good (execLoadingTimeout s) := by
  grind -lia -linarith -ring -order -ac [execLoadingTimeout, = allNext_iff, good_raiseSetting]

/-! ### Complications -/

theorem good_writeHarmonic (s : State) (m : Nat) (values : List Nat) (h_s : State.Good s) :
    State.Good (State.writeHarmonic s m values) := by
  grind -lia -linarith -ring -order -ac [State.writeHarmonic, good_laneWrite, good_accessFault]

theorem good_tlsDone (s : State) (n : Nat) (h_s : State.Good s) :
    State.Good (State.tlsDone s n) := by
  grind -lia -linarith -ring -order -ac [State.tlsDone, = State.Good, good_jewelUsed, good_updLink, good_clearEph]

theorem good_deliverComp (s : State) (lane : Nat) (c : Comp) (r : CompResult) (h_s : State.Good s) :
    State.Good (State.deliverComp s lane c r) := by
  cases r <;> unfold State.deliverComp <;> dsimp only <;> split
  · exact good_updLink _ _ _ h_s
  · exact h_s
  · exact good_writeHarmonic _ _ _ h_s
  · exact h_s
  · exact good_tlsDone _ _ h_s
  · exact h_s
  · exact good_selfTestSlice _ _ _ h_s
  · exact h_s

theorem good_execComplicationDone (lane : Fin 2) (kind : Fin 8) (subject : Nat) (result : CompResult) (s : State) (h_s : State.Good s) :
    AllNext State.Good (execComplicationDone lane kind subject result s) := by
  grind -lia -linarith -ring -order -ac [execComplicationDone, = allNext_iff, = State.Good, good_within, good_setSlices,
    good_when, good_inc, good_deliverComp]

/-! ### HostPort -/

theorem good_notePoll (s : State) (h_s : State.Good s) :
    State.Good (State.notePoll s) := by
  grind -lia -linarith -ring -order -ac [State.notePoll, = State.Good]

theorem good_countPoll (s : State) (h_s : State.Good s) :
    State.Good (State.countPoll s) := by
  grind -lia -linarith -ring -order -ac [State.countPoll, = State.Good, good_notePoll, good_put]

theorem good_shownHost (s : State) (a : Nat) (h_s : State.Good s) :
    ∀ t, (State.shownHost s a) = some t → State.Good t := by
  grind -lia -linarith -ring -order -ac [State.shownHost, good_wrN, good_put, good_putB, good_putSat, good_selValid]

theorem good_shownStores (s : State) (a : Nat) (h_s : State.Good s) :
    ∀ t, (State.shownStores s a) = some t → State.Good t := by
  grind -lia -linarith -ring -order -ac [State.shownStores, = State.Good, good_put, good_wrN, good_putSat]

theorem good_shownUnits (s : State) (a : Nat) (h_s : State.Good s) :
    ∀ t, (State.shownUnits s a) = some t → State.Good t := by
  intro t h
  unfold State.shownUnits at h
  dsimp only at h
  repeat' split at h
  all_goals cases h
  all_goals first
    | with_reducible exact good_showLocal _ h_s
    | with_reducible exact good_clampSum _ _ h_s
    | with_reducible exact good_wrN _ _ _ h_s
    | with_reducible exact good_putSat _ _ _ h_s
    | with_reducible exact good_put _ _ _ h_s
    | with_reducible exact good_putSat _ _ _ (good_put _ _ _ h_s)
    | with_reducible exact good_putB _ _ _ (good_putB _ _ _ (good_putB _ _ _ (good_put _ _ _ h_s)))

theorem good_latch (s : State) (port : Nat) (g : List Nat) (h_s : State.Good s) :
    State.Good (State.latch s port g) := by
  grind -lia -linarith -ring -order -ac [State.latch, = State.Good]

theorem good_clearRead (s : State) (a : Nat) (r : RegRow) (h_s : State.Good s) :
    State.Good (State.clearRead s a r) := by
  grind -lia -linarith -ring -order -ac [State.clearRead, = State.Good, good_wrN]

theorem good_readEffect (s : State) (port a : Nat) (r : RegRow) (h_s : State.Good s) :
    State.Good (State.readEffect s port a r) := by
  grind -lia -linarith -ring -order -ac [State.readEffect, = State.Good, good_clr, good_readInterval, good_updKey,
    good_clearRead, good_notePoll]

theorem good_readReg (s : State) (port a : Nat) (r : RegRow) (h_s : State.Good s) :
    State.Good (State.readReg s port a r).2 := by
  grind -lia -linarith -ring -order -ac [State.readReg, = State.Good, good_latch, good_readEffect]

theorem good_setOut (s : State) (port : Nat) (bs : List Byte) (h_s : State.Good s) :
    State.Good (State.setOut s port bs) := by
  grind -lia -linarith -ring -order -ac [State.setOut, = State.Good]

theorem good_hostFail (s : State) (port code a : Nat) (h_s : State.Good s) :
    State.Good (State.hostFail s port code a) := by
  grind -lia -linarith -ring -order -ac [State.hostFail, good_inc, good_raiseHost]

theorem good_readWord (s : State) (port a : Nat) (win : Option Nat) (late : Bool) (acc : ReadAcc) (h_s : State.Good s) :
    State.Good (State.readWord s port a win late acc).2 := by
  grind -lia -linarith -ring -order -ac [State.readWord, = State.Good, good_readReg, good_accessFault, good_inc,
    good_poisonRead]

theorem good_readWords (port a : Nat) (win : Option Nat) (late : List Nat) (n : Nat) : ∀ (i : Nat) (acc : ReadAcc) (s : State),
    State.Good s → State.Good (readWords port a win late n i acc s).2 := by
  induction n with
  | zero => exact fun _ _ _ h => h
  | succ n ih => exact fun i acc s h => ih _ _ _ (good_readWord _ _ _ _ _ _ h)

theorem good_countTxn (s : State) (port sck : Nat) (h_s : State.Good s) :
    State.Good (State.countTxn s port sck) := by
  grind -lia -linarith -ring -order -ac [State.countTxn, good_inc, good_putSat]

theorem good_protocolError (s : State) (port a : Nat) (h_s : State.Good s) :
    State.Good (State.protocolError s port a) := by
  grind -lia -linarith -ring -order -ac [State.protocolError, good_setOut, good_hostFail]

theorem good_hostRead (s : State) (port a n sck : Nat) (late : List Nat) (crc : Bool) (h_s : State.Good s) :
    State.Good (State.hostRead s port a n sck late crc) := by
  unfold State.hostRead
  dsimp only
  split
  · exact h_s
  split
  · exact good_protocolError _ _ _ (good_countTxn _ _ _ h_s)
  exact good_setOut _ _ _ (good_when _ _ _ (fun u hu => good_raiseHost _ _ _ _ hu) (good_when _ _ _ (fun u hu => good_hostFail _ _ _ _ hu)
    (good_readWords _ _ _ _ _ _ _ _ (good_countTxn _ _ _ h_s))))

theorem good_portRead (s : State) (port a : Nat) (h_s : State.Good s) :
    State.Good (State.portRead s port a) := by
  grind -lia -linarith -ring -order -ac [State.portRead, good_readWord, good_when, good_hostFail, good_setOut]

theorem good_plainWrite (s : State) (a v : Nat) (r : RegRow) (h_s : State.Good s) :
    State.Good (State.plainWrite s a v r) := by
  grind -lia -linarith -ring -order -ac [State.plainWrite, good_wrN]

theorem good_collide (s : State) (port k : Nat) (h_s : State.Good s) :
    State.Good (State.collide s port k) := by
  grind -lia -linarith -ring -order -ac [State.collide, good_clr, good_set1, good_putBit, good_raiseHost]

theorem good_writeMbxLo (s : State) (port k v : Nat) (h_s : State.Good s) :
    State.Good (State.writeMbxLo s port k v) := by
  grind -lia -linarith -ring -order -ac [State.writeMbxLo, good_when, good_collide, good_wrN]

theorem good_writeMbxHi (s : State) (port k v : Nat) (h_s : State.Good s) :
    State.Good (State.writeMbxHi s port k v) := by
  grind -lia -linarith -ring -order -ac [State.writeMbxHi, good_wrN, good_put, good_collide, good_set1, good_putBit]

theorem good_ringBells (s : State) (v : Nat) (h_s : State.Good s) :
    State.Good (State.ringBells s v) := by
  grind -lia -linarith -ring -order -ac [State.ringBells, good_put]

theorem good_writeReset (s : State) (v : Nat) (h_s : State.Good s) :
    State.Good (State.writeReset s v) := by
  grind -lia -linarith -ring -order -ac [State.writeReset, good_glbReset]

theorem good_writeDma (s : State) (a v : Nat) (n w : Nat) (r : RegRow) (h_s : State.Good s) :
    State.Good (State.writeDma s a v n w r) := by
  grind -lia -linarith -ring -order -ac [State.writeDma, good_dmaCtrl, good_plainWrite]

theorem good_writeReg (s : State) (port a v : Nat) (h_s : State.Good s) :
    State.Good (State.writeReg s port a v) := by
  unfold State.writeReg
  repeat' split
  all_goals first
    | with_reducible exact h_s
    | with_reducible exact good_plainWrite _ _ _ _ h_s
    | with_reducible exact good_writeMbxLo _ _ _ _ h_s
    | with_reducible exact good_writeMbxHi _ _ _ _ h_s
    | with_reducible exact good_writeDma _ _ _ _ _ _ h_s
    | with_reducible exact good_writeReset _ _ h_s
    | with_reducible exact good_ringBells _ _ h_s
    | with_reducible exact good_isnsSelect _ (good_plainWrite _ _ _ _ h_s)
    | with_reducible exact good_setHostLock _ _ h_s
    | with_reducible exact good_writeHack _ _ _ h_s
    | with_reducible exact good_clearCutoff _ _ h_s
    | with_reducible exact good_recWrite _ _ _ h_s
    | with_reducible exact good_ackFaults _ _ h_s
    | with_reducible exact good_selFault _ _ h_s

theorem good_applyWords (s : State) (port a : Nat) (data : List Nat) (h_s : State.Good s) :
    State.Good (State.applyWords s port a data) := by
  grind -lia -linarith -ring -order -ac [State.applyWords, good_notePoll, good_mpWrite, good_forUpTo, good_writeReg]

theorem good_showLast (s : State) (port code : Nat) (pending : Bool) (h_s : State.Good s) :
    State.Good (State.showLast s port code pending) := by
  grind -lia -linarith -ring -order -ac [State.showLast, good_put, good_putB]

theorem good_hostWrite (s : State) (port a : Nat) (data : List Nat) (sck : Nat) (plain crcBad : Bool) (h_s : State.Good s) :
    State.Good (State.hostWrite s port a data sck plain crcBad) := by
  grind -lia -linarith -ring -order -ac [State.hostWrite, = State.Good, good_countTxn, good_protocolError, good_showLast,
    good_hostFail]

theorem good_applyWrite (s : State) (h_s : State.Good s) :
    State.Good (State.applyWrite s) := by
  grind -lia -linarith -ring -order -ac [State.applyWrite, = State.Good, good_when, good_clr, good_applyWords]

theorem good_placeNotice (s : State) (n : Notice) (h_s : State.Good s) :
    State.Good (State.placeNotice s n) := by
  grind -lia -linarith -ring -order -ac [State.placeNotice, good_wrN, good_set1, good_putBit]

theorem good_showQueue (s : State) (k : Nat) (h_s : State.Good s) :
    State.Good (State.showQueue s k) := by
  grind -lia -linarith -ring -order -ac [State.showQueue, good_put]

theorem good_queueNotice (s : State) (n : Notice) (h_s : State.Good s) :
    State.Good (State.queueNotice s n) := by
  grind -lia -linarith -ring -order -ac [State.queueNotice, = State.Good, good_showQueue, good_placeNotice, good_when,
    good_set1, good_raiseHost]

theorem good_placeQueued (s : State) (h_s : State.Good s) :
    State.Good (State.placeQueued s) := by
  grind -lia -linarith -ring -order -ac [State.placeQueued, = State.Good, good_forUpTo, good_placeNotice, good_showQueue]

theorem good_releaseReply (s : State) (h : Held) (h_s : State.Good s) :
    State.Good (State.releaseReply s h) := by
  grind -lia -linarith -ring -order -ac [State.releaseReply, = State.Good, good_bothWrite, good_when, good_queueNotice]

theorem good_releaseReplies (s : State) (h_s : State.Good s) :
    State.Good (State.releaseReplies s) := by
  grind -lia -linarith -ring -order -ac [State.releaseReplies, = State.Good, good_forEach, good_releaseReply]

theorem good_holdReply (s : State) (c : Cmd) (status flags param : Nat) (h_s : State.Good s) :
    State.Good (State.holdReply s c status flags param) := by
  grind -lia -linarith -ring -order -ac [State.holdReply, = State.Good]

theorem good_badNotice (s : State) (port k : Nat) (h_s : State.Good s) :
    State.Good (State.badNotice s port k) := by
  grind -lia -linarith -ring -order -ac [State.badNotice, = State.Good, good_raiseHost]

theorem good_startMessage (s : State) (c : Cmd) (h_s : State.Good s) :
    State.Good (State.startMessage s c) := by
  grind -lia -linarith -ring -order -ac [State.startMessage, = State.Good, good_holdReply, good_raiseHost]

theorem good_takeNotice (s : State) (k : Nat) (h_s : State.Good s) :
    State.Good (State.takeNotice s k) := by
  grind -lia -linarith -ring -order -ac [State.takeNotice, = State.Good, good_clr, good_putBit, good_journal,
    good_badNotice, good_laneReads, good_startMessage]

theorem good_hostBeat (s : State) (h_s : State.Good s) :
    State.Good (State.hostBeat s) := by
  grind -lia -linarith -ring -order -ac [State.hostBeat, good_when, good_put, good_forUpTo, good_takeNotice,
    good_placeQueued]

theorem good_replayHost (s : State) (h_s : State.Good s) :
    State.Good (State.replayHost s) := by
  grind -lia -linarith -ring -order -ac [State.replayHost, = State.Good, good_bothWrite, good_forEach, good_forUpTo,
    good_queueNotice]

theorem good_execHostRead (port : Fin 2) (addr : BitVec 32) (words : Nat) (sck : Nat) (late : List Nat) (s : State) (h_s : State.Good s) :
    AllNext State.Good (execHostRead port addr words sck late s) := by
  grind -lia -linarith -ring -order -ac [execHostRead, = allNext_iff, good_hostRead]

theorem good_execHostReadCrc (port : Fin 2) (addr : BitVec 32) (words : Nat) (sck : Nat) (late : List Nat) (s : State) (h_s : State.Good s) :
    AllNext State.Good (execHostReadCrc port addr words sck late s) := by
  grind -lia -linarith -ring -order -ac [execHostReadCrc, = allNext_iff, good_hostRead]

theorem good_execHostWrite (port : Fin 2) (addr : BitVec 32) (data : List Word) (sck : Nat) (s : State) (h_s : State.Good s) :
    AllNext State.Good (execHostWrite port addr data sck s) := by
  grind -lia -linarith -ring -order -ac [execHostWrite, = allNext_iff, good_hostWrite]

theorem good_execHostWriteCrc (port : Fin 2) (addr : BitVec 32) (data : List Word) (crc : BitVec 16) (sck : Nat) (s : State) (h_s : State.Good s) :
    AllNext State.Good (execHostWriteCrc port addr data crc sck s) := by
  grind -lia -linarith -ring -order -ac [execHostWriteCrc, = allNext_iff, good_hostWrite]

theorem good_execHostProtocolError (port : Fin 2) (addr : BitVec 32) (sck : Nat) (s : State) (h_s : State.Good s) :
    AllNext State.Good (execHostProtocolError port addr sck s) := by
  grind -lia -linarith -ring -order -ac [execHostProtocolError, = allNext_iff, good_countTxn, good_protocolError]

theorem good_execHostWriteApply (s : State) (h_s : State.Good s) :
    AllNext State.Good (execHostWriteApply s) := by
  grind -lia -linarith -ring -order -ac [execHostWriteApply, = allNext_iff, good_applyWrite]

theorem good_execRegisterWrite (port : Fin 2) (addr : BitVec 32) (v : Word) (s : State) (h_s : State.Good s) :
    AllNext State.Good (execRegisterWrite port addr v s) := by
  grind -lia -linarith -ring -order -ac [execRegisterWrite, = allNext_iff, good_hostFail, good_applyWords]

theorem good_execHostWatchdog (s : State) (h_s : State.Good s) :
    AllNext State.Good (execHostWatchdog s) := by
  grind -lia -linarith -ring -order -ac [execHostWatchdog, = allNext_iff, good_set1, good_raise]

theorem good_execMbxNoticeComplete (port : Fin 2) (k : Fin 8) (hi : Word) (s : State) (h_s : State.Good s) :
    AllNext State.Good (execMbxNoticeComplete port k hi s) := by
  grind -lia -linarith -ring -order -ac [execMbxNoticeComplete, = allNext_iff, good_hostSets, good_applyWords]

theorem good_execDbOutSetWrite (w : PortWrite 32) (s : State) (h_s : State.Good s) :
    AllNext State.Good (execDbOutSetWrite w s) := by
  grind -lia -linarith -ring -order -ac [execDbOutSetWrite, = allNext_iff, good_hostSets, good_ringBells]

theorem good_execInterimReply (port : Fin 2) (seq : BitVec 16) (s : State) (h_s : State.Good s) :
    AllNext State.Good (execInterimReply port seq s) := by
  grind -lia -linarith -ring -order -ac [execInterimReply, = allNext_iff, = State.Good, good_holdReply]

theorem good_execBeatnoLoRead (port : Fin 2) (s : State) (h_s : State.Good s) :
    AllNext State.Good (execBeatnoLoRead port s) := by
  grind -lia -linarith -ring -order -ac [execBeatnoLoRead, = allNext_iff, good_portRead]

theorem good_execBudgetRoundRead (port : Fin 2) (s : State) (h_s : State.Good s) :
    AllNext State.Good (execBudgetRoundRead port s) := by
  grind -lia -linarith -ring -order -ac [execBudgetRoundRead, = allNext_iff, good_portRead]

theorem good_execPlRoundRead (port : Fin 2) (s : State) (h_s : State.Good s) :
    AllNext State.Good (execPlRoundRead port s) := by
  grind -lia -linarith -ring -order -ac [execPlRoundRead, = allNext_iff, good_portRead]

theorem good_execGlbPollRead (port : Fin 2) (s : State) (h_s : State.Good s) :
    AllNext State.Good (execGlbPollRead port s) := by
  grind -lia -linarith -ring -order -ac [execGlbPollRead, = allNext_iff, good_portRead]

theorem good_execMbxReplyRead (port : Fin 2) (k : Fin 8) (s : State) (h_s : State.Good s) :
    AllNext State.Good (execMbxReplyRead port k s) := by
  grind -lia -linarith -ring -order -ac [execMbxReplyRead, = allNext_iff, good_portRead]

theorem good_execFaultEntryRead (port : Fin 2) (s : State) (h_s : State.Good s) :
    AllNext State.Good (execFaultEntryRead port s) := by
  grind -lia -linarith -ring -order -ac [execFaultEntryRead, = allNext_iff, good_portRead]

theorem good_execEssMaxRead (port : Fin 2) (s : State) (h_s : State.Good s) :
    AllNext State.Good (execEssMaxRead port s) := by
  grind -lia -linarith -ring -order -ac [execEssMaxRead, = allNext_iff, good_portRead]

theorem good_execQueueFullCntRead (port : Fin 2) (s : State) (h_s : State.Good s) :
    AllNext State.Good (execQueueFullCntRead port s) := by
  grind -lia -linarith -ring -order -ac [execQueueFullCntRead, = allNext_iff, good_portRead]

theorem good_execCompRunRead (port : Fin 2) (k : Fin 8) (s : State) (h_s : State.Good s) :
    AllNext State.Good (execCompRunRead port k s) := by
  grind -lia -linarith -ring -order -ac [execCompRunRead, = allNext_iff, good_portRead]

theorem good_execCompDropRead (port : Fin 2) (k : Fin 8) (s : State) (h_s : State.Good s) :
    AllNext State.Good (execCompDropRead port k s) := by
  grind -lia -linarith -ring -order -ac [execCompDropRead, = allNext_iff, good_portRead]

theorem good_execSwingCntRead (port : Fin 2) (s : State) (h_s : State.Good s) :
    AllNext State.Good (execSwingCntRead port s) := by
  grind -lia -linarith -ring -order -ac [execSwingCntRead, = allNext_iff, good_portRead]

theorem good_execChStatRead (port : Fin 2) (n : Fin 128) (s : State) (h_s : State.Good s) :
    AllNext State.Good (execChStatRead port n s) := by
  grind -lia -linarith -ring -order -ac [execChStatRead, = allNext_iff, good_portRead]

theorem good_execMeterStateRead (port : Fin 2) (m : Fin 32) (s : State) (h_s : State.Good s) :
    AllNext State.Good (execMeterStateRead port m s) := by
  grind -lia -linarith -ring -order -ac [execMeterStateRead, = allNext_iff, good_portRead]

theorem good_execPlsStatRead (port : Fin 2) (k : Fin 4) (s : State) (h_s : State.Good s) :
    AllNext State.Good (execPlsStatRead port k s) := by
  grind -lia -linarith -ring -order -ac [execPlsStatRead, = allNext_iff, good_portRead]

theorem good_execTokCountRead (port : Fin 2) (s : State) (h_s : State.Good s) :
    AllNext State.Good (execTokCountRead port s) := by
  grind -lia -linarith -ring -order -ac [execTokCountRead, = allNext_iff, good_portRead]

theorem good_execSesProtoRead (port : Fin 2) (k : Fin 128) (s : State) (h_s : State.Good s) :
    AllNext State.Good (execSesProtoRead port k s) := by
  grind -lia -linarith -ring -order -ac [execSesProtoRead, = allNext_iff, good_portRead]

theorem good_execOutSlacRead (port : Fin 2) (n : Fin 12) (s : State) (h_s : State.Good s) :
    AllNext State.Good (execOutSlacRead port n s) := by
  grind -lia -linarith -ring -order -ac [execOutSlacRead, = allNext_iff, good_portRead]

theorem good_execPlBreachRead (port : Fin 2) (s : State) (h_s : State.Good s) :
    AllNext State.Good (execPlBreachRead port s) := by
  grind -lia -linarith -ring -order -ac [execPlBreachRead, = allNext_iff, good_portRead]

theorem good_execJournalMaxRead (port : Fin 2) (s : State) (h_s : State.Good s) :
    AllNext State.Good (execJournalMaxRead port s) := by
  grind -lia -linarith -ring -order -ac [execJournalMaxRead, = allNext_iff, good_portRead]

theorem good_execGapMaxRead (port : Fin 2) (s : State) (h_s : State.Good s) :
    AllNext State.Good (execGapMaxRead port s) := by
  grind -lia -linarith -ring -order -ac [execGapMaxRead, = allNext_iff, good_portRead]

theorem good_execRedChecksRead (port : Fin 2) (s : State) (h_s : State.Good s) :
    AllNext State.Good (execRedChecksRead port s) := by
  grind -lia -linarith -ring -order -ac [execRedChecksRead, = allNext_iff, good_portRead]

theorem good_execSafCountRead (port : Fin 2) (s : State) (h_s : State.Good s) :
    AllNext State.Good (execSafCountRead port s) := by
  grind -lia -linarith -ring -order -ac [execSafCountRead, = allNext_iff, good_portRead]

theorem good_execSafReactRead (port : Fin 2) (s : State) (h_s : State.Good s) :
    AllNext State.Good (execSafReactRead port s) := by
  grind -lia -linarith -ring -order -ac [execSafReactRead, = allNext_iff, good_portRead]

theorem good_execLchCountRead (port : Fin 2) (k : Fin 16) (s : State) (h_s : State.Good s) :
    AllNext State.Good (execLchCountRead port k s) := by
  grind -lia -linarith -ring -order -ac [execLchCountRead, = allNext_iff, good_portRead]

theorem good_execBzlCountRead (port : Fin 2) (s : State) (h_s : State.Good s) :
    AllNext State.Good (execBzlCountRead port s) := by
  grind -lia -linarith -ring -order -ac [execBzlCountRead, = allNext_iff, good_portRead]

theorem good_execRdCountRead (port : Fin 2) (s : State) (h_s : State.Good s) :
    AllNext State.Good (execRdCountRead port s) := by
  grind -lia -linarith -ring -order -ac [execRdCountRead, = allNext_iff, good_portRead]

theorem good_execTagStatRead (port : Fin 2) (s : State) (h_s : State.Good s) :
    AllNext State.Good (execTagStatRead port s) := by
  grind -lia -linarith -ring -order -ac [execTagStatRead, = allNext_iff, good_portRead]

theorem good_execSitCountRead (port : Fin 2) (s : State) (h_s : State.Good s) :
    AllNext State.Good (execSitCountRead port s) := by
  grind -lia -linarith -ring -order -ac [execSitCountRead, = allNext_iff, good_portRead]

theorem good_execSitErrRead (port : Fin 2) (s : State) (h_s : State.Good s) :
    AllNext State.Good (execSitErrRead port s) := by
  grind -lia -linarith -ring -order -ac [execSitErrRead, = allNext_iff, good_portRead]

theorem good_execSitDropRead (port : Fin 2) (s : State) (h_s : State.Good s) :
    AllNext State.Good (execSitDropRead port s) := by
  grind -lia -linarith -ring -order -ac [execSitDropRead, = allNext_iff, good_portRead]

theorem good_execHpdErrRead (port : Fin 2) (n : Fin 2) (s : State) (h_s : State.Good s) :
    AllNext State.Good (execHpdErrRead port n s) := by
  grind -lia -linarith -ring -order -ac [execHpdErrRead, = allNext_iff, good_portRead]

theorem good_execHpdClkRead (port : Fin 2) (n : Fin 2) (s : State) (h_s : State.Good s) :
    AllNext State.Good (execHpdClkRead port n s) := by
  grind -lia -linarith -ring -order -ac [execHpdClkRead, = allNext_iff, good_portRead]

theorem good_execArbMissRead (port : Fin 2) (m : Fin 14) (s : State) (h_s : State.Good s) :
    AllNext State.Good (execArbMissRead port m s) := by
  grind -lia -linarith -ring -order -ac [execArbMissRead, = allNext_iff, good_portRead]

theorem good_execArbWaitRead (port : Fin 2) (m : Fin 14) (s : State) (h_s : State.Good s) :
    AllNext State.Good (execArbWaitRead port m s) := by
  grind -lia -linarith -ring -order -ac [execArbWaitRead, = allNext_iff, good_portRead]

theorem good_execArbLoadRead (port : Fin 2) (b : Fin 9) (s : State) (h_s : State.Good s) :
    AllNext State.Good (execArbLoadRead port b s) := by
  grind -lia -linarith -ring -order -ac [execArbLoadRead, = allNext_iff, good_portRead]

theorem good_execJwUseRead (port : Fin 2) (s : State) (h_s : State.Good s) :
    AllNext State.Good (execJwUseRead port s) := by
  grind -lia -linarith -ring -order -ac [execJwUseRead, = allNext_iff, good_portRead]

theorem good_execDrbgRead (port : Fin 2) (s : State) (h_s : State.Good s) :
    AllNext State.Good (execDrbgRead port s) := by
  grind -lia -linarith -ring -order -ac [execDrbgRead, = allNext_iff, good_portRead]

theorem good_execPwrVauxRead (port : Fin 2) (s : State) (h_s : State.Good s) :
    AllNext State.Good (execPwrVauxRead port s) := by
  grind -lia -linarith -ring -order -ac [execPwrVauxRead, = allNext_iff, good_portRead]

theorem good_execPwrDipsRead (port : Fin 2) (s : State) (h_s : State.Good s) :
    AllNext State.Good (execPwrDipsRead port s) := by
  grind -lia -linarith -ring -order -ac [execPwrDipsRead, = allNext_iff, good_portRead]

theorem good_execFltStatusRead (port : Fin 2) (s : State) (h_s : State.Good s) :
    AllNext State.Good (execFltStatusRead port s) := by
  grind -lia -linarith -ring -order -ac [execFltStatusRead, = allNext_iff, good_portRead]

theorem good_execFltCountRead (port : Fin 2) (s : State) (h_s : State.Good s) :
    AllNext State.Good (execFltCountRead port s) := by
  grind -lia -linarith -ring -order -ac [execFltCountRead, = allNext_iff, good_portRead]

theorem good_execWideWord0Read (port : Fin 2) (addr : BitVec 32) (s : State) (h_s : State.Good s) :
    AllNext State.Good (execWideWord0Read port addr s) := by
  grind -lia -linarith -ring -order -ac [execWideWord0Read, = allNext_iff, = State.Good, good_portRead]

/-! ### Takeover -/

theorem good_replay (s : State) (h_s : State.Good s) :
    State.Good (State.replay s) := by
  grind -lia -linarith -ring -order -ac [State.replay, = State.Good, good_forUpTo, good_updO, good_updConv,
    good_swingsRestart, good_siteReplay, good_isoReplay, good_replayHost]

theorem good_latePulses (s : State) (m ns : Nat) (h_s : State.Good s) :
    State.Good (State.latePulses s m ns) := by
  grind -lia -linarith -ring -order -ac [State.latePulses, = State.Good, good_forUpTo, good_updPulse]

theorem good_applyHeld (s : State) (m ns : Nat) (h_s : State.Good s) :
    State.Good (State.applyHeld s m ns) := by
  grind -lia -linarith -ring -order -ac [State.applyHeld, = State.Good, good_showOutputs, good_applySet, good_latePulses]

theorem good_execTakeoverComplete (ns : Nat) (s : State) (h_s : State.Good s) :
    AllNext State.Good (execTakeoverComplete ns s) := by
  grind -lia -linarith -ring -order -ac [execTakeoverComplete, = allNext_iff, = State.Good, good_takeoverLate,
    good_recordTakeover, good_set1, good_setGstate, good_updRed, good_applyHeld, good_when, good_actFail, good_replay]

/-! ### Mirror -/

theorem good_addRecords (s : State) (rs : List JRecord) (h_s : State.Good s) :
    State.Good (State.addRecords s rs) := by
  grind -lia -linarith -ring -order -ac [State.addRecords, = State.Good, good_updJnl]

theorem good_stampAll (s : State) (h_s : State.Good s) :
    State.Good (State.stampAll s) := by
  grind -lia -linarith -ring -order -ac [State.stampAll, = State.Good, good_addRecords, good_forUpTo, good_updLink,
    good_updSit]

theorem good_recordChanges (s : State) (h_s : State.Good s) :
    State.Good (State.recordChanges s) := by
  grind -lia -linarith -ring -order -ac [State.recordChanges, = State.Good, good_addRecords, good_updJnl]

theorem good_collect (s : State) (h_s : State.Good s) :
    State.Good (State.collect s) := by
  grind -lia -linarith -ring -order -ac [State.collect, good_stampAll, good_recordChanges]

theorem good_journalEntry (s : State) (hand : Bool) (h_s : State.Good s) :
    State.Good (State.journalEntry s hand) := by
  grind -lia -linarith -ring -order -ac [State.journalEntry, = State.Good, good_collect, good_ageDay, good_updRed,
    good_updJnl, good_when, good_putSat, good_raiseTo]

theorem good_closeEntry (s : State) (h_s : State.Good s) :
    State.Good (State.closeEntry s) := by
  grind -lia -linarith -ring -order -ac [State.closeEntry, = State.Good, good_collect, good_updRed, good_updJnl,
    good_applyEntries]

theorem good_sendSegs (s : State) (h_s : State.Good s) :
    State.Good (State.sendSegs s) := by
  grind -lia -linarith -ring -order -ac [State.sendSegs, = State.Good, good_forUpTo, good_updLink]

/-! ### Beat -/

theorem good_countBeat (s : State) (h_s : State.Good s) :
    State.Good (State.countBeat s) := by
  grind -lia -linarith -ring -order -ac [State.countBeat, = State.Good, good_wrN, good_put]

theorem good_billingFlags (s : State) (stepped : Bool) (h_s : State.Good s) :
    State.Good (State.billingFlags s stepped) := by
  grind -lia -linarith -ring -order -ac [State.billingFlags, = State.Good, good_forUpTo, good_when, good_updS]

theorem good_meteringGroup (s : State) (o : BeatObs) (h_s : State.Good s) :
    State.Good (State.meteringGroup s o) := by
  grind -lia -linarith -ring -order -ac [State.meteringGroup, good_chronoBeat, good_swingsCommit, good_intake,
    good_captureBeat, good_ksBeat, good_swingsBeat, good_metering, good_tariffBeat, good_creditBeat, good_costBeat,
    good_boundaryBeat, good_billingFlags, good_roundBeat, good_islandBeat]

theorem good_noteUpdate (s : State) (h_s : State.Good s) :
    State.Good (State.noteUpdate s) := by
  grind -lia -linarith -ring -order -ac [State.noteUpdate, = State.Good, good_when, good_raiseTo, good_updRed]

theorem good_takeAux (s : State) (aux : Nat) (h_s : State.Good s) :
    State.Good (State.takeAux s aux) := by
  grind -lia -linarith -ring -order -ac [State.takeAux, = State.Good, good_put]

theorem good_commandSet (s : State) (inTime : Bool) (before : Nat) (h_s : State.Good s) :
    State.Good (State.commandSet s inTime before) := by
  grind -lia -linarith -ring -order -ac [State.commandSet, = State.Good, good_applySet, good_noteUpdate, good_showOutputs]

theorem good_outputGroup (s : State) (o : BeatObs) (h_s : State.Good s) :
    State.Good (State.outputGroup s o) := by
  grind -lia -linarith -ring -order -ac [State.outputGroup, good_takeAux, good_forUpTo, good_outletBeat, good_when,
    good_isoSend, good_commandSet, good_tryUnlock, good_lcBeat]

theorem good_legalCheckBeat (s : State) (h_s : State.Good s) :
    State.Good (State.legalCheckBeat s) := by
  grind -lia -linarith -ring -order -ac [State.legalCheckBeat, good_startTest]

theorem good_startGroup (s : State) (h_s : State.Good s) :
    State.Good (State.startGroup s) := by
  grind -lia -linarith -ring -order -ac [State.startGroup, = State.Good, good_doSwap, good_updRed, good_legalCheckBeat,
    good_svcBeat, good_spareBeat, good_effectBeat, good_actBeat]

theorem good_judgeLanes (s : State) (o : BeatObs) (h_s : State.Good s) :
    State.Good (State.judgeLanes s o) := by
  grind -lia -linarith -ring -order -ac [State.judgeLanes, good_beatTimes, good_forUpTo, good_when, good_lateBeat,
    good_laneFails]

theorem good_windowGroup (s : State) (o : BeatObs) (h_s : State.Good s) : State.Good (State.windowGroup s o) := by
  unfold State.windowGroup
  exact good_when _ _ _ (fun u hu => good_siteSecond _ hu) (good_resyncStep _ _ _ (good_showLate _ (good_showReserve _ (good_tagOwn _
    (good_legalField _ (good_bezelAdmitted _ _ (good_watchRails _ _ (good_admitSlices _ _ (good_admitSlices _ _ (good_updCeil _ _ (good_takeMask _ h_s)))))))))))

theorem good_workBeat (s : State) (o : BeatObs) (h_s : State.Good s) :
    State.Good (State.workBeat s o) := by
  grind -lia -linarith -ring -order -ac [State.workBeat, = State.Good, good_startGroup, good_meteringGroup,
    good_outputGroup, good_updRed, good_hostBeat, good_journalEntry, good_judgeLanes, good_windowGroup, good_showLoads,
    good_supplyBeat, good_when, good_fullSave, good_updPwr]

theorem good_logBeat (s : State) (h_s : State.Good s) :
    State.Good (State.logBeat s) := by
  grind -lia -linarith -ring -order -ac [State.logBeat, good_writeLog, good_keepLog, good_deferredLog]

theorem good_restBeat (s : State) (o : BeatObs) (h_s : State.Good s) :
    State.Good (State.restBeat s o) := by
  grind -lia -linarith -ring -order -ac [State.restBeat, = State.Good, good_svcBeat, good_chronoBeat, good_hostBeat,
    good_tagOwn, good_updJnl, good_lcBeat, good_supplyBeat]

theorem good_abortBeat (s : State) (h_s : State.Good s) :
    State.Good (State.abortBeat s) := by
  grind -lia -linarith -ring -order -ac [State.abortBeat, good_calAborts, good_updAborts, good_tagAborts, good_dmaAborts]

theorem good_finishBeat (s : State) (h_s : State.Good s) :
    State.Good (State.finishBeat s) := by
  grind -lia -linarith -ring -order -ac [State.finishBeat, = State.Good]

theorem good_execBeat (obs : BeatObs) (s : State) (h_s : State.Good s) :
    AllNext State.Good (execBeat obs s) := by
  grind -lia -linarith -ring -order -ac [execBeat, = allNext_iff, = State.Good, good_countBeat, good_within,
    good_closeEntry, good_abortBeat, good_releaseReplies, good_sendSegs, good_workBeat, good_restBeat, good_logBeat,
    good_countPoll, good_finishBeat]

end Sys2Proof.Machine
end

