-- ==== Sys2Proof/Laws/State.lean ====
section
/-! SUPPORT. Small laws of the register and record operations of State: what each update leaves in every field, fields read
after a write, and the byte order of a stored number. -/
namespace Sys2Proof.Machine

@[simp] theorem State.wr_pending (s : State) (a : Nat) (v : Word) : (s.wr a v).pending = s.pending := rfl
@[simp] theorem State.wr_freeCtr (s : State) (a : Nat) (v : Word) : (s.wr a v).freeCtr = s.freeCtr := rfl
@[simp] theorem State.wr_ram (s : State) (a : Nat) (v : Word) : (s.wr a v).ram = s.ram := rfl
@[simp] theorem State.wr_glb (s : State) (a : Nat) (v : Word) : (s.wr a v).glb = s.glb := rfl
@[simp] theorem State.wr_host (s : State) (a : Nat) (v : Word) : (s.wr a v).host = s.host := rfl
@[simp] theorem State.wr_flt (s : State) (a : Nat) (v : Word) : (s.wr a v).flt = s.flt := rfl
@[simp] theorem State.wr_esc (s : State) (a : Nat) (v : Word) : (s.wr a v).esc = s.esc := rfl
@[simp] theorem State.wr_red (s : State) (a : Nat) (v : Word) : (s.wr a v).red = s.red := rfl
@[simp] theorem State.wr_lgl (s : State) (a : Nat) (v : Word) : (s.wr a v).lgl = s.lgl := rfl
@[simp] theorem State.wr_outs (s : State) (a : Nat) (v : Word) : (s.wr a v).outs = s.outs := rfl
@[simp] theorem State.wr_lch (s : State) (a : Nat) (v : Word) : (s.wr a v).lch = s.lch := rfl
@[simp] theorem State.wr_saf (s : State) (a : Nat) (v : Word) : (s.wr a v).saf = s.saf := rfl
@[simp] theorem State.wr_sns (s : State) (a : Nat) (v : Word) : (s.wr a v).sns = s.sns := rfl
@[simp] theorem State.wr_mtr (s : State) (a : Nat) (v : Word) : (s.wr a v).mtr = s.mtr := rfl
@[simp] theorem State.wr_gov (s : State) (a : Nat) (v : Word) : (s.wr a v).gov = s.gov := rfl
@[simp] theorem State.wr_sit (s : State) (a : Nat) (v : Word) : (s.wr a v).sit = s.sit := rfl
@[simp] theorem State.wr_bzl (s : State) (a : Nat) (v : Word) : (s.wr a v).bzl = s.bzl := rfl
@[simp] theorem State.wr_nfc (s : State) (a : Nat) (v : Word) : (s.wr a v).nfc = s.nfc := rfl
@[simp] theorem State.wr_pwr (s : State) (a : Nat) (v : Word) : (s.wr a v).pwr = s.pwr := rfl
@[simp] theorem State.wr_mp (s : State) (a : Nat) (v : Word) : (s.wr a v).mp = s.mp := rfl
@[simp] theorem State.wr_key (s : State) (a : Nat) (v : Word) : (s.wr a v).key = s.key := rfl
@[simp] theorem State.wr_fwu (s : State) (a : Nat) (v : Word) : (s.wr a v).fwu = s.fwu := rfl
@[simp] theorem State.wr_cal (s : State) (a : Nat) (v : Word) : (s.wr a v).cal = s.cal := rfl
@[simp] theorem State.wr_wear (s : State) (a : Nat) (v : Word) : (s.wr a v).wear = s.wear := rfl
@[simp] theorem State.wrN_pending (s : State) (a v : Nat) : (s.wrN a v).pending = s.pending := rfl
@[simp] theorem State.wrN_freeCtr (s : State) (a v : Nat) : (s.wrN a v).freeCtr = s.freeCtr := rfl
@[simp] theorem State.wrN_ram (s : State) (a v : Nat) : (s.wrN a v).ram = s.ram := rfl
@[simp] theorem State.wrN_glb (s : State) (a v : Nat) : (s.wrN a v).glb = s.glb := rfl
@[simp] theorem State.wrN_host (s : State) (a v : Nat) : (s.wrN a v).host = s.host := rfl
@[simp] theorem State.wrN_flt (s : State) (a v : Nat) : (s.wrN a v).flt = s.flt := rfl
@[simp] theorem State.wrN_esc (s : State) (a v : Nat) : (s.wrN a v).esc = s.esc := rfl
@[simp] theorem State.wrN_red (s : State) (a v : Nat) : (s.wrN a v).red = s.red := rfl
@[simp] theorem State.wrN_lgl (s : State) (a v : Nat) : (s.wrN a v).lgl = s.lgl := rfl
@[simp] theorem State.wrN_outs (s : State) (a v : Nat) : (s.wrN a v).outs = s.outs := rfl
@[simp] theorem State.wrN_lch (s : State) (a v : Nat) : (s.wrN a v).lch = s.lch := rfl
@[simp] theorem State.wrN_saf (s : State) (a v : Nat) : (s.wrN a v).saf = s.saf := rfl
@[simp] theorem State.wrN_sns (s : State) (a v : Nat) : (s.wrN a v).sns = s.sns := rfl
@[simp] theorem State.wrN_mtr (s : State) (a v : Nat) : (s.wrN a v).mtr = s.mtr := rfl
@[simp] theorem State.wrN_gov (s : State) (a v : Nat) : (s.wrN a v).gov = s.gov := rfl
@[simp] theorem State.wrN_sit (s : State) (a v : Nat) : (s.wrN a v).sit = s.sit := rfl
@[simp] theorem State.wrN_bzl (s : State) (a v : Nat) : (s.wrN a v).bzl = s.bzl := rfl
@[simp] theorem State.wrN_nfc (s : State) (a v : Nat) : (s.wrN a v).nfc = s.nfc := rfl
@[simp] theorem State.wrN_pwr (s : State) (a v : Nat) : (s.wrN a v).pwr = s.pwr := rfl
@[simp] theorem State.wrN_mp (s : State) (a v : Nat) : (s.wrN a v).mp = s.mp := rfl
@[simp] theorem State.wrN_key (s : State) (a v : Nat) : (s.wrN a v).key = s.key := rfl
@[simp] theorem State.wrN_fwu (s : State) (a v : Nat) : (s.wrN a v).fwu = s.fwu := rfl
@[simp] theorem State.wrN_cal (s : State) (a v : Nat) : (s.wrN a v).cal = s.cal := rfl
@[simp] theorem State.wrN_wear (s : State) (a v : Nat) : (s.wrN a v).wear = s.wear := rfl
@[simp] theorem State.put_pending (s : State) (f : Fld) (v : Nat) : (s.put f v).pending = s.pending := rfl
@[simp] theorem State.put_freeCtr (s : State) (f : Fld) (v : Nat) : (s.put f v).freeCtr = s.freeCtr := rfl
@[simp] theorem State.put_ram (s : State) (f : Fld) (v : Nat) : (s.put f v).ram = s.ram := rfl
@[simp] theorem State.put_glb (s : State) (f : Fld) (v : Nat) : (s.put f v).glb = s.glb := rfl
@[simp] theorem State.put_host (s : State) (f : Fld) (v : Nat) : (s.put f v).host = s.host := rfl
@[simp] theorem State.put_flt (s : State) (f : Fld) (v : Nat) : (s.put f v).flt = s.flt := rfl
@[simp] theorem State.put_esc (s : State) (f : Fld) (v : Nat) : (s.put f v).esc = s.esc := rfl
@[simp] theorem State.put_red (s : State) (f : Fld) (v : Nat) : (s.put f v).red = s.red := rfl
@[simp] theorem State.put_lgl (s : State) (f : Fld) (v : Nat) : (s.put f v).lgl = s.lgl := rfl
@[simp] theorem State.put_outs (s : State) (f : Fld) (v : Nat) : (s.put f v).outs = s.outs := rfl
@[simp] theorem State.put_lch (s : State) (f : Fld) (v : Nat) : (s.put f v).lch = s.lch := rfl
@[simp] theorem State.put_saf (s : State) (f : Fld) (v : Nat) : (s.put f v).saf = s.saf := rfl
@[simp] theorem State.put_sns (s : State) (f : Fld) (v : Nat) : (s.put f v).sns = s.sns := rfl
@[simp] theorem State.put_mtr (s : State) (f : Fld) (v : Nat) : (s.put f v).mtr = s.mtr := rfl
@[simp] theorem State.put_gov (s : State) (f : Fld) (v : Nat) : (s.put f v).gov = s.gov := rfl
@[simp] theorem State.put_sit (s : State) (f : Fld) (v : Nat) : (s.put f v).sit = s.sit := rfl
@[simp] theorem State.put_bzl (s : State) (f : Fld) (v : Nat) : (s.put f v).bzl = s.bzl := rfl
@[simp] theorem State.put_nfc (s : State) (f : Fld) (v : Nat) : (s.put f v).nfc = s.nfc := rfl
@[simp] theorem State.put_pwr (s : State) (f : Fld) (v : Nat) : (s.put f v).pwr = s.pwr := rfl
@[simp] theorem State.put_mp (s : State) (f : Fld) (v : Nat) : (s.put f v).mp = s.mp := rfl
@[simp] theorem State.put_key (s : State) (f : Fld) (v : Nat) : (s.put f v).key = s.key := rfl
@[simp] theorem State.put_fwu (s : State) (f : Fld) (v : Nat) : (s.put f v).fwu = s.fwu := rfl
@[simp] theorem State.put_cal (s : State) (f : Fld) (v : Nat) : (s.put f v).cal = s.cal := rfl
@[simp] theorem State.put_wear (s : State) (f : Fld) (v : Nat) : (s.put f v).wear = s.wear := rfl
@[simp] theorem State.putSat_pending (s : State) (f : Fld) (v : Nat) : (s.putSat f v).pending = s.pending := rfl
@[simp] theorem State.putSat_freeCtr (s : State) (f : Fld) (v : Nat) : (s.putSat f v).freeCtr = s.freeCtr := rfl
@[simp] theorem State.putSat_ram (s : State) (f : Fld) (v : Nat) : (s.putSat f v).ram = s.ram := rfl
@[simp] theorem State.putSat_glb (s : State) (f : Fld) (v : Nat) : (s.putSat f v).glb = s.glb := rfl
@[simp] theorem State.putSat_host (s : State) (f : Fld) (v : Nat) : (s.putSat f v).host = s.host := rfl
@[simp] theorem State.putSat_flt (s : State) (f : Fld) (v : Nat) : (s.putSat f v).flt = s.flt := rfl
@[simp] theorem State.putSat_esc (s : State) (f : Fld) (v : Nat) : (s.putSat f v).esc = s.esc := rfl
@[simp] theorem State.putSat_red (s : State) (f : Fld) (v : Nat) : (s.putSat f v).red = s.red := rfl
@[simp] theorem State.putSat_lgl (s : State) (f : Fld) (v : Nat) : (s.putSat f v).lgl = s.lgl := rfl
@[simp] theorem State.putSat_outs (s : State) (f : Fld) (v : Nat) : (s.putSat f v).outs = s.outs := rfl
@[simp] theorem State.putSat_lch (s : State) (f : Fld) (v : Nat) : (s.putSat f v).lch = s.lch := rfl
@[simp] theorem State.putSat_saf (s : State) (f : Fld) (v : Nat) : (s.putSat f v).saf = s.saf := rfl
@[simp] theorem State.putSat_sns (s : State) (f : Fld) (v : Nat) : (s.putSat f v).sns = s.sns := rfl
@[simp] theorem State.putSat_mtr (s : State) (f : Fld) (v : Nat) : (s.putSat f v).mtr = s.mtr := rfl
@[simp] theorem State.putSat_gov (s : State) (f : Fld) (v : Nat) : (s.putSat f v).gov = s.gov := rfl
@[simp] theorem State.putSat_sit (s : State) (f : Fld) (v : Nat) : (s.putSat f v).sit = s.sit := rfl
@[simp] theorem State.putSat_bzl (s : State) (f : Fld) (v : Nat) : (s.putSat f v).bzl = s.bzl := rfl
@[simp] theorem State.putSat_nfc (s : State) (f : Fld) (v : Nat) : (s.putSat f v).nfc = s.nfc := rfl
@[simp] theorem State.putSat_pwr (s : State) (f : Fld) (v : Nat) : (s.putSat f v).pwr = s.pwr := rfl
@[simp] theorem State.putSat_mp (s : State) (f : Fld) (v : Nat) : (s.putSat f v).mp = s.mp := rfl
@[simp] theorem State.putSat_key (s : State) (f : Fld) (v : Nat) : (s.putSat f v).key = s.key := rfl
@[simp] theorem State.putSat_fwu (s : State) (f : Fld) (v : Nat) : (s.putSat f v).fwu = s.fwu := rfl
@[simp] theorem State.putSat_cal (s : State) (f : Fld) (v : Nat) : (s.putSat f v).cal = s.cal := rfl
@[simp] theorem State.putSat_wear (s : State) (f : Fld) (v : Nat) : (s.putSat f v).wear = s.wear := rfl
@[simp] theorem State.puti_pending (s : State) (f : Fld) (v : Int) : (s.puti f v).pending = s.pending := rfl
@[simp] theorem State.puti_freeCtr (s : State) (f : Fld) (v : Int) : (s.puti f v).freeCtr = s.freeCtr := rfl
@[simp] theorem State.puti_ram (s : State) (f : Fld) (v : Int) : (s.puti f v).ram = s.ram := rfl
@[simp] theorem State.puti_glb (s : State) (f : Fld) (v : Int) : (s.puti f v).glb = s.glb := rfl
@[simp] theorem State.puti_host (s : State) (f : Fld) (v : Int) : (s.puti f v).host = s.host := rfl
@[simp] theorem State.puti_flt (s : State) (f : Fld) (v : Int) : (s.puti f v).flt = s.flt := rfl
@[simp] theorem State.puti_esc (s : State) (f : Fld) (v : Int) : (s.puti f v).esc = s.esc := rfl
@[simp] theorem State.puti_red (s : State) (f : Fld) (v : Int) : (s.puti f v).red = s.red := rfl
@[simp] theorem State.puti_lgl (s : State) (f : Fld) (v : Int) : (s.puti f v).lgl = s.lgl := rfl
@[simp] theorem State.puti_outs (s : State) (f : Fld) (v : Int) : (s.puti f v).outs = s.outs := rfl
@[simp] theorem State.puti_lch (s : State) (f : Fld) (v : Int) : (s.puti f v).lch = s.lch := rfl
@[simp] theorem State.puti_saf (s : State) (f : Fld) (v : Int) : (s.puti f v).saf = s.saf := rfl
@[simp] theorem State.puti_sns (s : State) (f : Fld) (v : Int) : (s.puti f v).sns = s.sns := rfl
@[simp] theorem State.puti_mtr (s : State) (f : Fld) (v : Int) : (s.puti f v).mtr = s.mtr := rfl
@[simp] theorem State.puti_gov (s : State) (f : Fld) (v : Int) : (s.puti f v).gov = s.gov := rfl
@[simp] theorem State.puti_sit (s : State) (f : Fld) (v : Int) : (s.puti f v).sit = s.sit := rfl
@[simp] theorem State.puti_bzl (s : State) (f : Fld) (v : Int) : (s.puti f v).bzl = s.bzl := rfl
@[simp] theorem State.puti_nfc (s : State) (f : Fld) (v : Int) : (s.puti f v).nfc = s.nfc := rfl
@[simp] theorem State.puti_pwr (s : State) (f : Fld) (v : Int) : (s.puti f v).pwr = s.pwr := rfl
@[simp] theorem State.puti_mp (s : State) (f : Fld) (v : Int) : (s.puti f v).mp = s.mp := rfl
@[simp] theorem State.puti_key (s : State) (f : Fld) (v : Int) : (s.puti f v).key = s.key := rfl
@[simp] theorem State.puti_fwu (s : State) (f : Fld) (v : Int) : (s.puti f v).fwu = s.fwu := rfl
@[simp] theorem State.puti_cal (s : State) (f : Fld) (v : Int) : (s.puti f v).cal = s.cal := rfl
@[simp] theorem State.puti_wear (s : State) (f : Fld) (v : Int) : (s.puti f v).wear = s.wear := rfl
@[simp] theorem State.inc_pending (s : State) (f : Fld) : (s.inc f).pending = s.pending := rfl
@[simp] theorem State.inc_freeCtr (s : State) (f : Fld) : (s.inc f).freeCtr = s.freeCtr := rfl
@[simp] theorem State.inc_ram (s : State) (f : Fld) : (s.inc f).ram = s.ram := rfl
@[simp] theorem State.inc_glb (s : State) (f : Fld) : (s.inc f).glb = s.glb := rfl
@[simp] theorem State.inc_host (s : State) (f : Fld) : (s.inc f).host = s.host := rfl
@[simp] theorem State.inc_flt (s : State) (f : Fld) : (s.inc f).flt = s.flt := rfl
@[simp] theorem State.inc_esc (s : State) (f : Fld) : (s.inc f).esc = s.esc := rfl
@[simp] theorem State.inc_red (s : State) (f : Fld) : (s.inc f).red = s.red := rfl
@[simp] theorem State.inc_lgl (s : State) (f : Fld) : (s.inc f).lgl = s.lgl := rfl
@[simp] theorem State.inc_outs (s : State) (f : Fld) : (s.inc f).outs = s.outs := rfl
@[simp] theorem State.inc_lch (s : State) (f : Fld) : (s.inc f).lch = s.lch := rfl
@[simp] theorem State.inc_saf (s : State) (f : Fld) : (s.inc f).saf = s.saf := rfl
@[simp] theorem State.inc_sns (s : State) (f : Fld) : (s.inc f).sns = s.sns := rfl
@[simp] theorem State.inc_mtr (s : State) (f : Fld) : (s.inc f).mtr = s.mtr := rfl
@[simp] theorem State.inc_gov (s : State) (f : Fld) : (s.inc f).gov = s.gov := rfl
@[simp] theorem State.inc_sit (s : State) (f : Fld) : (s.inc f).sit = s.sit := rfl
@[simp] theorem State.inc_bzl (s : State) (f : Fld) : (s.inc f).bzl = s.bzl := rfl
@[simp] theorem State.inc_nfc (s : State) (f : Fld) : (s.inc f).nfc = s.nfc := rfl
@[simp] theorem State.inc_pwr (s : State) (f : Fld) : (s.inc f).pwr = s.pwr := rfl
@[simp] theorem State.inc_mp (s : State) (f : Fld) : (s.inc f).mp = s.mp := rfl
@[simp] theorem State.inc_key (s : State) (f : Fld) : (s.inc f).key = s.key := rfl
@[simp] theorem State.inc_fwu (s : State) (f : Fld) : (s.inc f).fwu = s.fwu := rfl
@[simp] theorem State.inc_cal (s : State) (f : Fld) : (s.inc f).cal = s.cal := rfl
@[simp] theorem State.inc_wear (s : State) (f : Fld) : (s.inc f).wear = s.wear := rfl
@[simp] theorem State.set1_pending (s : State) (f : Fld) : (s.set1 f).pending = s.pending := rfl
@[simp] theorem State.set1_freeCtr (s : State) (f : Fld) : (s.set1 f).freeCtr = s.freeCtr := rfl
@[simp] theorem State.set1_ram (s : State) (f : Fld) : (s.set1 f).ram = s.ram := rfl
@[simp] theorem State.set1_glb (s : State) (f : Fld) : (s.set1 f).glb = s.glb := rfl
@[simp] theorem State.set1_host (s : State) (f : Fld) : (s.set1 f).host = s.host := rfl
@[simp] theorem State.set1_flt (s : State) (f : Fld) : (s.set1 f).flt = s.flt := rfl
@[simp] theorem State.set1_esc (s : State) (f : Fld) : (s.set1 f).esc = s.esc := rfl
@[simp] theorem State.set1_red (s : State) (f : Fld) : (s.set1 f).red = s.red := rfl
@[simp] theorem State.set1_lgl (s : State) (f : Fld) : (s.set1 f).lgl = s.lgl := rfl
@[simp] theorem State.set1_outs (s : State) (f : Fld) : (s.set1 f).outs = s.outs := rfl
@[simp] theorem State.set1_lch (s : State) (f : Fld) : (s.set1 f).lch = s.lch := rfl
@[simp] theorem State.set1_saf (s : State) (f : Fld) : (s.set1 f).saf = s.saf := rfl
@[simp] theorem State.set1_sns (s : State) (f : Fld) : (s.set1 f).sns = s.sns := rfl
@[simp] theorem State.set1_mtr (s : State) (f : Fld) : (s.set1 f).mtr = s.mtr := rfl
@[simp] theorem State.set1_gov (s : State) (f : Fld) : (s.set1 f).gov = s.gov := rfl
@[simp] theorem State.set1_sit (s : State) (f : Fld) : (s.set1 f).sit = s.sit := rfl
@[simp] theorem State.set1_bzl (s : State) (f : Fld) : (s.set1 f).bzl = s.bzl := rfl
@[simp] theorem State.set1_nfc (s : State) (f : Fld) : (s.set1 f).nfc = s.nfc := rfl
@[simp] theorem State.set1_pwr (s : State) (f : Fld) : (s.set1 f).pwr = s.pwr := rfl
@[simp] theorem State.set1_mp (s : State) (f : Fld) : (s.set1 f).mp = s.mp := rfl
@[simp] theorem State.set1_key (s : State) (f : Fld) : (s.set1 f).key = s.key := rfl
@[simp] theorem State.set1_fwu (s : State) (f : Fld) : (s.set1 f).fwu = s.fwu := rfl
@[simp] theorem State.set1_cal (s : State) (f : Fld) : (s.set1 f).cal = s.cal := rfl
@[simp] theorem State.set1_wear (s : State) (f : Fld) : (s.set1 f).wear = s.wear := rfl
@[simp] theorem State.clr_pending (s : State) (f : Fld) : (s.clr f).pending = s.pending := rfl
@[simp] theorem State.clr_freeCtr (s : State) (f : Fld) : (s.clr f).freeCtr = s.freeCtr := rfl
@[simp] theorem State.clr_ram (s : State) (f : Fld) : (s.clr f).ram = s.ram := rfl
@[simp] theorem State.clr_glb (s : State) (f : Fld) : (s.clr f).glb = s.glb := rfl
@[simp] theorem State.clr_host (s : State) (f : Fld) : (s.clr f).host = s.host := rfl
@[simp] theorem State.clr_flt (s : State) (f : Fld) : (s.clr f).flt = s.flt := rfl
@[simp] theorem State.clr_esc (s : State) (f : Fld) : (s.clr f).esc = s.esc := rfl
@[simp] theorem State.clr_red (s : State) (f : Fld) : (s.clr f).red = s.red := rfl
@[simp] theorem State.clr_lgl (s : State) (f : Fld) : (s.clr f).lgl = s.lgl := rfl
@[simp] theorem State.clr_outs (s : State) (f : Fld) : (s.clr f).outs = s.outs := rfl
@[simp] theorem State.clr_lch (s : State) (f : Fld) : (s.clr f).lch = s.lch := rfl
@[simp] theorem State.clr_saf (s : State) (f : Fld) : (s.clr f).saf = s.saf := rfl
@[simp] theorem State.clr_sns (s : State) (f : Fld) : (s.clr f).sns = s.sns := rfl
@[simp] theorem State.clr_mtr (s : State) (f : Fld) : (s.clr f).mtr = s.mtr := rfl
@[simp] theorem State.clr_gov (s : State) (f : Fld) : (s.clr f).gov = s.gov := rfl
@[simp] theorem State.clr_sit (s : State) (f : Fld) : (s.clr f).sit = s.sit := rfl
@[simp] theorem State.clr_bzl (s : State) (f : Fld) : (s.clr f).bzl = s.bzl := rfl
@[simp] theorem State.clr_nfc (s : State) (f : Fld) : (s.clr f).nfc = s.nfc := rfl
@[simp] theorem State.clr_pwr (s : State) (f : Fld) : (s.clr f).pwr = s.pwr := rfl
@[simp] theorem State.clr_mp (s : State) (f : Fld) : (s.clr f).mp = s.mp := rfl
@[simp] theorem State.clr_key (s : State) (f : Fld) : (s.clr f).key = s.key := rfl
@[simp] theorem State.clr_fwu (s : State) (f : Fld) : (s.clr f).fwu = s.fwu := rfl
@[simp] theorem State.clr_cal (s : State) (f : Fld) : (s.clr f).cal = s.cal := rfl
@[simp] theorem State.clr_wear (s : State) (f : Fld) : (s.clr f).wear = s.wear := rfl
@[simp] theorem State.putB_pending (s : State) (f : Fld) (b : Bool) : (s.putB f b).pending = s.pending := rfl
@[simp] theorem State.putB_freeCtr (s : State) (f : Fld) (b : Bool) : (s.putB f b).freeCtr = s.freeCtr := rfl
@[simp] theorem State.putB_ram (s : State) (f : Fld) (b : Bool) : (s.putB f b).ram = s.ram := rfl
@[simp] theorem State.putB_glb (s : State) (f : Fld) (b : Bool) : (s.putB f b).glb = s.glb := rfl
@[simp] theorem State.putB_host (s : State) (f : Fld) (b : Bool) : (s.putB f b).host = s.host := rfl
@[simp] theorem State.putB_flt (s : State) (f : Fld) (b : Bool) : (s.putB f b).flt = s.flt := rfl
@[simp] theorem State.putB_esc (s : State) (f : Fld) (b : Bool) : (s.putB f b).esc = s.esc := rfl
@[simp] theorem State.putB_red (s : State) (f : Fld) (b : Bool) : (s.putB f b).red = s.red := rfl
@[simp] theorem State.putB_lgl (s : State) (f : Fld) (b : Bool) : (s.putB f b).lgl = s.lgl := rfl
@[simp] theorem State.putB_outs (s : State) (f : Fld) (b : Bool) : (s.putB f b).outs = s.outs := rfl
@[simp] theorem State.putB_lch (s : State) (f : Fld) (b : Bool) : (s.putB f b).lch = s.lch := rfl
@[simp] theorem State.putB_saf (s : State) (f : Fld) (b : Bool) : (s.putB f b).saf = s.saf := rfl
@[simp] theorem State.putB_sns (s : State) (f : Fld) (b : Bool) : (s.putB f b).sns = s.sns := rfl
@[simp] theorem State.putB_mtr (s : State) (f : Fld) (b : Bool) : (s.putB f b).mtr = s.mtr := rfl
@[simp] theorem State.putB_gov (s : State) (f : Fld) (b : Bool) : (s.putB f b).gov = s.gov := rfl
@[simp] theorem State.putB_sit (s : State) (f : Fld) (b : Bool) : (s.putB f b).sit = s.sit := rfl
@[simp] theorem State.putB_bzl (s : State) (f : Fld) (b : Bool) : (s.putB f b).bzl = s.bzl := rfl
@[simp] theorem State.putB_nfc (s : State) (f : Fld) (b : Bool) : (s.putB f b).nfc = s.nfc := rfl
@[simp] theorem State.putB_pwr (s : State) (f : Fld) (b : Bool) : (s.putB f b).pwr = s.pwr := rfl
@[simp] theorem State.putB_mp (s : State) (f : Fld) (b : Bool) : (s.putB f b).mp = s.mp := rfl
@[simp] theorem State.putB_key (s : State) (f : Fld) (b : Bool) : (s.putB f b).key = s.key := rfl
@[simp] theorem State.putB_fwu (s : State) (f : Fld) (b : Bool) : (s.putB f b).fwu = s.fwu := rfl
@[simp] theorem State.putB_cal (s : State) (f : Fld) (b : Bool) : (s.putB f b).cal = s.cal := rfl
@[simp] theorem State.putB_wear (s : State) (f : Fld) (b : Bool) : (s.putB f b).wear = s.wear := rfl
@[simp] theorem State.putBit_pending (s : State) (f : Fld) (k : Nat) (b : Bool) : (s.putBit f k b).pending = s.pending := rfl
@[simp] theorem State.putBit_freeCtr (s : State) (f : Fld) (k : Nat) (b : Bool) : (s.putBit f k b).freeCtr = s.freeCtr := rfl
@[simp] theorem State.putBit_ram (s : State) (f : Fld) (k : Nat) (b : Bool) : (s.putBit f k b).ram = s.ram := rfl
@[simp] theorem State.putBit_glb (s : State) (f : Fld) (k : Nat) (b : Bool) : (s.putBit f k b).glb = s.glb := rfl
@[simp] theorem State.putBit_host (s : State) (f : Fld) (k : Nat) (b : Bool) : (s.putBit f k b).host = s.host := rfl
@[simp] theorem State.putBit_flt (s : State) (f : Fld) (k : Nat) (b : Bool) : (s.putBit f k b).flt = s.flt := rfl
@[simp] theorem State.putBit_esc (s : State) (f : Fld) (k : Nat) (b : Bool) : (s.putBit f k b).esc = s.esc := rfl
@[simp] theorem State.putBit_red (s : State) (f : Fld) (k : Nat) (b : Bool) : (s.putBit f k b).red = s.red := rfl
@[simp] theorem State.putBit_lgl (s : State) (f : Fld) (k : Nat) (b : Bool) : (s.putBit f k b).lgl = s.lgl := rfl
@[simp] theorem State.putBit_outs (s : State) (f : Fld) (k : Nat) (b : Bool) : (s.putBit f k b).outs = s.outs := rfl
@[simp] theorem State.putBit_lch (s : State) (f : Fld) (k : Nat) (b : Bool) : (s.putBit f k b).lch = s.lch := rfl
@[simp] theorem State.putBit_saf (s : State) (f : Fld) (k : Nat) (b : Bool) : (s.putBit f k b).saf = s.saf := rfl
@[simp] theorem State.putBit_sns (s : State) (f : Fld) (k : Nat) (b : Bool) : (s.putBit f k b).sns = s.sns := rfl
@[simp] theorem State.putBit_mtr (s : State) (f : Fld) (k : Nat) (b : Bool) : (s.putBit f k b).mtr = s.mtr := rfl
@[simp] theorem State.putBit_gov (s : State) (f : Fld) (k : Nat) (b : Bool) : (s.putBit f k b).gov = s.gov := rfl
@[simp] theorem State.putBit_sit (s : State) (f : Fld) (k : Nat) (b : Bool) : (s.putBit f k b).sit = s.sit := rfl
@[simp] theorem State.putBit_bzl (s : State) (f : Fld) (k : Nat) (b : Bool) : (s.putBit f k b).bzl = s.bzl := rfl
@[simp] theorem State.putBit_nfc (s : State) (f : Fld) (k : Nat) (b : Bool) : (s.putBit f k b).nfc = s.nfc := rfl
@[simp] theorem State.putBit_pwr (s : State) (f : Fld) (k : Nat) (b : Bool) : (s.putBit f k b).pwr = s.pwr := rfl
@[simp] theorem State.putBit_mp (s : State) (f : Fld) (k : Nat) (b : Bool) : (s.putBit f k b).mp = s.mp := rfl
@[simp] theorem State.putBit_key (s : State) (f : Fld) (k : Nat) (b : Bool) : (s.putBit f k b).key = s.key := rfl
@[simp] theorem State.putBit_fwu (s : State) (f : Fld) (k : Nat) (b : Bool) : (s.putBit f k b).fwu = s.fwu := rfl
@[simp] theorem State.putBit_cal (s : State) (f : Fld) (k : Nat) (b : Bool) : (s.putBit f k b).cal = s.cal := rfl
@[simp] theorem State.putBit_wear (s : State) (f : Fld) (k : Nat) (b : Bool) : (s.putBit f k b).wear = s.wear := rfl
@[simp] theorem State.wr128_pending (s : State) (a v : Nat) : (s.wr128 a v).pending = s.pending := rfl
@[simp] theorem State.wr128_freeCtr (s : State) (a v : Nat) : (s.wr128 a v).freeCtr = s.freeCtr := rfl
@[simp] theorem State.wr128_ram (s : State) (a v : Nat) : (s.wr128 a v).ram = s.ram := rfl
@[simp] theorem State.wr128_glb (s : State) (a v : Nat) : (s.wr128 a v).glb = s.glb := rfl
@[simp] theorem State.wr128_host (s : State) (a v : Nat) : (s.wr128 a v).host = s.host := rfl
@[simp] theorem State.wr128_flt (s : State) (a v : Nat) : (s.wr128 a v).flt = s.flt := rfl
@[simp] theorem State.wr128_esc (s : State) (a v : Nat) : (s.wr128 a v).esc = s.esc := rfl
@[simp] theorem State.wr128_red (s : State) (a v : Nat) : (s.wr128 a v).red = s.red := rfl
@[simp] theorem State.wr128_lgl (s : State) (a v : Nat) : (s.wr128 a v).lgl = s.lgl := rfl
@[simp] theorem State.wr128_outs (s : State) (a v : Nat) : (s.wr128 a v).outs = s.outs := rfl
@[simp] theorem State.wr128_lch (s : State) (a v : Nat) : (s.wr128 a v).lch = s.lch := rfl
@[simp] theorem State.wr128_saf (s : State) (a v : Nat) : (s.wr128 a v).saf = s.saf := rfl
@[simp] theorem State.wr128_sns (s : State) (a v : Nat) : (s.wr128 a v).sns = s.sns := rfl
@[simp] theorem State.wr128_mtr (s : State) (a v : Nat) : (s.wr128 a v).mtr = s.mtr := rfl
@[simp] theorem State.wr128_gov (s : State) (a v : Nat) : (s.wr128 a v).gov = s.gov := rfl
@[simp] theorem State.wr128_sit (s : State) (a v : Nat) : (s.wr128 a v).sit = s.sit := rfl
@[simp] theorem State.wr128_bzl (s : State) (a v : Nat) : (s.wr128 a v).bzl = s.bzl := rfl
@[simp] theorem State.wr128_nfc (s : State) (a v : Nat) : (s.wr128 a v).nfc = s.nfc := rfl
@[simp] theorem State.wr128_pwr (s : State) (a v : Nat) : (s.wr128 a v).pwr = s.pwr := rfl
@[simp] theorem State.wr128_mp (s : State) (a v : Nat) : (s.wr128 a v).mp = s.mp := rfl
@[simp] theorem State.wr128_key (s : State) (a v : Nat) : (s.wr128 a v).key = s.key := rfl
@[simp] theorem State.wr128_fwu (s : State) (a v : Nat) : (s.wr128 a v).fwu = s.fwu := rfl
@[simp] theorem State.wr128_cal (s : State) (a v : Nat) : (s.wr128 a v).cal = s.cal := rfl
@[simp] theorem State.wr128_wear (s : State) (a v : Nat) : (s.wr128 a v).wear = s.wear := rfl
@[simp] theorem State.updEsc_pending (s : State) (f : EscSt → EscSt) : (s.updEsc f).pending = s.pending := rfl
@[simp] theorem State.updEsc_freeCtr (s : State) (f : EscSt → EscSt) : (s.updEsc f).freeCtr = s.freeCtr := rfl
@[simp] theorem State.updEsc_regs (s : State) (f : EscSt → EscSt) : (s.updEsc f).regs = s.regs := rfl
@[simp] theorem State.updEsc_ram (s : State) (f : EscSt → EscSt) : (s.updEsc f).ram = s.ram := rfl
@[simp] theorem State.updEsc_glb (s : State) (f : EscSt → EscSt) : (s.updEsc f).glb = s.glb := rfl
@[simp] theorem State.updEsc_host (s : State) (f : EscSt → EscSt) : (s.updEsc f).host = s.host := rfl
@[simp] theorem State.updEsc_flt (s : State) (f : EscSt → EscSt) : (s.updEsc f).flt = s.flt := rfl
@[simp] theorem State.updEsc_red (s : State) (f : EscSt → EscSt) : (s.updEsc f).red = s.red := rfl
@[simp] theorem State.updEsc_lgl (s : State) (f : EscSt → EscSt) : (s.updEsc f).lgl = s.lgl := rfl
@[simp] theorem State.updEsc_outs (s : State) (f : EscSt → EscSt) : (s.updEsc f).outs = s.outs := rfl
@[simp] theorem State.updEsc_lch (s : State) (f : EscSt → EscSt) : (s.updEsc f).lch = s.lch := rfl
@[simp] theorem State.updEsc_saf (s : State) (f : EscSt → EscSt) : (s.updEsc f).saf = s.saf := rfl
@[simp] theorem State.updEsc_sns (s : State) (f : EscSt → EscSt) : (s.updEsc f).sns = s.sns := rfl
@[simp] theorem State.updEsc_mtr (s : State) (f : EscSt → EscSt) : (s.updEsc f).mtr = s.mtr := rfl
@[simp] theorem State.updEsc_gov (s : State) (f : EscSt → EscSt) : (s.updEsc f).gov = s.gov := rfl
@[simp] theorem State.updEsc_sit (s : State) (f : EscSt → EscSt) : (s.updEsc f).sit = s.sit := rfl
@[simp] theorem State.updEsc_bzl (s : State) (f : EscSt → EscSt) : (s.updEsc f).bzl = s.bzl := rfl
@[simp] theorem State.updEsc_nfc (s : State) (f : EscSt → EscSt) : (s.updEsc f).nfc = s.nfc := rfl
@[simp] theorem State.updEsc_pwr (s : State) (f : EscSt → EscSt) : (s.updEsc f).pwr = s.pwr := rfl
@[simp] theorem State.updEsc_mp (s : State) (f : EscSt → EscSt) : (s.updEsc f).mp = s.mp := rfl
@[simp] theorem State.updEsc_key (s : State) (f : EscSt → EscSt) : (s.updEsc f).key = s.key := rfl
@[simp] theorem State.updEsc_fwu (s : State) (f : EscSt → EscSt) : (s.updEsc f).fwu = s.fwu := rfl
@[simp] theorem State.updEsc_cal (s : State) (f : EscSt → EscSt) : (s.updEsc f).cal = s.cal := rfl
@[simp] theorem State.updEsc_wear (s : State) (f : EscSt → EscSt) : (s.updEsc f).wear = s.wear := rfl
@[simp] theorem State.updEsc_esc (s : State) (f : EscSt → EscSt) : (s.updEsc f).esc = f s.esc := rfl
@[simp] theorem State.updRed_pending (s : State) (f : RedSt → RedSt) : (s.updRed f).pending = s.pending := rfl
@[simp] theorem State.updRed_freeCtr (s : State) (f : RedSt → RedSt) : (s.updRed f).freeCtr = s.freeCtr := rfl
@[simp] theorem State.updRed_regs (s : State) (f : RedSt → RedSt) : (s.updRed f).regs = s.regs := rfl
@[simp] theorem State.updRed_ram (s : State) (f : RedSt → RedSt) : (s.updRed f).ram = s.ram := rfl
@[simp] theorem State.updRed_glb (s : State) (f : RedSt → RedSt) : (s.updRed f).glb = s.glb := rfl
@[simp] theorem State.updRed_host (s : State) (f : RedSt → RedSt) : (s.updRed f).host = s.host := rfl
@[simp] theorem State.updRed_flt (s : State) (f : RedSt → RedSt) : (s.updRed f).flt = s.flt := rfl
@[simp] theorem State.updRed_esc (s : State) (f : RedSt → RedSt) : (s.updRed f).esc = s.esc := rfl
@[simp] theorem State.updRed_lgl (s : State) (f : RedSt → RedSt) : (s.updRed f).lgl = s.lgl := rfl
@[simp] theorem State.updRed_outs (s : State) (f : RedSt → RedSt) : (s.updRed f).outs = s.outs := rfl
@[simp] theorem State.updRed_lch (s : State) (f : RedSt → RedSt) : (s.updRed f).lch = s.lch := rfl
@[simp] theorem State.updRed_saf (s : State) (f : RedSt → RedSt) : (s.updRed f).saf = s.saf := rfl
@[simp] theorem State.updRed_sns (s : State) (f : RedSt → RedSt) : (s.updRed f).sns = s.sns := rfl
@[simp] theorem State.updRed_mtr (s : State) (f : RedSt → RedSt) : (s.updRed f).mtr = s.mtr := rfl
@[simp] theorem State.updRed_gov (s : State) (f : RedSt → RedSt) : (s.updRed f).gov = s.gov := rfl
@[simp] theorem State.updRed_sit (s : State) (f : RedSt → RedSt) : (s.updRed f).sit = s.sit := rfl
@[simp] theorem State.updRed_bzl (s : State) (f : RedSt → RedSt) : (s.updRed f).bzl = s.bzl := rfl
@[simp] theorem State.updRed_nfc (s : State) (f : RedSt → RedSt) : (s.updRed f).nfc = s.nfc := rfl
@[simp] theorem State.updRed_pwr (s : State) (f : RedSt → RedSt) : (s.updRed f).pwr = s.pwr := rfl
@[simp] theorem State.updRed_mp (s : State) (f : RedSt → RedSt) : (s.updRed f).mp = s.mp := rfl
@[simp] theorem State.updRed_key (s : State) (f : RedSt → RedSt) : (s.updRed f).key = s.key := rfl
@[simp] theorem State.updRed_fwu (s : State) (f : RedSt → RedSt) : (s.updRed f).fwu = s.fwu := rfl
@[simp] theorem State.updRed_cal (s : State) (f : RedSt → RedSt) : (s.updRed f).cal = s.cal := rfl
@[simp] theorem State.updRed_wear (s : State) (f : RedSt → RedSt) : (s.updRed f).wear = s.wear := rfl
@[simp] theorem State.updRed_red (s : State) (f : RedSt → RedSt) : (s.updRed f).red = f s.red := rfl
@[simp] theorem State.updLgl_pending (s : State) (f : LglSt → LglSt) : (s.updLgl f).pending = s.pending := rfl
@[simp] theorem State.updLgl_freeCtr (s : State) (f : LglSt → LglSt) : (s.updLgl f).freeCtr = s.freeCtr := rfl
@[simp] theorem State.updLgl_regs (s : State) (f : LglSt → LglSt) : (s.updLgl f).regs = s.regs := rfl
@[simp] theorem State.updLgl_ram (s : State) (f : LglSt → LglSt) : (s.updLgl f).ram = s.ram := rfl
@[simp] theorem State.updLgl_glb (s : State) (f : LglSt → LglSt) : (s.updLgl f).glb = s.glb := rfl
@[simp] theorem State.updLgl_host (s : State) (f : LglSt → LglSt) : (s.updLgl f).host = s.host := rfl
@[simp] theorem State.updLgl_flt (s : State) (f : LglSt → LglSt) : (s.updLgl f).flt = s.flt := rfl
@[simp] theorem State.updLgl_esc (s : State) (f : LglSt → LglSt) : (s.updLgl f).esc = s.esc := rfl
@[simp] theorem State.updLgl_red (s : State) (f : LglSt → LglSt) : (s.updLgl f).red = s.red := rfl
@[simp] theorem State.updLgl_outs (s : State) (f : LglSt → LglSt) : (s.updLgl f).outs = s.outs := rfl
@[simp] theorem State.updLgl_lch (s : State) (f : LglSt → LglSt) : (s.updLgl f).lch = s.lch := rfl
@[simp] theorem State.updLgl_saf (s : State) (f : LglSt → LglSt) : (s.updLgl f).saf = s.saf := rfl
@[simp] theorem State.updLgl_sns (s : State) (f : LglSt → LglSt) : (s.updLgl f).sns = s.sns := rfl
@[simp] theorem State.updLgl_mtr (s : State) (f : LglSt → LglSt) : (s.updLgl f).mtr = s.mtr := rfl
@[simp] theorem State.updLgl_gov (s : State) (f : LglSt → LglSt) : (s.updLgl f).gov = s.gov := rfl
@[simp] theorem State.updLgl_sit (s : State) (f : LglSt → LglSt) : (s.updLgl f).sit = s.sit := rfl
@[simp] theorem State.updLgl_bzl (s : State) (f : LglSt → LglSt) : (s.updLgl f).bzl = s.bzl := rfl
@[simp] theorem State.updLgl_nfc (s : State) (f : LglSt → LglSt) : (s.updLgl f).nfc = s.nfc := rfl
@[simp] theorem State.updLgl_pwr (s : State) (f : LglSt → LglSt) : (s.updLgl f).pwr = s.pwr := rfl
@[simp] theorem State.updLgl_mp (s : State) (f : LglSt → LglSt) : (s.updLgl f).mp = s.mp := rfl
@[simp] theorem State.updLgl_key (s : State) (f : LglSt → LglSt) : (s.updLgl f).key = s.key := rfl
@[simp] theorem State.updLgl_fwu (s : State) (f : LglSt → LglSt) : (s.updLgl f).fwu = s.fwu := rfl
@[simp] theorem State.updLgl_cal (s : State) (f : LglSt → LglSt) : (s.updLgl f).cal = s.cal := rfl
@[simp] theorem State.updLgl_wear (s : State) (f : LglSt → LglSt) : (s.updLgl f).wear = s.wear := rfl
@[simp] theorem State.updLgl_lgl (s : State) (f : LglSt → LglSt) : (s.updLgl f).lgl = f s.lgl := rfl
@[simp] theorem State.updO_pending (s : State) (n : Nat) (f : OutSt → OutSt) : (s.updO n f).pending = s.pending := rfl
@[simp] theorem State.updO_freeCtr (s : State) (n : Nat) (f : OutSt → OutSt) : (s.updO n f).freeCtr = s.freeCtr := rfl
@[simp] theorem State.updO_regs (s : State) (n : Nat) (f : OutSt → OutSt) : (s.updO n f).regs = s.regs := rfl
@[simp] theorem State.updO_ram (s : State) (n : Nat) (f : OutSt → OutSt) : (s.updO n f).ram = s.ram := rfl
@[simp] theorem State.updO_glb (s : State) (n : Nat) (f : OutSt → OutSt) : (s.updO n f).glb = s.glb := rfl
@[simp] theorem State.updO_host (s : State) (n : Nat) (f : OutSt → OutSt) : (s.updO n f).host = s.host := rfl
@[simp] theorem State.updO_flt (s : State) (n : Nat) (f : OutSt → OutSt) : (s.updO n f).flt = s.flt := rfl
@[simp] theorem State.updO_esc (s : State) (n : Nat) (f : OutSt → OutSt) : (s.updO n f).esc = s.esc := rfl
@[simp] theorem State.updO_red (s : State) (n : Nat) (f : OutSt → OutSt) : (s.updO n f).red = s.red := rfl
@[simp] theorem State.updO_lgl (s : State) (n : Nat) (f : OutSt → OutSt) : (s.updO n f).lgl = s.lgl := rfl
@[simp] theorem State.updO_lch (s : State) (n : Nat) (f : OutSt → OutSt) : (s.updO n f).lch = s.lch := rfl
@[simp] theorem State.updO_saf (s : State) (n : Nat) (f : OutSt → OutSt) : (s.updO n f).saf = s.saf := rfl
@[simp] theorem State.updO_sns (s : State) (n : Nat) (f : OutSt → OutSt) : (s.updO n f).sns = s.sns := rfl
@[simp] theorem State.updO_mtr (s : State) (n : Nat) (f : OutSt → OutSt) : (s.updO n f).mtr = s.mtr := rfl
@[simp] theorem State.updO_gov (s : State) (n : Nat) (f : OutSt → OutSt) : (s.updO n f).gov = s.gov := rfl
@[simp] theorem State.updO_sit (s : State) (n : Nat) (f : OutSt → OutSt) : (s.updO n f).sit = s.sit := rfl
@[simp] theorem State.updO_bzl (s : State) (n : Nat) (f : OutSt → OutSt) : (s.updO n f).bzl = s.bzl := rfl
@[simp] theorem State.updO_nfc (s : State) (n : Nat) (f : OutSt → OutSt) : (s.updO n f).nfc = s.nfc := rfl
@[simp] theorem State.updO_pwr (s : State) (n : Nat) (f : OutSt → OutSt) : (s.updO n f).pwr = s.pwr := rfl
@[simp] theorem State.updO_mp (s : State) (n : Nat) (f : OutSt → OutSt) : (s.updO n f).mp = s.mp := rfl
@[simp] theorem State.updO_key (s : State) (n : Nat) (f : OutSt → OutSt) : (s.updO n f).key = s.key := rfl
@[simp] theorem State.updO_fwu (s : State) (n : Nat) (f : OutSt → OutSt) : (s.updO n f).fwu = s.fwu := rfl
@[simp] theorem State.updO_cal (s : State) (n : Nat) (f : OutSt → OutSt) : (s.updO n f).cal = s.cal := rfl
@[simp] theorem State.updO_wear (s : State) (n : Nat) (f : OutSt → OutSt) : (s.updO n f).wear = s.wear := rfl
@[simp] theorem State.updS_pending (s : State) (k : Nat) (f : SesSt → SesSt) : (s.updS k f).pending = s.pending := rfl
@[simp] theorem State.updS_freeCtr (s : State) (k : Nat) (f : SesSt → SesSt) : (s.updS k f).freeCtr = s.freeCtr := rfl
@[simp] theorem State.updS_regs (s : State) (k : Nat) (f : SesSt → SesSt) : (s.updS k f).regs = s.regs := rfl
@[simp] theorem State.updS_ram (s : State) (k : Nat) (f : SesSt → SesSt) : (s.updS k f).ram = s.ram := rfl
@[simp] theorem State.updS_glb (s : State) (k : Nat) (f : SesSt → SesSt) : (s.updS k f).glb = s.glb := rfl
@[simp] theorem State.updS_host (s : State) (k : Nat) (f : SesSt → SesSt) : (s.updS k f).host = s.host := rfl
@[simp] theorem State.updS_flt (s : State) (k : Nat) (f : SesSt → SesSt) : (s.updS k f).flt = s.flt := rfl
@[simp] theorem State.updS_esc (s : State) (k : Nat) (f : SesSt → SesSt) : (s.updS k f).esc = s.esc := rfl
@[simp] theorem State.updS_red (s : State) (k : Nat) (f : SesSt → SesSt) : (s.updS k f).red = s.red := rfl
@[simp] theorem State.updS_lgl (s : State) (k : Nat) (f : SesSt → SesSt) : (s.updS k f).lgl = s.lgl := rfl
@[simp] theorem State.updS_lch (s : State) (k : Nat) (f : SesSt → SesSt) : (s.updS k f).lch = s.lch := rfl
@[simp] theorem State.updS_saf (s : State) (k : Nat) (f : SesSt → SesSt) : (s.updS k f).saf = s.saf := rfl
@[simp] theorem State.updS_sns (s : State) (k : Nat) (f : SesSt → SesSt) : (s.updS k f).sns = s.sns := rfl
@[simp] theorem State.updS_mtr (s : State) (k : Nat) (f : SesSt → SesSt) : (s.updS k f).mtr = s.mtr := rfl
@[simp] theorem State.updS_gov (s : State) (k : Nat) (f : SesSt → SesSt) : (s.updS k f).gov = s.gov := rfl
@[simp] theorem State.updS_sit (s : State) (k : Nat) (f : SesSt → SesSt) : (s.updS k f).sit = s.sit := rfl
@[simp] theorem State.updS_bzl (s : State) (k : Nat) (f : SesSt → SesSt) : (s.updS k f).bzl = s.bzl := rfl
@[simp] theorem State.updS_nfc (s : State) (k : Nat) (f : SesSt → SesSt) : (s.updS k f).nfc = s.nfc := rfl
@[simp] theorem State.updS_pwr (s : State) (k : Nat) (f : SesSt → SesSt) : (s.updS k f).pwr = s.pwr := rfl
@[simp] theorem State.updS_mp (s : State) (k : Nat) (f : SesSt → SesSt) : (s.updS k f).mp = s.mp := rfl
@[simp] theorem State.updS_key (s : State) (k : Nat) (f : SesSt → SesSt) : (s.updS k f).key = s.key := rfl
@[simp] theorem State.updS_fwu (s : State) (k : Nat) (f : SesSt → SesSt) : (s.updS k f).fwu = s.fwu := rfl
@[simp] theorem State.updS_cal (s : State) (k : Nat) (f : SesSt → SesSt) : (s.updS k f).cal = s.cal := rfl
@[simp] theorem State.updS_wear (s : State) (k : Nat) (f : SesSt → SesSt) : (s.updS k f).wear = s.wear := rfl
@[simp] theorem State.updLc_pending (s : State) (k : Nat) (f : LcSt → LcSt) : (s.updLc k f).pending = s.pending := rfl
@[simp] theorem State.updLc_freeCtr (s : State) (k : Nat) (f : LcSt → LcSt) : (s.updLc k f).freeCtr = s.freeCtr := rfl
@[simp] theorem State.updLc_regs (s : State) (k : Nat) (f : LcSt → LcSt) : (s.updLc k f).regs = s.regs := rfl
@[simp] theorem State.updLc_ram (s : State) (k : Nat) (f : LcSt → LcSt) : (s.updLc k f).ram = s.ram := rfl
@[simp] theorem State.updLc_glb (s : State) (k : Nat) (f : LcSt → LcSt) : (s.updLc k f).glb = s.glb := rfl
@[simp] theorem State.updLc_host (s : State) (k : Nat) (f : LcSt → LcSt) : (s.updLc k f).host = s.host := rfl
@[simp] theorem State.updLc_flt (s : State) (k : Nat) (f : LcSt → LcSt) : (s.updLc k f).flt = s.flt := rfl
@[simp] theorem State.updLc_esc (s : State) (k : Nat) (f : LcSt → LcSt) : (s.updLc k f).esc = s.esc := rfl
@[simp] theorem State.updLc_red (s : State) (k : Nat) (f : LcSt → LcSt) : (s.updLc k f).red = s.red := rfl
@[simp] theorem State.updLc_lgl (s : State) (k : Nat) (f : LcSt → LcSt) : (s.updLc k f).lgl = s.lgl := rfl
@[simp] theorem State.updLc_outs (s : State) (k : Nat) (f : LcSt → LcSt) : (s.updLc k f).outs = s.outs := rfl
@[simp] theorem State.updLc_saf (s : State) (k : Nat) (f : LcSt → LcSt) : (s.updLc k f).saf = s.saf := rfl
@[simp] theorem State.updLc_sns (s : State) (k : Nat) (f : LcSt → LcSt) : (s.updLc k f).sns = s.sns := rfl
@[simp] theorem State.updLc_mtr (s : State) (k : Nat) (f : LcSt → LcSt) : (s.updLc k f).mtr = s.mtr := rfl
@[simp] theorem State.updLc_gov (s : State) (k : Nat) (f : LcSt → LcSt) : (s.updLc k f).gov = s.gov := rfl
@[simp] theorem State.updLc_sit (s : State) (k : Nat) (f : LcSt → LcSt) : (s.updLc k f).sit = s.sit := rfl
@[simp] theorem State.updLc_bzl (s : State) (k : Nat) (f : LcSt → LcSt) : (s.updLc k f).bzl = s.bzl := rfl
@[simp] theorem State.updLc_nfc (s : State) (k : Nat) (f : LcSt → LcSt) : (s.updLc k f).nfc = s.nfc := rfl
@[simp] theorem State.updLc_pwr (s : State) (k : Nat) (f : LcSt → LcSt) : (s.updLc k f).pwr = s.pwr := rfl
@[simp] theorem State.updLc_mp (s : State) (k : Nat) (f : LcSt → LcSt) : (s.updLc k f).mp = s.mp := rfl
@[simp] theorem State.updLc_key (s : State) (k : Nat) (f : LcSt → LcSt) : (s.updLc k f).key = s.key := rfl
@[simp] theorem State.updLc_fwu (s : State) (k : Nat) (f : LcSt → LcSt) : (s.updLc k f).fwu = s.fwu := rfl
@[simp] theorem State.updLc_cal (s : State) (k : Nat) (f : LcSt → LcSt) : (s.updLc k f).cal = s.cal := rfl
@[simp] theorem State.updLc_wear (s : State) (k : Nat) (f : LcSt → LcSt) : (s.updLc k f).wear = s.wear := rfl
@[simp] theorem State.updRun_pending (s : State) (j : Nat) (f : RunSt → RunSt) : (s.updRun j f).pending = s.pending := rfl
@[simp] theorem State.updRun_freeCtr (s : State) (j : Nat) (f : RunSt → RunSt) : (s.updRun j f).freeCtr = s.freeCtr := rfl
@[simp] theorem State.updRun_regs (s : State) (j : Nat) (f : RunSt → RunSt) : (s.updRun j f).regs = s.regs := rfl
@[simp] theorem State.updRun_ram (s : State) (j : Nat) (f : RunSt → RunSt) : (s.updRun j f).ram = s.ram := rfl
@[simp] theorem State.updRun_glb (s : State) (j : Nat) (f : RunSt → RunSt) : (s.updRun j f).glb = s.glb := rfl
@[simp] theorem State.updRun_host (s : State) (j : Nat) (f : RunSt → RunSt) : (s.updRun j f).host = s.host := rfl
@[simp] theorem State.updRun_flt (s : State) (j : Nat) (f : RunSt → RunSt) : (s.updRun j f).flt = s.flt := rfl
@[simp] theorem State.updRun_esc (s : State) (j : Nat) (f : RunSt → RunSt) : (s.updRun j f).esc = s.esc := rfl
@[simp] theorem State.updRun_red (s : State) (j : Nat) (f : RunSt → RunSt) : (s.updRun j f).red = s.red := rfl
@[simp] theorem State.updRun_lgl (s : State) (j : Nat) (f : RunSt → RunSt) : (s.updRun j f).lgl = s.lgl := rfl
@[simp] theorem State.updRun_outs (s : State) (j : Nat) (f : RunSt → RunSt) : (s.updRun j f).outs = s.outs := rfl
@[simp] theorem State.updRun_saf (s : State) (j : Nat) (f : RunSt → RunSt) : (s.updRun j f).saf = s.saf := rfl
@[simp] theorem State.updRun_sns (s : State) (j : Nat) (f : RunSt → RunSt) : (s.updRun j f).sns = s.sns := rfl
@[simp] theorem State.updRun_mtr (s : State) (j : Nat) (f : RunSt → RunSt) : (s.updRun j f).mtr = s.mtr := rfl
@[simp] theorem State.updRun_gov (s : State) (j : Nat) (f : RunSt → RunSt) : (s.updRun j f).gov = s.gov := rfl
@[simp] theorem State.updRun_sit (s : State) (j : Nat) (f : RunSt → RunSt) : (s.updRun j f).sit = s.sit := rfl
@[simp] theorem State.updRun_bzl (s : State) (j : Nat) (f : RunSt → RunSt) : (s.updRun j f).bzl = s.bzl := rfl
@[simp] theorem State.updRun_nfc (s : State) (j : Nat) (f : RunSt → RunSt) : (s.updRun j f).nfc = s.nfc := rfl
@[simp] theorem State.updRun_pwr (s : State) (j : Nat) (f : RunSt → RunSt) : (s.updRun j f).pwr = s.pwr := rfl
@[simp] theorem State.updRun_mp (s : State) (j : Nat) (f : RunSt → RunSt) : (s.updRun j f).mp = s.mp := rfl
@[simp] theorem State.updRun_key (s : State) (j : Nat) (f : RunSt → RunSt) : (s.updRun j f).key = s.key := rfl
@[simp] theorem State.updRun_fwu (s : State) (j : Nat) (f : RunSt → RunSt) : (s.updRun j f).fwu = s.fwu := rfl
@[simp] theorem State.updRun_cal (s : State) (j : Nat) (f : RunSt → RunSt) : (s.updRun j f).cal = s.cal := rfl
@[simp] theorem State.updRun_wear (s : State) (j : Nat) (f : RunSt → RunSt) : (s.updRun j f).wear = s.wear := rfl
@[simp] theorem State.updFn_pending (s : State) (k : Nat) (f : FnSt → FnSt) : (s.updFn k f).pending = s.pending := rfl
@[simp] theorem State.updFn_freeCtr (s : State) (k : Nat) (f : FnSt → FnSt) : (s.updFn k f).freeCtr = s.freeCtr := rfl
@[simp] theorem State.updFn_regs (s : State) (k : Nat) (f : FnSt → FnSt) : (s.updFn k f).regs = s.regs := rfl
@[simp] theorem State.updFn_ram (s : State) (k : Nat) (f : FnSt → FnSt) : (s.updFn k f).ram = s.ram := rfl
@[simp] theorem State.updFn_glb (s : State) (k : Nat) (f : FnSt → FnSt) : (s.updFn k f).glb = s.glb := rfl
@[simp] theorem State.updFn_host (s : State) (k : Nat) (f : FnSt → FnSt) : (s.updFn k f).host = s.host := rfl
@[simp] theorem State.updFn_flt (s : State) (k : Nat) (f : FnSt → FnSt) : (s.updFn k f).flt = s.flt := rfl
@[simp] theorem State.updFn_esc (s : State) (k : Nat) (f : FnSt → FnSt) : (s.updFn k f).esc = s.esc := rfl
@[simp] theorem State.updFn_red (s : State) (k : Nat) (f : FnSt → FnSt) : (s.updFn k f).red = s.red := rfl
@[simp] theorem State.updFn_lgl (s : State) (k : Nat) (f : FnSt → FnSt) : (s.updFn k f).lgl = s.lgl := rfl
@[simp] theorem State.updFn_outs (s : State) (k : Nat) (f : FnSt → FnSt) : (s.updFn k f).outs = s.outs := rfl
@[simp] theorem State.updFn_lch (s : State) (k : Nat) (f : FnSt → FnSt) : (s.updFn k f).lch = s.lch := rfl
@[simp] theorem State.updFn_sns (s : State) (k : Nat) (f : FnSt → FnSt) : (s.updFn k f).sns = s.sns := rfl
@[simp] theorem State.updFn_mtr (s : State) (k : Nat) (f : FnSt → FnSt) : (s.updFn k f).mtr = s.mtr := rfl
@[simp] theorem State.updFn_gov (s : State) (k : Nat) (f : FnSt → FnSt) : (s.updFn k f).gov = s.gov := rfl
@[simp] theorem State.updFn_sit (s : State) (k : Nat) (f : FnSt → FnSt) : (s.updFn k f).sit = s.sit := rfl
@[simp] theorem State.updFn_bzl (s : State) (k : Nat) (f : FnSt → FnSt) : (s.updFn k f).bzl = s.bzl := rfl
@[simp] theorem State.updFn_nfc (s : State) (k : Nat) (f : FnSt → FnSt) : (s.updFn k f).nfc = s.nfc := rfl
@[simp] theorem State.updFn_pwr (s : State) (k : Nat) (f : FnSt → FnSt) : (s.updFn k f).pwr = s.pwr := rfl
@[simp] theorem State.updFn_mp (s : State) (k : Nat) (f : FnSt → FnSt) : (s.updFn k f).mp = s.mp := rfl
@[simp] theorem State.updFn_key (s : State) (k : Nat) (f : FnSt → FnSt) : (s.updFn k f).key = s.key := rfl
@[simp] theorem State.updFn_fwu (s : State) (k : Nat) (f : FnSt → FnSt) : (s.updFn k f).fwu = s.fwu := rfl
@[simp] theorem State.updFn_cal (s : State) (k : Nat) (f : FnSt → FnSt) : (s.updFn k f).cal = s.cal := rfl
@[simp] theorem State.updFn_wear (s : State) (k : Nat) (f : FnSt → FnSt) : (s.updFn k f).wear = s.wear := rfl
@[simp] theorem State.updSns_pending (s : State) (f : SnsSt → SnsSt) : (s.updSns f).pending = s.pending := rfl
@[simp] theorem State.updSns_freeCtr (s : State) (f : SnsSt → SnsSt) : (s.updSns f).freeCtr = s.freeCtr := rfl
@[simp] theorem State.updSns_regs (s : State) (f : SnsSt → SnsSt) : (s.updSns f).regs = s.regs := rfl
@[simp] theorem State.updSns_ram (s : State) (f : SnsSt → SnsSt) : (s.updSns f).ram = s.ram := rfl
@[simp] theorem State.updSns_glb (s : State) (f : SnsSt → SnsSt) : (s.updSns f).glb = s.glb := rfl
@[simp] theorem State.updSns_host (s : State) (f : SnsSt → SnsSt) : (s.updSns f).host = s.host := rfl
@[simp] theorem State.updSns_flt (s : State) (f : SnsSt → SnsSt) : (s.updSns f).flt = s.flt := rfl
@[simp] theorem State.updSns_esc (s : State) (f : SnsSt → SnsSt) : (s.updSns f).esc = s.esc := rfl
@[simp] theorem State.updSns_red (s : State) (f : SnsSt → SnsSt) : (s.updSns f).red = s.red := rfl
@[simp] theorem State.updSns_lgl (s : State) (f : SnsSt → SnsSt) : (s.updSns f).lgl = s.lgl := rfl
@[simp] theorem State.updSns_outs (s : State) (f : SnsSt → SnsSt) : (s.updSns f).outs = s.outs := rfl
@[simp] theorem State.updSns_lch (s : State) (f : SnsSt → SnsSt) : (s.updSns f).lch = s.lch := rfl
@[simp] theorem State.updSns_saf (s : State) (f : SnsSt → SnsSt) : (s.updSns f).saf = s.saf := rfl
@[simp] theorem State.updSns_mtr (s : State) (f : SnsSt → SnsSt) : (s.updSns f).mtr = s.mtr := rfl
@[simp] theorem State.updSns_gov (s : State) (f : SnsSt → SnsSt) : (s.updSns f).gov = s.gov := rfl
@[simp] theorem State.updSns_sit (s : State) (f : SnsSt → SnsSt) : (s.updSns f).sit = s.sit := rfl
@[simp] theorem State.updSns_bzl (s : State) (f : SnsSt → SnsSt) : (s.updSns f).bzl = s.bzl := rfl
@[simp] theorem State.updSns_nfc (s : State) (f : SnsSt → SnsSt) : (s.updSns f).nfc = s.nfc := rfl
@[simp] theorem State.updSns_pwr (s : State) (f : SnsSt → SnsSt) : (s.updSns f).pwr = s.pwr := rfl
@[simp] theorem State.updSns_mp (s : State) (f : SnsSt → SnsSt) : (s.updSns f).mp = s.mp := rfl
@[simp] theorem State.updSns_key (s : State) (f : SnsSt → SnsSt) : (s.updSns f).key = s.key := rfl
@[simp] theorem State.updSns_fwu (s : State) (f : SnsSt → SnsSt) : (s.updSns f).fwu = s.fwu := rfl
@[simp] theorem State.updSns_cal (s : State) (f : SnsSt → SnsSt) : (s.updSns f).cal = s.cal := rfl
@[simp] theorem State.updSns_wear (s : State) (f : SnsSt → SnsSt) : (s.updSns f).wear = s.wear := rfl
@[simp] theorem State.updSns_sns (s : State) (f : SnsSt → SnsSt) : (s.updSns f).sns = f s.sns := rfl
@[simp] theorem State.updMtr_pending (s : State) (f : MtrSt → MtrSt) : (s.updMtr f).pending = s.pending := rfl
@[simp] theorem State.updMtr_freeCtr (s : State) (f : MtrSt → MtrSt) : (s.updMtr f).freeCtr = s.freeCtr := rfl
@[simp] theorem State.updMtr_regs (s : State) (f : MtrSt → MtrSt) : (s.updMtr f).regs = s.regs := rfl
@[simp] theorem State.updMtr_ram (s : State) (f : MtrSt → MtrSt) : (s.updMtr f).ram = s.ram := rfl
@[simp] theorem State.updMtr_glb (s : State) (f : MtrSt → MtrSt) : (s.updMtr f).glb = s.glb := rfl
@[simp] theorem State.updMtr_host (s : State) (f : MtrSt → MtrSt) : (s.updMtr f).host = s.host := rfl
@[simp] theorem State.updMtr_flt (s : State) (f : MtrSt → MtrSt) : (s.updMtr f).flt = s.flt := rfl
@[simp] theorem State.updMtr_esc (s : State) (f : MtrSt → MtrSt) : (s.updMtr f).esc = s.esc := rfl
@[simp] theorem State.updMtr_red (s : State) (f : MtrSt → MtrSt) : (s.updMtr f).red = s.red := rfl
@[simp] theorem State.updMtr_lgl (s : State) (f : MtrSt → MtrSt) : (s.updMtr f).lgl = s.lgl := rfl
@[simp] theorem State.updMtr_outs (s : State) (f : MtrSt → MtrSt) : (s.updMtr f).outs = s.outs := rfl
@[simp] theorem State.updMtr_lch (s : State) (f : MtrSt → MtrSt) : (s.updMtr f).lch = s.lch := rfl
@[simp] theorem State.updMtr_saf (s : State) (f : MtrSt → MtrSt) : (s.updMtr f).saf = s.saf := rfl
@[simp] theorem State.updMtr_sns (s : State) (f : MtrSt → MtrSt) : (s.updMtr f).sns = s.sns := rfl
@[simp] theorem State.updMtr_gov (s : State) (f : MtrSt → MtrSt) : (s.updMtr f).gov = s.gov := rfl
@[simp] theorem State.updMtr_sit (s : State) (f : MtrSt → MtrSt) : (s.updMtr f).sit = s.sit := rfl
@[simp] theorem State.updMtr_bzl (s : State) (f : MtrSt → MtrSt) : (s.updMtr f).bzl = s.bzl := rfl
@[simp] theorem State.updMtr_nfc (s : State) (f : MtrSt → MtrSt) : (s.updMtr f).nfc = s.nfc := rfl
@[simp] theorem State.updMtr_pwr (s : State) (f : MtrSt → MtrSt) : (s.updMtr f).pwr = s.pwr := rfl
@[simp] theorem State.updMtr_mp (s : State) (f : MtrSt → MtrSt) : (s.updMtr f).mp = s.mp := rfl
@[simp] theorem State.updMtr_key (s : State) (f : MtrSt → MtrSt) : (s.updMtr f).key = s.key := rfl
@[simp] theorem State.updMtr_fwu (s : State) (f : MtrSt → MtrSt) : (s.updMtr f).fwu = s.fwu := rfl
@[simp] theorem State.updMtr_cal (s : State) (f : MtrSt → MtrSt) : (s.updMtr f).cal = s.cal := rfl
@[simp] theorem State.updMtr_wear (s : State) (f : MtrSt → MtrSt) : (s.updMtr f).wear = s.wear := rfl
@[simp] theorem State.updMtr_mtr (s : State) (f : MtrSt → MtrSt) : (s.updMtr f).mtr = f s.mtr := rfl
@[simp] theorem State.updGov_pending (s : State) (f : GovSt → GovSt) : (s.updGov f).pending = s.pending := rfl
@[simp] theorem State.updGov_freeCtr (s : State) (f : GovSt → GovSt) : (s.updGov f).freeCtr = s.freeCtr := rfl
@[simp] theorem State.updGov_regs (s : State) (f : GovSt → GovSt) : (s.updGov f).regs = s.regs := rfl
@[simp] theorem State.updGov_ram (s : State) (f : GovSt → GovSt) : (s.updGov f).ram = s.ram := rfl
@[simp] theorem State.updGov_glb (s : State) (f : GovSt → GovSt) : (s.updGov f).glb = s.glb := rfl
@[simp] theorem State.updGov_host (s : State) (f : GovSt → GovSt) : (s.updGov f).host = s.host := rfl
@[simp] theorem State.updGov_flt (s : State) (f : GovSt → GovSt) : (s.updGov f).flt = s.flt := rfl
@[simp] theorem State.updGov_esc (s : State) (f : GovSt → GovSt) : (s.updGov f).esc = s.esc := rfl
@[simp] theorem State.updGov_red (s : State) (f : GovSt → GovSt) : (s.updGov f).red = s.red := rfl
@[simp] theorem State.updGov_lgl (s : State) (f : GovSt → GovSt) : (s.updGov f).lgl = s.lgl := rfl
@[simp] theorem State.updGov_outs (s : State) (f : GovSt → GovSt) : (s.updGov f).outs = s.outs := rfl
@[simp] theorem State.updGov_lch (s : State) (f : GovSt → GovSt) : (s.updGov f).lch = s.lch := rfl
@[simp] theorem State.updGov_saf (s : State) (f : GovSt → GovSt) : (s.updGov f).saf = s.saf := rfl
@[simp] theorem State.updGov_sns (s : State) (f : GovSt → GovSt) : (s.updGov f).sns = s.sns := rfl
@[simp] theorem State.updGov_mtr (s : State) (f : GovSt → GovSt) : (s.updGov f).mtr = s.mtr := rfl
@[simp] theorem State.updGov_sit (s : State) (f : GovSt → GovSt) : (s.updGov f).sit = s.sit := rfl
@[simp] theorem State.updGov_bzl (s : State) (f : GovSt → GovSt) : (s.updGov f).bzl = s.bzl := rfl
@[simp] theorem State.updGov_nfc (s : State) (f : GovSt → GovSt) : (s.updGov f).nfc = s.nfc := rfl
@[simp] theorem State.updGov_pwr (s : State) (f : GovSt → GovSt) : (s.updGov f).pwr = s.pwr := rfl
@[simp] theorem State.updGov_mp (s : State) (f : GovSt → GovSt) : (s.updGov f).mp = s.mp := rfl
@[simp] theorem State.updGov_key (s : State) (f : GovSt → GovSt) : (s.updGov f).key = s.key := rfl
@[simp] theorem State.updGov_fwu (s : State) (f : GovSt → GovSt) : (s.updGov f).fwu = s.fwu := rfl
@[simp] theorem State.updGov_cal (s : State) (f : GovSt → GovSt) : (s.updGov f).cal = s.cal := rfl
@[simp] theorem State.updGov_wear (s : State) (f : GovSt → GovSt) : (s.updGov f).wear = s.wear := rfl
@[simp] theorem State.updGov_gov (s : State) (f : GovSt → GovSt) : (s.updGov f).gov = f s.gov := rfl
@[simp] theorem State.updSit_pending (s : State) (f : SitSt → SitSt) : (s.updSit f).pending = s.pending := rfl
@[simp] theorem State.updSit_freeCtr (s : State) (f : SitSt → SitSt) : (s.updSit f).freeCtr = s.freeCtr := rfl
@[simp] theorem State.updSit_regs (s : State) (f : SitSt → SitSt) : (s.updSit f).regs = s.regs := rfl
@[simp] theorem State.updSit_ram (s : State) (f : SitSt → SitSt) : (s.updSit f).ram = s.ram := rfl
@[simp] theorem State.updSit_glb (s : State) (f : SitSt → SitSt) : (s.updSit f).glb = s.glb := rfl
@[simp] theorem State.updSit_host (s : State) (f : SitSt → SitSt) : (s.updSit f).host = s.host := rfl
@[simp] theorem State.updSit_flt (s : State) (f : SitSt → SitSt) : (s.updSit f).flt = s.flt := rfl
@[simp] theorem State.updSit_esc (s : State) (f : SitSt → SitSt) : (s.updSit f).esc = s.esc := rfl
@[simp] theorem State.updSit_red (s : State) (f : SitSt → SitSt) : (s.updSit f).red = s.red := rfl
@[simp] theorem State.updSit_lgl (s : State) (f : SitSt → SitSt) : (s.updSit f).lgl = s.lgl := rfl
@[simp] theorem State.updSit_outs (s : State) (f : SitSt → SitSt) : (s.updSit f).outs = s.outs := rfl
@[simp] theorem State.updSit_lch (s : State) (f : SitSt → SitSt) : (s.updSit f).lch = s.lch := rfl
@[simp] theorem State.updSit_saf (s : State) (f : SitSt → SitSt) : (s.updSit f).saf = s.saf := rfl
@[simp] theorem State.updSit_sns (s : State) (f : SitSt → SitSt) : (s.updSit f).sns = s.sns := rfl
@[simp] theorem State.updSit_mtr (s : State) (f : SitSt → SitSt) : (s.updSit f).mtr = s.mtr := rfl
@[simp] theorem State.updSit_gov (s : State) (f : SitSt → SitSt) : (s.updSit f).gov = s.gov := rfl
@[simp] theorem State.updSit_bzl (s : State) (f : SitSt → SitSt) : (s.updSit f).bzl = s.bzl := rfl
@[simp] theorem State.updSit_nfc (s : State) (f : SitSt → SitSt) : (s.updSit f).nfc = s.nfc := rfl
@[simp] theorem State.updSit_pwr (s : State) (f : SitSt → SitSt) : (s.updSit f).pwr = s.pwr := rfl
@[simp] theorem State.updSit_mp (s : State) (f : SitSt → SitSt) : (s.updSit f).mp = s.mp := rfl
@[simp] theorem State.updSit_key (s : State) (f : SitSt → SitSt) : (s.updSit f).key = s.key := rfl
@[simp] theorem State.updSit_fwu (s : State) (f : SitSt → SitSt) : (s.updSit f).fwu = s.fwu := rfl
@[simp] theorem State.updSit_cal (s : State) (f : SitSt → SitSt) : (s.updSit f).cal = s.cal := rfl
@[simp] theorem State.updSit_wear (s : State) (f : SitSt → SitSt) : (s.updSit f).wear = s.wear := rfl
@[simp] theorem State.updSit_sit (s : State) (f : SitSt → SitSt) : (s.updSit f).sit = f s.sit := rfl
@[simp] theorem State.updBzl_pending (s : State) (f : BzlSt → BzlSt) : (s.updBzl f).pending = s.pending := rfl
@[simp] theorem State.updBzl_freeCtr (s : State) (f : BzlSt → BzlSt) : (s.updBzl f).freeCtr = s.freeCtr := rfl
@[simp] theorem State.updBzl_regs (s : State) (f : BzlSt → BzlSt) : (s.updBzl f).regs = s.regs := rfl
@[simp] theorem State.updBzl_ram (s : State) (f : BzlSt → BzlSt) : (s.updBzl f).ram = s.ram := rfl
@[simp] theorem State.updBzl_glb (s : State) (f : BzlSt → BzlSt) : (s.updBzl f).glb = s.glb := rfl
@[simp] theorem State.updBzl_host (s : State) (f : BzlSt → BzlSt) : (s.updBzl f).host = s.host := rfl
@[simp] theorem State.updBzl_flt (s : State) (f : BzlSt → BzlSt) : (s.updBzl f).flt = s.flt := rfl
@[simp] theorem State.updBzl_esc (s : State) (f : BzlSt → BzlSt) : (s.updBzl f).esc = s.esc := rfl
@[simp] theorem State.updBzl_red (s : State) (f : BzlSt → BzlSt) : (s.updBzl f).red = s.red := rfl
@[simp] theorem State.updBzl_lgl (s : State) (f : BzlSt → BzlSt) : (s.updBzl f).lgl = s.lgl := rfl
@[simp] theorem State.updBzl_outs (s : State) (f : BzlSt → BzlSt) : (s.updBzl f).outs = s.outs := rfl
@[simp] theorem State.updBzl_lch (s : State) (f : BzlSt → BzlSt) : (s.updBzl f).lch = s.lch := rfl
@[simp] theorem State.updBzl_saf (s : State) (f : BzlSt → BzlSt) : (s.updBzl f).saf = s.saf := rfl
@[simp] theorem State.updBzl_sns (s : State) (f : BzlSt → BzlSt) : (s.updBzl f).sns = s.sns := rfl
@[simp] theorem State.updBzl_mtr (s : State) (f : BzlSt → BzlSt) : (s.updBzl f).mtr = s.mtr := rfl
@[simp] theorem State.updBzl_gov (s : State) (f : BzlSt → BzlSt) : (s.updBzl f).gov = s.gov := rfl
@[simp] theorem State.updBzl_sit (s : State) (f : BzlSt → BzlSt) : (s.updBzl f).sit = s.sit := rfl
@[simp] theorem State.updBzl_nfc (s : State) (f : BzlSt → BzlSt) : (s.updBzl f).nfc = s.nfc := rfl
@[simp] theorem State.updBzl_pwr (s : State) (f : BzlSt → BzlSt) : (s.updBzl f).pwr = s.pwr := rfl
@[simp] theorem State.updBzl_mp (s : State) (f : BzlSt → BzlSt) : (s.updBzl f).mp = s.mp := rfl
@[simp] theorem State.updBzl_key (s : State) (f : BzlSt → BzlSt) : (s.updBzl f).key = s.key := rfl
@[simp] theorem State.updBzl_fwu (s : State) (f : BzlSt → BzlSt) : (s.updBzl f).fwu = s.fwu := rfl
@[simp] theorem State.updBzl_cal (s : State) (f : BzlSt → BzlSt) : (s.updBzl f).cal = s.cal := rfl
@[simp] theorem State.updBzl_wear (s : State) (f : BzlSt → BzlSt) : (s.updBzl f).wear = s.wear := rfl
@[simp] theorem State.updBzl_bzl (s : State) (f : BzlSt → BzlSt) : (s.updBzl f).bzl = f s.bzl := rfl
@[simp] theorem State.updNfc_pending (s : State) (f : NfcSt → NfcSt) : (s.updNfc f).pending = s.pending := rfl
@[simp] theorem State.updNfc_freeCtr (s : State) (f : NfcSt → NfcSt) : (s.updNfc f).freeCtr = s.freeCtr := rfl
@[simp] theorem State.updNfc_regs (s : State) (f : NfcSt → NfcSt) : (s.updNfc f).regs = s.regs := rfl
@[simp] theorem State.updNfc_ram (s : State) (f : NfcSt → NfcSt) : (s.updNfc f).ram = s.ram := rfl
@[simp] theorem State.updNfc_glb (s : State) (f : NfcSt → NfcSt) : (s.updNfc f).glb = s.glb := rfl
@[simp] theorem State.updNfc_host (s : State) (f : NfcSt → NfcSt) : (s.updNfc f).host = s.host := rfl
@[simp] theorem State.updNfc_flt (s : State) (f : NfcSt → NfcSt) : (s.updNfc f).flt = s.flt := rfl
@[simp] theorem State.updNfc_esc (s : State) (f : NfcSt → NfcSt) : (s.updNfc f).esc = s.esc := rfl
@[simp] theorem State.updNfc_red (s : State) (f : NfcSt → NfcSt) : (s.updNfc f).red = s.red := rfl
@[simp] theorem State.updNfc_lgl (s : State) (f : NfcSt → NfcSt) : (s.updNfc f).lgl = s.lgl := rfl
@[simp] theorem State.updNfc_outs (s : State) (f : NfcSt → NfcSt) : (s.updNfc f).outs = s.outs := rfl
@[simp] theorem State.updNfc_lch (s : State) (f : NfcSt → NfcSt) : (s.updNfc f).lch = s.lch := rfl
@[simp] theorem State.updNfc_saf (s : State) (f : NfcSt → NfcSt) : (s.updNfc f).saf = s.saf := rfl
@[simp] theorem State.updNfc_sns (s : State) (f : NfcSt → NfcSt) : (s.updNfc f).sns = s.sns := rfl
@[simp] theorem State.updNfc_mtr (s : State) (f : NfcSt → NfcSt) : (s.updNfc f).mtr = s.mtr := rfl
@[simp] theorem State.updNfc_gov (s : State) (f : NfcSt → NfcSt) : (s.updNfc f).gov = s.gov := rfl
@[simp] theorem State.updNfc_sit (s : State) (f : NfcSt → NfcSt) : (s.updNfc f).sit = s.sit := rfl
@[simp] theorem State.updNfc_bzl (s : State) (f : NfcSt → NfcSt) : (s.updNfc f).bzl = s.bzl := rfl
@[simp] theorem State.updNfc_pwr (s : State) (f : NfcSt → NfcSt) : (s.updNfc f).pwr = s.pwr := rfl
@[simp] theorem State.updNfc_mp (s : State) (f : NfcSt → NfcSt) : (s.updNfc f).mp = s.mp := rfl
@[simp] theorem State.updNfc_key (s : State) (f : NfcSt → NfcSt) : (s.updNfc f).key = s.key := rfl
@[simp] theorem State.updNfc_fwu (s : State) (f : NfcSt → NfcSt) : (s.updNfc f).fwu = s.fwu := rfl
@[simp] theorem State.updNfc_cal (s : State) (f : NfcSt → NfcSt) : (s.updNfc f).cal = s.cal := rfl
@[simp] theorem State.updNfc_wear (s : State) (f : NfcSt → NfcSt) : (s.updNfc f).wear = s.wear := rfl
@[simp] theorem State.updNfc_nfc (s : State) (f : NfcSt → NfcSt) : (s.updNfc f).nfc = f s.nfc := rfl
@[simp] theorem State.updPwr_pending (s : State) (f : PwrSt → PwrSt) : (s.updPwr f).pending = s.pending := rfl
@[simp] theorem State.updPwr_freeCtr (s : State) (f : PwrSt → PwrSt) : (s.updPwr f).freeCtr = s.freeCtr := rfl
@[simp] theorem State.updPwr_regs (s : State) (f : PwrSt → PwrSt) : (s.updPwr f).regs = s.regs := rfl
@[simp] theorem State.updPwr_ram (s : State) (f : PwrSt → PwrSt) : (s.updPwr f).ram = s.ram := rfl
@[simp] theorem State.updPwr_glb (s : State) (f : PwrSt → PwrSt) : (s.updPwr f).glb = s.glb := rfl
@[simp] theorem State.updPwr_host (s : State) (f : PwrSt → PwrSt) : (s.updPwr f).host = s.host := rfl
@[simp] theorem State.updPwr_flt (s : State) (f : PwrSt → PwrSt) : (s.updPwr f).flt = s.flt := rfl
@[simp] theorem State.updPwr_esc (s : State) (f : PwrSt → PwrSt) : (s.updPwr f).esc = s.esc := rfl
@[simp] theorem State.updPwr_red (s : State) (f : PwrSt → PwrSt) : (s.updPwr f).red = s.red := rfl
@[simp] theorem State.updPwr_lgl (s : State) (f : PwrSt → PwrSt) : (s.updPwr f).lgl = s.lgl := rfl
@[simp] theorem State.updPwr_outs (s : State) (f : PwrSt → PwrSt) : (s.updPwr f).outs = s.outs := rfl
@[simp] theorem State.updPwr_lch (s : State) (f : PwrSt → PwrSt) : (s.updPwr f).lch = s.lch := rfl
@[simp] theorem State.updPwr_saf (s : State) (f : PwrSt → PwrSt) : (s.updPwr f).saf = s.saf := rfl
@[simp] theorem State.updPwr_sns (s : State) (f : PwrSt → PwrSt) : (s.updPwr f).sns = s.sns := rfl
@[simp] theorem State.updPwr_mtr (s : State) (f : PwrSt → PwrSt) : (s.updPwr f).mtr = s.mtr := rfl
@[simp] theorem State.updPwr_gov (s : State) (f : PwrSt → PwrSt) : (s.updPwr f).gov = s.gov := rfl
@[simp] theorem State.updPwr_sit (s : State) (f : PwrSt → PwrSt) : (s.updPwr f).sit = s.sit := rfl
@[simp] theorem State.updPwr_bzl (s : State) (f : PwrSt → PwrSt) : (s.updPwr f).bzl = s.bzl := rfl
@[simp] theorem State.updPwr_nfc (s : State) (f : PwrSt → PwrSt) : (s.updPwr f).nfc = s.nfc := rfl
@[simp] theorem State.updPwr_mp (s : State) (f : PwrSt → PwrSt) : (s.updPwr f).mp = s.mp := rfl
@[simp] theorem State.updPwr_key (s : State) (f : PwrSt → PwrSt) : (s.updPwr f).key = s.key := rfl
@[simp] theorem State.updPwr_fwu (s : State) (f : PwrSt → PwrSt) : (s.updPwr f).fwu = s.fwu := rfl
@[simp] theorem State.updPwr_cal (s : State) (f : PwrSt → PwrSt) : (s.updPwr f).cal = s.cal := rfl
@[simp] theorem State.updPwr_wear (s : State) (f : PwrSt → PwrSt) : (s.updPwr f).wear = s.wear := rfl
@[simp] theorem State.updPwr_pwr (s : State) (f : PwrSt → PwrSt) : (s.updPwr f).pwr = f s.pwr := rfl
@[simp] theorem State.updMp_pending (s : State) (f : MpSt → MpSt) : (s.updMp f).pending = s.pending := rfl
@[simp] theorem State.updMp_freeCtr (s : State) (f : MpSt → MpSt) : (s.updMp f).freeCtr = s.freeCtr := rfl
@[simp] theorem State.updMp_regs (s : State) (f : MpSt → MpSt) : (s.updMp f).regs = s.regs := rfl
@[simp] theorem State.updMp_ram (s : State) (f : MpSt → MpSt) : (s.updMp f).ram = s.ram := rfl
@[simp] theorem State.updMp_glb (s : State) (f : MpSt → MpSt) : (s.updMp f).glb = s.glb := rfl
@[simp] theorem State.updMp_host (s : State) (f : MpSt → MpSt) : (s.updMp f).host = s.host := rfl
@[simp] theorem State.updMp_flt (s : State) (f : MpSt → MpSt) : (s.updMp f).flt = s.flt := rfl
@[simp] theorem State.updMp_esc (s : State) (f : MpSt → MpSt) : (s.updMp f).esc = s.esc := rfl
@[simp] theorem State.updMp_red (s : State) (f : MpSt → MpSt) : (s.updMp f).red = s.red := rfl
@[simp] theorem State.updMp_lgl (s : State) (f : MpSt → MpSt) : (s.updMp f).lgl = s.lgl := rfl
@[simp] theorem State.updMp_outs (s : State) (f : MpSt → MpSt) : (s.updMp f).outs = s.outs := rfl
@[simp] theorem State.updMp_lch (s : State) (f : MpSt → MpSt) : (s.updMp f).lch = s.lch := rfl
@[simp] theorem State.updMp_saf (s : State) (f : MpSt → MpSt) : (s.updMp f).saf = s.saf := rfl
@[simp] theorem State.updMp_sns (s : State) (f : MpSt → MpSt) : (s.updMp f).sns = s.sns := rfl
@[simp] theorem State.updMp_mtr (s : State) (f : MpSt → MpSt) : (s.updMp f).mtr = s.mtr := rfl
@[simp] theorem State.updMp_gov (s : State) (f : MpSt → MpSt) : (s.updMp f).gov = s.gov := rfl
@[simp] theorem State.updMp_sit (s : State) (f : MpSt → MpSt) : (s.updMp f).sit = s.sit := rfl
@[simp] theorem State.updMp_bzl (s : State) (f : MpSt → MpSt) : (s.updMp f).bzl = s.bzl := rfl
@[simp] theorem State.updMp_nfc (s : State) (f : MpSt → MpSt) : (s.updMp f).nfc = s.nfc := rfl
@[simp] theorem State.updMp_pwr (s : State) (f : MpSt → MpSt) : (s.updMp f).pwr = s.pwr := rfl
@[simp] theorem State.updMp_key (s : State) (f : MpSt → MpSt) : (s.updMp f).key = s.key := rfl
@[simp] theorem State.updMp_fwu (s : State) (f : MpSt → MpSt) : (s.updMp f).fwu = s.fwu := rfl
@[simp] theorem State.updMp_cal (s : State) (f : MpSt → MpSt) : (s.updMp f).cal = s.cal := rfl
@[simp] theorem State.updMp_wear (s : State) (f : MpSt → MpSt) : (s.updMp f).wear = s.wear := rfl
@[simp] theorem State.updMp_mp (s : State) (f : MpSt → MpSt) : (s.updMp f).mp = f s.mp := rfl
@[simp] theorem State.updKey_pending (s : State) (f : KeySt → KeySt) : (s.updKey f).pending = s.pending := rfl
@[simp] theorem State.updKey_freeCtr (s : State) (f : KeySt → KeySt) : (s.updKey f).freeCtr = s.freeCtr := rfl
@[simp] theorem State.updKey_regs (s : State) (f : KeySt → KeySt) : (s.updKey f).regs = s.regs := rfl
@[simp] theorem State.updKey_ram (s : State) (f : KeySt → KeySt) : (s.updKey f).ram = s.ram := rfl
@[simp] theorem State.updKey_glb (s : State) (f : KeySt → KeySt) : (s.updKey f).glb = s.glb := rfl
@[simp] theorem State.updKey_host (s : State) (f : KeySt → KeySt) : (s.updKey f).host = s.host := rfl
@[simp] theorem State.updKey_flt (s : State) (f : KeySt → KeySt) : (s.updKey f).flt = s.flt := rfl
@[simp] theorem State.updKey_esc (s : State) (f : KeySt → KeySt) : (s.updKey f).esc = s.esc := rfl
@[simp] theorem State.updKey_red (s : State) (f : KeySt → KeySt) : (s.updKey f).red = s.red := rfl
@[simp] theorem State.updKey_lgl (s : State) (f : KeySt → KeySt) : (s.updKey f).lgl = s.lgl := rfl
@[simp] theorem State.updKey_outs (s : State) (f : KeySt → KeySt) : (s.updKey f).outs = s.outs := rfl
@[simp] theorem State.updKey_lch (s : State) (f : KeySt → KeySt) : (s.updKey f).lch = s.lch := rfl
@[simp] theorem State.updKey_saf (s : State) (f : KeySt → KeySt) : (s.updKey f).saf = s.saf := rfl
@[simp] theorem State.updKey_sns (s : State) (f : KeySt → KeySt) : (s.updKey f).sns = s.sns := rfl
@[simp] theorem State.updKey_mtr (s : State) (f : KeySt → KeySt) : (s.updKey f).mtr = s.mtr := rfl
@[simp] theorem State.updKey_gov (s : State) (f : KeySt → KeySt) : (s.updKey f).gov = s.gov := rfl
@[simp] theorem State.updKey_sit (s : State) (f : KeySt → KeySt) : (s.updKey f).sit = s.sit := rfl
@[simp] theorem State.updKey_bzl (s : State) (f : KeySt → KeySt) : (s.updKey f).bzl = s.bzl := rfl
@[simp] theorem State.updKey_nfc (s : State) (f : KeySt → KeySt) : (s.updKey f).nfc = s.nfc := rfl
@[simp] theorem State.updKey_pwr (s : State) (f : KeySt → KeySt) : (s.updKey f).pwr = s.pwr := rfl
@[simp] theorem State.updKey_mp (s : State) (f : KeySt → KeySt) : (s.updKey f).mp = s.mp := rfl
@[simp] theorem State.updKey_fwu (s : State) (f : KeySt → KeySt) : (s.updKey f).fwu = s.fwu := rfl
@[simp] theorem State.updKey_cal (s : State) (f : KeySt → KeySt) : (s.updKey f).cal = s.cal := rfl
@[simp] theorem State.updKey_wear (s : State) (f : KeySt → KeySt) : (s.updKey f).wear = s.wear := rfl
@[simp] theorem State.updKey_key (s : State) (f : KeySt → KeySt) : (s.updKey f).key = f s.key := rfl
@[simp] theorem State.updUpd_pending (s : State) (f : UpdSt → UpdSt) : (s.updUpd f).pending = s.pending := rfl
@[simp] theorem State.updUpd_freeCtr (s : State) (f : UpdSt → UpdSt) : (s.updUpd f).freeCtr = s.freeCtr := rfl
@[simp] theorem State.updUpd_regs (s : State) (f : UpdSt → UpdSt) : (s.updUpd f).regs = s.regs := rfl
@[simp] theorem State.updUpd_ram (s : State) (f : UpdSt → UpdSt) : (s.updUpd f).ram = s.ram := rfl
@[simp] theorem State.updUpd_glb (s : State) (f : UpdSt → UpdSt) : (s.updUpd f).glb = s.glb := rfl
@[simp] theorem State.updUpd_host (s : State) (f : UpdSt → UpdSt) : (s.updUpd f).host = s.host := rfl
@[simp] theorem State.updUpd_flt (s : State) (f : UpdSt → UpdSt) : (s.updUpd f).flt = s.flt := rfl
@[simp] theorem State.updUpd_esc (s : State) (f : UpdSt → UpdSt) : (s.updUpd f).esc = s.esc := rfl
@[simp] theorem State.updUpd_red (s : State) (f : UpdSt → UpdSt) : (s.updUpd f).red = s.red := rfl
@[simp] theorem State.updUpd_lgl (s : State) (f : UpdSt → UpdSt) : (s.updUpd f).lgl = s.lgl := rfl
@[simp] theorem State.updUpd_outs (s : State) (f : UpdSt → UpdSt) : (s.updUpd f).outs = s.outs := rfl
@[simp] theorem State.updUpd_lch (s : State) (f : UpdSt → UpdSt) : (s.updUpd f).lch = s.lch := rfl
@[simp] theorem State.updUpd_saf (s : State) (f : UpdSt → UpdSt) : (s.updUpd f).saf = s.saf := rfl
@[simp] theorem State.updUpd_sns (s : State) (f : UpdSt → UpdSt) : (s.updUpd f).sns = s.sns := rfl
@[simp] theorem State.updUpd_mtr (s : State) (f : UpdSt → UpdSt) : (s.updUpd f).mtr = s.mtr := rfl
@[simp] theorem State.updUpd_gov (s : State) (f : UpdSt → UpdSt) : (s.updUpd f).gov = s.gov := rfl
@[simp] theorem State.updUpd_sit (s : State) (f : UpdSt → UpdSt) : (s.updUpd f).sit = s.sit := rfl
@[simp] theorem State.updUpd_bzl (s : State) (f : UpdSt → UpdSt) : (s.updUpd f).bzl = s.bzl := rfl
@[simp] theorem State.updUpd_nfc (s : State) (f : UpdSt → UpdSt) : (s.updUpd f).nfc = s.nfc := rfl
@[simp] theorem State.updUpd_pwr (s : State) (f : UpdSt → UpdSt) : (s.updUpd f).pwr = s.pwr := rfl
@[simp] theorem State.updUpd_mp (s : State) (f : UpdSt → UpdSt) : (s.updUpd f).mp = s.mp := rfl
@[simp] theorem State.updUpd_key (s : State) (f : UpdSt → UpdSt) : (s.updUpd f).key = s.key := rfl
@[simp] theorem State.updUpd_cal (s : State) (f : UpdSt → UpdSt) : (s.updUpd f).cal = s.cal := rfl
@[simp] theorem State.updUpd_wear (s : State) (f : UpdSt → UpdSt) : (s.updUpd f).wear = s.wear := rfl
@[simp] theorem State.updUpd_fwu (s : State) (f : UpdSt → UpdSt) : (s.updUpd f).fwu = f s.fwu := rfl
@[simp] theorem State.updCal_pending (s : State) (f : CalSt → CalSt) : (s.updCal f).pending = s.pending := rfl
@[simp] theorem State.updCal_freeCtr (s : State) (f : CalSt → CalSt) : (s.updCal f).freeCtr = s.freeCtr := rfl
@[simp] theorem State.updCal_regs (s : State) (f : CalSt → CalSt) : (s.updCal f).regs = s.regs := rfl
@[simp] theorem State.updCal_ram (s : State) (f : CalSt → CalSt) : (s.updCal f).ram = s.ram := rfl
@[simp] theorem State.updCal_glb (s : State) (f : CalSt → CalSt) : (s.updCal f).glb = s.glb := rfl
@[simp] theorem State.updCal_host (s : State) (f : CalSt → CalSt) : (s.updCal f).host = s.host := rfl
@[simp] theorem State.updCal_flt (s : State) (f : CalSt → CalSt) : (s.updCal f).flt = s.flt := rfl
@[simp] theorem State.updCal_esc (s : State) (f : CalSt → CalSt) : (s.updCal f).esc = s.esc := rfl
@[simp] theorem State.updCal_red (s : State) (f : CalSt → CalSt) : (s.updCal f).red = s.red := rfl
@[simp] theorem State.updCal_lgl (s : State) (f : CalSt → CalSt) : (s.updCal f).lgl = s.lgl := rfl
@[simp] theorem State.updCal_outs (s : State) (f : CalSt → CalSt) : (s.updCal f).outs = s.outs := rfl
@[simp] theorem State.updCal_lch (s : State) (f : CalSt → CalSt) : (s.updCal f).lch = s.lch := rfl
@[simp] theorem State.updCal_saf (s : State) (f : CalSt → CalSt) : (s.updCal f).saf = s.saf := rfl
@[simp] theorem State.updCal_sns (s : State) (f : CalSt → CalSt) : (s.updCal f).sns = s.sns := rfl
@[simp] theorem State.updCal_mtr (s : State) (f : CalSt → CalSt) : (s.updCal f).mtr = s.mtr := rfl
@[simp] theorem State.updCal_gov (s : State) (f : CalSt → CalSt) : (s.updCal f).gov = s.gov := rfl
@[simp] theorem State.updCal_sit (s : State) (f : CalSt → CalSt) : (s.updCal f).sit = s.sit := rfl
@[simp] theorem State.updCal_bzl (s : State) (f : CalSt → CalSt) : (s.updCal f).bzl = s.bzl := rfl
@[simp] theorem State.updCal_nfc (s : State) (f : CalSt → CalSt) : (s.updCal f).nfc = s.nfc := rfl
@[simp] theorem State.updCal_pwr (s : State) (f : CalSt → CalSt) : (s.updCal f).pwr = s.pwr := rfl
@[simp] theorem State.updCal_mp (s : State) (f : CalSt → CalSt) : (s.updCal f).mp = s.mp := rfl
@[simp] theorem State.updCal_key (s : State) (f : CalSt → CalSt) : (s.updCal f).key = s.key := rfl
@[simp] theorem State.updCal_fwu (s : State) (f : CalSt → CalSt) : (s.updCal f).fwu = s.fwu := rfl
@[simp] theorem State.updCal_wear (s : State) (f : CalSt → CalSt) : (s.updCal f).wear = s.wear := rfl
@[simp] theorem State.updCal_cal (s : State) (f : CalSt → CalSt) : (s.updCal f).cal = f s.cal := rfl
@[simp] theorem State.updWear_pending (s : State) (f : WearSt → WearSt) : (s.updWear f).pending = s.pending := rfl
@[simp] theorem State.updWear_freeCtr (s : State) (f : WearSt → WearSt) : (s.updWear f).freeCtr = s.freeCtr := rfl
@[simp] theorem State.updWear_regs (s : State) (f : WearSt → WearSt) : (s.updWear f).regs = s.regs := rfl
@[simp] theorem State.updWear_ram (s : State) (f : WearSt → WearSt) : (s.updWear f).ram = s.ram := rfl
@[simp] theorem State.updWear_glb (s : State) (f : WearSt → WearSt) : (s.updWear f).glb = s.glb := rfl
@[simp] theorem State.updWear_host (s : State) (f : WearSt → WearSt) : (s.updWear f).host = s.host := rfl
@[simp] theorem State.updWear_flt (s : State) (f : WearSt → WearSt) : (s.updWear f).flt = s.flt := rfl
@[simp] theorem State.updWear_esc (s : State) (f : WearSt → WearSt) : (s.updWear f).esc = s.esc := rfl
@[simp] theorem State.updWear_red (s : State) (f : WearSt → WearSt) : (s.updWear f).red = s.red := rfl
@[simp] theorem State.updWear_lgl (s : State) (f : WearSt → WearSt) : (s.updWear f).lgl = s.lgl := rfl
@[simp] theorem State.updWear_outs (s : State) (f : WearSt → WearSt) : (s.updWear f).outs = s.outs := rfl
@[simp] theorem State.updWear_lch (s : State) (f : WearSt → WearSt) : (s.updWear f).lch = s.lch := rfl
@[simp] theorem State.updWear_saf (s : State) (f : WearSt → WearSt) : (s.updWear f).saf = s.saf := rfl
@[simp] theorem State.updWear_sns (s : State) (f : WearSt → WearSt) : (s.updWear f).sns = s.sns := rfl
@[simp] theorem State.updWear_mtr (s : State) (f : WearSt → WearSt) : (s.updWear f).mtr = s.mtr := rfl
@[simp] theorem State.updWear_gov (s : State) (f : WearSt → WearSt) : (s.updWear f).gov = s.gov := rfl
@[simp] theorem State.updWear_sit (s : State) (f : WearSt → WearSt) : (s.updWear f).sit = s.sit := rfl
@[simp] theorem State.updWear_bzl (s : State) (f : WearSt → WearSt) : (s.updWear f).bzl = s.bzl := rfl
@[simp] theorem State.updWear_nfc (s : State) (f : WearSt → WearSt) : (s.updWear f).nfc = s.nfc := rfl
@[simp] theorem State.updWear_pwr (s : State) (f : WearSt → WearSt) : (s.updWear f).pwr = s.pwr := rfl
@[simp] theorem State.updWear_mp (s : State) (f : WearSt → WearSt) : (s.updWear f).mp = s.mp := rfl
@[simp] theorem State.updWear_key (s : State) (f : WearSt → WearSt) : (s.updWear f).key = s.key := rfl
@[simp] theorem State.updWear_fwu (s : State) (f : WearSt → WearSt) : (s.updWear f).fwu = s.fwu := rfl
@[simp] theorem State.updWear_cal (s : State) (f : WearSt → WearSt) : (s.updWear f).cal = s.cal := rfl
@[simp] theorem State.updWear_wear (s : State) (f : WearSt → WearSt) : (s.updWear f).wear = f s.wear := rfl

/-- A word split at a field, and the word with the field replaced. -/
theorem setBits_split (w lo len v : Nat) :
    w = 2 ^ lo * (2 ^ len * (w / 2 ^ lo / 2 ^ len) + w / 2 ^ lo % 2 ^ len) + w % 2 ^ lo ∧
    setBits w lo len v = 2 ^ lo * (2 ^ len * (w / 2 ^ lo / 2 ^ len) + v % 2 ^ len) + w % 2 ^ lo := by
  unfold setBits
  rw [Nat.shiftRight_eq_div_pow]
  have h : w = 2 ^ lo * (2 ^ len * (w / 2 ^ lo / 2 ^ len) + w / 2 ^ lo % 2 ^ len) + w % 2 ^ lo := by
    rw [Nat.div_add_mod, Nat.div_add_mod]
  refine ⟨h, ?_⟩
  generalize w / 2 ^ lo / 2 ^ len = q at *
  generalize w / 2 ^ lo % 2 ^ len = r at *
  generalize w % 2 ^ lo = c at *
  rw [h, Nat.mul_add, Nat.mul_add, Nat.mul_comm r, Nat.mul_comm (v % 2 ^ len)]
  omega

theorem setBits_same (w lo len v : Nat) : ((setBits w lo len v) >>> lo) % 2 ^ len = v % 2 ^ len := by
  have hp : 0 < 2 ^ lo := Nat.two_pow_pos lo
  rw [(setBits_split w lo len v).2, Nat.shiftRight_eq_div_pow, Nat.mul_add_div hp, Nat.div_eq_of_lt (Nat.mod_lt _ hp), Nat.add_zero,
    Nat.mul_add_mod, Nat.mod_mod]

theorem setBits_low (w lo len v : Nat) : setBits w lo len v % 2 ^ lo = w % 2 ^ lo := by
  rw [(setBits_split w lo len v).2, Nat.mul_add_mod, Nat.mod_mod]

theorem setBits_high (w lo len v : Nat) : setBits w lo len v / 2 ^ (lo + len) = w / 2 ^ (lo + len) := by
  have hp : 0 < 2 ^ lo := Nat.two_pow_pos lo
  rw [Nat.pow_add, ← Nat.div_div_eq_div_mul, ← Nat.div_div_eq_div_mul, (setBits_split w lo len v).2, Nat.mul_add_div hp,
    Nat.div_eq_of_lt (Nat.mod_lt _ hp), Nat.add_zero, Nat.mul_add_div (Nat.two_pow_pos len),
    Nat.div_eq_of_lt (Nat.mod_lt _ (Nat.two_pow_pos len)), Nat.add_zero]

theorem setBits_other (w lo len v l n : Nat) (h : l + n ≤ lo ∨ lo + len ≤ l) :
    ((setBits w lo len v) >>> l) % 2 ^ n = (w >>> l) % 2 ^ n := by
  rw [Nat.shiftRight_eq_div_pow, Nat.shiftRight_eq_div_pow]
  rcases h with h | h
  · have k : ∀ x, x / 2 ^ l % 2 ^ n = x % 2 ^ lo % (2 ^ l * 2 ^ n) / 2 ^ l := by
      intro x
      rw [Nat.mod_mod_of_dvd _ (by rw [← Nat.pow_add]; exact Nat.pow_dvd_pow 2 h), Nat.mod_mul_right_div_self]
    rw [k, k, setBits_low]
  · have k : ∀ x, x / 2 ^ l = x / 2 ^ (lo + len) / 2 ^ (l - (lo + len)) := by
      intro x
      rw [Nat.div_div_eq_div_mul, ← Nat.pow_add, Nat.add_sub_cancel' h]
    rw [k, k, setBits_high]

theorem setBits_lt (w lo len v : Nat) (hw : w < 2 ^ 32) (h : lo + len ≤ 32) : setBits w lo len v < 2 ^ 32 := by
  have e := setBits_high w lo len v
  have hp : 0 < 2 ^ (lo + len) := Nat.two_pow_pos _
  have a : w / 2 ^ (lo + len) < 2 ^ (32 - (lo + len)) := by
    rw [Nat.div_lt_iff_lt_mul hp, ← Nat.pow_add, Nat.sub_add_cancel h]
    exact hw
  rw [← e, Nat.div_lt_iff_lt_mul hp, ← Nat.pow_add, Nat.sub_add_cancel h] at a
  exact a

theorem get_put_same (s : State) (f : Fld) (v : Nat) (h : f.lo + f.len ≤ 32) : (s.put f v).get f = v % 2 ^ f.len := by
  unfold State.put State.get
  rw [rd_wr_same, BitVec.toNat_ofNat, Nat.mod_eq_of_lt (setBits_lt _ _ _ _ (BitVec.isLt _) h), setBits_same]

theorem get_put_addr (s : State) (f g : Fld) (v : Nat) (h : kvWf regReset s.regs = true) (ne : g.addr ≠ f.addr) :
    (s.put f v).get g = s.get g := by
  unfold State.put State.get State.rd State.wr
  rw [kvFind_insert_other h ne]

theorem get_put_bits (s : State) (f g : Fld) (v : Nat) (w : f.lo + f.len ≤ 32) (e : g.addr = f.addr)
    (h : g.lo + g.len ≤ f.lo ∨ f.lo + f.len ≤ g.lo) : (s.put f v).get g = s.get g := by
  unfold State.put State.get
  rw [e, rd_wr_same, BitVec.toNat_ofNat, Nat.mod_eq_of_lt (setBits_lt _ _ _ _ (BitVec.isLt _) w), setBits_other _ _ _ _ _ _ h]

theorem le_length (n v : Nat) : (le n v).length = n := by
  induction n generalizing v with
  | zero => rfl
  | succ k ih => simp [le, ih]

theorem ofLe_le (n v : Nat) : ofLe (le n v) = v % 256 ^ n := by
  induction n generalizing v with
  | zero => simp [le, ofLe, Nat.mod_one]
  | succ k ih =>
    simp only [le, ofLe, ih, BitVec.toNat_ofNat]
    have e : 256 ^ (k + 1) = 256 * 256 ^ k := Nat.pow_succ'
    rw [e, Nat.mod_mul]

/-- Bits of two different fields of one state: a word written elsewhere leaves a field as it was. -/
theorem get_wr_other (s : State) (g : Fld) (a : Nat) (v : Word) (h : kvWf regReset s.regs = true) (ne : g.addr ≠ a) :
    (s.wr a v).get g = s.get g := by
  unfold State.get State.rd State.wr
  rw [kvFind_insert_other h ne]

end Sys2Proof.Machine
end

