-- ==== Sys2Proof/WellFormed.lean ====
section
/-! DEFINITION. Well-formed commands. An operand that names a unit, a lane, a port or a mailbox is bounded by its type; what is left to
check are the lengths and ranges that the spec gives what a row carries. An ill-formed command stands for nothing that can come to the
block's balls; exec gives it a meaning all the same, by the shared operations' own bounds. -/
namespace Sys2Proof

/-- Lengths and ranges of the operands: 1 to 1 024 words in a transaction (R335), 128 primary and 32 companion samples and 16 bits of
beat number in a frame (R12, R75), four sensors a lane (R69), four rails (R286), 16 bytes in a STATUS frame (R182), duty in 0.01 %
(R160), one entry an outlet in a SLAC request (R165), a declared cost (R64). -/
def Instr.wf (i : Instr) : Bool :=
  match i with
  | .hostRead _ _ n _ _ => decide (1 ≤ n) && decide (n ≤ 1024)
  | .hostReadCrc _ _ n _ _ => decide (1 ≤ n) && decide (n ≤ 1024)
  | .hostWrite _ _ d _ => decide (1 ≤ d.length) && decide (d.length ≤ 1024)
  | .hostWriteCrc _ _ d _ _ => decide (1 ≤ d.length) && decide (d.length ≤ 1024)
  | .frameArrival _ f => decide (f.prim.length = 128) && decide (f.comp.length = 32) && decide (f.valid < 2 ^ 128) && decide (f.beat < 2 ^ 16)
  | .laneTempSample a b _ _ => decide (a.length = 4) && decide (b.length = 4)
  | .beat o => decide (o.lc.length = 16) && decide (o.rails.length = 4) && decide (o.aux < 2 ^ 24)
  | .testPulse _ _ bad => decide (bad < 2 ^ 16)
  | .bezelRailResume r => decide (r.length = 4)
  | .statusFrame _ _ bs => decide (bs.length = 16)
  | .pilotPeriodStart _ _ _ d => decide (d ≤ 10000)
  | .slacParamReq _ h => decide ((h.map (fun x => x.1)).Nodup)
  | .complicationPost _ _ c _ _ => decide (1 ≤ c)
  | .resetRelease _ | .residentLoaderVerified _ | .firmwareSetLoaded _ _ _ | .slotChoiceAgreed _ _ _
  | .tagInstallerCheck _ _ | .startSelftestDone _ _ | .startOrder _ _ | .loadingTimeout | .glbResetModule _
  | .glbResetRecovery _ | .essentialOverrun _ | .cmdLate | .coreWatchdogExpiry _ | .sramEccUncorrectable _
  | .complicationDone _ _ _ _ | .complicationOverrun _ _ _ | .budgetPublish | .beatnoLoRead _ | .budgetRoundRead _
  | .plRoundRead _ | .ibStuck _ | .ibclkFault _ _ | .swingInStart _ _ _ | .swingRetry _ _ _ | .modulatorFailed _ _
  | .knownStateWindow _ | .ksStale _ | .referenceCompare _ _ | .frameLoss | .linkDegraded _ | .meterNoref _
  | .meterHalt _ | .pulseStart _ | .pulseEnd _ | .deltaSave | .fullSave _ | .intervalRead _ _ _ | .keypadKey _
  | .keypadEntryTimeout | .legalShowStep | .chronoSecond _ | .demandIntervalEnd | .demandSubintervalEnd
  | .billingPeriodEnd | .tariffSwitch _ | .tamperCoverOpen | .tamperDoorOpen | .tamperMagnetic _ _ | .legalWriteRefused
  | .tamperBStart _ _ _ | .tamperBEnd _ _ _ | .accountRecordCommit _ _ | .pilotStateRecognised _ | .deferredAllocation _
  | .pilotInvalid _ | .pilotFHoldEnd _ | .proximityMeasure _ _ | .ppInvalid _ | .mnbcSound _ _ _ | .slacMatch _ _
  | .slacTimeout _ | .sdpRequest _ _ | .supportedAppProtocol _ _ _ | .v2gRequest _ _ _ | .tlsClientHello _ _ _
  | .tlsPkTimeout _ | .commSetupTimeout _ | .sequenceTimeout _ | .cpStateDetectionTimeout _ | .authTimeout _
  | .preauthExpiry _ | .suspendOpenExpiry _ | .stopLate _ | .v2gStopTimeout _ | .dcStopOpen _ | .setpointFrame _ _
  | .canTargetLost _ _ | .canBusOff _ | .busOffRecovery _ | .rdcSelfTestEnd _ | .closeTimeout _ | .vmatchTimeout _
  | .auxMismatch _ | .weldProofAc _ _ | .weldProofDc _ | .rdcTrip _ _ _ | .rdcLockRelease _ | .insulationDwellEnd _ _ _
  | .ocInst _ | .overvolt _ | .ocSlow _ | .connectorThermalLatch _ | .connectorLatchClear _ | .holdRetry _
  | .latchTimeout _ | .protBlind _ | .placementRound | .allocationApply | .islandExit | .batteryDataStale | .priceStale
  | .siteLimitExpiry | .minOffExpiry _ | .sharePeriodStart | .shareLowerTimeout _ | .partnerLost _ | .partnerFailsafe
  | .journalEntryApply _ _ _ | .journalAck _ | .journalStall | .heartbeatVote _ _ _ | .resignation _ _
  | .takeoverComplete _ | .takeoverLate | .laneResetRelease _ | .laneResyncDone _ | .resyncAttemptFail _ _
  | .resyncRetry _ | .tourbillonDue | .swapWaitTimeout | .safetyInputAccept _ _ _ _ | .discrepancyTimeout _
  | .safetyCycle | .hwPathCompare _ | .pathDisagree _ | .stop1Expiry _ _ | .lockFault _ | .soOffPulse _ _ _ _
  | .soOverload _ _ | .edmTimeout _ | .safetyUnlockExpiry | .pwdLockoutExpiry | .lcInrushEnd _ _ _
  | .lcCurrentLimitCutoff _ _ | .lcThermalLatch _ _ | .lcThermalRelease _ _ | .lcRetry _ | .lcRetryRefill _
  | .lcClampEvent _ _ | .lcOpenLoad _ _ _ | .lcOpenLoadClear _ _ | .lcStuck _ _ _ | .motorStall _ _ _
  | .motorRunTimeout _ | .motorBrakeEnd _ | .lcShed _ _ _ | .bezelPulseEnd _ | .bezelRestEnd | .bezelDropRepost
  | .bezelRecovery | .readerPoll _ _ | .cardPresenceCheck _ | .isoDepTimeout | .tagFieldOn | .tagFieldLoss | .tagReqa
  | .tagWupa | .tagAnticollision | .tagSelect | .tagHlta | .tagDeselect | .getInfo _ | .readBlock _ _
  | .writeBlock _ _ _ _ | .readCounter _ _ | .incrCounter _ _ _ _ | .pwdAuth _ _ | .authBegin _ _ | .authEnd _ _
  | .tagWriteCommit _ | .tagSilenceEnd | .tagTxnIdleTimeout | .tagScrub | .faultMirrorWrite | .tagHostLockWrite _
  | .mainsZeroCrossing _ _ _ | .zcLost _ | .beatFrameStart _ | .beatFrameReceived _ | .ofdmFrameStart
  | .ofdmDataFrame _ _ | .ofdmAckFrame _ | .ofdmAckTimeout | .probeFrame _ | .linkReportSend | .linkExpiry _
  | .partnerReportSend | .announceSend | .siteMessageRetry | .noPrivileged | .report | .share | .shareAck | .meterInfo
  | .linkReport | .toneMap | .announce | .hostData | .e2eAck | .hostProtocolError _ _ _ | .hostWriteApply
  | .registerWrite _ _ _ | .wideWord0Read _ _ | .glbPollRead _ | .hostWatchdog | .mbxNoticeComplete _ _ _
  | .mbxReplyRead _ _ | .interimReply _ _ | .dbOutSetWrite _ | .mainplateRequest _ _ _ _ | .bankGrant _ _ _
  | .backoffEnd _ _ _ | .masterCutoff _ _ | .arbCutoffClear _ | .scrubPassEnd _ | .scrubLag | .spareCopyDone _
  | .hackSet _ _ | .hackClear _ | .hackTimeout | .dmaStart _ _ | .dmaPause _ | .dmaResume _ | .dmaAbort _
  | .dmaVerify _ _ | .dmaDeadline _ | .svcChallengeExpiry _ | .svcLockoutEnd | .serviceWorldTimeout _
  | .ephemeralJewelClear _ | .entropyTestFail | .entropyRecovery | .drbgReseed | .lcFuseReadback _ | .updateLoadCommit
  | .updateRestoreDone | .caseFwReadyTimeout | .gpFwDeferredStart | .recFirstPart _ | .recFurtherPart _
  | .recCheckDirectory | .slackSample _ _ _ _ | .hourlyRecord _ _ _ _ | .clockStepApply _ | .clockStepCheckDone _
  | .powerFailWarning _ | .warningWithdrawn | .vsysToHold | .supplyReset | .railOut _ | .cpSupplyOut _ | .holdLow
  | .vbatLow | .lanePllLost _ | .periphClockLost _ | .coreClockLost _ | .thermalLimit _ | .refClockMeasure _
  | .chronoXtalStop | .chronoXtalRestore | .caseWatchdogReset | .faultEntryRead _ | .essMaxRead _ | .queueFullCntRead _
  | .compRunRead _ _ | .compDropRead _ _ | .swingCntRead _ | .chStatRead _ _ | .meterStateRead _ _ | .plsStatRead _ _
  | .tokCountRead _ | .sesProtoRead _ _ | .outSlacRead _ _ | .plBreachRead _ | .journalMaxRead _ | .gapMaxRead _
  | .redChecksRead _ | .safCountRead _ | .safReactRead _ | .lchCountRead _ _ | .bzlCountRead _ | .rdCountRead _
  | .tagStatRead _ | .sitCountRead _ | .sitErrRead _ | .sitDropRead _ | .hpdErrRead _ _ | .hpdClkRead _ _
  | .arbMissRead _ _ | .arbWaitRead _ _ | .arbLoadRead _ _ | .jwUseRead _ | .drbgRead _ | .pwrVauxRead _
  | .pwrDipsRead _ | .fltStatusRead _ | .fltCountRead _ | .calLoad _ _ | .calPatch _ _ | .calRestartUnits _
  | .calAbort _ | .calSlotInfo _ | .calEraseSlot _ | .calTagInstaller _ _ | .slotWriteCommit _ | .compMask _
  | .reserveTighten _ | .escPlanInfo _ | .snsSwingNow _ | .snsCalAbort _ | .snsKsCal _ | .snsRefCheck _ _ _
  | .snsSpareRetest _ _ | .snsCapture _ | .lglWallSet _ | .lglShowId _ | .lglReadLog _ | .lglReadBilling _
  | .lglReadTamperB _ | .lglBillClose _ | .tokSubmit _ | .tokReadIds _ | .sesAuthorise _ | .sesPreauth _ | .sesLimits _
  | .sesStop _ | .sesStopAbort _ | .sesCollect _ | .sesAck _ | .outEnable _ | .v2gTrust _ _ | .v2gCertReply _
  | .protClear _ | .rdcTest _ | .placePrice _ | .placeBattery _ | .placeSiteLimit _ | .placeInfo _ | .redSwap _
  | .redSelftest _ | .redLaneRestart _ | .redLaneEnable _ | .redInfo _ | .safUnlock _ | .safLock _ | .safSetPassword _
  | .safReset _ | .safGuard _ | .safReadLog _ | .lchDrive _ | .lchMotor _ | .lchClear _ | .lchOlTest _ _ _ | .bzlShow _
  | .bzlRefresh _ | .bzlStressRead _ | .nfcRdEnable _ | .nfcRdApdu _ | .nfcRdRelease _ | .nfcCardRespond _
  | .nfcTagRead _ | .nfcTagWrite _ | .nfcTagAbort _ | .nfcTagCounter _ | .nfcTagPwd _ | .sitSend _ | .sitRecv _
  | .sitLinkInfo _ | .sitProbe _ | .keySvcChallenge _ | .keySvcResponse _ | .keyPublic _ | .keyImport _ | .keyGenerate _
  | .keyRespond _ | .keyErase _ | .keyExport _ | .keyLcAdvance _ | .updBegin _ | .updChunk _ _ | .updAbort _
  | .updActivate _ | .updInfo _ | .wearReadHourly _ | .wearReadYearly _ | .wearEstimate _ | .remontoireOn
  | .remontoireOff | .railBackInRange _ | .periphClockReturn _ | .preambleLost | .isoDepBlockReceived _
  | .isnsSelectionChange _ | .unitRestartDone _ | .redSwapTimeout | .tamperClosedReading _ | .sextantStart _ _ => true

end Sys2Proof
end

