-- ==== Sys2Proof/Tests/Slice0.lean ====
section
/-! SUPPORT. Tests: an ill-formed term for each check of WellFormed, worked examples of the spec, and for each statement with
hypotheses a state and operands that meet them all (one conjunct a clause). -/
namespace Sys2Proof.Machine
section
set_option Elab.async false
set_option linter.unusedVariables false

/-- Whether an outcome is a next state. -/
def answers (o : Host.Outcome State Fault Refusal) : Bool := match o with | .next _ => true | _ => false

/-! ### Ill-formed terms that WellFormed refuses, each beside a well-formed one -/

theorem test_wf_hostRead : (Instr.hostRead 0 0 0 0 []).wf = false ∧ (Instr.hostRead 0 0 1025 0 []).wf = false ∧
    (Instr.hostRead 0 0 1024 0 []).wf = true := by decide +kernel
theorem test_wf_hostReadCrc : (Instr.hostReadCrc 0 0 0 0 []).wf = false ∧ (Instr.hostReadCrc 0 0 1 0 []).wf = true := by
  decide +kernel
theorem test_wf_hostWrite : (Instr.hostWrite 0 0 [] 0).wf = false ∧ (Instr.hostWrite 0 0 [0#32] 0).wf = true := by decide +kernel
theorem test_wf_hostWriteCrc : (Instr.hostWriteCrc 0 0 [] 0 0).wf = false ∧ (Instr.hostWriteCrc 0 0 [0#32] 0 0).wf = true := by
  decide +kernel
theorem test_wf_frameArrival : (Instr.frameArrival 0 { prim := [1] }).wf = false ∧
    (Instr.frameArrival 0 { prim := List.replicate 128 1, comp := List.replicate 32 1, beat := 65536 }).wf = false ∧
    (Instr.frameArrival 0 { prim := List.replicate 128 1, comp := List.replicate 32 1 }).wf = true := by decide +kernel
theorem test_wf_laneTempSample : (Instr.laneTempSample [1, 2, 3] [1, 2, 3, 4] 0 0).wf = false ∧
    (Instr.laneTempSample [1, 2, 3, 4] [1, 2, 3, 4] 0 0).wf = true := by decide +kernel
theorem test_wf_beat : (Instr.beat { aux := 2 ^ 24 }).wf = false := by decide +kernel
theorem test_wf_testPulse : (Instr.testPulse 0 true 65536).wf = false ∧ (Instr.testPulse 0 true 65535).wf = true := by decide +kernel
theorem test_wf_bezelRailResume : (Instr.bezelRailResume [1]).wf = false ∧ (Instr.bezelRailResume [1, 2, 3, 4]).wf = true := by
  decide +kernel
theorem test_wf_statusFrame : (Instr.statusFrame 0 0 []).wf = false ∧ (Instr.statusFrame 0 0 (List.replicate 16 0)).wf = true := by
  decide +kernel
theorem test_wf_pilotPeriodStart : (Instr.pilotPeriodStart 0 0 0 10001).wf = false ∧ (Instr.pilotPeriodStart 0 0 0 10000).wf = true := by
  decide +kernel
theorem test_wf_slacParamReq : (Instr.slacParamReq 0 [(0, 1), (0, 2)]).wf = false ∧ (Instr.slacParamReq 0 [(0, 1), (1, 2)]).wf = true := by
  decide +kernel
theorem test_wf_complicationPost : (Instr.complicationPost 0 0 0 0 0).wf = false ∧ (Instr.complicationPost 0 0 1 0 0).wf = true := by
  decide +kernel

/-! ### Machines for the tests -/

/-- A machine in a global state at beat t (1 and up), its generator counting beats, both lanes serving. -/
def at_ (g t : Nat) : State :=
  let s := (State.reset.put GLB_STATE_STATE g).put RED_STATUS_LA_STATE 6
  let s := ((s.put RED_STATUS_LB_STATE 6).wrN A_ESC_BEATNO_LO (t - 1)).wrN A_ESC_BEATNO_HI ((t - 1) / 2 ^ 32)
  { s with esc := { s.esc with gen := 2 }, glb := { s.glb with lifecycle := 1 } }

/-- A machine with a host command of port 0 that waits at mailbox 0, the port in SERVICE. -/
def cm (s : State) (code : Nat) (args : List Byte) : State :=
  let s := s.put GLB_WORLD_HP0 2
  { s with host := { s.host with exec := [{ mbox := 0, port := 0, code := code, seq := 1, replyAddr := 0x40000000, replyMax := 4096, args := args, beat := 0, started := false, answered := false, interim := false }] } }

/-- Words of a command's arguments. -/
def wd (l : List Nat) : List Byte := l.flatMap (le 4)

/-- MONO at a number of seconds. -/
def State.atMono (s : State) (m : Nat) : State := s.wrN A_LGL_MONO m

/-- The same with the port in OPERATOR. -/
def cmo (s : State) (code : Nat) (args : List Byte) : State := (cm s code args).put GLB_WORLD_HP0 0

/-- Jewels that hold a value. -/
def jw (s : State) (l : List Nat) : State := forEach l (fun j u => u.setJewel j (some 7)) s

/-- WALL at a number of seconds, the chronometer valid. -/
def State.atWall (s : State) (w : Nat) : State := (s.wrN (A_LGL_WALL + 4) w).updLgl (fun x => { x with valid := true })

/-- Outlet 0 of a kind (1 AC, 3 DC) with session 0 in a state. -/
def ses (s : State) (kind st : Nat) : State :=
  (((s.put (OUT_CFG_KIND 0) kind).put (OUT_STATE_SES 0) 0).put (SES_STATE_STATE 0) st).put (SES_STATE_OUTLET 0) 0

/-- Outlet 0 an AC outlet with the socket of kind 1, or a DC outlet. -/
def dc1 (s : State) : State := s.put (OUT_CFG_KIND 0) 1
def dc3 (s : State) : State := s.put (OUT_CFG_KIND 0) 3

/-- A battery converter as target 0 of controller 0. -/
def bat (s : State) : State := s.updConv 0 (fun x => { x with target := some (0, 0) })

/-- The site line up, privileged, its own address 1; and with a link to address 2 heard in this beat. -/
def sit (s : State) : State := ((s.put SIT_STATUS_STATE 2).put SIT_CFG_ROLE 1).put SIT_CFG_ADDR 1
def link2 (s : State) : State := ((sit s).updLinkRec 1 (fun x => { x with heard := some s.now })).put (SIT_LINK_TXMAP 1) 0x555

/-- An FCH with its CRC-8, and a frame in flight to address 2. -/
def fchOf (v : Nat) : BitVec 48 := BitVec.ofNat 48 (v + (at_ 3 1).fchCrc ((msb 48 v).take 40))
def flight : OfdmTx := { msg := { dst := 2, mtype := 8, payload := [] }, hop := 2, lseq := 0, segs := [], rest := [], due := some 9, start := 0 }

/-- A line write, an exchange, a tag write and a request that wait. -/
def lineW : LineWrite := { line := 0, content := 0, pol := false, t := 1, start := 0, rails := [0, 0, 0, 0] }
def isoEx : IsoEx := { cmd := ⟨0, 9⟩, addr := 0x40000000, rest := [], chunk := [], deadline := 0 }
def tagW : TagWrite := { key := 16, data := 1, seq := 0, old := 0, start := 0 }
def mpReq : MpReq := { master := 1, acc := ⟨0, false, 1, []⟩, due := 10, at_ := 0 }

/-- The crown tag in a state. -/
def tag (s : State) (n : Nat) : State := s.put NFC_TAG_STATE_STATE n

/-- The base point of P-384, the public key of the private key 1; and a signature of an empty section of the image
below under that key, with the nonce 1. -/
def gPub : List Nat := beBytes 48 curveP384.gx ++ beBytes 48 curveP384.gy
def sig1 : List Byte :=
  le 96 0x977FFBA84D545A91009E46126B8E6535C28CC35ABE4BA0A36FCEFB58B8F1C05DFC408C34BFE171B9B802C678BDD5C0BBB70A7672385E543A6C2955BF5DF20255382A5482E041F759989BA78B623B1D6E74AD20F31EC7B18E37058BBE22CA87AA

/-- An image whose header passes step 2 of R37, with four empty sections, each signed under the key above and stored in 128 bytes, and
whose thresholds pass R74. -/
def goodHdr : List Byte :=
  let d := (List.range 4).flatMap (fun k => le 4 (0x100 + 128 * k) ++ le 4 128 ++ le 4 0 ++ le 4 1)
  let h := padTo 0xFC (padTo 0x50 (le 4 0x424C4143 ++ le 2 3 ++ le 2 0x8200 ++ le 4 0 ++ le 4 0x300) ++ d)
  h ++ le 4 (crc32 h)
def goodCfg : ImgCfg := { regs := [(A_GOV_RES_THERM_CFG, 0x6E5F645A)], instKeys := [gPub] }
def goodImg : Image := { header := goodHdr, cfg := goodCfg, plain := List.replicate 4 (some sig1) }

/-- The stored form under J_4 = 7 of an empty section 3 of that image. -/
def goodSec : List Byte :=
  le 128 0x40AFBC4ABD94016B29B3389C2AD53852F9059F5176EE7C51F1EC79FB81CD53385B515410CC92E002E3E83CE5162733868EFD48A7C35F7B9AE500CD72E3316AB6E82B5F5EE5527BA642D0FA3FD578BBFA0547D2EB610FFDA4C1958978DA14535B157A5D6CE8EF2F94B627E4CB2B2211AE00000000000000000000000000000000

/-- A slot write in progress. -/
def slotW : SlotWrite := { slot := 1, img := {}, seq := 2, source := 2 }

/-- A tag whose record is VERSION 1 and that section, and an image that lets it in. -/
def tagged (s : State) : State :=
  let t := s.setTagVal 16 (0x52534E49 + 128 * 2 ^ 32 + 2 ^ 64 + 2 ^ 96 * crc32 goodSec)
  (forUpTo 8 (fun k u => u.setTagVal (17 + k) (ofLe ((goodSec.drop (16 * k)).take 16))) t).updCal (fun c =>
    { c with run := { cfg := { tagEn := true, instKeys := [gPub] } } })

/-- Channel 0 direct, modulator 9 a usable spare. -/
def swingable (s : State) : State :=
  ((s.put (SNS_CH_MAP_SRC 0) 1).put (SNS_MOD_STATE_ROLE 9) 1).put SNS_SWING_CFG_TEMP_TRIG 10

/-- The empty password set: J_29 holds a key, J_30 and its MRAM copy its value. -/
def pwdIn (s : State) : State :=
  let t := jw s [29]
  let v := some (t.pwdValue [])
  (t.setJewel 30 v).updKey (fun k => { k with mram := upd k.mram 30 (fun _ => v) })

/-- Outlet 0 energised with its pair on, both auxiliary contacts open and VAUX away. -/
def dropOut (s : State) : State :=
  let t := (s.put (OUT_CONTACT_CMD 0) 3).updProt 0 (fun p => { p with aux1 := 40 })
  { t with saf := { t.saf with elemL := 0xFFFFFF, elemH := 0xFFFFFF } }

/-- DMA channel 0 runs with 16 bytes left, from the first address of the Mainplate. -/
def State.dmaReady (s : State) : State :=
  ((s.put (DMA_C_STAT_STATE 0) 1).put (DMA_C_CUR_SRC_CUR_SRC 0) 0x40000000).put (DMA_C_REMAIN_REMAIN 0) 16

/-- A legal key in ROM, slot 0 holding the image above, at the step before the choice. -/
def State.romWith (s : State) (k : List Nat) : State :=
  (s.updKey (fun x => { x with romLegal := k })).updCal (fun c =>
    { c with step := 4, slots := [{ img := some goodImg, seq := 1, commit := true }, {}] })

/-! ### Worked examples of the spec -/

/-- R9's example: the four words of a legal total. -/
theorem test_r9_words_of_a_total :
    let s := State.reset.wr128 (A_MTR_M_TOTAL 0 0) 0x00000000000000028000000000000000
    [s.rdN (A_MTR_M_TOTAL 0 0), s.rdN (A_MTR_M_TOTAL 0 0 + 4), s.rdN (A_MTR_M_TOTAL 0 0 + 8), s.rdN (A_MTR_M_TOTAL 0 0 + 12)] =
      [0, 0x80000000, 2, 0] := by decide +kernel

/-- R63's example: late in beats 900 000, 900 700, 901 020 the lane runs on; the fourth at 901 023 fails it, at 901 024 not. -/
theorem test_r63_four_late_beats :
    let three := ((at_ 3 901023).setLates 0 [901020, 900700, 900000])
    let after := ((at_ 3 901024).setLates 0 [901020, 900700, 900000])
    three.esc.failedA = false ∧ (three.lateBeat 0 true).resigned 0 = some 0x2003 ∧ (after.lateBeat 0 true).resigned 0 = none := by
  decide +kernel

/-- The admission of the escapement's example in beat 2 480 000: HARMONIC and DISPLAY are admitted, SITE_OFDM is dropped, TLS waits. -/
theorem test_escapement_example_admission :
    let s := (({ at_ 3 2480000 with esc := { (at_ 3 2480000).esc with stepA := 1, thermA := 1 } } : State).put
      GOV_RES_KINDS_ENABLE 0x3F).setQueue 0
      [⟨5, 1400, 2479999, 0⟩, ⟨0, 1200, 2480000, 0⟩, ⟨2, 1900, 2480002, 0⟩, ⟨4, 300, 2480040, 0⟩]
    s.window 0 = 2578 ∧ ((s.admitSlices 0).slices 0).map (·.kind) = [0, 4] ∧ ((s.admitSlices 0).queue 0).map (·.kind) = [2] := by
  decide +kernel

/-- DERATE of the same example: 114.0 °C between 110 and 120 °C. -/
theorem test_r73_example :
    (((at_ 3 1).put GOV_RES_THERM_CFG_CASE_START 110).put GOV_RES_THERM_CFG_CASE_END 120).derateOf 1140 1 = 0x9999 := by
  decide +kernel

/-- The arbiter's example: at cycle 100 HP_0 wins; at cycle 101 the others back off for one more cycle. -/
theorem test_r356_example :
    let req := fun (m at_ d n : Nat) => ({ master := m, acc := ⟨0, false, n, []⟩, due := d, at_ := at_ } : MpReq)
    let l := [req 1 90 6000 4, req 6 95 80 1, req 10 84 300 2, req 8 100 4000 16]
    (leastSlack 100 l).map (·.master) = some 6 ∧ l.map (·.slack 100) = [5990, 75, 284, 4000] ∧
      ((req 1 90 6000 4).lose 100).backEnd = 101 := by decide +kernel

/-- The words of SEQ 88 401 in the example of the fault log. -/
theorem test_r423_example :
    let e : FaultEntry := ⟨120000000, 0xC104, 41300000, 948066000, 88401, 2, 2, false, false, 0x0FFF, 0xFFFFD5D0⟩
    (List.range 8).map (fun k => ofLe ((e.bytes.drop (4 * k)).take 4)) =
      [0x07270E00, 0xC1040000, 0x02763020, 0, 0x388256D0, 0x00015951, 0x0FFF0202, 0xFFFFD5D0] := by decide +kernel

/-- The slack of 49 ps at 1.2 GHz is 124.8 ps at 1.1 GHz. -/
theorem test_r401_example : convertSlack 49 0 1 = 1248 := by decide +kernel

/-- Insulation of O_9: R_p = 400 kΩ from millivolts rounded as the table gives them, R_iso = 384 kΩ. -/
theorem test_r198_example :
    ((poleOhm 200000 2000000 133333 666667 55814 744186).getD 0 + 500) / 1000 = 400 ∧
      (isoOhm (some 400000) (some 10000000)).map (· / 1000) = some 384 := by decide +kernel

/-- R231: a CAN_TX record, TYPE 0x05, LEN 3, KEY 3, ISEQ 1, SEQ 7 and CRC 9; of 600 bytes only the digest stands in the record. -/
theorem test_r231_record_bytes :
    (JRecord.bytes { type := 5, key := 3, iseq := 1, head := le 2 7 ++ le 2 9 }).map BitVec.toNat = [5, 3, 3, 0, 1, 0, 0, 0, 7, 0, 9, 0] ∧
      JRecord.size { type := 7, key := 1, iseq := 1, head := le 4 0 ++ le 2 600, data := List.replicate 600 0#8 } = 48 := by
  decide +kernel

/-- R229: with a synchronised standby a reply waits for the acknowledgement of the entry that records it. -/
theorem test_r229_reply_waits :
    let h : Held := { beat := 1, port := 0, seq := 1, addr := 0x40000000, bytes := [], notice := ⟨8, 0, 0⟩ }
    let s := (at_ 3 5).set1 GLB_STATE_STANDBY_OK
    let t := State.journalEntry { s with host := { s.host with held := [h] } } false
    t.releaseReplies.host.held.length = 1 ∧
      (match execJournalAck 1 t with | .next u => u.releaseReplies.host.held.length | _ => 9) = 0 := by
  decide +kernel

/-! Worked examples of the named standards: FIPS 197 C.1 and C.3, FIPS 180-4 "abc", twice the base point of P-256 (SP 800-186), the
first X448 example of RFC 7748. -/

theorem test_aes_examples :
    beNum (aesBlock 4 (beBytes 16 0x000102030405060708090A0B0C0D0E0F) (beBytes 16 0x00112233445566778899AABBCCDDEEFF)) =
      0x69C4E0D86A7B0430D8CDB78070B4C55A ∧
    beNum (aes256 (beBytes 32 0x000102030405060708090A0B0C0D0E0F101112131415161718191A1B1C1D1E1F)
      (beBytes 16 0x00112233445566778899AABBCCDDEEFF)) = 0x8EA2B7CA516745BFEAFC49904B496089 := by decide +kernel

theorem test_sha384_abc :
    beNum (sha384 [97, 98, 99]) =
      0xCB00753F45A35E8BB5A03D699AC65007272C32AB0EDED1631A8B605A43FF5BED8086072BA1E7CC2358BAECA134C825A7 := by decide +kernel

theorem test_p256_double :
    beNum ((curveP256.pubBytes 2).take 32) = 0x7CF27B188D034F7E8A52380304B51AC3C08969E277F21B35A60B48FC47669978 := by decide +kernel

theorem test_x448 :
    beNum (x448 (leNum (beBytes 56 0x3D262FDDF9EC8E88495266FEA19A34D28882ACEF045104D0D1AAE121700A779C984C24F8CDD78FBFF44943EBA368F54B29259A4F1C600AD3))
      (beBytes 56 0x06FCE640FA3487BFDA5F6CF2D5263F8AAD88334CBD07437F020F08F9814DC031DDBDC38C19C6DA2583FA5429DB94ADA18AA7A7FB4EF8A086)) =
      0xCE3E4FF95A60DC6697DA1DB1D85E6AFBDF79B50A2412D7546D5F239FE14FBAADEB445FC66A01B0779D98223961111E21766282F73DD96B6F := by
  decide +kernel

/-- R302, ISO/IEC 14443-3 annex B: CRC_A of 0x12 0x34 is 0xCF26 and of 0x00 0x00 is 0x1EA0. -/
theorem test_crc_a : crcA 0x6363 [0x12#8, 0x34#8] = 0xCF26 ∧ crcA 0x6363 [0#8, 0#8] = 0x1EA0 := by decide

/-! ### Witnesses of the statements -/

/-! The statements over single operations and over the whole machine. -/

/-- StepRunsFrontCommand: both premises. -/
theorem stepRunsFrontCommand_hypotheses_met :
    ({ State.reset with pending := [.priceStale] } : State).pending = .priceStale :: [] ∧ State.reset.pending = [] := ⟨rfl, rfl⟩

/-- ResetIsGood's machine with a command that waits is good, and its step answers a next state: StepKeepsGood. -/
theorem stepKeepsGood_hypotheses_met :
    let s : State := { at_ 3 1 with pending := [.hostRead 0 0 1 0 []] }
    (kvWf regReset s.regs && Memory.wf s.ram && decide (s.flt.ring.length ≤ 4096) && decide (s.lgl.log.length ≤ 1024) &&
      decide (s.saf.log.length ≤ 64) && answers (step s)) = true := by decide +kernel

/-- FieldReadAfterWrite: fields of another word, and above and below in the same word, in a state with written registers. -/
theorem fieldReadAfterWrite_hypotheses_met :
    let s := at_ 3 1
    kvWf regReset s.regs = true ∧ GLB_STATE_STATE.lo + GLB_STATE_STATE.len ≤ 32 ∧
      (SIT_CFG_ROLE.addr ≠ GLB_STATE_STATE.addr) ∧ SIT_CFG_ADDR.lo + SIT_CFG_ADDR.len ≤ SIT_CFG_ROLE.lo ∧
      SIT_CFG_ADDR.addr = SIT_CFG_ROLE.addr := by decide +kernel

/-- AccumulatorAddExact at both ends of the register. -/
theorem accumulatorAddExact_hypotheses_met :
    let a := A_MTR_M_TOTAL 0 0
    kvWf regReset State.reset.regs = true ∧ State.reset.rd128i a + (2 ^ 127 - 1) < (2 : Int) ^ 127 ∧
      -(2 : Int) ^ 127 ≤ State.reset.rd128i a + -(2 : Int) ^ 127 := by decide +kernel

/-- MainplateStore at the first and at the last byte of the window. -/
theorem mainplateStore_hypotheses_met :
    Memory.wf State.reset.ram = true ∧ State.reset.mp.poison = [] ∧ mainplateBase ≤ mainplateBase ∧
      mainplateBase + [1#8, 2#8].length ≤ 0x41000000 ∧ 0x40FFFFFF + [1#8].length ≤ 0x41000000 := by decide +kernel

/-- FaultLogWrite and QueueOf256: registers in canonical form; queues of 255 and 256 entries. -/
theorem queueOf256_hypotheses_met :
    kvWf regReset (at_ 3 1).regs = true ∧
    ((at_ 3 1).setQueue 0 (List.replicate 255 ⟨1, 1, 1, 0⟩)).queue 0 = List.replicate 255 ⟨1, 1, 1, 0⟩ ∧
    ((at_ 3 1).setQueue 0 (List.replicate 256 ⟨1, 1, 1, 0⟩)).queue 0 = List.replicate 256 ⟨1, 1, 1, 0⟩ := by decide +kernel

/-- AdmissionWindow: a lane forced hot. -/
theorem admissionWindow_hypotheses_met :
    ({ at_ 3 1 with esc := { (at_ 3 1).esc with thermA := 2 } } : State).therm 0 = 2 ∧
      ((at_ 3 1).set1 GOV_RES_STATE_CEIL).isSet GOV_RES_STATE_CEIL = true ∧ ((at_ 3 1).set1 PWR_STATUS_WARN).warned = true ∧
      (at_ 3 1).owner = 0 := by decide +kernel

/-- DerateOfTemperature: thresholds of 95 and 110 °C. -/
theorem derateOfTemperature_hypotheses_met :
    let s := ((at_ 3 1).put GOV_RES_THERM_CFG_CASE_START 95).put GOV_RES_THERM_CFG_CASE_END 110
    s.get GOV_RES_THERM_CFG_CASE_START < s.get GOV_RES_THERM_CFG_CASE_END := by decide +kernel

/-- CorrectionSegment: a table whose breakpoints rise. -/
theorem correctionSegment_hypotheses_met :
    ∀ j, j < 7 → (nth ((List.range 8).map (fun k => (100 * k, (0 : Int), (0 : Int)))) (0, 0, 0) j).1 <
      (nth ((List.range 8).map (fun k => (100 * k, (0 : Int), (0 : Int)))) (0, 0, 0) (j + 1)).1 := by decide +kernel

/-- RailLossResets: a supply fault kept for the next start. -/
theorem railLossResets_hypotheses_met :
    kvWf regReset (at_ 3 1).regs = true ∧
      ({ at_ 1 1 with pwr := { (at_ 1 1).pwr with fault := some (0xC103, 2) } } : State).pwr.fault = some (0xC103, 2) := by
  decide +kernel

/-- ResetAccess: a running port in OPERATOR, one in SERVICE, and a machine in SETTING. -/
theorem resetAccess_hypotheses_met :
    (at_ 3 1).glb.lifecycle ≠ 4 ∧ (at_ 3 1).gstate = 3 ∧ ((at_ 3 1).put GLB_WORLD_HP0 1).inService 0 = false ∧
      ((at_ 3 1).put GLB_WORLD_HP0 2).inService 0 = true ∧ (at_ 2 1).gstate ≠ 3 ∧ (at_ 2 1).gstate ≠ 4 := by decide +kernel

/-- Crc16OfTransactions: a READ_CRC of the first register. -/
theorem crc16OfTransactions_hypotheses_met :
    let s := at_ 3 1
    s.pwr.off = false ∧ shapeOk 0 1 = true ∧ (0 : Nat) < s.host.out.length ∧
      (readWords 0 0 (window338 0) [] 1 0 {} (s.countTxn 0 0)).1.bad = false ∧
      (0 : Nat) < (readWords 0 0 (window338 0) [] 1 0 {} (s.countTxn 0 0)).2.host.out.length := by decide +kernel

/-- ThermalLatchWins: a channel in WAIT whose delay has ended and whose latch is set. -/
theorem thermalLatchWins_hypotheses_met :
    let s := ((at_ 3 1).put (LCH_STATE_ST 0) lcWAIT).set1 (LCH_STATE_LATCH 0)
    kvWf regReset s.regs = true ∧ s.lcst 0 = lcWAIT ∧ (s.lc 0).due ≤ s.now ∧ (s.lc 0).pend ≠ some false ∧
      s.isSet (LCH_STATE_LATCH 0) = true := by decide +kernel

/-- CommandsTurnedAway: no such command, a state its table does not name, a port outside SERVICE, a command that is taken. -/
theorem commandsTurnedAway_hypotheses_met :
    (at_ 3 1).waitingCmd 0 0x0101 = none ∧ ((cm (at_ 3 1) 0x0707 []).waitingCmd 0 0x0707).isSome = true ∧
      Accept.single.ok (at_ 3 1).gstate = false ∧ Accept.running.ok (at_ 3 1).gstate = true ∧
      (cmo (at_ 3 1) 0x0707 []).inService 0 = false ∧ (cm (at_ 3 1) 0x0707 []).inService 0 = true := by decide +kernel


/-- States and operands that meet the hypotheses of each clause of LoadChannelRowsComplete. -/
theorem loadChannelRows_hypotheses_met :
    [
    -- lcInrushEnd
    (let k : Fin 16 := 0
    let vOut : Int := 0
    let vaux : Int := 0
    let s : State := (at_ 3 1).put (LCH_STATE_ST 0) 1
    decide ((s.inrushOver k)) && (
    let t := s.puti (LCH_MEAS_V_OUT k) (satI 16 vOut)
    decide ((vOut ≥ vaux - 100)) && (
    true))),
    -- lcInrushEnd#2
    (let k : Fin 16 := 0
    let vOut : Int := 0
    let vaux : Int := 24000
    let s : State := (at_ 3 1).put (LCH_STATE_ST 0) 1
    decide ((s.inrushOver k)) && (
    let t := s.puti (LCH_MEAS_V_OUT k) (satI 16 vOut)
    decide (¬(vOut ≥ vaux - 100)) && (
    true))),
    -- lcCurrentLimitCutoff
    (let k : Fin 16 := 0
    let held : Nat := 100000
    let s : State := (at_ 3 1).put (LCH_STATE_ST 0) 2
    let hb := s.isSet (LCH_CFG_HB k) && s.pairOn? (k.val / 2)
    decide (((s.lcst k = lcON ∨ s.lcst k = lcLIMIT ∨ hb) ∧ s.get (LCH_LIMITS_T_LIM k) ≤ held)) && (
    true)),
    -- lcCurrentLimitCutoff#2
    (let k : Fin 16 := 0
    let held : Nat := 1
    let s : State := ((at_ 3 1).put (LCH_STATE_ST 0) 2).put (LCH_LIMITS_T_LIM 0) 100
    let hb := s.isSet (LCH_CFG_HB k) && s.pairOn? (k.val / 2)
    decide (¬((s.lcst k = lcON ∨ s.lcst k = lcLIMIT ∨ hb) ∧ s.get (LCH_LIMITS_T_LIM k) ≤ held)) && (
    decide ((s.lcst k = lcON ∧ held ≠ 0)) && (
    true))),
    -- lcThermalLatch
    (let k : Fin 16 := 0
    let temp : Int := 1700
    let s : State := (at_ 3 1).put (LCH_STATE_ST 0) 2
    decide ((temp ≥ 1700 ∧ !s.isSet (LCH_STATE_LATCH k))) && (
    let t := (s.puti (LCH_STATE_TEMP k) (satI 16 temp)).set1 (LCH_STATE_LATCH k)
    decide (¬(s.lcst k = lcFAULT ∨ s.lcst k = lcSTOPWORK)) && (
    let t := t.raise 0x8002 NOTE srcCase k (twos 32 temp)
    decide ((s.lcOn k || (s.isSet (LCH_CFG_HB k) && s.pairOn? (k.val / 2)))) && (
    true)))),
    -- lcThermalRelease
    (let k : Fin 16 := 0
    let temp : Int := 0
    let s : State := ((at_ 3 1).put (LCH_STATE_ST 0) 5).set1 (LCH_STATE_LATCH 0)
    decide ((temp < 1450 ∧ s.isSet (LCH_STATE_LATCH k))) && (
    let t := (s.puti (LCH_STATE_TEMP k) (satI 16 temp)).clr (LCH_STATE_LATCH k)
    decide ((s.lcst k = lcDEFER)) && (
    true))),
    -- lcRetry
    (let k : Fin 16 := 0
    let s : State := ((at_ 3 1).put (LCH_STATE_ST 0) 4).set1 (LCH_STATE_LATCH 0)
    decide ((s.lcst k = lcWAIT ∧ (s.lc k).due ≤ s.now ∧ (s.lc k).pend ≠ some false)) && (
    decide ((s.isSet (LCH_STATE_LATCH k))) && (
    true))),
    -- lcRetry#2
    (let k : Fin 16 := 0
    let s : State := (at_ 3 1).put (LCH_STATE_ST 0) 4
    decide ((s.lcst k = lcWAIT ∧ (s.lc k).due ≤ s.now ∧ (s.lc k).pend ≠ some false)) && (
    decide (¬(s.isSet (LCH_STATE_LATCH k))) && (
    true))),
    -- lcRetryRefill
    (let k : Fin 16 := 0
    let s : State := (at_ 3 50000).put (LCH_STATE_ST 0) 2
    decide ((s.lcst k = lcON ∧ (s.lc k).onBeat + 40000 ≤ s.now)) && (
    true)),
    -- lcClampEvent
    (let k : Fin 16 := 0
    let e : Nat := 1000000
    let s : State := at_ 3 1
    decide (¬(s.isSet (LCH_CFG_HB k))) && (
    let t := s.putSat (LCH_CLAMP_E_LAST k) e
    let t := (t.updLc k (fun c => { c with clamps := c.clamps ++ [(s.now, e)] })).clampSum k
    let t := { t with lch := { t.lch with clampNow := t.lch.clampNow + e } }
    decide ((s.get (LCH_CLAMP_CFG_E_EVT k) < e ∨ s.get (LCH_CLAMP_CFG_E_SEC k) < t.get (LCH_CLAMP_E_SUM k))) && (
    let t := ((t.lcTurnOff k lcSTOPWORK).set1 (LCH_STATE_STOPWORK k)).putBit LCH_LOCKS_STOPWORK k true
    let t := t.unclear k
    true))),
    -- lcOpenLoad
    (let k : Fin 16 := 0
    let iUa : Nat := 0
    let vauxMv : Nat := 24000
    let s : State := ((at_ 3 1).put (LCH_STATE_ST 0) 2).put (LCH_OL_OL_I 0) 5
    decide ((s.lcst k = lcON ∧ !s.isSet (LCH_CFG_HB k) ∧ !s.isSet (LCH_STATE_OL k) ∧ iUa < s.openLoadUa k ∧ 9000 ≤ vauxMv)) && (
    true)),
    -- lcOpenLoadClear
    (let k : Fin 16 := 0
    let o : OpenObs := ⟨1000000, 24000⟩
    let s : State := (at_ 3 1).set1 (LCH_STATE_OL 0)
    decide ((s.isSet (LCH_STATE_OL k) ∧ s.openLoadUa k ≤ o.iUa ∧ 9000 ≤ o.vauxMv)) && (
    true)),
    -- lcStuck
    (let k : Fin 16 := 0
    let vOut : Int := 0
    let vaux : Int := 0
    let s : State := at_ 3 1
    decide ((!s.isSet (LCH_STATE_CMD k) ∧ vOut > vaux - 200 ∧ !(s.lc k).stuck)) && (
    let t := ((s.updLc k (fun c => { c with stuck := true })).puti (LCH_MEAS_V_OUT k) (satI 16 vOut)).putBit LCH_STATUS_FAULT k true
    true)),
    -- motorStall
    (let j : Fin 4 := 0
    let i : Nat := 100000
    let held : Nat := 1000000
    let s : State := (at_ 3 1).put (LCH_P_STATE_MODE 0) 1
    decide ((s.running? j ∧ s.get (LCH_P_CFG_STALL j) < i ∧ s.get (LCH_P_CFG_T_STALL j) ≤ held)) && (
    true)),
    -- motorRunTimeout
    (let j : Fin 4 := 0
    let s : State := (at_ 3 100).put (LCH_P_STATE_MODE 0) 1
    decide ((s.running? j ∧ (s.mrun j).start + 40 * (s.mrun j).tRun ≤ s.now)) && (
    true)),
    -- motorBrakeEnd
    (let j : Fin 4 := 0
    let s : State := ((at_ 3 100000).put (LCH_P_STATE_MODE 0) 3).updRun 0 (fun r => { r with cmd := some ⟨0, 1⟩ })
    decide ((s.get (LCH_P_STATE_MODE j) = 3 ∧ (s.mrun j).brake + 40 * s.get (LCH_P_CFG_T_BRAKE j) ≤ s.now)) && (
    true)),
    -- lcShed
    (let _x : Unit := ()
    let _y : Unit := ()
    let _z : Unit := ()
    let s : State := (fun (u : State) => { u with lch := { u.lch with overBeats := 40 } }) ((((at_ 3 1).put (LCH_STATE_ST 3) 2).put (LCH_CFG_SHED 3) 1).put (LCH_MEAS_I 3) 17000)
    let sum := s.lcAmps
    let start := (decide (16000 < sum) && decide (40 ≤ s.lch.overBeats)) || decide (3000 < s.get LCH_TOTAL_P_DISS)
    let cont := s.lch.shedding && (decide (16000 < sum) || decide (3000000000 < s.lcLoss s.lcOn))
    decide ((cont || (!s.lch.shedding && start))) && (
    decide (¬(s.lch.shedding && decide (s.now < s.lch.shedBeat + 40))) && (
    (match s.shedPick with
    | some k =>
    let t := if s.isSet (LCH_CFG_HB k) then s.cutRun (k / 2) else s.lcTurnOff k lcSHED
    let t := t.putBit LCH_LOCKS_SHED k true
    let t := { t with lch := { t.lch with shedding := true, shedBeat := s.now } }
    true
    | _ => false)))),
    -- lchDrive
    (let mb : Fin 8 := 0
    let s : State := cm (at_ 3 1) 0x0901 []
    (match s.waitingCmd mb 0x0901 with
    | some c =>
    decide (Accept.running.ok s.tableState = true ∧ (false && !s.inService c.port) = false) && (
    let u0 := (s.startCmd c).inside
    let mask := c.u32 0 % 2 ^ 16
    let levels := c.u32 0 / 2 ^ 16
    decide (¬((List.range 16).any (fun k => mask.testBit k && u0.isSet (LCH_CFG_HB k)))) && (
    let bad := u0.driveRefused mask levels
    let t := forUpTo 16 (fun k u =>
      when (mask.testBit k && !bad.testBit k) (fun v => v.lcCommand k (levels.testBit k)) u) u0
    decide ((bad = 0)) && (
    true)))
    | _ => false)),
    -- lchMotor
    (let mb : Fin 8 := 0
    let s : State := cm (((((at_ 3 1).put (LCH_CFG_USE 0) 1).set1 (LCH_CFG_HB 0)).put (LCH_CFG_USE 1) 1).set1 (LCH_CFG_HB 1)) 0x0902 (wd [0, 1, 100])
    (match s.waitingCmd mb 0x0902 with
    | some c =>
    decide (Accept.running.ok s.tableState = true ∧ (false && !s.inService c.port) = false) && (
    let u0 := (s.startCmd c).inside
    let j := c.u32 0
    let op := c.u32 1
    let tRun := c.u32 2
    let r : CmdRef := { port := c.port, seq := c.seq }
    decide (¬(j ≥ 4 ∨ op > 2)) && (
    decide (¬(!u0.hostPair j)) && (
    decide (¬(op = 0)) && (
    decide (¬(tRun < 10 ∨ 2000 < tRun)) && (
    decide (¬((u0.mrun j).want ≠ 0 ∨ u0.pairOn? j)) && (
    decide (¬(u0.isSet (LCH_STATE_LATCH (2 * j)) || u0.isSet (LCH_STATE_LATCH (2 * j + 1)))) && (
    let t := (u0.putBit LCH_LOCKS_SHED (2 * j) false).putBit LCH_LOCKS_SHED (2 * j + 1) false
    true)))))))
    | _ => false)),
    -- lchClear
    (let mb : Fin 8 := 0
    let s : State := cm (at_ 3 1) 0x0903 []
    (match s.waitingCmd mb 0x0903 with
    | some c =>
    decide (Accept.runHold.ok s.tableState = true ∧ (false && !s.inService c.port) = false) && (
    let u0 := (s.startCmd c).inside
    let mask := c.u32 0 % 2 ^ 16
    let hot : Nat := u0.hotMask mask
    let t := forUpTo 16 (fun k u => when (mask.testBit k && !hot.testBit k) (fun v =>
      v.clearChannel { port := c.port, seq := c.seq } k) u) u0
    decide ((hot = 0)) && (
    true))
    | _ => false)),
    -- lchOlTest
    (let mb : Fin 8 := 0
    let vOut : Int := 0
    let vaux : Int := 24000
    let s : State := cm (at_ 3 1) 0x0904 []
    (match s.waitingCmd mb 0x0904 with
    | some c =>
    decide (Accept.running.ok s.tableState = true ∧ (false && !s.inService c.port) = false) && (
    let u0 := (s.startCmd c).inside
    let k := c.u32 0
    decide (¬(k ≥ 16)) && (
    decide (¬(u0.lcOn k || u0.lcst k == lcWAIT || u0.lcst k == lcDEFER || (u0.isSet (LCH_CFG_HB k) && u0.pairOn? (k / 2)))) && (
    decide (¬(vOut > vaux - 200)) && (
    decide (¬(vOut > 300)) && (
    decide ((vOut < 50)) && (
    true))))))
    | _ => false))
    ].all id = true := by decide +kernel

/-- States and operands that meet the hypotheses of each clause of SafetyEventsComplete. -/
theorem safetyEvents_hypotheses_met :
    [
    -- safetyInputAccept
    (let hw : Bool := true
    let n : Fin 16 := 0
    let run : SiRun := ⟨10, [true]⟩
    let us : Nat := 0
    let s : State := at_ 3 1
    (match s.runLevel n run with
    | some level =>
    decide ((s.running || s.gstate == 5)) && (
    let k := n.val / 2
    decide ((hw)) && (
    let was := s.demand (s.get SAF_INPUTS_SI) k
    let t := s.putBit SAF_INPUTS_SI n level
    let t := t.trackFn k
    let t := when (s.fnType k == 7 && decide (n.val % 2 = 0)) (fun u => u.resetButton k level) t
    let t := forUpTo 8 (fun f u => when (decide (f = k) || decide (u.get (SAF_FN_CFG_LOCK_FN f) = k))
      (fun v => (v.trackFn f).evalFn 1 f) u) t
    let now_ := t.demand (t.get SAF_INPUTS_SI) k && !was
    let t := when now_ (fun u => { u with saf := { u.saf with fresh := natBit u.saf.fresh k true } }) t
    let t := when now_ (fun u => u.raiseTo SAF_REACT_HW_MAX us) t
    true))
    | _ => false)),
    -- discrepancyTimeout
    (let k : Fin 8 := 0
    let s : State := ((at_ 3 100000).put (SAF_FN_CFG_TYPE 0) 1).updFn 0 (fun f => { f with incons := some 0 })
    (match (s.fn k).incons with
    | some b =>
    decide ((b + 40 * s.get (SAF_FN_TIME_DISCREP k) < s.now ∧ s.canFault k ∧ !s.settingPos)) && (
    let t := (s.set1 SAF_EVENTS_DISCREP).raise 0x7002 DEGRADE srcCase k 0
    true)
    | _ => false)),
    -- testPulse
    (let st : Fin 4 := 0
    let readback : Bool := false
    let bad : Nat := 0
    let s : State := at_ 3 1
    decide (¬(s.settingPos)) && (
    let fed (k : Nat) : Bool := s.get (SAF_FN_CFG_ST1 k) == st.val || s.get (SAF_FN_CFG_ST2 k) == st.val
    let t := s.putBit SAF_INPUTS_ST_OK st readback
    let t := if readback then t
      else
        let t := ((t.set1 SAF_EVENTS_TEST_FAIL).inc SAF_COUNT_TEST_FAILS).raise 0x7004 DEGRADE srcCase st 0
        forUpTo 8 (fun k u => when (fed k) (fun v => v.inputFault k 0x7004) u) t
    true)),
    -- safetyCycle
    (let s : State := at_ 3 40
    decide ((s.running ∧ s.now % 40 = 0)) && (
    let t := forUpTo 8 (fun k u => ((u.trackFn k).evalFn 1 k).evalFn 0 k) s
    let t := when (decide (s.saf.demandBeat ≠ 0)) (fun u =>
      let v := u.raiseTo SAF_REACT_LANE_MAX ((s.now - s.saf.demandBeat) * 25)
      { v with saf := { v.saf with demandBeat := 0 } }) t
    let t := forUpTo 8 (fun k u =>
      when (s.saf.resets.testBit k && !s.saf.fresh.testBit k) (fun v =>
        let v := when (v.pathState 1 k == 1) (fun w => w.setPath 1 k 2) v
        when (v.pathState 0 k == 1) (fun w => w.setPath 0 k 2) v) u) t
    let t := { t with saf := { t.saf with resets := 0, fresh := 0 } }
    let t := forUpTo 8 (fun k u => u.fnHeal k) t
    let t := forUpTo 8 (fun k u =>
      let dif := u.fnReal k && u.pathState 0 k != u.pathState 1 k
      u.updFn k (fun f => { f with
        disagree := if dif then (if f.disagree.isSome then f.disagree else some s.now) else none
        cond := natBit f.cond 2 dif })) t
    true)),
    -- hwPathCompare
    (let agree : Bool := true
    let s : State := at_ 3 1
    decide ((agree)) && (
    true)),
    -- hwPathCompare#2
    (let agree : Bool := false
    let s : State := { at_ 3 1 with saf := { (at_ 3 1).saf with hwDiff := 1 } }
    decide (¬(agree)) && (
    let t := { (s.clr SAF_STATUS_HW_OK) with saf := { s.saf with hwDiff := s.saf.hwDiff + 1 } }
    decide ((s.saf.hwDiff + 1 = 2)) && (
    true))),
    -- pathDisagree
    (let k : Fin 8 := 0
    let s : State := ((at_ 3 100000).updFn 0 (fun f => { f with disagree := some 0 })).setPath 0 0 2
    (match (s.fn k).disagree with
    | some b =>
    decide ((b + 4 * s.get (SAF_FN_TIME_FILTER k) + 80 < s.now ∧ s.pathState 0 k ≠ s.pathState 1 k)) && (
    true)
    | _ => false)),
    -- stop1Expiry
    (let p : Fin 12 := 0
    let hw : Bool := true
    let s : State := { at_ 3 1 with saf := { (at_ 3 1).saf with stopH := 1 } }
    decide ((s.stop1Over hw p)) && (
    let t := { s with saf := { s.saf with
      stopL := if hw then s.saf.stopL else natBit s.saf.stopL p false
      stopH := if hw then natBit s.saf.stopH p false else s.saf.stopH } }
    true)),
    -- lockFault
    (let k : Fin 8 := 0
    let s : State := ((at_ 3 100000).updFn 0 (fun f => { f with lockOpen := some 0 })).put (SAF_FN_CFG_TYPE 0) 4
    (match (s.fn k).lockOpen with
    | some b =>
    decide ((s.fnType k = 4 ∧ b + 40 * s.get (SAF_FN_TIME_DISCREP k) < s.now ∧ s.canFault k ∧ !s.settingPos)) && (
    true)
    | _ => false)),
    -- soOffPulse
    (let k : Fin 24 := 0
    let low : Bool := false
    let restored : Bool := false
    let vauxMv : Nat := 24000
    let s : State := at_ 3 1
    decide (¬(s.settingPos)) && (
    let on := (s.get SAF_OUTPUTS_SO).testBit k
    let t := when on (fun u => { u with saf := { u.saf with pulseH := natBit u.saf.pulseH k (!u.saf.pulseH.testBit k) } }) s
    decide (¬(vauxMv < 18000)) && (
    decide ((!low)) && (
    true)))),
    -- soOverload
    (let k : Fin 24 := 0
    let mA : Nat := 2000
    let s : State := (at_ 3 1).put SAF_OUTPUTS_SO 1
    decide (((s.get SAF_OUTPUTS_SO).testBit k ∧ 1000 < mA)) && (
    true))
    ].all id = true := by decide +kernel

/-- States and operands that meet the hypotheses of each clause of SafetyCommandsComplete. -/
theorem safetyCommands_hypotheses_met :
    [
    -- edmTimeout
    (let p : Fin 12 := 0
    let s : State := ((({ at_ 3 10000 with saf := { (at_ 3 10000).saf with edm := [some 0] } } : State).put (SAF_PAIR_CFG_USE 0) 2).set1 (SAF_PAIR_CFG_EDM 0)).put PWR_VAUX_VAUX 2400
    (match nth s.saf.edm none p with
    | some b =>
    decide ((s.vauxJudges ∧ s.get (SAF_PAIR_CFG_USE p) = 2 ∧ s.isSet (SAF_PAIR_CFG_EDM p) ∧
        (b + 8000 ≤ s.now ∨ (s.machineWaits p && s.auxPair p != 0)))) && (
    true)
    | _ => false)),
    -- safetyUnlockExpiry
    (let s : State := (at_ 3 1).set1 CAL_STATUS_SAFETY_UNLOCK
    decide ((s.isSet CAL_STATUS_SAFETY_UNLOCK ∧ s.saf.unlockEnd ≤ s.mono)) && (
    true)),
    -- pwdLockoutExpiry
    (let s : State := (at_ 3 1).set1 SAF_PWD_LOCKOUT
    decide ((s.isSet SAF_PWD_LOCKOUT ∧ s.saf.lockEnd ≤ s.mono)) && (
    true)),
    -- safUnlock
    (let mb : Fin 8 := 0
    let s : State := cm (pwdIn (at_ 3 1)) 0x0801 []
    (match s.waitingCmd mb 0x0801 with
    | some c =>
    decide (Accept.runSetting.ok s.tableState = true ∧ (false && !s.inService c.port) = false) && (
    let u0 := (s.startCmd c).inside
    decide (¬(u0.isSet SAF_PWD_LOCKOUT)) && (
    decide (¬(!u0.jewelOk 29 opHMAC u0.appMaster (u0.portWorld c.port))) && (
    decide (¬(!u0.pwdSet)) && (
    decide (¬(!u0.jewelOk 30 opCOMPARE u0.appMaster (u0.portWorld c.port))) && (
    decide ((u0.pwdValue (c.str 0) = u0.jewelVal 30)) && (
    let t := (u0.jewelUsed 29).jewelUsed 30
    let t := { t with saf := { t.saf with unlockEnd := u0.mono + 1800 } }
    let t := ((t.set1 CAL_STATUS_SAFETY_UNLOCK).put SAF_PWD_PORT (c.port + 1)).put SAF_PWD_UNLOCK_S 1800
    let t := (t.set1 SAF_EVENTS_UNLOCK).safLog 0x06 (c.port + 1) (u0.worldNo c.port)
      (u0.rdN A_CAL_VER_SAFETY) (u0.rdN A_CAL_VER_SAFETY) 0
    true))))))
    | _ => false)),
    -- safLock
    (let mb : Fin 8 := 0
    let s : State := cm (at_ 3 1) 0x0802 []
    (match s.waitingCmd mb 0x0802 with
    | some c =>
    decide (Accept.any.ok s.tableState = true ∧ (false && !s.inService c.port) = false) && (
    let u0 := (s.startCmd c).inside
    true)
    | _ => false)),
    -- safSetPassword
    (let mb : Fin 8 := 0
    let s : State := cm (jw (at_ 3 1) [29]) 0x0803 (wd [0, 8, 0x41414141, 0x41414141])
    (match s.waitingCmd mb 0x0803 with
    | some c =>
    decide (Accept.any.ok s.tableState = true ∧ (false && !s.inService c.port) = false) && (
    let u0 := (s.startCmd c).inside
    let old := c.str 0
    let new := c.str (c.strEnd 0)
    let set (type : Nat) (u0 : State) : State :=
      let v := u0.pwdValue new
      let t := ((u0.jewelUsed 29).jewelUsed 1).updKey (fun k => { k with mram := upd k.mram 30 (fun _ => some v) })
      let t := t.setJewel 30 (some v)
      let t := ((t.set1 SAF_PWD_SET).raise 0x700C NOTE t.srcOwner c.port 0).safLog type (c.port + 1) (u0.worldNo c.port)
        (u0.rdN A_CAL_VER_SAFETY) (u0.rdN A_CAL_VER_SAFETY) 0
      t.reply c stOK 0
    decide ((!u0.pwdSet)) && (
    decide (¬(!u0.inService c.port)) && (
    decide (¬(!u0.jewelOk 29 opHMAC u0.appMaster (u0.portWorld c.port))) && (
    decide (¬(!pwdOk new || !old.isEmpty)) && (
    true)))))
    | _ => false)),
    -- safSetPassword#2
    (let mb : Fin 8 := 0
    let s : State := cm (((pwdIn (at_ 3 1)).set1 CAL_STATUS_SAFETY_UNLOCK).put SAF_PWD_PORT 1) 0x0803 (wd [0, 8, 0x41414141, 0x41414141])
    (match s.waitingCmd mb 0x0803 with
    | some c =>
    decide (Accept.any.ok s.tableState = true ∧ (false && !s.inService c.port) = false) && (
    let u0 := (s.startCmd c).inside
    let old := c.str 0
    let new := c.str (c.strEnd 0)
    let set (type : Nat) (u0 : State) : State :=
      let v := u0.pwdValue new
      let t := ((u0.jewelUsed 29).jewelUsed 1).updKey (fun k => { k with mram := upd k.mram 30 (fun _ => some v) })
      let t := t.setJewel 30 (some v)
      let t := ((t.set1 SAF_PWD_SET).raise 0x700C NOTE t.srcOwner c.port 0).safLog type (c.port + 1) (u0.worldNo c.port)
        (u0.rdN A_CAL_VER_SAFETY) (u0.rdN A_CAL_VER_SAFETY) 0
      t.reply c stOK 0
    decide (¬(!u0.pwdSet)) && (
    decide (¬(!u0.unlockOn c.port)) && (
    decide (¬(!u0.jewelOk 29 opHMAC u0.appMaster (u0.portWorld c.port))) && (
    decide (¬(!u0.jewelOk 30 opCOMPARE u0.appMaster (u0.portWorld c.port))) && (
    decide (¬(u0.pwdValue old ≠ u0.jewelVal 30)) && (
    decide (¬(!pwdOk new)) && (
    true)))))))
    | _ => false)),
    -- safReset
    (let mb : Fin 8 := 0
    let s : State := cm (at_ 3 1) 0x0804 []
    (match s.waitingCmd mb 0x0804 with
    | some c =>
    decide (Accept.running.ok s.tableState = true ∧ (false && !s.inService c.port) = false) && (
    let u0 := (s.startCmd c).inside
    let fmask := c.u32 0 % 256
    let pmask := (c.u32 0 / 2 ^ 12) % 2 ^ 12
    decide (¬((List.range 8).any (fun k => fmask.testBit k &&
        (u0.demand (u0.get SAF_INPUTS_SI) k || u0.demand u0.saf.laneSi k || u0.saf.fresh.testBit k)))) && (
    let t := u0.nameResets fmask
    let t := forUpTo 12 (fun p u => when (pmask.testBit p) (fun v =>
      { (v.put SAF_SO_FAULT_LATCH (clearMask (v.get SAF_SO_FAULT_LATCH) (pairMask p))) with
          saf := { v.saf with edm := upd v.saf.edm p (fun _ => none) } }) u) t
    true))
    | _ => false)),
    -- safGuard
    (let mb : Fin 8 := 0
    let s : State := cm ((at_ 3 1).put (SAF_FN_CFG_TYPE 0) 4) 0x0805 (wd [0, 1])
    (match s.waitingCmd mb 0x0805 with
    | some c =>
    decide (Accept.running.ok s.tableState = true ∧ (false && !s.inService c.port) = false) && (
    let u0 := (s.startCmd c).inside
    let k := c.u32 0
    let op := c.u32 1
    decide (¬(k ≥ 8 ∨ op > 1)) && (
    decide (¬(u0.fnType k ≠ 4)) && (
    decide (¬(op = 1 ∧ u0.saf.guard.isSome)) && (
    decide ((op = 1)) && (
    let stop (path : Nat) (u : State) : State :=
      State.openMask (if u.pathState path k = 3 ∨ u.pathState path k = 0 then u else u.setPath path k 0) path k
    let t := (stop 0 (stop 1 u0)).fnStatus
    let t := { t with saf := { t.saf with guard := some (k, { port := c.port, seq := c.seq }) } }
    true)))))
    | _ => false)),
    -- safReadLog
    (let mb : Fin 8 := 0
    let s : State := cm (at_ 3 1) 0x0806 (wd [0, 1, 0x40000000])
    (match s.waitingCmd mb 0x0806 with
    | some c =>
    decide (Accept.any.ok s.tableState = true ∧ (false && !s.inService c.port) = false) && (
    let u0 := (s.startCmd c).inside
    let first := c.u32 0
    let cnt := c.u32 1
    let a := c.u32 2
    decide (¬(cnt = 0 ∨ 64 < cnt ∨ !argRangeOk a (64 * cnt))) && (
    let bytes := (List.range cnt).flatMap (fun i =>
      match u0.saf.log.find? (fun e => e.seq == first + i) with
      | some e => e.bytes
      | none => List.replicate 64 0#8)
    true))
    | _ => false))
    ].all id = true := by decide +kernel

/-- States and operands that meet the hypotheses of each clause of LaneRowsComplete. -/
theorem laneRows_hypotheses_met :
    [
    -- journalEntryApply
    (let own : BeatCrcs := { cmd := 1#32 }
    let ownerFlag : Bool := false
    let standbyFlag : Bool := false
    let s : State := ((at_ 3 1).updJnl (fun j => { j with crcs := some ((at_ 3 1).beat, {}) })).put RED_STATUS_LB_STATE 5
    let lane := other s.owner
    (match s.red.jnl.crcs with
    | some e =>
    decide ((s.running ∧ 4 ≤ s.laneState lane ∧ s.laneState lane ≤ 6 ∧ e.1 = s.beat)) && (
    let u0 := State.inside s
    let u0 := (u0.applyEntries).updJnl (fun j => { j with crcs := none })
    let diff := if u0.mixedDiff then e.2.diff own / 2 % 4 * 2 else e.2.diff own
    decide (¬(diff = 0)) && (
    decide (¬(ownerFlag)) && (
    decide (¬(standbyFlag)) && (
    let day := u0.now :: u0.red.diffs.filter (fun b => decide (u0.now < b + dayBeats))
    let t := u0.updRed (fun r => { r with diffs := day, clean := 0 })
    let t := (t.set1 RED_EVENTS_MISMATCH).putSat RED_CHECKS_DAY day.length
    let t := (t.raise 0x6006 NOTE (t.srcLane lane) diff 0).updJnl (fun j => j.copy t.ram t.setOf)
    true))))
    | _ => false)),
    -- journalAck
    (let jseq : Nat := 0
    let s : State := { at_ 3 1 with red := { (at_ 3 1).red with unacked := [{ jseq := 0, beat := 1, handover := false, got := true }] } }
    (match s.red.unacked.find? (fun e => e.jseq == jseq && e.got) with
    | some e =>
    let rest := (s.red.unacked.dropWhile (fun d => d.jseq != jseq)).drop 1
    let t := s.updRed (fun r => { r with
      unacked := rest
      ackedBeat := max r.ackedBeat e.beat
      stall := 0
      handover := if e.handover && r.handover == 1 && e.beat == s.beat then 2 else r.handover })
    true
    | _ => false)),
    -- journalStall
    (let s : State := { at_ 3 1 with red := { (at_ 3 1).red with stall := 40 } }
    decide ((s.gstate = 3 ∧ 40 ≤ s.red.stall ∧ s.red.stbHeard)) && (
    let u0 := State.inside s
    true)),
    -- heartbeatVote
    (let own : Heart := ⟨none, none⟩
    let stb : Heart := ⟨some {}, some {}⟩
    let differs : Fin 8 := 0
    let s : State := at_ 3 1
    decide ((s.inRunning)) && (
    let u0 := State.inside s
    let lane := u0.owner
    let oth := other lane
    let ownM := HeartMsg.good u0.now own.m
    let ownC := HeartMsg.good u0.now own.c
    let stbM := HeartMsg.good u0.now stb.m
    let stbC := HeartMsg.good u0.now stb.c
    let t := (u0.voterChannels differs).takeHearts own stb
    let synced := decide (u0.gstate = 3) && u0.red.takeover.isNone
    let ownLost := !ownM && !ownC
    let ownGone := ownLost || own.resigns u0.now || (u0.resigned lane).isSome
    let stbGone := synced && ((!stbM && !stbC) || stb.resigns u0.now || (u0.resigned oth).isSome)
    decide (¬(ownGone && stbGone)) && (
    decide ((ownGone)) && (
    decide ((ownLost)) && (
    true))))),
    -- heartbeatVote#2
    (let own : Heart := ⟨some {}, some {}⟩
    let stb : Heart := ⟨some {}, some {}⟩
    let differs : Fin 8 := 0
    let s : State := at_ 3 1
    decide ((s.inRunning)) && (
    let u0 := State.inside s
    let lane := u0.owner
    let oth := other lane
    let ownM := HeartMsg.good u0.now own.m
    let ownC := HeartMsg.good u0.now own.c
    let stbM := HeartMsg.good u0.now stb.m
    let stbC := HeartMsg.good u0.now stb.c
    let t := (u0.voterChannels differs).takeHearts own stb
    let synced := decide (u0.gstate = 3) && u0.red.takeover.isNone
    let ownLost := !ownM && !ownC
    let ownGone := ownLost || own.resigns u0.now || (u0.resigned lane).isSome
    let stbGone := synced && ((!stbM && !stbC) || stb.resigns u0.now || (u0.resigned oth).isSome)
    decide (¬(ownGone && stbGone)) && (
    decide (¬(ownGone)) && (
    let sends := synced || u0.red.beatTaken.isSome
    let mLost := !ownM || (sends && !stbM && stbC)
    let cLost := !ownC || (sends && !stbC && stbM)
    let t := if mLost then t.pathFault true (if ownM then oth else lane) else t.clr RED_STATUS_PATH_M
    let t := if cLost then t.pathFault false (if ownC then oth else lane) else t.clr RED_STATUS_PATH_C
    true)))),
    -- resignation
    (let lane : Fin 2 := 0
    let off : Nat := 0
    let s : State := { at_ 3 1 with red := { (at_ 3 1).red with resignA := some 0x6004 } }
    (match s.resigned lane with
    | some code =>
    decide ((s.inRunning)) && (
    let u0 := State.inside s
    decide ((lane.val = u0.owner)) && (
    decide (¬(u0.gstate = 3 ∧ (u0.resigned (other lane)).isSome)) && (
    true)))
    | _ => false)),
    -- takeoverLate
    (let s : State := { at_ 3 1 with red := { (at_ 3 1).red with takeover := some ⟨1, 0x6003, 1, 0⟩ } }
    (match s.red.takeover with
    | some t =>
    decide ((s.inRunning)) && (
    true)
    | _ => false)),
    -- laneResetRelease
    (let lane : Fin 2 := 1
    let s : State := (({ at_ 4 100 with red := { (at_ 4 100).red with attempt := some 1 } } : State).put RED_STATUS_LB_STATE 0)
    (match s.red.attempt with
    | some b =>
    decide ((s.inRunning ∧ lane.val ≠ s.owner ∧ s.laneState lane = 0 ∧ b + 40 ≤ s.now)) && (
    true)
    | _ => false)),
    -- laneResyncDone
    (let lane : Fin 2 := 1
    let s : State := (({ at_ 4 100 with red := { (at_ 4 100).red with attempt := some 1 } } : State).put RED_STATUS_LB_STATE 5)
    decide ((s.gstate = 4 ∧ lane.val ≠ s.owner ∧ s.laneState lane = 5 ∧ !s.attemptOld)) && (
    let t := ((s.setLaneState lane 6).setStandbyOk true).setGstate 3 0
    let t := ((t.put (RED_LANE_TRIES lane) 0).set1 RED_EVENTS_RESYNC_DONE).clr RED_STATUS_REC_WIN
    let t := t.updRed (fun r => { r with attempt := none, abandoned := false })
    true)),
    -- resyncAttemptFail
    (let lane : Fin 2 := 1
    let failed : Bool := true
    let s : State := { (at_ 4 100).put (RED_LANE_TRIES 1) 2 with red := { (at_ 4 100).red with attempt := some 1 } }
    (match s.red.attempt with
    | some b =>
    decide ((s.gstate = 4 ∧ lane.val ≠ s.owner ∧ (failed ∨ b + 80000 ≤ s.now))) && (
    let tries := min (s.get (RED_LANE_TRIES lane) + 1) 3
    let t := (s.put (RED_LANE_TRIES lane) tries).set1 RED_EVENTS_RESYNC_FAIL
    let t := t.raise 0x6008 DEGRADE (t.srcLane t.owner) lane 0
    let t := t.updRed (fun r => { r with
      attempt := none
      clean := 0
      step := 0
      beatTaken := none
      retryWait := if tries ≥ 3 then none else some (s.now + 10 * secBeats)
      resignA := if lane.val = 0 then none else r.resignA
      resignB := if lane.val = 1 then none else r.resignB })
    let t := when (decide (t.laneStage = 1) || decide (t.laneStage = 4)) State.actFail t
    decide ((tries ≥ 3)) && (
    let t := (t.setLaneState lane 7).raise 0x600C DEGRADE (t.srcLane t.owner) lane 0
    true))
    | _ => false)),
    -- resyncRetry
    (let lane : Fin 2 := 1
    let s : State := { at_ 4 100 with red := { (at_ 4 100).red with retryWait := some 1 } }
    (match s.red.retryWait with
    | some b =>
    decide ((s.gstate = 4 ∧ lane.val ≠ s.owner ∧ b ≤ s.now)) && (
    true)
    | _ => false)),
    -- tourbillonDue
    (let s : State := ((at_ 3 1).put RED_SWAP_CFG_PERIOD 1).atMono 3600
    decide ((s.inRunning ∧ s.get RED_SWAP_CFG_PERIOD ≠ 0 ∧ s.red.swapMono + 3600 * s.get RED_SWAP_CFG_PERIOD ≤ s.mono)) && (
    true)),
    -- swapWaitTimeout
    (let s : State := ({ at_ 3 200000000 with red := { (at_ 3 1).red with swapWait := some 1 } } : State).put RED_SWAP_CFG_WAIT 1
    (match s.red.swapWait with
    | some b =>
    decide ((b + 60 * secBeats * s.get RED_SWAP_CFG_WAIT ≤ s.now ∧ !s.red.swapDeferred)) && (
    true)
    | _ => false)),
    -- redSwapTimeout
    (let s : State := { at_ 3 200000000 with red := { (at_ 3 1).red with swapCmd := some ⟨0, 1⟩ } }
    (match s.red.swapCmd with
    | some c =>
    decide ((s.red.swapCmdBeat + 60 * secBeats ≤ s.now)) && (
    true)
    | _ => false)),
    -- redSwap
    (let mb : Fin 8 := 0
    let s : State := cm (at_ 3 1) 0x0701 []
    (match s.waitingCmd mb 0x0701 with
    | some c =>
    decide (Accept.dual.ok s.tableState = true ∧ (false && !s.inService c.port) = false) && (
    let u0 := (s.startCmd c).inside
    decide (¬(u0.red.swapCmd.isSome)) && (
    true))
    | _ => false)),
    -- redSelftest
    (let mb : Fin 8 := 0
    let s : State := cm (at_ 3 1) 0x0702 (wd [1, 1])
    (match s.waitingCmd mb 0x0702 with
    | some c =>
    decide (Accept.dual.ok s.tableState = true ∧ (false && !s.inService c.port) = false) && (
    let u0 := (s.startCmd c).inside
    let lane := c.u32 0
    let mask := c.u32 1
    decide (¬(lane > 1 ∨ mask = 0 ∨ mask > 0x1F)) && (
    decide (¬(u0.red.testCmd.isSome)) && (
    let t := u0.updRed (fun r => { r with testCmd := some { port := c.port, seq := c.seq } })
    decide (¬(lane = u0.owner)) && (
    let full := u0.isSet RED_SELFTEST_RUNNING && u0.red.testLane == lane
    true))))
    | _ => false)),
    -- redLaneRestart
    (let mb : Fin 8 := 0
    let s : State := cm (at_ 3 1) 0x0703 (wd [1])
    (match s.waitingCmd mb 0x0703 with
    | some c =>
    decide (Accept.dual.ok s.tableState = true ∧ (true && !s.inService c.port) = false) && (
    let u0 := (s.startCmd c).inside
    let lane := c.u32 0
    decide (¬(lane > 1 ∨ lane = u0.owner)) && (
    true))
    | _ => false)),
    -- redLaneEnable
    (let mb : Fin 8 := 0
    let s : State := cm ((at_ 4 1).put RED_STATUS_LB_STATE 7) 0x0704 (wd [1])
    (match s.waitingCmd mb 0x0704 with
    | some c =>
    decide (Accept.single.ok s.tableState = true ∧ (true && !s.inService c.port) = false) && (
    let u0 := (s.startCmd c).inside
    let lane := c.u32 0
    decide (¬(lane > 1 ∨ u0.laneState lane ≠ 7)) && (
    let t := ((u0.setLaneState lane 0).put (RED_LANE_TRIES lane) 0).inc (RED_LANE_REBOOTS lane)
    true))
    | _ => false)),
    -- redInfo
    (let mb : Fin 8 := 0
    let s : State := cm (at_ 3 1) 0x0705 (wd [0x40000000])
    (match s.waitingCmd mb 0x0705 with
    | some c =>
    decide (Accept.running.ok s.tableState = true ∧ (false && !s.inService c.port) = false) && (
    let u0 := (s.startCmd c).inside
    let a := c.u32 0
    decide (¬(!argRangeOk a 512)) && (
    true))
    | _ => false))
    ].all id = true := by decide +kernel

/-- States and operands that meet the hypotheses of each clause of EscapementRowsComplete. -/
theorem escapementRows_hypotheses_met :
    [
    -- essentialOverrun
    (let lane : Fin 2 := 0
    let s : State := at_ 3 1
    let u0 := State.inside s
    decide ((u0.ranInBeat lane && (u0.running || u0.gstate == 5))) && (
    let t := (u0.lateBeat lane false).raise 0x2004 DEGRADE (u0.srcLane lane) lane 0
    let t := when (decide (lane.val = u0.beatOwner)) (fun u => u.set1 ESC_EVENTS_OVERRUN) t
    true)),
    -- cmdLate
    (let s : State := at_ 3 1
    decide ((s.lanesWork && s.laneRuns s.owner)) && (
    let u0 := State.inside s
    let lane := u0.owner
    true)),
    -- coreWatchdogExpiry
    (let lane : Fin 2 := 0
    let s : State := at_ 3 1
    decide ((s.lanesWork)) && (
    true)),
    -- sramEccUncorrectable
    (let lane : Fin 2 := 0
    let s : State := at_ 3 1
    decide ((s.lanesWork)) && (
    true)),
    -- complicationPost
    (let lane : Fin 2 := 0
    let kind : Fin 8 := 0
    let cost : Nat := 0
    let latest : Nat := 0
    let subject : Nat := 0
    let s : State := at_ 3 1
    decide ((s.running && s.laneRuns lane)) && (
    true)),
    -- complicationOverrun
    (let lane : Fin 2 := 0
    let kind : Fin 8 := 0
    let subject : Nat := 0
    let s : State := (at_ 3 1).setSlices 0 [⟨0, 1, 1, 0⟩]
    (match (s.slices lane).find? (fun c => c.kind == kind.val && c.subject == subject) with
    | some c =>
    let u0 := State.inside s
    let t := u0.setSlices lane ((u0.slices lane).erase c)
    let t := when (decide (lane.val = u0.owner)) (fun u =>
      (u.inc (ESC_COMP_DROP_OVR kind)).set1 ESC_EVENTS_COMP_OVERRUN) t
    true
    | _ => false)),
    -- laneTempSample
    (let a : List Int := []
    let b : List Int := []
    let caseT : Int := 0
    let aux : Nat := 0
    let s : State := at_ 3 40
    decide ((s.running && decide (s.now % 40 = 0))) && (
    let t := (s.sampleLane 0 (hottest a)).sampleLane 1 (hottest b)
    let t := (t.puti GOV_RES_TEMP_CASE_T caseT).wearTemp 2 caseT
    true)),
    -- budgetPublish
    (let s : State := at_ 3 399
    decide ((s.running && decide (s.now % 400 = 399))) && (
    let n := max s.esc.samples 1
    let d := s.derateOf s.esc.caseSum n
    let old := s.get GOV_BUDGET_DERATE_DERATE
    let t := s.wrN A_GOV_BUDGET_ROUND ((s.now / 400 + 1) % 2 ^ 32)
    let t := (t.put GOV_BUDGET_DERATE_SUPPLY (s.get GOV_RES_STATE_SUPPLY)).put GOV_BUDGET_DERATE_DERATE d
    let t := t.putSat GOV_BUDGET_AUX_AUX (s.esc.auxSum / n)
    let t := t.puti GOV_BUDGET_HEAD_CASE_HEAD (10 * s.get GOV_RES_THERM_CFG_CASE_END - s.esc.caseSum / n)
    let t := t.puti GOV_BUDGET_HEAD_LANE_HEAD (10 * s.get GOV_RES_THERM_CFG_HOT - s.esc.laneSum / n)
    let t := when (decide (old ≠ d)) (fun u => u.set1 GOV_RES_EVENTS_DERATE) t
    let t := when (decide (old = 0x10000) && decide (d < 0x10000)) (fun u =>
      u.raise 0x200C DEGRADE (u.srcLane u.owner) 0 d) t
    true)),
    -- compMask
    (let mb : Fin 8 := 0
    let s : State := cm (at_ 3 1) 0x0201 []
    (match s.waitingCmd mb 0x0201 with
    | some c =>
    decide (Accept.running.ok s.tableState = true ∧ (false && !s.inService c.port) = false) && (
    let u0 := (s.startCmd c).inside
    decide (¬(c.u32 0 > 0xFF)) && (
    true))
    | _ => false)),
    -- reserveTighten
    (let mb : Fin 8 := 0
    let s : State := cm (at_ 3 1) 0x0202 []
    (match s.waitingCmd mb 0x0202 with
    | some c =>
    decide (Accept.running.ok s.tableState = true ∧ (false && !s.inService c.port) = false) && (
    let u0 := (s.startCmd c).inside
    decide (¬(c.u32 0 > u0.imageCeil)) && (
    true))
    | _ => false)),
    -- escPlanInfo
    (let mb : Fin 8 := 0
    let s : State := cm (at_ 3 1) 0x0203 []
    (match s.waitingCmd mb 0x0203 with
    | some c =>
    decide (Accept.running.ok s.tableState = true ∧ (false && !s.inService c.port) = false) && (
    let u0 := (s.startCmd c).inside
    let steps := List.range (min 2 (u0.get ESC_BEAT_CFG_LOWEST_CLOCK) + 1)
    let nums := u0.esc.plan ++ steps.flatMap (fun k => groupEnds u0.esc.plan (stepMhz k))
    true)
    | _ => false))
    ].all id = true := by decide +kernel

/-- States and operands that meet the hypotheses of each clause of SenseRowsComplete. -/
theorem senseRows_hypotheses_met :
    [
    -- frameArrival
    (let lane : Fin 2 := 0
    let f : Frame := { beat := 1 }
    let s : State := at_ 3 1
    decide ((s.lanesWork && s.laneRuns lane)) && (
    let good : Bool := f.crcOk && f.beat == s.now % 65536
    let t := s.updSns (fun x => { x with
      gotA := if lane.val = 0 then some good else x.gotA
      gotB := if lane.val = 1 then some good else x.gotB })
    decide ((good)) && (
    let g := s.dialFrame f
    let t := t.updSns (fun x => { x with
      frame := g
      ovlMask := (List.range 128).foldl (fun m n => if s.isOver f n then natBit m n true else m) 0 })
    decide ((lane.val = s.servingLane)) && (
    let t := (t.puti SNS_DIAL_T_TEMP f.dialT).ringFrame g
    true)))),
    -- swingInStart
    (let n : Fin 128 := 0
    let high : Bool := false
    let spare : Fin 72 := 9
    let s : State := swingable (at_ 3 1)
    decide (¬(!s.canSwing n high spare)) && (
    decide (¬(s.sns.invalid91.testBit (memberBit n high))) && (
    decide (¬(!s.mayStart n high spare)) && (
    decide (¬(s.isSet SNS_STATUS_SWING_SUSP)) && (
    decide (s.sns.waits.find? (fun w => w.chan == n.val && w.high == high && w.cmd.isSome && decide (w.at_ ≤ s.mono)) = none) && (
    decide (¬(s.sns.waits.any (fun w => w.cmd.isSome && decide (w.at_ ≤ s.mono)))) && (
    decide (¬(s.tempTrigger n high)) && (
    decide ((s.routineDue n high)) && (
    true))))))))),
    -- swingRetry
    (let n : Fin 128 := 0
    let high : Bool := false
    let spare : Fin 72 := 9
    let s : State := (swingable (at_ 3 1)).updSns (fun x => { x with waits := [⟨0, false, 0, none, false⟩] })
    (match s.sns.waits.find? (fun w => w.chan == n.val && w.high == high && !w.next && decide (w.at_ ≤ s.mono)) with
    | some w =>
    decide ((s.mayStart n high spare && !s.isSet SNS_STATUS_SWING_SUSP)) && (
    true)
    | _ => false)),
    -- modulatorFailed
    (let k : Fin 72 := 0
    let spare : Fin 72 := 70
    let s : State := (((at_ 3 1).put (SNS_CH_MAP_SRC 0) 1).put (SNS_MOD_STATE_ROLE 0) 0).put (SNS_MOD_STATE_ROLE 70) 1
    decide ((s.lanesWork && s.role k == 0 && s.chSrc (s.get (SNS_MOD_STATE_CHAN k)) != 0)) && (
    let n := s.get (SNS_MOD_STATE_CHAN k)
    let high := s.isSet (SNS_MOD_STATE_HIGH k)
    let t := match s.swingOf n high with
      | some w => (s.disconnect w).updSns (fun x => { x with swings := x.swings.filter (fun v => v != w) })
      | none => s
    let cmd := (s.swingOf n high).bind (fun w => w.cmd)
    let pick := if t.role spare = 1 then some spare.val else (List.range 72).find? (fun j => t.role j == 1)
    let t := (t.retire k).updSns (fun x => { x with invalid91 := natBit x.invalid91 (memberBit n high) true })
    let t := t.raise 0x3010 DEGRADE (t.srcLane t.owner) k (n + (if pick.isSome then 0 else 0x100))
    (match pick with
    | some j =>
    true
    | _ => false))),
    -- knownStateWindow
    (let n : Fin 128 := 0
    let s : State := ((((at_ 3 500).put (SNS_CH_MAP_SRC 0) 3).put (OUT_CONTACT_CSTATE 0) 0).put (OUT_WELD_RESULT 0) 1).updSns (fun x => { x with ksOutlet := [some 0] })
    decide ((s.running && s.ksOpen n && !(s.sns.ks.any (fun w => w.chan == n.val)))) && (
    true)),
    -- ksStale
    (let n : Fin 128 := 0
    let s : State := (((at_ 3 500).put (SNS_CH_MAP_SRC 0) 3).updSns (fun x => { x with ksOutlet := [some 0] })).atMono 604800
    decide ((s.running ∧ s.chSrc n = 3 ∧ (nth s.sns.ksOutlet none n).isSome ∧ !s.isSet (SNS_CH_STAT_STALE n) ∧
      nth s.sns.ksMono 0 n + 604800 ≤ s.mono)) && (
    true)),
    -- referenceCompare
    (let d10 : Int := 0
    let d0s : Int := 0
    let s : State := at_ 3 1
    decide ((s.running && (s.sns.refMono == 0 || decide (s.sns.refMono + 600 ≤ s.mono)))) && (
    true)),
    -- ibStuck
    (let n : Fin 64 := 0
    let s : State := at_ 3 1
    decide ((s.lanesWork)) && (
    let x := nth s.sns.ib {} n
    let held := x.held && decide (s.now < x.last + 4000)
    let run := if x.last + 1 = s.now then x.run + 1 else 1
    let t := s.updSns (fun y => { y with ib := upd y.ib n (fun _ =>
      { last := s.now, run := run, held := held || decide (run ≥ 4) }) })
    true)),
    -- ibclkFault
    (let k : Fin 8 := 0
    let differs : Bool := false
    let s : State := at_ 3 1
    decide ((s.lanesWork)) && (
    let t := s.putBit SNS_IB_CLK_FAULT k differs
    true)),
    -- frameLoss
    (let s : State := (at_ 3 500).updSns (fun x => { x with lost := 4 })
    decide ((s.lanesWork ∧ 4 ≤ s.sns.lost ∧ !s.sns.lostHeld)) && (
    true)),
    -- linkDegraded
    (let lane : Fin 2 := 0
    let s : State := (at_ 3 500).updSns (fun x => { x with badA := List.range 17 })
    let l := (if lane.val = 0 then s.sns.badA else s.sns.badB).filter (fun b => decide (s.now < b + 40000))
    decide ((s.lanesWork ∧ s.laneRuns lane ∧ l.length > 16 ∧ (s.resigned lane).isNone)) && (
    true)),
    -- snsSwingNow
    (let mb : Fin 8 := 0
    let s : State := cm ((at_ 3 1).put (SNS_CH_MAP_SRC 0) 1) 0x0301 (wd [0, 0])
    (match s.waitingCmd mb 0x0301 with
    | some c =>
    decide (Accept.running.ok s.tableState = true ∧ (false && !s.inService c.port) = false) && (
    let u0 := (s.startCmd c).inside
    let n := c.u32 0
    let high := c.u32 1 = 1
    let src := u0.chSrc n
    decide (¬(n ≥ 128 ∨ (src ≠ 1 ∧ src ≠ 2) ∨ (src = 2 ∧ c.u32 1 > 1))) && (
    decide (¬(u0.isSet SNS_STATUS_SWING_SUSP)) && (
    true)))
    | _ => false)),
    -- snsCalAbort
    (let mb : Fin 8 := 0
    let s : State := cm ((at_ 3 1).updSns (fun x => { x with swings := [{ chan := 0, high := false, spare := 70, old := 0, start := 1, stage := 1, cmd := some ⟨0, 9⟩ }] })) 0x0302 (wd [9])
    (match s.waitingCmd mb 0x0302 with
    | some c =>
    decide (Accept.any.ok s.tableState = true ∧ (false && !s.inService c.port) = false) && (
    let u0 := (s.startCmd c).inside
    let r : CmdRef := { port := c.port, seq := c.u32 0 }
    (match u0.sns.swings.find? (fun w => w.cmd == some r) with
    | some w =>
    let t := if w.stage = 4 then u0.updSns (fun x => { x with
        swings := x.swings.map (fun v => if v == w then { v with cmd := none } else v) })
      else (u0.disconnect w).updSns (fun x => { x with swings := x.swings.filter (fun v => v != w) })
    true
    | _ => false))
    | _ => false)),
    -- snsKsCal
    (let mb : Fin 8 := 0
    let s : State := cm (((((at_ 3 500).put (SNS_CH_MAP_SRC 0) 3).put (OUT_CONTACT_CSTATE 0) 0).put (OUT_WELD_RESULT 0) 1).updSns (fun x => { x with ksOutlet := [some 0] })) 0x0303 (wd [0])
    (match s.waitingCmd mb 0x0303 with
    | some c =>
    decide (Accept.running.ok s.tableState = true ∧ (false && !s.inService c.port) = false) && (
    let u0 := (s.startCmd c).inside
    let n := c.u32 0
    let r : CmdRef := { port := c.port, seq := c.seq }
    decide (¬(n ≥ 128 ∨ u0.chSrc n ≠ 3)) && (
    decide (¬(!u0.ksOpen n)) && (
    decide (u0.sns.ks.find? (fun w => w.chan == n) = none) && (
    true))))
    | _ => false)),
    -- snsRefCheck
    (let mb : Fin 8 := 0
    let d10 : Int := 0
    let d0s : Int := 0
    let s : State := cm (at_ 3 1) 0x0304 []
    (match s.waitingCmd mb 0x0304 with
    | some c =>
    decide (Accept.running.ok s.tableState = true ∧ (false && !s.inService c.port) = false) && (
    let u0 := (s.startCmd c).inside
    let t := u0.compareRefs d10 d0s
    true)
    | _ => false)),
    -- snsSpareRetest
    (let mb : Fin 8 := 0
    let cal : ModCal := ⟨0, [], 0, true⟩
    let s : State := cm ((at_ 3 1).put (SNS_MOD_STATE_ROLE 0) 4) 0x0305 (wd [0])
    (match s.waitingCmd mb 0x0305 with
    | some c =>
    decide (Accept.running.ok s.tableState = true ∧ (true && !s.inService c.port) = false) && (
    let u0 := (s.startCmd c).inside
    let k := c.u32 0
    decide (¬(k ≥ 72 ∨ u0.role k ≠ 4)) && (
    decide ((cal.inLimits)) && (
    true)))
    | _ => false)),
    -- snsCapture
    (let mb : Fin 8 := 0
    let s : State := cm (at_ 3 1) 0x0306 (wd [0, 1, 0x40000000])
    (match s.waitingCmd mb 0x0306 with
    | some c =>
    decide (Accept.running.ok s.tableState = true ∧ (false && !s.inService c.port) = false) && (
    let u0 := (s.startCmd c).inside
    let n := c.args.length / 4 - 2
    let chans := (List.range n).map c.u32
    let cnt := c.u32 n
    let a := c.u32 (n + 1)
    decide (¬(n = 0 ∨ n > 8 ∨ cnt = 0 ∨ cnt > 40000 ∨ chans.any (fun k => decide (k ≥ 128)) ∨ !argRangeOk a (4 * n * cnt))) && (
    decide (¬(u0.sns.capture.isSome)) && (
    true)))
    | _ => false))
    ].all id = true := by decide +kernel

/-- States and operands that meet the hypotheses of each clause of MeteringRowsComplete. -/
theorem meteringRows_hypotheses_met :
    [
    -- pulseStart
    (let k : Fin 4 := 0
    let s : State := (at_ 3 1).updPulse 0 (fun x => { x with due := [200] })
    let p := s.pulse k
    (match p.due with
    | d :: rest =>
    let lag := decide (p.lastStart ≠ 0) && decide (d < p.lastStart + 5000)
    let st := if lag then p.lastStart + 5000 else d
    decide (((s.running || s.gstate == 5) && !s.edgeHeld d && decide (st / 250 ≤ s.now))) && (
    let w := st + 1000 * s.get (MTR_PLS_STAT_WIDTH k)
    let en := match rest with
      | [] => w
      | e :: _ => pulseEndAt st w e
    let t := (s.updPulse k (fun x => { x with due := rest, lastStart := st, active := true, endAt := en })).inc
      (MTR_PLS_STAT_COUNT k)
    let t := t.putB (MTR_PLS_STAT_LAG k) lag
    true)
    | _ => false)),
    -- pulseEnd
    (let k : Fin 4 := 0
    let s : State := (at_ 3 1).updPulse 0 (fun x => { x with active := true })
    decide (((s.pulse k).active ∧ (s.pulse k).endAt / 250 ≤ s.now)) && (
    true)),
    -- meterNoref
    (let m : Fin 32 := 0
    let s : State := (at_ 3 2000).put (MTR_M_CFG_KIND 0) 1
    let x := s.met m
    decide ((s.lanesWork ∧ (s.mKind m = 1 ∨ s.mKind m = 2) ∧ !s.isSet (MTR_M_STATE_NOREF m) ∧ !s.meterDown m ∧ x.crossBeat + 1600 ≤ s.now)) && (
    let t := ((s.set1 (MTR_M_STATE_NOREF m)).set1 MTR_EVENTS_NOREF).raise 0x4003 NOTE (s.srcLane s.owner) m 0
    true)),
    -- meterHalt
    (let m : Fin 32 := 0
    let s : State := ((at_ 3 2000).put (MTR_M_CFG_KIND 0) 1).updMet 0 (fun x => { x with substRun := 400 })
    decide ((s.lanesWork ∧ s.mKind m ≠ 0 ∧ 400 ≤ (s.met m).substRun ∧ !s.isSet (MTR_M_STATE_HALTED m))) && (
    let t := ((s.set1 (MTR_M_STATE_HALTED m)).set1 MTR_EVENTS_HALTED).legalLog 0x0B m 0
    let t := t.updMet m (fun y => { y with last := [0, 0, 0, 0, 0, 0, 0] })
    let o := s.get (MTR_M_CFG_OUTLET m)
    true)),
    -- deltaSave
    (let s : State := ((at_ 3 1).put MTR_SAVE_MODE 1).put MTR_SAVE_STAT_DELTA_AGE 16
    let mode := s.get MTR_SAVE_MODE
    decide ((s.lanesReach && (((mode == 1 || mode == 3) && decide (16 ≤ s.get MTR_SAVE_STAT_DELTA_AGE)) ||
      ((mode == 2 || mode == 3) && s.warned)))) && (
    true)),
    -- fullSave
    (let ok : Bool := false
    let s : State := ((at_ 3 1).put MTR_SAVE_MODE 1).put MTR_SAVE_STAT_FULL_AGE 400
    let mode := s.get MTR_SAVE_MODE
    let age := s.get MTR_SAVE_STAT_FULL_AGE
    decide ((s.lanesReach && (((mode == 1 || mode == 3) && decide (400 ≤ age)) || (mode == 2 && decide (40000 ≤ age))))) && (
    true))
    ].all id = true := by decide +kernel

/-- States and operands that meet the hypotheses of each clause of LegalRowsComplete. -/
theorem legalRows_hypotheses_met :
    [
    -- demandIntervalEnd
    (let s : State := (at_ 3 1).atWall 1700000000
    decide ((s.lanesWork && s.lgl.valid && decide (s.demSub ≤ 1) && decide (s.lgl.demLast < s.demBoundary))) && (
    true)),
    -- demandSubintervalEnd
    (let s : State := ((at_ 3 1).atWall 1700000000).put LGL_DEM_CFG_SUB 2
    decide ((s.lanesWork && s.lgl.valid && decide (2 ≤ s.demSub) && decide (s.lgl.demLast < s.demBoundary))) && (
    true)),
    -- billingPeriodEnd
    (let s : State := (at_ 3 1).atWall 1700000000
    decide ((s.lanesWork && s.lgl.valid && decide (s.lgl.billLast < s.billBoundary))) && (
    true)),
    -- tariffSwitch
    (let k : Fin 8 := 0
    let s : State := (at_ 3 1).atWall 1700000000
    decide ((s.lanesWork && s.lgl.valid)) && (
    true)),
    -- tamperMagnetic
    (let mT : Nat := 200
    let ms : Nat := 2000
    let s : State := at_ 3 1
    decide ((s.lgl.magLim < mT)) && (
    decide ((2000 ≤ ms ∧ !s.lgl.magnetic)) && (
    true))),
    -- tamperBStart
    (let m : Fin 32 := 0
    let kind : Fin 3 := 0
    let phase : Fin 3 := 0
    let s : State := ((((at_ 3 1).put (MTR_M_CFG_KIND 0) 1).put (MTR_M_CFG_ROLE 0) 1).updMet 0 (fun x => { x with tbOn := [50] }))
    decide ((s.lanesWork && s.watched m && decide (50 ≤ nth (s.met m).tbOn 0 (3 * kind + phase)) &&
      !(s.lgl.tb.any (fun r => r.isOpen && r.meter == m.val && r.kind == kind.val && r.phase == phase.val)))) && (
    let seq := (s.rdN A_LGL_TB_HEAD + 1) % 2 ^ 32
    let r : TbRec :=
      { seq := seq, meter := m, kind := kind, phase := phase, startMono := s.mono, startWall := if s.isSet LGL_CHRONO_WALL_VALID then s.wall else 0, endMono := 0, endWall := 0, energy := s.sumEnergy m, isOpen := true }
    let t := (s.updLgl (fun x => { x with tb := r :: x.tb.take 127 })).wrN A_LGL_TB_HEAD seq
    let t := (t.putBit LGL_TAMPER_NEW_TB kind true).wrN (A_LGL_TB_CNT kind) (min (t.rdN (A_LGL_TB_CNT kind) + 1) 0xFFFFFFFF)
    true)),
    -- tamperBEnd
    (let m : Fin 32 := 0
    let kind : Fin 3 := 0
    let phase : Fin 3 := 0
    let s : State := ((at_ 3 1).updLgl (fun x => { x with tb := [⟨1, 0, 0, 0, 0, 0, 0, 0, 0, true⟩] })).updMet 0 (fun x => { x with tbOff := [10] })
    let long := decide (10 ≤ nth (s.met m).tbOff 0 (3 * kind + phase))
    (match s.lgl.tb.find? (fun r => long && r.isOpen && r.meter == m.val && r.kind == kind.val && r.phase == phase.val) with
    | some r =>
    let e : TbRec := { r with
      endMono := s.mono
      endWall := if s.isSet LGL_CHRONO_WALL_VALID then s.wall else 0
      energy := s.sumEnergy m - r.energy
      isOpen := false }
    let t := s.updLgl (fun x => { x with tb := x.tb.map (fun y => if y.seq == r.seq then e else y) })
    true
    | _ => false)),
    -- lglWallSet
    (let mb : Fin 8 := 0
    let s : State := cm (((at_ 3 1).atWall 1700000000).set1 LGL_CHRONO_WALL_VALID) 0x0401 (wd [1800000000, 0])
    (match s.waitingCmd mb 0x0401 with
    | some c =>
    decide (Accept.running.ok s.tableState = true ∧ (false && !s.inService c.port) = false) && (
    let u0 := (s.startCmd c).inside
    let sec := c.u32 0
    let target := sec * oneSec + c.u32 1
    let set (kind : Nat) (u : State) : State := (u.updLgl (fun x => { x with wallSet := some (target, kind) })).reply c stOK 0
    decide (¬(sec < 631152000)) && (
    decide (¬(!u0.isSet LGL_CHRONO_WALL_VALID)) && (
    let d : Int := (target : Int) - (u0.rd128 A_LGL_WALL : Nat)
    decide (¬(d.natAbs ≤ 2 * oneSec)) && (
    decide ((d > 0)) && (
    true)))))
    | _ => false)),
    -- lglReadLog
    (let mb : Fin 8 := 0
    let s : State := cm (at_ 3 1) 0x0403 (wd [0, 1, 0x40000000])
    (match s.waitingCmd mb 0x0403 with
    | some c =>
    decide (Accept.runSetting.ok s.tableState = true ∧ (false && !s.inService c.port) = false) && (
    let u0 := (s.startCmd c).inside
    let first := c.u32 0
    let cnt := c.u32 1
    let a := c.u32 2
    decide (¬(cnt = 0 ∨ cnt > 1024 ∨ !argRangeOk a (32 * cnt))) && (
    let es := (u0.lgl.log.filter (fun e => decide (first ≤ e.seq) && decide (e.seq < first + cnt))).reverse
    true))
    | _ => false)),
    -- lglReadBilling
    (let mb : Fin 8 := 0
    let s : State := cm ((at_ 3 1).updLgl (fun x => { x with bills := [⟨0, 0, 0, 0, 0, []⟩] })) 0x0404 (wd [0, 0x40000000])
    (match s.waitingCmd mb 0x0404 with
    | some c =>
    decide (Accept.running.ok s.tableState = true ∧ (false && !s.inService c.port) = false) && (
    let u0 := (s.startCmd c).inside
    (match u0.lgl.bills.find? (fun b => b.index == c.u32 0) with
    | some b =>
    decide (¬(!argRangeOk (c.u32 1) b.bytes.length)) && (
    true)
    | _ => false))
    | _ => false)),
    -- lglReadTamperB
    (let mb : Fin 8 := 0
    let s : State := cm (at_ 3 1) 0x0405 (wd [0, 1, 0x40000000])
    (match s.waitingCmd mb 0x0405 with
    | some c =>
    decide (Accept.runSetting.ok s.tableState = true ∧ (false && !s.inService c.port) = false) && (
    let u0 := (s.startCmd c).inside
    let first := c.u32 0
    let cnt := c.u32 1
    let a := c.u32 2
    decide (¬(cnt = 0 ∨ cnt > 128 ∨ !argRangeOk a (64 * cnt))) && (
    let es := (u0.lgl.tb.filter (fun e => decide (first ≤ e.seq) && decide (e.seq < first + cnt))).reverse
    true))
    | _ => false)),
    -- lglBillClose
    (let mb : Fin 8 := 0
    let s : State := cm (at_ 3 1) 0x0406 []
    (match s.waitingCmd mb 0x0406 with
    | some c =>
    decide (Accept.running.ok s.tableState = true ∧ (true && !s.inService c.port) = false) && (
    let u0 := (s.startCmd c).inside
    decide (¬(u0.lgl.billCmd.isSome)) && (
    true))
    | _ => false))
    ].all id = true := by decide +kernel

/-- States and operands that meet the hypotheses of each clause of TokenRowsComplete. -/
theorem tokenRows_hypotheses_met :
    [
    -- legalShowStep
    (let s : State := (at_ 3 1).updLgl (fun x => { x with showing := .segments, showNext := some .segments })
    decide (¬(s.lgl.showing = .reading ∨ s.now < s.lgl.showEnd)) && (
    decide (¬(s.lgl.showing = .fwId)) && (
    (match s.lgl.showNext with
    | some v =>
    true
    | _ => false)))),
    -- legalShowStep#2
    (let s : State := (at_ 3 1).updLgl (fun x => { x with showing := .segments })
    decide (¬(s.lgl.showing = .reading ∨ s.now < s.lgl.showEnd)) && (
    decide (¬(s.lgl.showing = .fwId)) && (
    decide (s.lgl.showNext = none) && (
    true)))),
    -- accountRecordCommit
    (let a : Fin 16 := 0
    let ok : Bool := false
    let s : State := (at_ 3 1).updLgl (fun x => { x with tok := [⟨0, 0, 0, 0, 0, false, none⟩] })
    (match s.lgl.tok.find? (fun w => w.acct == a.val) with
    | some w =>
    let t := s.updLgl (fun x => { x with tok := x.tok.filter (fun y => y.acct != a.val) })
    let t := if ok then t.applyToken w
      else ((t.writeAcct a none).raise 0x401A DEGRADE t.srcOwner a 0).refuseToken a w.cls w.sub tokBUSY w.keypad
    true
    | _ => false)),
    -- keypadKey
    (let key : Fin 16 := 14
    let s : State := at_ 3 1
    let ks := s.lgl.keys
    decide (¬(s.settingPos)) && (
    decide (¬(key.val = 10 ∨ key.val = 11)) && (
    decide (¬(key.val = 12)) && (
    decide (¬(key.val = 13)) && (
    let new := ks ++ [key.val]
    (match keyMode new with
    | some z1 =>
    true
    | _ => false)))))),
    -- keypadEntryTimeout
    (let s : State := (at_ 3 100000000).updLgl (fun x => { x with keys := [14] })
    decide ((s.lgl.keys ≠ [] ∧ s.lgl.keyBeat + 30 * secBeats ≤ s.now)) && (
    true)),
    -- lglShowId
    (let mb : Fin 8 := 0
    let s : State := cm (at_ 3 1) 0x0402 []
    (match s.waitingCmd mb 0x0402 with
    | some c =>
    decide (Accept.running.ok s.tableState = true ∧ (false && !s.inService c.port) = false) && (
    let u0 := (s.startCmd c).inside
    true)
    | _ => false)),
    -- tokSubmit
    (let mb : Fin 8 := 0
    let s : State := cm (at_ 3 1) 0x0407 (wd [0, 20] ++ List.replicate 20 48#8)
    (match s.waitingCmd mb 0x0407 with
    | some c =>
    decide (Accept.running.ok s.tableState = true ∧ (false && !s.inService c.port) = false) && (
    let u0 := (s.startCmd c).inside
    (match asciiDigits (c.str 4) with
    | some ds =>
    decide ((c.u32 0 < 16)) && (
    true)
    | _ => false))
    | _ => false)),
    -- tokReadIds
    (let mb : Fin 8 := 0
    let s : State := cm (at_ 3 1) 0x0408 (wd [0, 0x40000000])
    (match s.waitingCmd mb 0x0408 with
    | some c =>
    decide (Accept.running.ok s.tableState = true ∧ (false && !s.inService c.port) = false) && (
    let u0 := (s.startCmd c).inside
    decide (¬(c.u32 0 ≥ 16 ∨ !argRangeOk (c.u32 1) 1024)) && (
    let k := (u0.acct (c.u32 0)).k
    let ws := k ++ List.replicate (256 - k.length) 0xFFFFFFFF
    true))
    | _ => false))
    ].all id = true := by decide +kernel

/-- States and operands that meet the hypotheses of each clause of OutletEventsComplete. -/
theorem outletEvents_hypotheses_met :
    [
    -- pilotPeriodStart
    (let n : Fin 12 := 0
    let vHigh : Int := 0
    let vLow : Int := 0
    let duty : Nat := 0
    let s : State := (at_ 3 40).put (OUT_CFG_KIND 0) 1
    decide ((s.esc.gen = 2 ∧ (s.now + 40 - 3 * n.val) % 40 = 0 ∧ !s.isAbsent n)) && (
    let d := s.get (OUT_STATE_DRIVE n)
    let t := (s.puti (OUT_PILOT_V_V_HIGH n) (satI 16 vHigh)).puti (OUT_PILOT_V_V_LOW n) (if d = 1 then satI 16 vLow else 0)
    let t := t.putSat (OUT_PILOT_DUTY_MEAS n) duty
    let p := (s.o n).pilot
    let b := bandOf vHigh
    let t :=
      if d ≥ 2 then t.updPilot n (fun p => { p with cand := 6, cnt := 0, low := 0, anew := true })
      else t.updPilot n (fun q => { q with
        cand := b
        cnt := if b = p.cand then p.cnt + 1 else 1
        low := if d = 1 ∧ !(decide (-13000 ≤ vLow) && decide (vLow ≤ -11000)) then p.low + 1 else 0 })
    let t := when (decide ((t.o n).pilot.low ≥ 3) && t.running) (fun u => u.pilotError n 0x5102) t
    true)),
    -- pilotPeriodStart#2
    (let n : Fin 12 := 0
    let vHigh : Int := 0
    let vLow : Int := 0
    let duty : Nat := 0
    let s : State := at_ 3 40
    decide (¬(s.esc.gen = 2 ∧ (s.now + 40 - 3 * n.val) % 40 = 0 ∧ !s.isAbsent n)) && (
    decide ((s.esc.gen = 2 ∧ (s.now + 40 - 3 * n.val) % 40 = 0)) && (
    true))),
    -- pilotStateRecognised
    (let n : Fin 12 := 0
    let s : State := (at_ 3 1).updPilot 0 (fun p => { p with cnt := 3, cand := 1 })
    let p := (s.o n).pilot
    decide ((s.running ∧ 3 ≤ p.cnt ∧ p.cand ≤ 5 ∧ p.cand ≠ s.get (OUT_STATE_PILOT_ST n))) && (
    true)),
    -- deferredAllocation
    (let n : Fin 12 := 0
    let s : State := ((((at_ 3 1).put (OUT_CFG_KIND 0) 1).set1 (OUT_STATE_NO_CONTEXT 0)).clr (OUT_STATE_DISABLED 0)).updPilot 0 (fun p => { p with band := 1 })
    decide ((s.running ∧ s.isSet (OUT_STATE_NO_CONTEXT n) ∧ (s.o n).pilot.band = 1 ∧ s.freeContext.isSome ∧ s.usable n)) && (
    true)),
    -- pilotInvalid
    (let n : Fin 12 := 0
    let s : State := (at_ 3 1).updPilot 0 (fun p => { p with cnt := 100, cand := 5 })
    let p := (s.o n).pilot
    decide ((s.running ∧ p.cand = 5 ∧ 100 ≤ p.cnt)) && (
    true)),
    -- pilotFHoldEnd
    (let n : Fin 12 := 0
    let s : State := (at_ 3 1).updPilot 0 (fun p => { p with fEnd := some 1 })
    (match (s.o n).pilot.fEnd with
    | some b =>
    decide ((b ≤ s.now)) && (
    let slac := (s.o n).pilot.fSlac
    let t := s.updPilot n (fun p => { p with fEnd := none, fSlac := false })
    let t := when slac (fun u => (u.put (OUT_SLAC_PHASE n) 1).updLink n (fun l => { l with slacBeat := s.now })) t
    true)
    | _ => false)),
    -- proximityMeasure
    (let n : Fin 12 := 0
    let r : Nat := 5000
    let s : State := ((at_ 3 1).put (OUT_CFG_KIND 0) 1).updO 0 (fun o => { o with prox := { cand := 0, cnt := 2 } })
    decide (¬(s.settingPos)) && (
    decide ((s.get (OUT_CFG_KIND n) = 1 ∨ s.isDc n)) && (
    let c := if s.isDc n ∧ 1 ≤ ppClass r ∧ ppClass r ≤ 4 then 1 else ppClass r
    let p := (s.o n).prox
    let cnt := if c = p.cand then p.cnt + 1 else 1
    let t := s.put (OUT_PP_R_PP n) (if 4500 ≤ r then 0xFFFF else r)
    let t := t.updO n (fun o => { o with prox := { p with
      cand := c
      cnt := cnt
      inv := if c = 5 then p.inv + 1 else 0
      accepted := if 3 ≤ cnt then c else p.accepted } })
    decide (¬(cnt < 3)) && (
    let t := (t.putB (OUT_PP_VALID n) (c != 5)).put (OUT_PP_CABLE n) (if s.isDc n then 0 else ppAmps c)
    true)))),
    -- ppInvalid
    (let n : Fin 12 := 0
    let s : State := (at_ 3 1).updO 0 (fun o => { o with prox := { inv := 100 } })
    decide ((s.running ∧ 100 ≤ (s.o n).prox.inv)) && (
    let t := s.updO n (fun o => { o with prox := { o.prox with inv := 0 } })
    true)),
    -- authTimeout
    (let k : Fin 128 := 0
    let s : State := ses (at_ 3 1) 1 2
    decide ((s.running ∧ s.sst k = AUTHORISING ∧ (s.sx k).preBeat.isNone ∧ (s.sx k).authEnd ≤ s.now)) && (
    true)),
    -- preauthExpiry
    (let n : Fin 12 := 0
    let s : State := (at_ 3 1).updO 0 (fun o => { o with preauth := some (2, [], 0, 0) })
    (match (s.o n).preauth with
    | some p =>
    decide ((p.2.2.2 < s.now)) && (
    true)
    | _ => false)),
    -- suspendOpenExpiry
    (let n : Fin 12 := 0
    let s : State := (ses (at_ 3 200000000) 3 4).put (OUT_CONTACT_CMD 0) 3
    (match s.sesOn n with
    | some k =>
    decide ((s.running ∧ s.isDc n ∧ s.sst k = SUSPENDED ∧ s.energised n ∧ (s.o n).suspBeat + (s.o n).cfg.suspendOpen * secBeats ≤ s.now)) && (
    true)
    | _ => false)),
    -- stopLate
    (let n : Fin 12 := 0
    let s : State := (ses (at_ 3 200000) 1 5).updS 0 (fun x => { x with path := 1 })
    (match s.sesOn n with
    | some k =>
    let x := s.sx k
    decide ((s.running ∧ s.sst k = STOPPING ∧ x.path = 1 ∧ !x.committed ∧ !(s.o n).prot.openReq ∧ x.stopBeat + 3 * secBeats ≤ s.now)) && (
    true)
    | _ => false))
    ].all id = true := by decide +kernel

/-- States and operands that meet the hypotheses of each clause of SessionCommandsComplete. -/
theorem sessionCommands_hypotheses_met :
    [
    -- v2gStopTimeout
    (let n : Fin 12 := 0
    let s : State := (ses (at_ 3 2000000) 1 5).updS 0 (fun x => { x with path := 2 })
    (match s.sesOn n with
    | some k =>
    let x := s.sx k
    decide ((s.running ∧ s.sst k = STOPPING ∧ x.path = 2 ∧ !x.committed ∧ x.stopBeat + 10 * secBeats ≤ s.now)) && (
    let t := (s.updS k (fun y => { y with plain := true })).drive12 n
    true)
    | _ => false)),
    -- dcStopOpen
    (let n : Fin 12 := 0
    let s : State := ((ses (at_ 3 200000) 3 5).updS 0 (fun x => { x with path := 3 })).put (OUT_CONTACT_CMD 0) 3
    (match s.sesOn n with
    | some k =>
    let x := s.sx k
    decide ((s.running ∧ s.sst k = STOPPING ∧ x.path = 3 ∧ !x.committed ∧ s.energised n ∧
        ((s.dcCurrent n).natAbs < 5 * 2 ^ 40 ∨ x.stopBeat + secBeats ≤ s.now))) && (
    true)
    | _ => false)),
    -- sesAuthorise
    (let mb : Fin 8 := 0
    let s : State := cm (ses (at_ 3 1) 1 1) 0x0501 (wd [0, 1, 2, 0, 16, 0, 0, 0, 0, 0])
    (match s.waitingCmd mb 0x0501 with
    | some c =>
    decide (Accept.running.ok s.tableState = true ∧ (false && !s.inService c.port) = false) && (
    let u0 := (s.startCmd c).inside
    let k := c.u32 0
    let d := c.u32 1
    let mode := c.u32 2
    let id := c.str 12
    let off := c.strEnd 12
    let a (i : Nat) : Nat := ofLe ((c.args.drop (off + 4 * i)).take 4)
    let n := u0.get (SES_STATE_OUTLET k)
    true)
    | _ => false)),
    -- sesPreauth
    (let mb : Fin 8 := 0
    let s : State := cm (at_ 3 1) 0x0502 (wd [0, 2, 0, 16, 60])
    (match s.waitingCmd mb 0x0502 with
    | some c =>
    decide (Accept.running.ok s.tableState = true ∧ (false && !s.inService c.port) = false) && (
    let u0 := (s.startCmd c).inside
    let n := c.u32 0
    let mode := c.u32 1
    let id := c.str 8
    let off := c.strEnd 8
    let a (i : Nat) : Nat := ofLe ((c.args.drop (off + 4 * i)).take 4)
    decide (¬(n ≥ 12 ∨ mode = 4 ∨ !u0.modeOk n mode (a 0) ∨ id.length > 32 ∨ a 1 < 10 ∨ a 1 > 600)) && (
    true))
    | _ => false)),
    -- sesLimits
    (let mb : Fin 8 := 0
    let s : State := cm (ses (at_ 3 1) 1 3) 0x0503 (wd [0, 0, 0, 0])
    (match s.waitingCmd mb 0x0503 with
    | some c =>
    decide (Accept.running.ok s.tableState = true ∧ (false && !s.inService c.port) = false) && (
    let u0 := (s.startCmd c).inside
    let k := c.u32 0
    decide (¬(k ≥ 128)) && (
    decide (¬(u0.sst k < AUTHORISING ∨ u0.sst k > SUSPENDED)) && (
    true)))
    | _ => false)),
    -- sesStop
    (let mb : Fin 8 := 0
    let s : State := cm (ses (at_ 3 1) 1 3) 0x0504 (wd [0])
    (match s.waitingCmd mb 0x0504 with
    | some c =>
    decide (Accept.running.ok s.tableState = true ∧ (false && !s.inService c.port) = false) && (
    let u0 := (s.startCmd c).inside
    let k := c.u32 0
    let wait (u : State) : State := u.updS k (fun x => { x with stopCmd := some { port := c.port, seq := c.seq } })
    let n := u0.get (SES_STATE_OUTLET k)
    decide (¬(k ≥ 128)) && (
    decide ((PLUGGED ≤ u0.sst k ∧ u0.sst k ≤ SUSPENDED)) && (
    true)))
    | _ => false)),
    -- sesStopAbort
    (let mb : Fin 8 := 0
    let s : State := cm ((ses (at_ 3 1) 1 5).updS 0 (fun x => { x with stopCmd := some ⟨0, 9⟩, path := 1 })) 0x0505 (wd [9])
    (match s.waitingCmd mb 0x0505 with
    | some c =>
    decide (Accept.any.ok s.tableState = true ∧ (false && !s.inService c.port) = false) && (
    let u0 := (s.startCmd c).inside
    let r : CmdRef := { port := c.port, seq := c.u32 0 }
    (match u0.stoppedBy r with
    | some k =>
    decide (¬((u0.sx k).committed ∨ (u0.sx k).path = 4)) && (
    true)
    | _ => false))
    | _ => false)),
    -- sesCollect
    (let mb : Fin 8 := 0
    let s : State := cm (ses (at_ 3 1) 1 6) 0x0506 (wd [0, 0x40000000])
    (match s.waitingCmd mb 0x0506 with
    | some c =>
    decide (Accept.any.ok s.tableState = true ∧ (false && !s.inService c.port) = false) && (
    let u0 := (s.startCmd c).inside
    let k := c.u32 0
    decide (¬(k ≥ 128 ∨ !argRangeOk (c.u32 1) 576)) && (
    decide (¬(u0.sst k ≠ ENDED ∧ u0.sst k ≠ BILLED)) && (
    true)))
    | _ => false)),
    -- sesAck
    (let mb : Fin 8 := 0
    let s : State := cm ((ses (at_ 3 1) 1 6).updS 0 (fun x => { x with collected := true })) 0x0507 (wd [0, 0])
    (match s.waitingCmd mb 0x0507 with
    | some c =>
    decide (Accept.any.ok s.tableState = true ∧ (false && !s.inService c.port) = false) && (
    let u0 := (s.startCmd c).inside
    let k := c.u32 0
    decide (¬(k ≥ 128)) && (
    decide (¬(u0.sst k ≠ ENDED ∨ !(u0.sx k).collected)) && (
    decide (¬(c.u32 1 ≠ u0.rdN (A_SES_SERIAL k))) && (
    let n := u0.get (SES_STATE_OUTLET k)
    let t := { u0 with outs := { u0.outs with billCount := u0.outs.billCount + 1 } }
    let t := (t.put (SES_STATE_STATE k) BILLED).updS k (fun x => { x with billed := t.outs.billCount })
    true))))
    | _ => false)),
    -- outEnable
    (let mb : Fin 8 := 0
    let s : State := cm ((at_ 3 1).put (OUT_STATE_SES 0) 255) 0x0508 (wd [0, 1])
    (match s.waitingCmd mb 0x0508 with
    | some c =>
    decide (Accept.running.ok s.tableState = true ∧ (false && !s.inService c.port) = false) && (
    let u0 := (s.startCmd c).inside
    let n := c.u32 0
    decide (¬(n ≥ 12 ∨ c.u32 1 > 1)) && (
    !((match u0.sesOn n with | some k => decide (u0.sst k = CHARGING) | none => false)) && (
    true)))
    | _ => false))
    ].all id = true := by decide +kernel

/-- States and operands that meet the hypotheses of each clause of VehicleMessagesComplete. -/
theorem vehicleMessages_hypotheses_met :
    [
    -- slacParamReq
    (let runId : Nat := 0
    let heard : List (Fin 12 × Nat) := [(0, 10)]
    let s : State := (ses (at_ 3 1) 1 1).set1 (OUT_CFG_HLC 0)
    let h := (heard.map (fun p => (p.1.val, p.2))).filter (fun p => s.decodes p.1)
    decide (¬(!s.running)) && (
    (match s.slacAnswer h with
    | some n =>
    let t := s.put (OUT_SLAC_PHASE n) 2
    true
    | _ => false))),
    -- mnbcSound
    (let n : Fin 12 := 0
    let runId : Nat := 0
    let atten : Nat := 0
    let s : State := (at_ 3 1).put (OUT_SLAC_PHASE 0) 2
    let l := (s.o n).link
    decide ((s.get (OUT_SLAC_PHASE n) = 2 ∧ l.runId = runId)) && (
    let mean := (l.attenSum + atten) / (l.sounds + 1)
    let t := s.updLink n (fun x => { x with
      sounds := x.sounds + 1, attenSum := x.attenSum + atten, slacOut := some (.attenChar runId mean) })
    true)),
    -- slacMatch
    (let n : Fin 12 := 0
    let runId : Nat := 0
    let s : State := ((((ses (at_ 3 1) 1 1).set1 (OUT_CFG_HLC 0)).put (OUT_STATE_PROTO 0) 0).put (OUT_SLAC_PHASE 0) 2).set1 KEY_STATUS_DRBG_OK
    decide ((s.get (OUT_SLAC_PHASE n) = 2 ∧ (s.o n).link.runId = runId ∧ s.slacOpen n ∧ s.drbgOk)) && (
    let d := s.drbg 5
    let t := (d.2.put (OUT_SLAC_PHASE n) 3).set1 (OUT_EVENTS_SLAC_DONE n)
    true)),
    -- slacTimeout
    (let n : Fin 12 := 0
    let s : State := (((ses (at_ 3 200000000) 1 1).set1 (OUT_CFG_HLC 0)).put (OUT_STATE_PROTO 0) 0).put (OUT_SLAC_PHASE 0) 1
    let ph := s.get (OUT_SLAC_PHASE n)
    let l := (s.o n).link
    decide ((s.slacOpen n ∧ (ph = 1 ∨ ph = 2) ∧ (s.o n).pilot.fEnd.isNone ∧ l.slacBeat + s.slacBeats n ≤ s.now)) && (
    decide (¬(l.failedOnce)) && (
    let t := s.updLink n (fun x => { x with failedOnce := true })
    true))),
    -- sdpRequest
    (let n : Fin 12 := 0
    let late : Bool := false
    let s : State := (ses (at_ 3 1) 1 1).put (OUT_SLAC_PHASE 0) 3
    (match s.sesOn n with
    | some k =>
    decide ((s.get (OUT_SLAC_PHASE n) = 3)) && (
    true)
    | _ => false)),
    -- supportedAppProtocol
    (let n : Fin 12 := 0
    let ranked : List Nat := [3]
    let late : Bool := false
    let s : State := (((ses (at_ 3 1) 1 1).put (OUT_SLAC_PHASE 0) 3).put (SES_PROTO_TLS 0) 1).updO 0 (fun o => { o with cfg := { o.cfg with protos := [3] } })
    (match s.sesOn n with
    | some k =>
    decide ((s.get (OUT_SLAC_PHASE n) = 3 ∧ s.get (OUT_STATE_PROTO n) ≠ 1)) && (
    let t := (s.v2gLate n k late).ackSegs n
    (match s.pickProtocol n (s.get (SES_PROTO_TLS k)) ranked with
    | some p =>
    true
    | _ => false))
    | _ => false)),
    -- v2gRequest
    (let n : Fin 12 := 0
    let m : V2gMsg := .authEim
    let late : Bool := false
    let s : State := (ses (at_ 3 1) 1 1).put (OUT_STATE_PROTO 0) 3
    (match s.sesOn n with
    | some k =>
    decide ((s.hlc n && s.sesLive k)) && (
    let r := ((s.v2gLate n k late).ackSegs n).v2gEffect n k m
    true)
    | _ => false)),
    -- tlsClientHello
    (let n : Fin 12 := 0
    let offer : TlsOffer := { suites := [.ecdheEcdsaAes128CbcSha256], groups := [.secp256r1], sigs := [.ecdsaSecp256r1Sha256] }
    let cost : Nat := 0
    let s : State := (((ses (at_ 3 1) 1 1).put (OUT_SLAC_PHASE 0) 3).set1 KEY_STATUS_DRBG_OK).updO 0 (fun o => { o with cfg := { o.cfg with protos := [3] } })
    (match s.sesOn n with
    | some k =>
    (match tlsChoose offer with
    | some choice =>
    decide (¬(s.get (OUT_SLAC_PHASE n) = 3 ∧ !s.drbgOk)) && (
    decide ((s.get (OUT_SLAC_PHASE n) = 3 ∧ (s.o n).cfg.protos.contains (if offer.tls13 then 4 else 3))) && (
    let d := s.drbg 6
    let t := (d.2.setJewel (33 + n) (some d.1)).updKey (fun x => { x with ephMono := upd x.ephMono n (fun _ => s.mono) })
    let t := t.updLink n (fun l => { l with tls := some choice, tlsBeat := some s.now, tlsAdmitted := false })
    let t := t.put (SES_PROTO_TLS k) (if offer.tls13 then 2 else 1)
    true))
    | _ => false)
    | _ => false)),
    -- tlsPkTimeout
    (let n : Fin 12 := 0
    let s : State := (ses (at_ 3 2000000) 1 1).updLink 0 (fun l => { l with tlsBeat := some 1 })
    (match (s.o n).link.tlsBeat with
    | some b =>
    (match s.sesOn n with
    | some k =>
    decide ((b + 15 * secBeats ≤ s.now ∧ !s.tlsAdmitted n)) && (
    true)
    | _ => false)
    | _ => false)),
    -- v2gTrust
    (let mb : Fin 8 := 0
    let ok : Bool := true
    let s : State := cm ((at_ 3 1).mpWrite 0x40000000 (wd [12, 0, 0, 0])) 0x0509 (wd [0, 0x40000000, 16])
    (match s.waitingCmd mb 0x0509 with
    | some c =>
    decide (Accept.running.ok s.tableState = true ∧ (false && !s.inService c.port) = false) && (
    let u0 := (s.startCmd c).inside
    let a := c.u32 1
    decide (¬(c.u32 0 > 2 ∨ !argAddrOk a)) && (
    decide (¬(c.u32 0 = 1 ∧ !u0.drbgOk)) && (
    decide (¬(c.u32 0 = 1)) && (
    decide (¬(!ok ∨ (c.u32 0 = 2 ∧ (u0.jewel 31).isNone))) && (
    (match u0.trustData a (c.u32 0 == 0) with
    | some bs =>
    let t := { u0 with outs := { u0.outs with
      roots := if c.u32 0 = 0 then some bs else u0.outs.roots
      seccChain := if c.u32 0 = 2 then some bs else u0.outs.seccChain } }
    true
    | _ => false))))))
    | _ => false)),
    -- v2gCertReply
    (let mb : Fin 8 := 0
    let s : State := cm ((ses (at_ 3 1) 1 3).updLink 0 (fun l => { l with waitsCert := true })) 0x050A (wd [0, 0xFFFFFFFF])
    (match s.waitingCmd mb 0x050A with
    | some c =>
    decide (Accept.any.ok s.tableState = true ∧ (false && !s.inService c.port) = false) && (
    let u0 := (s.startCmd c).inside
    let k := c.u32 0
    let n := u0.get (SES_STATE_OUTLET k)
    decide (¬(k ≥ 128 ∨ !(c.u32 1 = 0xFFFFFFFF ∨ argAddrOk (c.u32 1)))) && (
    decide (¬(u0.sesOn n ≠ some k ∨ !(u0.o n).link.waitsCert)) && (
    true)))
    | _ => false))
    ].all id = true := by decide +kernel

/-- States and operands that meet the hypotheses of each clause of ProtectionRowsComplete. -/
theorem protectionRows_hypotheses_met :
    [
    -- rdcSelfTestEnd
    (let n : Fin 12 := 0
    let s : State := (at_ 3 1).updClose 0 (fun c => { c with test := 3, step := 1 })
    let c := (s.o n).close
    let answer (param : Nat) (u : State) : State :=
      match (u.o n).prot.testCmd with
      | some r => (u.replyTo r.port r.seq stOK param).updProt n (fun p => { p with testCmd := none })
      | none => u
    decide ((c.test = 3)) && (
    let u0 := State.inside s
    let t := answer (u0.get (OUT_RDC_STAT_TEST_I n)) (u0.set1 (OUT_RDC_STAT_TEST_OK n))
    decide ((c.step = 1)) && (
    true))),
    -- closeTimeout
    (let n : Fin 12 := 0
    let s : State := (at_ 3 100000).updClose 0 (fun c => { c with step := 3 })
    let c := (s.o n).close
    decide ((c.step = 3 ∧ c.beat + 40 * s.get (OUT_PROT_CFG_T_CLOSE n) ≤ s.now)) && (
    true)),
    -- vmatchTimeout
    (let n : Fin 12 := 0
    let s : State := (at_ 3 1000000).updClose 0 (fun c => { c with step := 7 })
    let c := (s.o n).close
    decide ((c.step = 7 ∧ c.beat + 5 * secBeats ≤ s.now)) && (
    true)),
    -- auxMismatch
    (let n : Fin 12 := 0
    let s : State := dropOut (at_ 3 1)
    decide ((40 ≤ max (s.o n).prot.aux1 (s.o n).prot.aux2 ∧ !(s.o n).prot.auxSaid ∧ s.droppedOut n)) && (
    let u0 := State.inside s
    true)),
    -- auxMismatch#2
    (let n : Fin 12 := 0
    let s : State := (at_ 3 1).updProt 0 (fun p => { p with aux1 := 40 })
    decide (¬(40 ≤ max (s.o n).prot.aux1 (s.o n).prot.aux2 ∧ !(s.o n).prot.auxSaid ∧ s.droppedOut n)) && (
    decide ((40 ≤ max (s.o n).prot.aux1 (s.o n).prot.aux2 ∧ !(s.o n).prot.auxSaid)) && (
    let u0 := State.inside s
    let t := when (u0.isDc n && !u0.settingPos) (fun u => u.moduleOff n) u0
    let t := ((t.updProt n (fun p => { p with auxSaid := true })).raiseOutlet 0x5202 n 0)
    true))),
    -- weldProofAc
    (let n : Fin 12 := 0
    let _z : Unit := ()
    let s : State := (at_ 3 1000).updWeld 0 (fun w => { w with active := true })
    let w := (s.o n).weld
    let end_ := w.t0 + 40 * s.get (OUT_PROT_CFG_T_OPEN_MAX n)
    decide (¬(!w.active ∨ s.isDc n)) && (
    decide (¬(w.load)) && (
    decide ((w.win ≤ end_ + 1 ∧ w.win + 200 ≤ s.now)) && (
    true)))),
    -- weldProofDc
    (let n : Fin 12 := 0
    let s : State := (ses (at_ 3 5000) 3 1).updWeld 0 (fun w => { w with active := true, preLow := true })
    let w := (s.o n).weld
    let a := s.auxOf n
    let open_ := !a.1 && !a.2
    decide (¬(!w.active ∨ !s.isDc n)) && (
    decide (¬(w.both)) && (
    decide ((w.t0 + 4000 ≤ s.now)) && (
    true)))),
    -- rdcTrip
    (let n : Fin 12 := 0
    let ac : Bool := true
    let k : Fin 8 := 0
    let s : State := (dc1 (at_ 3 1)).updProt 0 (fun p => { p with trips := 256 })
    decide (((s.o n).prot.trips.testBit (if ac then 8 + k.val else k.val) ∧ !s.isDc n)) && (
    let u0 := State.inside s
    let t := (u0.set1 (OUT_CONTACT_RDC_LOCK n)).set1 (OUT_PROT_EVENTS_RDC n)
    let t := (t.putB (OUT_RDC_STAT_TRIP_AC n) ac).put (OUT_RDC_STAT_TRIP_PT n) k
    true)),
    -- rdcLockRelease
    (let n : Fin 12 := 0
    let s : State := ((at_ 3 1).set1 (OUT_CONTACT_RDC_LOCK 0)).updProt 0 (fun p => { p with calm := 40000 })
    decide ((s.isSet (OUT_CONTACT_RDC_LOCK n) ∧ s.rdcFree n)) && (
    true)),
    -- insulationDwellEnd
    (let n : Fin 12 := 0
    let _vp : Unit := ()
    let _vn : Unit := ()
    let s : State := (((dc3 (at_ 3 100000)).put (OUT_CONTACT_CMD 0) 3).updProt 0 (fun p => { p with dwell := 1, dwellBeat := some 0, vp0 := 400000, vn0 := 400000, isoCycles := 1 }))
    let p := (s.o n).prot
    (match p.dwellBeat with
    | some b =>
    decide ((s.isDc n ∧ s.energised n ∧ b + 400 * s.get (OUT_ISO_BRIDGE_DWELL n) ≤ s.now)) && (
    let vp := roundEven p.sumP (max 1 p.cntV)
    let vn := roundEven p.sumN (max 1 p.cntV)
    let vcc : Int := s.vcc n * 2 ^ 40
    let near := decide (((vp + vn) * 200 - vcc * 20).natAbs ≤ vcc.natAbs)
    let next_ := (p.dwell + 1) % 4
    let t := s.updProt n (fun q => { q with
      dwell := next_, dwellBeat := some s.now, sumP := 0, sumN := 0, cntV := 0
      isoIn := if p.dwell = 3 then true else q.isoIn && near
      isoCycles := if p.dwell = 3 ∧ p.isoIn ∧ near then q.isoCycles + 1 else q.isoCycles })
    let t := t.setBias n next_
    true)
    | _ => false)),
    -- ocInst
    (let n : Fin 12 := 0
    let s : State := ((at_ 3 1).put (OUT_CONTACT_CMD 0) 3).updProt 0 (fun p => { p with oc := 2 })
    decide ((2 ≤ (s.o n).prot.oc ∧ s.energised n)) && (
    true)),
    -- overvolt
    (let n : Fin 12 := 0
    let s : State := (dc3 (at_ 3 1)).updProt 0 (fun p => { p with ov := 2 })
    decide ((s.isDc n ∧ 2 ≤ (s.o n).prot.ov)) && (
    true)),
    -- ocSlow
    (let n : Fin 12 := 0
    let s : State := (at_ 3 1).updProt 0 (fun p => { p with slowDue := true })
    decide (((s.o n).prot.slowDue ∧ !(s.isSet (OUT_RETRY_HOLD n) && (s.o n).prot.holdLatch))) && (
    let t := (s.set1 (OUT_PROT_EVENTS_OVERCURRENT n)).raise 0x520B DEGRADE s.srcOwner n 0
    true)),
    -- connectorThermalLatch
    (let n : Fin 12 := 0
    let s : State := ((dc3 (at_ 3 1)).put (OUT_OC_CFG_T_TRIP 0) 90).put (OUT_TEMP_T1 0) 950
    let trip : Int := 10 * s.get (OUT_OC_CFG_T_TRIP n)
    decide ((s.isDc n ∧ !s.isSet (OUT_RETRY_LATCH n) ∧ (s.geti (OUT_TEMP_T1 n) ≥ trip ∨ s.geti (OUT_TEMP_T2 n) ≥ trip))) && (
    let t := (s.set1 (OUT_RETRY_LATCH n)).raise 0x520D DEGRADE s.srcOwner n 0
    true)),
    -- connectorLatchClear
    (let n : Fin 12 := 0
    let s : State := ((at_ 3 1).set1 (OUT_RETRY_LATCH 0)).updProt 0 (fun p => { p with cool := 2400000 })
    decide ((s.isSet (OUT_RETRY_LATCH n) ∧ 60 * secBeats ≤ (s.o n).prot.cool)) && (
    true)),
    -- holdRetry
    (let n : Fin 12 := 0
    let s : State := ((at_ 3 2400000).set1 (OUT_RETRY_HOLD 0))
    decide ((s.isSet (OUT_RETRY_HOLD n) ∧ (s.o n).prot.holdBeat + (s.o n).cfg.retryDelay * secBeats ≤ s.now ∧
      !s.isSet (OUT_RETRY_LATCH n))) && (
    let t := (s.clr (OUT_RETRY_HOLD n)).put (OUT_RETRY_LEFT n) (s.get (OUT_RETRY_LEFT n) - 1)
    true)),
    -- latchTimeout
    (let n : Fin 12 := 0
    let s : State := (ses (at_ 3 72000000) 3 4).set1 (OUT_RETRY_LATCH 0)
    decide ((s.isSet (OUT_RETRY_LATCH n) ∧ (s.sesOn n).isSome ∧ (s.o n).prot.latchBeat + 1800 * secBeats ≤ s.now)) && (
    true)),
    -- protBlind
    (let n : Fin 12 := 0
    let s : State := (ses (at_ 3 1) 3 4).updProt 0 (fun p => { p with blind := [4] })
    decide ((4 ≤ maxN (s.o n).prot.blind ∧ !(s.o n).prot.blindSaid)) && (
    let u0 := State.inside s
    true)),
    -- protClear
    (let mb : Fin 8 := 0
    let s : State := cm (at_ 3 1) 0x0510 []
    (match s.waitingCmd mb 0x0510 with
    | some c =>
    decide (Accept.running.ok s.tableState = true ∧ (false && !s.inService c.port) = false) && (
    let u0 := (s.startCmd c).inside
    let n := c.u32 0
    let m := c.u32 1
    decide (¬(n ≥ 12 ∨ m > 3)) && (
    decide (¬(m.testBit 0 && !u0.inService c.port)) && (
    decide (¬(m.testBit 1 && u0.isSet (OUT_CONTACT_RDC_LOCK n) && !u0.rdcFree n)) && (
    let t := when (m.testBit 0 && u0.isSet (OUT_CONTACT_LOCKOUT n))
      (fun u => ((u.clr (OUT_CONTACT_LOCKOUT n)).put (OUT_CONTACT_CSTATE n) 0).refreshPilot n) u0
    true))))
    | _ => false)),
    -- rdcTest
    (let mb : Fin 8 := 0
    let s : State := cm ((dc1 (at_ 3 1)).updO 0 (fun o => { o with cfg := { o.cfg with resCh := some 5 } })) 0x0511 (wd [0])
    (match s.waitingCmd mb 0x0511 with
    | some c =>
    decide (Accept.running.ok s.tableState = true ∧ (false && !s.inService c.port) = false) && (
    let u0 := (s.startCmd c).inside
    let n := c.u32 0
    decide (¬(n ≥ 12 ∨ u0.isAbsent n ∨ u0.isDc n ∨ (u0.o n).cfg.resCh.isNone)) && (
    !((match u0.sesOn n with | some k => decide (u0.sst k = CHARGING) | none => false)) && (
    decide (¬((u0.o n).prot.testCmd.isSome ∨ (u0.o n).close.test ≠ 0)) && (
    true))))
    | _ => false))
    ].all id = true := by decide +kernel

/-- States and operands that meet the hypotheses of each clause of ConverterFramesComplete. -/
theorem converterFrames_hypotheses_met :
    [
    -- setpointFrame
    (let c : Fin 4 := 0
    let k : Fin 2 := 0
    let s : State := dc3 (at_ 3 40)
    decide ((s.esc.gen = 2 ∧ (s.now + 40 - 20 * k.val) % 40 = 0 ∧ !s.settingPos ∧ (nth s.outs.busOff none c).isNone)) && (
    (match s.outletTarget c k with
    | some n =>
    let p := s.setpointOf n
    let o := s.o n
    let seq := (s.get (OUT_CAN_SEQ n) + 1) % 65536
    decide (¬(o.reissue && !o.frame.isEmpty)) && (
    let f := s.sendable o.frame seq (setpointFrame seq p.1 0 p.2.1 p.2.2.1 p.2.2.2 o.cfg.ramp)
    let t := (s.put (OUT_CAN_SEQ n) seq).puti (OUT_LIMIT_I_ALLOWED n) (satI 16 p.2.2.1)
    true)
    | _ => false))),
    -- setpointFrame#2
    (let c : Fin 4 := 0
    let k : Fin 2 := 0
    let s : State := bat (at_ 3 40)
    decide ((s.esc.gen = 2 ∧ (s.now + 40 - 20 * k.val) % 40 = 0 ∧ !s.settingPos ∧ (nth s.outs.busOff none c).isNone)) && (
    decide (s.outletTarget c k = none) && (
    (match s.convTarget c k with
    | some j =>
    let x := s.conv j
    let mode := if s.running then x.setMode else 0
    let seq := (x.seq + 1) % 65536
    decide (¬(x.reissue && !x.frame.isEmpty)) && (
    let f := s.sendable x.frame seq (setpointFrame seq mode 0 x.setV (if mode = 0 then 0 else x.setI) x.setP 0)
    let t := s.put (GOV_PL_BAT_SET_MODE j) mode
    true)
    | _ => false)))),
    -- statusFrame
    (let c : Fin 4 := 0
    let k : Fin 2 := 0
    let bs : List Byte := (List.replicate 14 0#8 ++ le 2 (crc16 (List.replicate 14 0#8)))
    let s : State := dc3 (at_ 3 40)
    decide (¬(!statusOk bs || s.settingPos)) && (
    (match s.outletTarget c k with
    | some n =>
    let fault := decide (field bs 2 1 = 5) && s.get (OUT_CAN_STATE n) != 5
    let t := (s.putSat (OUT_CAN_STATE n) (field bs 2 1)).updO n (fun x => { x with
      seqEcho := field bs 0 2
      statusBeat := some s.now
      lagBeat := lagSince (s.get (OUT_CAN_SEQ n)) (field bs 0 2) s.now x.lagBeat
      lost := x.lost && targetLost s.now (some s.now) (lagSince (s.get (OUT_CAN_SEQ n)) (field bs 0 2) s.now x.lagBeat)
      mFault := field bs 3 1
      vOut := field bs 4 2
      iOut := fieldI bs 6 2
      pAvail := field bs 8 2
      tMax := fieldI bs 10 1 })
    true
    | _ => false))),
    -- statusFrame#2
    (let c : Fin 4 := 0
    let k : Fin 2 := 0
    let bs : List Byte := (List.replicate 14 0#8 ++ le 2 (crc16 (List.replicate 14 0#8)))
    let s : State := bat (at_ 3 40)
    decide (¬(!statusOk bs || s.settingPos)) && (
    decide (s.outletTarget c k = none) && (
    (match s.convTarget c k with
    | some j =>
    let fault := decide (field bs 2 1 = 5) && (s.conv j).state != 5
    let t := s.updConv j (fun x => { x with
      state := field bs 2 1
      seqEcho := field bs 0 2
      statusBeat := some s.now
      lagBeat := lagSince x.seq (field bs 0 2) s.now x.lagBeat
      lost := x.lost && targetLost s.now (some s.now) (lagSince x.seq (field bs 0 2) s.now x.lagBeat)
      mFault := field bs 3 1
      vOut := field bs 4 2
      iOut := fieldI bs 6 2
      pAvail := field bs 8 2
      tMax := fieldI bs 10 1 })
    true
    | _ => false)))),
    -- canTargetLost
    (let c : Fin 4 := 0
    let k : Fin 2 := 0
    let s : State := dc3 (at_ 3 400)
    decide (¬(!s.running)) && (
    (match s.outletTarget c k with
    | some n =>
    let o := s.o n
    decide ((!o.lost && targetLost s.now o.statusBeat o.lagBeat)) && (
    let t := (s.updO n (fun x => { x with lost := true })).set1 (OUT_EVENTS_CAN_LOST n)
    true)
    | _ => false))),
    -- canTargetLost#2
    (let c : Fin 4 := 0
    let k : Fin 2 := 0
    let s : State := bat (at_ 3 400)
    decide (¬(!s.running)) && (
    decide (s.outletTarget c k = none) && (
    (match s.convTarget c k with
    | some j =>
    let x := s.conv j
    decide ((!x.lost && targetLost s.now x.statusBeat x.lagBeat)) && (
    true)
    | _ => false)))),
    -- canBusOff
    (let c : Fin 4 := 0
    let s : State := at_ 3 1
    decide (¬(s.settingPos ∨ (nth s.outs.busOff none c).isSome)) && (
    let t := { s with outs := { s.outs with busOff := upd s.outs.busOff c (fun _ => some s.now) } }
    let t := t.raise 0x510B OUTLETSTOP t.srcOwner c 0
    true)),
    -- busOffRecovery
    (let c : Fin 4 := 0
    let s : State := { at_ 3 5000 with outs := { (at_ 3 1).outs with busOff := [some 1, none, none, none] } }
    (match nth s.outs.busOff none c with
    | some b =>
    decide ((b + 4000 ≤ s.now)) && (
    true)
    | _ => false))
    ].all id = true := by decide +kernel

/-- States and operands that meet the hypotheses of each clause of PlacementRowsComplete. -/
theorem placementRows_hypotheses_met :
    [
    -- allocationApply
    (let s : State := (at_ 3 401).updGov (fun g => { g with pending := some {} })
    (match s.gov.pending with
    | some p =>
    decide ((s.running ∧ s.now % 400 = 1)) && (
    let t := s.updGov (fun g => { g with pending := none, last := p })
    let t := (t.putRound p.shown).showRound p
    let t := match p.lastResort with | some n => t.openLast n | none => t
    let t := forEach t.sesOutlets (fun x u =>
      u.applyOne x.1 x.2 (p.items.find? (fun y => y.key == x.2))) t
    let t := t.applyBattery p
    true)
    | _ => false)),
    -- islandExit
    (let s : State := ((at_ 3 100000000).set1 GOV_PL_STATE_ISLANDED).updGov (fun g => { g with okSince := some 0 })
    (match s.gov.okSince with
    | some b =>
    decide ((s.running ∧ s.islanded ∧ b + s.get GOV_PL_SOC_CFG_RECONNECT * secBeats ≤ s.now)) && (
    true)
    | _ => false)),
    -- batteryDataStale
    (let s : State := bat (at_ 3 1)
    decide ((s.running ∧ s.convs ≠ [] ∧ !s.batValid ∧ !s.gov.batStale)) && (
    let t := forUpTo 2 (fun j u => (u.updConv j ConvSt.off).puti (GOV_PL_BAT_SET_SET j) 0) s
    let t := (t.clr GOV_PL_STATE_SOC_VALID).set1 GOV_PL_EVENTS_BAT_STALE
    true)),
    -- priceStale
    (let s : State := at_ 3 1
    let above : Bool := match s.gov.priceEnd with | some b => decide (b ≤ s.now) | none => true
    decide ((s.running ∧ above ∧ !s.gov.priceStale)) && (
    let t := s.updGov (fun g => { g with priceStale := true, priceEnd := none })
    let t := t.judgePrice
    true)),
    -- siteLimitExpiry
    (let s : State := (at_ 3 100).updGov (fun g => { g with hostEnd := some 50 })
    (match s.gov.hostEnd with
    | some b =>
    decide ((b ≤ s.now)) && (
    true)
    | _ => false)),
    -- minOffExpiry
    (let k : Fin 128 := 0
    let s : State := (at_ 3 100).updS 0 (fun x => { x with minOff := true, minOffEnd := 50 })
    decide (((s.sx k).minOff ∧ (s.sx k).minOffEnd ≤ s.now)) && (
    true)),
    -- sharePeriodStart
    (let s : State := (at_ 3 100000000).set1 GOV_PL_CFG_REGULATOR
    decide ((s.running ∧ s.isSet GOV_PL_CFG_REGULATOR ∧ s.gov.periodBeat + s.get GOV_REG_STATE_PERIOD * secBeats ≤ s.now)) && (
    true)),
    -- shareLowerTimeout
    (let k : Fin 255 := 0
    let s : State := (at_ 3 100000).updPartner 0 (fun x => { x with wait := some 0 })
    (match (s.partner k).wait with
    | some b =>
    decide ((b + 2 * secBeats ≤ s.now)) && (
    true)
    | _ => false)),
    -- partnerLost
    (let k : Fin 255 := 0
    let s : State := ((at_ 3 100000000).set1 GOV_PL_CFG_REGULATOR).put (GOV_REG_P_ID_STATE 0) 1
    let st := s.get (GOV_REG_P_ID_STATE k)
    decide ((s.running ∧ s.isSet GOV_PL_CFG_REGULATOR ∧ st ≠ 0 ∧ st ≠ 2 ∧
      (s.partner k).report + 3 * s.get GOV_REG_STATE_PERIOD * secBeats ≤ s.now)) && (
    let t := (s.put (GOV_REG_P_ID_STATE k) 2).updPartner k (fun p => { p with wait := none })
    true)),
    -- partnerFailsafe
    (let s : State := (at_ 3 100000000).set1 GOV_PL_CFG_PARTNER
    let period := s.gov.sharePeriod.getD (s.get GOV_REG_STATE_PERIOD)
    decide ((s.running ∧ s.isSet GOV_PL_CFG_PARTNER ∧ s.gov.shareBeat + 3 * period * secBeats ≤ s.now)) && (
    true)),
    -- placePrice
    (let mb : Fin 8 := 0
    let s : State := cm (at_ 3 1) 0x0601 (wd [100, 60])
    (match s.waitingCmd mb 0x0601 with
    | some c =>
    decide (Accept.running.ok s.tableState = true ∧ (false && !s.inService c.port) = false) && (
    let u0 := (s.startCmd c).inside
    decide (¬(c.u32 1 = 0 ∨ c.u32 1 > 86400)) && (
    true))
    | _ => false)),
    -- placeBattery
    (let mb : Fin 8 := 0
    let s : State := cm (at_ 3 1) 0x0602 (wd [500, 10, 10, 500, 10, 10, 60])
    (match s.waitingCmd mb 0x0602 with
    | some c =>
    decide (Accept.running.ok s.tableState = true ∧ (false && !s.inService c.port) = false) && (
    let u0 := (s.startCmd c).inside
    let v := c.u32 6
    decide (¬(c.u32 0 > 1000 ∨ c.u32 3 > 1000 ∨ v = 0 ∨ v > 600)) && (
    let t := forUpTo 2 (fun j u => u.updConv j (fun x => { x with
      soc := c.u32 (3 * j), chLim := c.u32 (3 * j + 1), disLim := c.u32 (3 * j + 2) })) u0
    let t := t.updGov (fun g => { g with batEnd := some (u0.now + v * secBeats) })
    true))
    | _ => false)),
    -- placeSiteLimit
    (let mb : Fin 8 := 0
    let s : State := cm (at_ 3 1) 0x0603 []
    (match s.waitingCmd mb 0x0603 with
    | some c =>
    decide (Accept.running.ok s.tableState = true ∧ (false && !s.inService c.port) = false) && (
    let u0 := (s.startCmd c).inside
    let l := c.u32 0
    let d := c.u32 1
    decide (¬(l > u0.get GOV_PL_LIMITS_IMPORT ∨ (l ≠ 0 ∧ (d = 0 ∨ d > 86400)))) && (
    let first := (u0.now / 400 + 1) * 400
    true))
    | _ => false)),
    -- placeInfo
    (let mb : Fin 8 := 0
    let s : State := cm (at_ 3 1) 0x0604 (wd [0x40000000])
    (match s.waitingCmd mb 0x0604 with
    | some c =>
    decide (Accept.running.ok s.tableState = true ∧ (false && !s.inService c.port) = false) && (
    let u0 := (s.startCmd c).inside
    decide (¬(!argRangeOk (c.u32 0) 2048)) && (
    let w (v : Int) : List Byte := le 4 (twos 32 (satI 32 v))
    let body := (List.range 128).flatMap (fun k =>
      match u0.gov.last.items.find? (fun x => x.key == k) with
      | some x => w x.a ++ w x.c ++ w x.m ++ w x.n
      | none => w 0 ++ w 0 ++ w 0 ++ w 0)
    true))
    | _ => false)),
    -- placementRound
    (let s : State := at_ 3 400
    decide ((s.running ∧ s.esc.gen = 2 ∧ s.now % 400 = 0)) && (
    let old := roundFlds.map s.get
    let t := s.closeRound.takeLimits
    let t := (t.put GOV_PL_LIMIT_EFF_IMPORT_EFF t.importEff).judgeSite
    let t := (t.islandEntry.judgePrice.putB GOV_PL_STATE_SOC_VALID t.batValid).creditStops
    let r := t.breachRound
    let t := r.2.showDc
    let p := t.allocate9 t.pSite t.lBase t.gov.periodDue
    let t := when (p.exportBad && !t.gov.exportBad) (fun u =>
      (u.set1 GOV_PL_EVENTS_EXPORT).raise 0x5304 NOTE u.srcOwner 0 0) t
    let shown := roundFlds.map t.get
    true))
    ].all id = true := by decide +kernel

/-- States and operands that meet the hypotheses of each clause of SiteLineFramesComplete. -/
theorem siteLineFrames_hypotheses_met :
    [
    -- siteMessageRetry
    (let s : State := (sit (at_ 3 1)).updSit (fun x => { x with await := [{ dst := 2, mtype := 8, payload := [] }] })
    (match s.sit.await.find? (fun m => decide (m.sentBeat + 3 * m.dur ≤ s.now)) with
    | some m =>
    decide ((s.siteUp)) && (
    let t := s.updSit (fun x => { x with await := x.await.erase m })
    decide (¬(s.staleShare m)) && (
    decide ((m.tries ≤ 3)) && (
    let left := if 17 ≤ m.dst then s.phasesTo m.dst else 0
    true)))
    | _ => false)),
    -- beatFrameStart
    (let p : Fin 3 := 0
    let s : State := (((sit (at_ 3 1)).put SIT_CFG_INJ 7).putBit SIT_STATUS_ZC_OK 0 true).updSit (fun x => { x with outq := [{ dst := 20, mtype := 1, payload := [], left := 1 }], bAbsent := [4, 0, 0] })
    (match s.sit.outq.find? (fun m => m.isBeat && m.left.testBit p && s.mayLeave m.iseq && s.maySend m) with
    | some m =>
    decide ((s.injOk.testBit p ∧ s.bitOf SIT_STATUS_ZC_OK p ∧ (nth s.sit.btx none p).isNone ∧
        4 + nth s.sit.bWait 0 p ≤ nth s.sit.bAbsent 0 p)) && (
    let seq := m.seq.getD ((s.sit.bseq + 1) % 16)
    let m' := { m with seq := some seq }
    true)
    | _ => false)),
    -- mainsZeroCrossing
    (let p : Fin 3 := 0
    let positive : Bool := false
    let o : HalfObs := {}
    let s : State := (sit (at_ 3 1)).updSit (fun x => { x with btx := [some { bits := [true], msg := { dst := 20, mtype := 1, payload := [] } }, none, none] })
    let h := s.readHalf o
    let t := ((s.putBit SIT_STATUS_ZC_OK p true).updSit (fun x => { x with
      zc := upd x.zc p (fun _ => s.now)
      zcBad := natBit x.zcBad p false })).countB p h.b
    let t := t.clr SIT_STATUS_FREE_RUN
    let isRef := (List.range p).all (fun q => !t.bitOf SIT_STATUS_ZC_OK q)
    let t := if isRef ∧ positive then
        (t.put SIT_MAINS_CYCLE (t.get SIT_MAINS_CYCLE + 1)).putSat SIT_MAINS_FREQ o.freq
      else t
    decide (¬(!s.siteHears)) && (
    (match nth s.sit.btx none p with
    | some x =>
    true
    | _ => false))),
    -- zcLost
    (let p : Fin 3 := 0
    let s : State := (sit (at_ 3 100000)).putBit SIT_STATUS_ZC_OK 0 true
    decide ((s.siteRole ≠ 0 ∧ !s.settingPos ∧ !s.sit.zcBad.testBit p ∧ nth s.sit.zc 0 p + 4 * s.cycleBeats ≤ s.now)) && (
    let t := ((s.putBit SIT_STATUS_ZC_OK p false).beatAbort p).updSit (fun x => { x with zcBad := natBit x.zcBad p true })
    let t := t.raise 0x9101 DEGRADE srcCase p 0
    true)),
    -- beatFrameReceived
    (let p : Fin 3 := 0
    let s : State := (sit (at_ 3 1)).updSit (fun x => { x with rxBits := [(((at_ 3 1).put SIT_CFG_ADDR 20).beatBits { dst := 1, mtype := 8, payload := [] } 0).map some, [], []] })
    let l := nth s.sit.rxBits [] p
    decide (¬(l.length < 118)) && (
    let t := s.updSit (fun x => { x with rxBits := upd x.rxBits p (fun _ => []) })
    (match s.repairBits l with
    | some b =>
    let f (lo n : Nat) : Nat := ofMsb ((b.drop lo).take n)
    let src := f 10 10
    let dst := f 20 10
    let typ := f 30 4
    let seq := f 34 4
    let pay := f 38 64
    decide (¬(src = s.addr)) && (
    let t := (t.hearNode src).updSit (fun x => { x with
      nodes := (src, p.val, s.now) :: x.nodes.filter (fun y => y.1 != src) })
    let dup := s.sit.lastFrom.any (fun y => y == (src, seq, pay))
    let t := t.updSit (fun x => { x with lastFrom := (src, seq, pay) :: x.lastFrom.filter (fun y => y.1 != src) })
    decide (¬(dst ≠ 0 ∧ dst ≠ s.addr)) && (
    (match fromBeat s.addr typ pay with
    | some payload =>
    decide (¬(dup)) && (
    true)
    | _ => false)))
    | _ => false))),
    -- ofdmFrameStart
    (let s : State := (link2 (at_ 3 1)).updSit (fun x => { x with quiet := 6, outq := [{ dst := 2, mtype := 8, payload := [] }] })
    decide ((s.siteOn ∧ 6 + s.sit.oWait ≤ s.sit.quiet)) && (
    decide (s.sit.tx = none) && (
    (match s.sit.outq.find? (fun m => !m.isBeat && s.mayLeave m.iseq && s.maySend m) with
    | some m =>
    let t := s.updSit (fun x => { x with outq := x.outq.erase m })
    decide (¬(m.dst = 0)) && (
    (match s.routeTo m.dst m.bad with
    | some p =>
    true
    | _ => false))
    | _ => false)))),
    -- ofdmAckTimeout
    (let s : State := (sit (at_ 3 1)).updSit (fun x => { x with tx := some { flight with due := some 0 }, sextCount := 1 })
    (match s.sit.tx with
    | some x =>
    (match x.due with
    | some d =>
    decide ((d < s.sit.sextCount)) && (
    let t := s.updSit (fun y => { y with w := min 63 (2 * y.w) })
    true)
    | _ => false)
    | _ => false)),
    -- ofdmAckFrame
    (let fch : BitVec 48 := fchOf (2 * 2 ^ 46 + 1 * 2 ^ 36)
    let s : State := (sit (at_ 3 1)).updSit (fun x => { x with tx := some flight })
    let v := fch.toNat
    decide (¬(!s.siteHears)) && (
    decide (¬(s.fchCrc ((msb 48 v).take 40) ≠ v % 256)) && (
    (match s.sit.tx with
    | some x =>
    decide ((bitsAt v 46 2 = 2 ∧ bitsAt v 36 10 = s.addr ∧ bitsAt v 32 4 = x.lseq ∧ x.due.isSome)) && (
    let k := x.hop - 1
    let map := bitsAt v 16 16
    let segs : List SegTx := x.segs.mapIdx (fun i g => { g with acked := g.acked || map.testBit i })
    let t := (s.hearNode x.hop).updSit (fun y => { y with w := 7 })
    let t := forEach ((x.segs.zip segs).filter (fun g => !g.1.acked)) (fun g u => u.segResult k g.1.sext g.2.acked) t
    let miss : List SegTx := segs.filter (fun g => !g.acked)
    decide ((miss = [])) && (
    decide ((x.rest = [])) && (
    let t := t.updSit (fun y => { y with tx := none })
    true)))
    | _ => false)))),
    -- ofdmDataFrame
    (let fch : BitVec 48 := fchOf (1 * 2 ^ 36 + 2 * 2 ^ 26)
    let segs : List SegObs := [{ sext := 0, data := some [] }]
    let s : State := (sit (at_ 3 1)).put GOV_RES_KINDS_ENABLE 0x3F
    let v := fch.toNat
    decide (¬(!s.siteHears)) && (
    decide (¬(s.fchCrc ((msb 48 v).take 40) ≠ v % 256)) && (
    let typ := bitsAt v 46 2
    let dst := bitsAt v 36 10
    let src := bitsAt v 26 10
    let nseg := bitsAt v 22 4 + 1
    let lseq := bitsAt v 18 4
    decide (¬(typ ≥ 2)) && (
    decide (¬(src = s.addr)) && (
    let noComp := !(s.allowed s.owner).testBit kOFDM
    let t := s.hearNode src
    decide (¬((dst ≠ 0 ∧ dst ≠ s.addr) ∨ src = 0 ∨ 16 < src)) && (
    let k := src - 1
    let data := segs.filter (fun g => !g.probe)
    let dropped := (data.filter (fun g => g.dropped || noComp)).length
    let failed := (data.filter (fun g => !(g.dropped || noComp) && g.data.isNone)).length
    let t := (t.incBy SIT_DROP_DECODE_DROP dropped).incBy SIT_ERR_SEG_FAIL failed
    let t := forEach (segs.filter (fun g => !(g.dropped || noComp))) (fun g u => u.segHeard k g) t
    let t := t.promote k
    let got := data.map (fun g => if g.dropped || noComp then none else g.data)
    let r := t.rxOf src
    decide (¬(r.last = some lseq)) && (
    let fresh := decide (r.lseq ≠ lseq) || typ == 0
    let old : List (Option (List Byte)) := if fresh then List.replicate nseg none else r.segs
    let all := if typ = 0 then (List.range old.length).map (fun i =>
        match nth got none i with | some b => some b | none => nth old none i)
      else
        (old.foldl (fun (acc : List (Option (List Byte)) × List (Option (List Byte))) o =>
          match o with
          | some b => (acc.1 ++ [some b], acc.2)
          | none => match acc.2 with
            | [] => (acc.1 ++ [none], [])
            | g :: rest => (acc.1 ++ [g], rest)) ([], got)).1
    let map := (List.range all.length).foldl (fun m i => natBit m i (nth all none i).isSome) 0
    let t := t.sendAck dst src lseq map
    let buf := if r.last = some ((lseq + 15) % 16) then r.buf else []
    decide ((all.all (fun o => o.isSome))) && (
    let bytes := buf ++ (all.filterMap id).flatten
    let whole := decide (18 ≤ bytes.length) && decide (20 + field bytes 7 1 ≤ bytes.length)
    let t := t.setRx { src := src, lseq := lseq, segs := all, buf := if whole then [] else bytes, last := some lseq }
    true)))))))),
    -- probeFrame
    (let k : Fin 16 := 0
    let s : State := (sit (at_ 3 100000000)).set1 (SIT_LINK_KNOWN 0)
    let x := s.link k
    decide ((s.siteUp ∧ s.isSet (SIT_LINK_KNOWN k) ∧ (List.range 6).any (fun j => mapLevel (s.get (SIT_LINK_TXMAP k)) j == 0) ∧
      x.probe + 60 * secBeats ≤ s.now)) && (
    let t := s.updLinkRec k (fun y => { y with probe := s.now })
    true)),
    -- linkReportSend
    (let s : State := sit (at_ 3 1)
    let due : Bool := match s.sit.lrBeat with | some b => decide (b + 60 * secBeats ≤ s.now) | none => true
    decide ((s.siteUp ∧ due)) && (
    let rec_ (k : Nat) : Nat :=
      let age := match (s.link k).heard with | some b => min 15 ((s.now - b) / (16 * secBeats)) | none => 15
      s.get (SIT_LINK_RXMAP k) + 4096 * age
    let t := s.updSit (fun x => { x with lrBeat := some s.now })
    true)),
    -- linkExpiry
    (let k : Fin 16 := 0
    let s : State := (at_ 3 100000000).updLinkRec 0 (fun x => { x with heard := some 0, usable := true })
    (match (s.link k).heard with
    | some b =>
    decide ((b + 180 * secBeats ≤ s.now ∧ (s.link k).usable)) && (
    true)
    | _ => false)),
    -- partnerReportSend
    (let s : State := (sit (at_ 3 1)).set1 GOV_PL_CFG_PARTNER
    let period := s.gov.sharePeriod.getD (s.get GOV_REG_STATE_PERIOD)
    let due : Bool := match s.sit.repBeat with | some b => decide (b + 2 * period * secBeats ≤ s.now) | none => true
    let r := s.reportOf
    decide ((s.siteUp ∧ s.isSet GOV_PL_CFG_PARTNER ∧ (due ∨ reportMoved r s.sit.repLast))) && (
    true))
    ].all id = true := by decide +kernel

/-- States and operands that meet the hypotheses of each clause of SiteLineMessagesComplete. -/
theorem siteLineMessages_hypotheses_met :
    [
    -- announceSend
    (let s : State := sit (at_ 3 1)
    let due : Bool := match s.sit.annBeat with | some b => decide (b + 600 * secBeats ≤ s.now) | none => true
    decide ((s.siteUp ∧ due)) && (
    let p := le 1 s.siteRole ++ le 2 (s.get GLB_ID_PART) ++ le 8 (s.rdN A_GLB_SERIAL_LO + 2 ^ 32 * s.rdN A_GLB_SERIAL_HI) ++
      le 1 (s.get SIT_CFG_INJ)
    let t := (s.updSit (fun x => { x with annBeat := some s.now })).sendSite 0 0x07 p none
    true)),
    -- noPrivileged
    (let s : State := (sit (at_ 3 100000000)).put SIT_CFG_ROLE 2
    decide ((s.siteHears ∧ (s.siteRole = 2 ∨ s.isSet GOV_PL_CFG_PARTNER) ∧ !s.sit.lonely ∧ s.sit.heard + 60 * secBeats ≤ s.now)) && (
    true)),
    -- sitSend
    (let mb : Fin 8 := 0
    let s : State := cm (sit (at_ 3 1)) 0x0A10 (wd [2, 0x40000000, 8])
    (match s.waitingCmd mb 0x0A10 with
    | some c =>
    decide (Accept.running.ok s.tableState = true ∧ (false && !s.inService c.port) = false) && (
    let u0 := (s.startCmd c).inside
    let dst := c.u32 0
    let n := c.u32 2
    decide (¬(u0.siteRole = 0)) && (
    decide (¬(dst = 0 ∨ dst > 1023 ∨ dst = u0.addr ∨ n = 0 ∨ n > (if dst ≤ 16 then 200 else 8) ∨ !argRangeOk (c.u32 1) n)) && (
    true)))
    | _ => false)),
    -- sitRecv
    (let mb : Fin 8 := 0
    let s : State := cm ((at_ 3 1).updSit (fun x => { x with rxq := [(2, [1#8])] })) 0x0A11 (wd [0x40000000])
    (match s.waitingCmd mb 0x0A11 with
    | some c =>
    decide (Accept.running.ok s.tableState = true ∧ (false && !s.inService c.port) = false) && (
    let u0 := (s.startCmd c).inside
    (match u0.sit.rxq with
    | m :: rest =>
    decide (¬(!argRangeOk (c.u32 0) m.2.length)) && (
    let t := ((u0.laneWrite (c.u32 0) m.2).updSit (fun x => { x with rxq := rest })).put SIT_RXQ_DEPTH rest.length
    true)
    | _ => false))
    | _ => false)),
    -- sitLinkInfo
    (let mb : Fin 8 := 0
    let s : State := cm (at_ 3 1) 0x0A12 (wd [0x40000000])
    (match s.waitingCmd mb 0x0A12 with
    | some c =>
    decide (Accept.running.ok s.tableState = true ∧ (false && !s.inService c.port) = false) && (
    let u0 := (s.startCmd c).inside
    decide (¬(!argRangeOk (c.u32 0) 256)) && (
    let rec_ (k : Nat) : List Byte :=
      let route := match u0.routeTo (k + 1) [] with | some p => p.2 | none => []
      padTo 16 (le 2 (u0.get (SIT_LINK_TXMAP k)) ++ le 2 (u0.get (SIT_LINK_RXMAP k)) ++ le 2 (u0.get (SIT_LINKQ_COST k)) ++
        (u0.link k).snr.flatMap (fun v => le 1 (twos 8 (satI 8 v))) ++ route.flatMap (fun a => le 1 a))
    true))
    | _ => false)),
    -- sitProbe
    (let mb : Fin 8 := 0
    let s : State := cm (sit (at_ 3 1)) 0x0A13 (wd [2])
    (match s.waitingCmd mb 0x0A13 with
    | some c =>
    decide (Accept.running.ok s.tableState = true ∧ (false && !s.inService c.port) = false) && (
    let u0 := (s.startCmd c).inside
    let a := c.u32 0
    decide (¬(u0.siteRole = 0)) && (
    decide (¬(a = 0 ∨ a > 16 ∨ a = u0.addr)) && (
    let k := a - 1
    true)))
    | _ => false))
    ].all id = true := by decide +kernel

/-- States and operands that meet the hypotheses of each clause of BezelRowsComplete. -/
theorem bezelRows_hypotheses_met :
    [
    -- bezelPulseEnd
    (let charge : Nat := 0
    let s : State := (at_ 3 100).updBzl (fun b => { b with write := some lineW })
    (match s.bzl.write with
    | some w =>
    decide ((!w.rest ∧ w.start + 4 * w.t ≤ s.now)) && (
    let t := (s.addStress w).judgeCharge w.line charge
    true)
    | _ => false)),
    -- bezelRestEnd
    (let s : State := (at_ 3 100).updBzl (fun b => { b with write := some { lineW with rest := true } })
    (match s.bzl.write with
    | some w =>
    decide ((w.rest ∧ w.start + 40 ≤ s.now)) && (
    true)
    | _ => false)),
    -- bezelRailResume
    (let rails : List Nat := [20000, 13333, 6667, 10000]
    let s : State := ((at_ 3 100000).set1 BZL_STATE_STOPPED).updBzl (fun b => { b with railsOk := some 0 })
    let t := s.watchRails rails
    (match t.bzl.railsOk with
    | some b =>
    decide ((s.isSet BZL_STATE_STOPPED ∧ b + secBeats ≤ s.now)) && (
    true)
    | _ => false)),
    -- bezelDropRepost
    (let s : State := (at_ 3 400).updBzl (fun b => { b with dropped := [⟨1, 1, 1, 0⟩] })
    decide ((s.running ∧ s.now % 400 = 0)) && (
    true)),
    -- bezelRecovery
    (let s : State := (at_ 3 1).updBzl (fun b => { b with startRec := some (0, 0, false), recover := true })
    (match s.bzl.startRec with
    | some r =>
    decide ((s.running ∧ s.bzl.recover)) && (
    let f := s.get BZL_CFG_FRESH_LINE
    let rest := (List.range 8).filter (fun k => k != f && k != r.1)
    let order := rest.filter s.legalLine ++ rest.filter (fun k => !s.legalLine k)
    let seq := [(r.1, none), (f, some true)] ++ order.map (fun k => (k, none)) ++ [(f, some false)]
    let t := s.updBzl (fun b => { b with seq := seq, recover := false })
    true)
    | _ => false)),
    -- bzlShow
    (let mb : Fin 8 := 0
    let s : State := cm (at_ 3 1) 0x0910 (wd [0x40000000])
    (match s.waitingCmd mb 0x0910 with
    | some c =>
    decide (Accept.running.ok s.tableState = true ∧ (false && !s.inService c.port) = false) && (
    let u0 := (s.startCmd c).inside
    decide (¬(!argRangeOk (c.u32 0) 64)) && (
    let l := lineWords (u0.mpRead (c.u32 0) 64)
    let t := u0.want (fun k w => if u0.legalLine k then w else nth l 0 k)
    true))
    | _ => false)),
    -- bzlRefresh
    (let mb : Fin 8 := 0
    let s : State := cm (at_ 3 1) 0x0911 []
    (match s.waitingCmd mb 0x0911 with
    | some c =>
    decide (Accept.running.ok s.tableState = true ∧ (false && !s.inService c.port) = false) && (
    let u0 := (s.startCmd c).inside
    true)
    | _ => false)),
    -- bzlStressRead
    (let mb : Fin 8 := 0
    let s : State := cm (at_ 3 1) 0x0912 (wd [0x40000000])
    (match s.waitingCmd mb 0x0912 with
    | some c =>
    decide (Accept.running.ok s.tableState = true ∧ (false && !s.inService c.port) = false) && (
    let u0 := (s.startCmd c).inside
    decide (¬(!argRangeOk (c.u32 0) 2048)) && (
    true))
    | _ => false))
    ].all id = true := by decide +kernel

/-- States and operands that meet the hypotheses of each clause of CardReaderAndTagLinkComplete. -/
theorem cardReaderAndTagLink_hypotheses_met :
    [
    -- readerPoll
    (let card : Option CardObs := some { uid := [1], atqa := 4, sak := 32 }
    let driveOk : Bool := true
    let s : State := (at_ 3 10000000).set1 NFC_RD_CFG_EN
    decide ((s.running ∧ s.isSet NFC_RD_CFG_EN ∧ !s.nfc.stopped ∧ s.rdState ≤ 1 ∧ !s.bitOf CLK_STATUS_LOST 9 ∧
      s.nfc.pollBeat + 40 * s.get NFC_RD_CFG_PERIOD ≤ s.now)) && (
    let bad := if driveOk then 0 else s.nfc.drive + 1
    let t := (s.put NFC_RD_CARD_STATE 1).updNfc (fun x => { x with pollBeat := s.now, drive := bad })
    decide (¬(3 ≤ bad)) && (
    (match card with
    | some c =>
    decide (¬(c.uid = s.nfc.uid)) && (
    let iso := c.sak.testBit 5
    let t := (t.put NFC_RD_CARD_ATQA c.atqa).put NFC_RD_CARD_SAK c.sak
    let t := (t.put NFC_RD_CARD_STATE (if iso then 3 else 2)).put NFC_RD_CARD_RATE
      (if iso then min c.rate (s.get NFC_RD_CFG_MAX_RATE) else 0)
    let t := if iso then t.updNfc (fun x => { x with rats := 0x10 * fsdi }) else t
    let t := (t.putB NFC_RD_CARD_ISO_DEP iso).set1 NFC_RD_CARD_PRESENT
    let t := t.wr128 A_NFC_RD_UID (ofLe (padTo 10 c.uid) + 2 ^ 80 * min 15 c.uid.length)
    let t := (t.inc NFC_RD_COUNT_CARDS).set1 NFC_EVENTS_CARD
    true)
    | _ => false)))),
    -- cardPresenceCheck
    (let answered : Bool := false
    let s : State := (at_ 3 10000).set1 NFC_RD_CARD_PRESENT
    decide ((s.isSet NFC_RD_CARD_PRESENT ∧ s.rdState ≠ 4 ∧ s.nfc.checkBeat + 4000 ≤ s.now)) && (
    let n := if answered then 0 else s.nfc.misses + 1
    let t := s.updNfc (fun x => { x with misses := n, checkBeat := s.now })
    true)),
    -- isoDepBlockReceived
    (let b : IsoBlock := .info 0 false [1]
    let s : State := (at_ 3 1).updNfc (fun x => { x with ex := some { isoEx with sent := true } })
    (match s.nfc.ex with
    | some e =>
    decide (¬(!e.sent ∨ !b.fits)) && (
    let no := s.nfc.blockNo
    let flip (u : State) : State := u.updNfc (fun x => { x with blockNo := 1 - x.blockNo })
    (match b with
    | .info n more data =>
    decide (¬(n ≠ no)) && (
    let got := e.got ++ data
    decide (¬(more)) && (
    let t := ((flip s).laneWrite e.addr got).replyTo e.cmd.port e.cmd.seq stOK got.length
    true))
    | _ => false))
    | _ => false)),
    -- isoDepTimeout
    (let s : State := (at_ 3 1).updNfc (fun x => { x with ex := some isoEx })
    (match s.nfc.ex with
    | some e =>
    decide ((e.deadline ≤ s.now)) && (
    decide ((e.naks < 2)) && (
    true))
    | _ => false)),
    -- tagWriteCommit
    (let failed : Fin 3 := 0
    let s : State := (at_ 3 1000).updNfc (fun x => { x with write := some { tagW with cmd := some ⟨0, 9⟩ } })
    (match s.nfc.write with
    | some w =>
    decide (¬(s.now < w.start + 348 ∧ !s.noBeats)) && (
    let c0 := s.cell0 w.key
    let c : TagCell := if failed = 1 then c0.after w 4
      else if failed = 2 then { (c0.after w 348) with pOk := false } else c0.after w 348
    let t := ((s.setCell w.key c).updNfc (fun x => { x with write := none })).clr NFC_TAG_STATE_WRITING
    let t := if 512 ≤ w.key then t.showCounter (w.key - 512) else t
    let t := when (decide (failed ≠ 0)) (fun u => u.raise 0x9005 DEGRADE srcCase w.key 0) t
    let t := t.keyWritten w.key (decide (failed = 0))
    let t := when w.byField (fun u =>
      ((if w.key < 512 then u.put NFC_TAG_STATE_LAST_BLOCK w.key else u).set1 NFC_EVENTS_TAG_FIELD_WRITE).updNfc
        (fun x => { x with answer := some (if failed = 0 then 0xA else 0x8), reply := [] })) t
    (match w.cmd with
    | some r =>
    decide (w.more = []) && (
    true)
    | _ => false))
    | _ => false)),
    -- tagReqa
    (let s : State := (at_ 3 1).set1 NFC_TAG_STATE_FIELD
    decide ((s.isSet NFC_TAG_STATE_FIELD ∧ s.tagState = 0 ∧ !s.nfc.mute)) && (
    true)),
    -- tagWupa
    (let s : State := (at_ 3 1).set1 NFC_TAG_STATE_FIELD
    decide ((s.isSet NFC_TAG_STATE_FIELD ∧ (s.tagState = 0 ∨ s.tagState = 4) ∧ !s.nfc.mute)) && (
    true)),
    -- tagAnticollision
    (let s : State := tag (at_ 3 1) 1
    decide ((s.tagState = 1)) && (
    true)),
    -- tagSelect
    (let s : State := tag (at_ 3 1) 1
    decide ((s.tagState = 1)) && (
    true)),
    -- tagHlta
    (let s : State := tag (at_ 3 1) 2
    decide ((s.tagState = 2 ∨ s.tagState = 3)) && (
    let t := s.put NFC_TAG_STATE_STATE (if s.nfc.served then 5 else 4)
    true))
    ].all id = true := by decide +kernel

/-- States and operands that meet the hypotheses of each clause of TagCommandsComplete. -/
theorem tagCommands_hypotheses_met :
    [
    -- tagDeselect
    (let s : State := tag (at_ 3 1) 2
    decide ((s.tagState = 2 ∨ s.tagState = 3)) && (
    true)),
    -- tagSilenceEnd
    (let s : State := tag (at_ 3 100000) 5
    let due : Bool := match s.nfc.silentBeat with | some b => decide (b + 2 * secBeats ≤ s.now) | none => true
    decide ((s.tagState = 5 ∧ (s.noBeats ∨ due))) && (
    true)),
    -- tagTxnIdleTimeout
    (let s : State := (at_ 3 100000).set1 NFC_TAG_STATE_TXN
    decide ((s.txn ∧ (s.noBeats ∨ s.nfc.cmdBeat + 2 * secBeats ≤ s.now))) && (
    true)),
    -- getInfo
    (let f : CrownFrame := {}
    let s : State := tag (at_ 3 1) 2
    decide ((s.tagState = 2 ∨ s.tagState = 3) ∧ (s.nfc.mute = false) ∧ (f.crcOk = true) ∧ (s.nfc.write = none)) && (
    let u0 := ((s.set1 NFC_TAG_STATE_TXN).updNfc (fun x => { x with served := true, cmdBeat := s.now })).tagAnswer none [] 9 f
    true)),
    -- readBlock
    (let f : CrownFrame := {}
    let block : BitVec 16 := 0#16
    let s : State := tag (at_ 3 1) 2
    decide ((s.tagState = 2 ∨ s.tagState = 3) ∧ (s.nfc.mute = false) ∧ (f.crcOk = true) ∧ (s.nfc.write = none)) && (
    let u0 := ((s.set1 NFC_TAG_STATE_TXN).updNfc (fun x => { x with served := true, cmdBeat := s.now })).tagAnswer none [] 9 f
    let b := block.toNat
    decide (¬(!u0.mayRead b (u0.tagState == 3))) && (
    decide (¬(241 ≤ b ∧ b ≤ 255)) && (
    (match (u0.cell b).winner with
    | some w =>
    true
    | _ => false))))),
    -- writeBlock
    (let f : CrownFrame := {}
    let block : BitVec 16 := 16
    let data : BitVec 128 := 0#128
    let reserve : Bool := true
    let s : State := tag (at_ 3 1) 3
    decide ((s.tagState = 2 ∨ s.tagState = 3) ∧ (s.nfc.mute = false) ∧ (f.crcOk = true) ∧ (s.nfc.write = none)) && (
    let u0 := ((s.set1 NFC_TAG_STATE_TXN).updNfc (fun x => { x with served := true, cmdBeat := s.now })).tagAnswer none [] 1000 f
    let b := block.toNat
    decide (¬(u0.tagState ≠ 3 ∨ !u0.mayWrite b true)) && (
    decide (¬(u0.isSet NFC_TAG_CTRL_HOST_LOCK)) && (
    decide (¬(!reserve)) && (
    true))))),
    -- readCounter
    (let f : CrownFrame := {}
    let k : BitVec 8 := 0#8
    let s : State := tag (at_ 3 1) 2
    decide ((s.tagState = 2 ∨ s.tagState = 3) ∧ (s.nfc.mute = false) ∧ (f.crcOk = true) ∧ (s.nfc.write = none)) && (
    let u0 := ((s.set1 NFC_TAG_STATE_TXN).updNfc (fun x => { x with served := true, cmdBeat := s.now })).tagAnswer none [] 9 f
    decide (¬(8 ≤ k.toNat)) && (
    (match (u0.cell (512 + k.toNat)).winner with
    | some w =>
    true
    | _ => false)))),
    -- incrCounter
    (let f : CrownFrame := {}
    let k : BitVec 8 := 2
    let inc : BitVec 24 := 1
    let reserve : Bool := true
    let s : State := tag (at_ 3 1) 3
    decide ((s.tagState = 2 ∨ s.tagState = 3) ∧ (s.nfc.mute = false) ∧ (f.crcOk = true) ∧ (s.nfc.write = none)) && (
    let u0 := ((s.set1 NFC_TAG_STATE_TXN).updNfc (fun x => { x with served := true, cmdBeat := s.now })).tagAnswer none [] 1000 f
    let c := 512 + k.toNat
    let v := u0.tagVal c + inc.toNat
    decide (¬(u0.tagState ≠ 3 ∨ k.toNat < 2 ∨ 8 ≤ k.toNat)) && (
    decide (¬(u0.isSet NFC_TAG_CTRL_HOST_LOCK)) && (
    decide (¬((u0.cell c).winner.isNone)) && (
    decide (¬(0xFFFFFF < v)) && (
    decide (¬(!reserve)) && (
    true))))))),
    -- pwdAuth
    (let f : CrownFrame := {}
    let pwd : BitVec 32 := 0#32
    let s : State := (tag (at_ 3 1) 2).set1 NFC_TAG_CTRL_PWD_EN
    decide ((s.tagState = 2 ∨ s.tagState = 3) ∧ (s.nfc.mute = false) ∧ (f.crcOk = true) ∧ (s.nfc.write = none)) && (
    let u0 := ((s.set1 NFC_TAG_STATE_TXN).updNfc (fun x => { x with served := true, cmdBeat := s.now })).tagAnswer none [] 9 f
    decide (¬(!u0.isSet NFC_TAG_CTRL_PWD_EN)) && (
    decide (¬((u0.cell 5).winner.isNone)) && (
    decide ((pwd.toNat = u0.tagVal 5 % 2 ^ 32)) && (
    true))))),
    -- authBegin
    (let f : CrownFrame := {}
    let chal : BitVec 128 := 0#128
    let s : State := tag (at_ 3 1) 2
    decide ((s.tagState = 2 ∨ s.tagState = 3) ∧ (s.nfc.mute = false) ∧ (f.crcOk = true) ∧ (s.nfc.write = none)) && (
    let u0 := ((s.set1 NFC_TAG_STATE_TXN).updNfc (fun x => { x with served := true, cmdBeat := s.now })).tagAnswer none [] 64 f
    decide (¬(!u0.keyReads)) && (
    let d := u0.draw
    let c := d.1 % 2 ^ 128
    true))),
    -- authEnd
    (let f : CrownFrame := {}
    let resp : BitVec 128 := BitVec.ofNat 128 ((at_ 3 1).tagMac 5)
    let s : State := (tag (at_ 3 1) 2).updNfc (fun x => { x with chal := some 5 })
    decide ((s.tagState = 2 ∨ s.tagState = 3) ∧ (s.nfc.mute = false) ∧ (f.crcOk = true) ∧ (s.nfc.write = none)) && (
    let u0 := ((s.set1 NFC_TAG_STATE_TXN).updNfc (fun x => { x with served := true, cmdBeat := s.now })).tagAnswer none [] 64 f
    (match u0.nfc.chal with
    | some c =>
    decide ((resp.toNat = u0.tagMac c ∧ !u0.nfc.keyBad)) && (
    true)
    | _ => false))),
    -- tagScrub
    (let s : State := at_ 3 100000000000
    decide ((s.tagServed ∧ s.nfc.write.isNone ∧ s.nfc.scrubBeat + 86400 * secBeats ≤ s.now)) && (
    let t := forEach (s.nfc.cells.map (·.1)) (fun k u => u.scrubCell k) s
    let t := forUpTo 8 (fun k u => u.showCounter k) t
    true))
    ].all id = true := by decide +kernel

/-- States and operands that meet the hypotheses of each clause of TagUpkeepAndHostCommandsComplete. -/
theorem tagUpkeepAndHostCommands_hypotheses_met :
    [
    -- faultMirrorWrite
    (let s : State := { at_ 3 1 with flt := { ring := [⟨1, 0x100, 0, 0, 1, 0, 1, false, false, 0, 0⟩] } }
    (match s.mirrorNext with
    | some e =>
    decide ((s.tagServed ∧ s.mirrorFree)) && (
    let b := 209 + 2 * (s.nfc.mirNext % 16)
    let t := s.updNfc (fun x => { x with mirSeq := e.seq, mirNext := (x.mirNext + 1) % 16, mirBeat := some s.now, mirMono := some s.mono })
    true)
    | _ => false)),
    -- nfcRdEnable
    (let mb : Fin 8 := 0
    let s : State := cm (at_ 3 1) 0x0A01 []
    (match s.waitingCmd mb 0x0A01 with
    | some c =>
    decide (Accept.running.ok s.tableState = true ∧ (false && !s.inService c.port) = false) && (
    let u0 := (s.startCmd c).inside
    decide (¬(c.u32 0 > 1)) && (
    let t := u0.updNfc (fun x => { x with stopped := false, drive := 0 })
    let t := if c.u32 0 = 1 then (t.set1 NFC_RD_CFG_EN).put NFC_RD_CARD_STATE (max 1 t.rdState)
      else (t.clr NFC_RD_CFG_EN).exchangeError.cardGone
    true))
    | _ => false)),
    -- nfcRdApdu
    (let mb : Fin 8 := 0
    let s : State := cm ((at_ 3 1).put NFC_RD_CARD_STATE 3) 0x0A02 (wd [0x40000000, 4, 0x40000000])
    (match s.waitingCmd mb 0x0A02 with
    | some c =>
    decide (Accept.running.ok s.tableState = true ∧ (false && !s.inService c.port) = false) && (
    let u0 := (s.startCmd c).inside
    let n := c.u32 1
    decide (¬(u0.rdState ≠ 3)) && (
    decide (¬(n = 0 ∨ !argRangeOk (c.u32 0) n ∨ !argAddrOk (c.u32 2))) && (
    let e : IsoEx := { cmd := { port := c.port, seq := c.seq }, addr := c.u32 2, rest := u0.mpRead (c.u32 0) n, chunk := [], deadline := 0 }
    true)))
    | _ => false)),
    -- nfcRdRelease
    (let mb : Fin 8 := 0
    let s : State := cm (at_ 3 1) 0x0A03 []
    (match s.waitingCmd mb 0x0A03 with
    | some c =>
    decide (Accept.running.ok s.tableState = true ∧ (false && !s.inService c.port) = false) && (
    let u0 := (s.startCmd c).inside
    true)
    | _ => false)),
    -- nfcTagRead
    (let mb : Fin 8 := 0
    let s : State := cm (at_ 3 1) 0x0A05 (wd [16, 1, 0x40000000])
    (match s.waitingCmd mb 0x0A05 with
    | some c =>
    decide (Accept.any.ok s.tableState = true ∧ (false && !s.inService c.port) = false) && (
    let u0 := (s.startCmd c).inside
    let b := c.u32 0
    let n := c.u32 1
    decide (¬(n = 0 ∨ n > 512 ∨ b + n > 512 ∨ !argRangeOk (c.u32 2) (16 * n) ∨
        !(List.range n).all (fun i => hostMayRead (b + i)))) && (
    let bad := (List.range n).filter (fun i => (u0.cell (b + i)).winner.isNone)
    let t := forEach bad (fun i u => u.raise 0x9005 DEGRADE u.srcOwner (b + i) 0) u0
    true))
    | _ => false)),
    -- nfcTagWrite
    (let mb : Fin 8 := 0
    let s : State := cm (at_ 3 1) 0x0A06 (wd [16, 1, 0x40000000])
    (match s.waitingCmd mb 0x0A06 with
    | some c =>
    decide (Accept.runSetting.ok s.tableState = true ∧ (false && !s.inService c.port) = false) && (
    let u0 := (s.startCmd c).inside
    let b := c.u32 0
    let n := c.u32 1
    decide (¬(n = 0 ∨ n > 16 ∨ !argRangeOk (c.u32 2) (16 * n) ∨ !(List.range n).all (fun i => hostMayWrite (b + i)))) && (
    decide (¬(u0.txn ∨ u0.nfc.write.isSome)) && (
    let l := blocksOf b (u0.mpRead (c.u32 2) (16 * n))
    (match l with
    | (k, v) :: rest =>
    true
    | _ => false))))
    | _ => false)),
    -- nfcTagAbort
    (let mb : Fin 8 := 0
    let s : State := cm ((at_ 3 1).updNfc (fun x => { x with write := some { tagW with cmd := some ⟨0, 9⟩ } })) 0x0A07 (wd [9])
    (match s.waitingCmd mb 0x0A07 with
    | some c =>
    decide (Accept.any.ok s.tableState = true ∧ (false && !s.inService c.port) = false) && (
    let u0 := (s.startCmd c).inside
    let r : CmdRef := { port := c.port, seq := c.u32 0 }
    (match u0.nfc.write with
    | some w =>
    decide ((w.cmd = some r)) && (
    true)
    | _ => false))
    | _ => false)),
    -- nfcTagCounter
    (let mb : Fin 8 := 0
    let s : State := cm (at_ 3 1) 0x0A08 (wd [2, 1])
    (match s.waitingCmd mb 0x0A08 with
    | some c =>
    decide (Accept.running.ok s.tableState = true ∧ (false && !s.inService c.port) = false) && (
    let u0 := (s.startCmd c).inside
    let k := c.u32 0
    let v := u0.tagVal (512 + k) + c.u32 1
    decide (¬(k < 2 ∨ k > 7)) && (
    decide (¬(u0.txn ∨ u0.nfc.write.isSome)) && (
    decide (¬((u0.cell (512 + k)).winner.isNone)) && (
    decide (¬(0xFFFFFF < v)) && (
    true)))))
    | _ => false)),
    -- nfcTagPwd
    (let mb : Fin 8 := 0
    let s : State := cm (at_ 3 1) 0x0A09 (wd [4, 0x44434241, 1])
    (match s.waitingCmd mb 0x0A09 with
    | some c =>
    decide (Accept.any.ok s.tableState = true ∧ (true && !s.inService c.port) = false) && (
    let u0 := (s.startCmd c).inside
    let pwd := c.str 0
    decide (¬(pwd.length ≠ 4 ∨ c.u32 2 > 1)) && (
    decide (¬(u0.txn ∨ u0.nfc.write.isSome)) && (
    let t := u0.putB NFC_TAG_CTRL_PWD_EN (c.u32 2 == 1)
    true)))
    | _ => false))
    ].all id = true := by decide +kernel

/-- States and operands that meet the hypotheses of each clause of MainplateRowsComplete. -/
theorem mainplateRows_hypotheses_met :
    [
    -- mainplateRequest
    (let m : Fin 14 := 8
    let acc : MpAccess := ⟨0, false, 1, []⟩
    let due : Nat := 0
    let t : Nat := 0
    let s : State := (at_ 3 1).dmaReady
    let v := s.showBanks t
    let place (r : MpReq) (u : State) : State :=
      if u.mp.reqs.any (fun q => q.master == r.master && bankOf q.acc.off == bankOf r.acc.off) then u
      else u.updMp (fun x => { x with reqs := x.reqs ++ [r] })
    decide (¬(v.bitOf ARB_CUTOFF_MASTER m)) && (
    decide ((m.val = mMOTION)) && (
    (match v.dmaPick with
    | some (n, a) =>
    let p := v.get (DMA_C_MODE_PRIO n)
    let u := v.updMp (fun x => { x with served := upd x.served p (fun _ => n) })
    true
    | _ => false)))),
    -- mainplateRequest#2
    (let m : Fin 14 := 0
    let acc : MpAccess := ⟨0, false, 1, []⟩
    let due : Nat := 0
    let t : Nat := 0
    let s : State := at_ 3 1
    let v := s.showBanks t
    decide (¬(v.bitOf ARB_CUTOFF_MASTER m)) && (
    decide (¬(m.val = mMOTION)) && (
    decide ((laneRegion acc.off ≠ .mainplate)) && (
    true)))),
    -- mainplateRequest#3
    (let m : Fin 14 := 0
    let acc : MpAccess := ⟨mainplateBase, false, 1, []⟩
    let due : Nat := 0
    let t : Nat := 0
    let s : State := at_ 3 1
    let v := s.showBanks t
    let place (r : MpReq) (u : State) : State :=
      if u.mp.reqs.any (fun q => q.master == r.master && bankOf q.acc.off == bankOf r.acc.off) then u
      else u.updMp (fun x => { x with reqs := x.reqs ++ [r] })
    decide (¬(v.bitOf ARB_CUTOFF_MASTER m)) && (
    decide (¬(m.val = mMOTION)) && (
    decide (¬(laneRegion acc.off ≠ .mainplate)) && (
    let off := acc.off - mainplateBase
    let words := max 1 (min acc.words (min 16 (0x20000 - off / 16 % 0x20000)))
    let data := acc.data.take (words * 16 - off % 16)
    let a : MpAccess := { off := off, write := acc.write, words := words, data := data }
    decide ((v.accessOk m off acc.write)) && (
    true))))),
    -- bankGrant
    (let b : Fin 8 := 0
    let t : Nat := 0
    let ecc : List (Fin 16 × Bool) := []
    let s : State := (at_ 3 1).updMp (fun m => { m with reqs := [mpReq] })
    let v := s.showBanks t
    let here (r : MpReq) : Bool := bankOf r.acc.off == b.val && !v.bitOf ARB_CUTOFF_MASTER r.master &&
      v.accessOk r.master r.acc.off r.acc.write && r.eligible t
    decide (¬((v.burstAt b t).isSome ∨ v.bitOf ARB_STATUS_HELD b)) && (
    (match leastSlack t (v.mp.reqs.filter here) with
    | some r =>
    let u := v.updMp (fun m => { m with
      reqs := (m.reqs.filter (fun q => q != r)).map (fun q => if here q then q.lose t else q)
      bursts := upd m.bursts b (fun _ => some { master := r.master, start := t, stop := t + r.acc.cycles }) })
    true
    | _ => false))),
    -- masterCutoff
    (let b : Fin 8 := 0
    let t : Nat := 1000000
    let s : State := (at_ 3 1).updMp (fun m => { m with bursts := [some ⟨1, 0, 10⟩] })
    (match nth s.mp.bursts none b with
    | some x =>
    decide ((x.start + s.get ARB_HOLD_MAX_HOLD_MAX < t ∧ !s.bitOf ARB_CUTOFF_MASTER x.master)) && (
    let u := s.updMp (fun m => { m with bursts := upd m.bursts b (fun _ => none) })
    let u := ((u.putBit ARB_CUTOFF_MASTER x.master true).set1 ARB_EVENTS_CUTOFF).raiseMp 0xA103 DEGRADE x.master 0
    true)
    | _ => false)),
    -- scrubLag
    (let s : State := (at_ 3 1).atMono 1800
    decide ((s.mp.scrubMono + 1800 ≤ s.mono ∧ !s.mp.scrubLag)) && (
    true)),
    -- spareCopyDone
    (let found : List (Fin 0x200000) := []
    let s : State := (at_ 3 1).updMp (fun m => { m with copying := some 0 })
    (match s.mp.copying with
    | some b =>
    let t := forEach found (fun o u =>
      let a := mainplateBase + b * 0x200000 + o.val
      (u.poisonWord 15 a).raiseMp 0xA105 DEGRADE b (wordOf a)) s
    true
    | _ => false)),
    -- hackTimeout
    (let s : State := (at_ 3 1).updMp (fun m => { m with copying := some 0, ownHack := true })
    (match s.mp.copying with
    | some b =>
    decide ((s.mp.ownHack)) && (
    true)
    | _ => false)),
    -- dmaVerify
    (let n : Fin 16 := 0
    let flip : Bool := false
    let s : State := (at_ 3 1).put (DMA_C_STAT_STATE 0) 4
    decide (¬(s.get (DMA_C_STAT_STATE n) ≠ 4)) && (
    let d := s.dma n
    let bad := flip || d.sent.any (fun p =>
      s.mp.poison.contains (wordOf p.1) || Memory.byte s.ram (ramOff p.1) != p.2)
    let u := s.sentPoison d.sent
    let late : Bool := match d.abort with | some b => decide (b < s.now) | none => false
    decide (¬(late)) && (
    decide ((!bad)) && (
    let t := (u.dmaSet n 5).putBit DMA_EVENTS_DONE n true
    true)))),
    -- dmaDeadline
    (let n : Fin 16 := 0
    let s : State := ((at_ 3 100).put (DMA_C_STAT_STATE 0) 2).put (DMA_C_DEADLINE_DEADLINE 0) 5
    let st := s.get (DMA_C_STAT_STATE n)
    let dl := s.get (DMA_C_DEADLINE_DEADLINE n)
    decide ((1 ≤ st ∧ st ≤ 4 ∧ dl ≠ 0 ∧ (s.dma n).start + dl ≤ s.now ∧ !s.isSet (DMA_C_STAT_LATE n))) && (
    true))
    ].all id = true := by decide +kernel

/-- States and operands that meet the hypotheses of each clause of KeyRowsComplete. -/
theorem keyRows_hypotheses_met :
    [
    -- keySvcChallenge
    (let mb : Fin 8 := 0
    let s : State := cmo ((jw (at_ 3 1) [10]).set1 KEY_STATUS_DRBG_OK) 0x0B01 []
    (match s.waitingCmd mb 0x0B01 with
    | some c =>
    decide (Accept.any.ok s.tableState = true ∧ (false && !s.inService c.port) = false) && (
    let u0 := (s.startCmd c).inside
    decide (¬(u0.glb.lifecycle = 0)) && (
    decide (¬(!u0.jewelOk 10 opCHECK (6 + c.port) (u0.portWorld c.port))) && (
    decide (¬(!u0.drbgOk)) && (
    let d := u0.drbg 1
    let v := d.1 % 2 ^ 128
    let t := d.2.updKey (fun k => { k with chal := upd k.chal c.port (fun _ => some (v, u0.mono)) })
    true))))
    | _ => false)),
    -- keySvcResponse
    (let mb : Fin 8 := 0
    let s : State := cmo ((jw (at_ 3 1) [10]).updKey (fun k => { k with chal := [some (5, 0), none] })) 0x0B02 (le 16 ((jw (at_ 3 1) [10]).respondTo 10 5))
    (match s.waitingCmd mb 0x0B02 with
    | some c =>
    decide (Accept.any.ok s.tableState = true ∧ (false && !s.inService c.port) = false) && (
    let u0 := (s.startCmd c).inside
    decide (¬(u0.glb.lifecycle = 0)) && (
    decide (¬(u0.isSet KEY_STATUS_SVC_LOCK)) && (
    decide (¬(!u0.jewelOk 10 opCHECK (6 + c.port) (u0.portWorld c.port))) && (
    let t := u0.jewelUsed 10
    let good : Bool := match nth u0.key.chal none c.port with
      | some (v, m) => decide (u0.mono < m + 60) && ofLe (c.args.take 16) == u0.respondTo 10 v
      | none => false
    decide ((good)) && (
    true)))))
    | _ => false)),
    -- svcChallengeExpiry
    (let port : Fin 2 := 0
    let s : State := ((at_ 3 1).atMono 100).updKey (fun k => { k with chal := [some (5, 0), none] })
    (match nth s.key.chal none port with
    | some (z1, m) =>
    decide ((m + 60 ≤ s.mono)) && (
    true)
    | _ => false)),
    -- svcLockoutEnd
    (let s : State := (at_ 3 1).set1 KEY_STATUS_SVC_LOCK
    decide ((s.isSet KEY_STATUS_SVC_LOCK ∧ s.key.lockEnd ≤ s.mono)) && (
    true)),
    -- serviceWorldTimeout
    (let port : Fin 2 := 0
    let s : State := ((at_ 3 1).atMono 1000).put GLB_WORLD_HP0 2
    decide ((s.inService port ∧ s.svcMono port + 900 ≤ s.mono)) && (
    true)),
    -- ephemeralJewelClear
    (let n : Fin 12 := 0
    let s : State := (jw (at_ 3 1) [33]).atMono 60
    decide (((s.jewel (33 + n)).isSome ∧ nth s.key.ephMono 0 n + 60 ≤ s.mono)) && (
    true)),
    -- entropyRecovery
    (let s : State := at_ 3 1
    decide (¬(s.drbgOk)) && (
    true)),
    -- drbgReseed
    (let s : State := ((at_ 3 1).set1 KEY_STATUS_DRBG_OK).updKey (fun k => { k with requests := 65536 })
    decide ((s.drbgOk ∧ s.reseedDue)) && (
    true)),
    -- keyPublic
    (let mb : Fin 8 := 0
    let s : State := cm (jw (at_ 3 1) [32]) 0x0B03 (wd [32])
    (match s.waitingCmd mb 0x0B03 with
    | some c =>
    decide (Accept.any.ok s.tableState = true ∧ (false && !s.inService c.port) = false) && (
    let u0 := (s.startCmd c).inside
    let j := c.u32 0
    let ty := (u0.jattr j).typ
    decide (¬(j ≥ 64 ∨ ty < 2 ∨ 7 < ty)) && (
    (match u0.jewel j with
    | some v =>
    true
    | _ => false)))
    | _ => false)),
    -- keyImport
    (let mb : Fin 8 := 0
    let s : State := cm (jw (at_ 3 1) [7]) 0x0B04 (wd [48, 0x40000000])
    (match s.waitingCmd mb 0x0B04 with
    | some c =>
    decide (Accept.any.ok s.tableState = true ∧ (false && !s.inService c.port) = false) && (
    let u0 := (s.startCmd c).inside
    let j := c.u32 0
    let root := j == 8 || j == 9 || j == 12
    decide (¬(!root && !isUser j)) && (
    decide (¬(!u0.jewelOk 7 opUNWRAP u0.appMaster (u0.portWorld c.port))) && (
    decide (¬(root ∧ (u0.glb.lifecycle ≠ 1 ∨ ((u0.jewel j).isSome ∨ u0.key.due.any (fun x => x.1 == j)) ∧ !u0.inService c.port))) && (
    let t := u0.jewelUsed 7
    true))))
    | _ => false)),
    -- keyGenerate
    (let mb : Fin 8 := 0
    let s : State := cm ((at_ 3 1).set1 KEY_STATUS_DRBG_OK) 0x0B05 (wd [31])
    (match s.waitingCmd mb 0x0B05 with
    | some c =>
    decide (Accept.running.ok s.tableState = true ∧ (false && !s.inService c.port) = false) && (
    let u0 := (s.startCmd c).inside
    let j := c.u32 0
    let a := u0.jattr j
    let fixed := j == 31 || j == 32
    decide (¬((!fixed && !isUser j) ∨ a.typ < 2 ∨ 6 < a.typ)) && (
    decide (¬(fixed ∧ !u0.inService c.port)) && (
    decide (¬(!a.lc.testBit u0.glb.lifecycle)) && (
    decide (¬(!u0.drbgOk)) && (
    let d := u0.drbg 2
    true)))))
    | _ => false)),
    -- keyRespond
    (let mb : Fin 8 := 0
    let s : State := cm (at_ 3 1) 0x0B06 []
    (match s.waitingCmd mb 0x0B06 with
    | some c =>
    decide (Accept.running.ok s.tableState = true ∧ (false && !s.inService c.port) = false) && (
    let u0 := (s.startCmd c).inside
    true)
    | _ => false)),
    -- nfcCardRespond
    (let mb : Fin 8 := 0
    let s : State := cm (at_ 3 1) 0x0A04 []
    (match s.waitingCmd mb 0x0A04 with
    | some c =>
    decide (Accept.running.ok s.tableState = true ∧ (false && !s.inService c.port) = false) && (
    let u0 := (s.startCmd c).inside
    true)
    | _ => false)),
    -- keyErase
    (let mb : Fin 8 := 0
    let s : State := cm (at_ 3 1) 0x0B07 (wd [48])
    (match s.waitingCmd mb 0x0B07 with
    | some c =>
    decide (Accept.any.ok s.tableState = true ∧ (true && !s.inService c.port) = false) && (
    let u0 := (s.startCmd c).inside
    let j := c.u32 0
    decide (¬(!isUser j)) && (
    true))
    | _ => false)),
    -- keyExport
    (let mb : Fin 8 := 0
    let s : State := cm (((jw (at_ 3 1) [45]).set1 KEY_STATUS_DRBG_OK).updKey (fun k => { k with user := [{ masters := 0xFFFFFF, worlds := 7, lc := 31, ops := 0xFFFF, exportBan := false, typ := 1 }] })) 0x0B08 (wd [45] ++ toBytes gPub)
    (match s.waitingCmd mb 0x0B08 with
    | some c =>
    decide (Accept.any.ok s.tableState = true ∧ (true && !s.inService c.port) = false) && (
    let u0 := (s.startCmd c).inside
    let j := c.u32 0
    decide (¬(j ≥ 64)) && (
    decide (¬(!isUser j ∨ (u0.jattr j).exportBan ∨ !u0.jewelOk j opEXPORT (6 + c.port) 2)) && (
    decide (¬(!u0.drbgOk)) && (
    let d := u0.drbg 3
    let e := d.2.drbg 3
    (match e.2.wrapKey j d.1 e.1 (c.args.drop 4) with
    | some m =>
    true
    | _ => false)))))
    | _ => false)),
    -- keyLcAdvance
    (let mb : Fin 8 := 0
    let s : State := cm (at_ 3 1) 0x0B09 (wd [3, 0x5A17])
    (match s.waitingCmd mb 0x0B09 with
    | some c =>
    decide (Accept.any.ok s.tableState = true ∧ (false && !s.inService c.port) = false) && (
    let u0 := (s.startCmd c).inside
    let g := c.u32 0
    decide (¬(g > 4 ∨ c.u32 1 ≠ 0x5A17)) && (
    decide (¬(u0.key.lc.isSome)) && (
    decide (¬(!u0.lcWorld c.port g)) && (
    decide (¬(!u0.lcAllowed g)) && (
    true)))))
    | _ => false)),
    -- lcFuseReadback
    (let equal : Bool := true
    let s : State := (at_ 3 1).updKey (fun k => { k with lc := some ⟨2, ⟨0, 9⟩, 0⟩ })
    (match s.key.lc with
    | some a =>
    let t := s.updKey (fun k => { k with lc := none })
    decide (¬(!equal)) && (
    let t := ({ t with glb := { t.glb with lifecycle := a.target } }.put GLB_LIFECYCLE_LC a.target).set1 KEY_EVENTS_LC_ADVANCED
    let t := t.replyTo a.cmd.port a.cmd.seq stOK 0
    let t := if a.target = 4 then (t.updKey (fun k => { k with loaded := List.replicate 64 none })).showLoaded else t
    true)
    | _ => false))
    ].all id = true := by decide +kernel

/-- States and operands that meet the hypotheses of each clause of UpdateRowsComplete. -/
theorem updateRows_hypotheses_met :
    [
    -- updBegin
    (let mb : Fin 8 := 0
    let s : State := cm (at_ 3 1) 0x0B10 (wd [0x40000000, 0x100])
    (match s.waitingCmd mb 0x0B10 with
    | some c =>
    decide (Accept.running.ok s.tableState = true ∧ (false && !s.inService c.port) = false) && (
    let u0 := (s.startCmd c).inside
    let a := c.u32 0
    let n := c.u32 1
    decide (¬(u0.glb.lifecycle ≠ 1 ∧ u0.glb.lifecycle ≠ 2)) && (
    decide (¬(u0.updBusy)) && (
    decide (¬(!argRangeOk a n ∨ n < 0x100)) && (
    let t := u0.laneReads a n
    let bs := t.mpRead a n
    true))))
    | _ => false)),
    -- updChunk
    (let mb : Fin 8 := 0
    let bad : Option (Fin 128) := none
    let s : State := cm ((jw (at_ 3 1) [5]).updUpd (fun u => { u with load := some { comp := 0, image := { length := 1024 }, nseg := 2, next := 0 } })) 0x0B11 (wd [0, 1, 0x40000000])
    (match s.waitingCmd mb 0x0B11 with
    | some c =>
    decide (Accept.running.ok s.tableState = true ∧ (false && !s.inService c.port) = false) && (
    let u0 := (s.startCmd c).inside
    let i := c.u32 0
    let k := c.u32 1
    let a := c.u32 2
    (match u0.fwu.load with
    | some l =>
    let n := sumN ((List.range (min k 128)).map (fun j => l.segLen (i + j) + 16))
    decide (¬(k = 0 ∨ i ≠ l.next ∨ l.nseg < i + k ∨ !argRangeOk a n)) && (
    decide (¬(!u0.jewelOk 5 opAES_DEC u0.appMaster 1)) && (
    let t := u0.laneReads a n
    let r := loadSegs t.transitKey (bad.map Fin.val) k l (t.mpRead a n)
    let t := (t.updUpd (fun u => { u with load := some r.1 })).put UPD_STATUS_SEG_DONE r.1.next
    let t := forUpTo (r.1.next - l.next) (fun _ u => (u.jewelUsed 5).jewelUsed 6) t
    true))
    | _ => false))
    | _ => false)),
    -- updateLoadCommit
    (let s : State := (at_ 3 1).updUpd (fun u => { u with load := some { comp := 0, image := {}, nseg := 2, next := 2 } })
    (match s.fwu.load with
    | some l =>
    decide ((l.nseg ≤ l.next)) && (
    true)
    | _ => false)),
    -- updateRestoreDone
    (let s : State := (at_ 3 1).updUpd (fun u => { u with restore := some 0 })
    (match s.fwu.restore with
    | some c =>
    let r := nth s.fwu.run {} c
    let t := s.updUpd (fun u => { u with restore := none, flash := upd u.flash c (fun _ => r) })
    let t := (t.put (UPD_C_FLASH_VERSION c) r.version).put (UPD_C_STATE_LENGTH c) r.length
    let t := ((t.put (UPD_C_STATE_ENTRY c) 0).clr (UPD_C_STATE_PENDING c)).put UPD_STATUS_PHASE 0
    true
    | _ => false)),
    -- updAbort
    (let mb : Fin 8 := 0
    let s : State := cm ((at_ 3 1).updUpd (fun u => { u with load := some { comp := 0, image := {}, nseg := 2, cmd := some ⟨0, 9⟩ } })) 0x0B12 (wd [9])
    (match s.waitingCmd mb 0x0B12 with
    | some c =>
    decide (Accept.any.ok s.tableState = true ∧ (false && !s.inService c.port) = false) && (
    let u0 := (s.startCmd c).inside
    let r : CmdRef := { port := c.port, seq := c.u32 0 }
    (match u0.fwu.load with
    | some l =>
    decide ((l.cmd = some r)) && (
    true)
    | _ => false))
    | _ => false)),
    -- gpFwDeferredStart
    (let s : State := (at_ 3 1).updUpd (fun u => { u with act := some ⟨6, 0, ⟨0, 9⟩⟩ })
    (match s.fwu.act with
    | some a =>
    decide ((a.comp = 6 ∧ a.stage = 0 ∧ s.gpIdle)) && (
    true)
    | _ => false)),
    -- updActivate
    (let mb : Fin 8 := 0
    let s : State := cm ((at_ 3 1).updUpd (fun u => { u with run := [{}, {}, {}, { version := 1 }, {}, {}, {}] })) 0x0B13 (wd [3])
    (match s.waitingCmd mb 0x0B13 with
    | some c =>
    decide (Accept.running.ok s.tableState = true ∧ (false && !s.inService c.port) = false) && (
    let u0 := (s.startCmd c).inside
    let k := c.u32 0
    let new := nth u0.fwu.flash {} k
    decide (¬(k = 0 ∨ k > 6 ∨ new.version = (nth u0.fwu.run {} k).version)) && (
    decide (¬(!u0.consistentSet (upd u0.fwu.run k (fun _ => new)))) && (
    decide (¬(u0.fwu.act.isSome ∨ u0.fwu.restore.isSome ∨ (k ≤ 2 ∧ u0.gstate ≠ 3))) && (
    let a : UpdAct := { comp := k, stage := 0, cmd := { port := c.port, seq := c.seq } }
    let t := u0.updUpd (fun u => { u with act := some a, abandon := false })
    true))))
    | _ => false)),
    -- caseFwReadyTimeout
    (let s : State := (at_ 3 1).updUpd (fun u => { u with act := some ⟨3, 1, ⟨0, 9⟩⟩ })
    (match s.fwu.act with
    | some a =>
    decide ((a.comp = 3 ∧ a.stage = 1)) && (
    let t := (s.updUpd (fun u => { u with act := none, abandon := false })).set1 UPD_EVENTS_FAILED
    let t := (t.put UPD_STATUS_PHASE 2).raiseHold 0xB109 srcCase 3 0
    true)
    | _ => false)),
    -- updInfo
    (let mb : Fin 8 := 0
    let s : State := cm (at_ 3 1) 0x0B14 (wd [0x40000000])
    (match s.waitingCmd mb 0x0B14 with
    | some c =>
    decide (Accept.any.ok s.tableState = true ∧ (false && !s.inService c.port) = false) && (
    let u0 := (s.startCmd c).inside
    let a := c.u32 0
    decide (¬(!argRangeOk a 672)) && (
    let bs := (List.range 7).flatMap (fun k =>
      let r := nth u0.fwu.flash {} k
      padTo 96 (Config.versionRecord k r.version r.length r.mirror r.alt r.compat))
    true))
    | _ => false)),
    -- recFirstPart
    (let bad : Option (Fin 128) := none
    let s : State := (at_ 6 1).updUpd (fun u => { u with recOp := 1 })
    decide ((s.gstate = 6 ∧ s.fwu.recOp = 1)) && (
    let bs := s.recPart
    decide (¬(3 ≤ s.glb.lifecycle)) && (
    true))),
    -- recFurtherPart
    (let bad : Option (Fin 128) := none
    let s : State := (at_ 6 1).updUpd (fun u => { u with recOp := 2, recLoad := some { comp := 0, image := {}, nseg := 2 } })
    decide ((s.gstate = 6 ∧ s.fwu.recOp = 2)) && (
    (match s.fwu.recLoad with
    | some l =>
    true
    | _ => false))),
    -- recCheckDirectory
    (let s : State := (at_ 6 1).updUpd (fun u => { u with recOp := 3 })
    decide ((s.gstate = 6 ∧ s.fwu.recOp = 3)) && (
    let ok := (List.range 7).all (fun c => s.get (UPD_C_STATE_ENTRY c) == 0) && setAdmits s.fwu.flash
    true))
    ].all id = true := by decide +kernel

/-- States and operands that meet the hypotheses of each clause of WearAndTakeoverRowsComplete. -/
theorem wearAndTakeoverRows_hypotheses_met :
    [
    -- slackSample
    (let a : Int := 0
    let b : Int := 0
    let leakA : Nat := 0
    let leakB : Nat := 0
    let s : State := at_ 3 1
    decide ((s.lanesWork)) && (
    let t := s.updWear (fun w => { w with single := w.single || s.gstate == 4 })
    let t := t.wearTemp 3 (t.geti SNS_DIAL_T_TEMP)
    true)),
    -- clockStepApply
    (let lane : Fin 2 := 1
    let s : State := ((at_ 3 400).set1 (WEAR_LANE_DUE 1)).set1 GLB_STATE_STANDBY_OK
    decide ((s.dueLane = some lane.val ∧ s.stepOpen ∧ lane.val ≠ s.owner ∧ s.wear.check.isNone ∧ s.now % 400 = 0 ∧ !s.laneAct)) && (
    true)),
    -- clockStepCheckDone
    (let lane : Fin 2 := 1
    let s : State := (at_ 3 10000).updWear (fun w => { w with check := some (1, 0) })
    (match s.wear.check with
    | some (l, b) =>
    decide ((l = lane.val ∧ b + 4000 ≤ s.now)) && (
    let st := s.laneStep l
    let t := s.put (WEAR_LANE_STEP l) st
    let t := ((t.clr (WEAR_LANE_DUE l)).clr (WEAR_LANE_HOURS_LOW l)).set1 WEAR_EVENTS_STEP
    let t := t.showSlack l (convertSlack (t.geti (WEAR_LANE_SLACK l)) (st - 1) st / 10)
    let t := t.updWear (fun w => { w with
      check := none
      stepped := true
      yearDue := true
      times := w.times ++ [(0, s.mono)] })
    true)
    | _ => false)),
    -- hourlyRecord
    (let noise : Nat := 0
    let mram : Nat := 0
    let flash : Nat := 0
    let bad : Bool := false
    let s : State := (at_ 3 1).atMono 3600
    let hour := s.mono / 3600
    decide ((s.lanesReach ∧ s.mono % 3600 = 0 ∧ s.wear.lastHour < hour ∧ !s.pwr.saveDue)) && (
    decide (¬(bad)) && (
    let r := s.hourRec noise mram flash
    let t := (s.wrN A_WEAR_REC r.seq).updWear (fun w => { w with
      ring := r :: w.ring.take 18431
      firstMram := if r.seq ≤ 8760 then w.firstMram + mram else w.firstMram
      firstFlash := if r.seq ≤ 8760 then w.firstFlash + flash else w.firstFlash })
    let t := ((t.putSat WEAR_NV_MRAM_CORR mram).putSat WEAR_NV_FLASH_CORR flash)
    let t := (t.putSat WEAR_LEAK_LA r.leakA).putSat WEAR_LEAK_LB r.leakB
    let t := when ((nth t.wear.worst none 0).isSome) (fun u => u.judgeSlack 0 r.slackA) t
    let t := when ((nth t.wear.worst none 1).isSome) (fun u => u.judgeSlack 1 r.slackB) t
    let t := (((t.newHour).judgeCauses r).estimates).stepSwap
    true))),
    -- wearReadHourly
    (let mb : Fin 8 := 0
    let s : State := cm (at_ 3 1) 0x0C01 (wd [0, 1, 0x40000000])
    (match s.waitingCmd mb 0x0C01 with
    | some c =>
    decide (Accept.runSetting.ok s.tableState = true ∧ (false && !s.inService c.port) = false) && (
    let u0 := (s.startCmd c).inside
    let first := c.u32 0
    let n := c.u32 1
    let a := c.u32 2
    decide (¬(n = 0 ∨ 4096 < n ∨ !argRangeOk a (64 * n))) && (
    let l := (u0.wear.ring.filter (fun r => decide (first ≤ r.seq) && decide (r.seq < first + n))).reverse
    true))
    | _ => false)),
    -- wearReadYearly
    (let mb : Fin 8 := 0
    let s : State := cm (at_ 3 1) 0x0C02 (wd [0, 1, 0x40000000])
    (match s.waitingCmd mb 0x0C02 with
    | some c =>
    decide (Accept.runSetting.ok s.tableState = true ∧ (false && !s.inService c.port) = false) && (
    let u0 := (s.startCmd c).inside
    let i := c.u32 0
    let n := c.u32 1
    let a := c.u32 2
    decide (¬(31 < i ∨ n = 0 ∨ 32 < i + n ∨ !argRangeOk a (256 * n))) && (
    true))
    | _ => false)),
    -- wearEstimate
    (let mb : Fin 8 := 0
    let s : State := cm (at_ 3 1) 0x0C03 []
    (match s.waitingCmd mb 0x0C03 with
    | some c =>
    decide (Accept.running.ok s.tableState = true ∧ (false && !s.inService c.port) = false) && (
    let u0 := (s.startCmd c).inside
    true)
    | _ => false)),
    -- complicationDone
    (let lane : Fin 2 := 0
    let kind : Fin 8 := 0
    let subject : Nat := 0
    let result : CompResult := .slice
    let s : State := (at_ 3 1).setSlices 0 [⟨0, 1, 1, 0⟩]
    (match (s.slices lane).find? (fun c => c.kind == kind.val && c.subject == subject) with
    | some c =>
    let u0 := State.inside s
    let t := u0.setSlices lane ((u0.slices lane).erase c)
    let t := when (decide (lane.val = u0.owner)) (fun u => u.inc (ESC_COMP_RUN_RUN kind)) t
    true
    | _ => false)),
    -- takeoverComplete
    (let ns : Nat := 10001
    let s : State := (at_ 3 1).updRed (fun r => { r with takeover := some ⟨1, 0x6003, 1, 0⟩ })
    (match s.red.takeover with
    | some t =>
    decide ((s.inRunning ∧ (10000 < ns ∨ s.red.lastUpdate + 40000 < s.nextUpdate t.beat (t.beat * 25000 + t.at_ + ns)))) && (
    true)
    | _ => false)),
    -- takeoverComplete#2
    (let ns : Nat := 0
    let s : State := (at_ 3 1).updRed (fun r => { r with takeover := some ⟨1, 0x6003, 1, 0⟩, lastUpdate := 40625 })
    (match s.red.takeover with
    | some t =>
    decide (¬(s.inRunning ∧ (10000 < ns ∨ s.red.lastUpdate + 40000 < s.nextUpdate t.beat (t.beat * 25000 + t.at_ + ns)))) && (
    decide ((s.inRunning)) && (
    let u := s.recordTakeover t ns
    let u := (u.set1 RED_EVENTS_TAKEOVER).setGstate 4 t.code
    let u := (u.updRed (fun r => { r with attempt := some s.now })).applyHeld t.beat (t.beat * 25000 + t.at_ + ns)
    true))
    | _ => false)),
    -- beat
    (let obs : BeatObs := {}
    let s : State := at_ 3 1
    decide (¬(s.pwr.off)) && (
    let t := if s.esc.gen = 0 then s else s.countBeat
    true))
    ].all id = true := by decide +kernel

/-- States and operands that meet the hypotheses of each clause of PowerRowsComplete. -/
theorem powerRows_hypotheses_met :
    [
    -- powerFailWarning
    (let _z : Unit := ()
    let s : State := (at_ 3 1).updPwr (fun p => { p with warnLow := 4 })
    decide (¬(s.warned ∨ !s.warnDue)) && (
    let t := s.set1 PWR_STATUS_WARN
    let t := ((t.set1 PWR_EVENTS_WARN).inc PWR_DIPS_COUNT).inc PWR_WARN_TOTAL_COUNT
    let t := (t.raise 0xC101 NOTE srcCase 0 0).updSupply
    let t := t.updPwr (fun p => { p with warnRun := 0, saveDue := s.lanesReach && s.get MTR_SAVE_MODE != 1 })
    let t := (t.swingsWithdraw).bezelWarn (t.get PWR_HOLD_LEFT)
    let t := t.updUpd (fun u => { u with abandon := u.act.isSome })
    true)),
    -- warningWithdrawn
    (let s : State := ((at_ 3 1).set1 PWR_STATUS_WARN).updPwr (fun p => { p with goodRun := 40000 })
    decide (¬(!s.warned ∨ s.pwr.goodRun < secBeats)) && (
    let t := (s.clr PWR_STATUS_WARN).raiseTo PWR_DIPS_LONGEST (min (s.pwr.warnRun / 40) 0xFFFF)
    let t := (t.set1 PWR_EVENTS_WARN_END).updSupply
    true)),
    -- remontoireOn
    (let s : State := at_ 3 1
    decide (¬(s.isSet PWR_STATUS_REMONTOIRE)) && (
    true)),
    -- vsysToHold
    (let s : State := at_ 3 1
    decide (¬(s.isSet PWR_STATUS_VSYS_HOLD)) && (
    true)),
    -- supplyReset
    (let s : State := ((at_ 3 1).set1 PWR_STATUS_REMONTOIRE).updPwr (fun p => { p with dipRun := 2000 })
    decide ((s.supplyLost)) && (
    true)),
    -- cpSupplyOut
    (let neg : Bool := false
    let s : State := at_ 3 1
    let t := s.putBit PWR_STATUS_IN_RANGE (if neg then rVCPN else rVCPP) false
    let t := (t.set1 PWR_EVENTS_CP_SUPPLY).raise 0xC104 OUTLETSTOP srcCase 0xFFF
      (twos 32 (s.geti (if neg then PWR_CP_VCPN else PWR_CP_VCPP)))
    decide ((t.running)) && (
    true)),
    -- railBackInRange
    (let rail : Fin 4 := 1
    let s : State := at_ 3 1
    let t := s.putBit PWR_STATUS_IN_RANGE rail true
    decide ((rail.val = rVBAT)) && (
    true)),
    -- lanePllLost
    (let lane : Fin 2 := 0
    let s : State := at_ 3 1
    let t := ((s.clockLost (1 + lane)).putBit CLK_STATUS_LOCK lane false).raise 0xC10C NOTE srcCase lane 0
    decide ((t.running)) && (
    decide ((lane.val = t.owner)) && (
    true))),
    -- periphClockLost
    (let d : Fin 5 := 0
    let s : State := at_ 3 1
    let t := ((s.clockLost (periphDomain d)).periphLock d false).raise 0xC10B DEGRADE srcCase (periphDomain d) 0
    decide ((d.val = 0)) && (
    true)),
    -- chronoXtalStop
    (let s : State := at_ 3 1
    decide (¬(s.isSet CLK_STATUS_CHRONO_FB)) && (
    let t := (((s.clockLost cCHRONO).set1 CLK_STATUS_CHRONO_FB).set1 CLK_EVENTS_CHRONO).put LGL_CHRONO_COMP 0
    true)),
    -- chronoXtalRestore
    (let s : State := (at_ 3 1).set1 CLK_STATUS_CHRONO_FB
    decide ((s.isSet CLK_STATUS_CHRONO_FB)) && (
    true))
    ].all id = true := by decide +kernel

/-- States and operands that meet the hypotheses of each clause of CalibreAndStartRowsComplete, part 1. -/
theorem calibreAndStartRows_hypotheses_met :
    [
    -- calLoad
    (let mb : Fin 8 := 0
    let img : Image := {}
    let s : State := cm (at_ 3 1) 0x0101 (wd [0x40000000, 0x100])
    (match s.waitingCmd mb 0x0101 with
    | some c =>
    decide (Accept.runSetting.ok s.tableState = true ∧ (false && !s.inService c.port) = false) && (
    let u0 := (s.startCmd c).inside
    let a := c.u32 0
    let n := c.u32 1
    decide (¬(u0.glb.lifecycle ≠ 1 ∧ u0.glb.lifecycle ≠ 2)) && (
    decide (¬(u0.calBusy)) && (
    decide (¬(!argRangeOk a n ∨ n < 0x100)) && (
    let t := u0.laneReads a n
    let i := t.imageAt a n img
    decide (¬(i.headerOk ∧ i.length ≠ n)) && (
    true)))))
    | _ => false)),
    -- calPatch
    (let mb : Fin 8 := 0
    let img : Image := {}
    let s : State := cm (at_ 3 1) 0x0102 (wd [4])
    (match s.waitingCmd mb 0x0102 with
    | some c =>
    decide (Accept.running.ok s.tableState = true ∧ (false && !s.inService c.port) = false) && (
    let u0 := (s.startCmd c).inside
    let k := c.u32 0
    decide (¬(u0.calBusy)) && (
    decide (¬(k = 0 ∨ k > 4)) && (
    true)))
    | _ => false)),
    -- calTagInstaller
    (let mb : Fin 8 := 0
    let img : Image := goodImg
    let s : State := cm (jw (tagged (at_ 3 1)) [4]) 0x0107 ([])
    (match s.waitingCmd mb 0x0107 with
    | some c =>
    decide (Accept.running.ok s.tableState = true ∧ (false && !s.inService c.port) = false) && (
    let u0 := (s.startCmd c).inside
    decide (¬(u0.calBusy)) && (
    let u := u0.readInstaller
    (match u.takeTag img (some { port := c.port, seq := c.seq }) with
    | some (t, true) =>
    true
    | _ => false)))
    | _ => false)),
    -- calAbort
    (let mb : Fin 8 := 0
    let s : State := cm ((at_ 3 1).updCal (fun c => { c with write := some { slotW with cmd := some ⟨0, 9⟩ } })) 0x0104 (wd [9])
    (match s.waitingCmd mb 0x0104 with
    | some c =>
    decide (Accept.any.ok s.tableState = true ∧ (false && !s.inService c.port) = false) && (
    let u0 := (s.startCmd c).inside
    let r : CmdRef := { port := c.port, seq := c.u32 0 }
    (match u0.cal.write with
    | some w =>
    decide ((w.cmd = some r)) && (
    true)
    | _ => false))
    | _ => false)),
    -- calSlotInfo
    (let mb : Fin 8 := 0
    let s : State := cm (at_ 3 1) 0x0105 []
    (match s.waitingCmd mb 0x0105 with
    | some c =>
    decide (Accept.any.ok s.tableState = true ∧ (false && !s.inService c.port) = false) && (
    let u0 := (s.startCmd c).inside
    let k := c.u32 0
    decide (¬(k > 1)) && (
    let h := u0.slotHeader k
    let rec_ := match (u0.slot k).img with
      | some i => if (u0.slot k).commit then
          let r := le 4 (u0.slot k).seq ++ le 32 i.digest
          r ++ le 4 (crc32 r)
        else List.replicate 40 0#8
      | none => List.replicate 40 0#8
    true))
    | _ => false)),
    -- calEraseSlot
    (let mb : Fin 8 := 0
    let s : State := cm (at_ 3 1) 0x0106 (wd [1])
    (match s.waitingCmd mb 0x0106 with
    | some c =>
    decide (Accept.runSetting.ok s.tableState = true ∧ (true && !s.inService c.port) = false) && (
    let u0 := (s.startCmd c).inside
    let k := c.u32 0
    decide (¬(k > 1)) && (
    decide (¬(u0.calBusy)) && (
    decide (¬(u0.imageRuns ∧ k = u0.runSlot)) && (
    true))))
    | _ => false))
    ].all id = true := by decide +kernel

/-- States and operands that meet the hypotheses of each clause of CalibreAndStartRowsComplete, part 2. -/
theorem calibreAndStartRows_hypotheses_met_2 :
    [
    -- calRestartUnits
    (let mb : Fin 8 := 0
    let s : State := cm (at_ 3 1) 0x0103 (wd [4])
    (match s.waitingCmd mb 0x0103 with
    | some c =>
    decide (Accept.running.ok s.tableState = true ∧ (false && !s.inService c.port) = false) && (
    let u0 := (s.startCmd c).inside
    let m := c.u32 0
    let us := (List.range 18).map (fun i => i + 2) |>.filter (fun u => m.testBit u)
    decide (¬(m.testBit 1 ∨ 2 ^ 20 ≤ m)) && (
    decide (¬(u0.cal.units ≠ 0)) && (
    decide (¬(m.testBit 4 ∧ !u0.unlockOn c.port)) && (
    decide (¬(!m.testBit 0 ∧ us.any (fun u => decide (8 ≤ u) && u0.restartHeld (u - 8)))) && (
    decide (¬(us.isEmpty)) && (
    let t := when (m.testBit 4) (fun v => v.safLog 0x03 (c.port + 1) (v.worldNo c.port) v.saf.lastVer
      (v.rdN A_CAL_VER_SAFETY) (nth v.cal.run.secs 0 1)) u0
    let t := t.updCal (fun x => { x with units := m - m % 4, unitCmd := some { port := c.port, seq := c.seq } })
    true))))))
    | _ => false)),
    -- unitRestartDone
    (let unit : Fin 23 := 7
    let s : State := at_ 3 1
    let u := unit.val
    decide (¬(u < 2)) && (
    decide ((u < 20)) && (
    let act := match s.fwu.act with | some a => a.comp == 5 && a.stage == 1 | none => false
    true))),
    -- resetRelease
    (let lost : Bool := false
    let s : State := ((at_ 0 1).clr PWR_STATUS_IN_RANGE)
    decide (¬(s.gstate ≠ 0 ∨ s.bitOf PWR_STATUS_IN_RANGE 6)) && (
    let t := s.updPwr (fun p => { p with off := false })
    let t := t.put PWR_STATUS_IN_RANGE (t.get PWR_STATUS_IN_RANGE ||| 0xF0)
    let t := (t.put PWR_DOMAINS_ON 0x0FF).put CLK_STATUS_LOCK 0x7F
    let t := (t.put GLB_LIFECYCLE_LC t.glb.lifecycle).put GLB_REV_LEGAL_BUILD t.glb.legalBuild
    let t := (t.wrN A_GLB_SERIAL_LO (t.glb.serial % 2 ^ 32)).wrN A_GLB_SERIAL_HI (t.glb.serial / 2 ^ 32)
    let t := ((t.put RED_STATUS_LA_STATE 1).put RED_STATUS_LB_STATE 1).mendModulators
    true)),
    -- residentLoaderVerified
    (let bad : Fin 4 := 0
    let s : State := ((at_ 0 1).put PWR_STATUS_IN_RANGE 0xFF)
    decide (¬(s.gstate ≠ 0 ∨ !s.bitOf PWR_STATUS_IN_RANGE 6)) && (
    decide (s.badEntry = none) && (
    decide (¬(bad.val = 3 ∨ s.glb.recoveryReq)) && (
    true)))),
    -- firmwareSetLoaded
    (let corrupt : List (Fin 64) := []
    let digestBad : Option (Fin 7) := none
    let legalBad : Fin 4 := 0
    let s : State := (at_ 1 1).updCal (fun c => { c with step := 3 })
    decide (¬(s.gstate ≠ 1 ∨ s.cal.step ≠ 3)) && (
    decide (digestBad = none) && (
    let t := (s.loadFirmware.loadJewels (corrupt.map Fin.val)).set1 KEY_STATUS_DRBG_OK
    let t := t.updCal (fun c => { c with step := 4, legalBad := legalBad, early := c.out ||| legalBad.val, out := c.out ||| legalBad.val })
    let t := when (legalBad.val != 3) (fun u =>
      (u.wrN A_GLB_LEGAL_FW_ID u.glb.legalId).wrN A_GLB_LEGAL_FW_SUM u.glb.legalSum) t
    let t := t.powerEntry.sampleChrono 0
    let t := t.updKey (fun k => { k with seedMono := t.mono })
    let r := t.restoreTotals
    let t := r.1.restoreAccts.outageWith.countAon
    let t := forUpTo 2 (fun l u => when (legalBad.val.testBit l) (fun v =>
      v.raise 0x4010 (if legalBad.val = 3 then SETTINGCLASS else DEGRADE) (v.srcLane l) l 0) u) t
    let t := when (legalBad.val == 3) (fun u => u.enterSetting 0x4010) t
    true))),
    -- slotChoiceAgreed
    (let digestBad : Fin 4 := 0
    let choiceEqual : Bool := true
    let keysEqual : Bool := true
    let s : State := (((jw (at_ 1 1) [4]).setJewel 9 (some (leNum gPub))).romWith gPub)
    decide (¬(s.gstate ≠ 1 ∨ s.cal.step ≠ 4)) && (
    let both := s.cal.out == 0
    let t := s.putB KEY_STATUS_AGREED (both && keysEqual && s.glb.lifecycle != 0)
    let keyDiff := both && !keysEqual && s.glb.lifecycle != 0
    let blank := s.glb.lifecycle != 1 && s.glb.lifecycle != 2
    let diff := both && !choiceEqual && !blank
    let t := if blank then t else (t.examine 0 (digestBad.val.testBit 0)).examine 1 (digestBad.val.testBit 1)
    decide (¬((keyDiff || diff) && s.cal.repeats == 0)) && (
    decide (¬(keyDiff || diff)) && (
    decide (¬(blank)) && (
    (match t.chooseSlot with
    | some (k, fb) =>
    true
    | _ => false))))))
    ].all id = true := by decide +kernel

/-- States and operands that meet the hypotheses of each clause of CalibreAndStartRowsComplete, part 3. -/
theorem calibreAndStartRows_hypotheses_met_3 :
    [
    -- tagInstallerCheck
    (let readOk : Bool := false
    let img : Image := {}
    let s : State := (at_ 1 1).updCal (fun c => { c with step := 5 })
    decide (¬(s.gstate ≠ 1 ∨ s.cal.step ≠ 5)) && (
    let t := s.tagBoot.clr CAL_STATUS_TAG_TAKEN
    let t := when t.cal.run.cfg.tagEn State.readInstaller t
    decide ((if t.cal.run.cfg.tagEn then t.takeTag img none else none) = none) && (
    true))),
    -- slotWriteCommit
    (let back : CommitObs := ⟨false, false⟩
    let s : State := (at_ 3 1).updCal (fun c => { c with write := some slotW })
    (match s.cal.write with
    | some w =>
    let t := if back.ok then (s.slotCommit w).afterCommit w else s.slotWriteFail w
    true
    | _ => false)),
    -- startSelftestDone
    (let a : Option (Fin 65536) := none
    let b : Option (Fin 65536) := none
    let s : State := (at_ 1 1).updCal (fun c => { c with step := 7 })
    decide (¬(s.gstate ≠ 1 ∨ s.cal.step ≠ 7)) && (
    let code (l : Nat) : Option Nat :=
      match (if l = 0 then a else b) with
      | some v => some v.val
      | none => if s.cal.legalBad.testBit l then some 0x4010 else if s.cal.out.testBit l then some 0 else none
    let t := forUpTo 2 (fun l u =>
      match code l with
      | some v => (u.raise 0x600E DEGRADE (u.srcLane l) l v).updCal (fun c => { c with out := natBit c.out l true })
      | none => u) s
    let t := t.updCal (fun c => { c with step := 8 })
    true)),
    -- startOrder
    (let t100 : Nat := 0
    let x : StartObs := ⟨[], (0, 0), some 0, some 0⟩
    let s : State := ((at_ 1 1).updCal (fun c => { c with step := 8 })).put PWR_STATUS_IN_RANGE 0xFF
    decide (¬(s.gstate ≠ 1 ∨ s.cal.step ≠ 8 ∨ s.warned ∨ !s.bitOf PWR_STATUS_IN_RANGE rHOLD ∨ !s.ordersAgree x.orderA x.orderB)) && (
    let t := (((s.startCals x.cals).compareRefs x.refs.1 x.refs.2).startLanes).putSat CAL_START_TIME_TIME t100
    let t := (t.safetyRan).updCal (fun c => { c with step := 11 })
    let t := (t.updLgl (fun x => { x with metered := true })).updBzl (fun b => { b with recover := b.startRec.isSome })
    let t := (t.updRed (fun r => { r with swapMono := t.mono, legalMono := t.mono, appliedBeat := t.now })).updMtr (fun x =>
      { x with m := x.m.map (fun y => { y with reg := false, armed := false, crossBeat := t.now }) })
    let t := (forUpTo 8 (fun k u => (u.fnBoth k 0).put (SAF_FN_STATE_CAUSE k) 0) t).fnStatus
    let t := forUpTo 16 (fun k u => u.lcInit k) t.endCut
    let t := forUpTo 12 (fun n u => u.refreshPilot n) t
    let t := t.put SIT_STATUS_STATE (if t.get SIT_CFG_ROLE = 0 then 0 else 2)
    true)),
    -- loadingTimeout
    (let s : State := at_ 1 1
    decide ((s.gstate = 1)) && (
    true))
    ].all id = true := by decide +kernel

/-- States and operands that meet the hypotheses of each clause of HostTransactionsComplete. -/
theorem hostTransactions_hypotheses_met :
    [
    -- hostWatchdog
    (let s : State := (at_ 3 100000).put HPD_CFG_HOST_WD 1
    let wd := s.get HPD_CFG_HOST_WD
    decide ((s.running && wd != 0 && !s.isSet HPD_STATUS_HOST_SILENT &&
      decide (max s.host.pollBeat s.glb.runBeat + wd * secBeats ≤ s.now))) && (
    true)),
    -- interimReply
    (let port : Fin 2 := 0
    let seq : BitVec 16 := 1
    let s : State := cm (at_ 3 1000) 0x0101 []
    (match s.host.exec.find? (fun c => c.port == port.val && c.seq == seq.toNat) with
    | some c =>
    decide ((!c.interim && decide (c.beat + 400 ≤ s.now))) && (
    let t := s.holdReply c stACCEPTED 1 0
    true)
    | _ => false))
    ].all id = true := by decide +kernel

/-- States and operands that meet the hypotheses of each clause of ClearOnReadRegistersComplete. -/
theorem clearOnReadRegisters_hypotheses_met :
    [
    -- beatnoLoRead#2
    (let port : Fin 2 := 0
    let s : State := at_ 3 1
    (match s.regAt A_ESC_BEATNO_LO with
    | some r =>
    decide ((s.latchesNow port A_ESC_BEATNO_LO r [A_ESC_BEATNO_HI])) && (
    true)
    | _ => false)),
    -- budgetRoundRead#2
    (let port : Fin 2 := 0
    let s : State := at_ 3 1
    (match s.regAt A_GOV_BUDGET_ROUND with
    | some r =>
    decide ((s.latchesNow port A_GOV_BUDGET_ROUND r [A_GOV_BUDGET_DERATE, A_GOV_BUDGET_AUX, A_GOV_BUDGET_HEAD])) && (
    true)
    | _ => false)),
    -- plRoundRead#2
    (let port : Fin 2 := 0
    let s : State := at_ 3 1
    (match s.regAt A_GOV_PL_ROUND with
    | some r =>
    decide ((s.latchesNow port A_GOV_PL_ROUND r [0x38134, 0x38138, 0x3813C])) && (
    true)
    | _ => false)),
    -- glbPollRead#2
    (let port : Fin 2 := 0
    let s : State := at_ 3 1
    (match s.regAt A_GLB_POLL with
    | some r =>
    decide ((s.readsNow port A_GLB_POLL r)) && (
    true)
    | _ => false)),
    -- mbxReplyRead#2
    (let port : Fin 2 := 0
    let k : Fin 8 := 0
    let s : State := at_ 3 1
    (match s.regAt (A_MBX_HI (8 + k)) with
    | some r =>
    decide ((s.clearsNow port (A_MBX_HI (8 + k)) r)) && (
    true)
    | _ => false)),
    -- faultEntryRead#2
    (let port : Fin 2 := 0
    let s : State := at_ 3 1
    (match s.regAt (A_FLT_E 0) with
    | some r =>
    decide ((s.latchesNow port (A_FLT_E 0) r ((List.range 7).map (fun i => A_FLT_E (i + 1))))) && (
    true)
    | _ => false)),
    -- essMaxRead#2
    (let port : Fin 2 := 0
    let s : State := at_ 3 1
    (match s.regAt A_ESC_ESS_MAX with
    | some r =>
    decide ((s.clearsNow port A_ESC_ESS_MAX r)) && (
    true)
    | _ => false)),
    -- queueFullCntRead#2
    (let port : Fin 2 := 0
    let s : State := at_ 3 1
    (match s.regAt A_ESC_QUEUE with
    | some r =>
    decide ((s.clearsNow port A_ESC_QUEUE r)) && (
    true)
    | _ => false)),
    -- compRunRead#2
    (let port : Fin 2 := 0
    let k : Fin 8 := 0
    let s : State := at_ 3 1
    (match s.regAt (A_ESC_COMP_RUN k) with
    | some r =>
    decide ((s.clearsNow port (A_ESC_COMP_RUN k) r)) && (
    true)
    | _ => false)),
    -- compDropRead#2
    (let port : Fin 2 := 0
    let k : Fin 8 := 0
    let s : State := at_ 3 1
    (match s.regAt (A_ESC_COMP_DROP k) with
    | some r =>
    decide ((s.clearsNow port (A_ESC_COMP_DROP k) r)) && (
    true)
    | _ => false)),
    -- swingCntRead#2
    (let port : Fin 2 := 0
    let s : State := at_ 3 1
    (match s.regAt A_SNS_SWING_CNT with
    | some r =>
    decide ((s.clearsNow port A_SNS_SWING_CNT r)) && (
    true)
    | _ => false)),
    -- chStatRead#2
    (let port : Fin 2 := 0
    let n : Fin 128 := 0
    let s : State := at_ 3 1
    (match s.regAt (A_SNS_CH_STAT n) with
    | some r =>
    decide ((s.clearsNow port (A_SNS_CH_STAT n) r)) && (
    true)
    | _ => false)),
    -- meterStateRead#2
    (let port : Fin 2 := 0
    let m : Fin 32 := 0
    let s : State := at_ 3 1
    (match s.regAt (A_MTR_M_STATE m) with
    | some r =>
    decide ((s.clearsNow port (A_MTR_M_STATE m) r)) && (
    true)
    | _ => false)),
    -- plsStatRead#2
    (let port : Fin 2 := 0
    let k : Fin 4 := 0
    let s : State := at_ 3 1
    (match s.regAt (A_MTR_PLS_STAT k) with
    | some r =>
    decide ((s.clearsNow port (A_MTR_PLS_STAT k) r)) && (
    true)
    | _ => false)),
    -- tokCountRead#2
    (let port : Fin 2 := 0
    let s : State := at_ 3 1
    (match s.regAt A_TOK_COUNT with
    | some r =>
    decide ((s.clearsNow port A_TOK_COUNT r)) && (
    true)
    | _ => false)),
    -- sesProtoRead#2
    (let port : Fin 2 := 0
    let k : Fin 128 := 0
    let s : State := at_ 3 1
    (match s.regAt (A_SES_PROTO k) with
    | some r =>
    decide ((s.clearsNow port (A_SES_PROTO k) r)) && (
    true)
    | _ => false)),
    -- outSlacRead#2
    (let port : Fin 2 := 0
    let n : Fin 12 := 0
    let s : State := at_ 3 1
    (match s.regAt (A_OUT_SLAC n) with
    | some r =>
    decide ((s.clearsNow port (A_OUT_SLAC n) r)) && (
    true)
    | _ => false)),
    -- plBreachRead#2
    (let port : Fin 2 := 0
    let s : State := at_ 3 1
    (match s.regAt A_GOV_PL_BREACH with
    | some r =>
    decide ((s.clearsNow port A_GOV_PL_BREACH r)) && (
    true)
    | _ => false)),
    -- journalMaxRead#2
    (let port : Fin 2 := 0
    let s : State := at_ 3 1
    (match s.regAt A_RED_JOURNAL with
    | some r =>
    decide ((s.clearsNow port A_RED_JOURNAL r)) && (
    true)
    | _ => false)),
    -- gapMaxRead#2
    (let port : Fin 2 := 0
    let s : State := at_ 3 1
    (match s.regAt A_RED_GAP_MAX with
    | some r =>
    decide ((s.clearsNow port A_RED_GAP_MAX r)) && (
    true)
    | _ => false)),
    -- redChecksRead#2
    (let port : Fin 2 := 0
    let s : State := at_ 3 1
    (match s.regAt A_RED_CHECKS with
    | some r =>
    decide ((s.clearsNow port A_RED_CHECKS r)) && (
    true)
    | _ => false)),
    -- safCountRead#2
    (let port : Fin 2 := 0
    let s : State := at_ 3 1
    (match s.regAt A_SAF_COUNT with
    | some r =>
    decide ((s.clearsNow port A_SAF_COUNT r)) && (
    true)
    | _ => false)),
    -- safReactRead#2
    (let port : Fin 2 := 0
    let s : State := at_ 3 1
    (match s.regAt A_SAF_REACT with
    | some r =>
    decide ((s.clearsNow port A_SAF_REACT r)) && (
    true)
    | _ => false)),
    -- lchCountRead#2
    (let port : Fin 2 := 0
    let k : Fin 16 := 0
    let s : State := at_ 3 1
    (match s.regAt (A_LCH_COUNT k) with
    | some r =>
    decide ((s.clearsNow port (A_LCH_COUNT k) r)) && (
    true)
    | _ => false)),
    -- bzlCountRead#2
    (let port : Fin 2 := 0
    let s : State := at_ 3 1
    (match s.regAt A_BZL_COUNT with
    | some r =>
    decide ((s.clearsNow port A_BZL_COUNT r)) && (
    true)
    | _ => false)),
    -- rdCountRead#2
    (let port : Fin 2 := 0
    let s : State := at_ 3 1
    (match s.regAt A_NFC_RD_COUNT with
    | some r =>
    decide ((s.clearsNow port A_NFC_RD_COUNT r)) && (
    true)
    | _ => false)),
    -- tagStatRead#2
    (let port : Fin 2 := 0
    let s : State := at_ 3 1
    (match s.regAt A_NFC_TAG_STAT with
    | some r =>
    decide ((s.clearsNow port A_NFC_TAG_STAT r)) && (
    true)
    | _ => false)),
    -- sitCountRead#2
    (let port : Fin 2 := 0
    let s : State := at_ 3 1
    (match s.regAt A_SIT_COUNT with
    | some r =>
    decide ((s.clearsNow port A_SIT_COUNT r)) && (
    true)
    | _ => false)),
    -- sitErrRead#2
    (let port : Fin 2 := 0
    let s : State := at_ 3 1
    (match s.regAt A_SIT_ERR with
    | some r =>
    decide ((s.clearsNow port A_SIT_ERR r)) && (
    true)
    | _ => false)),
    -- sitDropRead#2
    (let port : Fin 2 := 0
    let s : State := at_ 3 1
    (match s.regAt A_SIT_DROP with
    | some r =>
    decide ((s.clearsNow port A_SIT_DROP r)) && (
    true)
    | _ => false)),
    -- hpdErrRead#2
    (let port : Fin 2 := 0
    let n : Fin 2 := 0
    let s : State := at_ 3 1
    (match s.regAt (A_HPD_P_ERR n) with
    | some r =>
    decide ((s.clearsNow port (A_HPD_P_ERR n) r)) && (
    true)
    | _ => false)),
    -- hpdClkRead#2
    (let port : Fin 2 := 0
    let n : Fin 2 := 0
    let s : State := at_ 3 1
    (match s.regAt (A_HPD_P_CLK n) with
    | some r =>
    decide ((s.clearsNow port (A_HPD_P_CLK n) r)) && (
    true)
    | _ => false)),
    -- arbMissRead#2
    (let port : Fin 2 := 0
    let m : Fin 14 := 0
    let s : State := at_ 3 1
    (match s.regAt (A_ARB_MISS m) with
    | some r =>
    decide ((s.clearsNow port (A_ARB_MISS m) r)) && (
    true)
    | _ => false)),
    -- arbWaitRead#2
    (let port : Fin 2 := 0
    let m : Fin 14 := 0
    let s : State := at_ 3 1
    (match s.regAt (A_ARB_WAIT m) with
    | some r =>
    decide ((s.clearsNow port (A_ARB_WAIT m) r)) && (
    true)
    | _ => false)),
    -- arbLoadRead#2
    (let port : Fin 2 := 0
    let b : Fin 9 := 0
    let s : State := at_ 3 1
    (match s.regAt (A_ARB_LOAD b) with
    | some r =>
    decide ((s.clearsNow port (A_ARB_LOAD b) r)) && (
    true)
    | _ => false)),
    -- jwUseRead#2
    (let port : Fin 2 := 0
    let s : State := at_ 3 1
    (match s.regAt A_KEY_JW_USE with
    | some r =>
    decide ((s.readsNow port A_KEY_JW_USE r)) && (
    true)
    | _ => false)),
    -- drbgRead#2
    (let port : Fin 2 := 0
    let s : State := at_ 3 1
    (match s.regAt A_KEY_DRBG with
    | some r =>
    decide ((s.clearsNow port A_KEY_DRBG r)) && (
    true)
    | _ => false)),
    -- pwrVauxRead#2
    (let port : Fin 2 := 0
    let s : State := at_ 3 1
    (match s.regAt A_PWR_VAUX with
    | some r =>
    decide ((s.clearsNow port A_PWR_VAUX r)) && (
    true)
    | _ => false)),
    -- pwrDipsRead#2
    (let port : Fin 2 := 0
    let s : State := at_ 3 1
    (match s.regAt A_PWR_DIPS with
    | some r =>
    decide ((s.clearsNow port A_PWR_DIPS r)) && (
    true)
    | _ => false)),
    -- fltStatusRead#2
    (let port : Fin 2 := 0
    let s : State := at_ 3 1
    (match s.regAt A_FLT_STATUS with
    | some r =>
    decide ((s.clearsNow port A_FLT_STATUS r)) && (
    true)
    | _ => false)),
    -- fltCountRead#2
    (let port : Fin 2 := 0
    let s : State := at_ 3 1
    (match s.regAt A_FLT_COUNT with
    | some r =>
    decide ((s.clearsNow port A_FLT_COUNT r)) && (
    true)
    | _ => false)),
    -- wideWord0Read
    (let port : Fin 2 := 0
    let addr : BitVec 32 := BitVec.ofNat 32 A_NFC_RD_UID
    let s : State := at_ 3 1
    (match findRow addr.toNat regRows with
    | some r =>
    decide ((r.words = 4 ∧ (addr.toNat - r.base) % r.s1 % r.s2 = 0)) && (
    true)
    | _ => false)),
    -- wideWord0Read#2
    (let port : Fin 2 := 0
    let addr : BitVec 32 := BitVec.ofNat 32 A_NFC_RD_UID
    let s : State := at_ 3 1
    (match findRow addr.toNat regRows with
    | some r =>
    decide ((r.words = 4 ∧ (addr.toNat - r.base) % r.s1 % r.s2 = 0 ∧ addr.toNat < 0x100000)) && (
    decide ((s.latchesNow port addr.toNat r [addr.toNat + 4, addr.toNat + 8, addr.toNat + 12])) && (
    decide ((addr.toNat ≠ A_GLB_POLL ∧ addr.toNat ≠ A_KEY_JW_USE ∧ intervalAt addr.toNat = none)) && (
    true)))
    | _ => false))
    ].all id = true := by decide +kernel

/-- Each command of OutletAndSafetyFrames answers a next state somewhere (here: in the reset state). -/
theorem outletAndSafetyFrames_hypotheses_met :
    ([.pilotPeriodStart 0 0 0 0,
      .pilotStateRecognised 0,
      .deferredAllocation 0,
      .pilotInvalid 0,
      .pilotFHoldEnd 0,
      .proximityMeasure 0 0,
      .ppInvalid 0,
      .slacParamReq 0 [],
      .mnbcSound 0 0 0,
      .slacMatch 0 0,
      .sdpRequest 0 false,
      .tlsPkTimeout 0,
      .authTimeout 0,
      .preauthExpiry 0,
      .suspendOpenExpiry 0,
      .stopLate 0,
      .v2gStopTimeout 0,
      .dcStopOpen 0,
      .setpointFrame 0 0,
      .canBusOff 0,
      .busOffRecovery 0,
      .closeTimeout 0,
      .vmatchTimeout 0,
      .auxMismatch 0,
      .rdcTrip 0 false 0,
      .rdcLockRelease 0,
      .insulationDwellEnd 0 () (),
      .ocInst 0,
      .overvolt 0,
      .connectorLatchClear 0,
      .holdRetry 0,
      .latchTimeout 0,
      .protBlind 0,
      .discrepancyTimeout 0,
      .testPulse 0 false 0,
      .pathDisagree 0,
      .lockFault 0,
      .soOffPulse 0 false false 0,
      .soOverload 0 0,
      .edmTimeout 0,
      .safetyUnlockExpiry,
      .pwdLockoutExpiry,
      .lcInrushEnd 0 0 0,
      .lcCurrentLimitCutoff 0 0,
      .lcThermalLatch 0 0,
      .lcThermalRelease 0 0,
      .lcRetry 0,
      .lcRetryRefill 0,
      .lcClampEvent 0 0,
      .lcOpenLoad 0 0 0,
      .lcOpenLoadClear 0 (⟨0, 0⟩),
      .lcStuck 0 0 0,
      .motorStall 0 0 0,
      .motorRunTimeout 0,
      .motorBrakeEnd 0,
      .lcShed () () (),
      .isnsSelectionChange 0] : List Instr).all (fun c => answers (exec c State.reset)) = true := by decide +kernel

/-- Each command of LegalAndSenseFrames answers a next state somewhere (here: in the reset state). -/
theorem legalAndSenseFrames_hypotheses_met :
    ([.essentialOverrun 0,
      .cmdLate,
      .coreWatchdogExpiry 0,
      .sramEccUncorrectable 0,
      .complicationPost 0 0 0 0 0,
      .complicationOverrun 0 0 0,
      .laneTempSample [] [] 0 0,
      .budgetPublish,
      .ibStuck 0,
      .ibclkFault 0 false,
      .swingInStart 0 false 0,
      .swingRetry 0 false 0,
      .modulatorFailed 0 0,
      .knownStateWindow 0,
      .ksStale 0,
      .linkDegraded 0,
      .meterNoref 0,
      .pulseStart 0,
      .pulseEnd 0,
      .deltaSave,
      .fullSave false,
      .intervalRead 0 0 0,
      .keypadEntryTimeout,
      .legalShowStep,
      .chronoSecond 0,
      .demandIntervalEnd,
      .demandSubintervalEnd,
      .billingPeriodEnd,
      .tariffSwitch 0,
      .tamperCoverOpen,
      .tamperDoorOpen,
      .tamperMagnetic 0 0,
      .legalWriteRefused,
      .tamperBStart 0 0 0,
      .tamperBEnd 0 0 0,
      .accountRecordCommit 0 false,
      .islandExit,
      .batteryDataStale,
      .priceStale,
      .siteLimitExpiry,
      .minOffExpiry 0,
      .sharePeriodStart,
      .shareLowerTimeout 0,
      .partnerLost 0,
      .partnerFailsafe,
      .journalAck 0,
      .laneResetRelease 0,
      .resyncRetry 0,
      .tourbillonDue,
      .swapWaitTimeout,
      .slackSample 0 0 0 0,
      .hourlyRecord 0 0 0 false,
      .clockStepApply 0,
      .clockStepCheckDone 0,
      .compMask 0,
      .reserveTighten 0,
      .escPlanInfo 0,
      .redSwapTimeout,
      .tamperClosedReading false] : List Instr).all (fun c => answers (exec c State.reset)) = true := by decide +kernel

/-- Each command of LineAndStoreFrames answers a next state somewhere (here: in the reset state). -/
theorem lineAndStoreFrames_hypotheses_met :
    ([.bezelPulseEnd 0,
      .bezelRestEnd,
      .bezelRailResume [],
      .bezelDropRepost,
      .bezelRecovery,
      .readerPoll none false,
      .cardPresenceCheck false,
      .isoDepTimeout,
      .tagFieldOn,
      .tagFieldLoss,
      .tagReqa,
      .tagWupa,
      .tagAnticollision,
      .tagSelect,
      .tagHlta,
      .tagDeselect,
      .getInfo {},
      .readBlock {} 0#16,
      .writeBlock {} 0#16 0#128 false,
      .readCounter {} 0#8,
      .incrCounter {} 0#8 0#24 false,
      .pwdAuth {} 0#32,
      .authEnd {} 0#128,
      .tagWriteCommit 0,
      .tagSilenceEnd,
      .tagTxnIdleTimeout,
      .tagScrub,
      .faultMirrorWrite,
      .tagHostLockWrite false,
      .mainsZeroCrossing 0 false {},
      .zcLost 0,
      .beatFrameStart 0,
      .beatFrameReceived 0,
      .ofdmFrameStart,
      .ofdmDataFrame 0#48 [],
      .ofdmAckFrame 0#48,
      .ofdmAckTimeout,
      .probeFrame 0,
      .linkReportSend,
      .linkExpiry 0,
      .partnerReportSend,
      .announceSend,
      .siteMessageRetry,
      .noPrivileged,
      .report,
      .share,
      .shareAck,
      .meterInfo,
      .linkReport,
      .toneMap,
      .announce,
      .hostData,
      .e2eAck,
      .hostWrite 0 0#32 [] 0,
      .hostWriteCrc 0 0#32 [] 0#16 0,
      .hostProtocolError 0 0#32 0,
      .hostWatchdog,
      .interimReply 0 0#16,
      .dbOutSetWrite (⟨0, 0#32⟩),
      .mainplateRequest 0 (⟨0, false, 1, []⟩) 0 0,
      .backoffEnd 0 0 0,
      .masterCutoff 0 0,
      .arbCutoffClear (⟨0, 0#14⟩),
      .scrubPassEnd [],
      .scrubLag,
      .spareCopyDone [],
      .hackSet 0 0#8,
      .hackClear (⟨0, 0#8⟩),
      .hackTimeout,
      .dmaStart (⟨0, 0⟩) none,
      .dmaPause (⟨0, 0⟩),
      .dmaResume (⟨0, 0⟩),
      .dmaAbort (⟨0, 0⟩),
      .dmaDeadline 0,
      .svcChallengeExpiry 0,
      .svcLockoutEnd,
      .serviceWorldTimeout 0,
      .ephemeralJewelClear 0,
      .entropyTestFail,
      .entropyRecovery,
      .drbgReseed,
      .updateLoadCommit,
      .updateRestoreDone,
      .gpFwDeferredStart,
      .recFirstPart none,
      .recFurtherPart none,
      .recCheckDirectory,
      .warningWithdrawn,
      .vsysToHold,
      .cpSupplyOut false,
      .holdLow,
      .vbatLow,
      .refClockMeasure 0,
      .chronoXtalStop,
      .chronoXtalRestore,
      .keyPublic 0,
      .remontoireOn,
      .remontoireOff,
      .railBackInRange 0,
      .periphClockReturn 0,
      .preambleLost,
      .sextantStart 0 false] : List Instr).all (fun c => answers (exec c State.reset)) = true := by decide +kernel

end
end Sys2Proof.Machine
end

section
/-! PROOF. Who may write GLB.RESET (R29): what the checks and the effect of a register write come to at that address, and what the
report of a refused write leaves unchanged. -/
namespace Sys2Proof.Machine

/-! ### The report of a refused host access -/

/-- A rate-limited fault (R423) touches the fault log alone, whether it is the key's first, a later or a dropped one. -/
theorem State.raiseLimited_frame (s : State) (key window code cls src p0 p1 : Nat) :
    ∃ f, s.raiseLimited key window code cls src p0 p1 = { s with flt := f } := by
  unfold State.raiseLimited
  cases rateOf s.flt.rate key with
  | none => exact ⟨_, rfl⟩
  | some r =>
    by_cases hwin : s.now < r.beat + window
    · exact ⟨_, if_pos hwin⟩
    · exact ⟨_, if_neg hwin⟩

/-- A refusal is counted in HPD.Pn_ERR.REFUSED and then reported (R337, R338). -/
theorem State.hostFail_refused (s : State) (port a : Nat) :
    s.hostFail port 0xA003 a = (s.inc (HPD_P_ERR_REFUSED port)).raiseHost 0xA003 port a := rfl

/-- A refusal changes registers and the fault log, and no other part of the state. -/
theorem State.hostFail_refused_frame (s : State) (port a : Nat) :
    { s.hostFail port 0xA003 a with regs := s.regs, flt := s.flt } = s := by
  rw [State.hostFail_refused, State.raiseHost]
  obtain ⟨f, hf⟩ := State.raiseLimited_frame (s.inc (HPD_P_ERR_REFUSED port)) (0xA003 * 16 + port) secBeats 0xA003 NOTE srcBarrel port a
  rw [hf]
  rfl

/-! ### GLB.RESET among the registers -/

/-- The row of GLB.RESET in the register map: one word, its fields KEY and ACTION write-only. -/
def glbResetRow : RegRow := ⟨0x40, 1048576, 1, 1048576, 1, 1, 0x0, 0x0, 0x0, 0xffff000f, 0x0, 0x0⟩

theorem findRow_glbReset : findRow A_GLB_RESET regRows = some glbResetRow := by decide +kernel

/-- GLB.RESET is no register of the motion works (R360). -/
theorem dmaAt_glbReset : dmaAt A_GLB_RESET = none := by decide

/-- GLB.RESET exists outside SCRAPPED, in RECOVERY too (R24, R44). -/
theorem State.regAt_glbReset (s : State) (hlc : s.glb.lifecycle ≠ 4) : s.regAt A_GLB_RESET = some glbResetRow := by
  have hblk : (!(A_GLB_RESET / 0x1000 == 0 || A_GLB_RESET / 0x1000 == 1 || A_GLB_RESET / 0x1000 == 0x40 ||
      A_GLB_RESET / 0x1000 == 0x43)) = false := by decide
  simp only [State.regAt, hlc, hblk, false_and, and_false, Bool.false_eq_true, if_false, findRow_glbReset]

/-- GLB.RESET belongs to a unit that has started in every state (R44). -/
theorem State.dormant_glbReset (s : State) : s.dormant A_GLB_RESET = false := by
  have hunit : unstarted A_GLB_RESET = false := by decide
  rw [State.dormant, hunit, Bool.and_false]

/-! ### The judgement of a write -/

/-- R29 is the only rule that can refuse a word for GLB.RESET outside SCRAPPED. -/
theorem State.wordRefused_glbReset (s : State) (port v : Nat) (hlc : s.glb.lifecycle ≠ 4) :
    s.wordRefused port A_GLB_RESET v (window338 A_GLB_RESET) = if s.resetOk port then none else some 0xA003 := by
  have hwin : window338 A_GLB_RESET = some 0 := by decide
  have hwo : (glbResetRow.rw == 0 && glbResetRow.w1c == 0 && glbResetRow.wo == 0) = false := by decide
  have hhack : A_GLB_RESET ≠ A_ARB_CTRL := by decide
  cases hok : s.resetOk port <;> simp [State.wordRefused, hwin, s.regAt_glbReset hlc, hwo, dmaAt_glbReset, hhack, hok]

/-- The judgement of a WRITE_CRC of GLB.RESET alone, or of a register write (R337). -/
theorem State.writeCode_glbReset (s : State) (port v : Nat) (hlc : s.glb.lifecycle ≠ 4) :
    s.writeCode port A_GLB_RESET [v] false = if s.resetOk port then 0 else 0xA003 := by
  have hword : s.refusals port A_GLB_RESET [v] =
      (s.wordRefused port A_GLB_RESET v (window338 A_GLB_RESET)).toList := by
    cases h : s.wordRefused port A_GLB_RESET v (window338 A_GLB_RESET) <;> simp [State.refusals, nth, h]
  rw [State.writeCode, hword, s.wordRefused_glbReset port v hlc]
  cases s.resetOk port <;> rfl

/-- R29's condition: a port outside SERVICE may not reset a running module. -/
theorem State.resetOk_eq_false_iff (s : State) (port : Nat) :
    s.resetOk port = false ↔ (s.gstate = 3 ∨ s.gstate = 4) ∧ s.inService port = false := by
  simp only [State.resetOk, Bool.or_eq_false_iff, Bool.not_eq_false', Bool.or_eq_true, beq_iff_eq]

theorem State.resetOk_iff (s : State) (port : Nat) :
    s.resetOk port = true ↔ (s.gstate ≠ 3 ∧ s.gstate ≠ 4) ∨ s.inService port = true := by
  simp [State.resetOk]

/-! ### The effect of an accepted write -/

/-- The word of GLB.RESET goes to the reset, and to no rule of another register. -/
theorem State.writeReg_glbReset (s : State) (port v : Nat) (hlc : s.glb.lifecycle ≠ 4) :
    s.writeReg port A_GLB_RESET v = s.writeReset v := by
  have hlo : indexIn (A_MBX_LO 0) 16 8 A_GLB_RESET = none := by decide
  have hhi : indexIn (A_MBX_HI 0) 16 8 A_GLB_RESET = none := by decide
  simp [State.writeReg, s.regAt_glbReset hlc, s.dormant_glbReset, hlo, hhi, dmaAt_glbReset]

/-- A write of GLB.RESET alone: the reset, between two looks at GLB.POLL. -/
theorem State.applyWords_glbReset (s : State) (port v : Nat) (hlc : s.glb.lifecycle ≠ 4) :
    s.applyWords port A_GLB_RESET [v] = (s.notePoll.writeReset v).notePoll := by
  have hmp : inMainplate A_GLB_RESET = false := by decide
  have hlc' : s.notePoll.glb.lifecycle ≠ 4 := hlc
  simp [State.applyWords, hmp, forUpTo, nth, s.notePoll.writeReg_glbReset port v hlc']

/-! ### REGISTER_WRITE of GLB.RESET -/

theorem exec_registerWrite (port : Fin 2) (addr : BitVec 32) (v : Word) (s : State) :
    exec (.registerWrite port addr v) s = execRegisterWrite port addr v s := rfl

/-- A register write of GLB.RESET: the reset where R29 allows it, else the report of the refusal. -/
theorem exec_registerWrite_glbReset (port : Fin 2) (v : Word) (s : State) (hlc : s.glb.lifecycle ≠ 4) :
    exec (.registerWrite port (BitVec.ofNat 32 A_GLB_RESET) v) s =
      .next (if s.resetOk port then (s.notePoll.writeReset v.toNat).notePoll else s.hostFail port 0xA003 A_GLB_RESET) := by
  have haddr : (BitVec.ofNat 32 A_GLB_RESET).toNat = A_GLB_RESET := by decide
  rw [exec_registerWrite, execRegisterWrite, haddr, s.writeCode_glbReset port v.toNat hlc, s.applyWords_glbReset port v.toNat hlc]
  cases s.resetOk port <;> rfl

/-- Settles O25, by the two outcomes of R29's condition: refused with the report alone, or accepted with the reset. -/
theorem resetAccess : Obligations.ResetAccess := by
  unfold Obligations.ResetAccess
  intro port v s hlc
  constructor
  · intro hrun hworld
    have hno : s.resetOk port = false := (s.resetOk_eq_false_iff port).mpr ⟨hrun, hworld⟩
    refine ⟨?_, ?_, s.hostFail_refused_frame port A_GLB_RESET⟩
    · simp [s.writeCode_glbReset port v.toNat hlc, hno]
    · simp [exec_registerWrite_glbReset port v s hlc, hno]
  · intro hmay
    have hok : s.resetOk port = true := (s.resetOk_iff port).mpr hmay
    constructor
    · simp [s.writeCode_glbReset port v.toNat hlc, hok]
    · simp [exec_registerWrite_glbReset port v s hlc, hok]

end Sys2Proof.Machine
end

section
/-! PROOF. The CRC-16 of the host transactions (R336): the model's byte-wise CRC is the division written bit by bit, and what a port
sends after a READ_CRC. -/
namespace Sys2Proof.Machine

/-! ### The division, bit by bit -/

/-- The remainder after the first k bits of a byte, most significant first. -/
def crcDivideFirst (c : Nat) (b : Byte) (k : Nat) : Nat := (List.range k).foldl (fun d i => crcDivideBit d (b.getMsbD i)) c

theorem crcDivideFirst_zero (c : Nat) (b : Byte) : crcDivideFirst c b 0 = c := rfl

theorem crcDivideFirst_succ (c : Nat) (b : Byte) (k : Nat) :
    crcDivideFirst c b (k + 1) = crcDivideBit (crcDivideFirst c b k) (b.getMsbD k) := by
  simp only [crcDivideFirst, List.range_succ, List.foldl_append, List.foldl_cons, List.foldl_nil]

theorem crcDivide_eq_foldl (bs : List Byte) : crcDivide bs = bs.foldl (fun c b => crcDivideFirst c b 8) 0xFFFF := rfl

theorem crcDivideBit_lt (c : Nat) (b : Bool) : crcDivideBit c b < 2 ^ 16 := by
  have hshift : 2 * c % 2 ^ 16 < 2 ^ 16 := Nat.mod_lt _ (by decide)
  unfold crcDivideBit
  split
  · exact Nat.xor_lt_two_pow hshift (by decide)
  · exact hshift

theorem crcDivideFirst_lt (c : Nat) (b : Byte) (k : Nat) (hc : c < 2 ^ 16) : crcDivideFirst c b k < 2 ^ 16 := by
  cases k with
  | zero => exact hc
  | succ k => exact crcDivideFirst_succ c b k ▸ crcDivideBit_lt _ _

/-! ### The CRC of a byte -/

/-- A repeated step, its last one apart. -/
theorem iter_succ_apply {α : Type} (n : Nat) (f : α → α) (x : α) : iter (n + 1) f x = f (iter n f x) := by
  induction n generalizing x with
  | zero => rfl
  | succ n ih => exact ih (f x)

/-- The top bit of a 16-bit remainder. -/
theorem testBit_fifteen_of_lt (c : Nat) (hc : c < 2 ^ 16) : c.testBit 15 = decide (2 ^ 15 ≤ c) := by
  rw [Nat.testBit_eq_decide_div_mod_eq, decide_eq_decide]
  omega

/-- Message bits laid over the remainder in advance shift along with it: the top one takes part in the division of this bit, the
others wait. -/
theorem crc16Bit_xor (c m : Nat) (hc : c < 2 ^ 16) :
    crc16Bit (c ^^^ m) = crcDivideBit c (m.testBit 15) ^^^ (2 * m % 2 ^ 16) := by
  have hshift : 2 * (c ^^^ m) % 2 ^ 16 = (2 * c % 2 ^ 16) ^^^ (2 * m % 2 ^ 16) := by
    have := Nat.shiftLeft_xor_distrib (a := c) (b := m) (i := 1)
    simp only [Nat.shiftLeft_eq, Nat.pow_one, Nat.mul_comm _ 2] at this
    rw [this, Nat.xor_mod_two_pow]
  rw [crc16Bit, crcDivideBit, Nat.testBit_xor, testBit_fifteen_of_lt c hc, hshift]
  split
  · rw [Nat.xor_assoc, Nat.xor_comm _ 0x1021, ← Nat.xor_assoc]
  · rfl

/-- After k bits of a byte, bit k is the top one of those that wait. -/
theorem testBit_waiting (b : Byte) (k : Nat) (hk : k < 8) : (b.toNat * 2 ^ (8 + k) % 2 ^ 16).testBit 15 = b.getMsbD k := by
  rw [Nat.testBit_mod_two_pow, Nat.testBit_mul_two_pow, BitVec.getMsbD, BitVec.getLsbD]
  have hidx : 15 - (8 + k) = 8 - 1 - k := by omega
  have hlow : 8 + k ≤ 15 := by omega
  simp only [hidx, hk, hlow, decide_true, Bool.true_and, show (15 : Nat) < 16 by decide]

/-- The state of the CRC inside a byte: the remainder of the bits taken so far, under the bits that wait. -/
theorem iter_crc16Bit (c : Nat) (b : Byte) (k : Nat) (hc : c < 2 ^ 16) (hk : k ≤ 8) :
    iter k crc16Bit (c ^^^ (b.toNat * 256)) = crcDivideFirst c b k ^^^ (b.toNat * 2 ^ (8 + k) % 2 ^ 16) := by
  induction k with
  | zero =>
    have hword : b.toNat * 256 < 2 ^ 16 := by have := b.isLt; omega
    rw [iter, crcDivideFirst_zero]
    exact congrArg (c ^^^ ·) (Nat.mod_eq_of_lt hword).symm
  | succ k ih =>
    have hwait : 2 * (b.toNat * 2 ^ (8 + k) % 2 ^ 16) % 2 ^ 16 = b.toNat * 2 ^ (8 + (k + 1)) % 2 ^ 16 := by
      rw [Nat.mul_mod_mod, ← Nat.add_assoc, Nat.pow_succ 2 (8 + k), Nat.mul_comm 2, Nat.mul_assoc]
    rw [iter_succ_apply, ih (by omega), crc16Bit_xor _ _ (crcDivideFirst_lt c b k hc), testBit_waiting b k hk, hwait,
      crcDivideFirst_succ]

theorem crc16Byte_eq_crcDivideFirst (c : Nat) (b : Byte) (hc : c < 2 ^ 16) : crc16Byte c b = crcDivideFirst c b 8 := by
  rw [crc16Byte, iter_crc16Bit c b 8 hc (Nat.le_refl 8), Nat.mul_mod_left, Nat.xor_zero]

/-- From any 16-bit remainder, the CRC of the bytes and the division of their bits agree. -/
theorem foldl_crc16Byte (bs : List Byte) (c : Nat) (hc : c < 2 ^ 16) :
    bs.foldl crc16Byte c = bs.foldl (fun c b => crcDivideFirst c b 8) c := by
  induction bs generalizing c with
  | nil => rfl
  | cons b bs ih =>
    rw [List.foldl_cons, List.foldl_cons, crc16Byte_eq_crcDivideFirst c b hc]
    exact ih _ (crcDivideFirst_lt c b 8 hc)

theorem crc16_eq_crcDivide (bs : List Byte) : crc16 bs = crcDivide bs := by
  rw [crc16, crcDivide_eq_foldl, foldl_crc16Byte bs 0xFFFF (by decide)]

/-! ### The bytes as sent -/

/-- The command byte, then the four address bytes most significant first (R335). -/
theorem headBytes_eq (cmd a : Nat) :
    headBytes cmd a = [BitVec.ofNat 8 cmd, BitVec.ofNat 8 (a / 2 ^ 24), BitVec.ofNat 8 (a / 2 ^ 16), BitVec.ofNat 8 (a / 2 ^ 8),
      BitVec.ofNat 8 a] := by
  simp only [headBytes, le, List.reverse_cons, List.reverse_nil, List.nil_append, List.cons_append, Nat.div_div_eq_div_mul,
    Nat.reduceMul, Nat.reducePow]

theorem crcBytes_eq (v : Nat) : crcBytes v = [BitVec.ofNat 8 (v / 256), BitVec.ofNat 8 v] := rfl

/-! ### The answer of a port -/

theorem nth_upd_same {α : Type} (l : List α) (d : α) (n : Nat) (f : α → α) (hn : n < l.length) :
    nth (upd l n f) d n = f (nth l d n) := by
  induction l generalizing n with
  | nil => exact absurd hn (Nat.not_lt_zero n)
  | cons x t ih =>
    cases n with
    | zero => rfl
    | succ n => exact ih n (Nat.lt_of_succ_lt_succ hn)

theorem State.nth_setOut_out (s : State) (port : Nat) (bs : List Byte) (hport : port < s.host.out.length) :
    nth (s.setOut port bs).host.out [] port = bs :=
  nth_upd_same s.host.out [] port _ hport

@[simp] theorem State.raiseHost_host (s : State) (code port p1 : Nat) : (s.raiseHost code port p1).host = s.host := by
  obtain ⟨f, hf⟩ := s.raiseLimited_frame (code * 16 + port) secBeats code NOTE srcBarrel port p1
  rw [State.raiseHost, hf]

/-- The report of a host-port fault leaves the answers on the lines. -/
@[simp] theorem State.hostFail_host (s : State) (port code a : Nat) : (s.hostFail port code a).host = s.host := by
  rw [State.hostFail, State.raiseHost_host]
  split
  · rfl
  · split
    · rfl
    · split <;> rfl

theorem when_host (b : Bool) (f : State → State) (s : State) (hf : (f s).host = s.host) : (when b f s).host = s.host := by
  cases b with
  | false => rfl
  | true => exact hf

/-- The reports of a read transaction, once its words are read: an address outside the maps, a word that was not ready. -/
def reportRead (port a : Nat) (x : ReadAcc × State) : State :=
  when x.1.under (fun u => u.raiseHost 0xA004 port a) (when x.1.unmapped (fun u => u.hostFail port 0xA002 a) x.2)

@[simp] theorem reportRead_host (port a : Nat) (x : ReadAcc × State) : (reportRead port a x).host = x.2.host := by
  rw [reportRead, when_host _ _ _ (State.raiseHost_host _ _ _ _), when_host _ _ _ (State.hostFail_host _ _ _ _)]

/-- A READ_CRC whose words were all sent as they stand answers them, and then the CRC of all that was sent (R336). -/
theorem State.hostRead_crc (s : State) (port a n sck : Nat) (late : List Nat) (hon : s.pwr.off = false)
    (hshape : shapeOk a n = true) (x : ReadAcc × State)
    (hx : x = readWords port a (window338 a) late n 0 {} (s.countTxn port sck)) (hgood : x.1.bad = false) :
    s.hostRead port a n sck late true =
      (reportRead port a x).setOut port (x.1.bytes ++ crcBytes (crc16 (headBytes 0x0C a ++ x.1.bytes))) := by
  simp only [State.hostRead, reportRead, hon, hshape, ← hx, hgood, Bool.not_true, Bool.false_eq_true, if_false, if_true]

/-! ### WRITE_CRC -/

theorem exec_hostWriteCrc (port : Fin 2) (addr : BitVec 32) (data : List Word) (crc : BitVec 16) (sck : Nat) (s : State) :
    exec (.hostWriteCrc port addr data crc sck) s = execHostWriteCrc port addr data crc sck s := rfl

/-- Settles O26, by the agreement of the two forms of the CRC and the equation of each transaction that carries one. -/
theorem crc16OfTransactions : Obligations.Crc16OfTransactions := by
  unfold Obligations.Crc16OfTransactions
  refine ⟨crc16_eq_crcDivide, ?_, headBytes_eq 0x12, crcBytes_eq, ?_⟩
  · intro port addr data crc sck s
    rw [exec_hostWriteCrc, execHostWriteCrc, crc16_eq_crcDivide]
  · intro s port a n sck late hon hshape _ x hgood hport
    rw [s.hostRead_crc port a n sck late hon hshape x rfl hgood, crc16_eq_crcDivide]
    exact (reportRead port a x).nth_setOut_out port _ (by rwa [reportRead_host])

end Sys2Proof.Machine
end

section
/-! PROOF. The step and the reset state, and the laws of fields, accumulators and Mainplate bytes as the statements name them. -/
namespace Sys2Proof.Machine

/-! ### The step and the reset state -/

/-- Settles O1, by the two forms of the queue. -/
theorem stepRunsFrontCommand : Obligations.StepRunsFrontCommand := by
  unfold Obligations.StepRunsFrontCommand
  constructor
  · intro c rest s hq
    rw [step, hq]
  · intro s hq
    rw [step, hq]

/-- Settles O2: the table spells no command, so nothing is put at the front of the queue. -/
theorem noWordSpellsCommand : Obligations.NoWordSpellsCommand := by
  unfold Obligations.NoWordSpellsCommand
  intro nbits w s
  exact ⟨rfl, rfl⟩

/-- A state with no register listed reads every reset value. -/
theorem State.rd_of_regs_nil (s : State) (h : s.regs = []) (a : Nat) : s.rd a = regReset a := by
  rw [State.rd, h, kvFind, Option.getD_none]

/-- The state after reset is BOOT: GLB.STATE resets to 0 (R22). -/
theorem State.reset_gstate : State.reset.gstate = 0 := by
  have hword : regReset A_GLB_STATE = 0#32 := by decide +kernel
  rw [State.gstate, State.get, State.rd_of_regs_nil State.reset rfl]
  exact congrArg (fun w : Word => (w.toNat >>> GLB_STATE_STATE.lo) % 2 ^ GLB_STATE_STATE.len) hword

/-- Settles O3: no register and no Mainplate byte is listed after reset, and every queue and log is empty. -/
theorem resetState : Obligations.ResetState := by
  unfold Obligations.ResetState
  exact ⟨rfl, State.reset_gstate, State.rd_of_regs_nil State.reset rfl, fun _ => rfl, rfl, rfl, rfl, rfl, rfl, rfl, rfl⟩

/-- Settles O4: empty maps are in canonical form, and empty logs within their sizes. -/
theorem resetIsGood : Obligations.ResetIsGood := by
  unfold Obligations.ResetIsGood State.Good
  exact ⟨rfl, rfl, Nat.zero_le _, Nat.zero_le _, Nat.zero_le _⟩

/-! ### Fields -/

/-- Settles O7, by the laws of a field read after a field write: same field, other word, other bits of the word. -/
theorem fieldReadAfterWrite : Obligations.FieldReadAfterWrite := by
  unfold Obligations.FieldReadAfterWrite
  refine ⟨get_put_same, ?_, fun _ _ _ => rfl⟩
  intro s f g v hwf hwide hother
  by_cases haddr : g.addr = f.addr
  · exact get_put_bits s f g v hwide haddr (hother.resolve_left (fun hne => hne haddr))
  · exact get_put_addr s f g v hwf haddr

/-! ### Accumulators -/

theorem kvWf_wr {s : State} {a : Nat} {v : Word} (h : kvWf regReset s.regs = true) : kvWf regReset (s.wr a v).regs = true :=
  kvInsert_wf h

theorem kvWf_wrN {s : State} {a v : Nat} (h : kvWf regReset s.regs = true) : kvWf regReset (s.wrN a v).regs = true := kvWf_wr h

theorem kvWf_put {s : State} {f : Fld} {v : Nat} (h : kvWf regReset s.regs = true) : kvWf regReset (s.put f v).regs = true :=
  kvWf_wr h

theorem rd_wrN_other {s : State} {a b v : Nat} (h : kvWf regReset s.regs = true) (ne : b ≠ a) : (s.wrN a v).rd b = s.rd b := by
  unfold State.wrN State.rd State.wr
  rw [kvFind_insert_other h ne]

theorem rdN_wrN_other {s : State} {a b v : Nat} (h : kvWf regReset s.regs = true) (ne : b ≠ a) : (s.wrN a v).rdN b = s.rdN b :=
  congrArg BitVec.toNat (rd_wrN_other h ne)

@[simp] theorem rdN_wrN_same (s : State) (a v : Nat) : (s.wrN a v).rdN a = v % 2 ^ 32 := by
  rw [State.wrN, State.rdN, rd_wr_same, BitVec.toNat_ofNat]

/-- The words of a 128-bit register outside it stay as they were. -/
theorem rd_wr128_other {s : State} {a b v : Nat} (h : kvWf regReset s.regs = true) (h0 : b ≠ a) (h4 : b ≠ a + 4) (h8 : b ≠ a + 8)
    (h12 : b ≠ a + 12) : (s.wr128 a v).rd b = s.rd b := by
  rw [State.wr128, rd_wrN_other (kvWf_wrN (kvWf_wrN (kvWf_wrN h))) h12, rd_wrN_other (kvWf_wrN (kvWf_wrN h)) h8,
    rd_wrN_other (kvWf_wrN h) h4, rd_wrN_other h h0]

/-- A 128-bit register reads what was written to it (R9). -/
theorem rd128_wr128_same {s : State} {a v : Nat} (h : kvWf regReset s.regs = true) (hv : v < 2 ^ 128) : (s.wr128 a v).rd128 a = v := by
  have h1 := kvWf_wrN (a := a) (v := v) h
  have h2 := kvWf_wrN (a := a + 4) (v := v / 2 ^ 32) h1
  have h3 := kvWf_wrN (a := a + 8) (v := v / 2 ^ 64) h2
  have w0 : (s.wr128 a v).rdN a = v % 2 ^ 32 := by
    rw [State.wr128, rdN_wrN_other h3 (by omega), rdN_wrN_other h2 (by omega), rdN_wrN_other h1 (by omega), rdN_wrN_same]
  have w4 : (s.wr128 a v).rdN (a + 4) = v / 2 ^ 32 % 2 ^ 32 := by
    rw [State.wr128, rdN_wrN_other h3 (by omega), rdN_wrN_other h2 (by omega), rdN_wrN_same]
  have w8 : (s.wr128 a v).rdN (a + 8) = v / 2 ^ 64 % 2 ^ 32 := by
    rw [State.wr128, rdN_wrN_other h3 (by omega), rdN_wrN_same]
  have w12 : (s.wr128 a v).rdN (a + 12) = v / 2 ^ 96 % 2 ^ 32 := by
    rw [State.wr128, rdN_wrN_same]
  rw [State.rd128, w0, w4, w8, w12]
  omega

/-- The signed value of a two's complement pattern of 128 bits. -/
theorem ofTwos_twos (x : Int) (lo : -(2 : Int) ^ 127 ≤ x) (hi : x < (2 : Int) ^ 127) :
    twos 128 x < 2 ^ 128 ∧
      (if twos 128 x < 2 ^ 127 then (twos 128 x : Int) else (twos 128 x : Int) - (2 : Int) ^ 128) = x := by
  unfold twos
  split <;> omega

/-- Settles O8: the sum is written as its two's complement, which reads back as the sum while it fits. -/
theorem accumulatorAddExact : Obligations.AccumulatorAddExact := by
  unfold Obligations.AccumulatorAddExact
  intro s a d hwf lo hi
  obtain ⟨hlt, hval⟩ := ofTwos_twos (s.rd128i a + d) lo hi
  constructor
  · rw [State.acc128, State.rd128i, rd128_wr128_same hwf hlt]
    exact hval
  · intro b h0 h4 h8 h12
    exact rd_wr128_other hwf h0 h4 h8 h12

/-! ### The Mainplate's bytes -/

/-- Stored bytes read back as they are. -/
theorem bytes_storeAll_same {m : List Host.Cell} (h : Memory.wf m = true) (a : Nat) (bs : List Byte) :
    Memory.bytes (Memory.storeAll m a bs) a bs.length = bs := by
  apply List.ext_getElem
  · rw [Memory.bytes, List.length_map, List.length_range]
  · intro i _ hi
    simp only [Memory.bytes, List.getElem_map, List.getElem_range, byte_storeAll_in h hi]

/-- A store of bytes within the window, with no word poisoned, stores them all (R338, R352). -/
theorem State.mpWrite_unpoisoned (s : State) (a : Nat) (bs : List Byte) (hp : s.mp.poison = []) (hfit : a + bs.length ≤ 0x41000000) :
    s.mpWrite a bs = { s with ram := Memory.storeAll s.ram (ramOff a) bs } := by
  have hcut : bs.take (0x41000000 - a) = bs := List.take_of_length_le (by omega)
  simp only [State.mpWrite, hp, hcut, List.isEmpty_nil, if_true]

/-- Settles O9, by the laws of a run of stores. -/
theorem mainplateStore : Obligations.MainplateStore := by
  unfold Obligations.MainplateStore
  intro s a bs hwf hpoison _ hfit
  rw [s.mpWrite_unpoisoned a bs hpoison hfit]
  exact ⟨bytes_storeAll_same hwf _ _, fun off hout => byte_storeAll_other hwf hout, rfl⟩

end Sys2Proof.Machine
end

section
/-! PROOF. The fault log: the order of a beat's entries (R426), the write of one (R424) and its 32 bytes (R423). -/
namespace Sys2Proof.Machine

/-! ### The order of a beat's entries -/

/-- The order of R426, written out. -/
def FaultEntry.Precedes (x y : FaultEntry) : Prop :=
  y.cls < x.cls ∨ (x.cls = y.cls ∧ (x.code < y.code ∨ (x.code = y.code ∧ x.p0 ≤ y.p0)))

theorem FaultEntry.before_iff (x y : FaultEntry) : x.before y = true ↔ x.Precedes y := by
  unfold FaultEntry.before FaultEntry.Precedes
  split
  · simp only [decide_eq_true_eq]
    omega
  · split <;> simp only [decide_eq_true_eq] <;> omega

theorem FaultEntry.Precedes.trans {x y z : FaultEntry} (hxy : x.Precedes y) (hyz : y.Precedes z) : x.Precedes z := by
  unfold FaultEntry.Precedes at *
  omega

theorem FaultEntry.precedes_of_not {x y : FaultEntry} (h : ¬ y.Precedes x) : x.Precedes y := by
  unfold FaultEntry.Precedes at *
  omega

theorem insertEntry_perm (x : FaultEntry) (l : List FaultEntry) : (insertEntry x l).Perm (x :: l) := by
  induction l with
  | nil => exact .refl _
  | cons y t ih =>
    unfold insertEntry
    split
    · exact (ih.cons y).trans (.swap x y t)
    · exact .refl _

/-- An insertion keeps the order of R426. -/
theorem insertEntry_pairwise (x : FaultEntry) (l : List FaultEntry) (h : l.Pairwise FaultEntry.Precedes) :
    (insertEntry x l).Pairwise FaultEntry.Precedes := by
  induction l with
  | nil => exact List.pairwise_singleton _ _
  | cons y t ih =>
    obtain ⟨hy, ht⟩ := List.pairwise_cons.mp h
    unfold insertEntry
    split
    next hbefore =>
      refine List.pairwise_cons.mpr ⟨?_, ih ht⟩
      intro z hz
      rcases List.mem_cons.mp ((insertEntry_perm x t).subset hz) with rfl | hzt
      · exact (y.before_iff z).mp hbefore
      · exact hy z hzt
    next hbefore =>
      have hxy : x.Precedes y := FaultEntry.precedes_of_not (fun hyx => hbefore ((y.before_iff x).mpr hyx))
      refine List.pairwise_cons.mpr ⟨?_, h⟩
      intro z hz
      rcases List.mem_cons.mp hz with rfl | hzt
      · exact hxy
      · exact hxy.trans (hy z hzt)

/-- Insertion after insertion: the entries taken so far, in the order of R426. -/
theorem foldl_insertEntry (l acc : List FaultEntry) (h : acc.Pairwise FaultEntry.Precedes) :
    (l.foldl (fun acc x => insertEntry x acc) acc).Perm (acc ++ l) ∧
      (l.foldl (fun acc x => insertEntry x acc) acc).Pairwise FaultEntry.Precedes := by
  induction l generalizing acc with
  | nil => exact ⟨by rw [List.foldl_nil, List.append_nil], h⟩
  | cons x t ih =>
    obtain ⟨hperm, hord⟩ := ih (insertEntry x acc) (insertEntry_pairwise x acc h)
    refine ⟨hperm.trans ?_, hord⟩
    calc (insertEntry x acc ++ t).Perm (x :: acc ++ t) := (insertEntry_perm x acc).append_right t
      _ |>.Perm (acc ++ x :: t) := List.perm_middle.symm

/-- Settles O10, by the two laws of an insertion: it permutes, and it keeps the order. -/
theorem faultOrder : Obligations.FaultOrder := by
  unfold Obligations.FaultOrder
  intro l
  exact foldl_insertEntry l [] List.Pairwise.nil

/-! ### Writing an entry -/

theorem get_putSat_same {s : State} {f : Fld} {v : Nat} (h : f.lo + f.len ≤ 32) : (s.putSat f v).get f = min v (2 ^ f.len - 1) := by
  have hpos := Nat.two_pow_pos f.len
  rw [State.putSat, get_put_same s f _ h, Nat.mod_eq_of_lt (by omega)]

theorem kvWf_putSat {s : State} {f : Fld} {v : Nat} (h : kvWf regReset s.regs = true) : kvWf regReset (s.putSat f v).regs = true :=
  kvWf_put h

theorem kvWf_inc {s : State} {f : Fld} (h : kvWf regReset s.regs = true) : kvWf regReset (s.inc f).regs = true := kvWf_put h

theorem rd_put_other {s : State} {f : Fld} {v a : Nat} (h : kvWf regReset s.regs = true) (ne : a ≠ f.addr) :
    (s.put f v).rd a = s.rd a := by
  unfold State.put State.rd State.wr
  rw [kvFind_insert_other h ne]

theorem rdN_put_other {s : State} {f : Fld} {v a : Nat} (h : kvWf regReset s.regs = true) (ne : a ≠ f.addr) :
    (s.put f v).rdN a = s.rdN a := congrArg BitVec.toNat (rd_put_other h ne)

theorem rdN_inc_other {s : State} {f : Fld} {a : Nat} (h : kvWf regReset s.regs = true) (ne : a ≠ f.addr) :
    (s.inc f).rdN a = s.rdN a := rdN_put_other h ne

/-- A counted or uncounted step leaves a word of another address, and the canonical form. -/
theorem rdN_when_inc {b : Bool} {s : State} {f : Fld} {a : Nat} (h : kvWf regReset s.regs = true) (ne : a ≠ f.addr) :
    (when b (fun u => u.inc f) s).rdN a = s.rdN a := by
  cases b with
  | false => rfl
  | true => exact rdN_inc_other h ne

theorem kvWf_when_inc {b : Bool} {s : State} {f : Fld} (h : kvWf regReset s.regs = true) :
    kvWf regReset (when b (fun u => u.inc f) s).regs = true := by
  cases b with
  | false => exact h
  | true => exact kvWf_inc h

/-- The counts of FLT.COUNT stand in one word (R421). -/
theorem fltCountField_addr (cls : Nat) : (fltCountField cls).addr = A_FLT_COUNT := by
  unfold fltCountField
  split
  · rfl
  · split
    · rfl
    · split <;> rfl

/-- What the write of an entry does to the registers, before FLT.STATUS.UNREAD is shown: the sequence number and the two counts. -/
def countEntry (e : FaultEntry) (lost : Bool) (seq : Nat) (s : State) : State :=
  when (decide (e.cls ≤ 3)) (fun u => u.inc (fltCountField e.cls)) (when lost (fun u => u.inc FLT_STATUS_OVERRUN) (s.wrN A_FLT_HEAD seq))

/-- The write of an entry: its place in the ring, then the counts, then the unread count. -/
theorem writeEntry_eq (e : FaultEntry) (s : State) : ∃ lost : Bool,
    writeEntry e s = (countEntry e lost (s.rdN A_FLT_HEAD + 1)
      { s with flt := { s.flt with ring := { e with seq := s.rdN A_FLT_HEAD + 1 } :: s.flt.ring.take 4095 } }).putSat FLT_STATUS_UNREAD
        (min 4096 (s.rdN A_FLT_HEAD + 1 - s.rdN A_FLT_ACK)) := ⟨_, rfl⟩

theorem countEntry_wf {e : FaultEntry} {lost : Bool} {seq : Nat} {s : State} (h : kvWf regReset s.regs = true) :
    kvWf regReset (countEntry e lost seq s).regs = true := kvWf_when_inc (kvWf_when_inc (kvWf_wrN h))

theorem countEntry_head {e : FaultEntry} {lost : Bool} {seq : Nat} {s : State} (h : kvWf regReset s.regs = true) :
    (countEntry e lost seq s).rdN A_FLT_HEAD = seq % 2 ^ 32 := by
  have hcount : A_FLT_HEAD ≠ (fltCountField e.cls).addr := by
    rw [fltCountField_addr]
    decide
  have hstatus : A_FLT_HEAD ≠ FLT_STATUS_OVERRUN.addr := by decide
  rw [countEntry, rdN_when_inc (kvWf_when_inc (kvWf_wrN h)) hcount, rdN_when_inc (kvWf_wrN h) hstatus, rdN_wrN_same]

/-- The counts touch registers alone. -/
theorem countEntry_frame (e : FaultEntry) (lost : Bool) (seq : Nat) (s : State) :
    ∃ regs, countEntry e lost seq s = { s with regs := regs } := by
  unfold countEntry
  cases lost <;> cases decide (e.cls ≤ 3) <;> exact ⟨_, rfl⟩

/-- Settles O11, by what the write of an entry does to the ring and to each register. -/
theorem faultLogWrite : Obligations.FaultLogWrite := by
  unfold Obligations.FaultLogWrite
  intro e s hwf
  obtain ⟨lost, heq⟩ := writeEntry_eq e s
  rw [heq]
  generalize hu : ({ s with flt := { s.flt with ring := { e with seq := s.rdN A_FLT_HEAD + 1 } :: s.flt.ring.take 4095 } } : State) = u
  have hring : u.flt.ring = { e with seq := s.rdN A_FLT_HEAD + 1 } :: s.flt.ring.take 4095 := by rw [← hu]
  have hwu : kvWf regReset u.regs = true := by rw [← hu]; exact hwf
  obtain ⟨regs, hframe⟩ := countEntry_frame e lost (s.rdN A_FLT_HEAD + 1) u
  have hunread : 4096 ≤ 2 ^ FLT_STATUS_UNREAD.len - 1 := by decide
  refine ⟨?_, ?_, ?_, ?_, ?_, ?_, ?_⟩
  · rw [State.putSat_flt, hframe]
    exact hring
  · rw [State.putSat_flt, hframe]
    simp only [hring, List.length_cons, List.length_take]
    omega
  · exact (rdN_put_other (countEntry_wf hwu) (by decide)).trans (countEntry_head hwu)
  · rw [get_putSat_same (by decide)]
    omega
  · rw [State.putSat_ram, hframe, ← hu]
  · rw [State.putSat_outs, hframe, ← hu]
  · rw [State.putSat_red, hframe, ← hu]

/-! ### The bytes of an entry -/

/-- Settles O12: each field stands where those before it end. -/
theorem faultEntryLayout : Obligations.FaultEntryLayout := by
  unfold Obligations.FaultEntryLayout
  intro e
  have hfield : ∀ n v, ofLe (le n v) = v % 2 ^ (8 * n) := fun n v => by
    rw [ofLe_le, Nat.pow_mul]
  refine ⟨?_, hfield 6 e.beat, hfield 2 e.code, hfield 8 e.mono, hfield 4 e.wall, hfield 4 e.seq, hfield 1 e.source, hfield 1 e.flags,
    hfield 2 e.p0, hfield 4 e.p1⟩
  simp only [FaultEntry.bytes, List.length_append, le_length]

end Sys2Proof.Machine
end

section
/-! PROOF. Complications and the arbiter: the admission of R66, the lane's window and queue (R65), the least slack of R356. -/
namespace Sys2Proof.Machine

/-! ### Admission -/

/-- The cost of a list of slices. -/
def costOf (l : List Comp) : Nat := (l.map (fun c => c.cost)).sum

theorem costOf_cons (c : Comp) (l : List Comp) : costOf (c :: l) = c.cost + costOf l := List.sum_cons

/-- An entry that fits is admitted, and takes its cost from the cycles left. -/
theorem admitGo_cons_of_fits {ok : Nat → Bool} {left : Nat} {c : Comp} {t : List Comp} (h : ok c.kind = true ∧ c.cost ≤ left) :
    admitGo ok left (c :: t) = (c :: (admitGo ok (left - c.cost) t).1, (admitGo ok (left - c.cost) t).2) := by
  simp only [admitGo, h, decide_true, Bool.and_self, if_true]

/-- An entry that does not fit, or is of a kind not allowed, stays. -/
theorem admitGo_cons_of_not {ok : Nat → Bool} {left : Nat} {c : Comp} {t : List Comp} (h : ¬ (ok c.kind = true ∧ c.cost ≤ left)) :
    admitGo ok left (c :: t) = ((admitGo ok left t).1, c :: (admitGo ok left t).2) := by
  have hb : (ok c.kind && decide (c.cost ≤ left)) = false := by
    rw [← Bool.not_eq_true, Bool.and_eq_true, decide_eq_true_eq]
    exact h
  simp only [admitGo, hb, Bool.false_eq_true, if_false]

theorem admitGo_cost (ok : Nat → Bool) (left : Nat) (q : List Comp) : costOf (admitGo ok left q).1 ≤ left := by
  induction q generalizing left with
  | nil => exact Nat.zero_le left
  | cons c t ih =>
    by_cases h : ok c.kind = true ∧ c.cost ≤ left
    · rw [admitGo_cons_of_fits h, costOf_cons]
      have := ih (left - c.cost)
      omega
    · rw [admitGo_cons_of_not h]
      exact ih left

theorem admitGo_allowed (ok : Nat → Bool) (left : Nat) (q : List Comp) : ∀ c ∈ (admitGo ok left q).1, ok c.kind = true := by
  induction q generalizing left with
  | nil => exact fun c hc => absurd hc List.not_mem_nil
  | cons d t ih =>
    by_cases h : ok d.kind = true ∧ d.cost ≤ left
    · rw [admitGo_cons_of_fits h]
      exact List.forall_mem_cons.mpr ⟨h.1, ih _⟩
    · rw [admitGo_cons_of_not h]
      exact ih left

theorem admitGo_sublist (ok : Nat → Bool) (left : Nat) (q : List Comp) :
    (admitGo ok left q).1.Sublist q ∧ (admitGo ok left q).2.Sublist q := by
  induction q generalizing left with
  | nil => exact ⟨.slnil, .slnil⟩
  | cons c t ih =>
    by_cases h : ok c.kind = true ∧ c.cost ≤ left
    · rw [admitGo_cons_of_fits h]
      exact ⟨(ih _).1.cons_cons c, (ih _).2.cons c⟩
    · rw [admitGo_cons_of_not h]
      exact ⟨(ih _).1.cons c, (ih _).2.cons_cons c⟩

theorem admitGo_perm (ok : Nat → Bool) (left : Nat) (q : List Comp) : ((admitGo ok left q).1 ++ (admitGo ok left q).2).Perm q := by
  induction q generalizing left with
  | nil => exact .refl _
  | cons c t ih =>
    by_cases h : ok c.kind = true ∧ c.cost ≤ left
    · rw [admitGo_cons_of_fits h]
      exact (ih _).cons c
    · rw [admitGo_cons_of_not h]
      exact List.perm_middle.trans ((ih _).cons c)

/-- What stays though allowed does not fit beside what was admitted. -/
theorem admitGo_maximal (ok : Nat → Bool) (left : Nat) (q : List Comp) :
    ∀ c ∈ (admitGo ok left q).2, ok c.kind = true → left < costOf (admitGo ok left q).1 + c.cost := by
  induction q generalizing left with
  | nil => exact fun c hc => absurd hc List.not_mem_nil
  | cons d t ih =>
    by_cases h : ok d.kind = true ∧ d.cost ≤ left
    · rw [admitGo_cons_of_fits h]
      intro c hc hok
      have := ih _ c hc hok
      rw [costOf_cons]
      omega
    · rw [admitGo_cons_of_not h]
      intro c hc hok
      rcases List.mem_cons.mp hc with rfl | htail
      · have hbig : ¬ c.cost ≤ left := fun hfit => h ⟨hok, hfit⟩
        dsimp only
        omega
      · exact ih left c htail hok

/-- Settles O13, by one law of the admission for each clause. -/
theorem admissionFits : Obligations.AdmissionFits := by
  unfold Obligations.AdmissionFits
  intro ok left q
  exact ⟨admitGo_cost ok left q, admitGo_allowed ok left q, (admitGo_sublist ok left q).1, (admitGo_sublist ok left q).2,
    admitGo_perm ok left q, admitGo_maximal ok left q⟩

/-! ### The window of a lane -/

/-- A lane runs the slices it was set to run, whatever engines they reserve. -/
theorem State.slices_reserve_setSlices (s : State) (lane : Nat) (l : List Comp) (hlane : lane < 2) :
    (((s.setSlices lane l).reserve lane l).slices lane) = l := by
  have hcase : lane = 0 ∨ lane = 1 := by omega
  rcases hcase with rfl | rfl <;> rfl

/-- After an admission a lane runs nothing, or what the order of its queue and its window let in. -/
theorem State.admitSlices_slices (s : State) (lane : Nat) (hlane : lane < 2) :
    (s.admitSlices lane).slices lane = [] ∨ ∃ live, (s.admitSlices lane).slices lane =
      (admitGo (fun k => (s.allowed lane).testBit k && !(k == kSELF_TEST && lane == s.owner)) (s.window lane) live).1 := by
  unfold State.admitSlices
  split
  · exact .inr ⟨_, State.slices_reserve_setSlices _ lane _ hlane⟩
  · exact .inl (State.slices_reserve_setSlices s lane [] hlane)

theorem State.window_le (s : State) (lane : Nat) : s.window lane ≤ 5625 := by
  unfold State.window
  extract_lets step full
  have hfull : full ≤ 5625 := by
    show (if step = 0 then 5625 else if step = 1 then 5156 else 4687) ≤ 5625
    split
    · exact Nat.le_refl _
    · split <;> decide
  split
  · exact Nat.zero_le _
  · split
    · exact Nat.le_trans (Nat.div_le_self full 2) hfull
    · exact hfull

/-- Settles O14: what a lane runs was admitted within its window, and SELF_TEST is no kind the owner is allowed. -/
theorem admissionWindow : Obligations.AdmissionWindow := by
  unfold Obligations.AdmissionWindow
  intro s lane hlane
  refine ⟨?_, s.window_le lane, fun hcond => if_pos hcond, ?_⟩
  · rcases s.admitSlices_slices lane hlane with hnone | ⟨live, hadm⟩
    · rw [hnone]
      exact Nat.zero_le _
    · rw [hadm]
      exact admitGo_cost _ _ live
  · intro howner c hc hkind
    rcases s.admitSlices_slices lane hlane with hnone | ⟨live, hadm⟩
    · rw [hnone] at hc
      exact List.not_mem_nil hc
    · rw [hadm] at hc
      have hok := admitGo_allowed _ _ live c hc
      simp [hkind, howner] at hok

/-! ### The queue of a lane -/

/-- A rate-limited fault leaves every register (R423). -/
theorem State.raiseLimited_regs (s : State) (key window code cls src p0 p1 : Nat) :
    (s.raiseLimited key window code cls src p0 p1).regs = s.regs := by
  obtain ⟨f, hf⟩ := s.raiseLimited_frame key window code cls src p0 p1
  rw [hf]

theorem State.raiseLimited_esc (s : State) (key window code cls src p0 p1 : Nat) :
    (s.raiseLimited key window code cls src p0 p1).esc = s.esc := by
  obtain ⟨f, hf⟩ := s.raiseLimited_frame key window code cls src p0 p1
  rw [hf]

theorem State.queue_of_esc {s t : State} (h : t.esc = s.esc) (lane : Nat) : t.queue lane = s.queue lane := by
  rw [State.queue, State.queue, h]

theorem State.get_of_regs {s t : State} (h : t.regs = s.regs) (f : Fld) : t.get f = s.get f := by
  rw [State.get, State.get, State.rd, State.rd, h]

/-- A queue set for one lane: that lane's, and not the other's. -/
theorem State.queue_setQueue (s : State) (lane : Nat) (q : List Comp) (hlane : lane < 2) :
    (s.setQueue lane q).queue lane = q ∧ (s.setQueue lane q).queue (1 - lane) = s.queue (1 - lane) := by
  unfold State.setQueue
  have hcase : lane = 0 ∨ lane = 1 := by omega
  cases decide (lane = s.owner) <;> rcases hcase with rfl | rfl <;> exact ⟨rfl, rfl⟩

/-- A post to a full queue counts and reports, and changes no queue. -/
theorem State.postComp_full (s : State) (lane : Nat) (c : Comp) (hfull : (s.queue lane).length ≥ 256) :
    s.postComp lane c =
      (when (decide (lane = s.owner)) (fun u => (u.inc ESC_QUEUE_FULL_CNT).set1 ESC_EVENTS_QUEUE_FULL) s).raiseLimited 0x2008
        secBeats 0x2008 NOTE
        ((when (decide (lane = s.owner)) (fun u => (u.inc ESC_QUEUE_FULL_CNT).set1 ESC_EVENTS_QUEUE_FULL) s).srcLane lane) c.kind 0 :=
  if_pos hfull

theorem State.postComp_full_esc (s : State) (lane : Nat) (c : Comp) (hfull : (s.queue lane).length ≥ 256) :
    (s.postComp lane c).esc = s.esc := by
  rw [s.postComp_full lane c hfull, State.raiseLimited_esc]
  cases decide (lane = s.owner) <;> rfl

/-- The count of a post to the owner's full queue, in ESC.QUEUE.FULL_CNT. -/
theorem State.postComp_full_count (s : State) (lane : Nat) (c : Comp) (hwf : kvWf regReset s.regs = true)
    (hfull : (s.queue lane).length ≥ 256) (howner : lane = s.owner) :
    (s.postComp lane c).get ESC_QUEUE_FULL_CNT = min (s.get ESC_QUEUE_FULL_CNT + 1) (2 ^ ESC_QUEUE_FULL_CNT.len - 1) := by
  rw [s.postComp_full lane c hfull, State.get_of_regs (State.raiseLimited_regs _ _ _ _ _ _ _ _), decide_eq_true howner]
  calc ((s.inc ESC_QUEUE_FULL_CNT).set1 ESC_EVENTS_QUEUE_FULL).get ESC_QUEUE_FULL_CNT
    _ = (s.inc ESC_QUEUE_FULL_CNT).get ESC_QUEUE_FULL_CNT := get_put_addr _ _ _ _ (kvWf_inc hwf) (by decide)
    _ = min (s.get ESC_QUEUE_FULL_CNT + 1) (2 ^ ESC_QUEUE_FULL_CNT.len - 1) := get_putSat_same (by decide)

/-- Settles O15, by the two branches of a post: the queue has room, or it is full. -/
theorem queueOf256 : Obligations.QueueOf256 := by
  unfold Obligations.QueueOf256
  intro s lane c hwf hlane hlen
  by_cases hfull : (s.queue lane).length ≥ 256
  · have hsame := State.queue_of_esc (s.postComp_full_esc lane c hfull)
    refine ⟨?_, fun hroom => absurd hroom (by omega), fun _ => ⟨hsame lane, s.postComp_full_count lane c hwf hfull⟩, hsame (1 - lane)⟩
    rw [hsame lane]
    exact hlen
  · have hpost : s.postComp lane c = s.setQueue lane (s.queue lane ++ [c]) := if_neg hfull
    obtain ⟨hthis, hother⟩ := s.queue_setQueue lane (s.queue lane ++ [c]) hlane
    rw [hpost]
    refine ⟨?_, fun _ => hthis, fun hlen' => absurd hlen' (by omega), hother⟩
    rw [hthis, List.length_append, List.length_singleton]
    omega

/-! ### The arbiter -/

/-- A request goes before another: less slack, or the same slack and no higher master (R356). -/
def MpReq.goesBefore (t : Nat) (r q : MpReq) : Prop := r.slack t < q.slack t ∨ (r.slack t = q.slack t ∧ r.master ≤ q.master)

theorem MpReq.goesBefore_refl (t : Nat) (r : MpReq) : r.goesBefore t r := .inr ⟨rfl, Nat.le_refl _⟩

theorem MpReq.goesBefore_trans {t : Nat} {p q r : MpReq} (hpq : p.goesBefore t q) (hqr : q.goesBefore t r) : p.goesBefore t r := by
  unfold MpReq.goesBefore at *
  omega

theorem MpReq.goesBefore_of_not {t : Nat} {q r : MpReq} (h : ¬ r.goesBefore t q) : q.goesBefore t r := by
  unfold MpReq.goesBefore at *
  omega

/-- The request granted of a longer list: the new one, or the one granted of the rest. -/
theorem leastSlack_cons (t : Nat) (r : MpReq) (l : List MpReq) :
    (leastSlack t l = none ∧ leastSlack t (r :: l) = some r) ∨
    ∃ q, leastSlack t l = some q ∧
      ((r.goesBefore t q ∧ leastSlack t (r :: l) = some r) ∨ (q.goesBefore t r ∧ leastSlack t (r :: l) = some q)) := by
  rw [leastSlack]
  cases h : leastSlack t l with
  | none => exact .inl ⟨rfl, rfl⟩
  | some q =>
    refine .inr ⟨q, rfl, ?_⟩
    by_cases hr : r.goesBefore t q
    · exact .inl ⟨hr, if_pos hr⟩
    · exact .inr ⟨MpReq.goesBefore_of_not hr, if_neg hr⟩

theorem leastSlack_eq_none (t : Nat) (l : List MpReq) : leastSlack t l = none ↔ l = [] := by
  cases l with
  | nil => exact ⟨fun _ => rfl, fun _ => rfl⟩
  | cons r l =>
    rcases leastSlack_cons t r l with ⟨_, h⟩ | ⟨q, _, ⟨_, h⟩ | ⟨_, h⟩⟩ <;> simp [h]

/-- The request granted is in the list and goes before every other. -/
theorem leastSlack_least (t : Nat) (l : List MpReq) (r : MpReq) (h : leastSlack t l = some r) :
    r ∈ l ∧ ∀ q ∈ l, r.goesBefore t q := by
  induction l generalizing r with
  | nil => cases h
  | cons x l ih =>
    rcases leastSlack_cons t x l with ⟨hnone, hx⟩ | ⟨q, hq, ⟨hbefore, hx⟩ | ⟨hbefore, hx⟩⟩
    · obtain rfl : x = r := Option.some.inj (hx.symm.trans h)
      rw [(leastSlack_eq_none t l).mp hnone]
      exact ⟨List.mem_singleton.mpr rfl, fun q hq => List.mem_singleton.mp hq ▸ x.goesBefore_refl t⟩
    · obtain rfl : x = r := Option.some.inj (hx.symm.trans h)
      exact ⟨List.mem_cons_self, List.forall_mem_cons.mpr ⟨x.goesBefore_refl t, fun y hy => MpReq.goesBefore_trans hbefore ((ih q hq).2 y hy)⟩⟩
    · obtain rfl : q = r := Option.some.inj (hx.symm.trans h)
      exact ⟨List.mem_cons_of_mem x (ih q hq).1, List.forall_mem_cons.mpr ⟨hbefore, (ih q hq).2⟩⟩

/-- The backoff after the j-th consecutive loss, at most 1 024 cycles (R357). -/
theorem two_pow_min_ten (n : Nat) : 2 ^ min 10 n = min 1024 (2 ^ n) := by
  rcases Nat.le_total n 10 with h | h
  · rw [Nat.min_eq_right h, Nat.min_eq_right]
    exact Nat.pow_le_pow_right (by decide) h
  · rw [Nat.min_eq_left h]
    exact (Nat.min_eq_left (Nat.pow_le_pow_right (n := 2) (by decide) h)).symm

/-- Settles O16, by induction on the list of requests; the backoff is a power of 2 below its cap. -/
theorem leastSlackGrant : Obligations.LeastSlackGrant := by
  unfold Obligations.LeastSlackGrant
  refine ⟨fun t l => ⟨leastSlack_eq_none t l, leastSlack_least t l⟩, ?_⟩
  intro r t j hj
  refine ⟨hj, ?_⟩
  have hpred : r.losses = j - 1 := by omega
  rw [MpReq.lose, two_pow_min_ten, hpred]

end Sys2Proof.Machine
end

section
/-! PROOF. Figures of single units: DERATE (R73), the pilot and the proximity resistance (R160 to R164), dual-range channels (R84), the
correction segment (R102), pending values (R110) and slacks (R401). -/
namespace Sys2Proof.Machine

/-! ### DERATE -/

/-- A fraction below its whole, rounded down to a multiple of 2^-16. -/
theorem floor_fraction (x w : Int) (hx : 0 ≤ x) (hw : 0 < w) :
    ((x * 65536 / w).toNat : Int) = x * 65536 / w ∧ x * 65536 / w * w ≤ x * 65536 ∧ x * 65536 < (x * 65536 / w + 1) * w := by
  have hmod := Int.emod_add_mul_ediv (x * 65536) w
  have hlo := Int.emod_nonneg (x * 65536) (Int.ne_of_gt hw)
  have hhi := Int.emod_lt_of_pos (x * 65536) hw
  have hpos : 0 ≤ x * 65536 / w := Int.ediv_nonneg (by omega) (Int.le_of_lt hw)
  have hcomm : x * 65536 / w * w = w * (x * 65536 / w) := Int.mul_comm _ _
  have hsucc : (x * 65536 / w + 1) * w = x * 65536 / w * w + w := by rw [Int.add_mul, Int.one_mul]
  exact ⟨Int.toNat_of_nonneg hpos, by omega, by omega⟩

section
variable {s : State} {den : Nat}

theorem State.derateOf_cool {num : Int} (h : num ≤ 10 * s.get GOV_RES_THERM_CFG_CASE_START * den) : s.derateOf num den = 0x10000 :=
  if_pos h

/-- The temperatures of R73 over a denominator keep their order. -/
theorem State.derate_start_lt_end (hden : 0 < den) (hcfg : s.get GOV_RES_THERM_CFG_CASE_START < s.get GOV_RES_THERM_CFG_CASE_END) :
    (10 * s.get GOV_RES_THERM_CFG_CASE_START * den : Int) < 10 * s.get GOV_RES_THERM_CFG_CASE_END * den :=
  Int.mul_lt_mul_of_pos_right (by omega) (by omega)

theorem State.derateOf_hot {num : Int} (hden : 0 < den)
    (hcfg : s.get GOV_RES_THERM_CFG_CASE_START < s.get GOV_RES_THERM_CFG_CASE_END)
    (h : 10 * s.get GOV_RES_THERM_CFG_CASE_END * den ≤ num) : s.derateOf num den = 0 := by
  have hlt := State.derate_start_lt_end hden hcfg
  exact (if_neg (Int.not_le.mpr (Int.lt_of_lt_of_le hlt h))).trans (if_pos h)

theorem State.derateOf_between {num : Int} (hlo : 10 * s.get GOV_RES_THERM_CFG_CASE_START * den < num)
    (hhi : num < 10 * s.get GOV_RES_THERM_CFG_CASE_END * den) :
    s.derateOf num den = ((10 * s.get GOV_RES_THERM_CFG_CASE_END * den - num) * 65536 /
      (10 * s.get GOV_RES_THERM_CFG_CASE_END * den - 10 * s.get GOV_RES_THERM_CFG_CASE_START * den)).toNat := by
  rw [← Int.sub_mul]
  exact (if_neg (Int.not_le.mpr hlo)).trans (if_neg (Int.not_le.mpr hhi))

end

/-- Settles O17, by the three ranges of R73: between them DERATE is a rounded fraction, which falls as the temperature rises. -/
theorem derateOfTemperature : Obligations.DerateOfTemperature := by
  unfold Obligations.DerateOfTemperature
  intro s den hden hcfg st en
  have hlt : st < en := State.derate_start_lt_end hden hcfg
  have hbetween : ∀ num : Int, st < num → num < en → (s.derateOf num den : Int) = (en - num) * 65536 / (en - st) ∧
      (s.derateOf num den : Int) * (en - st) ≤ (en - num) * 65536 ∧
      (en - num) * 65536 < ((s.derateOf num den : Int) + 1) * (en - st) := by
    intro num hlo hhi
    have hfrac := floor_fraction (en - num) (en - st) (by omega) (by omega)
    rw [State.derateOf_between hlo hhi, hfrac.1]
    exact ⟨rfl, hfrac.2⟩
  have hcap : ∀ num : Int, s.derateOf num den ≤ 0x10000 := by
    intro num
    by_cases hlo : num ≤ st
    · exact Nat.le_of_eq (State.derateOf_cool hlo)
    by_cases hhi : en ≤ num
    · rw [State.derateOf_hot hden hcfg hhi]
      exact Nat.zero_le _
    · have heq := (hbetween num (by omega) (by omega)).1
      have hle : (en - num) * 65536 / (en - st) ≤ 65536 := by
        refine Int.le_trans (Int.ediv_le_ediv (by omega) ?_)
          (Int.le_of_eq (Int.mul_ediv_cancel_left 65536 (a := en - st) (by omega)))
        exact Int.mul_le_mul_of_nonneg_right (by omega) (by omega)
      omega
  refine ⟨fun num h => State.derateOf_cool h, fun num h => State.derateOf_hot hden hcfg h, fun num hlo hhi => (hbetween num hlo hhi).2,
    ?_, hcap⟩
  intro x y hxy
  by_cases hx : x ≤ st
  · rw [State.derateOf_cool hx]
    exact hcap y
  by_cases hy : en ≤ y
  · rw [State.derateOf_hot hden hcfg hy]
    exact Nat.zero_le _
  · have heqx := (hbetween x (by omega) (by omega)).1
    have heqy := (hbetween y (by omega) (by omega)).1
    have hmono : (en - y) * 65536 / (en - st) ≤ (en - x) * 65536 / (en - st) := Int.ediv_le_ediv (by omega) (by omega)
    omega

/-! ### The pilot and the proximity contact -/

/-- Settles O18, by the three ranges of R162. -/
theorem pilotDuty : Obligations.PilotDuty := by
  unfold Obligations.PilotDuty
  have hlow : ∀ i : Nat, i < 6000000 → dutyUa i = 0 := fun i h => if_pos h
  have hmid : ∀ i : Nat, 6000000 ≤ i → i ≤ 51000000 → dutyUa i = i / 6000 :=
    fun i h6 h51 => (if_neg (Nat.not_lt.mpr h6)).trans (if_pos h51)
  have hhigh : ∀ i : Nat, 51000000 < i → i ≤ 63000000 → dutyUa i = i / 25000 + 6400 := fun i h51 h63 => by
    rw [dutyUa, if_neg (by omega), if_neg (by omega), Nat.min_eq_left h63]
  refine ⟨hlow, ?_, ?_, by decide, by decide, by decide, by decide⟩
  · intro i h6 h51
    rw [hmid i h6 h51]
    omega
  · intro i h51 h63
    rw [hhigh i h51 h63]
    omega

theorem bandOf_cases (v : Int) : (11000 ≤ v ∧ v ≤ 13000 ∧ bandOf v = 0) ∨ (8000 ≤ v ∧ v ≤ 10000 ∧ bandOf v = 1) ∨
    (5000 ≤ v ∧ v ≤ 7000 ∧ bandOf v = 2) ∨ (2000 ≤ v ∧ v ≤ 4000 ∧ bandOf v = 3) ∨ (-1000 ≤ v ∧ v ≤ 1000 ∧ bandOf v = 4) ∨
    (¬(11000 ≤ v ∧ v ≤ 13000) ∧ ¬(8000 ≤ v ∧ v ≤ 10000) ∧ ¬(5000 ≤ v ∧ v ≤ 7000) ∧ ¬(2000 ≤ v ∧ v ≤ 4000) ∧
      ¬(-1000 ≤ v ∧ v ≤ 1000) ∧ bandOf v = 5) := by
  unfold bandOf
  repeat' split
  all_goals omega

theorem ppClass_cases (r : Nat) : (4500 ≤ r ∧ ppClass r = 0) ∨ (2700 ≤ r ∧ r < 4500 ∧ ppClass r = 5) ∨
    (1100 ≤ r ∧ r < 2700 ∧ ppClass r = 1) ∨ (440 ≤ r ∧ r < 1100 ∧ ppClass r = 2) ∨ (160 ≤ r ∧ r < 440 ∧ ppClass r = 3) ∨
    (60 ≤ r ∧ r < 160 ∧ ppClass r = 4) ∨ (r < 60 ∧ ppClass r = 5) := by
  unfold ppClass
  repeat' split
  all_goals omega

/-- Settles O19: the bands exclude one another. -/
theorem pilotAndProximityBands : Obligations.PilotAndProximityBands := by
  unfold Obligations.PilotAndProximityBands
  constructor
  · intro v
    have := bandOf_cases v
    omega
  · intro r
    have := ppClass_cases r
    omega

/-! ### Dual-range channels -/

theorem fullScale_eq : fullScale = 2 ^ 23 := rfl

theorem dualWeight_above {x : Int} : dualWeight x true false = 0 := rfl

theorem dualWeight_low {x : Int} (h : 10 * (x.natAbs : Int) ≤ 2 * 2 ^ 23) : dualWeight x false false = 65536 := if_pos h

theorem dualWeight_high {x : Int} (h : 8 * 2 ^ 23 ≤ 10 * (x.natAbs : Int)) : dualWeight x false false = 0 := by
  have hnot : ¬ 10 * (x.natAbs : Int) ≤ 2 * fullScale := by
    rw [fullScale_eq]
    omega
  exact (if_neg hnot).trans (if_pos h)

theorem dualWeight_between {x : Int} (hlo : 2 * 2 ^ 23 < 10 * (x.natAbs : Int)) (hhi : 10 * (x.natAbs : Int) < 8 * 2 ^ 23) :
    dualWeight x false false = (8 * 2 ^ 23 - 10 * (x.natAbs : Int)) * 65536 / (6 * 2 ^ 23) :=
  (if_neg (Int.not_le.mpr hlo)).trans (if_neg (Int.not_le.mpr hhi))

theorem dualWeight_range (x : Int) (above : Bool) : 0 ≤ dualWeight x above false ∧ dualWeight x above false ≤ 65536 := by
  cases above with
  | true =>
    rw [dualWeight_above]
    omega
  | false =>
    by_cases hlo : 10 * (x.natAbs : Int) ≤ 2 * 2 ^ 23
    · rw [dualWeight_low hlo]
      omega
    by_cases hhi : 8 * 2 ^ 23 ≤ 10 * (x.natAbs : Int)
    · rw [dualWeight_high hhi]
      omega
    · rw [dualWeight_between (by omega) (by omega)]
      omega

/-- A value between two integers stays between them when it is rounded. -/
theorem roundEven_between {n d lo hi : Int} (hd : 0 < d) (hlo : lo * d ≤ n) (hhi : n ≤ hi * d) :
    lo ≤ roundEven n d ∧ roundEven n d ≤ hi := by
  have hq : lo ≤ n / d := (Int.le_ediv_iff_mul_le hd).mpr hlo
  have hup : n / d ≤ hi :=
    Int.le_trans (Int.ediv_le_ediv hd hhi) (Int.le_of_eq (Int.mul_ediv_cancel _ (Int.ne_of_gt hd)))
  have hcarry : 0 < n % d → n / d < hi := by
    intro hr
    have hmod := Int.emod_add_mul_ediv n d
    refine (Int.mul_lt_mul_right hd).mp ?_
    rw [Int.mul_comm (n / d)]
    omega
  have hr := Int.emod_nonneg n (Int.ne_of_gt hd)
  unfold roundEven
  dsimp only
  repeat' split
  all_goals omega

theorem roundEven_exact (q : Int) {d : Int} (hd : 0 < d) : roundEven (q * d) d = q :=
  have h := roundEven_between hd (Int.le_refl (q * d)) (Int.le_refl (q * d))
  Int.le_antisymm h.2 h.1

/-- A weighted mean lies between its two values. -/
theorem crossFade_between {h x w : Int} (hw0 : 0 ≤ w) (hw1 : w ≤ 65536) : min h x ≤ crossFade h x w ∧ crossFade h x w ≤ max h x := by
  refine roundEven_between (by decide) ?_ ?_
  · have h1 : w * min h x ≤ w * h := Int.mul_le_mul_of_nonneg_left (Int.min_le_left h x) hw0
    have h2 : (65536 - w) * min h x ≤ (65536 - w) * x := Int.mul_le_mul_of_nonneg_left (Int.min_le_right h x) (by omega)
    rw [Int.sub_mul] at h2
    omega
  · have h1 : w * h ≤ w * max h x := Int.mul_le_mul_of_nonneg_left (Int.le_max_left h x) hw0
    have h2 : (65536 - w) * x ≤ (65536 - w) * max h x := Int.mul_le_mul_of_nonneg_left (Int.le_max_right h x) (by omega)
    rw [Int.sub_mul (c := max h x)] at h2
    omega

theorem crossFade_full (h x : Int) : crossFade h x 65536 = h := by
  have hsum : 65536 * h + (65536 - 65536) * x = h * 65536 := by omega
  rw [crossFade, hsum, roundEven_exact h (by decide)]

theorem crossFade_zero (h x : Int) : crossFade h x 0 = x := by
  have hsum : 0 * h + (65536 - 0) * x = x * 65536 := by omega
  rw [crossFade, hsum, roundEven_exact x (by decide)]

/-- Settles O20, by the ranges of the weight and the bounds of a rounded mean. -/
theorem dualRangeCrossFade : Obligations.DualRangeCrossFade := by
  unfold Obligations.DualRangeCrossFade
  refine ⟨dualWeight_range, fun x => dualWeight_low, ?_, ?_, fun h x w => crossFade_between, fun h x => ⟨crossFade_full h x,
    crossFade_zero h x⟩, by decide⟩
  · intro x above h
    cases above with
    | true => exact dualWeight_above
    | false => exact dualWeight_high (h.resolve_left Bool.false_ne_true)
  · intro x hlo hhi
    rw [dualWeight_between hlo hhi]
    omega

/-! ### The correction segment -/

/-- Breakpoints that rise step by step rise. -/
theorem rising_le {b : Nat → Nat} {n : Nat} (hrise : ∀ j, j < n → b j < b (j + 1)) : ∀ i, i ≤ n → b i ≤ b n := by
  intro i hi
  induction n with
  | zero => exact Nat.le_of_eq (congrArg b (Nat.le_zero.mp hi))
  | succ n ih =>
    rcases Nat.lt_or_eq_of_le hi with hlt | heq
    · exact Nat.le_trans (ih (fun j hj => hrise j (by omega)) (by omega)) (Nat.le_of_lt (hrise n (by omega)))
    · exact Nat.le_of_eq (congrArg b heq)

/-- How many of the first n breakpoints an index has reached. -/
def reached (b : Nat → Nat) (n idx : Nat) : Nat := ((List.range n).filter (fun j => decide (b j ≤ idx))).length

theorem reached_succ (b : Nat → Nat) (n idx : Nat) : reached b (n + 1) idx = reached b n idx + if b n ≤ idx then 1 else 0 := by
  rw [reached, List.range_succ, List.filter_append, List.length_append, ← reached]
  by_cases h : b n ≤ idx <;> simp [h]

theorem reached_all {b : Nat → Nat} {n idx : Nat} (h : ∀ j, j < n → b j ≤ idx) : reached b n idx = n := by
  have hall : (List.range n).filter (fun j => decide (b j ≤ idx)) = List.range n :=
    List.filter_eq_self.mpr fun j hj => decide_eq_true (h j (List.mem_range.mp hj))
  rw [reached, hall, List.length_range]

/-- An index from the first breakpoint to below the n-th lies behind the last breakpoint it has reached. -/
theorem reached_segment {b : Nat → Nat} {n idx : Nat} (hrise : ∀ j, j < n → b j < b (j + 1)) (hlo : b 0 ≤ idx) (hhi : idx < b n) :
    reached b n idx - 1 < n ∧ b (reached b n idx - 1) ≤ idx ∧ idx < b (reached b n idx - 1 + 1) := by
  induction n with
  | zero => exact absurd hhi (Nat.not_lt.mpr hlo)
  | succ n ih =>
    have hrise' : ∀ j, j < n → b j < b (j + 1) := fun j hj => hrise j (by omega)
    rw [reached_succ]
    by_cases hn : b n ≤ idx
    · rw [if_pos hn, reached_all fun j hj => Nat.le_trans (rising_le hrise' j (by omega)) hn, Nat.add_sub_cancel]
      exact ⟨Nat.lt_succ_self n, hn, hhi⟩
    · obtain ⟨hk, hseg⟩ := ih hrise' (Nat.not_le.mp hn)
      rw [if_neg hn, Nat.add_zero]
      exact ⟨by omega, hseg⟩

/-- A part of a segment below its whole, rounded down to a multiple of 2^-16. -/
theorem nat_floor_fraction (x w : Nat) (h : x < w) :
    x * 65536 / w < 65536 ∧ x * 65536 / w * w ≤ x * 65536 ∧ x * 65536 < (x * 65536 / w + 1) * w := by
  have hw : 0 < w := by omega
  refine ⟨(Nat.div_lt_iff_lt_mul hw).mpr (by omega), Nat.div_mul_le_self _ _, ?_⟩
  rw [Nat.mul_comm _ w]
  exact Nat.lt_mul_div_succ _ hw

/-- Settles O21, by the ends of the table and the segment behind the last breakpoint reached. -/
theorem correctionSegment : Obligations.CorrectionSegment := by
  unfold Obligations.CorrectionSegment
  intro tab idx htab b
  have hrise : ∀ j, j < 7 → b j < b (j + 1) := fun j hj => Nat.mul_lt_mul_of_pos_right (htab j hj) (Nat.two_pow_pos 40)
  have hends : b 0 ≤ b 7 := rising_le hrise 0 (by decide)
  refine ⟨fun h => if_pos h, fun h => (if_neg (Nat.not_lt.mpr (Nat.le_trans hends h))).trans (if_pos h), ?_⟩
  intro hlo hhi
  have hseg : segmentOf tab idx = (reached b 7 idx - 1, (idx - b (reached b 7 idx - 1)) * 65536 /
      (b (reached b 7 idx - 1 + 1) - b (reached b 7 idx - 1)), _) :=
    (if_neg (Nat.not_lt.mpr hlo)).trans (if_neg (Nat.not_le.mpr hhi))
  obtain ⟨hk, hbelow, habove⟩ := reached_segment hrise hlo hhi
  rw [hseg]
  exact ⟨hk, hbelow, habove, nat_floor_fraction _ _ (by omega)⟩

/-! ### Pending values -/

theorem transfer_import {bar pend : Int} (hp : 0 < pend) (hb : 0 ≤ bar) : transfer true bar pend = (pend.toNat, 0, 0) := by
  simp [transfer, hp, hb]

theorem transfer_export {bar pend : Int} (hp : pend < 0) (hb : bar < 0) : transfer true bar pend = (0, (-pend).toNat, 0) := by
  have hnot : ¬ 0 < pend := by omega
  simp [transfer, hp, hb, hnot]

theorem transfer_unknown {bar pend : Int} : transfer false bar pend = (0, 0, pend) := rfl

theorem transfer_stay {known : Bool} {bar pend : Int} (h : (0 ≤ pend ∧ bar < 0) ∨ (pend ≤ 0 ∧ 0 ≤ bar)) :
    transfer known bar pend = (0, 0, pend) := by
  have himp : (known && decide (pend > 0) && decide (bar ≥ 0)) = false := by
    rw [Bool.and_assoc, ← Bool.decide_and, decide_eq_false (by omega), Bool.and_false]
  have hexp : (known && decide (pend < 0) && decide (bar < 0)) = false := by
    rw [Bool.and_assoc, ← Bool.decide_and, decide_eq_false (by omega), Bool.and_false]
  simp only [transfer, himp, hexp, Bool.false_eq_true, if_false]

/-- A pending value goes to the register of its direction, or stays. -/
theorem transfer_cases (known : Bool) (bar pend : Int) :
    (known = true ∧ 0 < pend ∧ 0 ≤ bar) ∨ (known = true ∧ pend < 0 ∧ bar < 0) ∨
      known = false ∨ ((0 ≤ pend ∧ bar < 0) ∨ (pend ≤ 0 ∧ 0 ≤ bar)) := by
  cases known
  · exact .inr (.inr (.inl rfl))
  · simp only [true_and]
    omega

/-- Settles O22, by the three ways of R110. -/
theorem pendingTransfer : Obligations.PendingTransfer := by
  unfold Obligations.PendingTransfer
  intro known bar pend
  refine ⟨?_, fun hk hp hb => hk ▸ transfer_import hp hb, fun hk hp hb => hk ▸ transfer_export hp hb,
    fun h => h.elim (fun hk => hk ▸ transfer_unknown) transfer_stay⟩
  rcases transfer_cases known bar pend with ⟨rfl, hp, hb⟩ | ⟨rfl, hp, hb⟩ | rfl | hstay
  · rw [transfer_import hp hb]
    dsimp only
    omega
  · rw [transfer_export hp hb]
    dsimp only
    omega
  · rw [transfer_unknown]
    dsimp only
    omega
  · rw [transfer_stay hstay]
    dsimp only
    omega

/-! ### Slacks -/

/-- Settles O23, by the definition of the conversion. -/
theorem slackConversion : Obligations.SlackConversion := by
  unfold Obligations.SlackConversion
  refine ⟨rfl, rfl, rfl, ?_, ?_⟩
  · intro v x y
    rw [convertSlack]
    omega
  · intro v x y
    rw [convertSlack, convertSlack]
    omega

end Sys2Proof.Machine
end

section
/-! PROOF. How a waiting host command is judged (R343, R44, R24, R25), and a retry that the thermal latch defers (R276). -/
namespace Sys2Proof.Machine

/-! ### The judgement of a host command -/

/-- With no command waiting nothing changes (log entry 5). -/
theorem State.command_of_none {s : State} {mb code : Nat} {acc : Accept} {service : Bool} {body : Cmd → State → State}
    (h : s.waitingCmd mb code = none) : s.command mb code acc service body = s := by
  rw [State.command, h]

/-- In a state that its table does not name a command is answered REFUSED_STATE (R44, R343). -/
theorem State.command_of_state {s : State} {mb code : Nat} {acc : Accept} {service : Bool} {body : Cmd → State → State} {c : Cmd}
    (h : s.waitingCmd mb code = some c) (hstate : acc.ok s.tableState = false) :
    s.command mb code acc service body = ((s.startCmd c).inside.reply c stREFUSED_STATE 0).doneIn := by
  simp only [State.command, h, hstate, Bool.not_false, if_true]
  rfl

/-- From a port that its table does not let send it a command is answered REFUSED_AUTH (R25, R343). -/
theorem State.command_of_auth {s : State} {mb code : Nat} {acc : Accept} {body : Cmd → State → State} {c : Cmd}
    (h : s.waitingCmd mb code = some c) (hstate : acc.ok s.tableState = true) (hport : s.inService c.port = false) :
    s.command mb code acc true body = ((s.startCmd c).inside.reply c stREFUSED_AUTH 0).doneIn := by
  simp only [State.command, h, hstate, hport, Bool.not_true, Bool.not_false, Bool.and_self, Bool.false_eq_true, if_true, if_false]
  rfl

/-- A command that its table takes runs its body, as part of the beat. -/
theorem State.command_of_takes {s : State} {mb code : Nat} {acc : Accept} {service : Bool} {body : Cmd → State → State} {c : Cmd}
    (h : s.takes mb code acc service c) : s.command mb code acc service body = (body c (s.startCmd c).inside).doneIn := by
  obtain ⟨hwait, hstate, hport⟩ := h
  simp only [State.command, hwait, hstate, hport, Bool.not_true, Bool.false_eq_true, if_false]
  rfl

/-- Settles O28, by the four outcomes of the judgement. -/
theorem commandsTurnedAway : Obligations.CommandsTurnedAway := by
  unfold Obligations.CommandsTurnedAway
  intro s mb code acc service body
  refine ⟨State.command_of_none, fun c => State.command_of_state, ?_, fun c => State.command_of_takes⟩
  intro c hwait hstate hservice hport
  rw [hservice]
  exact State.command_of_auth hwait hstate hport

/-! ### The deferred retry -/

/-- A retry that falls due while the latch is set is deferred (R276). -/
theorem execLcRetry_latched {k : Fin 16} {s : State} (hdue : s.lcst k = lcWAIT ∧ (s.lc k).due ≤ s.now ∧ (s.lc k).pend ≠ some false)
    (hlatch : s.isSet (LCH_STATE_LATCH k) = true) : exec (.lcRetry k) s = .next (s.put (LCH_STATE_ST k) lcDEFER) :=
  (if_pos hdue).trans (if_pos hlatch)

/-- Settles O27, by what the deferral writes: the state code, in a word whose retry count stands in other bits. -/
theorem thermalLatchWins : Obligations.ThermalLatchWins := by
  unfold Obligations.ThermalLatchWins
  intro k s _ hwait hdue hpend hlatch
  have hst : (s.put (LCH_STATE_ST k) lcDEFER).get (LCH_STATE_ST k) = 5 := get_put_same s _ _ (Nat.le_refl 32)
  have hleft : (s.put (LCH_STATE_ST k) lcDEFER).get (LCH_STATE_LEFT k) = s.get (LCH_STATE_LEFT k) :=
    get_put_bits s _ _ _ (Nat.le_refl 32) rfl (.inl (Nat.le_refl 28))
  refine ⟨_, execLcRetry_latched ⟨hwait, hdue, hpend⟩ hlatch, hst, hleft, ?_, rfl, rfl, rfl⟩
  rw [State.lcOn, State.lcst, hst]
  rfl

end Sys2Proof.Machine
end

section
/-! PROOF. Every step keeps a good state good: what each command keeps is proved with its meaning (good_exec…); here they are put together. -/
namespace Sys2Proof.Machine

/-- What a command answers from a good state is good: one arm per command, each by the law of its meaning. -/
theorem exec_good (c : Instr) (s : State) (h : State.Good s) : AllNext State.Good (exec c s) := by
  cases c with
  | resetRelease => exact good_execResetRelease _ s h
  | residentLoaderVerified => exact good_execResidentLoaderVerified _ s h
  | firmwareSetLoaded => exact good_execFirmwareSetLoaded _ _ _ s h
  | slotChoiceAgreed => exact good_execSlotChoiceAgreed _ _ _ s h
  | tagInstallerCheck => exact good_execTagInstallerCheck _ _ s h
  | startSelftestDone => exact good_execStartSelftestDone _ _ s h
  | startOrder => exact good_execStartOrder _ _ s h
  | loadingTimeout => exact good_execLoadingTimeout s h
  | glbResetModule => exact good_execGlbResetModule _ s h
  | glbResetRecovery => exact good_execGlbResetRecovery _ s h
  | beat => exact good_execBeat _ s h
  | frameArrival => exact good_execFrameArrival _ _ s h
  | essentialOverrun => exact good_execEssentialOverrun _ s h
  | cmdLate => exact good_execCmdLate s h
  | coreWatchdogExpiry => exact good_execCoreWatchdogExpiry _ s h
  | sramEccUncorrectable => exact good_execSramEccUncorrectable _ s h
  | complicationPost => exact good_execComplicationPost _ _ _ _ _ s h
  | complicationDone => exact good_execComplicationDone _ _ _ _ s h
  | complicationOverrun => exact good_execComplicationOverrun _ _ _ s h
  | laneTempSample => exact good_execLaneTempSample _ _ _ _ s h
  | budgetPublish => exact good_execBudgetPublish s h
  | beatnoLoRead => exact good_execBeatnoLoRead _ s h
  | budgetRoundRead => exact good_execBudgetRoundRead _ s h
  | plRoundRead => exact good_execPlRoundRead _ s h
  | ibStuck => exact good_execIbStuck _ s h
  | ibclkFault => exact good_execIbclkFault _ _ s h
  | swingInStart => exact good_execSwingInStart _ _ _ s h
  | swingRetry => exact good_execSwingRetry _ _ _ s h
  | modulatorFailed => exact good_execModulatorFailed _ _ s h
  | knownStateWindow => exact good_execKnownStateWindow _ s h
  | ksStale => exact good_execKsStale _ s h
  | referenceCompare => exact good_execReferenceCompare _ _ s h
  | frameLoss => exact good_execFrameLoss s h
  | linkDegraded => exact good_execLinkDegraded _ s h
  | meterNoref => exact good_execMeterNoref _ s h
  | meterHalt => exact good_execMeterHalt _ s h
  | pulseStart => exact good_execPulseStart _ s h
  | pulseEnd => exact good_execPulseEnd _ s h
  | deltaSave => exact good_execDeltaSave s h
  | fullSave => exact good_execFullSave _ s h
  | intervalRead => exact good_execIntervalRead _ _ _ s h
  | keypadKey => exact good_execKeypadKey _ s h
  | keypadEntryTimeout => exact good_execKeypadEntryTimeout s h
  | legalShowStep => exact good_execLegalShowStep s h
  | chronoSecond => exact good_execChronoSecond _ s h
  | demandIntervalEnd => exact good_execDemandIntervalEnd s h
  | demandSubintervalEnd => exact good_execDemandSubintervalEnd s h
  | billingPeriodEnd => exact good_execBillingPeriodEnd s h
  | tariffSwitch => exact good_execTariffSwitch _ s h
  | tamperCoverOpen => exact good_execTamperCoverOpen s h
  | tamperDoorOpen => exact good_execTamperDoorOpen s h
  | tamperMagnetic => exact good_execTamperMagnetic _ _ s h
  | legalWriteRefused => exact good_execLegalWriteRefused s h
  | tamperBStart => exact good_execTamperBStart _ _ _ s h
  | tamperBEnd => exact good_execTamperBEnd _ _ _ s h
  | accountRecordCommit => exact good_execAccountRecordCommit _ _ s h
  | pilotPeriodStart => exact good_execPilotPeriodStart _ _ _ _ s h
  | pilotStateRecognised => exact good_execPilotStateRecognised _ s h
  | deferredAllocation => exact good_execDeferredAllocation _ s h
  | pilotInvalid => exact good_execPilotInvalid _ s h
  | pilotFHoldEnd => exact good_execPilotFHoldEnd _ s h
  | proximityMeasure => exact good_execProximityMeasure _ _ s h
  | ppInvalid => exact good_execPpInvalid _ s h
  | slacParamReq => exact good_execSlacParamReq _ _ s h
  | mnbcSound => exact good_execMnbcSound _ _ _ s h
  | slacMatch => exact good_execSlacMatch _ _ s h
  | slacTimeout => exact good_execSlacTimeout _ s h
  | sdpRequest => exact good_execSdpRequest _ _ s h
  | supportedAppProtocol => exact good_execSupportedAppProtocol _ _ _ s h
  | v2gRequest => exact good_execV2gRequest _ _ _ s h
  | tlsClientHello => exact good_execTlsClientHello _ _ _ s h
  | tlsPkTimeout => exact good_execTlsPkTimeout _ s h
  | commSetupTimeout => exact good_execCommSetupTimeout _ s h
  | sequenceTimeout => exact good_execSequenceTimeout _ s h
  | cpStateDetectionTimeout => exact good_execCpStateDetectionTimeout _ s h
  | authTimeout => exact good_execAuthTimeout _ s h
  | preauthExpiry => exact good_execPreauthExpiry _ s h
  | suspendOpenExpiry => exact good_execSuspendOpenExpiry _ s h
  | stopLate => exact good_execStopLate _ s h
  | v2gStopTimeout => exact good_execV2gStopTimeout _ s h
  | dcStopOpen => exact good_execDcStopOpen _ s h
  | setpointFrame => exact good_execSetpointFrame _ _ s h
  | statusFrame => exact good_execStatusFrame _ _ _ s h
  | canTargetLost => exact good_execCanTargetLost _ _ s h
  | canBusOff => exact good_execCanBusOff _ s h
  | busOffRecovery => exact good_execBusOffRecovery _ s h
  | rdcSelfTestEnd => exact good_execRdcSelfTestEnd _ s h
  | closeTimeout => exact good_execCloseTimeout _ s h
  | vmatchTimeout => exact good_execVmatchTimeout _ s h
  | auxMismatch => exact good_execAuxMismatch _ s h
  | weldProofAc => exact good_execWeldProofAc _ () s h
  | weldProofDc => exact good_execWeldProofDc _ s h
  | rdcTrip => exact good_execRdcTrip _ _ _ s h
  | rdcLockRelease => exact good_execRdcLockRelease _ s h
  | insulationDwellEnd => exact good_execInsulationDwellEnd _ () () s h
  | ocInst => exact good_execOcInst _ s h
  | overvolt => exact good_execOvervolt _ s h
  | ocSlow => exact good_execOcSlow _ s h
  | connectorThermalLatch => exact good_execConnectorThermalLatch _ s h
  | connectorLatchClear => exact good_execConnectorLatchClear _ s h
  | holdRetry => exact good_execHoldRetry _ s h
  | latchTimeout => exact good_execLatchTimeout _ s h
  | protBlind => exact good_execProtBlind _ s h
  | placementRound => exact good_execPlacementRound s h
  | allocationApply => exact good_execAllocationApply s h
  | islandExit => exact good_execIslandExit s h
  | batteryDataStale => exact good_execBatteryDataStale s h
  | priceStale => exact good_execPriceStale s h
  | siteLimitExpiry => exact good_execSiteLimitExpiry s h
  | minOffExpiry => exact good_execMinOffExpiry _ s h
  | sharePeriodStart => exact good_execSharePeriodStart s h
  | shareLowerTimeout => exact good_execShareLowerTimeout _ s h
  | partnerLost => exact good_execPartnerLost _ s h
  | partnerFailsafe => exact good_execPartnerFailsafe s h
  | journalEntryApply => exact good_execJournalEntryApply _ _ _ s h
  | journalAck => exact good_execJournalAck _ s h
  | journalStall => exact good_execJournalStall s h
  | heartbeatVote => exact good_execHeartbeatVote _ _ _ s h
  | resignation => exact good_execResignation _ _ s h
  | takeoverComplete => exact good_execTakeoverComplete _ s h
  | takeoverLate => exact good_execTakeoverLate s h
  | laneResetRelease => exact good_execLaneResetRelease _ s h
  | laneResyncDone => exact good_execLaneResyncDone _ s h
  | resyncAttemptFail => exact good_execResyncAttemptFail _ _ s h
  | resyncRetry => exact good_execResyncRetry _ s h
  | tourbillonDue => exact good_execTourbillonDue s h
  | swapWaitTimeout => exact good_execSwapWaitTimeout s h
  | safetyInputAccept => exact good_execSafetyInputAccept _ _ _ _ s h
  | discrepancyTimeout => exact good_execDiscrepancyTimeout _ s h
  | testPulse => exact good_execTestPulse _ _ _ s h
  | safetyCycle => exact good_execSafetyCycle s h
  | hwPathCompare => exact good_execHwPathCompare _ s h
  | pathDisagree => exact good_execPathDisagree _ s h
  | stop1Expiry => exact good_execStop1Expiry _ _ s h
  | lockFault => exact good_execLockFault _ s h
  | soOffPulse => exact good_execSoOffPulse _ _ _ _ s h
  | soOverload => exact good_execSoOverload _ _ s h
  | edmTimeout => exact good_execEdmTimeout _ s h
  | safetyUnlockExpiry => exact good_execSafetyUnlockExpiry s h
  | pwdLockoutExpiry => exact good_execPwdLockoutExpiry s h
  | lcInrushEnd => exact good_execLcInrushEnd _ _ _ s h
  | lcCurrentLimitCutoff => exact good_execLcCurrentLimitCutoff _ _ s h
  | lcThermalLatch => exact good_execLcThermalLatch _ _ s h
  | lcThermalRelease => exact good_execLcThermalRelease _ _ s h
  | lcRetry => exact good_execLcRetry _ s h
  | lcRetryRefill => exact good_execLcRetryRefill _ s h
  | lcClampEvent => exact good_execLcClampEvent _ _ s h
  | lcOpenLoad => exact good_execLcOpenLoad _ _ _ s h
  | lcOpenLoadClear => exact good_execLcOpenLoadClear _ _ s h
  | lcStuck => exact good_execLcStuck _ _ _ s h
  | motorStall => exact good_execMotorStall _ _ _ s h
  | motorRunTimeout => exact good_execMotorRunTimeout _ s h
  | motorBrakeEnd => exact good_execMotorBrakeEnd _ s h
  | lcShed => exact good_execLcShed () () () s h
  | bezelPulseEnd => exact good_execBezelPulseEnd _ s h
  | bezelRestEnd => exact good_execBezelRestEnd s h
  | bezelRailResume => exact good_execBezelRailResume _ s h
  | bezelDropRepost => exact good_execBezelDropRepost s h
  | bezelRecovery => exact good_execBezelRecovery s h
  | readerPoll => exact good_execReaderPoll _ _ s h
  | cardPresenceCheck => exact good_execCardPresenceCheck _ s h
  | isoDepTimeout => exact good_execIsoDepTimeout s h
  | tagFieldOn => exact good_execTagFieldOn s h
  | tagFieldLoss => exact good_execTagFieldLoss s h
  | tagReqa => exact good_execTagReqa s h
  | tagWupa => exact good_execTagWupa s h
  | tagAnticollision => exact good_execTagAnticollision s h
  | tagSelect => exact good_execTagSelect s h
  | tagHlta => exact good_execTagHlta s h
  | tagDeselect => exact good_execTagDeselect s h
  | getInfo => exact good_execGetInfo _ s h
  | readBlock => exact good_execReadBlock _ _ s h
  | writeBlock => exact good_execWriteBlock _ _ _ _ s h
  | readCounter => exact good_execReadCounter _ _ s h
  | incrCounter => exact good_execIncrCounter _ _ _ _ s h
  | pwdAuth => exact good_execPwdAuth _ _ s h
  | authBegin => exact good_execAuthBegin _ _ s h
  | authEnd => exact good_execAuthEnd _ _ s h
  | tagWriteCommit => exact good_execTagWriteCommit _ s h
  | tagSilenceEnd => exact good_execTagSilenceEnd s h
  | tagTxnIdleTimeout => exact good_execTagTxnIdleTimeout s h
  | tagScrub => exact good_execTagScrub s h
  | faultMirrorWrite => exact good_execFaultMirrorWrite s h
  | tagHostLockWrite => exact good_execTagHostLockWrite _ s h
  | mainsZeroCrossing => exact good_execMainsZeroCrossing _ _ _ s h
  | zcLost => exact good_execZcLost _ s h
  | beatFrameStart => exact good_execBeatFrameStart _ s h
  | beatFrameReceived => exact good_execBeatFrameReceived _ s h
  | ofdmFrameStart => exact good_execOfdmFrameStart s h
  | ofdmDataFrame => exact good_execOfdmDataFrame _ _ s h
  | ofdmAckFrame => exact good_execOfdmAckFrame _ s h
  | ofdmAckTimeout => exact good_execOfdmAckTimeout s h
  | probeFrame => exact good_execProbeFrame _ s h
  | linkReportSend => exact good_execLinkReportSend s h
  | linkExpiry => exact good_execLinkExpiry _ s h
  | partnerReportSend => exact good_execPartnerReportSend s h
  | announceSend => exact good_execAnnounceSend s h
  | siteMessageRetry => exact good_execSiteMessageRetry s h
  | noPrivileged => exact good_execNoPrivileged s h
  | report => exact good_execReport s h
  | share => exact good_execShare s h
  | shareAck => exact good_execShareAck s h
  | meterInfo => exact good_execMeterInfo s h
  | linkReport => exact good_execLinkReport s h
  | toneMap => exact good_execToneMap s h
  | announce => exact good_execAnnounce s h
  | hostData => exact good_execHostData s h
  | e2eAck => exact good_execE2eAck s h
  | hostRead => exact good_execHostRead _ _ _ _ _ s h
  | hostReadCrc => exact good_execHostReadCrc _ _ _ _ _ s h
  | hostWrite => exact good_execHostWrite _ _ _ _ s h
  | hostWriteCrc => exact good_execHostWriteCrc _ _ _ _ _ s h
  | hostProtocolError => exact good_execHostProtocolError _ _ _ s h
  | hostWriteApply => exact good_execHostWriteApply s h
  | registerWrite => exact good_execRegisterWrite _ _ _ s h
  | wideWord0Read => exact good_execWideWord0Read _ _ s h
  | glbPollRead => exact good_execGlbPollRead _ s h
  | hostWatchdog => exact good_execHostWatchdog s h
  | mbxNoticeComplete => exact good_execMbxNoticeComplete _ _ _ s h
  | mbxReplyRead => exact good_execMbxReplyRead _ _ s h
  | interimReply => exact good_execInterimReply _ _ s h
  | dbOutSetWrite => exact good_execDbOutSetWrite _ s h
  | mainplateRequest => exact good_execMainplateRequest _ _ _ _ s h
  | bankGrant => exact good_execBankGrant _ _ _ s h
  | backoffEnd => exact good_execBackoffEnd _ _ _ s h
  | masterCutoff => exact good_execMasterCutoff _ _ s h
  | arbCutoffClear => exact good_execArbCutoffClear _ s h
  | scrubPassEnd => exact good_execScrubPassEnd _ s h
  | scrubLag => exact good_execScrubLag s h
  | spareCopyDone => exact good_execSpareCopyDone _ s h
  | hackSet => exact good_execHackSet _ _ s h
  | hackClear => exact good_execHackClear _ s h
  | hackTimeout => exact good_execHackTimeout s h
  | dmaStart => exact good_execDmaStart _ _ s h
  | dmaPause => exact good_execDmaPause _ s h
  | dmaResume => exact good_execDmaResume _ s h
  | dmaAbort => exact good_execDmaAbort _ s h
  | dmaVerify => exact good_execDmaVerify _ _ s h
  | dmaDeadline => exact good_execDmaDeadline _ s h
  | svcChallengeExpiry => exact good_execSvcChallengeExpiry _ s h
  | svcLockoutEnd => exact good_execSvcLockoutEnd s h
  | serviceWorldTimeout => exact good_execServiceWorldTimeout _ s h
  | ephemeralJewelClear => exact good_execEphemeralJewelClear _ s h
  | entropyTestFail => exact good_execEntropyTestFail s h
  | entropyRecovery => exact good_execEntropyRecovery s h
  | drbgReseed => exact good_execDrbgReseed s h
  | lcFuseReadback => exact good_execLcFuseReadback _ s h
  | updateLoadCommit => exact good_execUpdateLoadCommit s h
  | updateRestoreDone => exact good_execUpdateRestoreDone s h
  | caseFwReadyTimeout => exact good_execCaseFwReadyTimeout s h
  | gpFwDeferredStart => exact good_execGpFwDeferredStart s h
  | recFirstPart => exact good_execRecFirstPart _ s h
  | recFurtherPart => exact good_execRecFurtherPart _ s h
  | recCheckDirectory => exact good_execRecCheckDirectory s h
  | slackSample => exact good_execSlackSample _ _ _ _ s h
  | hourlyRecord => exact good_execHourlyRecord _ _ _ _ s h
  | clockStepApply => exact good_execClockStepApply _ s h
  | clockStepCheckDone => exact good_execClockStepCheckDone _ s h
  | powerFailWarning => exact good_execPowerFailWarning () s h
  | warningWithdrawn => exact good_execWarningWithdrawn s h
  | vsysToHold => exact good_execVsysToHold s h
  | supplyReset => exact good_execSupplyReset s h
  | railOut => exact good_execRailOut _ s h
  | cpSupplyOut => exact good_execCpSupplyOut _ s h
  | holdLow => exact good_execHoldLow s h
  | vbatLow => exact good_execVbatLow s h
  | lanePllLost => exact good_execLanePllLost _ s h
  | periphClockLost => exact good_execPeriphClockLost _ s h
  | coreClockLost => exact good_execCoreClockLost _ s h
  | thermalLimit => exact good_execThermalLimit _ s h
  | refClockMeasure => exact good_execRefClockMeasure _ s h
  | chronoXtalStop => exact good_execChronoXtalStop s h
  | chronoXtalRestore => exact good_execChronoXtalRestore s h
  | caseWatchdogReset => exact good_execCaseWatchdogReset s h
  | faultEntryRead => exact good_execFaultEntryRead _ s h
  | essMaxRead => exact good_execEssMaxRead _ s h
  | queueFullCntRead => exact good_execQueueFullCntRead _ s h
  | compRunRead => exact good_execCompRunRead _ _ s h
  | compDropRead => exact good_execCompDropRead _ _ s h
  | swingCntRead => exact good_execSwingCntRead _ s h
  | chStatRead => exact good_execChStatRead _ _ s h
  | meterStateRead => exact good_execMeterStateRead _ _ s h
  | plsStatRead => exact good_execPlsStatRead _ _ s h
  | tokCountRead => exact good_execTokCountRead _ s h
  | sesProtoRead => exact good_execSesProtoRead _ _ s h
  | outSlacRead => exact good_execOutSlacRead _ _ s h
  | plBreachRead => exact good_execPlBreachRead _ s h
  | journalMaxRead => exact good_execJournalMaxRead _ s h
  | gapMaxRead => exact good_execGapMaxRead _ s h
  | redChecksRead => exact good_execRedChecksRead _ s h
  | safCountRead => exact good_execSafCountRead _ s h
  | safReactRead => exact good_execSafReactRead _ s h
  | lchCountRead => exact good_execLchCountRead _ _ s h
  | bzlCountRead => exact good_execBzlCountRead _ s h
  | rdCountRead => exact good_execRdCountRead _ s h
  | tagStatRead => exact good_execTagStatRead _ s h
  | sitCountRead => exact good_execSitCountRead _ s h
  | sitErrRead => exact good_execSitErrRead _ s h
  | sitDropRead => exact good_execSitDropRead _ s h
  | hpdErrRead => exact good_execHpdErrRead _ _ s h
  | hpdClkRead => exact good_execHpdClkRead _ _ s h
  | arbMissRead => exact good_execArbMissRead _ _ s h
  | arbWaitRead => exact good_execArbWaitRead _ _ s h
  | arbLoadRead => exact good_execArbLoadRead _ _ s h
  | jwUseRead => exact good_execJwUseRead _ s h
  | drbgRead => exact good_execDrbgRead _ s h
  | pwrVauxRead => exact good_execPwrVauxRead _ s h
  | pwrDipsRead => exact good_execPwrDipsRead _ s h
  | fltStatusRead => exact good_execFltStatusRead _ s h
  | fltCountRead => exact good_execFltCountRead _ s h
  | calLoad => exact good_execCalLoad _ _ s h
  | calPatch => exact good_execCalPatch _ _ s h
  | calRestartUnits => exact good_execCalRestartUnits _ s h
  | calAbort => exact good_execCalAbort _ s h
  | calSlotInfo => exact good_execCalSlotInfo _ s h
  | calEraseSlot => exact good_execCalEraseSlot _ s h
  | calTagInstaller => exact good_execCalTagInstaller _ _ s h
  | slotWriteCommit => exact good_execSlotWriteCommit _ s h
  | compMask => exact good_execCompMask _ s h
  | reserveTighten => exact good_execReserveTighten _ s h
  | escPlanInfo => exact good_execEscPlanInfo _ s h
  | snsSwingNow => exact good_execSnsSwingNow _ s h
  | snsCalAbort => exact good_execSnsCalAbort _ s h
  | snsKsCal => exact good_execSnsKsCal _ s h
  | snsRefCheck => exact good_execSnsRefCheck _ _ _ s h
  | snsSpareRetest => exact good_execSnsSpareRetest _ _ s h
  | snsCapture => exact good_execSnsCapture _ s h
  | lglWallSet => exact good_execLglWallSet _ s h
  | lglShowId => exact good_execLglShowId _ s h
  | lglReadLog => exact good_execLglReadLog _ s h
  | lglReadBilling => exact good_execLglReadBilling _ s h
  | lglReadTamperB => exact good_execLglReadTamperB _ s h
  | lglBillClose => exact good_execLglBillClose _ s h
  | tokSubmit => exact good_execTokSubmit _ s h
  | tokReadIds => exact good_execTokReadIds _ s h
  | sesAuthorise => exact good_execSesAuthorise _ s h
  | sesPreauth => exact good_execSesPreauth _ s h
  | sesLimits => exact good_execSesLimits _ s h
  | sesStop => exact good_execSesStop _ s h
  | sesStopAbort => exact good_execSesStopAbort _ s h
  | sesCollect => exact good_execSesCollect _ s h
  | sesAck => exact good_execSesAck _ s h
  | outEnable => exact good_execOutEnable _ s h
  | v2gTrust => exact good_execV2gTrust _ _ s h
  | v2gCertReply => exact good_execV2gCertReply _ s h
  | protClear => exact good_execProtClear _ s h
  | rdcTest => exact good_execRdcTest _ s h
  | placePrice => exact good_execPlacePrice _ s h
  | placeBattery => exact good_execPlaceBattery _ s h
  | placeSiteLimit => exact good_execPlaceSiteLimit _ s h
  | placeInfo => exact good_execPlaceInfo _ s h
  | redSwap => exact good_execRedSwap _ s h
  | redSelftest => exact good_execRedSelftest _ s h
  | redLaneRestart => exact good_execRedLaneRestart _ s h
  | redLaneEnable => exact good_execRedLaneEnable _ s h
  | redInfo => exact good_execRedInfo _ s h
  | safUnlock => exact good_execSafUnlock _ s h
  | safLock => exact good_execSafLock _ s h
  | safSetPassword => exact good_execSafSetPassword _ s h
  | safReset => exact good_execSafReset _ s h
  | safGuard => exact good_execSafGuard _ s h
  | safReadLog => exact good_execSafReadLog _ s h
  | lchDrive => exact good_execLchDrive _ s h
  | lchMotor => exact good_execLchMotor _ s h
  | lchClear => exact good_execLchClear _ s h
  | lchOlTest => exact good_execLchOlTest _ _ _ s h
  | bzlShow => exact good_execBzlShow _ s h
  | bzlRefresh => exact good_execBzlRefresh _ s h
  | bzlStressRead => exact good_execBzlStressRead _ s h
  | nfcRdEnable => exact good_execNfcRdEnable _ s h
  | nfcRdApdu => exact good_execNfcRdApdu _ s h
  | nfcRdRelease => exact good_execNfcRdRelease _ s h
  | nfcCardRespond => exact good_execNfcCardRespond _ s h
  | nfcTagRead => exact good_execNfcTagRead _ s h
  | nfcTagWrite => exact good_execNfcTagWrite _ s h
  | nfcTagAbort => exact good_execNfcTagAbort _ s h
  | nfcTagCounter => exact good_execNfcTagCounter _ s h
  | nfcTagPwd => exact good_execNfcTagPwd _ s h
  | sitSend => exact good_execSitSend _ s h
  | sitRecv => exact good_execSitRecv _ s h
  | sitLinkInfo => exact good_execSitLinkInfo _ s h
  | sitProbe => exact good_execSitProbe _ s h
  | keySvcChallenge => exact good_execKeySvcChallenge _ s h
  | keySvcResponse => exact good_execKeySvcResponse _ s h
  | keyPublic => exact good_execKeyPublic _ s h
  | keyImport => exact good_execKeyImport _ s h
  | keyGenerate => exact good_execKeyGenerate _ s h
  | keyRespond => exact good_execKeyRespond _ s h
  | keyErase => exact good_execKeyErase _ s h
  | keyExport => exact good_execKeyExport _ s h
  | keyLcAdvance => exact good_execKeyLcAdvance _ s h
  | updBegin => exact good_execUpdBegin _ s h
  | updChunk => exact good_execUpdChunk _ _ s h
  | updAbort => exact good_execUpdAbort _ s h
  | updActivate => exact good_execUpdActivate _ s h
  | updInfo => exact good_execUpdInfo _ s h
  | wearReadHourly => exact good_execWearReadHourly _ s h
  | wearReadYearly => exact good_execWearReadYearly _ s h
  | wearEstimate => exact good_execWearEstimate _ s h
  | remontoireOn => exact good_execRemontoireOn s h
  | remontoireOff => exact good_execRemontoireOff s h
  | railBackInRange => exact good_execRailBackInRange _ s h
  | periphClockReturn => exact good_execPeriphClockReturn _ s h
  | preambleLost => exact good_execPreambleLost s h
  | isoDepBlockReceived => exact good_execIsoDepBlockReceived _ s h
  | isnsSelectionChange => exact good_execIsnsSelectionChange _ s h
  | unitRestartDone => exact good_execUnitRestartDone _ s h
  | redSwapTimeout => exact good_execRedSwapTimeout s h
  | tamperClosedReading => exact good_execTamperClosedReading _ s h
  | sextantStart => exact good_execSextantStart _ _ s h

/-- Settles O5: an idle step keeps the state, and any other runs one command, on a state that differs in its queue alone. -/
theorem stepKeepsGood : Obligations.StepKeepsGood := by
  unfold Obligations.StepKeepsGood
  intro s t hs hstep
  unfold step at hstep
  split at hstep
  · exact AllNext.next hs t hstep
  next c rest _ =>
    have hrest : State.Good { s with pending := rest } := hs
    exact exec_good c _ hrest t hstep

end Sys2Proof.Machine
end

section
/-! PROOF. No command stops the block: every branch of every command's meaning ends in a next state. -/
namespace Sys2Proof.Machine

/-- The outcome is a next state. -/
def Completes (o : Out) : Prop := ∃ t, o = .next t

theorem Completes.next {t : State} : Completes (.next t) := ⟨t, rfl⟩

/-- A choice completes when both of its branches do. -/
theorem Completes.ite {p : Prop} [Decidable p] {a b : Out} (ha : Completes a) (hb : Completes b) : Completes (if p then a else b) := by
  split
  · exact ha
  · exact hb

/-! ### Commands that act on what a queue, a table or a timer still holds -/

theorem completes_execComplicationDone (lane : Fin 2) (kind : Fin 8) (subject : Nat) (result : CompResult) (s : State) :
    Completes (execComplicationDone lane kind subject result s) := by
  unfold execComplicationDone
  split
  · exact .next
  · exact .next

theorem completes_execComplicationOverrun (lane : Fin 2) (kind : Fin 8) (subject : Nat) (s : State) :
    Completes (execComplicationOverrun lane kind subject s) := by
  unfold execComplicationOverrun
  split
  · exact .next
  · exact .next

theorem completes_execSwingRetry (n : Fin 128) (high : Bool) (spare : Fin 72) (s : State) : Completes (execSwingRetry n high spare s) := by
  unfold execSwingRetry
  split
  · exact .ite .next .next
  · exact .next

theorem completes_execPulseStart (k : Fin 4) (s : State) : Completes (execPulseStart k s) := by
  unfold execPulseStart
  extract_lets
  split
  · exact .next
  · exact .ite .next .next

theorem completes_execTamperBEnd (m : Fin 32) (kind phase : Fin 3) (s : State) : Completes (execTamperBEnd m kind phase s) := by
  unfold execTamperBEnd
  extract_lets
  split
  · exact .next
  · exact .next

theorem completes_execAccountRecordCommit (a : Fin 16) (ok : Bool) (s : State) : Completes (execAccountRecordCommit a ok s) := by
  unfold execAccountRecordCommit
  split
  · exact .next
  · exact .next

theorem completes_execPilotFHoldEnd (n : Fin 12) (s : State) : Completes (execPilotFHoldEnd n s) := by
  unfold execPilotFHoldEnd
  split
  · exact .ite .next .next
  · exact .next

theorem completes_execSdpRequest (n : Fin 12) (late : Bool) (s : State) : Completes (execSdpRequest n late s) := by
  unfold execSdpRequest
  split
  · exact .ite .next .next
  · exact .next

theorem completes_execSupportedAppProtocol (n : Fin 12) (ranked : List Nat) (late : Bool) (s : State) :
    Completes (execSupportedAppProtocol n ranked late s) := by
  unfold execSupportedAppProtocol
  split
  · exact .ite (by split <;> exact .next) .next
  · exact .next

theorem completes_execV2gRequest (n : Fin 12) (m : V2gMsg) (late : Bool) (s : State) : Completes (execV2gRequest n m late s) := by
  unfold execV2gRequest
  split
  · exact .ite .next .next
  · exact .next

theorem completes_execTlsClientHello (n : Fin 12) (offer : TlsOffer) (cost : Nat) (s : State) :
    Completes (execTlsClientHello n offer cost s) := by
  unfold execTlsClientHello
  split
  · exact .ite .next (.ite .next .next)
  · exact .next

theorem completes_execTlsPkTimeout (n : Fin 12) (s : State) : Completes (execTlsPkTimeout n s) := by
  unfold execTlsPkTimeout
  split
  · exact .ite .next .next
  · exact .next

theorem completes_execPreauthExpiry (n : Fin 12) (s : State) : Completes (execPreauthExpiry n s) := by
  unfold execPreauthExpiry
  split
  · exact .ite .next .next
  · exact .next

theorem completes_execSuspendOpenExpiry (n : Fin 12) (s : State) : Completes (execSuspendOpenExpiry n s) := by
  unfold execSuspendOpenExpiry
  split
  · exact .ite .next .next
  · exact .next

theorem completes_execStopLate (n : Fin 12) (s : State) : Completes (execStopLate n s) := by
  unfold execStopLate
  split
  · exact .ite .next .next
  · exact .next

theorem completes_execV2gStopTimeout (n : Fin 12) (s : State) : Completes (execV2gStopTimeout n s) := by
  unfold execV2gStopTimeout
  split
  · exact .ite .next .next
  · exact .next

theorem completes_execDcStopOpen (n : Fin 12) (s : State) : Completes (execDcStopOpen n s) := by
  unfold execDcStopOpen
  split
  · exact .ite .next .next
  · exact .next

theorem completes_execBusOffRecovery (c : Fin 4) (s : State) : Completes (execBusOffRecovery c s) := by
  unfold execBusOffRecovery
  split
  · exact .ite .next .next
  · exact .next

theorem completes_execInsulationDwellEnd (n : Fin 12) (_vp _vn : Unit) (s : State) : Completes (execInsulationDwellEnd n _vp _vn s) := by
  unfold execInsulationDwellEnd
  extract_lets
  split
  · exact .next
  · exact .ite .next .next

theorem completes_execAllocationApply (s : State) : Completes (execAllocationApply s) := by
  unfold execAllocationApply
  split
  · exact .ite .next .next
  · exact .next

theorem completes_execIslandExit (s : State) : Completes (execIslandExit s) := by
  unfold execIslandExit
  split
  · exact .ite .next .next
  · exact .next

theorem completes_execSiteLimitExpiry (s : State) : Completes (execSiteLimitExpiry s) := by
  unfold execSiteLimitExpiry
  split
  · exact .ite .next .next
  · exact .next

theorem completes_execShareLowerTimeout (k : Fin 255) (s : State) : Completes (execShareLowerTimeout k s) := by
  unfold execShareLowerTimeout
  split
  · exact .ite .next .next
  · exact .next

theorem completes_execJournalEntryApply (own : BeatCrcs) (ownerFlag standbyFlag : Bool) (s : State) :
    Completes (execJournalEntryApply own ownerFlag standbyFlag s) := by
  unfold execJournalEntryApply
  extract_lets
  split
  · exact .next
  · exact .ite .next .next

theorem completes_execJournalAck (jseq : Nat) (s : State) : Completes (execJournalAck jseq s) := by
  unfold execJournalAck
  split
  · exact .next
  · exact .next

theorem completes_execResignation (lane : Fin 2) (off : Nat) (s : State) : Completes (execResignation lane off s) := by
  unfold execResignation
  split
  · exact .ite .next .next
  · exact .next

theorem completes_execTakeoverComplete (ns : Nat) (s : State) : Completes (execTakeoverComplete ns s) := by
  unfold execTakeoverComplete
  split
  · exact .ite .next (.ite .next .next)
  · exact .next

theorem completes_execTakeoverLate (s : State) : Completes (execTakeoverLate s) := by
  unfold execTakeoverLate
  split
  · exact .ite .next .next
  · exact .next

theorem completes_execLaneResetRelease (lane : Fin 2) (s : State) : Completes (execLaneResetRelease lane s) := by
  unfold execLaneResetRelease
  split
  · exact .ite .next .next
  · exact .next

theorem completes_execResyncAttemptFail (lane : Fin 2) (failed : Bool) (s : State) : Completes (execResyncAttemptFail lane failed s) := by
  unfold execResyncAttemptFail
  split
  · exact .ite (.ite .next .next) .next
  · exact .next

theorem completes_execResyncRetry (lane : Fin 2) (s : State) : Completes (execResyncRetry lane s) := by
  unfold execResyncRetry
  split
  · exact .ite .next .next
  · exact .next

theorem completes_execSwapWaitTimeout (s : State) : Completes (execSwapWaitTimeout s) := by
  unfold execSwapWaitTimeout
  split
  · exact .ite .next .next
  · exact .next

theorem completes_execSafetyInputAccept (hw : Bool) (n : Fin 16) (run : SiRun) (us : Nat) (s : State) :
    Completes (execSafetyInputAccept hw n run us s) := by
  unfold execSafetyInputAccept
  split
  · exact .next
  · exact .ite (.ite .next .next) .next

theorem completes_execDiscrepancyTimeout (k : Fin 8) (s : State) : Completes (execDiscrepancyTimeout k s) := by
  unfold execDiscrepancyTimeout
  split
  · exact .ite .next .next
  · exact .next

theorem completes_execPathDisagree (k : Fin 8) (s : State) : Completes (execPathDisagree k s) := by
  unfold execPathDisagree
  split
  · exact .ite .next .next
  · exact .next

theorem completes_execLockFault (k : Fin 8) (s : State) : Completes (execLockFault k s) := by
  unfold execLockFault
  split
  · exact .ite .next .next
  · exact .next

theorem completes_execEdmTimeout (p : Fin 12) (s : State) : Completes (execEdmTimeout p s) := by
  unfold execEdmTimeout
  split
  · exact .ite .next .next
  · exact .next

theorem completes_execBezelPulseEnd (charge : Nat) (s : State) : Completes (execBezelPulseEnd charge s) := by
  unfold execBezelPulseEnd
  split
  · exact .ite .next .next
  · exact .next

theorem completes_execBezelRestEnd (s : State) : Completes (execBezelRestEnd s) := by
  unfold execBezelRestEnd
  split
  · exact .ite .next .next
  · exact .next

theorem completes_execBezelRailResume (rails : List Nat) (s : State) : Completes (execBezelRailResume rails s) := by
  unfold execBezelRailResume
  extract_lets
  split
  · exact .ite .next .next
  · exact .next

theorem completes_execBezelRecovery (s : State) : Completes (execBezelRecovery s) := by
  unfold execBezelRecovery
  split
  · exact .ite .next .next
  · exact .next

theorem completes_execIsoDepTimeout (s : State) : Completes (execIsoDepTimeout s) := by
  unfold execIsoDepTimeout
  split
  · exact .ite (.ite .next .next) .next
  · exact .next

theorem completes_execTagWriteCommit (failed : Fin 3) (s : State) : Completes (execTagWriteCommit failed s) := by
  unfold execTagWriteCommit
  split
  · exact .next
  · refine .ite .next ?_
    extract_lets
    split
    · exact .ite .next .next
    · exact .next
    · exact .next

theorem completes_execFaultMirrorWrite (s : State) : Completes (execFaultMirrorWrite s) := by
  unfold execFaultMirrorWrite
  split
  · exact .ite .next .next
  · exact .next

theorem completes_execBeatFrameStart (p : Fin 3) (s : State) : Completes (execBeatFrameStart p s) := by
  unfold execBeatFrameStart
  split
  · exact .ite .next .next
  · exact .next

theorem completes_execOfdmAckTimeout (s : State) : Completes (execOfdmAckTimeout s) := by
  unfold execOfdmAckTimeout
  split
  · split
    · exact .ite .next .next
    · exact .next
  · exact .next

theorem completes_execLinkExpiry (k : Fin 16) (s : State) : Completes (execLinkExpiry k s) := by
  unfold execLinkExpiry
  split
  · exact .ite .next .next
  · exact .next

theorem completes_execSiteMessageRetry (s : State) : Completes (execSiteMessageRetry s) := by
  unfold execSiteMessageRetry
  split
  · exact .ite (.ite .next (.ite .next .next)) .next
  · exact .next

theorem completes_execWideWord0Read (port : Fin 2) (addr : BitVec 32) (s : State) : Completes (execWideWord0Read port addr s) := by
  unfold execWideWord0Read
  split
  · exact .ite .next .next
  · exact .next

theorem completes_execInterimReply (port : Fin 2) (seq : BitVec 16) (s : State) : Completes (execInterimReply port seq s) := by
  unfold execInterimReply
  split
  · exact .ite .next .next
  · exact .next

theorem completes_execMasterCutoff (b : Fin 8) (t : Nat) (s : State) : Completes (execMasterCutoff b t s) := by
  unfold execMasterCutoff
  split
  · exact .ite .next .next
  · exact .next

theorem completes_execSpareCopyDone (found : List (Fin 0x200000)) (s : State) : Completes (execSpareCopyDone found s) := by
  unfold execSpareCopyDone
  split
  · exact .next
  · exact .next

theorem completes_execHackTimeout (s : State) : Completes (execHackTimeout s) := by
  unfold execHackTimeout
  split
  · exact .ite .next .next
  · exact .next

theorem completes_execSvcChallengeExpiry (port : Fin 2) (s : State) : Completes (execSvcChallengeExpiry port s) := by
  unfold execSvcChallengeExpiry
  split
  · exact .ite .next .next
  · exact .next

theorem completes_execLcFuseReadback (equal : Bool) (s : State) : Completes (execLcFuseReadback equal s) := by
  unfold execLcFuseReadback
  split
  · exact .next
  · exact .ite .next .next

theorem completes_execUpdateLoadCommit (s : State) : Completes (execUpdateLoadCommit s) := by
  unfold execUpdateLoadCommit
  split
  · exact .ite .next .next
  · exact .next

theorem completes_execUpdateRestoreDone (s : State) : Completes (execUpdateRestoreDone s) := by
  unfold execUpdateRestoreDone
  split
  · exact .next
  · exact .next

theorem completes_execCaseFwReadyTimeout (s : State) : Completes (execCaseFwReadyTimeout s) := by
  unfold execCaseFwReadyTimeout
  split
  · exact .ite .next .next
  · exact .next

theorem completes_execGpFwDeferredStart (s : State) : Completes (execGpFwDeferredStart s) := by
  unfold execGpFwDeferredStart
  split
  · exact .ite .next .next
  · exact .next

theorem completes_execClockStepCheckDone (lane : Fin 2) (s : State) : Completes (execClockStepCheckDone lane s) := by
  unfold execClockStepCheckDone
  split
  · exact .ite .next .next
  · exact .next

theorem completes_execSlotWriteCommit (back : CommitObs) (s : State) : Completes (execSlotWriteCommit back s) := by
  unfold execSlotWriteCommit
  split
  · exact .next
  · exact .next

theorem completes_execIsoDepBlockReceived (b : IsoBlock) (s : State) : Completes (execIsoDepBlockReceived b s) := by
  unfold execIsoDepBlockReceived
  split
  · exact .next
  · refine .ite .next ?_
    split
    · exact .next
    · exact .next
    · exact .next
    · exact .ite .next (.ite .next .next)

theorem completes_execRedSwapTimeout (s : State) : Completes (execRedSwapTimeout s) := by
  unfold execRedSwapTimeout
  split
  · exact .ite .next .next
  · exact .next

/-! ### All commands -/

/-- Every command of every state answers a next state, by the branches of its meaning. -/
theorem exec_completes (c : Instr) (s : State) : Completes (exec c s) := by
  cases c with
  | complicationDone => exact completes_execComplicationDone _ _ _ _ s
  | complicationOverrun => exact completes_execComplicationOverrun _ _ _ s
  | swingRetry => exact completes_execSwingRetry _ _ _ s
  | pulseStart => exact completes_execPulseStart _ s
  | tamperBEnd => exact completes_execTamperBEnd _ _ _ s
  | accountRecordCommit => exact completes_execAccountRecordCommit _ _ s
  | pilotFHoldEnd => exact completes_execPilotFHoldEnd _ s
  | sdpRequest => exact completes_execSdpRequest _ _ s
  | supportedAppProtocol => exact completes_execSupportedAppProtocol _ _ _ s
  | v2gRequest => exact completes_execV2gRequest _ _ _ s
  | tlsClientHello => exact completes_execTlsClientHello _ _ _ s
  | tlsPkTimeout => exact completes_execTlsPkTimeout _ s
  | preauthExpiry => exact completes_execPreauthExpiry _ s
  | suspendOpenExpiry => exact completes_execSuspendOpenExpiry _ s
  | stopLate => exact completes_execStopLate _ s
  | v2gStopTimeout => exact completes_execV2gStopTimeout _ s
  | dcStopOpen => exact completes_execDcStopOpen _ s
  | busOffRecovery => exact completes_execBusOffRecovery _ s
  | insulationDwellEnd => exact completes_execInsulationDwellEnd _ () () s
  | allocationApply => exact completes_execAllocationApply s
  | islandExit => exact completes_execIslandExit s
  | siteLimitExpiry => exact completes_execSiteLimitExpiry s
  | shareLowerTimeout => exact completes_execShareLowerTimeout _ s
  | journalEntryApply => exact completes_execJournalEntryApply _ _ _ s
  | journalAck => exact completes_execJournalAck _ s
  | resignation => exact completes_execResignation _ _ s
  | takeoverComplete => exact completes_execTakeoverComplete _ s
  | takeoverLate => exact completes_execTakeoverLate s
  | laneResetRelease => exact completes_execLaneResetRelease _ s
  | resyncAttemptFail => exact completes_execResyncAttemptFail _ _ s
  | resyncRetry => exact completes_execResyncRetry _ s
  | swapWaitTimeout => exact completes_execSwapWaitTimeout s
  | safetyInputAccept => exact completes_execSafetyInputAccept _ _ _ _ s
  | discrepancyTimeout => exact completes_execDiscrepancyTimeout _ s
  | pathDisagree => exact completes_execPathDisagree _ s
  | lockFault => exact completes_execLockFault _ s
  | edmTimeout => exact completes_execEdmTimeout _ s
  | bezelPulseEnd => exact completes_execBezelPulseEnd _ s
  | bezelRestEnd => exact completes_execBezelRestEnd s
  | bezelRailResume => exact completes_execBezelRailResume _ s
  | bezelRecovery => exact completes_execBezelRecovery s
  | isoDepTimeout => exact completes_execIsoDepTimeout s
  | tagWriteCommit => exact completes_execTagWriteCommit _ s
  | faultMirrorWrite => exact completes_execFaultMirrorWrite s
  | beatFrameStart => exact completes_execBeatFrameStart _ s
  | ofdmAckTimeout => exact completes_execOfdmAckTimeout s
  | linkExpiry => exact completes_execLinkExpiry _ s
  | siteMessageRetry => exact completes_execSiteMessageRetry s
  | wideWord0Read => exact completes_execWideWord0Read _ _ s
  | interimReply => exact completes_execInterimReply _ _ s
  | masterCutoff => exact completes_execMasterCutoff _ _ s
  | spareCopyDone => exact completes_execSpareCopyDone _ s
  | hackTimeout => exact completes_execHackTimeout s
  | svcChallengeExpiry => exact completes_execSvcChallengeExpiry _ s
  | lcFuseReadback => exact completes_execLcFuseReadback _ s
  | updateLoadCommit => exact completes_execUpdateLoadCommit s
  | updateRestoreDone => exact completes_execUpdateRestoreDone s
  | caseFwReadyTimeout => exact completes_execCaseFwReadyTimeout s
  | gpFwDeferredStart => exact completes_execGpFwDeferredStart s
  | clockStepCheckDone => exact completes_execClockStepCheckDone _ s
  | slotWriteCommit => exact completes_execSlotWriteCommit _ s
  | isoDepBlockReceived => exact completes_execIsoDepBlockReceived _ s
  | redSwapTimeout => exact completes_execRedSwapTimeout s
  | resetRelease | startSelftestDone | startOrder | loadingTimeout | beat | cmdLate | coreWatchdogExpiry | sramEccUncorrectable |
  complicationPost | laneTempSample | budgetPublish | ibStuck | ibclkFault | knownStateWindow | ksStale | referenceCompare | frameLoss
  | linkDegraded | meterNoref | meterHalt | pulseEnd | deltaSave | fullSave | keypadEntryTimeout | demandIntervalEnd |
  demandSubintervalEnd | billingPeriodEnd | tariffSwitch | tamperBStart | deferredAllocation | pilotInvalid | ppInvalid | mnbcSound |
  slacMatch | authTimeout | canBusOff | closeTimeout | vmatchTimeout | rdcTrip | rdcLockRelease | ocInst | overvolt | ocSlow |
  connectorThermalLatch | connectorLatchClear | holdRetry | latchTimeout | protBlind | placementRound | batteryDataStale | priceStale |
  minOffExpiry | sharePeriodStart | partnerLost | partnerFailsafe | journalStall | laneResyncDone | tourbillonDue | testPulse |
  safetyCycle | stop1Expiry | soOverload | safetyUnlockExpiry | pwdLockoutExpiry | lcRetryRefill | lcOpenLoad | lcOpenLoadClear |
  lcStuck | motorStall | motorRunTimeout | motorBrakeEnd | bezelDropRepost | cardPresenceCheck | tagReqa | tagWupa | tagAnticollision |
  tagSelect | tagHlta | tagDeselect | tagSilenceEnd | tagTxnIdleTimeout | tagScrub | zcLost | probeFrame | linkReportSend |
  partnerReportSend | announceSend | noPrivileged | hostWatchdog | scrubLag | dmaDeadline | svcLockoutEnd | serviceWorldTimeout |
  ephemeralJewelClear | entropyRecovery | drbgReseed | recCheckDirectory | slackSample | clockStepApply | powerFailWarning |
  warningWithdrawn | vsysToHold | supplyReset | cpSupplyOut | chronoXtalStop | chronoXtalRestore | remontoireOn =>
    exact .ite .next .next
  | residentLoaderVerified =>
    refine .ite .next ?_
    split
    · exact .next
    · exact .ite .next .next
  | firmwareSetLoaded | tagInstallerCheck | slacParamReq | statusFrame | mainsZeroCrossing | bankGrant =>
    exact .ite .next (by split <;> exact .next)
  | slotChoiceAgreed =>
    exact .ite .next (.ite .next (.ite .next (.ite .next (by split <;> exact .next))))
  | frameArrival =>
    exact .ite (.ite (.ite .next .next) .next) .next
  | swingInStart =>
    refine .ite .next (.ite .next (.ite .next (.ite .next ?_)))
    split
    · exact .next
    · exact .ite .next (.ite .next (.ite .next .next))
  | modulatorFailed | recFurtherPart =>
    exact .ite (by split <;> exact .next) .next
  | keypadKey =>
    exact .ite .next (.ite .next (.ite .next (.ite .next (by extract_lets; split <;> exact .next))))
  | legalShowStep =>
    exact .ite .next (.ite .next (by split <;> exact .next))
  | tamperMagnetic | slacTimeout | lcInrushEnd | lcThermalRelease | lcRetry | hourlyRecord | lanePllLost =>
    exact .ite (.ite .next .next) .next
  | pilotPeriodStart | pilotStateRecognised | rdcSelfTestEnd | auxMismatch | heartbeatVote | hwPathCompare | lcClampEvent =>
    exact .ite .next (.ite .next .next)
  | proximityMeasure =>
    exact .ite .next (.ite (.ite .next .next) .next)
  | setpointFrame =>
    refine .ite ?_ .next
    split
    · exact .ite .next .next
    · exact .ite .next .next
    · exact .next
  | canTargetLost =>
    refine .ite .next ?_
    split
    · exact .ite .next .next
    · exact .ite .next .next
    · exact .next
  | weldProofAc =>
    exact .ite .next (.ite (.ite .next (.ite .next .next)) (.ite .next (.ite .next .next)))
  | weldProofDc | lcCurrentLimitCutoff | getInfo | readBlock | writeBlock | readCounter | incrCounter | pwdAuth | authBegin | authEnd |
  periphClockLost =>
    exact .ite .next (.ite .next (.ite .next .next))
  | soOffPulse | unitRestartDone =>
    exact .ite .next (.ite .next (.ite .next (.ite .next .next)))
  | lcThermalLatch =>
    exact .ite (.ite .next (.ite .next .next)) .next
  | lcShed =>
    exact .ite (.ite .next (by split <;> exact .next)) .next
  | readerPoll | recFirstPart =>
    refine .ite (.ite .next ?_) .next
    split
    · exact .next
    · exact .ite .next .next
  | beatFrameReceived =>
    refine .ite .next ?_
    split
    · exact .next
    · refine .ite .next (.ite .next ?_)
      split
      · exact .next
      · exact .ite .next .next
  | ofdmFrameStart =>
    refine .ite ?_ .next
    split
    · exact .ite .next (.ite .next .next)
    · split
      · exact .next
      · exact .ite .next (by split <;> exact .next)
  | ofdmDataFrame =>
    exact .ite .next (.ite .next (.ite .next (.ite .next (.ite .next (.ite .next (.ite .next .next))))))
  | ofdmAckFrame =>
    refine .ite .next (.ite .next ?_)
    split
    · exact .ite (.ite (.ite .next .next) (.ite .next (.ite .next (.ite .next .next)))) .next
    · exact .next
  | mainplateRequest =>
    exact .ite .next (.ite (by split <;> exact .next) (.ite .next (.ite .next .next)))
  | dmaVerify =>
    exact .ite .next (.ite .next (.ite .next (.ite .next (.ite .next .next))))
  | railBackInRange =>
    exact .ite .next (.ite (.ite (.ite .next .next) .next) .next)
  | _ => exact .next

/-- Settles O6, by the branches of every command's meaning; a step runs one command, or none. -/
theorem everyCommandCompletes : Obligations.EveryCommandCompletes := by
  unfold Obligations.EveryCommandCompletes
  refine ⟨exec_completes, fun s => ?_⟩
  unfold step
  split
  · exact Completes.next
  · exact exec_completes _ _

end Sys2Proof.Machine
end

section
/-! PROOF. Rules for the statements of completion: a host command that is taken, a step within a beat, a tag command that is served,
the lengths of the journal, and reads through a port. -/
namespace Sys2Proof.Machine

/-- A host command that is taken answers its body within a beat. -/
theorem next_command {s u : State} {mb code : Nat} {acc : Accept} {service : Bool} {body : Cmd → State → State} {c : Cmd}
    (h : s.takes mb code acc service c) (hbody : body c (s.startCmd c).inside = u) :
    (.next (s.command mb code acc service body) : Out) = .next u.doneIn := by
  rw [State.command_of_takes h, hbody]

/-- A command that runs within a beat answers its effect there. -/
theorem next_within {s u : State} {f : State → State} (h : f s.inside = u) : (.next (State.within f s) : Out) = .next u.doneIn :=
  congrArg (fun v : State => (.next v.doneIn : Out)) h

/-! ### Lengths of the journal's records and entries (R230, R231) -/

theorem padTo_length (n : Nat) (l : List Byte) : (padTo n l).length = n := by
  simp [padTo]
  omega

/-- Bytes that fit stand at the front of the padded ones. -/
theorem padTo_take {n : Nat} {l m : List Byte} (h : l.length ≤ n) : (padTo n (l ++ m)).take l.length = l := by
  rw [padTo, List.take_take, Nat.min_eq_left h, List.append_assoc, List.take_left]

theorem JRecord.size_mod (r : JRecord) : r.size % 4 = 0 := Nat.mul_mod_left _ 4

theorem JRecord.header_fits (r : JRecord) : 8 ≤ r.size := by
  unfold JRecord.size
  omega

theorem JRecord.bytes_header (r : JRecord) :
    r.bytes.take 8 = le 1 r.type ++ le 1 (r.size / 4) ++ le 2 r.key ++ le 4 r.iseq := by
  have hlen : (le 1 r.type ++ le 1 (r.size / 4) ++ le 2 r.key ++ le 4 r.iseq).length = 8 := by
    simp only [List.length_append, le_length]
  have hfits := r.header_fits
  rw [← hlen] at hfits
  have htake := padTo_take hfits (m := r.head ++
    (if r.onBulk then (sha256 (r.data.map BitVec.toNat)).map (BitVec.ofNat 8) else r.data))
  rw [hlen, ← List.append_assoc] at htake
  exact htake

theorem JEntry.bytes_length (e : JEntry) : e.bytes.length = 16 * e.units := by
  have hunits : 4 ≤ 16 * e.units := by
    unfold JEntry.units
    omega
  simp only [JEntry.bytes, List.length_append, padTo_length, le_length]
  omega

/-- What is taken into an entry fits its room and the beat's bulk, and nothing is lost or moved. -/
theorem fitRecords_fits (room bulk : Nat) (rs : List JRecord) :
    recRoom (fitRecords room bulk rs).1 ≤ room ∧ bulkRoom (fitRecords room bulk rs).1 ≤ bulk ∧
      (fitRecords room bulk rs).1 ++ (fitRecords room bulk rs).2 = rs := by
  induction rs generalizing room bulk with
  | nil => simp [fitRecords, recRoom, bulkRoom]
  | cons r rs ih =>
    by_cases hfit : r.size ≤ room ∧ r.bulkSize ≤ bulk
    · obtain ⟨hroom, hbulk, hall⟩ := ih (room - r.size) (bulk - r.bulkSize)
      simp only [recRoom, bulkRoom] at hroom hbulk
      simp only [fitRecords, if_pos hfit, recRoom, bulkRoom, List.map_cons, List.sum_cons, List.cons_append, hall]
      exact ⟨by omega, by omega, trivial⟩
    · simp [fitRecords, if_neg hfit, recRoom, bulkRoom]

/-! ### What the release of a reply leaves of those that are held (R229) -/

@[simp] theorem State.placeNotice_host (s : State) (n : Notice) : (s.placeNotice n).host = s.host := rfl

theorem State.mpWrite_host (s : State) (a : Nat) (bs : List Byte) : (s.mpWrite a bs).host = s.host := by
  unfold State.mpWrite
  split <;> rfl

theorem State.bothWrite_host (s : State) (a : Nat) (bs : List Byte) : (s.bothWrite a bs).host = s.host := s.mpWrite_host a bs

theorem State.queueNotice_held (s : State) (n : Notice) : (s.queueNotice n).host.held = s.host.held := by
  unfold State.queueNotice
  split
  · split
    · simp only [State.showQueue, State.put_host]
      rw [when_host _ _ _ (by rw [State.raiseHost_host, State.set1_host])]
      rfl
    · rfl
  · rfl

theorem State.releaseReply_held (s : State) (h : Held) : (s.releaseReply h).host.held = s.host.held := by
  have hwhen : ∀ (b : Bool) (f : List Cmd → List Cmd) (u : State),
      (when b (fun u => { u with host := { u.host with exec := f u.host.exec } }) u).host.held = u.host.held :=
    fun b f u => by cases b <;> rfl
  exact ((State.queueNotice_held _ _).trans (hwhen _ (fun l => l.filter _) _)).trans
    (congrArg HostSt.held (s.bothWrite_host _ _))

theorem forEach_releaseReply_held (l : List Held) (s : State) :
    (forEach l (fun h u => u.releaseReply h) s).host.held = s.host.held := by
  induction l generalizing s with
  | nil => rfl
  | cons h l ih => exact (ih _).trans (s.releaseReply_held h)

/-- A reply whose record the standby has not yet received is not among those that go. -/
theorem State.releaseReplies_keeps {s : State} {h : Held} (hok : s.standbyOk = true) (hin : h ∈ s.host.held)
    (hrec : s.recorded h.iseq = false) : h ∈ s.releaseReplies.host.held := by
  have hfree : ((decide (h.beat < s.now) || s.esc.gen != 2) && (!s.standbyOk || s.recorded h.iseq)) = false := by
    rw [hok, hrec, Bool.not_true, Bool.or_false, Bool.and_false]
  unfold State.releaseReplies
  rw [forEach_releaseReply_held]
  exact List.mem_filter.2 ⟨hin, congrArg not hfree⟩

/-- A tag command is served when the tag is ACTIVE or AUTH and not mute, the frame is whole and no write runs (R302 to R306). -/
theorem State.crown_served {s u : State} {f : CrownFrame} {n : Nat} {body : State → State}
    (hstate : s.tagState = 2 ∨ s.tagState = 3) (hmute : s.nfc.mute = false) (hcrc : f.crcOk = true)
    (hidle : s.nfc.write = none)
    (hbody : body (((s.set1 NFC_TAG_STATE_TXN).updNfc fun x => { x with served := true, cmdBeat := s.now }).tagAnswer
      none [] n f) = u) :
    s.crown f n body = .next u := by
  have hon : ¬((s.tagState ≠ 2 ∧ s.tagState ≠ 3) ∨ s.nfc.mute = true) := by
    rw [hmute]
    rintro (⟨hready, hauth⟩ | hbad)
    · exact hstate.elim hready hauth
    · exact Bool.false_ne_true hbad
  have hwhole : ¬((!f.crcOk) = true) := by simp [hcrc]
  have hfree : ¬(s.nfc.write.isSome = true) := by simp [hidle]
  exact (if_neg hon).trans ((if_neg hwhole).trans ((if_neg hfree).trans (congrArg Host.Outcome.next hbody)))

/-! ### Reads through a port -/

/-- A register whose read does nothing beside latching and clearing: none of GLB.POLL, of the interval registers and of KEY.JW_USE. -/
def plainRead (a : Nat) : Bool :=
  decide (a < 0x100000) && decide (a ≠ A_GLB_POLL) && (intervalAt a).isNone && decide (a ≠ A_KEY_JW_USE)

theorem plainRead_iff (a : Nat) :
    plainRead a = true ↔ a < 0x100000 ∧ a ≠ A_GLB_POLL ∧ intervalAt a = none ∧ a ≠ A_KEY_JW_USE := by
  simp only [plainRead, Bool.and_eq_true, decide_eq_true_eq, Option.isNone_iff_eq_none, and_assoc]

/-- A read of a mapped register with no latched word: the register as it stands goes out, and the read has its effect (R8, R18). -/
theorem State.portRead_mapped {s : State} {port a : Nat} {r : RegRow} (ha : a < 0x100000) (hreg : s.regAt a = some r)
    (hlatch : s.host.latches.find? (fun l => l.port == port && l.addr == a) = none) :
    s.portRead port a = ((s.latch port (groupOf a r)).readEffect port a r).setOut port (le 4 (s.shown a)) := by
  have hwin : window338 a = some 0 := if_pos ha
  have hbad : ¬ ((some 0 : Option Nat).isNone = true ∨ (some 0 : Option Nat) ≠ some 0) := by decide
  have hread : s.readReg port a r = (s.shown a, (s.latch port (groupOf a r)).readEffect port a r) := by
    rw [State.readReg, hlatch]
  have hword : s.readWord port a (some 0) false {} =
      ({ bytes := le 4 (s.shown a) }, (s.latch port (groupOf a r)).readEffect port a r) := by
    simp only [State.readWord, hwin, hbad, hreg, hread, if_false, if_true, List.nil_append]
  rw [State.portRead, hwin, hword]
  rfl

/-- The read of a plain register clears its RC fields, if it has any (R6). -/
theorem State.readEffect_plain {s : State} {port a : Nat} {r : RegRow} (h : plainRead a = true) :
    s.readEffect port a r = if r.rc = 0 ∨ s.dormant a then s else
      match indexIn (A_MBX_HI 8) 16 8 a with
      | some k => ((s.clearRead a r).notePoll).clr (MBX_STAT_FULL (8 + k))
      | none => s.clearRead a r := by
  obtain ⟨_, hpoll, hintv, hjw⟩ := (plainRead_iff a).mp h
  rw [State.readEffect, if_neg hpoll, hintv]
  exact if_neg hjw

/-- A read through a port that latches other words with it (R18). -/
theorem State.portRead_latches {s : State} {port a : Nat} {r : RegRow} {g : List Nat} (hplain : plainRead a = true)
    (h : s.latchesNow port a r g) : s.portRead port a = (s.latch port g).setOut port (le 4 (s.shown a)) := by
  obtain ⟨hreg, hlatch, hgroup, hrc⟩ := h
  rw [State.portRead_mapped ((plainRead_iff a).mp hplain).1 hreg hlatch, hgroup, State.readEffect_plain hplain, if_pos (.inl hrc)]

/-- A plain register that is no second word of a reply mailbox: its read latches, or clears its RC fields, and no more. -/
def readClears (a : Nat) : Bool := plainRead a && (indexIn (A_MBX_HI 8) 16 8 a).isNone

/-- Every register of these families is one whose read clears and does no more. -/
theorem families_clear :
    (∀ k : Fin 8, readClears (A_ESC_COMP_RUN k) = true) ∧
    (∀ k : Fin 8, readClears (A_ESC_COMP_DROP k) = true) ∧
    (∀ n : Fin 128, readClears (A_SNS_CH_STAT n) = true) ∧
    (∀ m : Fin 32, readClears (A_MTR_M_STATE m) = true) ∧
    (∀ k : Fin 4, readClears (A_MTR_PLS_STAT k) = true) ∧
    (∀ k : Fin 128, readClears (A_SES_PROTO k) = true) ∧
    (∀ n : Fin 12, readClears (A_OUT_SLAC n) = true) ∧
    (∀ k : Fin 16, readClears (A_LCH_COUNT k) = true) ∧
    (∀ n : Fin 2, readClears (A_HPD_P_ERR n) = true) ∧
    (∀ n : Fin 2, readClears (A_HPD_P_CLK n) = true) ∧
    (∀ m : Fin 14, readClears (A_ARB_MISS m) = true) ∧
    (∀ m : Fin 14, readClears (A_ARB_WAIT m) = true) ∧
    (∀ b : Fin 9, readClears (A_ARB_LOAD b) = true) := by
  decide +kernel

/-- A register whose RC fields are cleared by a read that has nothing latched to give (R6). -/
theorem State.clearsNow_effect {s : State} {port a : Nat} {r : RegRow} (hplain : plainRead a = true) (h : s.clearsNow port a r) :
    s.portRead port a = (match indexIn (A_MBX_HI 8) 16 8 a with
      | some k => ((s.clearRead a r).notePoll).clr (MBX_STAT_FULL (8 + k))
      | none => s.clearRead a r).setOut port (le 4 (s.shown a)) := by
  obtain ⟨⟨hreg, hlatch, hgroup⟩, hrc, hdormant⟩ := h
  have hstays : ¬ (r.rc = 0 ∨ s.dormant a = true) := by
    rw [hdormant]
    exact fun hor => hor.elim hrc Bool.false_ne_true
  rw [State.portRead_mapped ((plainRead_iff a).mp hplain).1 hreg hlatch, hgroup, State.readEffect_plain hplain]
  exact congrArg (fun t : State => t.setOut port (le 4 (s.shown a))) (if_neg hstays)

/-- A read through a port that clears RC fields (R6). -/
theorem State.portRead_clears {s : State} {port a : Nat} {r : RegRow} (ha : readClears a = true) (h : s.clearsNow port a r) :
    s.portRead port a = (s.clearRead a r).setOut port (le 4 (s.shown a)) := by
  obtain ⟨hplain, hreply⟩ := Bool.and_eq_true_iff.mp ha
  rw [State.clearsNow_effect hplain h, Option.isNone_iff_eq_none.mp hreply]

/-- The second words of the eight reply mailboxes are plain registers, and each is told from the others. -/
theorem replyWord_index : ∀ k : Fin 8,
    plainRead (A_MBX_HI (8 + k)) = true ∧ indexIn (A_MBX_HI 8) 16 8 (A_MBX_HI (8 + k)) = some k.val := by decide +kernel

/-- A reply mailbox's second word, read: its RC fields, and FULL of the mailbox (R346). -/
theorem State.portRead_reply {s : State} {port : Nat} {r : RegRow} (k : Fin 8) (h : s.clearsNow port (A_MBX_HI (8 + k)) r) :
    s.portRead port (A_MBX_HI (8 + k)) = (((s.clearRead (A_MBX_HI (8 + k)) r).notePoll).clr (MBX_STAT_FULL (8 + k))).setOut port
      (le 4 (s.shown (A_MBX_HI (8 + k)))) := by
  obtain ⟨hplain, hreply⟩ := replyWord_index k
  rw [State.clearsNow_effect hplain h, hreply]

/-- A read of GLB.POLL ends HOST_SILENT (R340). -/
theorem State.portRead_poll {s : State} {port : Nat} {r : RegRow} (h : s.readsNow port A_GLB_POLL r) :
    s.portRead port A_GLB_POLL = State.setOut { s.clr HPD_STATUS_HOST_SILENT with
      host := { (s.clr HPD_STATUS_HOST_SILENT).host with pollBeat := s.now } } port (le 4 (s.shown A_GLB_POLL)) := by
  obtain ⟨hreg, hlatch, hgroup⟩ := h
  rw [State.portRead_mapped (by decide) hreg hlatch, hgroup]
  rfl

/-- A read of KEY.JW_USE clears the counts of the jewel selected (R6). -/
theorem State.portRead_jwUse {s : State} {port : Nat} {r : RegRow} (h : s.readsNow port A_KEY_JW_USE r) :
    s.portRead port A_KEY_JW_USE = (s.updKey (fun k => { k with
      used := upd k.used (s.get KEY_JW_SEL_JEWEL) (fun _ => 0)
      refused := upd k.refused (s.get KEY_JW_SEL_JEWEL) (fun _ => 0) })).setOut port (le 4 (s.shown A_KEY_JW_USE)) := by
  obtain ⟨hreg, hlatch, hgroup⟩ := h
  have hpoll : A_KEY_JW_USE ≠ A_GLB_POLL := by decide
  have hintv : intervalAt A_KEY_JW_USE = none := by decide
  rw [State.portRead_mapped (by decide) hreg hlatch, hgroup, State.readEffect, if_neg hpoll, hintv]
  rfl

end Sys2Proof.Machine
end

section
/-! PROOF. Completion and effect of the load channels, machine safety, lanes, the Escapement and sensing. -/
namespace Sys2Proof.Machine

/-- Settles O29, by the branch of each command's arm that the clause's conditions choose. -/
theorem loadChannelRowsComplete : Obligations.LoadChannelRowsComplete := by
  unfold Obligations.LoadChannelRowsComplete
  and_intros
  · -- lcInrushEnd
    exact fun k vOut vaux s h1 h2 => (if_pos h1).trans (if_pos h2)
  · -- lcInrushEnd
    exact fun k vOut vaux s h1 h2 => (if_pos h1).trans (if_neg h2)
  · -- lcCurrentLimitCutoff
    exact fun k held s h1 => if_pos h1
  · -- lcCurrentLimitCutoff
    exact fun k held s h1 h2 => (if_neg h1).trans (if_pos h2)
  · -- lcThermalLatch
    exact fun k temp s h1 h2 h3 => (if_pos h1).trans ((if_neg h2).trans (if_pos h3))
  · -- lcThermalRelease
    exact fun k temp s h1 h2 => (if_pos h1).trans (if_pos h2)
  · -- lcRetry
    exact fun k s h1 h2 => (if_pos h1).trans (if_pos h2)
  · -- lcRetry
    exact fun k s h1 h2 => (if_pos h1).trans (if_neg h2)
  · -- lcRetryRefill
    exact fun k s h1 => if_pos h1
  · -- lcClampEvent
    exact fun k e s h1 h2 => (if_neg h1).trans (if_pos h2)
  · -- lcOpenLoad
    exact fun k iUa vauxMv s h1 => if_pos h1
  · -- lcOpenLoadClear
    exact fun k o s h1 => if_pos h1
  · -- lcStuck
    exact fun k vOut vaux s h1 => if_pos h1
  · -- motorStall
    exact fun j i held s h1 => if_pos h1
  · -- motorRunTimeout
    exact fun j s h1 => if_pos h1
  · -- motorBrakeEnd
    exact fun j s h1 => if_pos h1
  · -- lcShed
    intro _x _y z s sum start cont h1 h2 k h3 t t1 t2
    refine (if_pos h1).trans ((if_neg h2).trans ?_)
    rw [h3]
  · -- isnsSelectionChange
    exact fun sel s => rfl
  · -- lchDrive
    exact fun mb s c hc h2 h3 => next_command hc ((if_neg h2).trans (if_pos h3))
  · -- lchMotor
    exact fun mb s c hc h2 h3 h4 h5 h6 h7 =>
      next_command hc ((if_neg h2).trans ((if_neg h3).trans ((if_neg h4).trans ((if_neg h5).trans ((if_neg h6).trans (if_neg h7))))))
  · -- lchClear
    exact fun mb s c hc h2 => next_command hc (if_pos h2)
  · -- lchOlTest
    exact fun mb vOut vaux s c hc h2 h3 h4 h5 h6 =>
      next_command hc ((if_neg h2).trans ((if_neg h3).trans ((if_neg h4).trans ((if_neg h5).trans (if_pos h6)))))

/-- Settles O30, by the branch of each command's arm that the clause's conditions choose. -/
theorem safetyEventsComplete : Obligations.SafetyEventsComplete := by
  unfold Obligations.SafetyEventsComplete
  and_intros
  · -- safetyInputAccept
    intro hw n run us s level h1 h2 k h3 was t t1 t2 t3 now_ t4 t5
    show execSafetyInputAccept hw n run us s = _
    rw [execSafetyInputAccept, h1]
    exact (if_pos h2).trans (if_pos h3)
  · -- discrepancyTimeout
    intro k s b h1 h2 t
    show execDiscrepancyTimeout k s = _
    rw [execDiscrepancyTimeout, h1]
    exact if_pos h2
  · -- testPulse
    exact fun st readback bad s h1 => if_neg h1
  · -- safetyCycle
    exact fun s h1 => if_pos h1
  · -- hwPathCompare
    exact fun agree s h1 => if_pos h1
  · -- hwPathCompare
    exact fun agree s h1 h2 => (if_neg h1).trans (if_pos h2)
  · -- pathDisagree
    intro k s b h1 h2
    show execPathDisagree k s = _
    rw [execPathDisagree, h1]
    exact if_pos h2
  · -- stop1Expiry
    exact fun p hw s h1 => if_pos h1
  · -- lockFault
    intro k s b h1 h2
    show execLockFault k s = _
    rw [execLockFault, h1]
    exact if_pos h2
  · -- soOffPulse
    exact fun k low restored vauxMv s h1 h2 h3 => (if_neg h1).trans ((if_neg h2).trans (if_pos h3))
  · -- soOverload
    exact fun k mA s h1 => if_pos h1

/-- Settles O31, by the branch of each command's arm that the clause's conditions choose. -/
theorem safetyCommandsComplete : Obligations.SafetyCommandsComplete := by
  unfold Obligations.SafetyCommandsComplete
  and_intros
  · -- edmTimeout
    intro p s b h1 h2
    show execEdmTimeout p s = _
    rw [execEdmTimeout, h1]
    exact if_pos h2
  · -- safetyUnlockExpiry
    exact fun s h1 => if_pos h1
  · -- pwdLockoutExpiry
    exact fun s h1 => if_pos h1
  · -- safUnlock
    exact fun mb s c hc h2 h3 h4 h5 h6 =>
      next_command hc ((if_neg h2).trans ((if_neg h3).trans ((if_neg h4).trans ((if_neg h5).trans (if_pos h6)))))
  · -- safLock
    exact fun mb s c hc => next_command hc rfl
  · -- safSetPassword
    exact fun mb s c hc h2 h3 h4 h5 =>
      next_command hc ((if_pos h2).trans ((if_neg h3).trans ((if_neg h4).trans (if_neg h5))))
  · -- safSetPassword
    exact fun mb s c hc h2 h3 h4 h5 h6 h7 =>
      next_command hc ((if_neg h2).trans ((if_neg h3).trans ((if_neg h4).trans ((if_neg h5).trans ((if_neg h6).trans (if_neg h7))))))
  · -- safReset
    exact fun mb s c hc h2 => next_command hc (if_neg h2)
  · -- safGuard
    exact fun mb s c hc h2 h3 h4 h5 =>
      next_command hc ((if_neg h2).trans ((if_neg h3).trans ((if_neg h4).trans (if_pos h5))))
  · -- safReadLog
    exact fun mb s c hc h2 => next_command hc (if_neg h2)

/-- Settles O32, by the branch that each clause's conditions choose; the journal's records and the held replies by the lemmas on their
lengths and on what a release leaves. -/
theorem laneRowsComplete : Obligations.LaneRowsComplete := by
  unfold Obligations.LaneRowsComplete
  and_intros
  · -- journalEntryApply
    intro own ownerFlag standbyFlag s lane e h1 h2 u0 u01 diff h3 h4 h5 day t t1 t2
    show execJournalEntryApply own ownerFlag standbyFlag s = _
    rw [execJournalEntryApply, h1]
    exact (if_pos h2).trans (next_within ((if_neg h3).trans ((if_neg h4).trans (if_neg h5))))
  · -- journalAck
    intro jseq s e h1 rest t
    show execJournalAck jseq s = _
    rw [execJournalAck, h1]
  · -- journalStall
    exact fun s h1 => if_pos h1
  · -- heartbeatVote
    exact fun own stb differs s h1 h2 h3 h4 =>
      (if_pos h1).trans (next_within ((if_neg h2).trans ((if_pos h3).trans (if_pos h4))))
  · -- heartbeatVote
    exact fun own stb differs s h1 h2 h3 => (if_pos h1).trans (next_within ((if_neg h2).trans (if_neg h3)))
  · -- resignation
    intro lane off s code h1 h2 u0 h3 h4
    show execResignation lane off s = _
    rw [execResignation, h1]
    exact (if_pos h2).trans (next_within ((if_pos h3).trans (if_neg h4)))
  · -- takeoverLate
    intro s t h1 h2
    show execTakeoverLate s = _
    rw [execTakeoverLate, h1]
    exact if_pos h2
  · -- laneResetRelease
    intro lane s b h1 h2
    show execLaneResetRelease lane s = _
    rw [execLaneResetRelease, h1]
    exact if_pos h2
  · -- laneResyncDone
    exact fun lane s h1 => if_pos h1
  · -- resyncAttemptFail
    intro lane failed s b h1 h2 tries t t1 t2 t3 h3 t4
    show execResyncAttemptFail lane failed s = _
    rw [execResyncAttemptFail, h1]
    exact (if_pos h2).trans (if_pos h3)
  · -- resyncRetry
    intro lane s b h1 h2
    show execResyncRetry lane s = _
    rw [execResyncRetry, h1]
    exact if_pos h2
  · -- tourbillonDue
    exact fun s h1 => if_pos h1
  · -- swapWaitTimeout
    intro s b h1 h2
    show execSwapWaitTimeout s = _
    rw [execSwapWaitTimeout, h1]
    exact if_pos h2
  · -- redSwapTimeout
    intro s c h1 h2
    show execRedSwapTimeout s = _
    rw [execRedSwapTimeout, h1]
    exact if_pos h2
  · -- redSwap
    exact fun mb s c hc h2 => next_command hc (if_neg h2)
  · -- redSelftest
    exact fun mb s c hc h2 h3 h4 => next_command hc ((if_neg h2).trans ((if_neg h3).trans (if_neg h4)))
  · -- redLaneRestart
    exact fun mb s c hc h2 => next_command hc (if_neg h2)
  · -- redLaneEnable
    exact fun mb s c hc h2 => next_command hc (if_neg h2)
  · -- redInfo
    exact fun mb s c hc h2 => next_command hc (if_neg h2)
  · exact fun r => ⟨padTo_length _ _, r.size_mod, r.bytes_header⟩
  · exact JEntry.bytes_length
  · exact fitRecords_fits
  · exact fun s h hok hin hrec => State.releaseReplies_keeps hok hin hrec

/-- Settles O33, by the branch of each command's arm that the clause's conditions choose. -/
theorem escapementRowsComplete : Obligations.EscapementRowsComplete := by
  unfold Obligations.EscapementRowsComplete
  and_intros
  · -- essentialOverrun
    exact fun lane s h1 => next_within (if_pos h1)
  · -- cmdLate
    exact fun s h1 => if_pos h1
  · -- coreWatchdogExpiry
    exact fun lane s h1 => if_pos h1
  · -- sramEccUncorrectable
    exact fun lane s h1 => if_pos h1
  · -- complicationPost
    exact fun lane kind cost latest subject s h1 => if_pos h1
  · -- complicationOverrun
    dsimp only
    intro lane kind subject s c h1
    show execComplicationOverrun lane kind subject s = _
    rw [execComplicationOverrun, h1]
    rfl
  · -- laneTempSample
    exact fun a b caseT aux s h1 => if_pos h1
  · -- budgetPublish
    exact fun s h1 => if_pos h1
  · -- compMask
    exact fun mb s c hc h2 => next_command hc (if_neg h2)
  · -- reserveTighten
    exact fun mb s c hc h2 => next_command hc (if_neg h2)
  · -- escPlanInfo
    exact fun mb s c hc => next_command hc rfl

/-- Settles O34, by the branch of each command's arm that the clause's conditions choose. -/
theorem senseRowsComplete : Obligations.SenseRowsComplete := by
  unfold Obligations.SenseRowsComplete
  and_intros
  · -- frameArrival
    exact fun lane f s h1 h2 h3 => (if_pos h1).trans ((if_pos h2).trans (if_pos h3))
  · -- swingInStart
    intro n high spare s h1 h2 h3 h4 h5 h6 h7 h8
    refine (if_neg h1).trans ((if_neg h2).trans ((if_neg h3).trans ((if_neg h4).trans ?_)))
    rw [h5]
    exact (if_neg h6).trans ((if_neg h7).trans (if_pos h8))
  · -- swingRetry
    intro n high spare s w h1 h2
    show execSwingRetry n high spare s = _
    rw [execSwingRetry, h1]
    exact if_pos h2
  · -- modulatorFailed
    dsimp only
    intro k spare s h1 j h2
    refine (if_pos h1).trans ?_
    cases hswing : s.swingOf (s.get (SNS_MOD_STATE_CHAN k)) (s.isSet (SNS_MOD_STATE_HIGH k)) with
    | some w =>
      simp only [hswing] at h2 ⊢
      rw [h2]
    | none =>
      simp only [hswing] at h2 ⊢
      rw [h2]
  · -- knownStateWindow
    exact fun n s h1 => if_pos h1
  · -- ksStale
    exact fun n s h1 => if_pos h1
  · -- referenceCompare
    exact fun d10 d0s s h1 => if_pos h1
  · -- ibStuck
    exact fun n s h1 => if_pos h1
  · -- ibclkFault
    exact fun k differs s h1 => if_pos h1
  · -- frameLoss
    exact fun s h1 => if_pos h1
  · -- linkDegraded
    exact fun lane s h1 => if_pos h1
  · -- snsSwingNow
    exact fun mb s c hc h2 h3 => next_command hc ((if_neg h2).trans (if_neg h3))
  · -- snsCalAbort
    dsimp only
    intro mb s c hc w h2
    refine next_command hc ?_
    dsimp only
    rw [h2]
  · -- snsKsCal
    intro mb s c hc u0 n r h2 h3 h4
    refine next_command hc ((if_neg h2).trans ((if_neg h3).trans ?_))
    rw [h4]
  · -- snsRefCheck
    exact fun mb d10 d0s s c hc => next_command hc rfl
  · -- snsSpareRetest
    exact fun mb cal s c hc h2 h3 => next_command hc ((if_neg h2).trans (if_pos h3))
  · -- snsCapture
    exact fun mb s c hc h2 h3 => next_command hc ((if_neg h2).trans (if_neg h3))

end Sys2Proof.Machine
end

section
/-! PROOF. Completion and effect of metering, the legal chain, tokens, outlets, sessions and vehicles. -/
namespace Sys2Proof.Machine

/-- Settles O35, by the branch of each command's arm that the clause's conditions choose. -/
theorem meteringRowsComplete : Obligations.MeteringRowsComplete := by
  unfold Obligations.MeteringRowsComplete
  and_intros
  · -- pulseStart
    intro k s p d rest h1 lag st h2 w en t t1
    show execPulseStart k s = _
    rw [execPulseStart, h1]
    exact if_pos h2
  · -- pulseEnd
    exact fun k s h1 => if_pos h1
  · -- meterNoref
    exact fun m s h1 => if_pos h1
  · -- meterHalt
    exact fun m s h1 => if_pos h1
  · -- intervalRead
    exact fun port m q s => rfl
  · -- deltaSave
    exact fun s h1 => if_pos h1
  · -- fullSave
    exact fun ok s h1 => if_pos h1

/-- Settles O36, by the branch of each command's arm that the clause's conditions choose. -/
theorem legalRowsComplete : Obligations.LegalRowsComplete := by
  unfold Obligations.LegalRowsComplete
  and_intros
  · -- chronoSecond
    exact fun comp s => rfl
  · -- demandIntervalEnd
    exact fun s h1 => if_pos h1
  · -- demandSubintervalEnd
    exact fun s h1 => if_pos h1
  · -- billingPeriodEnd
    exact fun s h1 => if_pos h1
  · -- tariffSwitch
    exact fun k s h1 => if_pos h1
  · -- tamperCoverOpen
    exact fun s => rfl
  · -- tamperDoorOpen
    exact fun s => rfl
  · -- tamperClosedReading
    exact fun door s => rfl
  · -- tamperMagnetic
    exact fun mT ms s h1 h2 => (if_pos h1).trans (if_pos h2)
  · -- legalWriteRefused
    exact fun s => rfl
  · -- tamperBStart
    exact fun m kind phase s h1 => if_pos h1
  · -- tamperBEnd
    intro m kind phase s long r h1 e t
    show execTamperBEnd m kind phase s = _
    rw [execTamperBEnd, h1]
  · -- lglWallSet
    exact fun mb s c hc h2 h3 h4 h5 =>
      next_command hc ((if_neg h2).trans ((if_neg h3).trans ((if_neg h4).trans (if_pos h5))))
  · -- lglReadLog
    exact fun mb s c hc h2 => next_command hc (if_neg h2)
  · -- lglReadBilling
    intro mb s c hc u0 b h2 h3
    refine next_command hc ?_
    rw [h2]
    exact if_neg h3
  · -- lglReadTamperB
    exact fun mb s c hc h2 => next_command hc (if_neg h2)
  · -- lglBillClose
    exact fun mb s c hc h2 => next_command hc (if_neg h2)

/-- Settles O37, by the branch of each command's arm that the clause's conditions choose. -/
theorem tokenRowsComplete : Obligations.TokenRowsComplete := by
  unfold Obligations.TokenRowsComplete
  and_intros
  · -- legalShowStep
    intro s h1 h2 v h3
    refine (if_neg h1).trans ((if_neg h2).trans ?_)
    rw [h3]
  · -- legalShowStep
    intro s h1 h2 h3
    refine (if_neg h1).trans ((if_neg h2).trans ?_)
    rw [h3]
  · -- accountRecordCommit
    intro a ok s w h1 t t1
    show execAccountRecordCommit a ok s = _
    rw [execAccountRecordCommit, h1] <;> rfl
  · -- keypadKey
    dsimp only
    intro key s h1 h2 h3 h4 val h5
    refine (if_neg h1).trans ((if_neg h2).trans ((if_neg h3).trans ((if_neg h4).trans ?_)))
    dsimp only
    rw [h5]
  · -- keypadEntryTimeout
    exact fun s h1 => if_pos h1
  · -- lglShowId
    exact fun mb s c hc => next_command hc rfl
  · -- tokSubmit
    intro mb s c hc u0 ds h2 h3
    refine next_command hc ?_
    rw [h2]
    exact if_pos h3
  · -- tokReadIds
    exact fun mb s c hc h2 => next_command hc (if_neg h2)

/-- Settles O38, by the branch of each command's arm that the clause's conditions choose. -/
theorem outletEventsComplete : Obligations.OutletEventsComplete := by
  unfold Obligations.OutletEventsComplete
  and_intros
  · -- pilotPeriodStart
    exact fun n vHigh vLow duty s h1 => if_pos h1
  · -- pilotPeriodStart
    exact fun n vHigh vLow duty s h1 h2 => (if_neg h1).trans (if_pos h2)
  · -- pilotStateRecognised
    exact fun n s h1 => if_pos h1
  · -- deferredAllocation
    exact fun n s h1 => if_pos h1
  · -- pilotInvalid
    exact fun n s h1 => if_pos h1
  · -- pilotFHoldEnd
    intro n s b h1 h2 slac t t1
    show execPilotFHoldEnd n s = _
    rw [execPilotFHoldEnd, h1]
    exact if_pos h2
  · -- proximityMeasure
    exact fun n r s h1 h2 h3 => (if_neg h1).trans ((if_pos h2).trans (if_neg h3))
  · -- ppInvalid
    exact fun n s h1 => if_pos h1
  · -- authTimeout
    exact fun k s h1 => if_pos h1
  · -- preauthExpiry
    intro n s p h1 h2
    show execPreauthExpiry n s = _
    rw [execPreauthExpiry, h1]
    exact if_pos h2
  · -- suspendOpenExpiry
    intro n s k h1 h2
    show execSuspendOpenExpiry n s = _
    rw [execSuspendOpenExpiry, h1]
    exact if_pos h2
  · -- stopLate
    intro n s k h1 x h2
    show execStopLate n s = _
    rw [execStopLate, h1]
    exact if_pos h2

/-- Settles O39, by the branch of each command's arm that the clause's conditions choose. -/
theorem sessionCommandsComplete : Obligations.SessionCommandsComplete := by
  unfold Obligations.SessionCommandsComplete
  and_intros
  · -- v2gStopTimeout
    intro n s k h1 x h2 t
    show execV2gStopTimeout n s = _
    rw [execV2gStopTimeout, h1]
    exact if_pos h2
  · -- dcStopOpen
    intro n s k h1 x h2
    show execDcStopOpen n s = _
    rw [execDcStopOpen, h1]
    exact if_pos h2
  · -- sesAuthorise
    exact fun mb s c hc => next_command hc rfl
  · -- sesPreauth
    exact fun mb s c hc h2 => next_command hc (if_neg h2)
  · -- sesLimits
    exact fun mb s c hc h2 h3 => next_command hc ((if_neg h2).trans (if_neg h3))
  · -- sesStop
    exact fun mb s c hc h2 h3 => next_command hc ((if_neg h2).trans (if_pos h3))
  · -- sesStopAbort
    dsimp only
    intro mb s c hc k h2 h3
    refine next_command hc ?_
    dsimp only
    rw [h2]
    exact if_neg h3
  · -- sesCollect
    exact fun mb s c hc h2 h3 => next_command hc ((if_neg h2).trans (if_neg h3))
  · -- sesAck
    exact fun mb s c hc h2 h3 h4 => next_command hc ((if_neg h2).trans ((if_neg h3).trans (if_neg h4)))
  · -- outEnable
    intro mb s c hc u0 n h2 h3
    refine next_command hc ((if_neg h2).trans (if_neg fun hcharging => h3 ?_))
    show (match u0.sesOn n with | some k => decide (u0.sst k = CHARGING) = true | none => false = true)
    cases hses : u0.sesOn n with
    | some k => simpa [u0, n, hses] using hcharging
    | none => simp [u0, n, hses] at hcharging

/-- Settles O40, by the branch of each command's arm that the clause's conditions choose. -/
theorem vehicleMessagesComplete : Obligations.VehicleMessagesComplete := by
  unfold Obligations.VehicleMessagesComplete
  and_intros
  · -- slacParamReq
    intro runId heard s h h1 n h2 t
    refine (if_neg h1).trans ?_
    rw [h2]
  · -- mnbcSound
    exact fun n runId atten s h1 => if_pos h1
  · -- slacMatch
    exact fun n runId s h1 => if_pos h1
  · -- slacTimeout
    exact fun n s h1 h2 => (if_pos h1).trans (if_neg h2)
  · -- sdpRequest
    intro n late s k h1 h2
    show execSdpRequest n late s = _
    rw [execSdpRequest, h1]
    exact if_pos h2
  · -- supportedAppProtocol
    intro n ranked late s k h1 h2 t p h3
    show execSupportedAppProtocol n ranked late s = _
    rw [execSupportedAppProtocol, h1]
    refine (if_pos h2).trans ?_
    rw [h3]
  · -- v2gRequest
    intro n m late s k h1 h2 r
    show execV2gRequest n m late s = _
    rw [execV2gRequest, h1]
    exact if_pos h2
  · -- tlsClientHello
    intro n offer cost s k h1 choice h2 h3 h4 d t t1 t2
    show execTlsClientHello n offer cost s = _
    rw [execTlsClientHello, h1, h2]
    exact (if_neg h3).trans (if_pos h4)
  · -- tlsPkTimeout
    intro n s b h1 k h2 h3
    show execTlsPkTimeout n s = _
    rw [execTlsPkTimeout, h1, h2]
    exact if_pos h3
  · -- commSetupTimeout
    exact fun n s => rfl
  · -- sequenceTimeout
    exact fun n s => rfl
  · -- cpStateDetectionTimeout
    exact fun n s => rfl
  · -- v2gTrust
    intro mb ok s c hc u0 a h2 h3 h4 h5 bs h6 t
    refine next_command hc ((if_neg h2).trans ((if_neg h3).trans ((if_neg h4).trans ((if_neg h5).trans ?_))))
    rw [h6]
  · -- v2gCertReply
    exact fun mb s c hc h2 h3 => next_command hc ((if_neg h2).trans (if_neg h3))

end Sys2Proof.Machine
end

section
/-! PROOF. Completion and effect of protection, converters, placement, the site line, the bezel and contactless. -/
namespace Sys2Proof.Machine

/-- Settles O41, by the branch of each command's arm that the clause's conditions choose. -/
theorem protectionRowsComplete : Obligations.ProtectionRowsComplete := by
  unfold Obligations.ProtectionRowsComplete
  and_intros
  · -- rdcSelfTestEnd
    exact fun n s h1 h2 => (if_pos h1).trans (next_within (if_pos h2))
  · -- closeTimeout
    exact fun n s h1 => if_pos h1
  · -- vmatchTimeout
    exact fun n s h1 => if_pos h1
  · -- auxMismatch
    exact fun n s h1 => if_pos h1
  · -- auxMismatch
    exact fun n s h1 h2 => (if_neg h1).trans (if_pos h2)
  · -- weldProofAc
    exact fun n z s h1 h2 h3 => (if_neg h1).trans ((if_neg h2).trans (if_pos h3))
  · -- weldProofDc
    exact fun n s h1 h2 h3 => (if_neg h1).trans ((if_neg h2).trans (if_pos h3))
  · -- rdcTrip
    exact fun n ac k s h1 => if_pos h1
  · -- rdcLockRelease
    exact fun n s h1 => if_pos h1
  · -- insulationDwellEnd
    intro n _vp _vn s p b h1 h2 vp vn vcc near next_ t t1
    show execInsulationDwellEnd n _vp _vn s = _
    rw [execInsulationDwellEnd, h1]
    exact if_pos h2
  · -- ocInst
    exact fun n s h1 => if_pos h1
  · -- overvolt
    exact fun n s h1 => if_pos h1
  · -- ocSlow
    exact fun n s h1 => if_pos h1
  · -- connectorThermalLatch
    exact fun n s h1 => if_pos h1
  · -- connectorLatchClear
    exact fun n s h1 => if_pos h1
  · -- holdRetry
    exact fun n s h1 => if_pos h1
  · -- latchTimeout
    exact fun n s h1 => if_pos h1
  · -- protBlind
    exact fun n s h1 => if_pos h1
  · -- protClear
    exact fun mb s c hc h2 h3 h4 => next_command hc ((if_neg h2).trans ((if_neg h3).trans (if_neg h4)))
  · -- rdcTest
    intro mb s c hc u0 n h2 h3 h4
    refine next_command hc ((if_neg h2).trans ((if_neg fun hcharging => h3 ?_).trans (if_neg h4)))
    show (match u0.sesOn n with | some k => decide (u0.sst k = CHARGING) = true | none => false = true)
    cases hses : u0.sesOn n with
    | some k => simpa [u0, n, hses] using hcharging
    | none => simp [u0, n, hses] at hcharging

/-- Settles O42, by the branch of each command's arm that the clause's conditions choose. -/
theorem converterFramesComplete : Obligations.ConverterFramesComplete := by
  unfold Obligations.ConverterFramesComplete
  and_intros
  · -- setpointFrame
    intro c k s h1 n h2 p o seq h3 f t
    refine (if_pos h1).trans ?_
    rw [h2]
    exact if_neg h3
  · -- setpointFrame
    intro c k s h1 h2 j h3 x mode seq h4 f t
    refine (if_pos h1).trans ?_
    rw [h2, h3]
    exact if_neg h4
  · -- statusFrame
    intro c k bs s h1 n h2 fault t
    refine (if_neg h1).trans ?_
    rw [h2]
  · -- statusFrame
    intro c k bs s h1 h2 j h3 fault t
    refine (if_neg h1).trans ?_
    rw [h2, h3]
  · -- canTargetLost
    intro c k s h1 n h2 o h3 t
    refine (if_neg h1).trans ?_
    rw [h2]
    exact if_pos h3
  · -- canTargetLost
    intro c k s h1 h2 j h3 x h4
    refine (if_neg h1).trans ?_
    rw [h2, h3]
    exact if_pos h4
  · -- canBusOff
    exact fun c s h1 => if_neg h1
  · -- busOffRecovery
    intro c s b h1 h2
    show execBusOffRecovery c s = _
    rw [execBusOffRecovery, h1]
    exact if_pos h2

/-- Settles O43, by the branch of each command's arm that the clause's conditions choose. -/
theorem placementRowsComplete : Obligations.PlacementRowsComplete := by
  unfold Obligations.PlacementRowsComplete
  and_intros
  · -- allocationApply
    intro s p h1 h2 t t1 t2 t3 t4
    show execAllocationApply s = _
    rw [execAllocationApply, h1]
    exact if_pos h2
  · -- islandExit
    intro s b h1 h2
    show execIslandExit s = _
    rw [execIslandExit, h1]
    exact if_pos h2
  · -- batteryDataStale
    exact fun s h1 => if_pos h1
  · -- priceStale
    exact fun s h1 => if_pos h1
  · -- siteLimitExpiry
    intro s b h1 h2
    show execSiteLimitExpiry s = _
    rw [execSiteLimitExpiry, h1]
    exact if_pos h2
  · -- minOffExpiry
    exact fun k s h1 => if_pos h1
  · -- sharePeriodStart
    exact fun s h1 => if_pos h1
  · -- shareLowerTimeout
    intro k s b h1 h2
    show execShareLowerTimeout k s = _
    rw [execShareLowerTimeout, h1]
    exact if_pos h2
  · -- partnerLost
    exact fun k s h1 => if_pos h1
  · -- partnerFailsafe
    exact fun s h1 => if_pos h1
  · -- placePrice
    exact fun mb s c hc h2 => next_command hc (if_neg h2)
  · -- placeBattery
    exact fun mb s c hc h2 => next_command hc (if_neg h2)
  · -- placeSiteLimit
    exact fun mb s c hc h2 => next_command hc (if_neg h2)
  · -- placeInfo
    exact fun mb s c hc h2 => next_command hc (if_neg h2)
  · -- placementRound
    exact fun s h1 => if_pos h1

/-- Settles O44, by the branch of each command's arm that the clause's conditions choose. -/
theorem siteLineFramesComplete : Obligations.SiteLineFramesComplete := by
  unfold Obligations.SiteLineFramesComplete
  and_intros
  · -- siteMessageRetry
    intro s m h1 h2 t h3 h4 left
    show execSiteMessageRetry s = _
    rw [execSiteMessageRetry, h1]
    exact (if_pos h2).trans ((if_neg h3).trans (if_pos h4))
  · -- beatFrameStart
    intro p s m h1 h2 seq m'
    show execBeatFrameStart p s = _
    rw [execBeatFrameStart, h1]
    exact if_pos h2
  · -- mainsZeroCrossing
    intro p positive o s h t t1 isRef t2 h1 x h2
    refine (if_neg h1).trans ?_
    rw [h2]
  · -- zcLost
    exact fun p s h1 => if_pos h1
  · -- beatFrameReceived
    intro p s l h1 t b h2 f src dst typ seq pay h3 t1 dup t2 h4 payload h5 h6
    refine (if_neg h1).trans ?_
    rw [h2]
    refine (if_neg h3).trans ((if_neg h4).trans ?_)
    rw [h5]
    exact if_neg h6
  · -- ofdmFrameStart
    intro s h1 h2 m h3 t h4 p h5
    refine (if_pos h1).trans ?_
    rw [h2]
    rw [h3]
    refine (if_neg h4).trans ?_
    rw [h5]
  · -- ofdmAckTimeout
    dsimp only
    intro s x h1 d h2 h3
    show execOfdmAckTimeout s = _
    rw [execOfdmAckTimeout, h1]
    dsimp only
    rw [h2]
    exact if_pos h3
  · -- ofdmAckFrame
    intro fch s v h1 h2 x h3 h4 k map segs t t1 miss h5 h6 t2
    refine (if_neg h1).trans ((if_neg h2).trans ?_)
    rw [h3]
    exact (if_pos h4).trans ((if_pos h5).trans (if_pos h6))
  · -- ofdmDataFrame
    exact fun fch segs s h1 h2 h3 h4 h5 h6 h7 =>
      (if_neg h1).trans ((if_neg h2).trans ((if_neg h3).trans ((if_neg h4).trans ((if_neg h5).trans ((if_neg h6).trans (if_pos h7))))))
  · -- preambleLost
    exact fun s => rfl
  · -- sextantStart
    exact fun j energy s => rfl
  · -- probeFrame
    exact fun k s h1 => if_pos h1
  · -- linkReportSend
    exact fun s h1 => if_pos h1
  · -- linkExpiry
    intro k s b h1 h2
    show execLinkExpiry k s = _
    rw [execLinkExpiry, h1]
    exact if_pos h2
  · -- partnerReportSend
    exact fun s h1 => if_pos h1

/-- Settles O45, by the branch of each command's arm that the clause's conditions choose. -/
theorem siteLineMessagesComplete : Obligations.SiteLineMessagesComplete := by
  unfold Obligations.SiteLineMessagesComplete
  and_intros
  · -- announceSend
    exact fun s h1 => if_pos h1
  · -- noPrivileged
    exact fun s h1 => if_pos h1
  · -- report
    exact fun s => rfl
  · -- share
    exact fun s => rfl
  · -- shareAck
    exact fun s => rfl
  · -- meterInfo
    exact fun s => rfl
  · -- linkReport
    exact fun s => rfl
  · -- toneMap
    exact fun s => rfl
  · -- announce
    exact fun s => rfl
  · -- hostData
    exact fun s => rfl
  · -- e2eAck
    exact fun s => rfl
  · -- sitSend
    exact fun mb s c hc h2 h3 => next_command hc ((if_neg h2).trans (if_neg h3))
  · -- sitRecv
    intro mb s c hc u0 m rest h2 h3 t
    refine next_command hc ?_
    rw [h2]
    exact if_neg h3
  · -- sitLinkInfo
    exact fun mb s c hc h2 => next_command hc (if_neg h2)
  · -- sitProbe
    exact fun mb s c hc h2 h3 => next_command hc ((if_neg h2).trans (if_neg h3))

/-- Settles O46, by the branch of each command's arm that the clause's conditions choose. -/
theorem bezelRowsComplete : Obligations.BezelRowsComplete := by
  unfold Obligations.BezelRowsComplete
  and_intros
  · -- bezelPulseEnd
    intro charge s w h1 h2 t
    show execBezelPulseEnd charge s = _
    rw [execBezelPulseEnd, h1]
    exact if_pos h2
  · -- bezelRestEnd
    intro s w h1 h2
    show execBezelRestEnd s = _
    rw [execBezelRestEnd, h1]
    exact if_pos h2
  · -- bezelRailResume
    intro rails s t b h1 h2
    show execBezelRailResume rails s = _
    rw [execBezelRailResume, h1]
    exact if_pos h2
  · -- bezelDropRepost
    exact fun s h1 => if_pos h1
  · -- bezelRecovery
    intro s r h1 h2 f rest order seq t
    show execBezelRecovery s = _
    rw [execBezelRecovery, h1]
    exact if_pos h2
  · -- bzlShow
    exact fun mb s c hc h2 => next_command hc (if_neg h2)
  · -- bzlRefresh
    exact fun mb s c hc => next_command hc rfl
  · -- bzlStressRead
    exact fun mb s c hc h2 => next_command hc (if_neg h2)

/-- Settles O47, by the branch of each command's arm that the clause's conditions choose. -/
theorem cardReaderAndTagLinkComplete : Obligations.CardReaderAndTagLinkComplete := by
  unfold Obligations.CardReaderAndTagLinkComplete
  and_intros
  · -- readerPoll
    intro card driveOk s h1 bad t h2 c h3 h4 iso t1 t2 t3 t4 t5 t6
    refine (if_pos h1).trans ((if_neg h2).trans ?_)
    rw [h3]
    exact if_neg h4
  · -- cardPresenceCheck
    exact fun answered s h1 => if_pos h1
  · -- isoDepBlockReceived
    intro b s e h1 h2 no flip n more data h3 h4 got h5 t
    show execIsoDepBlockReceived b s = _
    rw [execIsoDepBlockReceived, h1]
    refine (if_neg h2).trans ?_
    rw [h3]
    exact (if_neg h4).trans (if_neg h5)
  · -- isoDepTimeout
    intro s e h1 h2 h3
    show execIsoDepTimeout s = _
    rw [execIsoDepTimeout, h1]
    exact (if_pos h2).trans (if_pos h3)
  · -- tagWriteCommit
    intro failed s w h1 h2 c0 c t t1 t2 t3 t4 r h3 h4
    show execTagWriteCommit failed s = _
    rw [execTagWriteCommit, h1]
    refine (if_neg h2).trans ?_
    rw [h3, h4]
  · -- tagFieldOn
    exact fun s => rfl
  · -- tagFieldLoss
    exact fun s => rfl
  · -- tagReqa
    exact fun s h1 => if_pos h1
  · -- tagWupa
    exact fun s h1 => if_pos h1
  · -- tagAnticollision
    exact fun s h1 => if_pos h1
  · -- tagSelect
    exact fun s h1 => if_pos h1
  · -- tagHlta
    exact fun s h1 => if_pos h1

/-- Settles O48, by `State.crown_served` for the frames that the tag answers, and by the branch that each clause's conditions choose.
-/
theorem tagCommandsComplete : Obligations.TagCommandsComplete := by
  unfold Obligations.TagCommandsComplete
  and_intros
  · -- tagDeselect
    exact fun s h1 => if_pos h1
  · -- tagSilenceEnd
    exact fun s h1 => if_pos h1
  · -- tagTxnIdleTimeout
    exact fun s h1 => if_pos h1
  · -- getInfo
    intro f s h1 h2 h3 h4 u0
    show execGetInfo f s = _
    exact State.crown_served h1 h2 h3 h4 rfl
  · -- readBlock
    intro f block s h1 h2 h3 h4 u0 b h5 h6 w h7
    show execReadBlock f block s = _
    refine State.crown_served h1 h2 h3 h4 ?_
    refine ((if_neg h5).trans ((if_neg h6).trans ?_))
    show (match (u0.cell b).winner with | some w => u0.answerBytes (le 16 w.2) | none => u0.nak 0x8) = _
    rw [h7]
  · -- writeBlock
    intro f block data reserve s h1 h2 h3 h4 u0 b h5 h6 h7
    show execWriteBlock f block data reserve s = _
    refine State.crown_served h1 h2 h3 h4 ?_
    exact ((if_neg h5).trans ((if_neg h6).trans (if_neg h7)))
  · -- readCounter
    intro f k s h1 h2 h3 h4 u0 h5 w h6
    show execReadCounter f k s = _
    refine State.crown_served h1 h2 h3 h4 ?_
    refine ((if_neg h5).trans ?_)
    show (match (u0.cell (512 + k.toNat)).winner with | some w => u0.answerBytes (le 3 w.2) | none => u0.nak 0x8) = _
    rw [h6]
  · -- incrCounter
    intro f k inc reserve s h1 h2 h3 h4 u0 c v h5 h6 h7 h8 h9
    show execIncrCounter f k inc reserve s = _
    refine State.crown_served h1 h2 h3 h4 ?_
    exact ((if_neg h5).trans ((if_neg h6).trans ((if_neg h7).trans ((if_neg h8).trans (if_neg h9)))))
  · -- pwdAuth
    intro f pwd s h1 h2 h3 h4 u0 h5 h6 h7
    show execPwdAuth f pwd s = _
    refine State.crown_served h1 h2 h3 h4 ?_
    exact ((if_neg h5).trans ((if_neg h6).trans (if_pos h7)))
  · -- authBegin
    intro f chal s h1 h2 h3 h4 u0 h5 d draw
    show execAuthBegin f chal s = _
    refine State.crown_served h1 h2 h3 h4 ?_
    exact (if_neg h5)
  · -- authEnd
    intro f resp s h1 h2 h3 h4 u0 c h5 h6
    show execAuthEnd f resp s = _
    refine State.crown_served h1 h2 h3 h4 ?_
    show (match u0.nfc.chal with
      | none => u0.nak 0x0
      | some c =>
        if resp.toNat = u0.tagMac c ∧ !u0.nfc.keyBad then
          ((u0.put NFC_TAG_STATE_STATE 3).updNfc (fun x => { x with chal := none })).nak 0xA
        else u0.tagFail) = _
    rw [h5]
    exact if_pos h6
  · -- tagScrub
    exact fun s h1 => if_pos h1

/-- Settles O49, by the branch of each command's arm that the clause's conditions choose. -/
theorem tagUpkeepAndHostCommandsComplete : Obligations.TagUpkeepAndHostCommandsComplete := by
  unfold Obligations.TagUpkeepAndHostCommandsComplete
  and_intros
  · -- faultMirrorWrite
    intro s e h1 h2 b t
    show execFaultMirrorWrite s = _
    rw [execFaultMirrorWrite, h1]
    exact if_pos h2
  · -- tagHostLockWrite
    exact fun v s => rfl
  · -- nfcRdEnable
    exact fun mb s c hc h2 => next_command hc (if_neg h2)
  · -- nfcRdApdu
    exact fun mb s c hc h2 h3 => next_command hc ((if_neg h2).trans (if_neg h3))
  · -- nfcRdRelease
    exact fun mb s c hc => next_command hc rfl
  · -- nfcTagRead
    exact fun mb s c hc h2 => next_command hc (if_neg h2)
  · -- nfcTagWrite
    dsimp only
    intro mb s c hc h2 h3 k v rest h4
    refine next_command hc ((if_neg h2).trans ((if_neg h3).trans ?_))
    dsimp only
    rw [h4]
  · -- nfcTagAbort
    intro mb s c hc u0 r w h2 h3
    refine next_command hc ?_
    rw [h2]
    exact if_pos h3
  · -- nfcTagCounter
    exact fun mb s c hc h2 h3 h4 h5 =>
      next_command hc ((if_neg h2).trans ((if_neg h3).trans ((if_neg h4).trans (if_neg h5))))
  · -- nfcTagPwd
    exact fun mb s c hc h2 h3 => next_command hc ((if_neg h2).trans (if_neg h3))

end Sys2Proof.Machine
end

section
/-! PROOF. Completion and effect of the Mainplate, keys, updates, ageing, power, start-up and the registers that a read clears. -/
namespace Sys2Proof.Machine

/-- Settles O50, by the branch of each command's arm that the clause's conditions choose. -/
theorem mainplateRowsComplete : Obligations.MainplateRowsComplete := by
  unfold Obligations.MainplateRowsComplete
  and_intros
  · -- mainplateRequest
    intro m acc due t s v place h1 h2 n a h3 p u
    refine (if_neg h1).trans ((if_pos h2).trans ?_)
    rw [h3]
  · -- mainplateRequest
    exact fun m acc due t s h1 h2 h3 => (if_neg h1).trans ((if_neg h2).trans (if_pos h3))
  · -- mainplateRequest
    exact fun m acc due t s h1 h2 h3 h4 => (if_neg h1).trans ((if_neg h2).trans ((if_neg h3).trans (if_pos h4)))
  · -- bankGrant
    intro b t ecc s v here h1 r h2 u
    refine (if_neg h1).trans ?_
    rw [h2]
  · -- backoffEnd
    exact fun m b t s => rfl
  · -- masterCutoff
    intro b t s x h1 h2 u u1
    show execMasterCutoff b t s = _
    rw [execMasterCutoff, h1]
    exact if_pos h2
  · -- arbCutoffClear
    exact fun w s => rfl
  · -- scrubPassEnd
    exact fun found s => rfl
  · -- scrubLag
    exact fun s h1 => if_pos h1
  · -- spareCopyDone
    intro found s b h1 t
    show execSpareCopyDone found s = _
    rw [execSpareCopyDone, h1]
  · -- hackSet
    exact fun port banks s => rfl
  · -- hackClear
    exact fun w s => rfl
  · -- hackTimeout
    intro s b h1 h2
    show execHackTimeout s = _
    rw [execHackTimeout, h1]
    exact if_pos h2
  · -- dmaStart
    exact fun c desc s => rfl
  · -- dmaPause
    exact fun c s => rfl
  · -- dmaResume
    exact fun c s => rfl
  · -- dmaAbort
    exact fun c s => rfl
  · -- dmaVerify
    intro n flip s h1 d bad u late h2 h3
    refine (if_neg h1).trans ((if_neg fun hlate => h2 ?_).trans (if_pos h3))
    cases habort : d.abort with
    | some b => simpa [late, d, habort] using hlate
    | none => simp [d, habort] at hlate
  · -- dmaDeadline
    exact fun n s h1 => if_pos h1

/-- Settles O51, by the branch of each command's arm that the clause's conditions choose. -/
theorem keyRowsComplete : Obligations.KeyRowsComplete := by
  unfold Obligations.KeyRowsComplete
  and_intros
  · -- keySvcChallenge
    exact fun mb s c hc h2 h3 h4 => next_command hc ((if_neg h2).trans ((if_neg h3).trans (if_neg h4)))
  · -- keySvcResponse
    intro mb s c hc u0 h2 h3 h4 t good h5
    refine next_command hc ((if_neg h2).trans ((if_neg h3).trans ((if_neg h4).trans ?_)))
    refine if_pos ?_
    cases hchal : nth u0.key.chal none c.port with
    | some p => simpa [good, u0, hchal] using h5
    | none => simp [good, hchal] at h5
  · -- svcChallengeExpiry
    intro port s z1 m h1 h2
    show execSvcChallengeExpiry port s = _
    rw [execSvcChallengeExpiry, h1]
    exact if_pos h2
  · -- svcLockoutEnd
    exact fun s h1 => if_pos h1
  · -- serviceWorldTimeout
    exact fun port s h1 => if_pos h1
  · -- ephemeralJewelClear
    exact fun n s h1 => if_pos h1
  · -- entropyTestFail
    exact fun s => rfl
  · -- entropyRecovery
    exact fun s h1 => if_neg h1
  · -- drbgReseed
    exact fun s h1 => if_pos h1
  · -- keyPublic
    intro mb s c hc u0 j ty h2 v h3
    refine next_command hc ((if_neg h2).trans ?_)
    rw [h3]
  · -- keyImport
    exact fun mb s c hc h2 h3 h4 => next_command hc ((if_neg h2).trans ((if_neg h3).trans (if_neg h4)))
  · -- keyGenerate
    exact fun mb s c hc h2 h3 h4 h5 =>
      next_command hc ((if_neg h2).trans ((if_neg h3).trans ((if_neg h4).trans (if_neg h5))))
  · -- keyRespond
    exact fun mb s c hc => next_command hc rfl
  · -- nfcCardRespond
    exact fun mb s c hc => next_command hc rfl
  · -- keyErase
    exact fun mb s c hc h2 => next_command hc (if_neg h2)
  · -- keyExport
    dsimp only
    intro mb s c hc h2 h3 h4 m h5
    refine next_command hc ((if_neg h2).trans ((if_neg h3).trans ((if_neg h4).trans ?_)))
    dsimp only
    rw [h5]
  · -- keyLcAdvance
    exact fun mb s c hc h2 h3 h4 h5 =>
      next_command hc ((if_neg h2).trans ((if_neg h3).trans ((if_neg h4).trans (if_neg h5))))
  · -- lcFuseReadback
    intro equal s a h1 t h2 t1 t2 t3
    show execLcFuseReadback equal s = _
    rw [execLcFuseReadback, h1]
    exact if_neg h2

/-- Settles O52, by the branch of each command's arm that the clause's conditions choose. -/
theorem updateRowsComplete : Obligations.UpdateRowsComplete := by
  unfold Obligations.UpdateRowsComplete
  and_intros
  · -- updBegin
    exact fun mb s c hc h2 h3 h4 => next_command hc ((if_neg h2).trans ((if_neg h3).trans (if_neg h4)))
  · -- updChunk
    intro mb bad s c hc u0 i k a l h2 n h3 h4 t r t1 t2
    refine next_command hc ?_
    rw [h2]
    exact (if_neg h3).trans (if_neg h4)
  · -- updateLoadCommit
    intro s l h1 h2
    show execUpdateLoadCommit s = _
    rw [execUpdateLoadCommit, h1]
    exact if_pos h2
  · -- updateRestoreDone
    intro s c h1 r t t1 t2
    show execUpdateRestoreDone s = _
    rw [execUpdateRestoreDone, h1]
  · -- updAbort
    intro mb s c hc u0 r l h2 h3
    refine next_command hc ?_
    rw [h2]
    exact if_pos h3
  · -- gpFwDeferredStart
    intro s a h1 h2
    show execGpFwDeferredStart s = _
    rw [execGpFwDeferredStart, h1]
    exact if_pos h2
  · -- updActivate
    exact fun mb s c hc h2 h3 h4 => next_command hc ((if_neg h2).trans ((if_neg h3).trans (if_neg h4)))
  · -- caseFwReadyTimeout
    intro s a h1 h2 t t1
    show execCaseFwReadyTimeout s = _
    rw [execCaseFwReadyTimeout, h1]
    exact if_pos h2
  · -- updInfo
    exact fun mb s c hc h2 => next_command hc (if_neg h2)
  · -- recFirstPart
    intro bad s h1 bs h2
    refine (if_pos h1).trans ((if_neg h2).trans ?_)
    dsimp only [bs]
    cases s.judgeUpdate s.recPart true with
    | some v => rfl
    | none => exact (apply_ite Host.Outcome.next _ _ _).symm
  · -- recFurtherPart
    intro bad s h1 l h2
    refine (if_pos h1).trans ?_
    rw [h2]
  · -- recCheckDirectory
    exact fun s h1 => if_pos h1

/-- Settles O53, by the branch of each command's arm that the clause's conditions choose. -/
theorem wearAndTakeoverRowsComplete : Obligations.WearAndTakeoverRowsComplete := by
  unfold Obligations.WearAndTakeoverRowsComplete
  and_intros
  · -- slackSample
    exact fun a b leakA leakB s h1 => if_pos h1
  · -- clockStepApply
    exact fun lane s h1 => if_pos h1
  · -- clockStepCheckDone
    intro lane s l b h1 h2 st t t1 t2 t3
    show execClockStepCheckDone lane s = _
    rw [execClockStepCheckDone, h1]
    exact if_pos h2
  · -- hourlyRecord
    exact fun noise mram flash bad s h1 h2 => (if_pos h1).trans (if_neg h2)
  · -- wearReadHourly
    exact fun mb s c hc h2 => next_command hc (if_neg h2)
  · -- wearReadYearly
    exact fun mb s c hc h2 => next_command hc (if_neg h2)
  · -- wearEstimate
    exact fun mb s c hc => next_command hc rfl
  · -- complicationDone
    dsimp only
    intro lane kind subject result s c h1
    show execComplicationDone lane kind subject result s = _
    rw [execComplicationDone, h1]
    rfl
  · -- takeoverComplete
    intro ns s t h1 h2
    show execTakeoverComplete ns s = _
    rw [execTakeoverComplete, h1]
    exact if_pos h2
  · -- takeoverComplete
    intro ns s t h1 h2 h3 u u1 u2
    show execTakeoverComplete ns s = _
    rw [execTakeoverComplete, h1]
    exact (if_neg h2).trans (if_pos h3)
  · -- beat
    exact fun obs s h1 => if_neg h1

/-- Settles O54, by the branch of each command's arm that the clause's conditions choose. -/
theorem powerRowsComplete : Obligations.PowerRowsComplete := by
  unfold Obligations.PowerRowsComplete
  and_intros
  · -- powerFailWarning
    exact fun z s h1 => if_neg h1
  · -- warningWithdrawn
    exact fun s h1 => if_neg h1
  · -- remontoireOn
    exact fun s h1 => if_neg h1
  · -- remontoireOff
    exact fun s => rfl
  · -- vsysToHold
    exact fun s h1 => if_neg h1
  · -- supplyReset
    exact fun s h1 => if_pos h1
  · -- railOut
    exact fun rail s => rfl
  · -- caseWatchdogReset
    exact fun s => rfl
  · -- cpSupplyOut
    exact fun neg s h1 => if_pos h1
  · -- holdLow
    exact fun s => rfl
  · -- vbatLow
    exact fun s => rfl
  · -- railBackInRange
    exact fun rail s h1 => if_pos h1
  · -- lanePllLost
    exact fun lane s h1 h2 => (if_pos h1).trans (if_pos h2)
  · -- periphClockLost
    exact fun d s h1 => if_pos h1
  · -- periphClockReturn
    exact fun d s => rfl
  · -- coreClockLost
    exact fun which s => rfl
  · -- thermalLimit
    exact fun die s => rfl
  · -- refClockMeasure
    exact fun ppm s => rfl
  · -- chronoXtalStop
    exact fun s h1 => if_neg h1
  · -- chronoXtalRestore
    exact fun s h1 => if_pos h1
  · -- glbResetModule
    exact fun port s => rfl
  · -- glbResetRecovery
    exact fun port s => rfl

/-- Settles O55, by the branch of each command's arm that the clause's conditions choose. -/
theorem calibreAndStartRowsComplete : Obligations.CalibreAndStartRowsComplete := by
  unfold Obligations.CalibreAndStartRowsComplete
  and_intros
  · -- calLoad
    exact fun mb img s c hc h2 h3 h4 h5 =>
      next_command hc ((if_neg h2).trans ((if_neg h3).trans ((if_neg h4).trans (if_neg h5))))
  · -- calPatch
    exact fun mb img s c hc h2 h3 => next_command hc ((if_neg h2).trans (if_neg h3))
  · -- calTagInstaller
    dsimp only
    intro mb img s c hc h2 t h3
    refine next_command hc ((if_neg h2).trans ?_)
    dsimp only
    rw [h3]
  · -- calAbort
    intro mb s c hc u0 r w h2 h3
    refine next_command hc ?_
    rw [h2]
    exact if_pos h3
  · -- calSlotInfo
    exact fun mb s c hc h2 => next_command hc (if_neg h2)
  · -- calEraseSlot
    exact fun mb s c hc h2 h3 h4 => next_command hc ((if_neg h2).trans ((if_neg h3).trans (if_neg h4)))
  · -- calRestartUnits
    exact fun mb s c hc h2 h3 h4 h5 h6 =>
      next_command hc ((if_neg h2).trans ((if_neg h3).trans ((if_neg h4).trans ((if_neg h5).trans (if_neg h6)))))
  · -- unitRestartDone
    exact fun unit s h1 h2 => (if_neg h1).trans (if_pos h2)
  · -- resetRelease
    exact fun lost s h1 => if_neg h1
  · -- residentLoaderVerified
    intro bad s h1 h2 h3
    refine (if_neg h1).trans ?_
    rw [h2]
    exact if_neg h3
  · -- firmwareSetLoaded
    intro corrupt digestBad legalBad s h1 h2 t t1 t2 t3 t4 r t5 t6 t7
    refine (if_neg h1).trans ?_
    rw [h2]
  · -- slotChoiceAgreed
    intro digestBad choiceEqual keysEqual s h1 both t keyDiff blank diff t1 h2 h3 h4 k fb h5
    refine (if_neg h1).trans ((if_neg h2).trans ((if_neg h3).trans ((if_neg h4).trans ?_)))
    rw [h5]
  · -- tagInstallerCheck
    intro readOk img s h1 t t1 h2
    refine (if_neg h1).trans ?_
    rw [h2]
  · -- slotWriteCommit
    intro back s w h1 t
    show execSlotWriteCommit back s = _
    rw [execSlotWriteCommit, h1]
  · -- startSelftestDone
    exact fun a b s h1 => if_neg h1
  · -- startOrder
    exact fun t100 x s h1 => if_neg h1
  · -- loadingTimeout
    exact fun s h1 => if_pos h1

/-- Settles O57, by what a read through a port does at a register that latches or clears. -/
theorem clearOnReadRegistersComplete : Obligations.ClearOnReadRegistersComplete := by
  obtain ⟨hEscCompRun, hEscCompDrop, hSnsChStat, hMtrMState, hMtrPlsStat, hSesProto, hOutSlac,
    hLchCount, hHpdPErr, hHpdPClk, hArbMiss, hArbWait, hArbLoad⟩ := families_clear
  unfold Obligations.ClearOnReadRegistersComplete
  and_intros
  · -- beatnoLoRead
    exact fun port s => rfl
  · -- beatnoLoRead
    exact fun port s r _ h => congrArg Host.Outcome.next (State.portRead_latches (by decide) h)
  · -- budgetRoundRead
    exact fun port s => rfl
  · -- budgetRoundRead
    exact fun port s r _ h => congrArg Host.Outcome.next (State.portRead_latches (by decide) h)
  · -- plRoundRead
    exact fun port s => rfl
  · -- plRoundRead
    exact fun port s r _ h => congrArg Host.Outcome.next (State.portRead_latches (by decide) h)
  · -- glbPollRead
    exact fun port s => rfl
  · -- glbPollRead
    exact fun port s r _ h => congrArg Host.Outcome.next (State.portRead_poll h)
  · -- mbxReplyRead
    exact fun port k s => rfl
  · -- mbxReplyRead
    exact fun port k s r _ h => congrArg Host.Outcome.next (State.portRead_reply k h)
  · -- faultEntryRead
    exact fun port s => rfl
  · -- faultEntryRead
    exact fun port s r _ h => congrArg Host.Outcome.next (State.portRead_latches (by decide) h)
  · -- essMaxRead
    exact fun port s => rfl
  · -- essMaxRead
    exact fun port s r _ h => congrArg Host.Outcome.next (State.portRead_clears (by decide) h)
  · -- queueFullCntRead
    exact fun port s => rfl
  · -- queueFullCntRead
    exact fun port s r _ h => congrArg Host.Outcome.next (State.portRead_clears (by decide) h)
  · -- compRunRead
    exact fun port k s => rfl
  · -- compRunRead
    exact fun port k s r _ h => congrArg Host.Outcome.next (State.portRead_clears (hEscCompRun k) h)
  · -- compDropRead
    exact fun port k s => rfl
  · -- compDropRead
    exact fun port k s r _ h => congrArg Host.Outcome.next (State.portRead_clears (hEscCompDrop k) h)
  · -- swingCntRead
    exact fun port s => rfl
  · -- swingCntRead
    exact fun port s r _ h => congrArg Host.Outcome.next (State.portRead_clears (by decide) h)
  · -- chStatRead
    exact fun port n s => rfl
  · -- chStatRead
    exact fun port n s r _ h => congrArg Host.Outcome.next (State.portRead_clears (hSnsChStat n) h)
  · -- meterStateRead
    exact fun port m s => rfl
  · -- meterStateRead
    exact fun port m s r _ h => congrArg Host.Outcome.next (State.portRead_clears (hMtrMState m) h)
  · -- plsStatRead
    exact fun port k s => rfl
  · -- plsStatRead
    exact fun port k s r _ h => congrArg Host.Outcome.next (State.portRead_clears (hMtrPlsStat k) h)
  · -- tokCountRead
    exact fun port s => rfl
  · -- tokCountRead
    exact fun port s r _ h => congrArg Host.Outcome.next (State.portRead_clears (by decide) h)
  · -- sesProtoRead
    exact fun port k s => rfl
  · -- sesProtoRead
    exact fun port k s r _ h => congrArg Host.Outcome.next (State.portRead_clears (hSesProto k) h)
  · -- outSlacRead
    exact fun port n s => rfl
  · -- outSlacRead
    exact fun port n s r _ h => congrArg Host.Outcome.next (State.portRead_clears (hOutSlac n) h)
  · -- plBreachRead
    exact fun port s => rfl
  · -- plBreachRead
    exact fun port s r _ h => congrArg Host.Outcome.next (State.portRead_clears (by decide) h)
  · -- journalMaxRead
    exact fun port s => rfl
  · -- journalMaxRead
    exact fun port s r _ h => congrArg Host.Outcome.next (State.portRead_clears (by decide) h)
  · -- gapMaxRead
    exact fun port s => rfl
  · -- gapMaxRead
    exact fun port s r _ h => congrArg Host.Outcome.next (State.portRead_clears (by decide) h)
  · -- redChecksRead
    exact fun port s => rfl
  · -- redChecksRead
    exact fun port s r _ h => congrArg Host.Outcome.next (State.portRead_clears (by decide) h)
  · -- safCountRead
    exact fun port s => rfl
  · -- safCountRead
    exact fun port s r _ h => congrArg Host.Outcome.next (State.portRead_clears (by decide) h)
  · -- safReactRead
    exact fun port s => rfl
  · -- safReactRead
    exact fun port s r _ h => congrArg Host.Outcome.next (State.portRead_clears (by decide) h)
  · -- lchCountRead
    exact fun port k s => rfl
  · -- lchCountRead
    exact fun port k s r _ h => congrArg Host.Outcome.next (State.portRead_clears (hLchCount k) h)
  · -- bzlCountRead
    exact fun port s => rfl
  · -- bzlCountRead
    exact fun port s r _ h => congrArg Host.Outcome.next (State.portRead_clears (by decide) h)
  · -- rdCountRead
    exact fun port s => rfl
  · -- rdCountRead
    exact fun port s r _ h => congrArg Host.Outcome.next (State.portRead_clears (by decide) h)
  · -- tagStatRead
    exact fun port s => rfl
  · -- tagStatRead
    exact fun port s r _ h => congrArg Host.Outcome.next (State.portRead_clears (by decide) h)
  · -- sitCountRead
    exact fun port s => rfl
  · -- sitCountRead
    exact fun port s r _ h => congrArg Host.Outcome.next (State.portRead_clears (by decide) h)
  · -- sitErrRead
    exact fun port s => rfl
  · -- sitErrRead
    exact fun port s r _ h => congrArg Host.Outcome.next (State.portRead_clears (by decide) h)
  · -- sitDropRead
    exact fun port s => rfl
  · -- sitDropRead
    exact fun port s r _ h => congrArg Host.Outcome.next (State.portRead_clears (by decide) h)
  · -- hpdErrRead
    exact fun port n s => rfl
  · -- hpdErrRead
    exact fun port n s r _ h => congrArg Host.Outcome.next (State.portRead_clears (hHpdPErr n) h)
  · -- hpdClkRead
    exact fun port n s => rfl
  · -- hpdClkRead
    exact fun port n s r _ h => congrArg Host.Outcome.next (State.portRead_clears (hHpdPClk n) h)
  · -- arbMissRead
    exact fun port m s => rfl
  · -- arbMissRead
    exact fun port m s r _ h => congrArg Host.Outcome.next (State.portRead_clears (hArbMiss m) h)
  · -- arbWaitRead
    exact fun port m s => rfl
  · -- arbWaitRead
    exact fun port m s r _ h => congrArg Host.Outcome.next (State.portRead_clears (hArbWait m) h)
  · -- arbLoadRead
    exact fun port b s => rfl
  · -- arbLoadRead
    exact fun port b s r _ h => congrArg Host.Outcome.next (State.portRead_clears (hArbLoad b) h)
  · -- jwUseRead
    exact fun port s => rfl
  · -- jwUseRead
    exact fun port s r _ h => congrArg Host.Outcome.next (State.portRead_jwUse h)
  · -- drbgRead
    exact fun port s => rfl
  · -- drbgRead
    exact fun port s r _ h => congrArg Host.Outcome.next (State.portRead_clears (by decide) h)
  · -- pwrVauxRead
    exact fun port s => rfl
  · -- pwrVauxRead
    exact fun port s r _ h => congrArg Host.Outcome.next (State.portRead_clears (by decide) h)
  · -- pwrDipsRead
    exact fun port s => rfl
  · -- pwrDipsRead
    exact fun port s r _ h => congrArg Host.Outcome.next (State.portRead_clears (by decide) h)
  · -- fltStatusRead
    exact fun port s => rfl
  · -- fltStatusRead
    exact fun port s r _ h => congrArg Host.Outcome.next (State.portRead_clears (by decide) h)
  · -- fltCountRead
    exact fun port s => rfl
  · -- fltCountRead
    exact fun port s r _ h => congrArg Host.Outcome.next (State.portRead_clears (by decide) h)
  · -- wideWord0Read
    intro port addr s r h1 h2
    show execWideWord0Read port addr s = _
    rw [execWideWord0Read, h1]
    exact if_pos h2
  · -- wideWord0Read
    intro port addr s r h1 h2 h3 h4
    obtain ⟨hwords, halign, hlow⟩ := h2
    obtain ⟨hpoll, hjw, hintv⟩ := h4
    show execWideWord0Read port addr s = _
    rw [execWideWord0Read, h1]
    exact (if_pos ⟨hwords, halign⟩).trans
      (congrArg Host.Outcome.next (State.portRead_latches ((plainRead_iff _).mpr ⟨hlow, hpoll, hintv, hjw⟩) h3))
  · intro s a r h
    rw [State.clearRead, h]

end Sys2Proof.Machine
end

section
/-! PROOF. The frame of a step: which parts of the machine a state may have changed (`Kept`), and one rule per part, per way of
composing operations and per operation: registers, faults, replies, sessions, loads, lanes and the Escapement. -/
namespace Sys2Proof.Machine

/-! ### The parts that may change -/

/-- The parts of the machine that a command may change beside the registers and the fault log; the queue and the bytes of the
Mainplate are never among them. -/
structure Parts where
  freeCtr : Bool := false
  glb : Bool := false
  host : Bool := false
  esc : Bool := false
  red : Bool := false
  lgl : Bool := false
  outs : Bool := false
  lch : Bool := false
  saf : Bool := false
  sns : Bool := false
  mtr : Bool := false
  gov : Bool := false
  sit : Bool := false
  bzl : Bool := false
  nfc : Bool := false
  pwr : Bool := false
  mp : Bool := false
  key : Bool := false
  fwu : Bool := false
  cal : Bool := false
  wear : Bool := false

/-- A state with the registers, the fault log and the parts of P taken from s0. -/
def State.restore (s : State) (P : Parts) (s0 : State) : State :=
  { s with
    regs := s0.regs, flt := s0.flt
    freeCtr := cond P.freeCtr s0.freeCtr s.freeCtr
    glb := cond P.glb s0.glb s.glb
    host := cond P.host s0.host s.host
    esc := cond P.esc s0.esc s.esc
    red := cond P.red s0.red s.red
    lgl := cond P.lgl s0.lgl s.lgl
    outs := cond P.outs s0.outs s.outs
    lch := cond P.lch s0.lch s.lch
    saf := cond P.saf s0.saf s.saf
    sns := cond P.sns s0.sns s.sns
    mtr := cond P.mtr s0.mtr s.mtr
    gov := cond P.gov s0.gov s.gov
    sit := cond P.sit s0.sit s.sit
    bzl := cond P.bzl s0.bzl s.bzl
    nfc := cond P.nfc s0.nfc s.nfc
    pwr := cond P.pwr s0.pwr s.pwr
    mp := cond P.mp s0.mp s.mp
    key := cond P.key s0.key s.key
    fwu := cond P.fwu s0.fwu s.fwu
    cal := cond P.cal s0.cal s.cal
    wear := cond P.wear s0.wear s.wear }

/-- A state differs from s0 at most in the registers, the fault log and the parts of P. -/
structure Kept (P : Parts) (s0 s : State) : Prop where
  restored : s.restore P s0 = s0

/-- Every state keeps to itself. -/
theorem Kept.refl (P : Parts) (s : State) : Kept P s s := ⟨by simp only [State.restore, Bool.cond_self]⟩

section
variable {P : Parts} {s0 s : State}

/-! ### A change of one part -/

theorem Kept.regs {x} (h : Kept P s0 s) : Kept P s0 { s with regs := x } := ⟨h.restored⟩

theorem Kept.flt {x} (h : Kept P s0 s) : Kept P s0 { s with flt := x } := ⟨h.restored⟩

theorem Kept.freeCtr {x} (freeCtr : P.freeCtr = true) (h : Kept P s0 s) : Kept P s0 { s with freeCtr := x } :=
  ⟨by simpa only [State.restore, freeCtr, cond_true] using h.restored⟩

theorem Kept.host {x} (host : P.host = true) (h : Kept P s0 s) : Kept P s0 { s with host := x } :=
  ⟨by simpa only [State.restore, host, cond_true] using h.restored⟩

theorem Kept.esc {x} (esc : P.esc = true) (h : Kept P s0 s) : Kept P s0 { s with esc := x } :=
  ⟨by simpa only [State.restore, esc, cond_true] using h.restored⟩

theorem Kept.red {x} (red : P.red = true) (h : Kept P s0 s) : Kept P s0 { s with red := x } :=
  ⟨by simpa only [State.restore, red, cond_true] using h.restored⟩

theorem Kept.lgl {x} (lgl : P.lgl = true) (h : Kept P s0 s) : Kept P s0 { s with lgl := x } :=
  ⟨by simpa only [State.restore, lgl, cond_true] using h.restored⟩

theorem Kept.outs {x} (outs : P.outs = true) (h : Kept P s0 s) : Kept P s0 { s with outs := x } :=
  ⟨by simpa only [State.restore, outs, cond_true] using h.restored⟩

theorem Kept.lch {x} (lch : P.lch = true) (h : Kept P s0 s) : Kept P s0 { s with lch := x } :=
  ⟨by simpa only [State.restore, lch, cond_true] using h.restored⟩

theorem Kept.saf {x} (saf : P.saf = true) (h : Kept P s0 s) : Kept P s0 { s with saf := x } :=
  ⟨by simpa only [State.restore, saf, cond_true] using h.restored⟩

theorem Kept.sns {x} (sns : P.sns = true) (h : Kept P s0 s) : Kept P s0 { s with sns := x } :=
  ⟨by simpa only [State.restore, sns, cond_true] using h.restored⟩

theorem Kept.mtr {x} (mtr : P.mtr = true) (h : Kept P s0 s) : Kept P s0 { s with mtr := x } :=
  ⟨by simpa only [State.restore, mtr, cond_true] using h.restored⟩

theorem Kept.gov {x} (gov : P.gov = true) (h : Kept P s0 s) : Kept P s0 { s with gov := x } :=
  ⟨by simpa only [State.restore, gov, cond_true] using h.restored⟩

theorem Kept.sit {x} (sit : P.sit = true) (h : Kept P s0 s) : Kept P s0 { s with sit := x } :=
  ⟨by simpa only [State.restore, sit, cond_true] using h.restored⟩

theorem Kept.bzl {x} (bzl : P.bzl = true) (h : Kept P s0 s) : Kept P s0 { s with bzl := x } :=
  ⟨by simpa only [State.restore, bzl, cond_true] using h.restored⟩

theorem Kept.nfc {x} (nfc : P.nfc = true) (h : Kept P s0 s) : Kept P s0 { s with nfc := x } :=
  ⟨by simpa only [State.restore, nfc, cond_true] using h.restored⟩

theorem Kept.pwr {x} (pwr : P.pwr = true) (h : Kept P s0 s) : Kept P s0 { s with pwr := x } :=
  ⟨by simpa only [State.restore, pwr, cond_true] using h.restored⟩

theorem Kept.mp {x} (mp : P.mp = true) (h : Kept P s0 s) : Kept P s0 { s with mp := x } :=
  ⟨by simpa only [State.restore, mp, cond_true] using h.restored⟩

theorem Kept.key {x} (key : P.key = true) (h : Kept P s0 s) : Kept P s0 { s with key := x } :=
  ⟨by simpa only [State.restore, key, cond_true] using h.restored⟩

theorem Kept.fwu {x} (fwu : P.fwu = true) (h : Kept P s0 s) : Kept P s0 { s with fwu := x } :=
  ⟨by simpa only [State.restore, fwu, cond_true] using h.restored⟩

theorem Kept.wear {x} (wear : P.wear = true) (h : Kept P s0 s) : Kept P s0 { s with wear := x } :=
  ⟨by simpa only [State.restore, wear, cond_true] using h.restored⟩

/-! ### Choices and repetitions -/

theorem Kept.ite {c : Prop} [Decidable c] {a b : State} (ha : Kept P s0 a) (hb : Kept P s0 b) :
    Kept P s0 (if c then a else b) := by
  split
  · exact ha
  · exact hb

theorem Kept.foldl {α : Type} {l : List α} {f : State → α → State} (h : Kept P s0 s)
    (hf : ∀ u x, Kept P s0 u → Kept P s0 (f u x)) : Kept P s0 (l.foldl f s) := by
  induction l generalizing s with
  | nil => exact h
  | cons x l ih => exact ih (hf _ x h)

theorem AllNext.ite {p : State → Prop} {c : Prop} [Decidable c] {a b : Out} (ha : AllNext p a) (hb : AllNext p b) :
    AllNext p (if c then a else b) := by
  split
  · exact ha
  · exact hb

/-! ### Registers, repetitions, faults, replies and commands -/

theorem Kept.wr {a v} (h : Kept P s0 s) : Kept P s0 (s.wr a v) :=
  .regs h

theorem Kept.wrN {a v} (h : Kept P s0 s) : Kept P s0 (s.wrN a v) :=
  .wr h

theorem Kept.put {f v} (h : Kept P s0 s) : Kept P s0 (s.put f v) :=
  .wr h

theorem Kept.puti {f v} (h : Kept P s0 s) : Kept P s0 (s.puti f v) :=
  .put h

theorem Kept.putSat {f v} (h : Kept P s0 s) : Kept P s0 (s.putSat f v) :=
  .put h

theorem Kept.incBy {f n} (h : Kept P s0 s) : Kept P s0 (s.incBy f n) :=
  .putSat h

theorem Kept.inc {f} (h : Kept P s0 s) : Kept P s0 (s.inc f) :=
  .incBy h

theorem Kept.raiseTo {f v} (h : Kept P s0 s) : Kept P s0 (s.raiseTo f v) :=
  .ite (.putSat h) h

theorem Kept.set1 {f} (h : Kept P s0 s) : Kept P s0 (s.set1 f) :=
  .put h

theorem Kept.clr {f} (h : Kept P s0 s) : Kept P s0 (s.clr f) :=
  .put h

theorem Kept.putB {f b} (h : Kept P s0 s) : Kept P s0 (s.putB f b) :=
  .put h

theorem Kept.putBit {f k b} (h : Kept P s0 s) : Kept P s0 (s.putBit f k b) :=
  .put h

theorem Kept.wr128 {a v} (h : Kept P s0 s) : Kept P s0 (s.wr128 a v) :=
  .wrN <| .wrN <| .wrN <| .wrN h

theorem Kept.forUpTo {n} {f : _ → State → State} (h : Kept P s0 s) (hf : ∀ x0 u, Kept P s0 u → Kept P s0 (f x0 u)) :
    Kept P s0 (forUpTo n f s) :=
  .foldl h fun _ _ hu => hf _ _ hu

theorem Kept.forEach {α : Type} {l : List α} {f : α → State → State} (h : Kept P s0 s)
    (hf : ∀ x u, Kept P s0 u → Kept P s0 (f x u)) : Kept P s0 (forEach l f s) :=
  .foldl h fun _ _ hu => hf _ _ hu

theorem Kept.when {b} {f : State → State} (h : Kept P s0 s) (hf : ∀ u, Kept P s0 u → Kept P s0 (f u)) :
    Kept P s0 (when b f s) :=
  .ite (hf _ h) h

theorem Kept.journal {type key1 head data bulk} (red : P.red = true) (h : Kept P s0 s) :
    Kept P s0 (s.journal type key1 head data bulk) :=
  .red red h

theorem Kept.draw (freeCtr : P.freeCtr = true) (h : Kept P s0 s) : Kept P s0 s.draw.2 :=
  .freeCtr freeCtr h

theorem Kept.drbg {purpose} (freeCtr : P.freeCtr = true) (red : P.red = true) (key : P.key = true) (h : Kept P s0 s) :
    Kept P s0 (s.drbg purpose).2 :=
  .journal red (.key key (.draw freeCtr h))

theorem Kept.within {f : State → State} (esc : P.esc = true)
    (h : Kept P s0 s) (hf : ∀ u, Kept P s0 u → Kept P s0 (f u)) : Kept P s0 (State.within f s) :=
  .esc esc <| hf _ <| .esc esc h

theorem Kept.raise {code cls src p0 p1} (h : Kept P s0 s) : Kept P s0 (s.raise code cls src p0 p1) :=
  .flt h

theorem Kept.raiseLimited {key1 window code cls src p0 p1} (h : Kept P s0 s) :
    Kept P s0 (s.raiseLimited key1 window code cls src p0 p1) := by
  unfold State.raiseLimited
  split
  · exact .ite (.flt h) <| .flt <| .raise h
  · exact .flt <| .raise h

theorem Kept.raiseHost {code port p1} (h : Kept P s0 s) : Kept P s0 (s.raiseHost code port p1) :=
  .raiseLimited h

theorem Kept.answer {c status param data} (host : P.host = true) (h : Kept P s0 s) :
    Kept P s0 (s.answer c status param data) :=
  .host host h

theorem Kept.reply {c status param data} (host : P.host = true) (h : Kept P s0 s) :
    Kept P s0 (s.reply c status param data) :=
  .forEach (.host host <| .answer host h) fun _ _ hu => by
    split
    · exact .answer host hu
    · exact hu

theorem Kept.amendReply {port seq status param} (host : P.host = true) (h : Kept P s0 s) :
    Kept P s0 (s.amendReply port seq status param) :=
  .host host h

theorem Kept.startCmd {c} (host : P.host = true) (h : Kept P s0 s) : Kept P s0 (s.startCmd c) :=
  .host host h

theorem Kept.replyTo {port seq status param data} (host : P.host = true) (h : Kept P s0 s) :
    Kept P s0 (s.replyTo port seq status param data) := by
  unfold State.replyTo
  split
  · exact .reply host h
  · exact h

theorem Kept.abortLate {c op} (host : P.host = true) (h : Kept P s0 s) : Kept P s0 (s.abortLate c op) := by
  unfold State.abortLate
  split
  · exact .reply host h
  · exact .ite (.host host h) <| .reply host h

theorem Kept.abortLateTo {r op} (host : P.host = true) (h : Kept P s0 s) : Kept P s0 (s.abortLateTo r op) := by
  unfold State.abortLateTo
  split
  · exact .abortLate host h
  · exact h

theorem Kept.hostSets {port a} {f : State → State} (h : Kept P s0 s) (hf : ∀ u, Kept P s0 u → Kept P s0 (f u)) :
    Kept P s0 (s.hostSets port a f) :=
  .ite (.raiseHost <| .inc h) <| hf _ h

theorem Kept.command {mb code acc service} {body : _ → State → State} (host : P.host = true) (esc : P.esc = true)
    (h : Kept P s0 s) (hbody : ∀ x0 u, Kept P s0 u → Kept P s0 (body x0 u)) :
    Kept P s0 (s.command mb code acc service body) := by
  unfold State.command
  split
  · exact h
  · exact .ite (.within esc (.startCmd host h) fun _ hu => .reply host hu) <|
      .ite (.within esc (.startCmd host h) fun _ hu => .reply host hu) <|
      .within esc (.startCmd host h) fun _ hu => hbody _ _ hu

/-! ### Clock steps and temperatures -/

theorem Kept.updWear {f} (wear : P.wear = true) (h : Kept P s0 s) : Kept P s0 (s.updWear f) :=
  .wear wear h

theorem Kept.wearTemp {k t} (wear : P.wear = true) (h : Kept P s0 s) : Kept P s0 (s.wearTemp k t) :=
  .updWear wear h

theorem Kept.showStep (h : Kept P s0 s) : Kept P s0 s.showStep :=
  .put <| .put <| .put h

theorem Kept.setStep {lane step} (esc : P.esc = true) (wear : P.wear = true) (h : Kept P s0 s) :
    Kept P s0 (s.setStep lane step) :=
  .showStep <| .esc esc <| .updWear wear h

theorem Kept.applyStep {lane} (esc : P.esc = true) (wear : P.wear = true) (h : Kept P s0 s) :
    Kept P s0 (s.applyStep lane) :=
  .updWear wear <| .setStep esc wear h

/-! ### The legal log -/

theorem Kept.legalLog {type subject param} (lgl : P.lgl = true) (h : Kept P s0 s) :
    Kept P s0 (s.legalLog type subject param) :=
  .when (.wrN <| .lgl lgl h) fun _ hu => .raise hu

theorem Kept.tamperAt {kind mono wall} (lgl : P.lgl = true) (h : Kept P s0 s) : Kept P s0 (s.tamperAt kind mono wall) :=
  .legalLog lgl <| .putBit <| .raise <| .wr128 <| .when (.wrN h) fun _ hu => .wr128 hu

theorem Kept.tamperA {kind} (lgl : P.lgl = true) (h : Kept P s0 s) : Kept P s0 (s.tamperA kind) :=
  .tamperAt lgl h

/-! ### Jewels -/

theorem Kept.updKey {f} (key : P.key = true) (h : Kept P s0 s) : Kept P s0 (s.updKey f) :=
  .key key h

theorem Kept.showLoaded (h : Kept P s0 s) : Kept P s0 s.showLoaded :=
  .putSat h

theorem Kept.setJewel {j v} (key : P.key = true) (h : Kept P s0 s) : Kept P s0 (s.setJewel j v) :=
  .showLoaded <| .updKey key h

theorem Kept.jewelUsed {j} (key : P.key = true) (h : Kept P s0 s) : Kept P s0 (s.jewelUsed j) :=
  .updKey key h

/-! ### Outlets and sessions: shared operations -/

theorem Kept.updO {n f} (outs : P.outs = true) (h : Kept P s0 s) : Kept P s0 (s.updO n f) :=
  .outs outs h

theorem Kept.updS {k f} (outs : P.outs = true) (h : Kept P s0 s) : Kept P s0 (s.updS k f) :=
  .outs outs h

theorem Kept.updPilot {n f} (outs : P.outs = true) (h : Kept P s0 s) : Kept P s0 (s.updPilot n f) :=
  .updO outs h

theorem Kept.updLink {n f} (outs : P.outs = true) (h : Kept P s0 s) : Kept P s0 (s.updLink n f) :=
  .updO outs h

theorem Kept.updClose {n f} (outs : P.outs = true) (h : Kept P s0 s) : Kept P s0 (s.updClose n f) :=
  .updO outs h

theorem Kept.updWeld {n f} (outs : P.outs = true) (h : Kept P s0 s) : Kept P s0 (s.updWeld n f) :=
  .updO outs h

theorem Kept.updProt {n f} (outs : P.outs = true) (h : Kept P s0 s) : Kept P s0 (s.updProt n f) :=
  .updO outs h

theorem Kept.cmdPilot {n drive duty} (outs : P.outs = true) (h : Kept P s0 s) : Kept P s0 (s.cmdPilot n drive duty) :=
  .put <| .updPilot outs h

theorem Kept.drive12 {n} (outs : P.outs = true) (h : Kept P s0 s) : Kept P s0 (s.drive12 n) :=
  .cmdPilot outs h

theorem Kept.refreshPilot {n} (outs : P.outs = true) (h : Kept P s0 s) : Kept P s0 (s.refreshPilot n) :=
  .ite h <| .ite (.cmdPilot outs h) <| .cmdPilot outs h

theorem Kept.putAllowed {n ua} (outs : P.outs = true) (h : Kept P s0 s) : Kept P s0 (s.putAllowed n ua) :=
  .put <| .updO outs <| .when h fun _ hu => .updO outs hu

theorem Kept.setModule {n mode v i p} (outs : P.outs = true) (h : Kept P s0 s) : Kept P s0 (s.setModule n mode v i p) :=
  .updO outs h

theorem Kept.moduleOff {n} (outs : P.outs = true) (h : Kept P s0 s) : Kept P s0 (s.moduleOff n) :=
  .ite h <| .setModule outs h

theorem Kept.allocAt {n k} (outs : P.outs = true) (h : Kept P s0 s) : Kept P s0 (s.allocAt n k) := by
  unfold State.allocAt
  exact .updProt outs <| .putAllowed outs <| .updO outs <| .put <| .clr <| .put <| .updS outs <| .wrN <|
      .wrN <| .wrN <| .wrN <| .wr128 <| .wr128 <| .wr128 <| .wr128 <| .wr128 <| .wrN <| .wrN <| .put <| .put <|
      .put <| .wrN <| .outs outs h

theorem Kept.noContext {n} (outs : P.outs = true) (h : Kept P s0 s) : Kept P s0 (s.noContext n) :=
  .raise <| .set1 <| .drive12 outs h

theorem Kept.sesGrowth {k} (h : Kept P s0 s) : Kept P s0 (s.sesGrowth k) :=
  .wr128 <| .wr128 h

theorem Kept.endSession {k} (host : P.host = true) (outs : P.outs = true) (key : P.key = true) (h : Kept P s0 s) :
    Kept P s0 (s.endSession k) :=
  .when (by
      split
      · exact .updS outs <| .replyTo host <| .refreshPilot outs <| .clr <| .updProt outs <| .updO outs <|
            .put <| .put <| .set1 <| .put <| .put <| .wr128 <| .updS outs <| .jewelUsed key <| .put <| .when
            (.updS outs <| .sesGrowth h) fun _ hu => .updS outs hu
      · exact .refreshPilot outs <| .clr <| .updProt outs <| .updO outs <| .put <| .put <| .set1 <| .put <|
            .put <| .wr128 <| .updS outs <| .jewelUsed key <| .put <| .when (.updS outs <| .sesGrowth h)
            fun _ hu => .updS outs hu) fun _ hu => .raise hu

theorem Kept.requestOpen {n} (outs : P.outs = true) (h : Kept P s0 s) : Kept P s0 (s.requestOpen n) :=
  .when h fun _ hu => .updProt outs hu

theorem Kept.sendSeg {n kind ongoing} (outs : P.outs = true) (h : Kept P s0 s) : Kept P s0 (s.sendSeg n kind ongoing) :=
  .updLink outs h

theorem Kept.dropClose {n} (outs : P.outs = true) (lch : P.lch = true) (h : Kept P s0 s) : Kept P s0 (s.dropClose n) :=
  .ite h <| .when (.updClose outs <| .lch lch h) fun _ hu => .put hu

theorem Kept.stopSession {k reason code now_} (outs : P.outs = true) (lch : P.lch = true) (h : Kept P s0 s) :
    Kept P s0 (s.stopSession k reason code now_) :=
  .ite
    (.when
       (.when
          (.when (.when (.dropClose outs lch <| .updS outs <| .put <| .put h) fun _ hu => .drive12 outs hu)
             fun _ hu => .updLink outs hu) fun _ hu => .moduleOff outs hu) fun _ hu => .requestOpen outs hu) <|
  .ite
    (.ite (.when (.when (.when h fun _ hu => .updS outs hu) fun _ hu => .put hu) fun _ hu => .updS outs hu) <|
     .ite
       (.moduleOff outs <| .updS outs <| .when (.when (.when h fun _ hu => .updS outs hu) fun _ hu => .put hu)
          fun _ hu => .updS outs hu) <|
     .requestOpen outs <| .when (.when (.when h fun _ hu => .updS outs hu) fun _ hu => .put hu)
       fun _ hu => .updS outs hu) h

theorem Kept.stopOutlet {n reason code} (outs : P.outs = true) (lch : P.lch = true) (h : Kept P s0 s) :
    Kept P s0 (s.stopOutlet n reason code) := by
  unfold State.stopOutlet
  split
  · exact .stopSession outs lch h
  · exact .requestOpen outs <| .dropClose outs lch h

theorem Kept.raiseOutlet {code n p1} (outs : P.outs = true) (lch : P.lch = true) (h : Kept P s0 s) :
    Kept P s0 (s.raiseOutlet code n p1) :=
  .stopOutlet outs lch <| .raise h

theorem Kept.refuseSession {k reason} (host : P.host = true) (outs : P.outs = true) (key : P.key = true)
    (h : Kept P s0 s) : Kept P s0 (s.refuseSession k reason) :=
  .endSession host outs key <| .drive12 outs <| .put <| .when h fun _ hu => .sendSeg outs hu

/-! ### Load channels -/

theorem Kept.updLc {k f} (lch : P.lch = true) (h : Kept P s0 s) : Kept P s0 (s.updLc k f) :=
  .lch lch h

theorem Kept.updRun {j f} (lch : P.lch = true) (h : Kept P s0 s) : Kept P s0 (s.updRun j f) :=
  .lch lch h

theorem Kept.lcTurnOn {k} (lch : P.lch = true) (h : Kept P s0 s) : Kept P s0 (s.lcTurnOn k) :=
  .ite (.putBit <| .put h) <| .updLc lch <| .putBit <| .putBit <| .put h

theorem Kept.lcTurnOff {k st} (h : Kept P s0 s) : Kept P s0 (s.lcTurnOff k st) :=
  .clr <| .putBit <| .put h

theorem Kept.driveHalf {k high} (h : Kept P s0 s) : Kept P s0 (s.driveHalf k high) :=
  .putBit <| .putB <| .put h

theorem Kept.pairMode {j mode} (h : Kept P s0 s) : Kept P s0 (s.pairMode j mode) :=
  .driveHalf <| .driveHalf <| .put h

theorem Kept.endRun {j result} (lch : P.lch = true) (h : Kept P s0 s) : Kept P s0 (s.endRun j result) :=
  .updRun lch <| .putSat <| .put <| .pairMode h

theorem Kept.coast {j} (host : P.host = true) (lch : P.lch = true) (h : Kept P s0 s) : Kept P s0 (s.coast j) :=
  .forEach (.updRun lch <| .set1 <| .pairMode h) fun _ _ hu => .replyTo host hu

theorem Kept.cutRun {j} (host : P.host = true) (lch : P.lch = true) (h : Kept P s0 s) : Kept P s0 (s.cutRun j) :=
  .coast host lch <| .put <| .ite (.endRun lch h) h

theorem Kept.lcEvent {k} (host : P.host = true) (lch : P.lch = true) (h : Kept P s0 s) : Kept P s0 (s.lcEvent k) :=
  .ite (.ite (.raise <| .cutRun host lch <| .set1 <| .inc h) <| .set1 <| .inc h) <|
  .ite (.raise <| .set1 <| .putBit <| .lcTurnOff <| .set1 <| .inc h) <| .updLc lch <| .lcTurnOff <| .set1 <| .inc h

theorem Kept.clampSum {k} (lch : P.lch = true) (h : Kept P s0 s) : Kept P s0 (s.clampSum k) :=
  .putSat <| .updLc lch h

theorem Kept.showIsns (lch : P.lch = true) (h : Kept P s0 s) : Kept P s0 s.showIsns :=
  .lch lch h

theorem Kept.isnsSelect (lch : P.lch = true) (h : Kept P s0 s) : Kept P s0 s.isnsSelect :=
  .showIsns lch <| .lch lch h

theorem Kept.unclear {k} (host : P.host = true) (h : Kept P s0 s) : Kept P s0 (s.unclear k) := by
  unfold State.unclear
  split
  · exact .ite (.amendReply host h) h
  · exact h

/-! ### Outputs of the two paths -/

theorem Kept.updFn {k f} (saf : P.saf = true) (h : Kept P s0 s) : Kept P s0 (s.updFn k f) :=
  .saf saf h

theorem Kept.showOutputs (h : Kept P s0 s) : Kept P s0 s.showOutputs :=
  .put h

theorem Kept.setElem {path p on} (saf : P.saf = true) (h : Kept P s0 s) : Kept P s0 (s.setElem path p on) :=
  .showOutputs <| .saf saf h

theorem Kept.dropL {p} (saf : P.saf = true) (h : Kept P s0 s) : Kept P s0 (s.dropL p) :=
  .ite (.saf saf h) <| .setElem saf h

theorem Kept.openElem {path p} (saf : P.saf = true) (h : Kept P s0 s) : Kept P s0 (s.openElem path p) :=
  .ite (.ite (.saf saf h) <| .saf saf h) <| .ite (.dropL saf h) <| .setElem saf h

theorem Kept.fnBoth {k st} (h : Kept P s0 s) : Kept P s0 (s.fnBoth k st) :=
  .put <| .put h

theorem Kept.fnStatus (h : Kept P s0 s) : Kept P s0 s.fnStatus :=
  .forUpTo h fun _ _ hu => .putBit <| .putBit hu

theorem Kept.forceDrive {n drive} (outs : P.outs = true) (h : Kept P s0 s) : Kept P s0 (s.forceDrive n drive) :=
  .put <| .updPilot outs <| .cmdPilot outs h

/-! ### Lane states, swaps and firmware activation -/

theorem Kept.laneDomains {lane st} (h : Kept P s0 s) : Kept P s0 (s.laneDomains lane st) :=
  .putBit <| .putBit <| .putBit h

theorem Kept.setLaneState {lane v} (h : Kept P s0 s) : Kept P s0 (s.setLaneState lane v) :=
  .laneDomains <| .ite (.put h) <| .put h

theorem Kept.updRed {f} (red : P.red = true) (h : Kept P s0 s) : Kept P s0 (s.updRed f) :=
  .red red h

theorem Kept.showSwap (h : Kept P s0 s) : Kept P s0 s.showSwap :=
  .putB h

theorem Kept.resign {lane code} (red : P.red = true) (h : Kept P s0 s) : Kept P s0 (s.resign lane code) :=
  .ite (.setLaneState h) <| .updRed red h

theorem Kept.updUpd {f} (fwu : P.fwu = true) (h : Kept P s0 s) : Kept P s0 (s.updUpd f) :=
  .fwu fwu h

theorem Kept.actAbandon (host : P.host = true) (fwu : P.fwu = true) (h : Kept P s0 s) : Kept P s0 s.actAbandon := by
  unfold State.actAbandon
  split
  · exact .replyTo host <| .put <| .updUpd fwu h
  · exact h

theorem Kept.actStage {n} {f : State → State} (host : P.host = true) (fwu : P.fwu = true)
    (h : Kept P s0 s) (hf : ∀ u, Kept P s0 u → Kept P s0 (f u)) : Kept P s0 (s.actStage n f) :=
  .ite (.actAbandon host fwu h) <| hf _ <| .updUpd fwu h

/-! ### Lanes -/

theorem Kept.wantSwap (red : P.red = true) (h : Kept P s0 s) : Kept P s0 s.wantSwap :=
  .showSwap <| .updRed red h

/-! ### The Escapement -/

theorem Kept.updEsc {f} (esc : P.esc = true) (h : Kept P s0 s) : Kept P s0 (s.updEsc f) :=
  .esc esc h

theorem Kept.setLates {lane l} (esc : P.esc = true) (h : Kept P s0 s) : Kept P s0 (s.setLates lane l) :=
  .updEsc esc h

theorem Kept.laneFails {lane code} (red : P.red = true) (h : Kept P s0 s) : Kept P s0 (s.laneFails lane code) :=
  .ite (.resign red h) h

theorem Kept.lateBeat {lane counted} (esc : P.esc = true) (red : P.red = true) (h : Kept P s0 s) :
    Kept P s0 (s.lateBeat lane counted) :=
  .ite h <|
  .ite
    (.ite
       (.laneFails red <| .raise <| .setLates esc <|
          .ite h <| .updEsc esc <| .raise <| .ite (.set1 <| .inc <| .set1 h) <| .wrN <| .set1 h) <|
     .setLates esc <| .ite h <| .updEsc esc <| .raise <| .ite (.set1 <| .inc <| .set1 h) <| .wrN <| .set1 h) <|
  .ite h <| .updEsc esc <| .raise <| .ite (.set1 <| .inc <| .set1 h) <| .wrN <| .set1 h

theorem Kept.setQueue {lane q} (esc : P.esc = true) (h : Kept P s0 s) : Kept P s0 (s.setQueue lane q) :=
  .when (.updEsc esc h) fun _ hu => .putSat hu

theorem Kept.setSlices {lane q} (esc : P.esc = true) (h : Kept P s0 s) : Kept P s0 (s.setSlices lane q) :=
  .updEsc esc h

theorem Kept.postComp {lane c} (esc : P.esc = true) (h : Kept P s0 s) : Kept P s0 (s.postComp lane c) :=
  .ite (.raiseLimited <| .when h fun _ hu => .set1 <| .inc hu) <| .setQueue esc h

theorem Kept.updSupply (h : Kept P s0 s) : Kept P s0 s.updSupply :=
  .ite h <| .put <| .set1 <| .put <| .put h

theorem Kept.judgeCeil (h : Kept P s0 s) : Kept P s0 s.judgeCeil :=
  .ite (.when (.put <| .putSat h) fun _ hu => .clr hu) <|
  .ite (.raise <| .set1 <| .set1 <| .put <| .putSat h) <| .put <| .putSat h

theorem Kept.sampleLane {lane temp} (esc : P.esc = true) (wear : P.wear = true) (h : Kept P s0 s) :
    Kept P s0 (s.sampleLane lane temp) :=
  .ite h <|
  .ite
    (.when (.puti <| .when (.when (.updEsc esc <| .wearTemp wear h) fun _ hu => .raise hu) fun _ hu => .raise hu)
       fun _ hu => .set1 <| .put hu) <|
  .when (.when (.updEsc esc <| .wearTemp wear h) fun _ hu => .raise hu) fun _ hu => .raise hu

end

end Sys2Proof.Machine
end

section
/-! PROOF. What the operations of sensing, metering, the legal chain, the bezel, contactless and the Mainplate keep (`Kept`). -/
namespace Sys2Proof.Machine

section
variable {P : Parts} {s0 s : State}

/-! ### Sensing -/

theorem Kept.updSns {f} (sns : P.sns = true) (h : Kept P s0 s) : Kept P s0 (s.updSns f) :=
  .sns sns h

theorem Kept.setRole {k r} (h : Kept P s0 s) : Kept P s0 (s.setRole k r) :=
  .put h

theorem Kept.showSpares (h : Kept P s0 s) : Kept P s0 s.showSpares :=
  .ite (.raise <| .set1 <| .put <| .put h) <| .ite (.clr <| .put <| .put h) <| .put <| .put h

theorem Kept.retire {k} (h : Kept P s0 s) : Kept P s0 (s.retire k) :=
  .showSpares <| .setRole h

theorem Kept.connect {w} (h : Kept P s0 s) : Kept P s0 (s.connect w) :=
  .showSpares <| .set1 <| .putB <| .put <| .put <| .setRole h

theorem Kept.disconnect {w} (h : Kept P s0 s) : Kept P s0 (s.disconnect w) :=
  .showSpares <| .clr <| .setRole h

theorem Kept.showSwing (h : Kept P s0 s) : Kept P s0 s.showSwing := by
  unfold State.showSwing
  dsimp only
  split
  · exact .wrN h
  · exact .put <| .put <| .put <| .put <| .set1 h

theorem Kept.startSwing {n high spare wait routine} (sns : P.sns = true) (h : Kept P s0 s) :
    Kept P s0 (s.startSwing n high spare wait routine) :=
  .showSwing <| .connect <| .updSns sns h

theorem Kept.emergencySwing {n high spare old cmd} (sns : P.sns = true) (h : Kept P s0 s) :
    Kept P s0 (s.emergencySwing n high spare old cmd) :=
  .showSwing <| .connect <| .updSns sns h

theorem Kept.ksStart {n cmd} (sns : P.sns = true) (h : Kept P s0 s) : Kept P s0 (s.ksStart n cmd) :=
  .updSns sns h

/-! ### Metering -/

theorem Kept.updMtr {f} (mtr : P.mtr = true) (h : Kept P s0 s) : Kept P s0 (s.updMtr f) :=
  .mtr mtr h

theorem Kept.updChn {n f} (mtr : P.mtr = true) (h : Kept P s0 s) : Kept P s0 (s.updChn n f) :=
  .updMtr mtr h

theorem Kept.updMet {m f} (mtr : P.mtr = true) (h : Kept P s0 s) : Kept P s0 (s.updMet m f) :=
  .updMtr mtr h

theorem Kept.updPulse {k f} (mtr : P.mtr = true) (h : Kept P s0 s) : Kept P s0 (s.updPulse k f) :=
  .updMtr mtr h

theorem Kept.renewSegment {n} (mtr : P.mtr = true) (h : Kept P s0 s) : Kept P s0 (s.renewSegment n) :=
  .updChn mtr <| .put <| .put h

theorem Kept.applyBand {n} (h : Kept P s0 s) : Kept P s0 (s.applyBand n) :=
  .ite h <| .set1 <| .clr <| .put h

theorem Kept.judgeClassB {m} (mtr : P.mtr = true) (h : Kept P s0 s) : Kept P s0 (s.judgeClassB m) :=
  .updMet mtr h

theorem Kept.endCycle {m len freq} (mtr : P.mtr = true) (h : Kept P s0 s) : Kept P s0 (s.endCycle m len freq) :=
  .forEach
    (.updMet mtr <| .putB <| .put <| .put <| .puti <| .puti <| .puti <| .puti <| .forUpTo
       (.forUpTo (.putSat <| .putSat <| .judgeClassB mtr h) fun _ _ hu => .puti hu) fun _ _ hu => .puti hu)
    fun _ _ hu => .when hu fun _ hu1 => .renewSegment mtr <| .applyBand <| .updChn mtr hu1

theorem Kept.beginCycles {m} (lgl : P.lgl = true) (mtr : P.mtr = true) (h : Kept P s0 s) :
    Kept P s0 (s.beginCycles m) :=
  .ite
    (.legalLog lgl <| .clr <| .forEach (.updMet mtr h)
       fun _ _ hu => .when hu fun _ hu1 => .renewSegment mtr <| .applyBand <| .updChn mtr hu1) <|
  .forEach (.updMet mtr h) fun _ _ hu => .when hu fun _ hu1 => .renewSegment mtr <| .applyBand <| .updChn mtr hu1

theorem Kept.readInterval {port m q} (host : P.host = true) (mtr : P.mtr = true) (h : Kept P s0 s) :
    Kept P s0 (s.readInterval port m q) := by
  unfold State.readInterval
  exact .updMtr mtr <| .host host h

theorem Kept.fullSave {ok} (mtr : P.mtr = true) (h : Kept P s0 s) : Kept P s0 (s.fullSave ok) :=
  .when (.put <| .updMtr mtr h) fun _ hu => .raise <| .set1 hu

theorem Kept.deltaSave {good} (mtr : P.mtr = true) (h : Kept P s0 s) : Kept P s0 (s.deltaSave good) :=
  .put <| .updMtr mtr h

/-! ### The legal chain -/

theorem Kept.updLgl {f} (lgl : P.lgl = true) (h : Kept P s0 s) : Kept P s0 (s.updLgl f) :=
  .lgl lgl h

theorem Kept.showLocal (h : Kept P s0 s) : Kept P s0 s.showLocal :=
  .putB <| .puti h

theorem Kept.showActive (h : Kept P s0 s) : Kept P s0 s.showActive :=
  .showLocal <| .forUpTo h fun _ _ hu => .wrN hu

theorem Kept.demandValue {i energy nominal mono boundary bad} (lgl : P.lgl = true) (h : Kept P s0 s) :
    Kept P s0 (s.demandValue i energy nominal mono boundary bad) :=
  .ite (.updLgl lgl <| .updLgl lgl h) <| .updLgl lgl h

theorem Kept.closeDemand {boundary bad} (lgl : P.lgl = true) (h : Kept P s0 s) :
    Kept P s0 (s.closeDemand boundary bad) := by
  unfold State.closeDemand
  exact .updLgl lgl <|
      .ite (.forEach h fun _ _ hu => .demandValue lgl hu) <|
      .ite (.updLgl lgl h) <| .forEach (.updLgl lgl h) fun _ _ hu => .demandValue lgl hu

theorem Kept.closeBilling {boundary flags} (lgl : P.lgl = true) (h : Kept P s0 s) :
    Kept P s0 (s.closeBilling boundary flags) :=
  .legalLog lgl <| .put <| .put <| .updLgl lgl h

theorem Kept.switchTariff {k} (lgl : P.lgl = true) (h : Kept P s0 s) : Kept P s0 (s.switchTariff k) := by
  unfold State.switchTariff
  split
  · exact .ite (.showActive <| .updLgl lgl h) h
  · exact .ite (.showActive <| .updLgl lgl h) h

theorem Kept.settleSlew {frac} (lgl : P.lgl = true) (h : Kept P s0 s) : Kept P s0 (s.settleSlew frac) := by
  unfold State.settleSlew
  exact .updLgl lgl h

theorem Kept.demandFirst (lgl : P.lgl = true) (h : Kept P s0 s) : Kept P s0 s.demandFirst :=
  .when h fun _ hu => .closeDemand lgl hu

theorem Kept.billingFirst (lgl : P.lgl = true) (h : Kept P s0 s) : Kept P s0 s.billingFirst :=
  .when (.demandFirst lgl h) fun _ hu => .closeBilling lgl hu

theorem Kept.tamperOpen {kind} (lgl : P.lgl = true) (h : Kept P s0 s) : Kept P s0 (s.tamperOpen kind) :=
  .ite h <| .ite (.updLgl lgl <| .updLgl lgl h) <| .tamperA lgl <| .updLgl lgl h

theorem Kept.legalWrite (lgl : P.lgl = true) (h : Kept P s0 s) : Kept P s0 s.legalWrite :=
  .ite h <| .tamperA lgl <| .updLgl lgl h

theorem Kept.showTb (h : Kept P s0 s) : Kept P s0 s.showTb :=
  .wrN h

/-! ### Tokens -/

theorem Kept.updAcct {a f} (lgl : P.lgl = true) (h : Kept P s0 s) : Kept P s0 (s.updAcct a f) :=
  .updLgl lgl h

theorem Kept.showAcct {a} (lgl : P.lgl = true) (h : Kept P s0 s) : Kept P s0 (s.showAcct a) :=
  .when (.when (.put <| .put <| .put <| .wr128 h) fun _ hu => .legalLog lgl hu) fun _ hu => .raise <| .legalLog lgl hu

theorem Kept.showFor {v sec} (lgl : P.lgl = true) (h : Kept P s0 s) : Kept P s0 (s.showFor v sec) :=
  .put <| .updLgl lgl h

theorem Kept.tokOutcome {a cls sub r keypad} (lgl : P.lgl = true) (h : Kept P s0 s) :
    Kept P s0 (s.tokOutcome a cls sub r keypad) :=
  .showFor lgl <|
    .ite (.inc <| .put <| .when (.put <| .put h) fun _ hu => .put <| .put hu) <|
    .inc <| .put <| .when (.put <| .put h) fun _ hu => .put <| .put hu

theorem Kept.refuseToken {a cls sub r keypad} (lgl : P.lgl = true) (h : Kept P s0 s) :
    Kept P s0 (s.refuseToken a cls sub r keypad) :=
  .raiseLimited <| .legalLog lgl <| .tokOutcome lgl h

theorem Kept.writeAcct {a r} (lgl : P.lgl = true) (h : Kept P s0 s) : Kept P s0 (s.writeAcct a r) :=
  .updAcct lgl h

theorem Kept.applyToken {w} (lgl : P.lgl = true) (h : Kept P s0 s) : Kept P s0 (s.applyToken w) :=
  .when
    (.tokOutcome lgl <| .legalLog lgl <| .showAcct lgl <| .writeAcct lgl <| .when
       (.when (.updAcct lgl h) fun _ hu => .wrN hu) fun _ hu => .wrN hu) fun _ hu => .updLgl lgl hu

theorem Kept.setKeys {ks} (lgl : P.lgl = true) (h : Kept P s0 s) : Kept P s0 (s.setKeys ks) :=
  .put <| .put <| .updLgl lgl h

/-! ### The bezel -/

theorem Kept.updBzl {f} (bzl : P.bzl = true) (h : Kept P s0 s) : Kept P s0 (s.updBzl f) :=
  .bzl bzl h

theorem Kept.showPending (h : Kept P s0 s) : Kept P s0 s.showPending :=
  .put h

theorem Kept.watchRails {rails} (bzl : P.bzl = true) (h : Kept P s0 s) : Kept P s0 (s.watchRails rails) :=
  .ite (.updBzl bzl h) h

theorem Kept.addStress {w} (bzl : P.bzl = true) (h : Kept P s0 s) : Kept P s0 (s.addStress w) := by
  unfold State.addStress
  exact .updBzl bzl h

theorem Kept.judgeCharge {k q} (bzl : P.bzl = true) (h : Kept P s0 s) : Kept P s0 (s.judgeCharge k q) :=
  .ite (.updBzl bzl h) <| .ite (.updBzl bzl <| .set1 <| .putSat h) h

theorem Kept.bezelAnswers (host : P.host = true) (bzl : P.bzl = true) (h : Kept P s0 s) : Kept P s0 s.bezelAnswers :=
  .ite (.ite h <| .updBzl bzl <| .forEach h fun _ _ hu => .replyTo host hu) <|
  .updBzl bzl <| .forEach (.ite h <| .updBzl bzl <| .forEach h fun _ _ hu => .replyTo host hu)
    fun _ _ hu => .replyTo host hu

theorem Kept.lineDone {w} (host : P.host = true) (bzl : P.bzl = true) (h : Kept P s0 s) : Kept P s0 (s.lineDone w) :=
  .bezelAnswers host bzl <| .when (.showPending <| .when (.putBit <| .inc <| .clr <| .updBzl bzl h) fun _ hu => .clr hu)
    fun _ hu => .set1 hu

/-! ### The card reader and the crown tag -/

theorem Kept.updNfc {f} (nfc : P.nfc = true) (h : Kept P s0 s) : Kept P s0 (s.updNfc f) :=
  .nfc nfc h

theorem Kept.cardGone (nfc : P.nfc = true) (h : Kept P s0 s) : Kept P s0 s.cardGone := by
  unfold State.cardGone
  exact .updNfc nfc <| .put <| .wr128 <| .wrN h

theorem Kept.exchangeError (host : P.host = true) (nfc : P.nfc = true) (h : Kept P s0 s) : Kept P s0 s.exchangeError := by
  unfold State.exchangeError
  split
  · exact .raiseLimited <|
        .ite (.put <| .set1 <| .inc <| .updNfc nfc <| .replyTo host h) <|
        .set1 <| .inc <| .updNfc nfc <| .replyTo host h
  · exact h

theorem Kept.setCell {k c} (nfc : P.nfc = true) (h : Kept P s0 s) : Kept P s0 (s.setCell k c) :=
  .updNfc nfc h

theorem Kept.setTagVal {k v} (nfc : P.nfc = true) (h : Kept P s0 s) : Kept P s0 (s.setTagVal k v) :=
  .setCell nfc h

theorem Kept.showCounter {k} (h : Kept P s0 s) : Kept P s0 (s.showCounter k) :=
  .put h

theorem Kept.countTag {k} (nfc : P.nfc = true) (h : Kept P s0 s) : Kept P s0 (s.countTag k) := by
  unfold State.countTag
  split
  · exact h
  · exact .ite (.raise h) <| .showCounter <| .setTagVal nfc h

theorem Kept.startWrite {k v f} (nfc : P.nfc = true) (h : Kept P s0 s) : Kept P s0 (s.startWrite k v f) :=
  .set1 <| .updNfc nfc h

theorem Kept.tagOwn (nfc : P.nfc = true) (h : Kept P s0 s) : Kept P s0 s.tagOwn := by
  unfold State.tagOwn
  split
  · exact .ite h <| .startWrite nfc <| .put <| .updNfc nfc h
  · exact h

theorem Kept.ownWrites {l} (nfc : P.nfc = true) (h : Kept P s0 s) : Kept P s0 (s.ownWrites l) :=
  .tagOwn nfc <| .updNfc nfc h

theorem Kept.tagCollapse (freeCtr : P.freeCtr = true) (nfc : P.nfc = true) (h : Kept P s0 s) :
    Kept P s0 s.tagCollapse := by
  unfold State.tagCollapse
  split
  next w _ =>
    have hd : Kept P s0 (if s.noBeats then (s.draw.1 % 348, s.draw.2) else (s.now - w.start, s)).2 := by
      split
      · exact .draw freeCtr h
      · exact h
    exact .when (.clr (.updNfc nfc (.setCell nfc hd))) fun _ hu => .inc hu
  next => exact h

theorem Kept.tagAnswer {a bytes n f} (nfc : P.nfc = true) (h : Kept P s0 s) : Kept P s0 (s.tagAnswer a bytes n f) :=
  .updNfc nfc h

theorem Kept.keyWritten {key1 ok} (nfc : P.nfc = true) (h : Kept P s0 s) : Kept P s0 (s.keyWritten key1 ok) :=
  .ite h <| .ite (.updNfc nfc h) <| .raise <| .updNfc nfc h

theorem Kept.tagAbortsLate {op} (host : P.host = true) (nfc : P.nfc = true) (h : Kept P s0 s) :
    Kept P s0 (s.tagAbortsLate op) :=
  .forEach (.updNfc nfc h) fun _ _ hu => .abortLateTo host hu

theorem Kept.endTxn (nfc : P.nfc = true) (h : Kept P s0 s) : Kept P s0 s.endTxn :=
  .ite (.tagOwn nfc <| .set1 <| .clr h) h

theorem Kept.tagSays {bytes last} (nfc : P.nfc = true) (h : Kept P s0 s) : Kept P s0 (s.tagSays bytes last) :=
  .updNfc nfc h

theorem Kept.tagBack (nfc : P.nfc = true) (h : Kept P s0 s) : Kept P s0 s.tagBack :=
  .ite (.updNfc nfc <| .put h) h

theorem AllNext.crown {f n} {body : State → State} (nfc : P.nfc = true)
    (h : Kept P s0 s) (hbody : ∀ u, Kept P s0 u → Kept P s0 (body u)) : AllNext (Kept P s0) (s.crown f n body) :=
  .ite (.next <| .tagBack nfc h) <|
  .ite (.next <| .updNfc nfc h) <|
  .ite (.next <| .tagAnswer nfc <| .updNfc nfc <| .set1 h) <|
  .next <| hbody _ <| .tagAnswer nfc <| .updNfc nfc <| .set1 h

theorem Kept.nak {a} (nfc : P.nfc = true) (h : Kept P s0 s) : Kept P s0 (s.nak a) :=
  .updNfc nfc h

theorem Kept.answerBytes {l} (nfc : P.nfc = true) (h : Kept P s0 s) : Kept P s0 (s.answerBytes l) :=
  .updNfc nfc h

theorem Kept.tagFail (nfc : P.nfc = true) (h : Kept P s0 s) : Kept P s0 s.tagFail :=
  .nak nfc <| .updNfc nfc <| .countTag nfc h

theorem Kept.judgeC1 (nfc : P.nfc = true) (h : Kept P s0 s) : Kept P s0 s.judgeC1 :=
  .ite (.raise <| .set1 <| .incBy <| .updNfc nfc <| .showCounter h) <| .updNfc nfc <| .showCounter h

theorem Kept.scrubCell {k} (nfc : P.nfc = true) (h : Kept P s0 s) : Kept P s0 (s.scrubCell k) := by
  unfold State.scrubCell
  dsimp only
  split
  · exact .raise h
  · exact .ite h <| .raise <| .set1 <| .inc <| .setCell nfc h

theorem Kept.setHostLock {v} (nfc : P.nfc = true) (h : Kept P s0 s) : Kept P s0 (s.setHostLock v) :=
  .ownWrites nfc <| .putB h

/-! ### The Mainplate -/

theorem Kept.updMp {f} (mp : P.mp = true) (h : Kept P s0 s) : Kept P s0 (s.updMp f) :=
  .mp mp h

theorem Kept.raiseMp {code cls p0 p1} (h : Kept P s0 s) : Kept P s0 (s.raiseMp code cls p0 p1) :=
  .raiseLimited h

theorem Kept.accessFault {m a} (h : Kept P s0 s) : Kept P s0 (s.accessFault m a) :=
  .raiseMp <| .set1 h

theorem Kept.laneAccess {m a n write} (lgl : P.lgl = true) (h : Kept P s0 s) : Kept P s0 (s.laneAccess m a n write) :=
  .ite (.when (.accessFault h) fun _ hu => .legalWrite lgl hu) <| .ite (.raiseHost h) h

theorem Kept.showPoison (h : Kept P s0 s) : Kept P s0 s.showPoison :=
  .forUpTo h fun _ _ hu => .putSat hu

theorem Kept.spareTrigger {b} (mp : P.mp = true) (h : Kept P s0 s) : Kept P s0 (s.spareTrigger b) :=
  .ite h <| .ite (.put <| .put <| .updMp mp h) <| .raiseMp <| .set1 h

theorem Kept.eccLast {finder a double} (h : Kept P s0 s) : Kept P s0 (s.eccLast finder a double) :=
  .put <| .put <| .putB <| .wrN h

theorem Kept.eccSingle {finder a} (mp : P.mp = true) (h : Kept P s0 s) : Kept P s0 (s.eccSingle finder a) :=
  .when (.raiseLimited <| .putSat <| .updMp mp <| .set1 <| .eccLast h) fun _ hu => .spareTrigger mp hu

theorem Kept.poisonWord {finder a} (mp : P.mp = true) (h : Kept P s0 s) : Kept P s0 (s.poisonWord finder a) :=
  .ite (.set1 <| .eccLast h) <| .spareTrigger mp <| .showPoison <| .updMp mp <| .set1 <| .eccLast h

theorem Kept.releaseBank {b} (mp : P.mp = true) (h : Kept P s0 s) : Kept P s0 (s.releaseBank b) :=
  .putBit <| .putBit <| .updMp mp h

theorem Kept.spareSwitch (mp : P.mp = true) (h : Kept P s0 s) : Kept P s0 s.spareSwitch := by
  unfold State.spareSwitch
  split
  · exact .raiseMp <| .showPoison <| .set1 <| .put <| .put <| .putBit <| .put <| .updMp mp <| .releaseBank mp h
  · exact h

theorem Kept.showBanks {t} (mp : P.mp = true) (h : Kept P s0 s) : Kept P s0 (s.showBanks t) := by
  unfold State.showBanks
  dsimp only
  split
  · exact .ite (.spareSwitch mp <| .put <| .put h) <| .put <| .put h
  · exact .put <| .put h

theorem Kept.updDma {n f} (mp : P.mp = true) (h : Kept P s0 s) : Kept P s0 (s.updDma n f) :=
  .updMp mp h

theorem Kept.dmaSet {n st} (h : Kept P s0 s) : Kept P s0 (s.dmaSet n st) :=
  .putBit <| .putBit <| .put h

theorem Kept.dropReqs {n} (mp : P.mp = true) (h : Kept P s0 s) : Kept P s0 (s.dropReqs n) :=
  .updMp mp h

theorem Kept.dmaError {n err} (mp : P.mp = true) (h : Kept P s0 s) : Kept P s0 (s.dmaError n err) :=
  .raiseMp <| .putBit <| .put <| .dmaSet <| .dropReqs mp h

theorem Kept.stopIfCut {n} (mp : P.mp = true) (h : Kept P s0 s) : Kept P s0 (s.stopIfCut n) :=
  .ite (.dmaError mp h) h

theorem Kept.dmaStart {n} (mp : P.mp = true) (h : Kept P s0 s) : Kept P s0 (s.dmaStart n) :=
  .ite (.stopIfCut mp <| .dmaSet <| .updDma mp <| .wrN <| .wrN <| .put <| .wrN <| .wrN h) <| .dmaError mp h

theorem Kept.stopReads {n} (mp : P.mp = true) (h : Kept P s0 s) : Kept P s0 (s.stopReads n) :=
  .updDma mp <| .wrN <| .updMp mp h

theorem Kept.dmaDrained {n} (h : Kept P s0 s) : Kept P s0 (s.dmaDrained n) :=
  .ite (.dmaSet h) <| .ite (.putBit <| .dmaSet h) <| .dmaSet h

theorem Kept.dmaPause {n} (mp : P.mp = true) (h : Kept P s0 s) : Kept P s0 (s.dmaPause n) :=
  .ite (.ite (.dmaDrained <| .stopReads mp <| .dmaSet <| .put h) <| .stopReads mp <| .dmaSet <| .put h) <| .put h

theorem Kept.dmaAbort {n} (mp : P.mp = true) (h : Kept P s0 s) : Kept P s0 (s.dmaAbort n) :=
  .ite (.set1 h) <| .ite (.updDma mp h) h

theorem Kept.dmaResume {n} (mp : P.mp = true) (h : Kept P s0 s) : Kept P s0 (s.dmaResume n) :=
  .ite (.stopIfCut mp <| .updDma mp <| .dmaSet <| .put h) <| .put h

theorem Kept.dmaCut (mp : P.mp = true) (h : Kept P s0 s) : Kept P s0 s.dmaCut :=
  .forUpTo h fun _ _ hu => .when hu fun _ hu1 => .dmaError mp hu1

theorem Kept.clearCutoff {w} (h : Kept P s0 s) : Kept P s0 (s.clearCutoff w) :=
  .put h

theorem Kept.writeHack {banks on} (h : Kept P s0 s) : Kept P s0 (s.writeHack banks on) :=
  .put <| .put <| .putB <| .put h

theorem Kept.dmaSets {port n} {f : State → State} (h : Kept P s0 s) (hf : ∀ u, Kept P s0 u → Kept P s0 (f u)) :
    Kept P s0 (s.dmaSets port n f) :=
  .ite (hf _ h) <| .hostSets h fun _ hu => hf _ hu

theorem Kept.dmaBegin {n desc} (mp : P.mp = true) (h : Kept P s0 s) : Kept P s0 (s.dmaBegin n desc) := by
  unfold State.dmaBegin
  split
  · exact .dmaStart mp h
  · exact .dmaStart mp <| .ite h <| .put <| .wrN <| .wrN <| .put <| .wrN <| .wrN h

end

end Sys2Proof.Machine
end

section
/-! PROOF. What the operations of outlets, protection, placement, the site line, updates, power and the host ports keep (`Kept`). -/
namespace Sys2Proof.Machine

section
variable {P : Parts} {s0 s : State}

/-! ### Outlets -/

theorem Kept.setAllowed {n} (outs : P.outs = true) (h : Kept P s0 s) : Kept P s0 (s.setAllowed n) :=
  .refreshPilot outs <| .putAllowed outs <| by
    split
    · exact .when h fun _ hu => .updS outs hu
    · exact h

theorem Kept.enterAuth {k} (outs : P.outs = true) (h : Kept P s0 s) : Kept P s0 (s.enterAuth k) :=
  .updS outs <| .set1 <| .put h

theorem Kept.acceptSession {k mode} (outs : P.outs = true) (h : Kept P s0 s) : Kept P s0 (s.acceptSession k mode) :=
  .refreshPilot outs <| .updS outs <| .put <| .put h

theorem Kept.useAccount {k a} (h : Kept P s0 s) : Kept P s0 (s.useAccount k a) :=
  .set1 <| .put h

theorem Kept.acceptToken {k a} (outs : P.outs = true) (h : Kept P s0 s) : Kept P s0 (s.acceptToken k a) :=
  .acceptSession outs <| .wrN <| .updS outs <| .useAccount h

theorem Kept.selfAccept {k} (outs : P.outs = true) (h : Kept P s0 s) : Kept P s0 (s.selfAccept k) :=
  .ite h <|
  .ite (.acceptSession outs h) <| by
    split
    · exact .ite (.acceptToken outs h) h
    · exact h

theorem Kept.allocate {n} (outs : P.outs = true) (h : Kept P s0 s) : Kept P s0 (s.allocate n) := by
  unfold State.allocate
  split
  · exact .noContext outs h
  · exact .refreshPilot outs <| by
        split
        · exact .ite
              (.ite
                 (.useAccount <| .put <| .updS outs <| .enterAuth outs <| .updO outs <| .when
                    (.put <| .put <| .allocAt outs h) fun _ hu => .updLink outs <| .put hu) <|
               .put <| .updS outs <| .enterAuth outs <| .updO outs <| .when (.put <| .put <| .allocAt outs h)
                 fun _ hu => .updLink outs <| .put hu) <|
            .selfAccept outs <| .updO outs <| .when (.put <| .put <| .allocAt outs h)
              fun _ hu => .updLink outs <| .put hu
        · exact .selfAccept outs <| .when (.put <| .put <| .allocAt outs h) fun _ hu => .updLink outs <| .put hu

theorem Kept.plugIn {n} (outs : P.outs = true) (h : Kept P s0 s) : Kept P s0 (s.plugIn n) :=
  .ite h <| .ite (.allocate outs <| .set1 h) <| .updO outs <| .set1 h

theorem Kept.suspend {k} (outs : P.outs = true) (h : Kept P s0 s) : Kept P s0 (s.suspend k) :=
  .ite h <|
  .refreshPilot outs <|
    .ite (.requestOpen outs <| .updO outs <| .put h) <|
    .ite (.setModule outs <| .updO outs <| .put h) <| .updO outs <| .put h

theorem Kept.pilotError {n code} (outs : P.outs = true) (lch : P.lch = true) (h : Kept P s0 s) :
    Kept P s0 (s.pilotError n code) :=
  .refreshPilot outs <| .updPilot outs <| .stopOutlet outs lch <| .raise h

theorem Kept.startPeriod {n} (outs : P.outs = true) (h : Kept P s0 s) : Kept P s0 (s.startPeriod n) :=
  .put <| .updPilot outs h

theorem Kept.leaveC {n} (outs : P.outs = true) (lch : P.lch = true) (h : Kept P s0 s) : Kept P s0 (s.leaveC n) := by
  unfold State.leaveC
  split
  · exact h
  · exact .ite (.requestOpen outs <| .suspend outs h) <|
      .ite (.requestOpen outs <| .dropClose outs lch h) <|
      .ite (.requestOpen outs h) <| .ite (.ite (.moduleOff outs <| .updS outs h) <| .requestOpen outs h) h

theorem Kept.recognise {n st} (outs : P.outs = true) (lch : P.lch = true) (h : Kept P s0 s) :
    Kept P s0 (s.recognise n st) :=
  .ite (.set1 <| .put h) <|
  .ite (.pilotError outs lch <| .updPilot outs <| .set1 <| .put h) <|
  .ite
    (.refreshPilot outs <| .updO outs <| .clr <| by
       split
       · exact .stopSession outs lch <| .when (.updPilot outs <| .set1 <| .put h) fun _ hu => .set1 hu
       · exact .when (.updPilot outs <| .set1 <| .put h) fun _ hu => .set1 hu) <|
  .refreshPilot outs <| .when
    (.when (.when (.updPilot outs <| .set1 <| .put h) fun _ hu => .plugIn outs hu) fun _ hu => .leaveC outs lch hu)
    fun _ hu => .updLink outs hu

theorem Kept.suspendLow {n} (outs : P.outs = true) (h : Kept P s0 s) : Kept P s0 (s.suspendLow n) := by
  unfold State.suspendLow
  split
  · exact .ite (.suspend outs h) h
  · exact h

theorem Kept.stopLate {n} (outs : P.outs = true) (h : Kept P s0 s) : Kept P s0 (s.stopLate n) :=
  .requestOpen outs <| .raise <| .set1 h

/-! ### Vehicle communication -/

theorem Kept.v2gLate {n k late} (h : Kept P s0 s) : Kept P s0 (s.v2gLate n k late) :=
  .when h fun _ hu => .raise <| .inc hu

theorem Kept.clearEph {n} (key : P.key = true) (h : Kept P s0 s) : Kept P s0 (s.clearEph n) :=
  .setJewel key h

theorem Kept.tlsStop {n} (outs : P.outs = true) (key : P.key = true) (h : Kept P s0 s) : Kept P s0 (s.tlsStop n) :=
  .raise <| by
    split
    · exact .put <| .clearEph key <| .updLink outs h
    · exact .clearEph key <| .updLink outs h

/-! ### Protection -/

theorem Kept.setBias {n d} (outs : P.outs = true) (h : Kept P s0 s) : Kept P s0 (s.setBias n d) :=
  .outs outs h

theorem Kept.openPair {n load} (outs : P.outs = true) (saf : P.saf = true) (h : Kept P s0 s) :
    Kept P s0 (s.openPair n load) := by
  unfold State.openPair
  dsimp only
  split
  · exact .when
        (.when
           (.put <| .updProt outs <| .updClose outs <| .updWeld outs <| .incBy <| .put <| .put <| .when (.setElem saf h)
              fun _ hu => .setBias outs hu) fun _ hu => .setModule outs hu) fun _ hu => .updS outs hu
  · exact .when
        (.put <| .updProt outs <| .updClose outs <| .updWeld outs <| .incBy <| .put <| .put <| .when (.setElem saf h)
           fun _ hu => .setBias outs hu) fun _ hu => .setModule outs hu

theorem Kept.openDue {n} (outs : P.outs = true) (saf : P.saf = true) (h : Kept P s0 s) : Kept P s0 (s.openDue n) :=
  .ite (.openPair outs saf h) h

theorem Kept.openNow {n} (outs : P.outs = true) (saf : P.saf = true) (h : Kept P s0 s) : Kept P s0 (s.openNow n) :=
  .ite h <| .openDue outs saf h

theorem Kept.uncmdOpen {n} (outs : P.outs = true) (lch : P.lch = true) (saf : P.saf = true) (h : Kept P s0 s) :
    Kept P s0 (s.uncmdOpen n) := by
  unfold State.uncmdOpen
  dsimp only
  split
  · exact .updS outs <| .stopSession outs lch <| .openPair outs saf <| .set1 <| .raise h
  · exact .openPair outs saf <| .set1 <| .raise h

theorem Kept.closeFail {n} (outs : P.outs = true) (lch : P.lch = true) (h : Kept P s0 s) : Kept P s0 (s.closeFail n) :=
  .raiseOutlet outs lch <| .set1 h

theorem Kept.isoJudge {n r} (outs : P.outs = true) (lch : P.lch = true) (h : Kept P s0 s) :
    Kept P s0 (s.isoJudge n r) :=
  .ite
    (.ite (.when (.put <| .put <| .putSat <| .updProt outs h) fun _ hu => .raise <| .set1 hu) <|
     .raiseOutlet outs lch <| .put <| .when (.put <| .put <| .putSat <| .updProt outs h) fun _ hu => .raise <| .set1 hu) <|
  .ite
    (.ite (.when (.put <| .put <| .putSat <| .updProt outs h) fun _ hu => .raise <| .set1 hu) <|
     .put <| .when (.put <| .put <| .putSat <| .updProt outs h) fun _ hu => .raise <| .set1 hu) <|
  .ite (.put <| .when (.put <| .put <| .putSat <| .updProt outs h) fun _ hu => .raise <| .set1 hu) <|
  .when (.put <| .put <| .putSat <| .updProt outs h) fun _ hu => .raise <| .set1 hu

theorem Kept.isoPole {n d vp vn} (outs : P.outs = true) (lch : P.lch = true) (h : Kept P s0 s) :
    Kept P s0 (s.isoPole n d vp vn) :=
  .ite (.clr h) <|
  .ite (.isoJudge outs lch <| .ite (.updProt outs <| .put h) <| .updProt outs <| .put h) <|
  .ite (.updProt outs <| .put h) <| .updProt outs <| .put h

theorem Kept.tripNow {n code} (esc : P.esc = true) (outs : P.outs = true) (lch : P.lch = true)
    (saf : P.saf = true) (h : Kept P s0 s) : Kept P s0 (s.tripNow n code) :=
  .within esc h
    fun _ hu =>
      .openNow outs saf <| .requestOpen outs <| .raiseOutlet outs lch <| .when (.set1 hu)
        fun _ hu1 => .moduleOff outs hu1

/-! ### The converters -/

theorem Kept.updGov {f} (gov : P.gov = true) (h : Kept P s0 s) : Kept P s0 (s.updGov f) :=
  .gov gov h

theorem Kept.updConv {j f} (gov : P.gov = true) (h : Kept P s0 s) : Kept P s0 (s.updConv j f) :=
  .updGov gov h

/-! ### Keys -/

theorem Kept.reseed (key : P.key = true) (h : Kept P s0 s) : Kept P s0 s.reseed :=
  .updKey key <| .put h

/-! ### Energy placement -/

theorem Kept.sendMsg {m} (sit : P.sit = true) (h : Kept P s0 s) : Kept P s0 (s.sendMsg m) :=
  .sit sit h

theorem Kept.sendSite {dst mtype payload cmd} (sit : P.sit = true) (h : Kept P s0 s) :
    Kept P s0 (s.sendSite dst mtype payload cmd) :=
  .sendMsg sit h

theorem Kept.updPartner {k f} (gov : P.gov = true) (h : Kept P s0 s) : Kept P s0 (s.updPartner k f) :=
  .updGov gov h

theorem Kept.judgePrice (h : Kept P s0 s) : Kept P s0 s.judgePrice :=
  .put <| .putB <| .putSat h

theorem Kept.sendShare {k lowered} (gov : P.gov = true) (sit : P.sit = true) (h : Kept P s0 s) :
    Kept P s0 (s.sendShare k lowered) :=
  .updPartner gov <| .sendSite sit h

theorem Kept.showPartners (h : Kept P s0 s) : Kept P s0 s.showPartners :=
  .putSat <| .putSat <| .putSat h

theorem Kept.sendRaises (gov : P.gov = true) (sit : P.sit = true) (h : Kept P s0 s) : Kept P s0 s.sendRaises :=
  .ite h <|
  .forUpTo h fun _ _ hu => by
    split
    · exact .sendShare gov sit <| .updPartner gov <| .put hu
    · exact hu

/-! ### The site line -/

theorem Kept.updSit {f} (sit : P.sit = true) (h : Kept P s0 s) : Kept P s0 (s.updSit f) :=
  .sit sit h

theorem Kept.updLinkRec {k f} (sit : P.sit = true) (h : Kept P s0 s) : Kept P s0 (s.updLinkRec k f) :=
  .updSit sit h

theorem Kept.showLinks (sit : P.sit = true) (h : Kept P s0 s) : Kept P s0 s.showLinks :=
  .forUpTo h
    fun _ _ hu =>
      .ite hu <|
      .ite (.putSat <| .put <| .putB <| .puti <| .put hu) <|
      .updLinkRec sit <| .set1 <| .putSat <| .put <| .putB <| .puti <| .put hu

theorem Kept.judgeCap (sit : P.sit = true) (h : Kept P s0 s) : Kept P s0 s.judgeCap :=
  .forUpTo (.putSat <| .putSat <| .putSat <| .putSat h)
    fun _ _ hu => .ite (.raise <| .set1 <| .updSit sit hu) <| .updSit sit hu

theorem Kept.hearNode {a} (sit : P.sit = true) (h : Kept P s0 s) : Kept P s0 (s.hearNode a) :=
  .ite (.updLinkRec sit <| .ite (.updSit sit h) <| .put <| .put <| .set1 <| .updSit sit h) <| .updSit sit h

theorem Kept.foreign (sit : P.sit = true) (h : Kept P s0 s) : Kept P s0 s.foreign :=
  .ite (.raise <| .updSit sit <| .updSit sit <| .inc h) <| .updSit sit <| .inc h

theorem Kept.frameLost (h : Kept P s0 s) : Kept P s0 s.frameLost :=
  .raiseLimited <| .inc h

theorem Kept.addrClash (sit : P.sit = true) (h : Kept P s0 s) : Kept P s0 s.addrClash :=
  .ite h <| .raise <| .set1 <| .updSit sit h

theorem Kept.msgFail {m} (host : P.host = true) (h : Kept P s0 s) : Kept P s0 (s.msgFail m) := by
  unfold State.msgFail
  split
  · exact .replyTo host <| .raise <| .set1 <| .inc h
  · exact .raise <| .set1 <| .inc h

theorem Kept.msgSent {m dur} (sit : P.sit = true) (h : Kept P s0 s) : Kept P s0 (s.msgSent m dur) :=
  .ite (.updSit sit <| .inc h) <| .inc h

theorem Kept.deliver {m} (sit : P.sit = true) (h : Kept P s0 s) : Kept P s0 (s.deliver m) :=
  .updSit sit <| .inc h

/-- The state without the message that was taken out of the inbox. -/
theorem Kept.takeMsg {mtype m t} (sit : P.sit = true) (h : Kept P s0 s) (hm : s.takeMsg mtype = some (m, t)) :
    Kept P s0 t := by
  obtain ⟨x, _, hx⟩ := Option.map_eq_some_iff.mp hm
  cases hx
  exact .updSit sit h

theorem Kept.beatAbort {p} (sit : P.sit = true) (h : Kept P s0 s) : Kept P s0 (s.beatAbort p) :=
  .updSit sit h

theorem Kept.beatDone {p m} (sit : P.sit = true) (h : Kept P s0 s) : Kept P s0 (s.beatDone p m) :=
  .ite (.msgSent sit <| .updSit sit <| .beatAbort sit h) <| .updSit sit <| .beatAbort sit h

theorem Kept.beatSend {p x o} (sit : P.sit = true) (h : Kept P s0 s) : Kept P s0 (s.beatSend p x o) :=
  .ite (.ite (.beatAbort sit h) <| .ite (.beatAbort sit <| .inc h) <| .updSit sit <| .inc h) <|
  .ite (.raise <| .set1 <| .beatAbort sit <| .updSit sit <| .updSit sit h) <|
  .ite (.updSit sit <| .beatAbort sit <| .updSit sit h) <|
  .ite (.beatAbort sit <| .updSit sit h) <| .ite (.beatDone sit <| .updSit sit h) <| .updSit sit <| .updSit sit h

theorem Kept.beatListen {p o} (sit : P.sit = true) (h : Kept P s0 s) : Kept P s0 (s.beatListen p o) :=
  .ite (by
      split
      · exact .ite h <| .updSit sit h
      · exact h) <|
  .ite h <| .ite (.updSit sit <| .inc h) <| .ite (.ite h <| .updSit sit h) <| .updSit sit h

theorem Kept.countB {p b} (freeCtr : P.freeCtr = true) (sit : P.sit = true) (h : Kept P s0 s) :
    Kept P s0 (s.countB p b) :=
  .ite (.updSit sit <| .draw freeCtr <| .updSit sit h) <| .updSit sit h

theorem Kept.sendFch {fch} (sit : P.sit = true) (h : Kept P s0 s) : Kept P s0 (s.sendFch fch) :=
  .updSit sit h

theorem Kept.sendAck {dst src lseq map} (sit : P.sit = true) (h : Kept P s0 s) :
    Kept P s0 (s.sendAck dst src lseq map) :=
  .ite h <| .sendFch sit <| .updSit sit h

theorem Kept.launch {x} (sit : P.sit = true) (h : Kept P s0 s) : Kept P s0 (s.launch x) := by
  unfold State.launch
  exact .updSit sit <| .sendFch sit h

theorem Kept.queueFrame {m hop segs rest} (sit : P.sit = true) (h : Kept P s0 s) :
    Kept P s0 (s.queueFrame m hop segs rest) := by
  unfold State.queueFrame
  exact .updSit sit h

theorem Kept.startFrame {m hop bytes} (sit : P.sit = true) (h : Kept P s0 s) : Kept P s0 (s.startFrame m hop bytes) := by
  unfold State.startFrame
  dsimp only
  split
  · exact .launch sit <| .queueFrame sit h
  · exact .queueFrame sit h

theorem Kept.reroute {m hop} (host : P.host = true) (sit : P.sit = true) (h : Kept P s0 s) :
    Kept P s0 (s.reroute m hop) :=
  .ite (.msgFail host <| .updSit sit h) <| .updSit sit <| .updSit sit h

theorem Kept.segResult {k sx ok} (sit : P.sit = true) (h : Kept P s0 s) : Kept P s0 (s.segResult k sx ok) :=
  .ite (.ite (.updLinkRec sit h) <| .inc <| .updLinkRec sit h) <|
  .raise <| .set1 <| .put <| .ite (.updLinkRec sit h) <| .inc <| .updLinkRec sit h

theorem Kept.probeDone {m hop start} (host : P.host = true) (h : Kept P s0 s) : Kept P s0 (s.probeDone m hop start) := by
  unfold State.probeDone
  split
  · exact .ite (.replyTo host h) h
  · exact h

theorem Kept.takeMessage {bs} (sit : P.sit = true) (h : Kept P s0 s) : Kept P s0 (s.takeMessage bs) :=
  .ite h <|
  .ite (.foreign sit h) <|
  .ite (.addrClash sit h) <|
  .ite (.ite (.sendSite sit h) <| .ite (.sendSite sit h) h) <|
  .ite (.deliver sit <| .updSit sit h) <| .updSit sit <| .updSit sit h

theorem Kept.setRx {r} (sit : P.sit = true) (h : Kept P s0 s) : Kept P s0 (s.setRx r) :=
  .updSit sit h

theorem Kept.segHeard {k g} (sit : P.sit = true) (h : Kept P s0 s) : Kept P s0 (s.segHeard k g) :=
  .updLinkRec sit h

theorem Kept.promote {k} (sit : P.sit = true) (h : Kept P s0 s) : Kept P s0 (s.promote k) :=
  .ite h <| .sendSite sit <| .put <| .updLinkRec sit h

theorem Kept.onMsg {mtype} {f : RxMsg → State → State} (sit : P.sit = true) (h : Kept P s0 s)
    (hf : ∀ m u, Kept P s0 u → Kept P s0 (f m u)) : Kept P s0 (s.onMsg mtype f) := by
  unfold State.onMsg
  split
  next m t hm => exact hf m t (.takeMsg sit h hm)
  next => exact h

/-! ### Firmware update -/

theorem Kept.updRefused {code c} (lgl : P.lgl = true) (h : Kept P s0 s) : Kept P s0 (s.updRefused code c) :=
  .when (.raise h) fun _ hu => .tamperA lgl hu

theorem Kept.loadStart {l} (h : Kept P s0 s) : Kept P s0 (s.loadStart l) :=
  .put <| .put <| .put <| .put <| .put h

theorem Kept.loadCommit {l} (fwu : P.fwu = true) (h : Kept P s0 s) : Kept P s0 (s.loadCommit l) :=
  .set1 <| .putB <| .put <| .put <| .raiseTo <| .put <| .updUpd fwu h

theorem Kept.loadEnd {l status code} (host : P.host = true) (fwu : P.fwu = true) (h : Kept P s0 s) :
    Kept P s0 (s.loadEnd l status code) := by
  unfold State.loadEnd
  split
  · exact .forEach (.replyTo host <| .updUpd fwu h) fun _ _ hu => .abortLateTo host hu
  · exact .updUpd fwu h

theorem Kept.gpStart (host : P.host = true) (fwu : P.fwu = true) (h : Kept P s0 s) : Kept P s0 s.gpStart :=
  .actStage host fwu h fun _ hu => .put hu

theorem Kept.recDone {code} (fwu : P.fwu = true) (h : Kept P s0 s) : Kept P s0 (s.recDone code) :=
  .putB <| .put <| .clr <| .updUpd fwu h

theorem Kept.recSegs {l data bad} (fwu : P.fwu = true) (h : Kept P s0 s) : Kept P s0 (s.recSegs l data bad) :=
  .ite (.recDone fwu <| .raise <| .updUpd fwu <| .put h) <|
  .ite (.recDone fwu <| .updUpd fwu <| .put <| .loadCommit fwu <| .put h) <| .recDone fwu <| .updUpd fwu <| .put h

/-! ### Ageing -/

theorem Kept.showSlack {lane v} (h : Kept P s0 s) : Kept P s0 (s.showSlack lane v) :=
  .puti <| .puti <| .put <| .puti h

theorem Kept.slackSample {lane slack leak} (red : P.red = true) (wear : P.wear = true) (h : Kept P s0 s) :
    Kept P s0 (s.slackSample lane slack leak) :=
  .ite h <| .when (.updWear wear h) fun _ hu => .laneFails red <| .raise hu

theorem Kept.stepSwap (red : P.red = true) (h : Kept P s0 s) : Kept P s0 s.stepSwap := by
  unfold State.stepSwap
  split
  · exact .when h fun _ hu => .wantSwap red hu
  · exact h

theorem Kept.showIntervals (h : Kept P s0 s) : Kept P s0 s.showIntervals :=
  .put <| .put h

theorem Kept.shortCause {k now_} (wear : P.wear = true) (h : Kept P s0 s) : Kept P s0 (s.shortCause k now_) :=
  .ite
    (.when (.raise <| .updWear wear <| .set1 <| .putBit <| .when h fun _ hu => .updWear wear hu) fun _ hu => .raise hu) <|
  .ite (.set1 <| .putBit <| .when h fun _ hu => .updWear wear hu) <| .when h fun _ hu => .updWear wear hu

theorem Kept.atFloor {lane} (h : Kept P s0 s) : Kept P s0 (s.atFloor lane) :=
  .ite h <| .putBit <| .raise <| .set1 h

theorem Kept.estimates (wear : P.wear = true) (h : Kept P s0 s) : Kept P s0 s.estimates :=
  .forUpTo h fun _ _ hu => .ite (.raise <| .set1 <| .updWear wear <| .put hu) <| .put hu

theorem Kept.newHour (wear : P.wear = true) (h : Kept P s0 s) : Kept P s0 s.newHour :=
  .updWear wear h

theorem Kept.judgeSlack {lane v} (h : Kept P s0 s) : Kept P s0 (s.judgeSlack lane v) :=
  .ite (.showSlack <| .put h) <|
  .ite (.when (.set1 <| .showSlack <| .put h) fun _ hu => .set1 hu) <| .atFloor <| .showSlack <| .put h

theorem Kept.judgeCauses {r} (wear : P.wear = true) (h : Kept P s0 s) : Kept P s0 (s.judgeCauses r) :=
  .showIntervals <| .shortCause wear <| .shortCause wear <| .shortCause wear <| .shortCause wear <|
    .shortCause wear <| .shortCause wear h

theorem Kept.summary (wear : P.wear = true) (h : Kept P s0 s) : Kept P s0 s.summary :=
  .ite (.updWear wear h) <| .set1 <| .put <| .updWear wear h

/-! ### Supplies and clocks -/

theorem Kept.updPwr {f} (pwr : P.pwr = true) (h : Kept P s0 s) : Kept P s0 (s.updPwr f) :=
  .pwr pwr h

theorem Kept.clockLost {d} (h : Kept P s0 s) : Kept P s0 (s.clockLost d) :=
  .set1 <| .putBit h

theorem Kept.periphLock {d on} (h : Kept P s0 s) : Kept P s0 (s.periphLock d on) :=
  .ite (.putBit h) <| .ite (.putBit h) <| .ite (.putBit h) h

/-! ### Host ports -/

theorem Kept.setOut {port bs} (host : P.host = true) (h : Kept P s0 s) : Kept P s0 (s.setOut port bs) :=
  .host host h

theorem Kept.hostFail {port code a} (h : Kept P s0 s) : Kept P s0 (s.hostFail port code a) :=
  .raiseHost <| .ite (.inc h) <| .ite (.inc h) <| .ite (.inc h) h

theorem Kept.countTxn {port sck} (h : Kept P s0 s) : Kept P s0 (s.countTxn port sck) :=
  .putSat <| .inc h

theorem Kept.protocolError {port a} (host : P.host = true) (h : Kept P s0 s) : Kept P s0 (s.protocolError port a) :=
  .hostFail <| .setOut host h

theorem Kept.ringBells {v} (h : Kept P s0 s) : Kept P s0 (s.ringBells v) :=
  .put h

theorem Kept.showLast {port code pending} (h : Kept P s0 s) : Kept P s0 (s.showLast port code pending) :=
  .putB <| .put <| .put h

theorem Kept.hostWrite {port a data sck plain crcBad} (host : P.host = true) (h : Kept P s0 s) :
    Kept P s0 (s.hostWrite port a data sck plain crcBad) :=
  .ite h <|
  .ite (.protocolError host <| .countTxn h) <|
  .ite (.hostFail <| .showLast <| .countTxn h) <| .host host <| .showLast <| .countTxn h

theorem Kept.holdReply {c status flags param} (host : P.host = true) (h : Kept P s0 s) :
    Kept P s0 (s.holdReply c status flags param) :=
  .host host h

/-! ### Machine safety -/

theorem Kept.openMask {path k} (saf : P.saf = true) (h : Kept P s0 s) : Kept P s0 (s.openMask path k) :=
  .forUpTo h fun _ _ hu => .when hu fun _ hu1 => .openElem saf hu1

theorem Kept.fnFault {k code} (saf : P.saf = true) (h : Kept P s0 s) : Kept P s0 (s.fnFault k code) :=
  .ite (.fnStatus <| .put <| .openMask saf <| .openMask saf <| .fnBoth h) h

theorem Kept.inputFault {k code} (saf : P.saf = true) (h : Kept P s0 s) : Kept P s0 (s.inputFault k code) :=
  .ite (.forUpTo h fun _ _ hu => .when hu fun _ hu1 => .fnFault saf hu1) <| .fnFault saf h

theorem Kept.latchPair {so code} (saf : P.saf = true) (h : Kept P s0 s) : Kept P s0 (s.latchPair so code) :=
  .ite h <| .raise <| .inc <| .set1 <| .setElem saf <| .dropL saf <| .put h

theorem Kept.safLog {type actor world old new digest} (saf : P.saf = true) (h : Kept P s0 s) :
    Kept P s0 (s.safLog type actor world old new digest) :=
  .set1 <| .wrN <| .saf saf h

theorem Kept.closeUnlock {actor world} (saf : P.saf = true) (h : Kept P s0 s) : Kept P s0 (s.closeUnlock actor world) :=
  .ite (.safLog saf <| .set1 <| .put <| .put <| .clr h) h

end

end Sys2Proof.Machine
end

section
/-! PROOF. What each command leaves unchanged: its arm is walked through, operation by operation, by the rules of `Kept`. -/
namespace Sys2Proof.Machine

/-! ### The frame of a command -/

/-- A command that keeps to the parts of P leaves a state that is the old one once those parts are put back. -/
theorem frame_of {s s1 : State} {o : Out} (P : Parts) (h : Kept P s s → AllNext (Kept P s) o) (hs1 : o = .next s1) :
    s1.restore P s = s :=
  (h (.refl P s) s1 hs1).restored

/-- Settles O58: each command is built of operations that keep every part outside the ones its clause names. -/
theorem outletAndSafetyFrames : Obligations.OutletAndSafetyFrames := by
  unfold Obligations.OutletAndSafetyFrames
  and_intros
  · -- pilotPeriodStart
    exact fun n vHigh vLow duty s s1 => frame_of { lch := true, outs := true } fun h =>
      .ite
        (.next <| .startPeriod rfl <| .when
           (.ite (.updPilot rfl <| .putSat <| .puti <| .puti h) <| .updPilot rfl <| .putSat <| .puti <| .puti h)
           fun _ hu => .pilotError rfl rfl hu) <|
      .ite (.next <| .startPeriod rfl h) <| .next h
  · -- pilotStateRecognised
    exact fun n s s1 => frame_of { lch := true, outs := true } fun h =>
      .ite (.next <| .recognise rfl rfl h) <| .ite (.next <| .updPilot rfl h) <| .next h
  · -- deferredAllocation
    exact fun n s s1 => frame_of { lch := true, outs := true } fun h => .ite (.next <| .allocate rfl h) <| .next h
  · -- pilotInvalid
    exact fun n s s1 => frame_of { lch := true, outs := true } fun h =>
      .ite (.next <| .updPilot rfl <| .pilotError rfl rfl h) <| .next h
  · -- pilotFHoldEnd
    intro n s s1
    refine frame_of { outs := true } fun h => ?_
    show AllNext _ (execPilotFHoldEnd n s)
    unfold execPilotFHoldEnd
    split
    · exact .ite (.next <| .refreshPilot rfl <| .when (.updPilot rfl h) fun _ hu => .updLink rfl <| .put hu) <| .next h
    · exact .next h
  · -- proximityMeasure
    exact fun n r s s1 => frame_of { lch := true, outs := true } fun h =>
      .ite (.next h) <|
      .ite
        (.ite (.next <| .updO rfl <| .put h) <|
         .next <|
           .ite (.put <| .putB <| .updO rfl <| .put h) <|
           .suspendLow rfl <| .setAllowed rfl <| .put <| .putB <| .updO rfl <| .put h) <|
      .next h
  · -- ppInvalid
    exact fun n s s1 => frame_of { lch := true, outs := true } fun h =>
      .ite (.next <| .refreshPilot rfl <| .stopOutlet rfl rfl <| .raise <| .updO rfl h) <| .next h
  · -- slacParamReq
    exact fun runId heard s s1 => frame_of { outs := true } fun h =>
      .ite (.next h) <| by
        split
        · exact .next <| .updLink rfl <| .put h
        · exact .next <| .forEach h fun _ _ hu => .inc hu
  · -- mnbcSound
    exact fun n runId atten s s1 => frame_of { outs := true } fun h =>
      .ite (.next <| .putSat <| .updLink rfl h) <| .next h
  · -- slacMatch
    exact fun n runId s s1 => frame_of { freeCtr := true, key := true, outs := true, red := true } fun h =>
      .ite (.next <| .updLink rfl <| .set1 <| .put <| .drbg rfl rfl rfl h) <| .next h
  · -- sdpRequest
    intro n late s s1
    refine frame_of { outs := true } fun h => ?_
    show AllNext _ (execSdpRequest n late s)
    unfold execSdpRequest
    split
    · exact .ite (.next <| .v2gLate <| .updLink rfl h) <| .next h
    · exact .next h
  · -- tlsPkTimeout
    intro n s s1
    refine frame_of { key := true, outs := true } fun h => ?_
    show AllNext _ (execTlsPkTimeout n s)
    unfold execTlsPkTimeout
    split
    · exact .ite (.next <| .tlsStop rfl rfl <| .put h) <| .next h
    · exact .next h
  · -- authTimeout
    exact fun k s s1 => frame_of { host := true, key := true, outs := true } fun h =>
      .ite (.next <| .refuseSession rfl rfl rfl h) <| .next h
  · -- preauthExpiry
    intro n s s1
    refine frame_of { outs := true } fun h => ?_
    show AllNext _ (execPreauthExpiry n s)
    unfold execPreauthExpiry
    split
    · exact .ite (.next <| .updO rfl h) <| .next h
    · exact .next h
  · -- suspendOpenExpiry
    intro n s s1
    refine frame_of { outs := true } fun h => ?_
    show AllNext _ (execSuspendOpenExpiry n s)
    unfold execSuspendOpenExpiry
    split
    · exact .ite (.next <| .requestOpen rfl <| .moduleOff rfl h) <| .next h
    · exact .next h
  · -- stopLate
    intro n s s1
    refine frame_of { outs := true } fun h => ?_
    show AllNext _ (execStopLate n s)
    unfold execStopLate
    split
    · exact .ite (.next <| .stopLate rfl h) <| .next h
    · exact .next h
  · -- v2gStopTimeout
    intro n s s1
    refine frame_of { outs := true } fun h => ?_
    show AllNext _ (execV2gStopTimeout n s)
    unfold execV2gStopTimeout
    split
    · exact .ite
          (.next <|
             .ite (.moduleOff rfl <| .updS rfl <| .drive12 rfl <| .updS rfl h) <|
             .stopLate rfl <| .updS rfl <| .drive12 rfl <| .updS rfl h) <|
        .next h
    · exact .next h
  · -- dcStopOpen
    intro n s s1
    refine frame_of { outs := true } fun h => ?_
    show AllNext _ (execDcStopOpen n s)
    unfold execDcStopOpen
    split
    · exact .ite (.next <| .requestOpen rfl h) <| .next h
    · exact .next h
  · -- setpointFrame
    exact fun c k s s1 => frame_of { gov := true, outs := true } fun h =>
      .ite (by
          split
          · exact .ite (.next <| .updO rfl h) <| .next <| .updO rfl <| .puti <| .put h
          · exact .ite (.next <| .updConv rfl h) <| .next <| .updConv rfl <| .put h
          · exact .next h) <|
      .next h
  · -- canBusOff
    exact fun c s s1 => frame_of { lch := true, outs := true } fun h =>
      .ite (.next h) <|
      .next <| .forUpTo (.raise <| .outs rfl h) fun _ _ hu => .ite (.stopOutlet rfl rfl <| .moduleOff rfl hu) hu
  · -- busOffRecovery
    intro c s s1
    refine frame_of { outs := true } fun h => ?_
    show AllNext _ (execBusOffRecovery c s)
    unfold execBusOffRecovery
    split
    · exact .ite (.next <| .outs rfl h) <| .next h
    · exact .next h
  · -- closeTimeout
    exact fun n s s1 => frame_of { lch := true, outs := true } fun h => .ite (.next <| .closeFail rfl rfl h) <| .next h
  · -- vmatchTimeout
    exact fun n s s1 => frame_of { lch := true, outs := true } fun h =>
      .ite (.next <| .raiseOutlet rfl rfl <| .moduleOff rfl <| .set1 h) <| .next h
  · -- auxMismatch
    exact fun n s s1 => frame_of { esc := true, lch := true, outs := true, saf := true } fun h =>
      .ite (.next <| .within rfl h fun _ hu => .uncmdOpen rfl rfl rfl <| .updProt rfl hu) <|
      .ite
        (.next <| .within rfl h
           fun _ hu =>
             .openNow rfl rfl <|
               .ite (.raiseOutlet rfl rfl <| .updProt rfl <| .when hu fun _ hu1 => .moduleOff rfl hu1) <|
               .requestOpen rfl <| .raiseOutlet rfl rfl <| .updProt rfl <| .when hu fun _ hu1 => .moduleOff rfl hu1) <|
      .next h
  · -- rdcTrip
    exact fun n ac k s s1 => frame_of { esc := true, lch := true, outs := true, saf := true } fun h =>
      .ite
        (.next <| .within rfl h
           fun _ hu => .openNow rfl rfl <| .raiseOutlet rfl rfl <| .updProt rfl <| .put <| .putB <| .set1 <| .set1 hu) <|
      .next h
  · -- rdcLockRelease
    exact fun n s s1 => frame_of {} fun h => .ite (.next <| .clr h) <| .next h
  · -- insulationDwellEnd
    intro n _vp _vn s s1
    refine frame_of { lch := true, outs := true } fun h => ?_
    show AllNext _ (execInsulationDwellEnd n _vp _vn s)
    unfold execInsulationDwellEnd
    dsimp only
    split
    · exact .next h
    · exact .ite
          (.next <|
             .ite (.updProt rfl <| .setBias rfl <| .updProt rfl h) <| .isoPole rfl rfl <| .setBias rfl <| .updProt rfl h) <|
        .next h
  · -- ocInst
    exact fun n s s1 => frame_of { esc := true, lch := true, outs := true, saf := true } fun h =>
      .ite (.next <| .tripNow rfl rfl rfl rfl h) <| .next h
  · -- overvolt
    exact fun n s s1 => frame_of { esc := true, lch := true, outs := true, saf := true } fun h =>
      .ite (.next <| .tripNow rfl rfl rfl rfl h) <| .next h
  · -- connectorLatchClear
    exact fun n s s1 => frame_of {} fun h => .ite (.next <| .clr h) <| .next h
  · -- holdRetry
    exact fun n s s1 => frame_of { outs := true } fun h => .ite (.next <| .updProt rfl <| .put <| .clr h) <| .next h
  · -- latchTimeout
    exact fun n s s1 => frame_of { lch := true, outs := true } fun h => .ite (.next <| .raiseOutlet rfl rfl h) <| .next h
  · -- protBlind
    exact fun n s s1 => frame_of { esc := true, lch := true, outs := true, saf := true } fun h =>
      .ite (.next <| .within rfl h fun _ hu => .openNow rfl rfl <| .raiseOutlet rfl rfl <| .updProt rfl hu) <| .next h
  · -- discrepancyTimeout
    intro k s s1
    refine frame_of { saf := true } fun h => ?_
    show AllNext _ (execDiscrepancyTimeout k s)
    unfold execDiscrepancyTimeout
    split
    · exact .ite (.next <| .inputFault rfl <| .raise <| .set1 h) <| .next h
    · exact .next h
  · -- testPulse
    exact fun st readback bad s s1 => frame_of { saf := true } fun h =>
      .ite (.next h) <|
      .next <| .forUpTo
        (.ite (.putBit h) <|
         .forUpTo (.raise <| .inc <| .set1 <| .putBit h) fun _ _ hu => .when hu fun _ hu1 => .inputFault rfl hu1)
        fun _ _ hu => .ite (.ite (.inputFault rfl <| .raise <| .inc <| .set1 <| .updFn rfl hu) <| .updFn rfl hu) hu
  · -- pathDisagree
    intro k s s1
    refine frame_of { saf := true } fun h => ?_
    show AllNext _ (execPathDisagree k s)
    unfold execPathDisagree
    split
    · exact .ite (.next <| .fnFault rfl <| .raise <| .set1 h) <| .next h
    · exact .next h
  · -- lockFault
    intro k s s1
    refine frame_of { saf := true } fun h => ?_
    show AllNext _ (execLockFault k s)
    unfold execLockFault
    split
    · exact .ite (.next <| .fnFault rfl <| .raise h) <| .next h
    · exact .next h
  · -- soOffPulse
    exact fun k low restored vauxMv s s1 => frame_of { saf := true } fun h =>
      .ite (.next h) <|
      .ite (.next <| .when h fun _ hu => .saf rfl hu) <|
      .ite (.next <| .latchPair rfl <| .when h fun _ hu => .saf rfl hu) <|
      .ite (.next <| .latchPair rfl <| .when h fun _ hu => .saf rfl hu) <| .next <| .when h fun _ hu => .saf rfl hu
  · -- soOverload
    exact fun k mA s s1 => frame_of { saf := true } fun h => .ite (.next <| .latchPair rfl h) <| .next h
  · -- edmTimeout
    intro p s s1
    refine frame_of { saf := true } fun h => ?_
    show AllNext _ (execEdmTimeout p s)
    unfold execEdmTimeout
    split
    · exact .ite (.next <| .latchPair rfl h) <| .next h
    · exact .next h
  · -- safetyUnlockExpiry
    exact fun s s1 => frame_of { saf := true } fun h => .ite (.next <| .closeUnlock rfl h) <| .next h
  · -- pwdLockoutExpiry
    exact fun s s1 => frame_of { saf := true } fun h => .ite (.next <| .put <| .clr <| .saf rfl h) <| .next h
  · -- lcInrushEnd
    exact fun k vOut vaux s s1 => frame_of { host := true, lch := true } fun h =>
      .ite (.ite (.next <| .updLc rfl <| .put <| .puti h) <| .next <| .lcEvent rfl rfl <| .raise <| .puti h) <| .next h
  · -- lcCurrentLimitCutoff
    exact fun k held s s1 => frame_of { host := true, lch := true } fun h =>
      .ite (.next <| .lcEvent rfl rfl <| .raise h) <| .ite (.next <| .put h) <| .ite (.next <| .put h) <| .next h
  · -- lcThermalLatch
    exact fun k temp s s1 => frame_of { host := true, lch := true } fun h =>
      .ite
        (.ite (.next <| .set1 <| .puti h) <|
         .ite (.next <| .lcEvent rfl rfl <| .raise <| .set1 <| .puti h) <| .next <| .raise <| .set1 <| .puti h) <|
      .next h
  · -- lcThermalRelease
    exact fun k temp s s1 => frame_of { lch := true } fun h =>
      .ite (.ite (.next <| .updLc rfl <| .put <| .clr <| .puti h) <| .next <| .clr <| .puti h) <| .next h
  · -- lcRetry
    exact fun k s s1 => frame_of { lch := true } fun h =>
      .ite (.ite (.next <| .put h) <| .next <| .lcTurnOn rfl <| .put h) <| .next h
  · -- lcRetryRefill
    exact fun k s s1 => frame_of {} fun h => .ite (.next <| .put h) <| .next h
  · -- lcClampEvent
    exact fun k e s s1 => frame_of { host := true, lch := true } fun h =>
      .ite (.next h) <|
      .ite
        (.next <| .raise <| .set1 <| .unclear rfl <| .putBit <| .set1 <| .lcTurnOff <| .lch rfl <|
           .clampSum rfl <| .updLc rfl <| .putSat h) <|
      .next <| .lch rfl <| .clampSum rfl <| .updLc rfl <| .putSat h
  · -- lcOpenLoad
    exact fun k iUa vauxMv s s1 => frame_of {} fun h => .ite (.next <| .raise <| .set1 <| .set1 h) <| .next h
  · -- lcOpenLoadClear
    exact fun k o s s1 => frame_of {} fun h => .ite (.next <| .clr h) <| .next h
  · -- lcStuck
    exact fun k vOut vaux s s1 => frame_of { lch := true } fun h =>
      .ite (.next <| .raise <| .set1 <| .putBit <| .puti <| .updLc rfl h) <| .next h
  · -- motorStall
    exact fun j i held s s1 => frame_of { lch := true } fun h => .ite (.next <| .endRun rfl h) <| .next h
  · -- motorRunTimeout
    exact fun j s s1 => frame_of { lch := true } fun h => .ite (.next <| .endRun rfl h) <| .next h
  · -- motorBrakeEnd
    exact fun j s s1 => frame_of { host := true, lch := true } fun h => .ite (.next <| .coast rfl rfl h) <| .next h
  · -- lcShed
    exact fun _x _y z s s1 => frame_of { host := true, lch := true } fun h =>
      .ite
        (.ite (.next h) <| by
           split
           · exact .next <| .raise <| .set1 <| .lch rfl <| .putBit <| .ite (.cutRun rfl rfl h) <| .lcTurnOff h
           · exact .next <| .lch rfl h) <|
      .next <| .lch rfl h
  · -- isnsSelectionChange
    exact fun sel s s1 => frame_of { lch := true } fun h => .next <| .isnsSelect rfl <| .lch rfl h

/-- Settles O59: each command is built of operations that keep every part outside the ones its clause names. -/
theorem legalAndSenseFrames : Obligations.LegalAndSenseFrames := by
  unfold Obligations.LegalAndSenseFrames
  and_intros
  · -- essentialOverrun
    exact fun lane s s1 => frame_of { esc := true, red := true } fun h =>
      .next <| .within rfl h
        fun _ hu => .ite (.laneFails rfl <| .raise <| .when (.raise <| .lateBeat rfl rfl hu) fun _ hu1 => .set1 hu1) hu
  · -- cmdLate
    exact fun s s1 => frame_of { esc := true, red := true } fun h =>
      .ite (.next <| .within rfl h fun _ hu => .laneFails rfl <| .raise <| .lateBeat rfl rfl hu) <| .next h
  · -- coreWatchdogExpiry
    exact fun lane s s1 => frame_of { red := true } fun h => .ite (.next <| .laneFails rfl h) <| .next h
  · -- sramEccUncorrectable
    exact fun lane s s1 => frame_of { red := true } fun h => .ite (.next <| .laneFails rfl h) <| .next h
  · -- complicationPost
    exact fun lane kind cost latest subject s s1 => frame_of { esc := true } fun h =>
      .ite (.next <| .postComp rfl h) <| .next h
  · -- complicationOverrun
    intro lane kind subject s s1
    refine frame_of { esc := true } fun h => ?_
    show AllNext _ (execComplicationOverrun lane kind subject s)
    unfold execComplicationOverrun
    split
    · exact .next <| .within rfl h fun _ hu => .raise <| .when (.setSlices rfl hu) fun _ hu1 => .set1 <| .inc hu1
    · exact .next h
  · -- laneTempSample
    exact fun a b caseT aux s s1 => frame_of { esc := true, wear := true } fun h =>
      .ite (.next <| .updEsc rfl <| .wearTemp rfl <| .puti <| .sampleLane rfl rfl <| .sampleLane rfl rfl h) <| .next h
  · -- budgetPublish
    exact fun s s1 => frame_of { esc := true } fun h =>
      .ite
        (.next <| .updEsc rfl <| .when
           (.when (.puti <| .puti <| .putSat <| .put <| .put <| .wrN h) fun _ hu => .set1 hu) fun _ hu => .raise hu) <|
      .next h
  · -- ibStuck
    exact fun n s s1 => frame_of { sns := true } fun h =>
      .ite (.next <| .when (.updSns rfl h) fun _ hu => .raise hu) <| .next h
  · -- ibclkFault
    exact fun k differs s s1 => frame_of {} fun h => .ite (.next <| .when (.putBit h) fun _ hu => .raise hu) <| .next h
  · -- swingInStart
    exact fun n high spare s s1 => frame_of { sns := true } fun h =>
      .ite (.next h) <|
      .ite (.next <| .emergencySwing rfl h) <|
      .ite (.next h) <|
      .ite (.next h) <| by
        split
        · exact .next <| .startSwing rfl h
        · exact .ite (.next h) <| .ite (.next <| .startSwing rfl h) <| .ite (.next <| .startSwing rfl h) <| .next h
  · -- swingRetry
    intro n high spare s s1
    refine frame_of { sns := true } fun h => ?_
    show AllNext _ (execSwingRetry n high spare s)
    unfold execSwingRetry
    split
    · exact .ite (.next <| .startSwing rfl h) <| .next h
    · exact .next h
  · -- modulatorFailed
    exact fun k spare s s1 => frame_of { sns := true } fun h =>
      .ite (by
          split
          · exact .next <| .emergencySwing rfl <| .raise <| .updSns rfl <| .retire <| by
                split
                · exact .updSns rfl <| .disconnect h
                · exact h
          · exact .next <| .raise <| .updSns rfl <| .retire <| by
                split
                · exact .updSns rfl <| .disconnect h
                · exact h) <|
      .next h
  · -- knownStateWindow
    exact fun n s s1 => frame_of { sns := true } fun h => .ite (.next <| .ksStart rfl h) <| .next h
  · -- ksStale
    exact fun n s s1 => frame_of {} fun h => .ite (.next <| .raise <| .set1 h) <| .next h
  · -- linkDegraded
    exact fun lane s s1 => frame_of { red := true } fun h => .ite (.next <| .laneFails rfl <| .raise h) <| .next h
  · -- meterNoref
    exact fun m s s1 => frame_of { lgl := true, mtr := true } fun h =>
      .ite
        (.next <|
           .ite (.legalLog rfl <| .beginCycles rfl rfl <| .raise <| .set1 <| .set1 h) <|
           .ite (.raise <| .set1 <| .set1 h) <| .updMet rfl <| .endCycle rfl <| .raise <| .set1 <| .set1 h) <|
      .next h
  · -- pulseStart
    intro k s s1
    refine frame_of { mtr := true } fun h => ?_
    show AllNext _ (execPulseStart k s)
    unfold execPulseStart
    dsimp only
    split
    · exact .next h
    · exact .ite (.next <| .when (.putB <| .inc <| .updPulse rfl h) fun _ hu => .raiseLimited <| .set1 hu) <| .next h
  · -- pulseEnd
    exact fun k s s1 => frame_of { mtr := true } fun h => .ite (.next <| .updPulse rfl h) <| .next h
  · -- deltaSave
    exact fun s s1 => frame_of { esc := true, freeCtr := true, mtr := true } fun h =>
      .ite (.next <| .within rfl h fun _ hu => .deltaSave rfl <| .draw rfl hu) <| .next h
  · -- fullSave
    exact fun ok s s1 => frame_of { esc := true, mtr := true } fun h =>
      .ite (.next <| .within rfl h fun _ hu => .fullSave rfl hu) <| .next h
  · -- intervalRead
    exact fun port m q s s1 => frame_of { host := true, mtr := true } fun h => .next <| .readInterval rfl rfl h
  · -- keypadEntryTimeout
    exact fun s s1 => frame_of { lgl := true } fun h => .ite (.next <| .setKeys rfl h) <| .next h
  · -- legalShowStep
    exact fun s s1 => frame_of { lgl := true } fun h =>
      .ite (.next h) <|
      .ite (.next <| .showFor rfl h) <| by
        split
        · exact .next <| .showFor rfl h
        · exact .next <| .put <| .updLgl rfl h
  · -- chronoSecond
    exact fun comp s s1 => frame_of { lgl := true } fun h => .next <| .puti <| .updLgl rfl <| .settleSlew rfl h
  · -- demandIntervalEnd
    exact fun s s1 => frame_of { esc := true, lgl := true } fun h =>
      .ite (.next <| .within rfl h fun _ hu => .closeDemand rfl hu) <| .next h
  · -- demandSubintervalEnd
    exact fun s s1 => frame_of { esc := true, lgl := true } fun h =>
      .ite (.next <| .within rfl h fun _ hu => .closeDemand rfl hu) <| .next h
  · -- billingPeriodEnd
    exact fun s s1 => frame_of { esc := true, lgl := true } fun h =>
      .ite (.next <| .within rfl h fun _ hu => .billingFirst rfl hu) <| .next h
  · -- tariffSwitch
    exact fun k s s1 => frame_of { esc := true, lgl := true } fun h =>
      .ite (.next <| .within rfl h fun _ hu => .switchTariff rfl <| .billingFirst rfl hu) <| .next h
  · -- tamperCoverOpen
    exact fun s s1 => frame_of { lgl := true } fun h => .next <| .tamperOpen rfl h
  · -- tamperDoorOpen
    exact fun s s1 => frame_of { lgl := true } fun h => .next <| .tamperOpen rfl h
  · -- tamperMagnetic
    exact fun mT ms s s1 => frame_of { lgl := true } fun h =>
      .ite (.ite (.next <| .tamperA rfl <| .updLgl rfl h) <| .next h) <| .next <| .updLgl rfl h
  · -- legalWriteRefused
    exact fun s s1 => frame_of { lgl := true } fun h => .next <| .legalWrite rfl h
  · -- tamperBStart
    exact fun m kind phase s s1 => frame_of { lgl := true } fun h =>
      .ite (.next <| .showTb <| .legalLog rfl <| .raise <| .wrN <| .putBit <| .wrN <| .updLgl rfl h) <| .next h
  · -- tamperBEnd
    intro m kind phase s s1
    refine frame_of { lgl := true } fun h => ?_
    show AllNext _ (execTamperBEnd m kind phase s)
    unfold execTamperBEnd
    dsimp only
    split
    · exact .next <| .showTb <| .legalLog rfl <| .updLgl rfl h
    · exact .next h
  · -- accountRecordCommit
    intro a ok s s1
    refine frame_of { host := true, lgl := true } fun h => ?_
    show AllNext _ (execAccountRecordCommit a ok s)
    unfold execAccountRecordCommit
    split
    · exact .next h
    · exact .next <| by
          split
          · exact .replyTo rfl <|
                .ite (.applyToken rfl <| .updLgl rfl h) <| .refuseToken rfl <| .raise <| .writeAcct rfl <| .updLgl rfl h
          · exact .ite (.applyToken rfl <| .updLgl rfl h) <|
              .refuseToken rfl <| .raise <| .writeAcct rfl <| .updLgl rfl h
  · -- islandExit
    intro s s1
    refine frame_of { gov := true } fun h => ?_
    show AllNext _ (execIslandExit s)
    unfold execIslandExit
    split
    · exact .ite (.next <| .updSupply <| .updGov rfl <| .set1 <| .clr h) <| .next h
    · exact .next h
  · -- batteryDataStale
    exact fun s s1 => frame_of { gov := true } fun h =>
      .ite (.next <| .raise <| .updGov rfl <| .set1 <| .clr <| .forUpTo h fun _ _ hu => .puti <| .updConv rfl hu) <|
      .next h
  · -- priceStale
    exact fun s s1 => frame_of { gov := true } fun h =>
      .ite (.next <| .raise <| .set1 <| .judgePrice <| .updGov rfl h) <| .next h
  · -- siteLimitExpiry
    intro s s1
    refine frame_of { gov := true } fun h => ?_
    show AllNext _ (execSiteLimitExpiry s)
    unfold execSiteLimitExpiry
    split
    · exact .ite (.next <| .updGov rfl <| .put h) <| .next h
    · exact .next h
  · -- minOffExpiry
    exact fun k s s1 => frame_of { outs := true } fun h => .ite (.next <| .updS rfl h) <| .next h
  · -- sharePeriodStart
    exact fun s s1 => frame_of { gov := true } fun h => .ite (.next <| .updGov rfl h) <| .next h
  · -- shareLowerTimeout
    intro k s s1
    refine frame_of { gov := true, sit := true } fun h => ?_
    show AllNext _ (execShareLowerTimeout k s)
    unfold execShareLowerTimeout
    split
    · exact .ite (.next <| .sendRaises rfl rfl <| .updPartner rfl h) <| .next h
    · exact .next h
  · -- partnerLost
    exact fun k s s1 => frame_of { gov := true } fun h =>
      .ite (.next <| .showPartners <| .raise <| .set1 <| .updPartner rfl <| .put h) <| .next h
  · -- partnerFailsafe
    exact fun s s1 => frame_of { gov := true } fun h => .ite (.next <| .updGov rfl h) <| .next h
  · -- journalAck
    intro jseq s s1
    refine frame_of { red := true } fun h => ?_
    show AllNext _ (execJournalAck jseq s)
    unfold execJournalAck
    split
    · exact .next <| .putSat <| .wrN <| .updRed rfl h
    · exact .next h
  · -- laneResetRelease
    intro lane s s1
    refine frame_of { red := true } fun h => ?_
    show AllNext _ (execLaneResetRelease lane s)
    unfold execLaneResetRelease
    split
    · exact .ite (.next <| .updRed rfl <| .putBit <| .putBit <| .setLaneState h) <| .next h
    · exact .next h
  · -- resyncRetry
    intro lane s s1
    refine frame_of { red := true } fun h => ?_
    show AllNext _ (execResyncRetry lane s)
    unfold execResyncRetry
    split
    · exact .ite (.next <| .updRed rfl <| .inc h) <| .next h
    · exact .next h
  · -- tourbillonDue
    exact fun s s1 => frame_of { red := true } fun h => .ite (.next <| .wantSwap rfl h) <| .next h
  · -- swapWaitTimeout
    intro s s1
    refine frame_of { red := true } fun h => ?_
    show AllNext _ (execSwapWaitTimeout s)
    unfold execSwapWaitTimeout
    split
    · exact .ite (.next <| .raise <| .updRed rfl h) <| .next h
    · exact .next h
  · -- slackSample
    exact fun a b leakA leakB s s1 => frame_of { red := true, wear := true } fun h =>
      .ite (.next <| .slackSample rfl rfl <| .slackSample rfl rfl <| .wearTemp rfl <| .updWear rfl h) <| .next h
  · -- hourlyRecord
    exact fun noise mram flash bad s s1 => frame_of { red := true, wear := true } fun h =>
      .ite
        (.ite (.next <| .raise <| .newHour rfl h) <|
         .next <| .when
           (.stepSwap rfl <| .estimates rfl <| .judgeCauses rfl <| .newHour rfl <| .when
              (.when (.putSat <| .putSat <| .putSat <| .putSat <| .updWear rfl <| .wrN h) fun _ hu => .judgeSlack hu)
              fun _ hu => .judgeSlack hu) fun _ hu => .summary rfl hu) <|
      .next h
  · -- clockStepApply
    exact fun lane s s1 => frame_of { esc := true, wear := true } fun h => .ite (.next <| .applyStep rfl rfl h) <| .next h
  · -- clockStepCheckDone
    intro lane s s1
    refine frame_of { red := true, wear := true } fun h => ?_
    show AllNext _ (execClockStepCheckDone lane s)
    unfold execClockStepCheckDone
    split
    · exact .ite (.next <| .stepSwap rfl <| .raise <| .updWear rfl <| .showSlack <| .set1 <| .clr <| .clr <| .put h) <|
        .next h
    · exact .next h
  · -- compMask
    exact fun mb s s1 => frame_of { esc := true, host := true } fun h =>
      .next <| .command rfl rfl h fun _ _ hu => .ite (.reply rfl hu) <| .reply rfl <| .put hu
  · -- reserveTighten
    exact fun mb s s1 => frame_of { esc := true, host := true } fun h =>
      .next <| .command rfl rfl h fun _ _ hu => .ite (.reply rfl hu) <| .reply rfl <| .judgeCeil <| .put hu
  · -- escPlanInfo
    exact fun mb s s1 => frame_of { esc := true, host := true } fun h =>
      .next <| .command rfl rfl h fun _ _ hu => .reply rfl hu
  · -- redSwapTimeout
    intro s s1
    refine frame_of { host := true, red := true } fun h => ?_
    show AllNext _ (execRedSwapTimeout s)
    unfold execRedSwapTimeout
    split
    · exact .ite (.next <| .showSwap <| .updRed rfl <| .replyTo rfl h) <| .next h
    · exact .next h
  · -- tamperClosedReading
    exact fun door s s1 => frame_of { lgl := true } fun h => .next <| .updLgl rfl h

/-- Settles O60: each command is built of operations that keep every part outside the ones its clause names. -/
theorem lineAndStoreFrames : Obligations.LineAndStoreFrames := by
  unfold Obligations.LineAndStoreFrames
  and_intros
  · -- bezelPulseEnd
    intro charge s s1
    refine frame_of { bzl := true, host := true, outs := true, red := true, sit := true } fun h => ?_
    show AllNext _ (execBezelPulseEnd charge s)
    unfold execBezelPulseEnd
    split
    · exact .ite (.next <| .updBzl rfl <| .judgeCharge rfl <| .addStress rfl h) <| .next h
    · exact .next h
  · -- bezelRestEnd
    intro s s1
    refine frame_of { bzl := true, host := true } fun h => ?_
    show AllNext _ (execBezelRestEnd s)
    unfold execBezelRestEnd
    split
    · exact .ite (.next <| .lineDone rfl rfl h) <| .next h
    · exact .next h
  · -- bezelRailResume
    intro rails s s1
    refine frame_of { bzl := true } fun h => ?_
    show AllNext _ (execBezelRailResume rails s)
    unfold execBezelRailResume
    dsimp only
    split
    · exact .ite (.next <| .updBzl rfl <| .clr <| .watchRails rfl h) <| .next <| .watchRails rfl h
    · exact .next <| .watchRails rfl h
  · -- bezelDropRepost
    exact fun s s1 => frame_of { bzl := true, esc := true } fun h =>
      .ite (.next <| .forEach (.updBzl rfl h) fun _ _ hu => .postComp rfl hu) <| .next h
  · -- bezelRecovery
    intro s s1
    refine frame_of { bzl := true } fun h => ?_
    show AllNext _ (execBezelRecovery s)
    unfold execBezelRecovery
    split
    · exact .ite (.next <| .raise <| .set1 <| .set1 <| .updBzl rfl h) <| .next h
    · exact .next h
  · -- readerPoll
    exact fun card driveOk s s1 => frame_of { nfc := true } fun h =>
      .ite
        (.ite (.next <| .raise <| .put <| .updNfc rfl <| .updNfc rfl <| .put h) <| by
           split
           · exact .next <| .updNfc rfl <| .put h
           · exact .ite (.next <| .updNfc rfl <| .put h) <|
               .next <| .updNfc rfl <| .set1 <| .inc <| .wr128 <| .set1 <| .putB <|
                 .ite (.updNfc rfl <| .put <| .put <| .put <| .put <| .updNfc rfl <| .put h) <|
                 .put <| .put <| .put <| .put <| .updNfc rfl <| .put h) <|
      .next h
  · -- cardPresenceCheck
    exact fun answered s s1 => frame_of { nfc := true } fun h =>
      .ite (.next <| .ite (.set1 <| .cardGone rfl <| .updNfc rfl h) <| .updNfc rfl h) <| .next h
  · -- isoDepTimeout
    intro s s1
    refine frame_of { host := true, nfc := true } fun h => ?_
    show AllNext _ (execIsoDepTimeout s)
    unfold execIsoDepTimeout
    split
    · exact .ite (.ite (.next <| .updNfc rfl h) <| .next <| .exchangeError rfl rfl h) <| .next h
    · exact .next h
  · -- tagFieldOn
    exact fun s s1 => frame_of {} fun h => .next <| .set1 h
  · -- tagFieldLoss
    exact fun s s1 => frame_of { freeCtr := true, nfc := true } fun h =>
      .next <| .endTxn rfl <| .updNfc rfl <|
        .ite (.clr <| .ite (.tagCollapse rfl rfl h) h) <| .put <| .clr <| .ite (.tagCollapse rfl rfl h) h
  · -- tagReqa
    exact fun s s1 => frame_of { host := true, nfc := true } fun h =>
      .ite (.next <| .tagSays rfl <| .updNfc rfl <| .put h) <| .next <| .tagBack rfl h
  · -- tagWupa
    exact fun s s1 => frame_of { host := true, nfc := true } fun h =>
      .ite (.next <| .tagSays rfl <| .updNfc rfl <| .put h) <| .next <| .tagBack rfl h
  · -- tagAnticollision
    exact fun s s1 => frame_of { host := true, nfc := true } fun h =>
      .ite (.next <| .tagSays rfl h) <| .next <| .tagBack rfl h
  · -- tagSelect
    exact fun s s1 => frame_of { host := true, nfc := true } fun h =>
      .ite (.next <| .updNfc rfl <| .set1 <| .put <| .tagSays rfl h) <| .next <| .tagBack rfl h
  · -- tagHlta
    exact fun s s1 => frame_of { nfc := true } fun h =>
      .ite (.next <| .endTxn rfl <| .updNfc rfl <| .put h) <| .next <| .tagBack rfl h
  · -- tagDeselect
    exact fun s s1 => frame_of { nfc := true } fun h =>
      .ite (.next <| .endTxn rfl <| .updNfc rfl <| .put h) <| .next <| .tagBack rfl h
  · -- getInfo
    exact fun f s s1 => frame_of { host := true, nfc := true } fun h => .crown rfl h fun _ hu => .answerBytes rfl hu
  · -- readBlock
    intro f block s s1
    refine frame_of { host := true, nfc := true } fun h => ?_
    show AllNext _ (execReadBlock f block s)
    unfold execReadBlock
    exact .crown rfl h fun _ hu =>
        .ite (.nak rfl hu) <|
        .ite (.answerBytes rfl hu) <| by
          split
          · exact .answerBytes rfl hu
          · exact .nak rfl hu
  · -- writeBlock
    exact fun f block data reserve s s1 => frame_of { esc := true, host := true, nfc := true } fun h =>
      .crown rfl h
        fun _ hu => .ite (.nak rfl hu) <| .ite (.nak rfl hu) <| .ite (.nak rfl hu) <| .startWrite rfl <| .set1 hu
  · -- readCounter
    intro f k s s1
    refine frame_of { host := true, nfc := true } fun h => ?_
    show AllNext _ (execReadCounter f k s)
    unfold execReadCounter
    exact .crown rfl h fun _ hu =>
        .ite (.nak rfl hu) <| by
          split
          · exact .answerBytes rfl hu
          · exact .nak rfl hu
  · -- incrCounter
    exact fun f k inc reserve s s1 => frame_of { esc := true, host := true, nfc := true } fun h =>
      .crown rfl h
        fun _ hu =>
          .ite (.nak rfl hu) <|
          .ite (.nak rfl hu) <|
          .ite (.nak rfl hu) <| .ite (.raise <| .nak rfl hu) <| .ite (.nak rfl hu) <| .startWrite rfl <| .set1 hu
  · -- pwdAuth
    exact fun f pwd s s1 => frame_of { host := true, nfc := true } fun h =>
      .crown rfl h fun _ hu => .ite (.nak rfl hu) <| .ite (.nak rfl hu) <| .ite (.nak rfl <| .put hu) <| .tagFail rfl hu
  · -- authEnd
    intro f resp s s1
    refine frame_of { host := true, nfc := true } fun h => ?_
    show AllNext _ (execAuthEnd f resp s)
    unfold execAuthEnd
    exact .crown rfl h fun _ hu => by
        split
        · exact .nak rfl hu
        · exact .ite (.nak rfl <| .updNfc rfl <| .put hu) <| .tagFail rfl hu
  · -- tagWriteCommit
    intro failed s s1
    refine frame_of { host := true, nfc := true } fun h => ?_
    show AllNext _ (execTagWriteCommit failed s)
    unfold execTagWriteCommit
    dsimp only
    split
    · exact .next h
    · exact .ite (.next h) <| by
          split
          · exact .ite
                (.next <| .tagOwn rfl <| .tagAbortsLate rfl rfl <| .replyTo rfl <| .when
                   (.keyWritten rfl <| .when
                      (.ite (.showCounter <| .clr <| .updNfc rfl <| .setCell rfl h) <|
                       .clr <| .updNfc rfl <| .setCell rfl h) fun _ hu => .raise hu)
                   fun _ hu => .updNfc rfl <| .set1 <| .ite (.put hu) hu) <|
              .next <| .startWrite rfl <| .when
                (.keyWritten rfl <| .when
                   (.ite (.showCounter <| .clr <| .updNfc rfl <| .setCell rfl h) <|
                    .clr <| .updNfc rfl <| .setCell rfl h) fun _ hu => .raise hu)
                fun _ hu => .updNfc rfl <| .set1 <| .ite (.put hu) hu
          · exact .next <| .tagOwn rfl <| .tagAbortsLate rfl rfl <| .replyTo rfl <| .when
                (.keyWritten rfl <| .when
                   (.ite (.showCounter <| .clr <| .updNfc rfl <| .setCell rfl h) <|
                    .clr <| .updNfc rfl <| .setCell rfl h) fun _ hu => .raise hu)
                fun _ hu => .updNfc rfl <| .set1 <| .ite (.put hu) hu
          · exact .next <| .tagOwn rfl <| .when
                (.keyWritten rfl <| .when
                   (.ite (.showCounter <| .clr <| .updNfc rfl <| .setCell rfl h) <|
                    .clr <| .updNfc rfl <| .setCell rfl h) fun _ hu => .raise hu)
                fun _ hu => .updNfc rfl <| .set1 <| .ite (.put hu) hu
  · -- tagSilenceEnd
    exact fun s s1 => frame_of {} fun h => .ite (.next <| .put h) <| .next h
  · -- tagTxnIdleTimeout
    exact fun s s1 => frame_of { nfc := true } fun h => .ite (.next <| .endTxn rfl h) <| .next h
  · -- tagScrub
    exact fun s s1 => frame_of { nfc := true } fun h =>
      .ite
        (.next <| .updNfc rfl <| .judgeC1 rfl <| .forUpTo (.forEach h fun _ _ hu => .scrubCell rfl hu)
           fun _ _ hu => .showCounter hu) <|
      .next h
  · -- faultMirrorWrite
    intro s s1
    refine frame_of { nfc := true } fun h => ?_
    show AllNext _ (execFaultMirrorWrite s)
    unfold execFaultMirrorWrite
    split
    · exact .ite (.next <| .ownWrites rfl <| .updNfc rfl h) <| .next h
    · exact .next h
  · -- tagHostLockWrite
    exact fun v s s1 => frame_of { nfc := true } fun h => .next <| .setHostLock rfl h
  · -- mainsZeroCrossing
    exact fun p positive o s s1 => frame_of { freeCtr := true, sit := true } fun h =>
      .ite
        (.next <|
           .ite (.putSat <| .put <| .clr <| .countB rfl rfl <| .updSit rfl <| .putBit h) <|
           .clr <| .countB rfl rfl <| .updSit rfl <| .putBit h) <| by
        split
        · exact .next <|
              .ite
                (.beatSend rfl <|
                   .ite (.putSat <| .put <| .clr <| .countB rfl rfl <| .updSit rfl <| .putBit h) <|
                   .clr <| .countB rfl rfl <| .updSit rfl <| .putBit h) <|
              .beatAbort rfl <|
                .ite (.putSat <| .put <| .clr <| .countB rfl rfl <| .updSit rfl <| .putBit h) <|
                .clr <| .countB rfl rfl <| .updSit rfl <| .putBit h
        · exact .next <| .beatListen rfl <|
              .ite (.putSat <| .put <| .clr <| .countB rfl rfl <| .updSit rfl <| .putBit h) <|
              .clr <| .countB rfl rfl <| .updSit rfl <| .putBit h
  · -- zcLost
    exact fun p s s1 => frame_of { sit := true } fun h =>
      .ite
        (.next <|
           .ite (.put <| .set1 <| .raise <| .updSit rfl <| .beatAbort rfl <| .putBit h) <|
           .raise <| .updSit rfl <| .beatAbort rfl <| .putBit h) <|
      .next h
  · -- beatFrameStart
    intro p s s1
    refine frame_of { sit := true } fun h => ?_
    show AllNext _ (execBeatFrameStart p s)
    unfold execBeatFrameStart
    split
    · exact .ite (.next <| .updSit rfl h) <| .next h
    · exact .next h
  · -- beatFrameReceived
    exact fun p s s1 => frame_of { sit := true } fun h =>
      .ite (.next h) <| by
        split
        · exact .next <| .ite (.updSit rfl h) <| .foreign rfl <| .updSit rfl h
        · exact .ite (.next <| .addrClash rfl <| .updSit rfl h) <|
            .ite (.next <| .updSit rfl <| .updSit rfl <| .hearNode rfl <| .updSit rfl h) <| by
              split
              · exact .next <| .updSit rfl <| .updSit rfl <| .hearNode rfl <| .updSit rfl h
              · exact .ite
                    (.next <|
                       .ite (.sendSite rfl <| .updSit rfl <| .updSit rfl <| .hearNode rfl <| .updSit rfl h) <|
                       .ite (.sendSite rfl <| .updSit rfl <| .updSit rfl <| .hearNode rfl <| .updSit rfl h) <|
                       .updSit rfl <| .updSit rfl <| .hearNode rfl <| .updSit rfl h) <|
                  .next <| .deliver rfl <| .updSit rfl <| .updSit rfl <| .hearNode rfl <| .updSit rfl h
  · -- ofdmFrameStart
    exact fun s s1 => frame_of { host := true, sit := true } fun h =>
      .ite (by
          split
          · exact .ite (.next h) <| .ite (.next <| .reroute rfl rfl h) <| .next <| .launch rfl h
          · split
            · exact .next h
            · exact .ite (.next <| .msgSent rfl <| .sendFch rfl <| .updSit rfl <| .updSit rfl h) <| by
                  split
                  · exact .next <| .startFrame rfl <| .updSit rfl h
                  · exact .next <| .startFrame rfl <| .updSit rfl h
                  · exact .next <| .reroute rfl rfl <| .updSit rfl h) <|
      .next h
  · -- ofdmDataFrame
    exact fun fch segs s s1 => frame_of { sit := true } fun h =>
      .ite (.next h) <|
      .ite (.next <| .frameLost <| .foreign rfl h) <|
      .ite (.next h) <|
      .ite (.next <| .addrClash rfl h) <|
      .ite (.next <| .hearNode rfl h) <|
      .ite
        (.next <| .sendAck rfl <| .promote rfl <| .forEach (.incBy <| .incBy <| .hearNode rfl h)
           fun _ _ hu => .segHeard rfl hu) <|
      .ite
        (.next <|
           .ite
             (.takeMessage rfl <| .setRx rfl <| .sendAck rfl <| .promote rfl <| .forEach
                (.incBy <| .incBy <| .hearNode rfl h) fun _ _ hu => .segHeard rfl hu) <|
           .setRx rfl <| .sendAck rfl <| .promote rfl <| .forEach (.incBy <| .incBy <| .hearNode rfl h)
             fun _ _ hu => .segHeard rfl hu) <|
      .next <| .setRx rfl <| .sendAck rfl <| .promote rfl <| .forEach (.incBy <| .incBy <| .hearNode rfl h)
        fun _ _ hu => .segHeard rfl hu
  · -- ofdmAckFrame
    exact fun fch s s1 => frame_of { host := true, sit := true } fun h =>
      .ite (.next h) <|
      .ite (.next <| .frameLost <| .foreign rfl h) <| by
        split
        · exact .ite
              (.ite
                 (.ite
                    (.next <| .msgSent rfl <| .probeDone rfl <| .updSit rfl <| .forEach (.updSit rfl <| .hearNode rfl h)
                       fun _ _ hu => .segResult rfl hu) <|
                  .next <| .queueFrame rfl <| .forEach (.updSit rfl <| .hearNode rfl h) fun _ _ hu => .segResult rfl hu) <|
               .ite
                 (.next <| .reroute rfl rfl <| .forEach (.updSit rfl <| .hearNode rfl h) fun _ _ hu => .segResult rfl hu) <|
               .ite
                 (.next <| .queueFrame rfl <| .forEach (.updSit rfl <| .hearNode rfl h) fun _ _ hu => .segResult rfl hu) <|
               .ite (.next <| .updSit rfl <| .forEach (.updSit rfl <| .hearNode rfl h) fun _ _ hu => .segResult rfl hu) <|
               .next <| .updSit rfl <| .sendFch rfl <| .forEach (.updSit rfl <| .hearNode rfl h)
                 fun _ _ hu => .segResult rfl hu) <|
            .next h
        · exact .next h
  · -- ofdmAckTimeout
    intro s s1
    refine frame_of { host := true, sit := true } fun h => ?_
    show AllNext _ (execOfdmAckTimeout s)
    unfold execOfdmAckTimeout
    split
    · split
      · exact .ite (.next <| .ite (.reroute rfl rfl <| .updSit rfl h) <| .updSit rfl <| .updSit rfl h) <| .next h
      · exact .next h
    · exact .next h
  · -- probeFrame
    exact fun k s s1 => frame_of { sit := true } fun h => .ite (.next <| .sendMsg rfl <| .updLinkRec rfl h) <| .next h
  · -- linkReportSend
    exact fun s s1 => frame_of { sit := true } fun h => .ite (.next <| .sendSite rfl <| .updSit rfl h) <| .next h
  · -- linkExpiry
    intro k s s1
    refine frame_of { sit := true } fun h => ?_
    show AllNext _ (execLinkExpiry k s)
    unfold execLinkExpiry
    split
    · exact .ite (.next <| .showLinks rfl h) <| .next h
    · exact .next h
  · -- partnerReportSend
    exact fun s s1 => frame_of { sit := true } fun h => .ite (.next <| .sendSite rfl <| .updSit rfl h) <| .next h
  · -- announceSend
    exact fun s s1 => frame_of { sit := true } fun h =>
      .ite (.next <| .ite (.sendSite rfl <| .updSit rfl h) <| .sendMsg rfl <| .sendSite rfl <| .updSit rfl h) <| .next h
  · -- siteMessageRetry
    intro s s1
    refine frame_of { host := true, sit := true } fun h => ?_
    show AllNext _ (execSiteMessageRetry s)
    unfold execSiteMessageRetry
    split
    · exact .ite
          (.ite (.next <| .updSit rfl h) <|
           .ite (.next <| .updSit rfl <| .updSit rfl h) <| .next <| .msgFail rfl <| .updSit rfl h) <|
        .next h
    · exact .next h
  · -- noPrivileged
    exact fun s s1 => frame_of { sit := true } fun h => .ite (.next <| .raise <| .updSit rfl h) <| .next h
  · -- report
    intro s s1
    refine frame_of { gov := true, sit := true } fun h => ?_
    show AllNext _ (execReport s)
    unfold execReport
    dsimp only
    exact .next <| .onMsg rfl h fun _ _ hu =>
        .ite hu <| by
          split
          · exact hu
          · exact .judgeCap rfl <| .showPartners <| .updPartner rfl <| .put <|
                .ite (.put <| .put <| .put <| .put <| .put <| .put <| .putSat <| .put hu) <|
                .put <| .put <| .put <| .put <| .put <| .putSat <| .put hu
  · -- share
    exact fun s s1 => frame_of { gov := true, sit := true } fun h =>
      .next <| .onMsg rfl h fun _ _ hu => .ite hu <| .ite (.sendSite rfl <| .updGov rfl hu) <| .updGov rfl hu
  · -- shareAck
    exact fun s s1 => frame_of { gov := true, sit := true } fun h =>
      .next <| .onMsg rfl h fun _ _ hu => by
        split
        · exact hu
        · exact .ite (.showPartners <| .sendRaises rfl rfl <| .updPartner rfl <| .put <| .updSit rfl hu) <|
            .updSit rfl hu
  · -- meterInfo
    exact fun s s1 => frame_of { sit := true } fun h =>
      .next <| .onMsg rfl h
        fun _ _ hu =>
          .ite hu <| .when (.updSit rfl <| .put <| .put <| .put <| .put <| .put <| .put hu) fun _ hu1 => .set1 hu1
  · -- linkReport
    exact fun s s1 => frame_of { sit := true } fun h =>
      .next <| .onMsg rfl h fun _ _ hu => .showLinks rfl <| .updSit rfl hu
  · -- toneMap
    exact fun s s1 => frame_of { sit := true } fun h =>
      .next <| .onMsg rfl h fun _ _ hu => .ite (.showLinks rfl <| .updLinkRec rfl <| .put hu) hu
  · -- announce
    exact fun s s1 => frame_of { sit := true } fun h =>
      .next <| .onMsg rfl h fun _ _ hu => .showLinks rfl <| .hearNode rfl hu
  · -- hostData
    exact fun s s1 => frame_of { sit := true } fun h =>
      .next <| .onMsg rfl h fun _ _ hu => .sendSite rfl <| .set1 <| .put <| .updSit rfl hu
  · -- e2eAck
    exact fun s s1 => frame_of { host := true, sit := true } fun h =>
      .next <| .onMsg rfl h fun _ _ hu => by
        split
        · exact hu
        · split
          · exact .replyTo rfl <| .updSit rfl hu
          · exact .updSit rfl hu
  · -- hostWrite
    exact fun port addr data sck s s1 => frame_of { host := true } fun h => .next <| .hostWrite rfl h
  · -- hostWriteCrc
    exact fun port addr data crc sck s s1 => frame_of { host := true } fun h => .next <| .hostWrite rfl h
  · -- hostProtocolError
    exact fun port addr sck s s1 => frame_of { host := true } fun h => .next <| .protocolError rfl <| .countTxn h
  · -- hostWatchdog
    exact fun s s1 => frame_of {} fun h => .ite (.next <| .raise <| .set1 h) <| .next h
  · -- interimReply
    intro port seq s s1
    refine frame_of { host := true } fun h => ?_
    show AllNext _ (execInterimReply port seq s)
    unfold execInterimReply
    split
    · exact .ite (.next <| .host rfl <| .holdReply rfl h) <| .next h
    · exact .next h
  · -- dbOutSetWrite
    exact fun w s s1 => frame_of {} fun h => .next <| .hostSets h fun _ hu => .ringBells hu
  · -- mainplateRequest
    exact fun m acc due t s s1 => frame_of { lgl := true, mp := true } fun h =>
      .ite (.next <| .showBanks rfl h) <|
      .ite (by
          split
          · exact .next <| .ite (.updMp rfl <| .showBanks rfl h) <| .updMp rfl <| .updMp rfl <| .showBanks rfl h
          · exact .next <| .showBanks rfl h) <|
      .ite (.next <| .laneAccess rfl <| .showBanks rfl h) <|
      .ite (.next <| .ite (.showBanks rfl h) <| .updMp rfl <| .showBanks rfl h) <|
      .next <| .accessFault <| .showBanks rfl h
  · -- backoffEnd
    exact fun m b t s s1 => frame_of { mp := true } fun h => .next <| .updMp rfl <| .showBanks rfl h
  · -- masterCutoff
    intro b t s s1
    refine frame_of { mp := true } fun h => ?_
    show AllNext _ (execMasterCutoff b t s)
    unfold execMasterCutoff
    split
    · exact .ite
          (.next <| .showBanks rfl <| .when (.raiseMp <| .set1 <| .putBit <| .updMp rfl h) fun _ hu => .dmaCut rfl hu) <|
        .next h
    · exact .next h
  · -- arbCutoffClear
    exact fun w s s1 => frame_of {} fun h => .next <| .hostSets h fun _ hu => .clearCutoff hu
  · -- scrubPassEnd
    exact fun found s s1 => frame_of { mp := true } fun h =>
      .next <| .updMp rfl <| .put <| .put <| .forEach h
        fun _ _ hu => .ite (.raiseMp <| .poisonWord rfl hu) <| .eccSingle rfl hu
  · -- scrubLag
    exact fun s s1 => frame_of { mp := true } fun h => .ite (.next <| .raise <| .updMp rfl h) <| .next h
  · -- spareCopyDone
    intro found s s1
    refine frame_of { mp := true } fun h => ?_
    show AllNext _ (execSpareCopyDone found s)
    unfold execSpareCopyDone
    split
    · exact .next <| .put <| .updMp rfl <| .forEach h fun _ _ hu => .raiseMp <| .poisonWord rfl hu
    · exact .next h
  · -- hackSet
    exact fun port banks s s1 => frame_of {} fun h =>
      .next <| .hostSets h fun _ hu => .ite (.writeHack hu) <| .raiseHost <| .inc hu
  · -- hackClear
    exact fun w s s1 => frame_of {} fun h => .next <| .hostSets h fun _ hu => .writeHack hu
  · -- hackTimeout
    intro s s1
    refine frame_of { mp := true } fun h => ?_
    show AllNext _ (execHackTimeout s)
    unfold execHackTimeout
    split
    · exact .ite (.next <| .raiseMp <| .releaseBank rfl h) <| .next h
    · exact .next h
  · -- dmaStart
    exact fun c desc s s1 => frame_of { mp := true } fun h => .next <| .dmaSets h fun _ hu => .dmaBegin rfl hu
  · -- dmaPause
    exact fun c s s1 => frame_of { mp := true } fun h => .next <| .dmaSets h fun _ hu => .dmaPause rfl hu
  · -- dmaResume
    exact fun c s s1 => frame_of { mp := true } fun h => .next <| .dmaSets h fun _ hu => .dmaResume rfl hu
  · -- dmaAbort
    exact fun c s s1 => frame_of { mp := true } fun h => .next <| .dmaSets h fun _ hu => .dmaAbort rfl hu
  · -- dmaDeadline
    exact fun n s s1 => frame_of {} fun h => .ite (.next <| .raiseMp <| .putBit <| .set1 h) <| .next h
  · -- svcChallengeExpiry
    intro port s s1
    refine frame_of { key := true } fun h => ?_
    show AllNext _ (execSvcChallengeExpiry port s)
    unfold execSvcChallengeExpiry
    split
    · exact .ite (.next <| .updKey rfl h) <| .next h
    · exact .next h
  · -- svcLockoutEnd
    exact fun s s1 => frame_of {} fun h => .ite (.next <| .put <| .put <| .clr h) <| .next h
  · -- serviceWorldTimeout
    exact fun port s s1 => frame_of {} fun h => .ite (.next <| .set1 <| .put h) <| .next h
  · -- ephemeralJewelClear
    exact fun n s s1 => frame_of { key := true } fun h => .ite (.next <| .clearEph rfl h) <| .next h
  · -- entropyTestFail
    exact fun s s1 => frame_of { key := true, outs := true } fun h =>
      .next <| .forUpTo (.raise <| .set1 <| .inc <| .clr h) fun _ _ hu => .when hu fun _ hu1 => .tlsStop rfl rfl hu1
  · -- entropyRecovery
    exact fun s s1 => frame_of { key := true } fun h => .ite (.next h) <| .next <| .reseed rfl <| .set1 h
  · -- drbgReseed
    exact fun s s1 => frame_of { key := true } fun h => .ite (.next <| .reseed rfl h) <| .next h
  · -- updateLoadCommit
    intro s s1
    refine frame_of { fwu := true, host := true } fun h => ?_
    show AllNext _ (execUpdateLoadCommit s)
    unfold execUpdateLoadCommit
    split
    · exact .ite (.next <| .loadEnd rfl rfl <| .put <| .loadCommit rfl h) <| .next h
    · exact .next h
  · -- updateRestoreDone
    intro s s1
    refine frame_of { fwu := true } fun h => ?_
    show AllNext _ (execUpdateRestoreDone s)
    unfold execUpdateRestoreDone
    split
    · exact .next <| .raise <| .set1 <| .put <| .clr <| .put <| .put <| .put <| .updUpd rfl h
    · exact .next h
  · -- gpFwDeferredStart
    intro s s1
    refine frame_of { fwu := true, host := true } fun h => ?_
    show AllNext _ (execGpFwDeferredStart s)
    unfold execGpFwDeferredStart
    split
    · exact .ite (.next <| .gpStart rfl rfl h) <| .next h
    · exact .next h
  · -- recFirstPart
    exact fun bad s s1 => frame_of { fwu := true, lgl := true } fun h =>
      .ite
        (.ite (.next <| .recDone rfl <| .updRefused rfl h) <| by
           split
           · exact .next <| .recDone rfl <| .updRefused rfl h
           · exact .ite (.next <| .recDone rfl <| .updRefused rfl h) <| .next <| .recSegs rfl <| .loadStart h) <|
      .next h
  · -- recFurtherPart
    exact fun bad s s1 => frame_of { fwu := true } fun h =>
      .ite (by
          split
          · exact .next <| .recSegs rfl h
          · exact .next <| .recDone rfl h) <|
      .next h
  · -- recCheckDirectory
    exact fun s s1 => frame_of { fwu := true } fun h => .ite (.next <| .putB <| .recDone rfl h) <| .next h
  · -- warningWithdrawn
    exact fun s s1 => frame_of { red := true } fun h =>
      .ite (.next h) <| .next <| .when (.updSupply <| .set1 <| .raiseTo <| .clr h) fun _ hu => .updRed rfl hu
  · -- vsysToHold
    exact fun s s1 => frame_of { pwr := true } fun h => .ite (.next h) <| .next <| .updPwr rfl <| .set1 h
  · -- cpSupplyOut
    exact fun neg s s1 => frame_of { lch := true, outs := true } fun h =>
      .ite
        (.next <| .forUpTo (.raise <| .set1 <| .putBit h)
           fun _ _ hu => .refreshPilot rfl <| .updPilot rfl <| .stopOutlet rfl rfl hu) <|
      .next <| .forUpTo (.raise <| .set1 <| .putBit h) fun _ _ hu => .forceDrive rfl hu
  · -- holdLow
    exact fun s s1 => frame_of {} fun h => .next <| .raise <| .set1 <| .putBit h
  · -- vbatLow
    exact fun s s1 => frame_of {} fun h => .next <| .raise <| .set1 <| .putBit h
  · -- refClockMeasure
    exact fun ppm s s1 => frame_of {} fun h => .next <| .when (.puti h) fun _ hu => .raise <| .set1 hu
  · -- chronoXtalStop
    exact fun s s1 => frame_of {} fun h => .ite (.next h) <| .next <| .raise <| .put <| .set1 <| .set1 <| .clockLost h
  · -- chronoXtalRestore
    exact fun s s1 => frame_of {} fun h => .ite (.next <| .set1 <| .clr <| .putBit h) <| .next h
  · -- keyPublic
    exact fun mb s s1 => frame_of { esc := true, host := true } fun h =>
      .next <| .command rfl rfl h fun _ _ hu =>
        .ite (.reply rfl hu) <| by
          split
          · exact .reply rfl hu
          · exact .reply rfl hu
  · -- remontoireOn
    exact fun s s1 => frame_of { pwr := true } fun h => .ite (.next h) <| .next <| .updPwr rfl <| .set1 h
  · -- remontoireOff
    exact fun s s1 => frame_of {} fun h => .next <| .clr <| .clr h
  · -- railBackInRange
    exact fun rail s s1 => frame_of { outs := true } fun h =>
      .ite (.next <| .clr <| .putBit h) <|
      .ite
        (.ite
           (.ite (.next <| .forUpTo (.putBit h) fun _ _ hu => .refreshPilot rfl <| .updPilot rfl hu) <|
            .next <| .putBit h) <|
         .next <| .forUpTo (.putBit h) fun _ _ hu => .forceDrive rfl hu) <|
      .next <| .putBit h
  · -- periphClockReturn
    exact fun d s s1 => frame_of {} fun h => .next <| .when (.periphLock <| .putBit h) fun _ hu => .put hu
  · -- preambleLost
    exact fun s s1 => frame_of {} fun h => .next <| .ite (.frameLost h) h
  · -- sextantStart
    exact fun j energy s s1 => frame_of { freeCtr := true, sit := true } fun h =>
      .next <|
        .ite (.updSit rfl <| .draw rfl <| .when (.updSit rfl h) fun _ hu => .put hu) <|
        .when (.updSit rfl h) fun _ hu => .put hu

end Sys2Proof.Machine
end
